-- ==== Sys2Proof/Word.lean ====
section
/-! DEFINITION. The words the node's registers and memories are made of, and the type of a sparse table. -/

namespace Sys2Proof

/-- A byte, the smallest addressable unit of a drawer. -/
abbrev Byte := BitVec 8

/-- A 64-bit word: a register, a counter value, a scalar register of a sieve context. -/
abbrev W64 := BitVec 64

/-- A 32-bit word. -/
abbrev W32 := BitVec 32

/-- A sparse table: its keys rise strictly and no entry holds the value that an unlisted key has
(Machine/Maps.lean reads and writes it). -/
abbrev FMap (α : Type) := List (Nat × α)

end Sys2Proof
end

