-- ==== Sys2Proof/Machine/Units.lean ====
section
/-! DEFINITION. The units the node is made of, as data: statuses, joinery records, stored-line conditions,
queues, sieve contexts, lexicon streams, hold sets and snapshots. State.lean puts them together;
Syntax.lean names some of them as operands of commands. -/

namespace Sys2Proof

/-- The statuses of Table 20–10 (R688). -/
inductive Status where
  | ok | poisoned | denied | range | linkLost | timeout | saturated | waitRefused | format | rejected
  | held | aborted | shape | notReady | quantumOverrun | debugActiveBench
deriving DecidableEq, Repr, Inhabited

/-- The numeric code of a status (R688). -/
def Status.code : Status → Nat
  | .ok => 0x00 | .poisoned => 0x01 | .denied => 0x02 | .range => 0x03 | .linkLost => 0x04
  | .timeout => 0x05 | .saturated => 0x06 | .waitRefused => 0x07 | .format => 0x08 | .rejected => 0x09
  | .held => 0x0A | .aborted => 0x0B | .shape => 0x0C | .notReady => 0x0D | .quantumOverrun => 0x0E
  | .debugActiveBench => 0x10

/-- The three benches (R294). -/
inductive BenchId where
  | A | B | C
deriving DecidableEq, Repr, Inhabited

/-- The number of a bench in register and event fields: 0–2 for A–C. -/
def BenchId.num : BenchId → Nat
  | .A => 0 | .B => 1 | .C => 2

/-- The interfaces whose register reads have the effects of Table 0–2; each has its own RS snapshots (R102). -/
inductive Interface where
  | host | mgmt
deriving DecidableEq, Repr

/-- What the line code finds when a line is read (R332): nothing, an error confined to one symbol,
or an error it cannot correct. The numbers are the symbols, 0–36. -/
inductive Cond where
  | clean
  | correctable (sym : Nat)
  | uncorrectable (sym1 sym2 : Nat)
deriving DecidableEq, Repr, Inhabited

/-- A damaged line, by its place: what its next read finds and what the re-read of Table 10–2 finds.
`line` counts the stack's lines: physical block × 1,024 + line in the block (R713). (DESIGN CHOICE, log 1 and 10.) -/
structure Damage where
  stack : Nat
  line  : Nat
  first : Cond
  again : Cond
deriving DecidableEq, Repr

/-- A run of a drawer's blocks on a stack: one entry of the drawer translation table. -/
structure Extent where
  drawer : Nat
  copy   : Nat
  first  : Nat
  count  : Nat
  stack  : Nat
  phys   : Nat
deriving DecidableEq, Repr

/-! ## Joinery records (Tables 5–3 to 5–7) -/

/-- SLICE (Table 5–3). -/
structure SliceRec where
  slice : Nat
  mask  : BitVec 8
deriving DecidableEq, Repr

/-- PORT_GROUP (Table 5–4). -/
structure GroupRec where
  group     : Nat
  enable    : Bool
  fallback  : Bool
  half      : Bool
  minWidth  : Nat
  portMask  : BitVec 32
  endpoint  : Nat
  threshold : Nat
  grace     : Nat
deriving DecidableEq, Repr

/-- TENANT (Table 5–5). -/
structure TenantRec where
  id           : Nat
  trackerQuota : Nat
  waitQuota    : Nat
  streamBase   : Nat
  streamCount  : Nat
  reserve      : Nat
  grammarSlots : Nat
  contexts     : Nat
  dictSlots    : Nat
deriving DecidableEq, Repr

/-- An access entry of a drawer: a certificate hash and whether it grants write as well as read (R30). -/
structure AccessEntry where
  cert  : List Byte
  write : Bool
deriving DecidableEq, Repr

/-- DRAWER (Table 5–6). Sizes and the BAR2 offset are in 64 KiB blocks. -/
structure DrawerRec where
  id          : Nat
  tenant      : Nat
  isSealed    : Bool
  mirrored    : Bool
  pinned      : Bool
  hostVisible : Bool
  stackMask   : BitVec 16
  size        : Nat
  bar2        : Nat
  entries     : List AccessEntry
deriving DecidableEq, Repr

/-- QUEUE_RANGE (Table 5–7). Class 0 copy, 1 sieve, 2 lexicon, 3 hold. -/
structure QueueRange where
  base     : Nat
  count    : Nat
  tenant   : Nat
  cls      : Nat
  ring     : Nat
  depth    : Nat
  ringBase : Nat
deriving DecidableEq, Repr

/-- COUNTER_RANGE (Table 5–7). -/
structure CounterRange where
  base   : Nat
  count  : Nat
  tenant : Nat
deriving DecidableEq, Repr

/-- ENGINE_SHARE (Table 5–7). -/
structure ShareRec where
  tenant  : Nat
  cls     : Nat
  weight  : Nat
  quantum : Nat
deriving DecidableEq, Repr

/-- BENCH (Table 5–7). -/
structure BenchRec where
  spare : Nat
  excl  : BitVec 8
deriving DecidableEq, Repr

/-- LOOPS (Table 5–7). -/
structure LoopsRec where
  volts       : List Byte
  eqFreeze    : BitVec 32
  thFreeze    : BitVec 32
  dramFreeze  : BitVec 16
  placeFreeze : Bool
  share       : Nat
deriving DecidableEq, Repr

/-- A joinery: every record of an accepted image, and its header's sequence number and digest. -/
structure Joinery where
  seq      : Nat
  isDelta  : Bool
  digest   : List Byte
  slices   : List SliceRec
  groups   : List GroupRec
  tenants  : List TenantRec
  drawers  : List DrawerRec
  queues   : List QueueRange
  counters : List CounterRange
  shares   : List ShareRec
  bench    : BenchRec
  lap      : Nat
  sweep    : Nat
  timeout  : Nat
  loops    : LoopsRec
  cas      : List (List Byte)
deriving DecidableEq, Repr

/-! ## Certificates -/

/-- What a certificate says that the node's rules name (R164, R192, R581): whether it is a CA certificate by its basic
constraints, and its public key as an uncompressed SEC1 point, where that is an ECDSA P-384 key. -/
structure CertInfo where
  isCa : Bool
  p384 : Option (List Byte)
deriving DecidableEq, Repr

/-- What the bytes of a signed attestation report spell (R614, Table 17–6): the bytes that its signature is over, the
signature, and its nonce, lifecycle and debug state. -/
structure ReportFacts where
  signed    : List Byte
  sig       : List Byte
  nonce     : List Byte
  lifecycle : List Byte
  debug     : List Byte
deriving DecidableEq, Repr

/-- What the bytes of a lifecycle or debug token spell (R619): the bytes that its signature is over, the signature, and its
payload. -/
structure TokenFacts where
  signed    : List Byte
  sig       : List Byte
  action    : Nat
  serial    : List Byte
  challenge : List Byte
deriving DecidableEq, Repr

/-! ## Links -/

/-- The keys that one side of a link session holds (R191): its transmit key and salt, its receive key and salt, and the confirmation
key. -/
structure LinkKeys where
  txKey   : List Byte
  txSalt  : List Byte
  rxKey   : List Byte
  rxSalt  : List Byte
  confirm : List Byte
deriving DecidableEq, Repr

/-- A message in a receive buffer (R224, R216): its virtual channel, whether TRAIN flits carried it, its bytes in whole slots,
and the count of received flit positions at its last slot. -/
structure RxMsg where
  vc    : Nat
  train : Bool
  bytes : List Byte
  pos   : Nat
deriving DecidableEq, Repr

/-- A message that is arriving: its virtual channel, the slots still to come, and the bytes so far. -/
structure Partial where
  vc    : Nat
  left  : Nat
  bytes : List Byte
deriving DecidableEq, Repr

/-- The key agreement of a training attempt (R189 to R191): the node's nonce and ephemeral public key, the peer's KA_HELLO and
KA_CERT as received, and whether each side's KA_FINISH has been sent and verified. -/
structure Agreement where
  nonce      : List Byte
  eph        : List Byte
  peerHello  : Option (List Byte) := none
  peerCert   : Option (List Byte) := none
  finishSent : Bool := false
  finished   : Bool := false
deriving DecidableEq, Repr

/-! ## Sync counters -/

/-- A sync counter (R376). -/
structure Counter where
  value : W64 := 0
  sat   : Bool := false
deriving DecidableEq, Repr

/-- A notify target (Table 11–5). -/
inductive Target where
  | endpoint (ep : Nat) (cookie : W32) (address : W64)
  | doorbell (queue : Nat) (tail : W32)
deriving DecidableEq, Repr

/-- The source that registered a wait (R386). -/
inductive WaitOwner where
  | port (p : Nat)
  | queue (q : Nat)
  | context (key : Nat)
  | host
deriving DecidableEq, Repr

/-- How far a wait has come: registered, released with its notification pending before its gate, or
passed its gate in the DATA flits up to an extended sequence number of a port (R391, R392). -/
inductive WaitPhase where
  | waiting
  | pending (status : Status)
  | passed (status : Status) (port : Nat) (flit : Nat)
deriving DecidableEq, Repr

/-- A wait record (R384). Records are numbered in order of registration. `fixed` is the counter's value at a delta's
apply point, where its counter changed tenant there with the notification pending (Table 5–10). -/
structure Wait where
  id        : Nat
  counter   : Nat
  threshold : W64
  owner     : WaitOwner
  target    : Option Target
  tenant    : Nat
  phase     : WaitPhase
  fixed     : Option Counter := none
deriving DecidableEq, Repr

/-! ## Engine queues -/

/-- Where a command in execution stands: dispatched and not yet run, running with work left, paused at a
resume point, waiting for outbound requests, or ended with its status and waiting for its completion. -/
inductive RunPhase where
  | dispatched | running | paused | waiting | ended
deriving DecidableEq, Repr, Inhabited

/-- A command in execution (R402, R413): its index, its slots as read at dispatch, and what it has done. `stop`
is the status with which its next resume point ends it, `failed` the first lost outbound WRITE's status, `acked` the
offset and length of outbound WRITEs that completed OK, `acc` what a digest has taken in, `started` when it began, `refused` whether a
dispatch check failed it, `gens` the drawers whose generation has advanced since, with the one that it was checked under (R604). -/
structure RunCmd where
  index      : W32
  bytes      : List Byte
  slots      : Nat
  engine     : Nat
  phase      : RunPhase := .dispatched
  status     : Status := .ok
  progress   : W64 := 0
  result     : W64 := 0
  preempted  : Bool := false
  preemptReq : Bool := false
  pauseReq   : Bool := false
  stop       : Option Status := none
  sent       : Nat := 0
  acked      : List (Nat × Nat) := []
  failed     : Option Status := none
  acc        : List Byte := []
  started    : Nat := 0
  refused    : Bool := false
  gens       : List (Nat × W32) := []
deriving DecidableEq, Repr

/-- A queue descriptor (Table 12–1), with the indexes of completed slots above the head (R412). -/
structure Queue where
  tail     : W32 := 0
  head     : W32 := 0
  dispatch : W32 := 0
  running  : List RunCmd := []
  finished : List W32 := []
deriving DecidableEq, Repr

/-! ## Sieve contexts -/

/-- A tile shape (Table 13–3). -/
structure TileShape where
  fmt   : Nat
  mx    : Bool
  rows  : Nat
  elems : Nat
deriving DecidableEq, Repr

/-- A CONFIGURED tile register. -/
structure Tile where
  shape : TileShape
  data  : List Byte
deriving DecidableEq, Repr

/-- A written accumulator: its type, the Q × K shape of the span it was written with, and its 1,024
entries (R457). -/
structure Accum where
  fp   : Bool
  q    : Nat
  k    : Nat
  data : List W32
deriving DecidableEq, Repr

/-- One entry of a top-k list: a score and a key ID. -/
structure Entry where
  score : W32
  key   : W32
deriving DecidableEq, Repr

/-- A top-k list with its shape; row q holds the entries of query q in order (R465, R466). -/
structure TopK where
  q    : Nat
  k    : Nat
  fp   : Bool
  rows : List (List Entry)
deriving DecidableEq, Repr

/-- What the sequencer keeps of a long instruction, or an SWAIT, under way (R495, R497, R459): the address it stands
at, the items it has committed, its operand tiles and accumulators, whether a handler has reconfigured or released one,
the shape it gave the top-k list, and the wait record of an SWAIT. (DEDUCED, log 58.) -/
structure LongOp where
  pc     : BitVec 16
  done   : Nat := 0
  tiles  : List Nat := []
  accs   : List Nat := []
  broken : Bool := false
  shapeK : Option (Nat × Nat) := none
  wait   : Option Nat := none
deriving DecidableEq, Repr

/-- Whether a context runs a program, is blocked in SWAIT, or is paused or halted out of its engine. -/
inductive CtxPhase where
  | idle | ready | running | blocked | paused
deriving DecidableEq, Repr, Inhabited

/-- A sieve context (R440, R485, R477, R520). `key` numbers contexts as engine × 8 + context. -/
structure Ctx where
  tenant    : Nat := 0
  phase     : CtxPhase := .idle
  start     : Option (Nat × W32) := none
  pc        : BitVec 16 := 0
  regs      : FMap W64 := []
  ie        : Bool := true
  xe        : Bool := false
  te        : Bool := false
  tm        : Bool := false
  depth     : Nat := 0
  win       : Nat := 0
  tra       : W64 := 0
  tstat     : W64 := 0
  tcause    : Nat := 0
  tinfo     : W64 := 0
  trapEntry : W64 := 0
  tsp       : W64 := 0
  ttimer    : W64 := 0
  timerPend : Bool := false
  xmovPend  : Bool := false
  xmovInfo  : W64 := 0
  syncstat  : W64 := 0
  accSat    : Bool := false
  nancnt    : W64 := 0
  poiscnt   : W64 := 0
  poisoff   : W64 := 0xFFFFFFFFFFFFFFFF
  retired   : Nat := 0
  wraps     : Nat := 0
  counted   : Nat := 0
  long      : Option LongOp := none
  saved     : List (Option LongOp) := []
  region    : FMap Byte := []
  scratch   : FMap Byte := []
  tiles     : FMap (Option Tile) := []
  accs      : FMap (Option Accum) := []
  topk      : Option TopK := none
  resident  : Option (Nat × Nat) := none
  pauseReq  : Bool := false
  stopReq   : Option Status := none
  preemptReq : Bool := false
  overrun   : Bool := false
  haltReq   : Bool := false
  halted    : Bool := false
  stepReq   : Bool := false
deriving DecidableEq, Repr

/-! ## Lexicon -/

/-- A channel of an open stream (Table 15–1): its mode, its window and its held bytes. -/
structure Channel where
  whole    : Bool
  n        : Nat
  window   : W64
  held     : List Byte
  subst    : Nat
  wpos     : Nat
  finalPos : Nat
deriving DecidableEq, Repr

/-- The stored response of the last stream-changing fabric command (R560). -/
structure StoredResp where
  status : Status
  word   : W64
  data   : List Byte
deriving DecidableEq, Repr

/-- A stream context (Table 15–1). -/
structure Stream where
  isOpen : Bool := false
  dict   : Nat := 0
  carry  : List Byte := []
  gram   : Option (Nat × Nat) := none
  chans  : List Channel := []
  seq    : BitVec 16 := 0
  stored : Option StoredResp := none
deriving DecidableEq, Repr

/-- A loaded dictionary or grammar image: the drawer range it is read from (R525) and the SHA-384 taken
at load (R577). -/
structure LexImage where
  drawer : Nat
  offset : Nat
  length : Nat
  digest : List Byte
deriving DecidableEq, Repr

/-! ## Hold sets and snapshots -/

/-- A hold set: the elements a descriptor names (Table 16–1). -/
structure HoldSet where
  drawers  : List Nat
  counters : List (Nat × Nat)
  queues   : List Nat
  streams  : List Nat
  contexts : List Nat
deriving DecidableEq, Repr

/-- The captured image of a drawer: its bytes by drawer offset, its poisoned lines, the blocks that it still
shares with the live drawer (R574), and those that a lost stack took (R576). -/
structure DrawerImage where
  id       : Nat
  size     : Nat
  isSealed : Bool
  digest   : List Byte
  bytes    : FMap Byte
  poison   : List Nat
  shared   : List Nat
  lost     : List Nat
deriving DecidableEq, Repr

/-- A snapshot (R569 step 4). `report` is where its hold report lies; `busy` while it is exported or transferred. -/
structure Snapshot where
  id       : Nat
  tenant   : Nat
  set      : HoldSet
  drawers  : List DrawerImage
  counters : List (Nat × Counter)
  waits    : List Wait
  queues   : List (Nat × Nat × Nat × Queue)
  streams  : List (Nat × Stream × List Byte)
  contexts : List (Nat × Ctx)
  digest   : List Byte
  report   : Option (Nat × Nat)
  holdQ    : Nat
  busy     : Bool
deriving DecidableEq, Repr

end Sys2Proof
end

