-- ==== Sys2Proof/Syntax.lean ====
section
/-! DEFINITION. The commands the block takes, one constructor of Instr per row of spec/opcode_table.json, with
their operands. An operand also carries what the command's surroundings decide and the spec leaves to
them: what a sensor reports, what a line's cells hold when they are read, whether a signature verifies. -/

namespace Sys2Proof

/-- A unit that self-test can find failed (Table 4–4, Table 19–5). -/
inductive TestUnit where
  | bench (b : BenchId)
  | holdEngine (n : Fin 2)
  | counterStore
  | sieve (n : Fin 64)
  | lexicon (n : Fin 16)
  | copy (n : Fin 32)
  | port (n : Fin 32)
  | comparator (n : Fin 179)
deriving DecidableEq, Repr

/-- A place with a temperature limit (R64, R65): a domain's junction or a stack's DRAM. -/
inductive ThermalUnit where
  | domain (d : Fin 24)
  | stack (n : Fin 16)
deriving DecidableEq, Repr

/-- What the pace loop finds at one domain in a 20 µs period (R81, Table 3–2). `lowest` is the lowest
6.25 mV step above 680 mV at which the occupancy shows no backlog. -/
structure DomainReport where
  dom       : Fin 24
  backlog   : Bool
  lowest    : Nat
  hc        : Nat
  junction  : BitVec 16
  dram      : BitVec 16
  occupancy : Nat
deriving DecidableEq, Repr

/-- What the placement loop measures of one stack (R91). -/
structure StackReport where
  stack     : Fin 16
  demand    : Nat
  overFor1s : Bool
  corrected : Nat
deriving DecidableEq, Repr

/-- A host write to a register: its size in bytes and the value written. -/
structure HostWrite where
  size  : Nat
  value : W64
deriving DecidableEq, Repr

/-- A message of a Bureau session (R637): the session, and the bytes of one CBOR item, or of what is none. -/
structure BureauMsg where
  session : Nat
  raw     : List Byte
deriving DecidableEq, Repr

/-- A received flit: its 256 bytes, and which of the codewords that it overlaps, counted from the first, the FEC found
uncorrectable (R179, R221). (DESIGN CHOICE, log 1 and 107; DEDUCED, log 39.) -/
structure Flit where
  raw  : List Byte
  lost : List Nat
deriving DecidableEq, Repr

/-- A fabric request (Table 8–1) as it reaches the bench request decoder: where it arrived, its header
fields, its operand slots and data, whether a reserved bit or byte is not zero, its length in slots,
and the damage that the lines it touches have come to hold. -/
structure Req where
  port    : Fin 32
  vc      : Fin 4
  dst     : BitVec 14
  src     : BitVec 14
  ordered : Bool
  tag     : BitVec 12
  drawer  : BitVec 16
  length  : BitVec 13
  offset  : BitVec 40
  opslots : BitVec 4
  word    : W64
  ops     : List Byte
  data    : List Byte
  resv    : Bool
  slots   : Nat
  found   : List Damage
deriving DecidableEq, Repr

/-- What the checks of a retention exit found besides the units (R129, R130): the seal processor's ROM, and the digest of the
saved state. -/
structure ExitChecks where
  romOk    : Bool
  digestOk : Bool
deriving DecidableEq, Repr

/-- An output of a bench (R304). -/
structure BenchOut where
  bench   : BenchId
  claim   : W32
  input   : Nat
  index   : Nat
  content : Nat
deriving DecidableEq, Repr

/-- Where an injection aims (R374). -/
inductive InjectTarget where
  | physical (stack line : Nat)
  | pool (drawer offset : Nat)
deriving DecidableEq, Repr

/-- What a client presents in a TLS handshake (R627): nothing, or a certificate, as DER bytes. -/
inductive TlsClient where
  | noCertificate
  | certificate (der : List Byte)
deriving DecidableEq, Repr

/-- A request that the host port does not serve (R664). -/
inductive HostRequestKind where
  | io | atomicOp | message | outsideBars
deriving DecidableEq, Repr

/-- A sieve context: engine and context number (R441). -/
structure CtxId where
  engine : Fin 64
  ctx    : Fin 8
deriving DecidableEq, Repr

/-- The key of a context in the state's table. -/
def CtxId.key (c : CtxId) : Nat := c.engine.val * 8 + c.ctx.val

/-- The commands: one for each row of spec/opcode_table.json, those that can be inputs of the benches first.
(DESIGN CHOICE, log 1.) -/
inductive Instr where
  /-- VIN_APPLIED (R106): VIN rises through 39.0 V and the start-up sequence of Table 4–2 begins from step 1. -/
  | vinApplied (mv : Nat)
  /-- VIN_HIGH_EXCURSION (R57): VIN enters the band from 60 V to 62 V; the node keeps operating and raises INPUT_HIGH once. -/
  | vinHighExcursion (mv : Nat)
  /-- RESET_N_ASSERT (R133): RESET_N is recognised as asserted; within 1 ms every converter except the wake island stops and the node enters OFF. -/
  | resetNAssert
  /-- RESET_N_RELEASE (R133): RESET_N is released while VIN is in range and the start-up sequence runs from step 1. -/
  | resetNRelease
  /-- POWER_WARN_N_ASSERT (R136): POWER_WARN_N is recognised as asserted; the node raises POWER_WARN and changes no other behaviour. -/
  | powerWarnNAssert
  /-- PRESENCE_N_RECOGNISED (R632): PRESENCE_N has been held low for 2.0 s, which opens a 300 s window in which an unenrolled client takes the enroller role. -/
  | presenceNRecognised
  /-- PRESENCE_WINDOW_EXPIRY (R632): 300 s pass after PRESENCE_N was recognised, and the enroller role is no longer granted on its account. -/
  | presenceWindowExpiry
  /-- SEAL_BOOT_DONE (R106): The seal processor finishes its ROM, fuse and digest checks and releases Avyanath, so the node leaves SEAL_BOOT for SELF_TEST or FAILED. -/
  | sealBootDone (romAndFusesOk avyanathOk : Bool)
  /-- SELF_TEST_DONE (R115): Self-test of the benches, gates, engines and ports ends, the failures are applied as Table 4–4 states, and the node enters MEMORY_TRAIN or FAILED. -/
  | selfTestDone (failed : List TestUnit)
  /-- MEMORY_TRAIN_DONE (R107): Stack training and line initialisation end, stacks that failed to train are lost, and the node enters AWAIT_JOINERY or FAILED. -/
  | memoryTrainDone (failed : List (Fin 16))
  /-- START_UP_BOUND_EXPIRY (R105): A start-up state overruns its bound in Table 4–2 and the node enters FAILED with BOOT_TIMEOUT. -/
  | startUpBoundExpiry
  /-- NODE_RESET_RESTART (R134): 10 ms after a NODE_RESET has taken the node to OFF, the start-up sequence runs from step 1 with no external action. -/
  | nodeResetRestart
  /-- THERMAL_LIMIT_REACHED (R83): A junction or DRAM temperature reaches its limit; the pace loop lowers voltage toward the floor and then limits issue, and THERMAL_LIMIT is raised. -/
  | thermalLimitReached (unit : ThermalUnit) (temp : Nat)
  /-- THERMAL_TRIP_TIMER (R66): A junction has been at 112 °C or a stack at 100 °C for 10 ms; THERMAL_TRIP is raised, the node enters FAILED and every converter except the wake island stops. -/
  | thermalTripTimer (unit : ThermalUnit) (temp : Nat)
  /-- THERMAL_EXCURSION_END (R84): A domain has run at its demanded level for 1 s, which ends its thermal excursion. -/
  | thermalExcursionEnd (d : Fin 24)
  /-- PACE_PERIOD (R81): Each 20 µs period, the pace loop sets each domain to the lowest voltage at which its occupancy shows no backlog. -/
  | pacePeriod (reports : List DomainReport)
  /-- PACE_CEILING_TIMER (R86): A domain has held the ceiling with backlog for more than 60 s continuously, so the PACE_CEILING trigger sets and the node becomes SPALLED. -/
  | paceCeilingTimer (d : Fin 24)
  /-- PACE_CEILING_CLEAR_TIMER (R653): Every domain that set PACE_CEILING has run 60 s without holding the ceiling with backlog, and the trigger clears. -/
  | paceCeilingClearTimer
  /-- DRAM_CALIBRATION (R89): Every 100 ms, a DRAM threshold loop calibrates its channel inside refresh windows. -/
  | dramCalibration (st : Fin 16) (chan : Fin 32) (correction : BitVec 8)
  /-- PLACEMENT_EVALUATION (R91): The placement loop finds a stack over its bandwidth or corrected-line limit and starts a block move into headroom. -/
  | placementEvaluation (reports : List StackReport) (drawer block copy : Nat) (dest : Fin 16) (phys : Nat)
  /-- BLOCK_MOVE_DONE (R37): A placement block move ends and the drawer translation table points to the new block. -/
  | blockMoveDone (drawer block copy : Nat)
  /-- RETAIN_CMD (R120): A host write to RETAIN_CMD submits the retention command with a wake timer and the RETAIN_PORTS mask. -/
  | retainCmd (w : HostWrite)
  /-- RETENTION (R120): The Bureau RETENTION message asks the node to enter RETENTION with a wake timer and a wake-port mask. -/
  | retention (m : BureauMsg) (timer mask : Nat)
  /-- RETENTION_ENTRY_DONE (R122): Draining, planned link-downs and the state save end; the stacks enter self-refresh and the node enters RETENTION. -/
  | retentionEntryDone
  /-- WAKE_LIGHT (R126): The light detector of a wake-enabled port asserts in RETENTION and that port's receiver is powered alone to look for a training pattern. -/
  | wakeLight (p : Fin 32)
  /-- AMBIENT_CHECK_EXPIRY (R126): 2 ms after a light wake with no training pattern and unmodulated light, the node logs AMBIENT_FLOOD, disables that detector and stays in RETENTION; otherwise the exit goes on. -/
  | ambientCheckExpiry (p : Fin 32) (pattern unmodulated : Bool)
  /-- WAKE_TIMER_EXPIRY (R125): The retention wake timer expires and the retention exit begins. -/
  | wakeTimerExpiry
  /-- WAKE_HOST (R125): PERST_N on J1 is deasserted after it was asserted in RETENTION, and the retention exit begins. -/
  | wakeHost
  /-- RETENTION_EXIT_DONE (R129): The converters, self-test and the digest-checked state restore end, and the node enters READY or FAILED with RETAIN_RESTORE_FAIL. -/
  | retentionExitDone (checks : ExitChecks) (failed : List TestUnit)
  /-- JNY_CTRL (R675): A host write of the image length to JNY_CTRL submits the image held in Staging for checking. -/
  | jnyCtrl (w : HostWrite)
  /-- JOINERY_LOAD (R150): A Bureau JOINERY_LOAD message carries a joinery image to be checked and applied. -/
  | joineryLoad (m : BureauMsg) (image : List Byte)
  /-- IMAGE_CHECK_DONE (R147): Checking of an image ends; it is rejected with the first failing code, or accepted as a full or delta apply. -/
  | imageCheckDone (plan : List Extent)
  /-- APPLY_POINT (R36): The apply point is reached at a single point in bench input order, and the new configuration takes effect for every later input. -/
  | applyPoint
  /-- FULL_APPLY_DONE (R168): The new tables of a full apply are in force, the node enters READY, and the enabled ports begin training. -/
  | fullApplyDone
  /-- CONFIG_REQUEST (R110): A PCIe configuration request arrives and is served, or answered with Request Retry Status before MEMORY_TRAIN. -/
  | configRequest
  /-- TRAINING_STEP_DONE (R185): A step of port training completes and the port moves on to the next step; at step 7 the port is up and LINK_UP is raised. -/
  | trainingStepDone (p : Fin 32) (receives : BitVec 8) (words : List (Fin 8 × List Byte))
  /-- TRAIN_FAIL_TIMER (R187): An enabled port is still not up 200 ms after its first attempt; TRAIN_FAIL is raised once for that enable. -/
  | trainFailTimer (p : Fin 32)
  /-- SYNTH_LOCK_TIMEOUT (R196): The synthesiser has not locked 500 µs after a lock attempt began; SYNTH_LOCK_FAIL is raised and an up port goes down. -/
  | synthLockTimeout (p : Fin 32)
  /-- FLOOD_ASSERT (R202): FLOOD asserts; an up port goes down at once, its loops freeze and hold and grace begin. -/
  | floodAssert (p : Fin 32)
  /-- LANE_ALARM_ASSERT (R718): A laser or receiver self-check alarm becomes active on a lane; an active lane is counted as failed and the port goes down with LOSS_OF_SIGNAL. -/
  | laneAlarmAssert (p : Fin 32) (lane : Fin 8)
  /-- LANE_ALARM_CLEAR (R206): A lane's self-check alarm clears and the port no longer counts as down for hardware reasons on its account. -/
  | laneAlarmClear (p : Fin 32) (lane : Fin 8)
  /-- LOSS_OF_SIGNAL (R243): Signal or lane markers are lost on an active lane and the link goes down with hold and grace. -/
  | lossOfSignal (p : Fin 32)
  /-- RESUME_RETRAIN_DONE (R188): A resume retrain within grace completes; each side sends a NAK, replays, and the port is UP with LINK_RESUMED. -/
  | resumeRetrainDone (p : Fin 32)
  /-- GRACE_EXPIRY (R244): Grace expires with no NAK from the peer, so the port flushes and then performs a full link reset. -/
  | graceExpiry (p : Fin 32)
  /-- QUIESCE_BOUND_EXPIRY (R252): A QUIESCE is not done within its bound, so the port flushes, resets and raises LINK_DOWN PLANNED and LINK_FLUSHED. -/
  | quiesceBoundExpiry (p : Fin 32)
  /-- DOZE_SEARCH_EXPIRY (R210): The partner is not found by D + 4 × G; DOZE_SEARCH_FAIL is raised and the port takes the down path with hold and grace. -/
  | dozeSearchExpiry (p : Fin 32)
  /-- DOZE_AMBIENT_EXPIRY (R211): No training word arrives within 2 ms of a doze light wake and the light is unmodulated, so AMBIENT_FLOOD is raised and the port stays in dark doze until D. -/
  | dozeAmbientExpiry (p : Fin 32) (trainingWord unmodulated : Bool)
  /-- TRAIN_FLIT (R215): A TRAIN flit carrying key-agreement slots is received during training. -/
  | trainFlit (p : Fin 32) (f : Flit)
  /-- REPLAY_TIMER_EXPIRY (R237): The replay timer reaches 20 µs, so a replay run starts from oldest and a replay timeout is counted. -/
  | replayTimerExpiry (p : Fin 32)
  /-- LINK_DOWN_PLANNED (R253): LINK_DOWN_PLANNED is received; the remaining requests are flushed and full training begins at once. -/
  | linkDownPlanned (p : Fin 32) (reason : BitVec 8)
  /-- KA_BIND (R194): A switch binds an endpoint ID behind it to a certificate, and the node answers KA_BIND_ACK OK or DENIED. -/
  | kaBind (p : Fin 32) (ep : BitVec 16) (rest : List Byte)
  /-- READ (R272): A fabric READ of up to 4,096 bytes of a drawer is checked and served. -/
  | read (r : Req)
  /-- WRITE (R340): A fabric WRITE of up to 4,096 bytes of a drawer is checked and stored. -/
  | write (r : Req)
  /-- FADD64 (R274): A fabric 64-bit fetch-and-add, performed indivisibly modulo 2^64, returns the old value. -/
  | fadd64 (r : Req)
  /-- CAS64 (R274): A fabric 64-bit compare-and-swap, performed indivisibly, returns the old value. -/
  | cas64 (r : Req)
  /-- CAS128 (R274): A fabric 128-bit compare-and-swap, performed indivisibly, returns the old value. -/
  | cas128 (r : Req)
  /-- SYNC_ADD (R380): A fabric counter ADD adds to the value, saturating at 2^64 − 1, and releases the waits it satisfies. -/
  | syncAdd (r : Req)
  /-- SYNC_SET (R380): A fabric counter SET writes a new value and clears SATURATED. -/
  | syncSet (r : Req)
  /-- SYNC_READ (R380): A fabric counter READ returns the value. -/
  | syncRead (r : Req)
  /-- SYNC_WAIT (R380): A fabric counter WAIT either is satisfied at acceptance or registers a wait with its notify target. -/
  | syncWait (r : Req)
  /-- DOORBELL (R269): A fabric DOORBELL names a queue and a new tail, and it is checked against the ring drawer. -/
  | doorbell (r : Req)
  /-- STREAM_READ (R553): A fabric read of a lexicon stream window from a read position returns bytes, or RANGE when the reader has fallen more than 2^n behind. -/
  | streamRead (r : Req)
  /-- FABRIC_TOKENIZE (R560): A fabric TOKENIZE, sequenced by F, tokenises its input bytes into at most 1,024 tokens. -/
  | fabricTokenize (r : Req)
  /-- FABRIC_DETOKENIZE (R560): A fabric DETOKENIZE, sequenced by F, passes token bytes to the stream's channels. -/
  | fabricDetokenize (r : Req)
  /-- FABRIC_MASK_FETCH (R561): A fabric MASK_FETCH writes a grammar mask to the requester with outbound WRITEs and responds when they complete. -/
  | fabricMaskFetch (r : Req)
  /-- FABRIC_ADVANCE (R560): A fabric ADVANCE moves a grammar state by a token, sequenced in its stream form. -/
  | fabricAdvance (r : Req)
  /-- FABRIC_ADVANCE_FETCH (R560): A fabric ADVANCE_FETCH advances a grammar state and writes the new mask to the requester. -/
  | fabricAdvanceFetch (r : Req)
  /-- XFER_ATTEST (R613): A fabric attestation request with a nonce is answered with a signed report, in summary or selected scope. -/
  | xferAttest (r : Req)
  /-- XFER_OFFER (R588): A transfer source offers a parcel header, and it is accepted only for a pending RECEIVE with that source and rendezvous. -/
  | xferOffer (r : Req)
  /-- XFER_CHUNK (R588): A transfer source sends a body chunk, which is checked and stored into the snapshot being built. -/
  | xferChunk (r : Req)
  /-- XFER_COMMIT (R588): A transfer source commits; the destination commits the snapshot under R585, or answers already committed. -/
  | xferCommit (r : Req) (rendezvous : BitVec 64)
  /-- XFER_ABORT (R589): A transfer source aborts; the destination discards its partial snapshot and completes RECEIVE with ABORTED. -/
  | xferAbort (r : Req)
  /-- RESPONSE_RECEIVED (R271): A response to a node outbound request arrives and completes that request, or is discarded and counted. -/
  | responseReceived (p : Fin 32) (bytes : List Byte)
  /-- OUTBOUND_TIMEOUT (R290): An outbound request's timeout expires and the request completes with TIMEOUT toward its issuer. -/
  | outboundTimeout (port : Option (Fin 32)) (n : Nat)
  /-- NOTIFY_DELIVERY (R391): A pending notification passes its port transmitter gate once a member port is up with VC2 credit, and a NOTIFY carrying the current value is sent. -/
  | notifyDelivery (p : Fin 32) (wait : Nat)
  /-- DOORBELL_NOTIFY_DELIVERY (R393): A released doorbell-target notification writes its new tail to the queue, or is discarded if the queue is gone. -/
  | doorbellNotifyDelivery (wait : Nat)
  /-- MEMORY_OP_COMPLETE (R321): A memory controller operation finishes and its completion enters the benches as an input. -/
  | memoryOpComplete (gate : Fin 32)
  /-- READMIT (R325): The Bureau READMIT message starts re-admission of a RETIRED bench, or is refused. -/
  | readmit (m : BureauMsg) (b : BenchId)
  /-- READMIT_SELFTEST_DONE (R327): The re-admitted bench's self-test ends; a failure returns it to RETIRED with BENCH_READMIT_FAIL. -/
  | readmitSelftestDone (passed : Bool)
  /-- STATE_COPY_DONE (R326): The state copy to the rebuilding bench ends and is checked against the active digests. -/
  | stateCopyDone (digest1 digest2 copyDigest : Nat)
  /-- JOURNAL_CATCH_UP (R326): The rebuilding bench's lag is within 1,024 hc, so it takes the current claim, becomes SPARE, and BENCH_READMITTED is raised. -/
  | journalCatchUp
  /-- PATROL_READ (R349): The patrol scrub reads the next line in an idle controller slot under Table 10–2. -/
  | patrolRead (st : Fin 16) (found : List Damage)
  /-- LAP_OVERDUE_TIMER (R352): The current patrol lap exceeds the lap limit and LAP_OVERDUE is raised. -/
  | lapOverdueTimer (st : Fin 16)
  /-- RETIRE (R362): The Bureau RETIRE message retires a block or a bank of a stack. -/
  | retire (m : BureauMsg) (st : Nat) (bank : Bool) (unit : Nat)
  /-- RETIRE_CMD (R362): A host write to RETIRE_CMD submits the retirement of a block or a bank. -/
  | retireCmd (w : HostWrite)
  /-- RETIRE_COPY_DONE (R367): A retirement's copy to spare blocks ends, the drawer translation table is updated, and RETIRE_DONE is logged. -/
  | retireCopyDone (index : Nat) (spares : List Nat)
  /-- STACK_CHANNEL_LOSS (R371): A stack's controller pair loses a channel and retraining begins. -/
  | stackChannelLoss (st : Fin 16)
  /-- CHANNEL_RETRAIN_TIMEOUT (R371): Retraining does not restore the channel within 100 ms, so the stack is declared lost. -/
  | channelRetrainTimeout (st : Fin 16)
  /-- STACK_SENSORS_FAILED (R371): Every temperature sensor of a stack fails and the stack is declared lost. -/
  | stackSensorsFailed (st : Fin 16)
  /-- MIRROR_BUILD_DONE (R346): The build of a missing mirror copy ends and MIRROR_REBUILT is logged. -/
  | mirrorBuildDone (drawer : Nat) (plan : List Extent)
  /-- ZERO_STAMP_DONE (R607): A block that joined a drawer is zero-stamped, and the accesses waiting on it proceed. -/
  | zeroStampDone (drawer block : Nat)
  /-- WRAP_SWEEP_DONE (R608): A generation-wrap sweep ends, the drawer is no longer HELD, and GEN_SWEEP_DONE is raised. -/
  | wrapSweepDone (drawer : Nat)
  /-- INJECT (R374): The Bureau INJECT message arms an error injection on a line. -/
  | inject (m : BureauMsg) (kind : Nat) (target : InjectTarget)
  /-- INJECT_CANCEL (R375): The Bureau INJECT message with the cancel flag set cancels the armed injection. -/
  | injectCancel (m : BureauMsg) (target : InjectTarget)
  /-- SLICE_INJECT (R682): A host write to SLICE_INJECT arms an injection of the chosen kind at SLICE_INJADDR. -/
  | sliceInject (st : Fin 16) (w : HostWrite)
  /-- SLICE_INJECT_CANCEL (R375): A host write to SLICE_INJECT with CANCEL set cancels the stack's armed injection. -/
  | sliceInjectCancel (st : Fin 16) (w : HostWrite)
  /-- HOST_DOORBELL (R684): A host write of a new tail to a queue's doorbell register acts under Table 12–2. -/
  | hostDoorbell (q : BitVec 16) (w : HostWrite)
  /-- COMMAND_DISPATCH (R408): The benches dispatch the next command of a queue to a free engine of its class, after the checks of Table 12–5. -/
  | commandDispatch (q : BitVec 16) (found : List Damage)
  /-- COMMAND_COMPLETE (R415): A command's writes become visible, its completion record is written, and its completion ADD and QUEUE_DONE follow. -/
  | commandComplete (q : BitVec 16) (index : BitVec 32)
  /-- QUANTUM_EXPIRY (R420): A command or context runs out its quantum while other work is owed, so it stops at its next resume point. -/
  | quantumExpiry (q : BitVec 16) (index : BitVec 32)
  /-- COPY_RESUME_POINT (R421): A copy command reaches a resume point and takes any pending preemption, pause, halt or stop. -/
  | copyResumePoint (q : BitVec 16) (index : BitVec 32)
  /-- COPY_NOP (R410): A copy-engine NOP completes OK and is an ordering point. -/
  | copyNop (q : BitVec 16) (index : BitVec 32)
  /-- COPY (R426): A COPY copies a range within the node, or to a remote endpoint by outbound WRITEs. -/
  | copy (q : BitVec 16) (index : BitVec 32)
  /-- FILL (R427): A FILL writes an 8-byte pattern across a range. -/
  | fill (q : BitVec 16) (index : BitVec 32)
  /-- ZERO (R340): A ZERO writes zeros across a range and clears poison on whole lines. -/
  | zero (q : BitVec 16) (index : BitVec 32)
  /-- CONVERT (R428): A CONVERT converts elements between number formats. -/
  | convert (q : BitVec 16) (index : BitVec 32)
  /-- GATHER (R429): A GATHER copies indexed source elements to consecutive destination elements. -/
  | gather (q : BitVec 16) (index : BitVec 32)
  /-- SCATTER (R429): A SCATTER copies consecutive source elements to indexed destination elements. -/
  | scatter (q : BitVec 16) (index : BitVec 32)
  /-- DIGEST (R431): A DIGEST computes SHA-384 over a range and writes it. -/
  | digest (q : BitVec 16) (index : BitVec 32)
  /-- SWEEP (R353): A SWEEP reads every line of a range under the sweep share and writes a summary record. -/
  | sweep (q : BitVec 16) (index : BitVec 32) (found : List Damage)
  /-- SIEVE_NOP (R410): A sieve-queue NOP completes OK. -/
  | sieveNop (q : BitVec 16) (index : BitVec 32)
  /-- PLOAD (R480): PLOAD copies program bytes into a context's program region. -/
  | pload (q : BitVec 16) (index : BitVec 32)
  /-- START (R481): START sets a context's registers and begins executing its program, and it completes when the program ends. -/
  | start (q : BitVec 16) (index : BitVec 32)
  /-- RESETCTX (R481): RESETCTX empties a context's tiles, accumulators, list and scratch and releases its waits. -/
  | resetctx (q : BitVec 16) (index : BitVec 32)
  /-- SIEVE_UNIT_DONE (R498): A long instruction completes a unit, which is a resume point where interrupts, preemption or pauses are taken. -/
  | sieveUnitDone (c : CtxId)
  /-- TTIMER_EXPIRY (R500): TTIMER counts down from 1 to 0 and TIMER becomes pending. -/
  | ttimerExpiry (c : CtxId)
  /-- OVERRUN_KILL_TIMER (R507): 1 ms after its quantum expired, a context that has held IE = 0 or a window since is killed with QUANTUM_OVERRUN. -/
  | overrunKillTimer (c : CtxId)
  /-- SWAIT_RELEASE (R495): A context blocked in SWAIT has its wait released and continues with the value and release status. -/
  | swaitRelease (c : CtxId)
  /-- PLD (R491): PLD loads 8 bytes from a pool address. -/
  | pld (c : CtxId)
  /-- PST (R491): PST stores 8 bytes to a pool address. -/
  | pst (c : CtxId)
  /-- TLD (R496): TLD loads a tile span from memory. -/
  | tld (c : CtxId)
  /-- TST (R496): TST stores a tile span to memory. -/
  | tst (c : CtxId)
  /-- TSCORE_TILE (R460): TSCORE in tile form scores a query span against a key tile into accumulators. -/
  | tscoreTile (c : CtxId)
  /-- TSCORE_CONTIGUOUS (R460): TSCORE in contiguous form streams key records from a drawer into the top-k list. -/
  | tscoreContiguous (c : CtxId)
  /-- TSCORE_INDEXED (R460): TSCORE in indexed form scores keys named by an index list into the top-k list. -/
  | tscoreIndexed (c : CtxId)
  /-- AST (R496): AST stores an accumulator span to memory. -/
  | ast (c : CtxId)
  /-- SADD (R494): SADD adds to a counter of the context's tenant without trapping. -/
  | sadd (c : CtxId)
  /-- SSET (R494): SSET sets a counter. -/
  | sset (c : CtxId)
  /-- SREAD (R494): SREAD reads a counter. -/
  | sread (c : CtxId)
  /-- SWAIT (R495): SWAIT registers a wait and blocks the context unless satisfied at acceptance. -/
  | swait (c : CtxId)
  /-- LEX_NOP (R410): A lexicon-queue NOP completes OK. -/
  | lexNop (q : BitVec 16) (index : BitVec 32)
  /-- DICT_LOAD (R530): DICT_LOAD validates a dictionary image and loads it into a slot. -/
  | dictLoad (q : BitVec 16) (index : BitVec 32)
  /-- GRAM_LOAD (R530): GRAM_LOAD validates a grammar image and loads it into a slot. -/
  | gramLoad (q : BitVec 16) (index : BitVec 32)
  /-- UNLOAD (R531): UNLOAD empties a slot unless an open stream uses it. -/
  | unload (q : BitVec 16) (index : BitVec 32)
  /-- STREAM_OPEN (R556): STREAM_OPEN opens or replaces a stream context with its channels and windows. -/
  | streamOpen (q : BitVec 16) (index : BitVec 32)
  /-- STREAM_CLOSE (R556): STREAM_CLOSE closes a stream, optionally flushing first. -/
  | streamClose (q : BitVec 16) (index : BitVec 32)
  /-- TOKENIZE (R533): TOKENIZE turns carry and input bytes into tokens by longest match. -/
  | tokenize (q : BitVec 16) (index : BitVec 32)
  /-- DETOKENIZE (R546): DETOKENIZE passes token bytes to RAW and WHOLE channels. -/
  | detokenize (q : BitVec 16) (index : BitVec 32)
  /-- MASK_FETCH (R544): MASK_FETCH writes a state's allowed-token bit vector. -/
  | maskFetch (q : BitVec 16) (index : BitVec 32)
  /-- ADVANCE (R543): ADVANCE moves a grammar state by a token, or completes REJECTED. -/
  | advance (q : BitVec 16) (index : BitVec 32)
  /-- ADVANCE_FETCH (R544): ADVANCE_FETCH advances and writes the new state's mask. -/
  | advanceFetch (q : BitVec 16) (index : BitVec 32)
  /-- GRAM_SET (R554): GRAM_SET sets a stream's grammar slot and state. -/
  | gramSet (q : BitVec 16) (index : BitVec 32)
  /-- HOLD_NOP (R410): A hold-queue NOP completes OK. -/
  | holdNop (q : BitVec 16) (index : BitVec 32)
  /-- HOLD (R569): HOLD checks a hold-set descriptor and freezes the set at a freeze point. -/
  | hold (q : BitVec 16) (index : BitVec 32)
  /-- HOLD_QUIESCE_EXPIRY (R569): At 10 ms, work still running is stopped with ABORTED and outstanding outbound requests are abandoned. -/
  | holdQuiesceExpiry (q : BitVec 16) (index : BitVec 32)
  /-- HOLD_CAPTURE (R569): Set state is captured into the snapshot journal and HOLD completes with a snapshot ID. -/
  | holdCapture (q : BitVec 16) (index : BitVec 32)
  /-- HOLD_DIGEST_DONE (R569): The background snapshot digest is written to the report and HOLD_DIGEST_READY is raised. -/
  | holdDigestDone (snapshot : BitVec 32)
  /-- RESUME (R577): RESUME checks and restores a frozen set bit-exactly and thaws it. -/
  | resume (q : BitVec 16) (index : BitVec 32)
  /-- DROP (R573): DROP discards a snapshot unless it freezes a set. -/
  | drop (q : BitVec 16) (index : BitVec 32)
  /-- EXPORT (R583): EXPORT writes a snapshot as a parcel, self-bound, for a destination or open. -/
  | exportParcel (q : BitVec 16) (index : BitVec 32) (found : List Damage)
  /-- IMPORT (R584): IMPORT checks a parcel and builds a snapshot for a frozen target set. -/
  | importParcel (q : BitVec 16) (index : BitVec 32) (found : List Damage)
  /-- RECEIVE (R588): RECEIVE waits for a TRANSFER from a named source and rendezvous. -/
  | receive (q : BitVec 16) (index : BitVec 32)
  /-- RECEIVE_IDLE_TIMEOUT (R589): No transfer message arrives for 1 s; the partial snapshot is discarded and RECEIVE completes with TIMEOUT. -/
  | receiveIdleTimeout (q : BitVec 16) (index : BitVec 32)
  /-- TRANSFER (R587): TRANSFER attests the destination and sends a snapshot as a destination parcel. -/
  | transfer (q : BitVec 16) (index : BitVec 32)
  /-- TCP_CONNECT (R626): A TCP connection to port 4761 arrives; a fifth is reset. -/
  | tcpConnect (session : Nat)
  /-- TLS_HANDSHAKE_DONE (R632): The TLS handshake ends and the session takes a role or is refused. -/
  | tlsHandshakeDone (session : Nat) (client : TlsClient)
  /-- SESSION_IDLE_TIMEOUT (R626): A session silent for 300 s is closed. -/
  | sessionIdleTimeout (session : Nat)
  /-- SESSION_CLOSE (R647): A session closes and releases any lock it held. -/
  | sessionClose (session : Nat)
  /-- HEALTH (R641): The Bureau HEALTH message returns node state, health, triggers and more. -/
  | health (m : BureauMsg)
  /-- TELEMETRY (R714): The Bureau TELEMETRY message returns domain, stack, power and port counters. -/
  | telemetry (m : BureauMsg)
  /-- FAULT_READ (R644): The Bureau FAULT_READ message returns fault-log entries. -/
  | faultRead (m : BureauMsg) (start count : Nat)
  /-- FAULT_ACK (R644): The Bureau FAULT_ACK message advances FAULT_HEAD and may clear the overflow. -/
  | faultAck (m : BureauMsg) (head : Nat) (clear : Bool)
  /-- ATTEST (R629): The Bureau ATTEST message returns a signed report bound to the session. -/
  | attest (m : BureauMsg) (nonce : List Byte) (scope : Nat) (ids : List Nat)
  /-- SCRUB_STATUS (R641): The Bureau SCRUB_STATUS message returns patrol state. -/
  | scrubStatus (m : BureauMsg)
  /-- SHUTDOWN (R132): The Bureau SHUTDOWN message drains, links down and enters OFF. -/
  | shutdown (m : BureauMsg)
  /-- NODE_RESET (R134): The Bureau NODE_RESET message takes the node to OFF and restarts it. -/
  | nodeReset (m : BureauMsg)
  /-- LOCK_RELEASE (R647): The Bureau LOCK message with action 0 releases the configuration lock. -/
  | lockRelease (m : BureauMsg)
  /-- LOCK_ACQUIRE (R647): The Bureau LOCK message with action 1 acquires a free lock. -/
  | lockAcquire (m : BureauMsg)
  /-- LOCK_ACQUIRE_FORCE (R647): The Bureau LOCK message with action 2 also takes a lock that the host port holds and raises CONFIG_LOCK_BROKEN. -/
  | lockAcquireForce (m : BureauMsg)
  /-- SUBSCRIBE (R649): The Bureau SUBSCRIBE message turns event push on or off. -/
  | subscribe (m : BureauMsg) (on : Bool)
  /-- ENROLL (R635): The Bureau ENROLL message adds or updates a credential. -/
  | enroll (m : BureauMsg) (cert : List Byte) (role : Nat)
  /-- REVOKE (R635): The Bureau REVOKE message removes a credential. -/
  | revoke (m : BureauMsg) (hash : List Byte)
  /-- JOINERY_KEY (R636): The Bureau JOINERY_KEY message programs the next joinery-key slot. -/
  | joineryKey (m : BureauMsg) (key : List Byte)
  /-- CRED_RESET (R634): The Bureau CRED_RESET message empties the credential store and closes other sessions. -/
  | credReset (m : BureauMsg)
  /-- CHALLENGE (R619): The Bureau CHALLENGE message issues a 32-byte challenge. -/
  | challenge (m : BureauMsg) (random : List Byte)
  /-- CHALLENGE_EXPIRY (R619): 600 s pass and the challenge becomes invalid. -/
  | challengeExpiry
  /-- TOKEN (R619): The Bureau TOKEN message submits a token for verification and its action. -/
  | token (m : BureauMsg) (bytes : List Byte)
  /-- REPORT_SIGNED (R617): A queued attestation report is signed and returned. -/
  | reportSigned (signature : List Byte)
  /-- PERST_N_ASSERT (R666): PERST_N on J1 asserts and resets the host port function. -/
  | perstNAssert
  /-- PERST_N_DEASSERT (R111): PERST_N on J1 deasserts and the host port link trains. -/
  | perstNDeassert
  /-- HOT_RESET (R666): A PCIe hot reset resets the host port function. -/
  | hotReset
  /-- FLR (R666): A Function Level Reset resets the host port function. -/
  | flr
  /-- D3HOT_ENTRY (R665): The function enters D3hot; BAR accesses are refused and MSI-X stops. -/
  | d3hotEntry
  /-- BAR2_READ (R672): A host read of BAR2 returns drawer data or an error outcome. -/
  | bar2Read (offset length : Nat) (found : List Damage)
  /-- BAR2_WRITE (R672): A host write of BAR2 stores to a host-visible drawer or is discarded. -/
  | bar2Write (offset : Nat) (data : List Byte) (found : List Damage)
  /-- RC_READ (R8): A host or management read of an RC field returns and clears it. -/
  | rcRead (via : Interface) (offset : Nat) (size : Nat)
  /-- RS_LOW_READ (R102): A read of an RS low word snapshots the high word for that interface. -/
  | rsLowRead (via : Interface) (offset : Nat)
  /-- REGISTER_WRITE (R8): A host write to a register with no row of its own acts by its access code. -/
  | registerWrite (offset size : Nat) (value : BitVec 64)
  /-- HOST_ERRCAP_CLEAR (R673): A W1C write to HOST_ERRCAP.VALID re-enables error capture. -/
  | hostErrcapClear (w : HostWrite)
  /-- FAULT_HEAD_WRITE (R359): A write to FAULT_HEAD advances the fault-log consumer index within head to tail. -/
  | faultHeadWrite (w : HostWrite)
  /-- EVT_HEAD_WRITE (R676): A write to EVT_HEAD advances the event-ring consumer index. -/
  | evtHeadWrite (w : HostWrite)
  /-- EVT_REARM (R680): A write to EVT_REARM arms vectors and sends one message if an unconsumed entry maps to one. -/
  | evtRearm (index : Fin 4) (w : HostWrite)
  /-- MSIX_UNMASK (R679): Unmasking an MSI-X vector sends a message held in the PBA. -/
  | msixUnmask (vector : Fin 256)
  /-- HOST_LOCK_ACQ (R675): HOST_LOCK.ACQ acquires a free lock for the host port. -/
  | hostLockAcq (w : HostWrite)
  /-- HOST_LOCK_REL (R647): HOST_LOCK.REL releases the host port's lock. -/
  | hostLockRel (w : HostWrite)
  /-- ATT_CTRL (R675): A write to ATT_CTRL submits an attestation report request. -/
  | attCtrl (w : HostWrite)
  /-- SYNC_CMD_ADD (R686): The sync mailbox ADD adds to a counter. -/
  | syncCmdAdd (w : HostWrite)
  /-- SYNC_CMD_SET (R686): The sync mailbox SET sets a counter. -/
  | syncCmdSet (w : HostWrite)
  /-- SYNC_CMD_READ (R686): The sync mailbox READ reads a counter. -/
  | syncCmdRead (w : HostWrite)
  /-- SYNC_CMD_WAIT (R686): The sync mailbox WAIT registers a host-owned wait. -/
  | syncCmdWait (w : HostWrite)
  /-- COUNTER_WINDOW_ADD (R685): An 8-byte write to a counter window's ADD applies SYNC_ADD. -/
  | counterWindowAdd (c : BitVec 18) (w : HostWrite)
  /-- DBG (R693): DBG selects the 160-bit debug register whose Update-DR submits commands. -/
  | dbg (dr : BitVec 160)
  /-- REG_READ (R697): Debug REG_READ reads a BAR0 register through the inspection path. -/
  | regRead
  /-- REG_WRITE (R698): Debug REG_WRITE writes a BAR0 register as the host port would. -/
  | regWrite
  /-- DBG_CHALLENGE (R701): Debug CHALLENGE issues the single challenge. -/
  | dbgChallenge (random : List Byte)
  /-- CHAL_READ (R693): Debug CHAL_READ returns 8 bytes of the challenge. -/
  | chalRead
  /-- TOKEN_LOAD (R693): Debug TOKEN_LOAD writes 8 bytes of the token buffer. -/
  | tokenLoad
  /-- TOKEN_SUBMIT (R702): Debug TOKEN_SUBMIT submits the token buffer, or unlocks with length 0 in MANUFACTURE. -/
  | tokenSubmit (length : BitVec 64)
  /-- RELOCK (R621): Debug RELOCK relocks, advances sealed generations and releases halts. -/
  | relock
  /-- DETACH (R330): Debug DETACH retires the spare or promotes away an ACTIVE bench. -/
  | detach (locked : Bool)
  /-- DETACH_DEFER_EXPIRY (R705): A DETACH deferred by a locked sequence for 20 µs completes NOT_READY. -/
  | detachDeferExpiry
  /-- CORE_STEP (R706): CORE_STEP retires one instruction of a detached steward core. -/
  | coreStep
  /-- CORE_RUN (R706): CORE_RUN runs a detached steward core. -/
  | coreRun
  /-- CORE_READ (R706): CORE_READ reads a steward core register or memory word. -/
  | coreRead
  /-- CORE_WRITE (R706): CORE_WRITE writes a steward core register or memory word. -/
  | coreWrite
  /-- CTX_HALT (R707): CTX_HALT halts a sieve context at its next resume point after any window. -/
  | ctxHalt
  /-- CTX_STEP (R708): CTX_STEP runs a halted context to its next resume point. -/
  | ctxStep
  /-- CTX_RUN (R708): CTX_RUN releases a context halt. -/
  | ctxRun
  /-- CTX_READ (R709): CTX_READ reads context state by selector. -/
  | ctxRead
  /-- CTX_WRITE (R709): CTX_WRITE writes the state of a halted context. -/
  | ctxWrite
  /-- ENG_HALT (R711): ENG_HALT stops a copy or lexicon engine at its next resume point. -/
  | engHalt
  /-- ENG_RUN (R711): ENG_RUN releases an engine halt. -/
  | engRun
  /-- MEM_READ (R699): Debug MEM_READ reads 8 bytes of a drawer. -/
  | memRead
  /-- MEM_WRITE (R699): Debug MEM_WRITE writes 8 bytes of a drawer. -/
  | memWrite
  /-- SEAL_BOOT_ENTRY (R106): The domain 23 converters reach regulation, PWR_GOOD goes high, the node leaves OFF for SEAL_BOOT and the timestamp starts at 0. -/
  | sealBootEntry
  /-- VIN_HIGH_EXCURSION_END (R57): VIN falls back below 60 V, which ends the excursion so that a later one raises INPUT_HIGH again. -/
  | vinHighExcursionEnd (mv : Nat)
  /-- UNASSIGNED_OPCODE (R267): A request with an unassigned opcode, or one not valid from an endpoint such as NOTIFY, arrives and completes with FORMAT. -/
  | unassignedOpcode (r : Req) (code : BitVec 8)
  /-- HOST_UNSUPPORTED_REQUEST (R664): An I/O request, AtomicOp, unimplemented message or access outside BAR0 and BAR2 arrives at the host port and is answered with Unsupported Request. -/
  | hostUnsupportedRequest (kind : HostRequestKind)
  /-- CHANNEL_RETRAIN_DONE (R371): Retraining restores a lost DRAM channel within 100 ms and the stack stays live. -/
  | channelRetrainDone (st : Fin 16)
  /-- FREE_BLOCK_SWEEP_DONE (R174): The zero-sweep of freed blocks ends and they stop counting against capacity and become usable. -/
  | freeBlockSweepDone (st : Fin 16) (count : Nat)
  /-- LEXICON_RESUME_POINT (R562): A lexicon command reaches a resume point, updates its window headers and takes any pending preemption, pause, halt or stop. -/
  | lexiconResumePoint (q : BitVec 16) (index : BitVec 32)
  /-- UNASSIGNED_INSTRUCTION (R490): The sequencer executes a word with an unassigned op or func, which raises ILLEGAL. -/
  | unassignedInstruction (c : CtxId)
  /-- LOCKED_SEQUENCE_END (R705): A steward core leaves a locked sequence, and a deferred DETACH proceeds. -/
  | lockedSequenceEnd
  /-- VIN_UNDERVOLT (R55): VIN has stayed below 37.0 V for more than 5 µs, so the converters stop and the node suffers a loss of power. -/
  | vinUndervolt (mv : Nat)
  /-- VIN_OVERVOLT (R56): VIN rises above 62.0 V, so the converters stop and INPUT_OV is recorded in the wake island. -/
  | vinOvervolt (mv : Nat)
  /-- VIN_OV_RECOVER (R56): VIN falls below 61.0 V after an overvoltage stop and the node restarts from OFF. -/
  | vinOvRecover (mv : Nat)
  /-- VIN_COLD_LOSS (R137): VIN falls below 30 V, which clears the stop record and the retirement list, so the next start reports COLD. -/
  | vinColdLoss
  /-- TRAINING_STEP_TIMEOUT (R187): A training step fails or overruns its bound; the attempt ends and the lasers go off for 10 ms, or for 1 s after an authentication failure. -/
  | trainingStepTimeout (p : Fin 32)
  /-- TRAINING_RETRY_PAUSE_EXPIRY (R187): The 10 ms or 1 s pause after a failed attempt ends and training starts again from step 1. -/
  | trainingRetryPauseExpiry (p : Fin 32)
  /-- QUIET_SLOT_START (R257): The announced count of flits after QUIET_REQ is reached and the quiet slot begins. -/
  | quietSlotStart (p : Fin 32)
  /-- QUIET_SLOT_END (R197): A quiet slot of at most 8 µs ends and waiting transmit work is sent in order. -/
  | quietSlotEnd (p : Fin 32)
  /-- QUIET_DEFERRAL_EXPIRY (R198): No QUIET_ACK has arrived for 1 s and the port takes its quiet slot unacknowledged. -/
  | quietDeferralExpiry (p : Fin 32)
  /-- FLOOD_DEBOUNCE_EXPIRY (R203): FLOOD has been clear for 5 ms, so the resume retrain or the pending full training starts. -/
  | floodDebounceExpiry (p : Fin 32)
  /-- DOZE_EXPIRY (R208): The doze duration D ends at the side that requested doze, which turns its laser on to wake the port. -/
  | dozeExpiry (p : Fin 32)
  /-- DARK_DOZE_WAKE (R210): At D − G a dark-dozing port wakes on its own timer and listens and beacons for its partner. -/
  | darkDozeWake (p : Fin 32)
  /-- DOZE_LIGHT_WAKE (R211): Light wakes a dozing port and training starts. -/
  | dozeLightWake (p : Fin 32)
  /-- IDLE_FLIT (R221): An IDLE flit is received, checked in the order of Table 7–4, and its ACK is taken. -/
  | idleFlit (p : Fin 32) (f : Flit)
  /-- DATA_FLIT (R231): A DATA flit is received, checked and classified by sequence; an accepted flit delivers its messages and its ACK and credit fields. -/
  | dataFlit (p : Fin 32) (f : Flit)
  /-- NAK_FLIT (R236): A NAK flit is received; an in-range NAK releases flits through its ACK and starts a replay run. -/
  | nakFlit (p : Fin 32) (f : Flit)
  /-- NAK_REPEAT_EXPIRY (R232): 4 µs pass with a NAK outstanding and the expected flit not accepted, so a further NAK is sent. -/
  | nakRepeatExpiry (p : Fin 32)
  /-- CREDIT_RETURN_TIMER (R228): Returnable credit has waited 1 µs, or exceeds a quarter of the buffer, with no DATA flit ready, so a credit-only DATA flit is sent. -/
  | creditReturnTimer (p : Fin 32)
  /-- ERROR_SUBWINDOW (R240): A 62.5 µs sub-window boundary passes and the error window slides. -/
  | errorSubwindow (p : Fin 32)
  /-- CREDIT_INIT (R225): The peer's CREDIT_INIT gives its VC0 to VC2 buffer sizes; one below the minimum ends training with KA_FAIL, and a second one is a framing violation. -/
  | creditInit (p : Fin 32) (vc0 vc1 vc2 : BitVec 16)
  /-- QUIET_REQ (R199): The partner announces a quiet slot; the port grants it and sends nothing during it. -/
  | quietReq (p : Fin 32) (len start : BitVec 16)
  /-- QUIET_ACK (R198): The partner acknowledges the node's QUIET_REQ. -/
  | quietAck (p : Fin 32) (len start : BitVec 16)
  /-- DOZE_REQ (R207): The partner requests doze or dark doze; the node accepts with DOZE_ACK only with no unacknowledged flits and no queued work, and otherwise sends DOZE_REFUSE. -/
  | dozeReq (p : Fin 32) (kind : BitVec 8) (d : BitVec 32)
  /-- DOZE_ACK (R257): The partner accepts the node's doze request. -/
  | dozeAck (p : Fin 32) (kind : BitVec 8) (d : BitVec 32)
  /-- DOZE_REFUSE (R207): The partner refuses the node's doze request with a reason. -/
  | dozeRefuse (p : Fin 32) (reason : BitVec 8)
  /-- QUIESCE_REQ (R252): A QUIESCE_REQ arrives, asking the port to finish its outstanding work and answer with QUIESCE_DONE. -/
  | quiesceReq (p : Fin 32)
  /-- QUIESCE_DONE (R252): The peer's QUIESCE_DONE arrives; once both are acked, the node sends LINK_DOWN_PLANNED and resets with no LINK_LOST. -/
  | quiesceDone (p : Fin 32)
  /-- KA_HELLO (R190): The peer's nonce and ephemeral key are received; equal nonces end the attempt. -/
  | kaHello (p : Fin 32) (fields : List Byte)
  /-- KA_CERT (R192): The peer's identity chain and signed link key are received and checked against the ENDPOINT_CA records, and the endpoint ID is bound. -/
  | kaCert (p : Fin 32) (fields : List Byte)
  /-- KA_FINISH (R189): The peer's confirmation HMAC is received and verified. -/
  | kaFinish (p : Fin 32) (fields : List Byte)
  /-- KA_BIND_ACK (R194): The answer to a KA_BIND is received. -/
  | kaBindAck (p : Fin 32) (ep : BitVec 16) (status : BitVec 8)
  /-- KA_FAIL (R192): The peer ends the attempt with a reason; an authentication reason raises LINK_AUTH_FAIL and a 1 s pause follows. -/
  | kaFail (p : Fin 32) (reason : BitVec 8)
  /-- TAG_QUARANTINE_EXPIRY (R291): One further timeout interval after a timeout passes, and that node tag may be reused. -/
  | tagQuarantineExpiry (p : Fin 32) (tag : BitVec 12)
  /-- GATE_OUTPUT (R305): A bench output reaches an output gate and is emitted when both ACTIVE benches agree under the same claim. -/
  | gateOutput (g : Fin 179) (o : BenchOut)
  /-- SKEW_LIMIT_EXPIRY (R305): One bench's output has not arrived 64 hc after its partner's, which declares a dispute. -/
  | skewLimitExpiry (g : Fin 179)
  /-- RETRY_DONE (R308): The retried outputs are compared; matching outputs are emitted with BENCH_TRANSIENT, and a mismatch starts arbitration. -/
  | retryDone (first second : List BenchOut)
  /-- SHADOW_ARRIVAL (R312): The spare's shadow of a disputed or emitted output arrives and decides two-of-three arbitration, charges a bench, or checks the spare. -/
  | shadowArrival (g : Fin 179) (o : BenchOut)
  /-- FIRST_NEW_CLAIM_OUTPUT (R320): The first output under the new claim is emitted, delivery and credits resume, and BENCH_RETIRED and SPALLED are raised. -/
  | firstNewClaimOutput
  /-- SHADOW_TIMEOUT (R312): No shadow has arrived 1,088 hc after a lasting dispute, so the gates freeze and the node enters FAILED with BENCH_UNRESOLVED. -/
  | shadowTimeout
  /-- SPARE_CONSUME (R299): The spare consumes the next journal input; the lag bound throttles or unthrottles inputs. -/
  | spareConsume (input : Nat)
  /-- SPARE_STALL_TIMER (R301): The spare consumes nothing for 10 µs while the journal holds inputs, and it is retired with SPARE_STALL. -/
  | spareStallTimer
  /-- ALU_ADD (R488): ALU func 0 adds two registers modulo 2^64. -/
  | aluAdd (c : CtxId)
  /-- ALU_SUB (R488): ALU func 1 subtracts. -/
  | aluSub (c : CtxId)
  /-- ALU_AND (R488): ALU func 2 computes bitwise AND. -/
  | aluAnd (c : CtxId)
  /-- ALU_OR (R488): ALU func 3 computes bitwise OR. -/
  | aluOr (c : CtxId)
  /-- ALU_XOR (R488): ALU func 4 computes bitwise XOR. -/
  | aluXor (c : CtxId)
  /-- ALU_SHL (R488): ALU func 5 shifts left by rb[5:0]. -/
  | aluShl (c : CtxId)
  /-- ALU_SHR (R488): ALU func 6 shifts right logically. -/
  | aluShr (c : CtxId)
  /-- ALU_SAR (R488): ALU func 7 shifts right arithmetically. -/
  | aluSar (c : CtxId)
  /-- ALU_MUL (R488): ALU func 8 multiplies and keeps the low 64 bits. -/
  | aluMul (c : CtxId)
  /-- ALU_MULHU (R488): ALU func 9 gives the high 64 bits of the unsigned product. -/
  | aluMulhu (c : CtxId)
  /-- ALU_SLTU (R488): ALU func 10 sets on unsigned less-than. -/
  | aluSltu (c : CtxId)
  /-- ALU_SLT (R488): ALU func 11 sets on signed less-than. -/
  | aluSlt (c : CtxId)
  /-- ALU_MINU (R488): ALU func 12 gives the unsigned minimum. -/
  | aluMinu (c : CtxId)
  /-- ALU_MAXU (R488): ALU func 13 gives the unsigned maximum. -/
  | aluMaxu (c : CtxId)
  /-- ALU_POPCNT (R488): ALU func 14 counts the set bits of ra. -/
  | aluPopcnt (c : CtxId)
  /-- ADDI (R488): ADDI adds a sign-extended immediate to a register. -/
  | addi (c : CtxId)
  /-- ANDI (R488): ANDI ANDs a register with a zero-extended immediate. -/
  | andi (c : CtxId)
  /-- ORI (R488): ORI ORs a register with a zero-extended immediate. -/
  | ori (c : CtxId)
  /-- XORI (R488): XORI XORs a register with a zero-extended immediate. -/
  | xori (c : CtxId)
  /-- SHI_SHL (R488): SHI mode 0 shifts left by an immediate amount. -/
  | shiShl (c : CtxId)
  /-- SHI_SHR (R488): SHI mode 1 shifts right logically by an immediate amount. -/
  | shiShr (c : CtxId)
  /-- SHI_SAR (R488): SHI mode 2 shifts right arithmetically by an immediate amount. -/
  | shiSar (c : CtxId)
  /-- LDI (R488): LDI loads a 16-bit immediate into one quarter of a register. -/
  | ldi (c : CtxId)
  /-- BEQ (R488): BEQ branches when two registers are equal. -/
  | beq (c : CtxId)
  /-- BNE (R488): BNE branches when two registers differ. -/
  | bne (c : CtxId)
  /-- BLTU (R488): BLTU branches on unsigned less-than. -/
  | bltu (c : CtxId)
  /-- BGEU (R488): BGEU branches on unsigned greater-or-equal. -/
  | bgeu (c : CtxId)
  /-- BLT (R488): BLT branches on signed less-than. -/
  | blt (c : CtxId)
  /-- BGE (R488): BGE branches on signed greater-or-equal. -/
  | bge (c : CtxId)
  /-- JAL (R488): JAL links the return address and jumps relative to the PC. -/
  | jal (c : CtxId)
  /-- JR (R493): JR jumps to the address in a register. -/
  | jr (c : CtxId)
  /-- SLD (R492): SLD loads 64 bits from scratch. -/
  | sld (c : CtxId)
  /-- SST (R492): SST stores 64 bits to scratch. -/
  | sst (c : CtxId)
  /-- MFSR (R485): MFSR reads a system register. -/
  | mfsr (c : CtxId)
  /-- MTSR (R485): MTSR writes a system register. -/
  | mtsr (c : CtxId)
  /-- YIELD (R506): YIELD gives up the rest of the quantum when other work is ready. -/
  | yield (c : CtxId)
  /-- WINDOW (R503): WINDOW makes the next n instructions non-interruptible. -/
  | window (c : CtxId)
  /-- TRAP (R509): TRAP raises BREAK with a code. -/
  | trap (c : CtxId)
  /-- TRET (R517): TRET returns from a trap and continues any interrupted long instruction from its progress. -/
  | tret (c : CtxId)
  /-- HALT (R482): HALT ends the program, and its START completes with the result register. -/
  | halt (c : CtxId)
  /-- TCFG (R454): TCFG configures and zeroes a tile span with a checked shape. -/
  | tcfg (c : CtxId)
  /-- TREL_TILES (R458): TREL with func[0] 0 releases a tile span to EMPTY. -/
  | trelTiles (c : CtxId)
  /-- TREL_ACCUMULATORS (R457): TREL with func[0] 1 releases an accumulator span to EMPTY. -/
  | trelAccumulators (c : CtxId)
  /-- TOPK_SELECT (R467): TOPK select chooses entries from an accumulator span into the list. -/
  | topkSelect (c : CtxId)
  /-- TOPK_MERGE (R467): TOPK merge selects from drained lists in a drawer range. -/
  | topkMerge (c : CtxId)
  /-- TOPK_DRAIN (R468): TOPK drain writes the list to a drawer range and optionally clears it. -/
  | topkDrain (c : CtxId)
  /-- TOPK_CLEAR (R467): TOPK clear empties the list. -/
  | topkClear (c : CtxId)
  /-- XMOV (R473): XMOV copies a tile to a context on another engine of the slice. -/
  | xmov (c : CtxId)
  /-- IPV4_FRAME (R625): An IPv4 or ARP frame is discarded. -/
  | ipv4Frame
  /-- NEIGHBOR_DISCOVERY (R625): A Neighbor Discovery message is answered. -/
  | neighborDiscovery (target : List Byte)
  /-- ROUTER_ADVERTISEMENT (R625): A Router Advertisement forms addresses by SLAAC. -/
  | routerAdvertisement (networkId : List Byte)
  /-- ICMPV6_ECHO (R625): An ICMPv6 echo request is answered. -/
  | icmpv6Echo (payload : List Byte)
  /-- TAP_RESET (R692): TRST_N or Test-Logic-Reset resets the TAP only. -/
  | tapReset
  /-- EXTEST (R691): EXTEST drives boundary-scan pins in FAILED and otherwise acts as BYPASS. -/
  | extest (pins : List Bool)
  /-- IDCODE (R690): IDCODE selects the 32-bit identification register. -/
  | idcode
  /-- SAMPLE_PRELOAD (R690): SAMPLE/PRELOAD selects the boundary-scan register. -/
  | samplePreload (pins : List Bool)
  /-- BYPASS (R690): BYPASS, or any unlisted code, selects the 1-bit bypass register. -/
  | bypass (code : BitVec 8)
  /-- QUIET_SLOT_ANNOUNCE (R197): The port needs to trim its synthesiser, lasers or receiver and sends QUIET_REQ announcing a quiet slot. -/
  | quietSlotAnnounce (p : Fin 32) (len start : Nat)
  /-- REPLAY_RUN_DONE (R236): The last flit of a replay run has been sent, the port leaves REPLAY for UP, and suspended outbound timeouts resume. -/
  | replayRunDone (p : Fin 32)
deriving DecidableEq, Repr

end Sys2Proof
end

