-- ==== Sys2Proof/Config.lean ====
section
/-! DEFINITION. Free values and the functions of outside standards. A constant here has no body: nothing can be
proved of its value, and a statement that names it holds whatever it is. -/

namespace Sys2Proof.Config

/-- SHA-384 (FIPS 180-4), which the spec names and does not define. (DESIGN CHOICE, log 13.) -/
opaque sha384 : List Byte → List Byte

/-- Whether an ECDSA P-384 signature (FIPS 186-5) verifies: the SHA-384 of the public key, the SHA-384 of what is signed,
r and s (R139, R143). (DESIGN CHOICE, log 13.) -/
opaque ecdsaVerify : List Byte → List Byte → Nat → Nat → Bool

/-- What the DER bytes of an X.509 certificate say (RFC 5280), or none where they do not parse. (DESIGN CHOICE, log 13.) -/
opaque x509 : List Byte → Option CertInfo

/-- Whether a certificate is signed with the key of another (RFC 5280): the issuer's DER bytes, the subject's.
(DESIGN CHOICE, log 13.) -/
opaque certSigned : List Byte → List Byte → Bool

/-- The x-coordinate of an ECDH P-384 point (R191): the own key pair, named by its public key, and the peer's public key.
(DESIGN CHOICE, log 13.) -/
opaque ecdh : List Byte → List Byte → List Byte

/-- The node's static link public key, 97 bytes uncompressed (R190). (DESIGN CHOICE, log 13.) -/
opaque linkPublic : List Byte

/-- The signature of the identity key over the static link public key, in the form of R139 (Table 6–4).
(DESIGN CHOICE, log 13.) -/
opaque linkSignature : List Byte

/-- SHA-384 of the Waidrian root public key, which the seal ROM holds (R595). (DESIGN CHOICE, log 13.) -/
opaque rootKeyDigest : List Byte
/-- SHA-384 of the Waidrian service public key, which the seal ROM holds (R595). (DESIGN CHOICE, log 13.) -/
opaque serviceKeyDigest : List Byte

/-- What the bytes of an attestation report spell under RFC 9052 (R614), or none where they are no such report.
(DESIGN CHOICE, log 13.) -/
opaque coseReport : List Byte → Option ReportFacts

/-- What the bytes of a token spell under RFC 9052 (R619), or none where they are no such token. (DESIGN CHOICE, log 13.) -/
opaque coseToken : List Byte → Option TokenFacts

/-- The 256-bit memory root (Table 17–2), which no interface reads. (DESIGN CHOICE, log 13.) -/
opaque memoryRoot : List Byte

/-- The digests of the seal ROM and of the Avyanath ROM, and the identity chain of R595. (DESIGN CHOICE, log 13.) -/
opaque sealRomDigest : List Byte
/-- The digest of the Avyanath ROM that attestation reports carry. (DESIGN CHOICE, log 13.) -/
opaque avyanathDigest : List Byte
/-- The DER certificates of the node's identity chain, leaf first (R595). (DESIGN CHOICE, log 13.) -/
opaque identityChain : List (List Byte)

/-- The blocks of a stack's placement headroom: the spec states no split of the 2 GiB that each stack reserves
between device tables and headroom (R1's closing table text, R93). (DESIGN CHOICE, log 35.) -/
opaque headroomBlocks : Nat

/-- The 48-byte TLS exporter of a session (R629). (DESIGN CHOICE, log 13.) -/
opaque tlsExporter : Nat → List Byte

/-- The TLS server's self-signed certificate (R628), as DER bytes: of its public key, with the serial in its subject.
(DESIGN CHOICE, log 13.) -/
opaque tlsCertificate : List Byte → List Byte → List Byte

/-- A free 64-bit value: `n` is the draw, from State.fresh. -/
opaque freeWord : Nat → W64

/-- A free byte string: draw `n`, of the stated length. -/
opaque freeBytes : Nat → Nat → List Byte

/-- The scale byte of an MX block on which the OCP Microscaling specification states none: a block of zeros, or one with
a NaN or an infinity. It is applied to the block's values: kind and sign, magnitude, exponent. (PRESUMED, log 15.) -/
opaque mxScale : List (Nat × Nat × Int) → Byte

/-- AES-256-GCM (NIST SP 800-38D): key, nonce, AAD and plaintext to the ciphertext followed by its 16-byte tag.
(DESIGN CHOICE, log 13.) -/
opaque gcmSeal : List Byte → List Byte → List Byte → List Byte → List Byte

/-- AES-256-GCM opened: key, nonce, AAD and the ciphertext with its tag to the plaintext, or none where the tag does not
verify. (DESIGN CHOICE, log 13.) -/
opaque gcmOpen : List Byte → List Byte → List Byte → List Byte → Option (List Byte)

/-- AES-256-XTS of one data unit (IEEE 1619): data key, tweak key, tweak and plaintext. (DESIGN CHOICE, log 13.) -/
opaque xtsEncrypt : List Byte → List Byte → List Byte → List Byte → List Byte

/-- Whether the node, which may ask for a doze (R207), asks for one now: the timebase count and the port, to the kind (dark or
not) and D in ms. (DESIGN CHOICE, log 127.) -/
opaque dozeWish : Nat → Nat → Option (Bool × Nat)

/-- What the host port finds at PERST_N's release (R45): whether J1 and J2 are cabled, and the widest link of the port at the other
end; by timebase count. (DESIGN CHOICE, log 114.) -/
opaque hostCabling : Nat → Bool × Bool × Nat

/-- The x-coordinate of the ECDH point that an ephemeral key and a destination's static link key share (R581): the
ephemeral public key, and the SHA-384 of the destination's certificate. (DESIGN CHOICE, log 13.) -/
opaque parcelShared : List Byte → List Byte → List Byte

/-- The manifest, counter, wait, queue, stream and context sections of a parcel's body: the spec leaves their contents to
the format version (R580). (DESIGN CHOICE, log 76.) -/
opaque parcelSections : Snapshot → List Byte

/-- The snapshot that the pieces of a parcel's body spell, none standing for one whose tag fails: the spec leaves the
contents to the format version (R580). (DESIGN CHOICE, log 76 and 77.) -/
opaque parcelContent : List (Option (List Byte)) → Option Snapshot

/-- The type of a drawer section (R580 states none). (DESIGN CHOICE, log 76.) -/
opaque drawerSectionType : Nat

/-- A word of a detached steward core that the debugger has not written since the core last ran: epoch, bench, selector.
(DESIGN CHOICE, log 46.) -/
opaque coreWord : Nat → Nat → Nat → W64

/-- A lane's measured signal-to-noise ratio in 0.25 dB units (Table 20–8): port, lane, timebase count.
(DESIGN CHOICE, log 17.) -/
opaque laneSnr : Nat → Nat → Nat → Byte

/-- The correction that a lane's frozen loop measures (R90): port, lane, timebase count. (DESIGN CHOICE, log 17.) -/
opaque lanePend : Nat → Nat → Nat → Byte

/-- The node's input power in watts, as it is measured: timebase count. (DESIGN CHOICE, log 17.) -/
opaque inputPower : Nat → BitVec 16

end Sys2Proof.Config
end

