-- ==== Sys2Proof/Machine/Maps.lean ====
section
/-! DEFINITION. Sparse tables and byte strings: reading and writing a table of FMap's canonical form,
little-endian fields (R7), and the plain list operations the meanings share. -/

namespace Sys2Proof

/-- The entry of key `k`, or `d` where none is listed. -/
def FMap.get {α : Type} : FMap α → Nat → α → α
  | [], _, d => d
  | (j, w) :: m, k, d => if j = k then w else FMap.get m k d

/-- Insert or replace the entry of key `k`, keeping the keys rising. -/
def FMap.insert {α : Type} : FMap α → Nat → α → FMap α
  | [], k, v => [(k, v)]
  | (j, w) :: m, k, v =>
    if k < j then (k, v) :: (j, w) :: m
    else if j = k then (k, v) :: m
    else (j, w) :: FMap.insert m k v

/-- Remove the entry of key `k`. -/
def FMap.erase {α : Type} : FMap α → Nat → FMap α
  | [], _ => []
  | (j, w) :: m, k => if j = k then FMap.erase m k else (j, w) :: FMap.erase m k

/-- Set key `k` to `v` in a table whose unlisted keys hold `d`: writing `d` removes the entry. -/
def FMap.set {α : Type} [DecidableEq α] (m : FMap α) (k : Nat) (v d : α) : FMap α :=
  if v = d then m.erase k else m.insert k v

/-- Every key is above `b`, keys rise, and no entry holds `d`. -/
def FMap.wfAbove {α : Type} [DecidableEq α] (d : α) : Option Nat → FMap α → Bool
  | _, [] => true
  | b, (j, w) :: m => (match b with | none => true | some i => decide (i < j)) && decide (w ≠ d) && FMap.wfAbove d (some j) m

/-- The canonical form of a table whose unlisted keys hold `d`. -/
def FMap.wf {α : Type} [DecidableEq α] (m : FMap α) (d : α) : Bool := FMap.wfAbove d none m

/-- Write a run of values from key `k` upward. -/
def FMap.setRun {α : Type} [DecidableEq α] (d : α) : FMap α → Nat → List α → FMap α
  | m, _, [] => m
  | m, k, v :: vs => FMap.setRun d (m.set k v d) (k + 1) vs

/-- Read `n` values from key `k` upward. -/
def FMap.getRun {α : Type} (m : FMap α) (d : α) : Nat → Nat → List α
  | _, 0 => []
  | k, n + 1 => m.get k d :: FMap.getRun m d (k + 1) n

/-- Keep only the entries whose key satisfies `p`. -/
def FMap.keep {α : Type} (m : FMap α) (p : Nat → Bool) : FMap α := m.filter fun e => p e.1

/-- Change every entry by `f`; an entry that becomes `d` goes. -/
def FMap.mapVals {α : Type} [DecidableEq α] (m : FMap α) (f : α → α) (d : α) : FMap α :=
  (m.map fun e => (e.1, f e.2)).filter fun e => decide (e.2 ≠ d)

/-! ## Byte strings -/

/-- `n` bytes of `v`, little-endian (R7). -/
def leBytes : Nat → Nat → List Byte
  | 0, _ => []
  | n + 1, v => BitVec.ofNat 8 v :: leBytes n (v / 256)

/-- The number that a little-endian byte string spells (R7). -/
def leNat : List Byte → Nat
  | [] => 0
  | b :: bs => b.toNat + 256 * leNat bs

/-- `n` bytes from position `i`; bytes past the end read as 0. -/
def sub (bs : List Byte) (i n : Nat) : List Byte := ((bs.drop i).take n) ++ List.replicate (n - (bs.length - i)) 0

/-- The little-endian field of `n` bytes at position `i`. -/
def field (bs : List Byte) (i n : Nat) : Nat := leNat (sub bs i n)

/-- Byte `i`, 0 past the end. -/
def byteAt (bs : List Byte) (i : Nat) : Nat := field bs i 1

/-- Bits [hi:lo] of a number. -/
def bits (v hi lo : Nat) : Nat := (v / 2 ^ lo) % 2 ^ (hi + 1 - lo)

/-- Bit `i` of a number. -/
def bitOf (v i : Nat) : Bool := (v / 2 ^ i) % 2 = 1

/-- 1 for true, 0 for false. -/
def b2n (b : Bool) : Nat := if b then 1 else 0

/-- Every byte is zero. -/
def allZero (bs : List Byte) : Bool := bs.all (· == 0)

/-- Replace the bytes of `bs` from position `i` by `vs`. -/
def splice {α : Type} (bs : List α) (i : Nat) (vs : List α) : List α := bs.take i ++ vs ++ bs.drop (i + vs.length)

/-- Replace element `i` of a list by what `f` makes of it. -/
def modifyAt {α : Type} (f : α → α) : List α → Nat → List α
  | [], _ => []
  | a :: as, 0 => f a :: as
  | a :: as, i + 1 => a :: modifyAt f as i

/-- The list cut into pieces of `n` elements, the last possibly shorter; `fuel` bounds the pieces. -/
def chunks {α : Type} (n : Nat) : Nat → List α → List (List α)
  | 0, _ => []
  | fuel + 1, xs => if xs.isEmpty then [] else xs.take n :: chunks n fuel (xs.drop n)

/-- The least number of pieces of `n` that hold `a`. -/
def ceilDiv (a n : Nat) : Nat := (a + n - 1) / n

/-- Insert by a strict order, after equal elements. -/
def insertBy {α : Type} (lt : α → α → Bool) (a : α) : List α → List α
  | [] => [a]
  | b :: bs => if lt a b then a :: b :: bs else b :: insertBy lt a bs

/-- Stable insertion sort. -/
def sortBy {α : Type} (lt : α → α → Bool) (xs : List α) : List α := xs.foldl (fun acc a => insertBy lt a acc) []

/-- Add to a counter that saturates at `top` (Table 19–6). -/
def satAdd (top a n : Nat) : Nat := min top (a + n)

/-- Lexicographic order of byte strings as unsigned big-endian numbers (R157, R190). -/
def bytesLt : List Byte → List Byte → Bool
  | [], [] => false
  | [], _ :: _ => true
  | _ :: _, [] => false
  | a :: as, b :: bs => if a.toNat < b.toNat then true else if b.toNat < a.toNat then false else bytesLt as bs

end Sys2Proof
end

