-- ==== Sys2Proof/Machine/Crypto.lean ====
section
/-! DEFINITION. The derivations of the manual over the functions of outside standards: the KDF of R598, the keys of a link
session (R191) and of a drawer (R599, R600), and the stored form of a sealed line (R601). -/

namespace Sys2Proof

/-- HMAC-SHA-384 (FIPS 198-1, whose block is 128 bytes). (PRESUMED, log 13.) -/
def hmac384 (key msg : List Byte) : List Byte :=
  let k := sub (if 128 < key.length then Config.sha384 key else key) 0 128
  Config.sha384 (k.map (· ^^^ 0x5C#8) ++ Config.sha384 (k.map (· ^^^ 0x36#8) ++ msg))

/-- Block i of the KDF of R598. -/
def kdfBlock (key label context : List Byte) (len i : Nat) : List Byte :=
  hmac384 key (leBytes 4 i ++ label ++ [0#8] ++ context ++ leBytes 4 len)

/-- The NIST SP 800-108 counter-mode KDF with HMAC-SHA-384 (R598): key, label, context and output length in bits. -/
def kdf (key label context : List Byte) (len : Nat) : List Byte :=
  sub ((List.range (ceilDiv len 384)).flatMap fun i => kdfBlock key label context len (i + 1)) 0 (len / 8)

/-- An ASCII string as bytes. -/
def ascii (s : String) : List Byte := s.toList.map fun c => BitVec.ofNat 8 c.toNat

/-! ## Link sessions (R191, R598) -/

/-- The session material from both ECDH values and the transcript hash (R191, R598). `lower` says that this side's nonce is
the lower one; `z1` is this side's ECDH(own ephemeral, peer static), `z2` its ECDH(own static, peer ephemeral). -/
def linkKeys (lower : Bool) (z1 z2 transcript : List Byte) : LinkKeys :=
  let m := kdf (if lower then z1 ++ z2 else z2 ++ z1) (ascii "CHLK") transcript 1024
  let low := (sub m 0 32, sub m 32 4)
  let high := (sub m 36 32, sub m 68 4)
  let tx := if lower then low else high
  let rx := if lower then high else low
  { txKey := tx.1, txSalt := tx.2, rxKey := rx.1, rxSalt := rx.2, confirm := sub m 72 48 }

/-- The 96-bit nonce of a flit (R217): the direction's salt, then the counter. -/
def flitNonce (salt : List Byte) (counter : Nat) : List Byte := sub salt 0 4 ++ leBytes 8 counter

/-! ## Drawer keys (R599 to R601) -/

/-- The access-set digest (R600): over the certificate hashes in their order. -/
def accessDigest (entries : List AccessEntry) : List Byte := Config.sha384 (entries.flatMap (·.cert))

/-- The 64-byte context of a drawer key (Table 17–3); `debug` is the code of the debug state. -/
def drawerContext (id tenant gen debug : Nat) (entries : List AccessEntry) : List Byte :=
  leBytes 2 id ++ leBytes 2 (tenant % 4096) ++ leBytes 4 gen ++ leBytes 1 debug ++ List.replicate 7 0 ++
    sub (accessDigest entries) 0 48

/-- A drawer key (R599): the XTS data key and the XTS tweak key. -/
def drawerKey (id tenant gen debug : Nat) (entries : List AccessEntry) : List Byte × List Byte :=
  let k := kdf Config.memoryRoot (ascii "WDRW") (drawerContext id tenant gen debug entries) 512
  (sub k 0 32, sub k 32 32)

/-- The stored form of a line of a sealed drawer (R601): one XTS data unit, whose tweak is the line's drawer offset divided
by 64. -/
def sealedLine (key : List Byte × List Byte) (line : Nat) (plain : List Byte) : List Byte :=
  Config.xtsEncrypt key.1 key.2 (leBytes 16 line) plain

end Sys2Proof
end

