-- ==== Sys2Proof/Machine/Cbor.lean ====
section
/-! DEFINITION. CBOR as the Bureau protocol and reports use it (R614, R637 to R639): core deterministic encoding, and the
reading of a Bureau request from its bytes. -/

namespace Sys2Proof

/-! ## Core deterministic encoding (RFC 8949, section 4.2.1) -/

/-- `n` as `k` big-endian bytes. -/
def beBytes (k n : Nat) : List Byte := (leBytes k n).reverse

/-- The head of a data item: major type and argument in its shortest form. -/
def cborHead (major n : Nat) : List Byte :=
  if n < 24 then leBytes 1 (32 * major + n)
  else if n < 2 ^ 8 then leBytes 1 (32 * major + 24) ++ beBytes 1 n
  else if n < 2 ^ 16 then leBytes 1 (32 * major + 25) ++ beBytes 2 n
  else if n < 2 ^ 32 then leBytes 1 (32 * major + 26) ++ beBytes 4 n
  else leBytes 1 (32 * major + 27) ++ beBytes 8 n

/-- An unsigned integer. -/
def cborUint (n : Nat) : List Byte := cborHead 0 n
/-- An integer. -/
def cborInt (i : Int) : List Byte := if 0 ≤ i then cborHead 0 i.toNat else cborHead 1 (-1 - i).toNat
/-- A byte string. -/
def cborBytes (b : List Byte) : List Byte := cborHead 2 b.length ++ b
/-- A text string. -/
def cborText (t : String) : List Byte := cborHead 3 (ascii t).length ++ ascii t
/-- An array of encoded items. -/
def cborArray (xs : List (List Byte)) : List Byte := cborHead 4 xs.length ++ xs.flatten
/-- A map from small unsigned keys, in ascending order, to encoded items. -/
def cborMap (xs : List (Nat × List Byte)) : List Byte := cborHead 5 xs.length ++ xs.flatMap fun e => cborUint e.1 ++ e.2
/-- false or true. -/
def cborBool (b : Bool) : List Byte := if b then [0xF5] else [0xF4]
/-- null. -/
def cborNull : List Byte := [0xF6]

/-! ## Reading -/

/-- How many bytes of argument follow an initial byte with these low bits; none for a reserved value or an indefinite length. -/
def cborWidth (low : Nat) : Option Nat :=
  if low < 24 then some 0
  else match low with
    | 24 => some 1
    | 25 => some 2
    | 26 => some 4
    | 27 => some 8
    | _ => none

/-- The head of the item that bytes begin with: its major type, its argument, and what follows. None where it is not well
formed or has an indefinite length. -/
def cborArg (b : List Byte) : Option (Nat × Nat × List Byte) :=
  match b with
  | [] => none
  | h :: t =>
    match cborWidth (h.toNat % 32) with
    | none => none
    | some k =>
      if t.length < k then none
      else
        let arg := if k = 0 then h.toNat % 32 else leNat (t.take k).reverse
        if h.toNat / 32 = 7 ∧ k = 1 ∧ arg < 32 then none else some (h.toNat / 32, arg, t.drop k)

/-- What follows `n` items; none where one is not well formed. `fuel` bounds the items. -/
def cborSkip : Nat → Nat → List Byte → Option (List Byte)
  | _, 0, b => some b
  | 0, _ + 1, _ => none
  | fuel + 1, n + 1, b =>
    match cborArg b with
    | none => none
    | some (major, a, t) =>
      match major with
      | 2 => if t.length < a then none else cborSkip fuel n (t.drop a)
      | 3 => if t.length < a then none else cborSkip fuel n (t.drop a)
      | 4 => cborSkip fuel (n + a) t
      | 5 => cborSkip fuel (n + 2 * a) t
      | 6 => cborSkip fuel (n + 1) t
      | _ => cborSkip fuel n t

/-- Whether bytes are exactly one well-formed item of definite length. -/
def cborWhole (b : List Byte) : Bool := cborSkip (b.length + 1) 1 b == some []

/-- Bytes as `n` items, each with its own bytes. -/
def cborItems : Nat → List Byte → Option (List (List Byte))
  | 0, b => if b.isEmpty then some [] else none
  | n + 1, b =>
    match cborSkip (b.length + 1) 1 b with
    | none => none
    | some rest => (cborItems n rest).map fun xs => b.take (b.length - rest.length) :: xs

/-- An item as an unsigned integer. -/
def asUint (x : List Byte) : Option Nat := match cborArg x with | some (0, a, []) => some a | _ => none
/-- An item as a byte string. -/
def asBytes (x : List Byte) : Option (List Byte) :=
  match cborArg x with | some (2, a, t) => if t.length = a then some t else none | _ => none
/-- An item as a Boolean. -/
def asBool (x : List Byte) : Option Bool := if x = [0xF4] then some false else if x = [0xF5] then some true else none
/-- An item as an array of unsigned integers. -/
def asUints (x : List Byte) : Option (List Nat) :=
  match cborArg x with | some (4, a, t) => (cborItems a t).bind fun xs => xs.mapM asUint | _ => none

/-- A body: its keys and their items. -/
abbrev Body := List (Nat × List Byte)

/-- Items as pairs of a key and a value. -/
def pairUp : List (List Byte) → Option Body
  | [] => some []
  | k :: v :: xs => (asUint k).bind fun n => (pairUp xs).map fun ys => (n, v) :: ys
  | _ => none

/-- An item as a map from distinct unsigned keys. -/
def asMap (x : List Byte) : Option Body :=
  match cborArg x with
  | some (5, a, t) => ((cborItems (2 * a) t).bind pairUp).filter fun ys => decide (ys.map (·.1)).Nodup
  | _ => none

/-- The item of a key. -/
def Body.item (b : Body) (k : Nat) : Option (List Byte) := (b.find? (·.1 == k)).map (·.2)

/-- Whether a body has these keys and no other. -/
def Body.keysAre (b : Body) (ks : List Nat) : Bool := b.length == ks.length && b.all (ks.contains ·.1)

/-- A value in range. -/
def within {α : Type} (p : α → Bool) (x : Option α) : Option α := x.filter p

/-! ## Bureau requests (R637 to R639, Table 18–1) -/

/-- The largest message (R639). -/
def bureauLimit : Nat := 17 * 2 ^ 20

/-- The types of Table 18–1. -/
def bureauTypes : List Nat := (List.range 0x15).map (· + 1)

/-- The map of a request. -/
def BureauMsg.fields (m : BureauMsg) : Option Body := asMap m.raw

/-- The type of a request, or 0 where it has none. -/
def BureauMsg.typ (m : BureauMsg) : Nat := ((m.fields.bind (·.item 1)).bind asUint).getD 0

/-- The request ID, or 0 where there is none. -/
def BureauMsg.reqId (m : BureauMsg) : Nat := ((m.fields.bind (·.item 2)).bind asUint).getD 0

/-- The body of a request whose envelope is right: an ID from 1 to 2^32 − 1, and no key but 1 to 3. A body left out is empty. -/
def BureauMsg.body (m : BureauMsg) : Option Body :=
  m.fields.bind fun f =>
    if (f.all fun e => [1, 2, 3].contains e.1) && decide (1 ≤ m.reqId) && decide (m.reqId < 2 ^ 32) then
      match f.item 3 with
      | none => some []
      | some x => asMap x
    else none

/-- What a message is to the row of one type: no CBOR item that the node takes (R639), another row's, a request without effect
(R639), or the request of the row. -/
inductive BureauRead where
  | notCbor
  | other
  | bad
  | asks
deriving DecidableEq, Repr

/-- Read a message for the row of type `kind` whose operands are `v`, where `parse` reads a body of that type. (DEDUCED, log 84.) -/
def BureauMsg.read {α : Type} [BEq α] (m : BureauMsg) (kind : Nat) (parse : Body → Option α) (v : α) : BureauRead :=
  if decide (bureauLimit < m.raw.length) || !cborWhole m.raw then .notCbor
  else if m.typ = kind then
    match m.body.bind parse with
    | none => .bad
    | some w => if w == v then .asks else .other
  else if bureauTypes.contains m.typ then .other
  else .bad

/-- An empty body. -/
def noBody (b : Body) : Option Unit := if b.isEmpty then some () else none

/-- FAULT_READ: start index and count. -/
def faultReadBody (b : Body) : Option (Nat × Nat) :=
  if !b.keysAre [1, 2] then none
  else match within (· < 2 ^ 32) ((b.item 1).bind asUint), within (fun n => decide (1 ≤ n) && decide (n ≤ 256)) ((b.item 2).bind asUint) with
    | some i, some n => some (i, n)
    | _, _ => none

/-- FAULT_ACK: new head and whether to clear the overflow count. -/
def faultAckBody (b : Body) : Option (Nat × Bool) :=
  if !b.keysAre [1, 2] then none
  else match within (· < 2 ^ 32) ((b.item 1).bind asUint), (b.item 2).bind asBool with
    | some i, some c => some (i, c)
    | _, _ => none

/-- ATTEST: nonce, scope and drawer IDs, which go with scope 2 alone. (DEDUCED, log 84.) -/
def attestBody (b : Body) : Option (List Byte × Nat × List Nat) :=
  match within (fun (x : List Byte) => decide (1 ≤ x.length) && decide (x.length ≤ 64)) ((b.item 1).bind asBytes), (b.item 2).bind asUint with
  | some nonce, some scope =>
    if scope = 2 then
      if !b.keysAre [1, 2, 3] then none
      else (within (fun (xs : List Nat) => decide (xs.length ≤ 64) && xs.all (· < 65536)) ((b.item 3).bind asUints)).map fun ids => (nonce, scope, ids)
    else if scope < 2 ∧ b.keysAre [1, 2] then some (nonce, scope, [])
    else none
  | _, _ => none

/-- One byte string. -/
def bytesBody (p : List Byte → Bool) (b : Body) : Option (List Byte) :=
  if !b.keysAre [1] then none else within p ((b.item 1).bind asBytes)

/-- One unsigned integer. -/
def uintBody (p : Nat → Bool) (b : Body) : Option Nat :=
  if !b.keysAre [1] then none else within p ((b.item 1).bind asUint)

/-- SUBSCRIBE: on or off. -/
def boolBody (b : Body) : Option Bool := if !b.keysAre [1] then none else (b.item 1).bind asBool

/-- RETIRE: the stack, whether a bank, and the block or bank. -/
def retireBody (b : Body) : Option (Nat × Bool × Nat) :=
  match (b.item 1).bind asUint with
  | none => none
  | some st =>
    if b.keysAre [1, 2] then ((b.item 2).bind asUint).map fun u => (st, false, u)
    else if b.keysAre [1, 3] then ((b.item 3).bind asUint).map fun u => (st, true, u)
    else none

/-- INJECT: the kind, the target and whether to cancel; the target in one of its two forms. (DEDUCED, log 84.) -/
def injectBody (b : Body) : Option (Nat × InjectTarget × Bool) :=
  match within (· < 4) ((b.item 1).bind asUint), (b.item 4).bind asBool with
  | some k, some c =>
    if b.keysAre [1, 2, 4] then
      match (b.item 2).bind asUints with
      | some [st, l] => some (k, .physical st l, c)
      | _ => none
    else if b.keysAre [1, 3, 4] then
      match (b.item 3).bind asUints with
      | some [d, o] => some (k, .pool d o, c)
      | _ => none
    else none
  | _, _ => none

/-- INJECT with key 4 false. -/
def armBody (b : Body) : Option (Option (Nat × InjectTarget)) :=
  (injectBody b).map fun x => if x.2.2 then none else some (x.1, x.2.1)

/-- INJECT with key 4 true, of whatever kind. -/
def cancelBody (b : Body) : Option (Option InjectTarget) :=
  (injectBody b).map fun x => if x.2.2 then some x.2.1 else none

/-- RETENTION: the wake timer in seconds and the wake-port mask. -/
def retentionBody (b : Body) : Option (Nat × Nat) :=
  if !b.keysAre [1, 2] then none
  else match within (· < 2 ^ 32) ((b.item 1).bind asUint), within (· < 2 ^ 32) ((b.item 2).bind asUint) with
    | some t, some w => some (t, w)
    | _, _ => none

/-- ENROLL: a certificate and a role. -/
def enrollBody (b : Body) : Option (List Byte × Nat) :=
  if !b.keysAre [1, 2] then none
  else match (b.item 1).bind asBytes, within (· < 2) ((b.item 2).bind asUint) with
    | some c, some r => some (c, r)
    | _, _ => none

/-! ## Replies and events as the node sends them (R637, R649) -/

/-- A reply: type, request ID, status code, and the body where it is not empty. -/
def replyItem (kind reqId status : Nat) (body : Body) : List Byte :=
  cborMap ([(1, cborUint kind), (2, cborUint reqId), (4, cborUint status)] ++ if body.isEmpty then [] else [(5, cborMap body)])

/-- An event of a subscribed session: its code, timestamp and detail, and the number dropped before it, where there are any
(R649, R650). (DEDUCED, log 110.) -/
def eventItem (code ts : Nat) (detail : List Byte) (dropped : Nat) : List Byte :=
  cborMap [(1, cborUint 0x80), (2, cborUint 0), (5, cborMap ([(1, cborUint code), (2, cborUint ts), (3, cborBytes detail)] ++
    if dropped = 0 then [] else [(4, cborUint dropped)]))]

end Sys2Proof
end

