-- ==== Sys2Proof/Machine/State.lean ====
section
/-! DEFINITION. The state of the SP16 node: everything the spec gives it, in groups that follow the spec's
chapters, the queue of waiting commands, and State.reset. A field's default is its value at reset. -/

namespace Sys2Proof.Machine

/-- Why a step can stop with a fault. No meaning of this model raises one: every command of the table
has an effect in the spec, or has none on the node. (DESIGN CHOICE, log 6.) -/
inductive Fault where
  /-- Raised by no meaning. Kept for a behaviour after stress beyond an absolute maximum rating, which
  R72 leaves unspecified and which no command of the table brings about. Safe. -/
  | beyondAbsoluteMaximum
deriving DecidableEq, Repr

/-- Why a step can be refused. (DESIGN CHOICE, log 6.) -/
inductive Refusal where
  /-- Raised by an arm of exec whose command has no meaning yet. Safe. -/
  | notModelled (mnemonic : String)
deriving DecidableEq, Repr

/-! ## Power, start-up, retention (chapters 2 and 4) -/

/-- The node states of Table 4–1, in its order. -/
inductive NodeState where
  | off | sealBoot | selfTest | memoryTrain | awaitJoinery | applying | ready | retention | failed
deriving DecidableEq, Repr, Inhabited

/-- The parts of the family (Table 0–1). -/
inductive Part where
  | sp1 | sp4 | sp16
deriving DecidableEq, Repr

/-- The wake source of a retention exit (Table 4–6). -/
inductive Wake where
  | light (port : Nat)
  | timer
  | host
deriving DecidableEq, Repr

/-- Retention entry and retention (R120 to R131). -/
structure Retention where
  timer      : Nat
  mask       : W32
  entered    : Option Nat := none
  detectors  : W32 := 0
  checking   : Option Nat := none
  wake       : Option Wake := none
  perstSeen  : Bool := false
  warnings   : List Nat := []
deriving DecidableEq, Repr

/-- Supplies, node state, stop record and start-up record. -/
structure Power where
  part       : Part := .sp16
  node       : NodeState := .off
  vinOn      : Bool := false
  vinMv      : Nat := 0
  starting   : Bool := false
  pwrGood    : Bool := false
  resetLow   : Bool := false
  restartDue : Bool := false
  ovStopped  : Bool := false
  ovRecord   : Option Nat := none
  highExc    : Bool := false
  highRaised : Bool := false
  tripped    : Bool := false
  failCode   : Nat := 0
  stopCause  : Nat := 0
  stopCode   : Nat := 0
  dbgFlag    : Bool := false
  maxSeq     : Nat := 0
  bootCode   : Nat := 0
  bootState  : Nat := 0
  bootCount  : Nat := 0
  shutdown   : Bool := false
  retention  : Option Retention := none
  holdOut    : List Nat := []
  sieveOut   : List Nat := []
  lexOut     : List Nat := []
  copyOut    : List Nat := []
deriving DecidableEq, Repr

/-! ## Pace loop (chapter 3) -/

/-- A voltage domain (Table 3–2). `volt` is the set voltage and `demanded` the voltage that demand asks for, both in
hundredths of a millivolt above the floor of 680 mV; the ceiling is 17,000 above it. -/
structure Domain where
  volt      : Nat := 0
  demanded  : Nat := 0
  fixed     : Option Nat := none
  hc        : Nat := 0
  junction  : BitVec 16 := 0
  occupancy : Nat := 0
  backlog   : Bool := false
  limiting  : Bool := false
  issueLim  : Bool := false
  ceilSince : Option Nat := none
  ceiling   : Bool := false
deriving DecidableEq, Repr

/-! ## Ports and links (chapters 6 and 7) -/

/-- PORT_STATE.STATE of Table 20–8, in its order. -/
inductive PortMode where
  | disabled | training | up | replay | hold | quiesce | doze | darkDoze
deriving DecidableEq, Repr, Inhabited

/-- What a message that the node sends is: a response, an outbound request by its number, a NOTIFY of a wait with the value
it carries, or a VC3 message with its fields from byte 6. -/
inductive MsgBody where
  | response (src dst : Nat) (opcode tag drawer offset : Nat) (status : Status) (word : W64)
      (slot : List Byte) (data : List Byte)
  | request (id : Nat)
  | notify (wait src dst counter : Nat) (value : W64) (slot : List Byte)
  | vc3 (kind : Nat) (fields : List Byte)
deriving DecidableEq, Repr

/-- A message of the node: its virtual channel, its slots and what it is. -/
structure Msg where
  vc    : Nat
  slots : Nat
  body  : MsgBody
deriving DecidableEq, Repr

/-- A run of DATA flits in the replay buffer that carries one message, or none (a credit-only flit): the extended sequence
number of the first, and each flit's 256 bytes, which a replay sends again (R219). -/
structure Sent where
  first : Nat
  raw   : List (List Byte)
  msg   : Option Msg
deriving DecidableEq, Repr

/-- A QUIESCE under way (R252): whether this side asked, whether its QUIESCE_DONE has been handed over and acked, the flits
accepted up to the peer's QUIESCE_DONE, and the LINK_DOWN_PLANNED reason that the node will give. -/
structure Quiesce where
  own      : Bool := false
  sentDone : Bool := false
  acked    : Bool := false
  peerDone : Option Nat := none
  reason   : Nat := 2
deriving DecidableEq, Repr

/-- A doze asked for, agreed or under way (R207 to R211, R257); `d` is the period that DOZE_REQ states, `ackAt` the flits
accepted up to the DOZE_ACK that answers the node's own request. -/
structure Doze where
  dark     : Bool
  d        : Nat
  own      : Bool
  ackAt    : Option Nat := none
  begun    : Bool := false
  woken    : Bool := false
  lit      : Bool := false
  search   : Bool := false
deriving DecidableEq, Repr

/-- A quiet slot, the node's own or the partner's (R197 to R199, R257): length in ns, its start in flits after QUIET_REQ, the
flit position at which it starts once QUIET_REQ has gone or come, whether it was acknowledged, and whether it runs. -/
structure Quiet where
  len     : Nat
  start   : Nat
  at_     : Option Nat := none
  acked   : Bool := false
  active  : Bool := false
deriving DecidableEq, Repr

/-- A fabric port. `eqCoef` and `thCoef` count the adaptations of the equalisation and threshold loops (R88): the
coefficients are analogue values that they name. `quotaOwed` holds, by tenant, consumed slots whose credit a tracker quota
withholds (R285); `rxPos` and `txPos` count flit positions since the FEC locked, `badCw` is the last codeword that was found
uncorrectable (R179); `run` is a replay run under way with the ACK of the NAK that started it, if one did (R236); `nakDue` and
`runDue` are a NAK and a run that wait for the end of a quiet slot. -/
structure Port where
  mode       : PortMode := .disabled
  enabled    : Bool := false
  laser      : Bool := false
  width      : Nat := 0
  lane0      : Nat := 0
  half       : Bool := false
  step       : Nat := 0
  passTx     : BitVec 8 := 0
  passRx     : BitVec 8 := 0
  pauseLong  : Option Bool := none
  waitFlood  : Bool := false
  everUp     : Bool := false
  failRaised : Bool := false
  synthFails : Nat := 0
  synthHw    : Bool := false
  loopFail   : Bool := false
  alarms     : BitVec 8 := 0
  alarmHw    : BitVec 8 := 0
  flood      : Bool := false
  floodRaised : Bool := false
  cause      : Nat := 0
  frozen     : Bool := false
  eqCoef     : Nat := 0
  thCoef     : Nat := 0
  grace      : Bool := false
  session    : Nat := 0
  hasSession : Bool := false
  ka         : Option Agreement := none
  keys       : Option LinkKeys := none
  cert       : Option (List Byte) := none
  chain      : List (List Byte) := []
  ep         : Nat := 0x3FFF
  creditInit : Bool := false
  credits    : List Nat := [0, 0, 0, 0]
  held       : List Nat := [0, 0, 0, 0]
  owed       : List Nat := [0, 0, 0, 0]
  quotaOwed  : List (Nat × Nat) := []
  expected   : Nat := 0
  ackSent    : Nat := 0
  nak        : Option Bool := none
  nakDue     : Bool := false
  partialMsg : Option Partial := none
  rx         : List RxMsg := []
  trainSlots : Nat := 0
  rxPos      : Nat := 0
  badCw      : Option Nat := none
  rxCtrl     : Nat := 0x7FFFFFFFFFFFFFFF
  txCtrl     : Nat := 0x8000000000000000
  txPos      : Nat := 0
  nextSeq    : Nat := 0
  replayBuf  : List Sent := []
  run        : Option (Option Nat) := none
  runDue     : Option (Option Nat) := none
  awaitNak   : Bool := false
  timeouts   : Nat := 0
  txq        : List Msg := []
  errWin     : List Nat := []
  errCnt     : List Nat := [0, 0, 0, 0, 0, 0, 0, 0]
  flitsTx    : Nat := 0
  flitsTxW   : Nat := 0
  flitsRx    : Nat := 0
  flitsRxW   : Nat := 0
  quiesce    : Option Quiesce := none
  quiet      : Option Quiet := none
  lastQuiet  : Option Nat := none
  peerQuiet  : Option Quiet := none
  doze       : Option Doze := none
deriving DecidableEq, Repr

/-! ## Transactions (chapter 8) -/

/-- An endpoint ID bound to a certificate (R193 to R195, R716): the groups and the sessions (by port)
that keep the binding, and the certificate chain, leaf first. -/
structure Binding where
  ep    : Nat
  cert  : List Byte
  chain : List (List Byte)
  ports : List (Nat × Nat)
deriving DecidableEq, Repr

/-- What issued an outbound request of the node. -/
inductive Issuer where
  | command (q : Nat) (index : W32)
  | mask (port src : Nat) (key : Nat)
  | transfer (q : Nat) (index : W32)
  | abandoned
deriving DecidableEq, Repr

/-- An outbound request of the node (R289); `at_` is its place in the issuer's work. -/
structure OutReq where
  id      : Nat
  issuer  : Issuer
  opcode  : Nat
  dst     : Nat
  drawer  : Nat
  offset  : Nat
  word    : W64
  data    : List Byte
  at_     : Nat
  port    : Option Nat
  tag     : Nat
  sent    : Bool
deriving DecidableEq, Repr

/-- A request that has passed stages 3 and 4 of Table 1–2, or failed there with a status, and cannot complete yet: a fabric
request or a host write that waits for a reserve block (R575) or behind an earlier one (R276, R277), a MASK_FETCH that waits
for its outbound WRITEs (R561), a report request in the attestation queue (R613). `live` falls when a flush discards the
response (R246). (DEDUCED, log 42 and 88.) -/
inductive Parked where
  | req (op : Nat) (r : Req) (failed : Option Status) (live : Bool)
  | hostWrite (offset : Nat) (data : List Byte)
  | mask (op : Nat) (r : Req) (key : Nat) (left : Nat) (failed : Option Status) (word : W64) (live : Bool)
  | attest (r : Req) (live : Bool)
deriving DecidableEq, Repr

/-- The node's endpoint ID on a port group (R263), with the members whose session has lasted since it was learned.
(DEDUCED, log 40.) -/
structure NodeId where
  id  : Nat
  due : List Nat
deriving DecidableEq, Repr

/-- The transaction layer. `outbound` holds the node's requests, those without a port in the outbound queue; `stalled` what an
engine would issue while that queue is full (Table 8–4). -/
structure Fabric where
  bindings   : List Binding := []
  nodeIds    : FMap (Option NodeId) := []
  outbound   : List OutReq := []
  stalled    : List OutReq := []
  nextOut    : Nat := 1
  quarantine : List (Nat × Nat × Nat) := []
  parked     : List Parked := []
deriving DecidableEq, Repr

/-! ## Benches (chapter 9) -/

/-- The roles of Table 9–1, in register order. -/
inductive Role where
  | active | spare | rebuilding | retired | excluded
deriving DecidableEq, Repr, Inhabited

/-- The phase of a dispute (R304a to R312): retrying, waiting for the shadow after a lasting mismatch,
and, after a promotion, until the first output under the new claim. -/
inductive DisputePhase where
  | retry | shadow | kerf
deriving DecidableEq, Repr

/-- A dispute at a gate. -/
structure Dispute where
  gate   : Nat
  input  : Nat
  index  : Nat
  outA   : Option BenchOut
  outB   : Option BenchOut
  phase  : DisputePhase
  late   : Option BenchId
deriving DecidableEq, Repr

/-- An emitted output, kept in a gate's history (R303, R311), with the timebase count at which it was emitted and what is left
of a transient retry to charge (R310). -/
structure Emitted where
  gate    : Nat
  at_     : Nat
  input   : Nat
  index   : Nat
  content : Nat
  strikes : Nat
  charge  : Option (BenchId × Nat × BenchId × Nat)
deriving DecidableEq, Repr

/-- A re-admission under way (Table 9–6). -/
structure Readmit where
  bench   : BenchId
  stage   : Nat
  session : Nat
  reqId   : Nat
deriving DecidableEq, Repr

/-- The steward core of a detached bench as the debugger sees it (R706), by CORE_READ's selectors. `words` holds what the
debugger has written since the core last ran; every other word is a free value of `epoch`, which each step renews: the
spec gives the core's instruction set no meaning. (DESIGN CHOICE, log 46.) -/
structure Core where
  words   : FMap (Option W64) := []
  epoch   : Nat := 0
  running : Bool := false
deriving DecidableEq, Repr

/-- An input of the benches in the journal (R298): its sequence number, the timebase count of its delivery to the active
pair, and the command that it is. -/
structure JournalEntry where
  seq : Nat
  at_ : Nat
  cmd : Instr
deriving DecidableEq, Repr

/-- The control complex. `inputs` is the last input sequence number given, `takenA` to `takenC` the inputs that each bench has
consumed, `journal` the inputs that a bench may still consume or consume again (R299, R302), `heldIn` what has arrived while
delivery is paused (R306). (DESIGN CHOICE, log 105.) -/
structure Benches where
  roleA     : Role := .active
  roleB     : Role := .active
  roleC     : Role := .spare
  claim     : W32 := 1
  accepted  : FMap W32 := []
  fenced    : Nat := 0
  waiting   : List (Nat × BenchOut) := []
  emitted   : List Emitted := []
  dispute   : Option Dispute := none
  kerf      : Option (BenchId × Nat × W32 × Nat) := none
  charges   : List (BenchId × Nat) := []
  inputs    : Nat := 0
  takenA    : Nat := 0
  takenB    : Nat := 0
  takenC    : Nat := 0
  journal   : List JournalEntry := []
  heldIn    : List Instr := []
  lag       : Nat := 0
  throttled : Bool := false
  lastRaised : Bool := false
  transients : Nat := 0
  transientW : Nat := 0
  testFailed : List BenchId := []
  readmit   : Option Readmit := none
  detach    : Option BenchId := none
  coreA     : Core := {}
  coreB     : Core := {}
  coreC     : Core := {}
deriving DecidableEq, Repr

/-! ## Joinery (chapter 5) -/

/-- Who submitted a guarded operation. -/
inductive Submitter where
  | host
  | session (id reqId : Nat)
deriving DecidableEq, Repr

/-- An image under check or an accepted image under way. -/
inductive JnyPhase where
  | idle
  | checking (image : List Byte) (by_ : Submitter)
  | accepted (image : List Byte) (joinery : Joinery) (plan : List Extent) (full : Bool) (by_ : Submitter)
  | applied (by_ : Submitter)
deriving DecidableEq, Repr

/-- A drawer's entry of the apply report (Table 5–12). -/
structure GenEntry where
  drawer    : Nat
  wrap      : Bool
  created   : Bool
  gen       : W32
  discarded : Nat
deriving DecidableEq, Repr

/-- The joinery in force, staging, the apply report, and what an apply counts. -/
structure JoineryState where
  inForce  : Option Joinery := none
  phase    : JnyPhase := .idle
  staging  : FMap Byte := []
  result   : Nat := 0
  submit   : Status := .ok
  report   : List Byte := []
  gens     : FMap W32 := []
  dropped  : Nat := 0
  resets   : W32 := 0
  entries  : List GenEntry := []
  pointTs  : Nat := 0
  everOk   : Bool := false
deriving DecidableEq, Repr

/-! ## Stored data (chapter 10) -/

/-- The injection kinds of Table 10–5, in order. -/
inductive InjectKind where
  | readFlip1 | readFlip2 | storeFlip1 | storeFlip2
deriving DecidableEq, Repr

/-- A DRAM stack with its controller pair. `awaiting` counts the freed blocks that no sweep has zeroed yet (R174), and
`unswept` names those that an apply freed: a block of the snapshot reserve has no place of its own. (DESIGN CHOICE, log 116.) -/
structure Stack where
  lost      : Bool := false
  temp      : BitVec 16 := 0
  sparesUsed : List Nat := []
  retired   : List Nat := []
  awaiting  : Nat := 0
  unswept   : List Nat := []
  inject    : Option (InjectKind × Nat) := none
  injStatus : Status := .ok
  injAddr   : W64 := 0
  errCnt    : List Nat := [0, 0, 0, 0, 0]
  lapPos    : Nat := 0
  laps      : Nat := 0
  lapsW     : Nat := 0
  lapStart  : Nat := 0
  lapAdjust : Nat := 0
  lastLap   : Nat := 0
  overdue   : Bool := false
  demand    : Nat := 0
  corrected : Nat := 0
  headroom  : Nat := 0
  movedIn   : Nat := 0
  movedInW  : Nat := 0
  movedOut  : Nat := 0
  movedOutW : Nat := 0
  channelOut : Bool := false
  calib     : FMap (BitVec 8) := []
  calibPend : FMap (BitVec 8) := []
  lowRaised : Bool := false
  outRaised : Bool := false
  limiting  : Bool := false
deriving DecidableEq, Repr

/-- A retirement under way (R362 to R368). -/
structure RetireJob where
  stack  : Nat
  bank   : Bool
  unit   : Nat
  need   : Nat
  by_    : Submitter
deriving DecidableEq, Repr

/-- A block move of the placement loop (R91 to R96). -/
structure Move where
  drawer : Nat
  block  : Nat
  copy   : Nat
  stack  : Nat
  phys   : Nat
deriving DecidableEq, Repr

/-- A drawer's run-time state: the tag its unlisted lines bear, blocks not yet zero-stamped, a wrap sweep
under way with its start, and whether a mirrored drawer is degraded. (DEDUCED, log 86.) -/
structure DrawerState where
  stampTag  : BitVec 8 := 0
  unstamped : List (Nat × Nat) := []
  sweeping  : Option Nat := none
  degraded  : Bool := false
deriving DecidableEq, Repr

/-- Stored data: the line metadata that is not at its unlisted value, the damage that cells hold, the
translation table and the per-stack state. Tags and poison bits are keyed by drawer × 2^34 + line; a line
of a mirrored drawer has one tag and one poison bit, for both copies hold the same (R343, R344). The
poison of a block in no drawer is keyed by stack × 2^30 + line. `faults` are the lines whose cells are
damaged and not yet read or rewritten, with the flag that an injection stored them so. `tables` are the stack and
bank of each copy of the device tables, wait records and snapshot journals (R373; DESIGN CHOICE, log 133). -/
structure Dram where
  stks     : FMap Stack := []
  drawers  : FMap DrawerState := []
  dtt      : List Extent := []
  tags     : FMap (Option (BitVec 8)) := []
  poison   : FMap Bool := []
  freePoison : List Nat := []
  faults   : List (Damage × Bool) := []
  hardLog  : List (Nat × Nat × Nat × Nat) := []
  advised  : List (Nat × Bool × Nat × Nat) := []
  poisonLog : List (Nat × Nat × Nat) := []
  jobs     : List RetireJob := []
  lastRetire : Status × Nat × Nat := (.ok, 0, 0)
  moves    : List Move := []
  tables   : List (Nat × Nat) := []
deriving DecidableEq, Repr

/-! ## Engine shares (R161, R419) -/

/-- The engine time that tenants have had, by class × 4,096 + tenant: `vtime` in counts of the timebase × 10^8 / weight, so that
equal values are equal shares; `last` is the queue served last. `former` are the ENGINE_SHARE records before a delta, which the
engines of `formerOn` keep to until their next quantum boundary (Table 5–10). (DESIGN CHOICE, log 103.) -/
structure Shares where
  vtime    : FMap Nat := []
  last     : FMap Nat := []
  former   : List ShareRec := []
  formerOn : List Nat := []
deriving DecidableEq, Repr

/-! ## Sync counters (chapter 11) -/

/-- An ADD that waits for a frozen counter to thaw (R416, R658); a completion ADD names its command's queue, index
and slots, which the head passes only then (R412). -/
structure HeldAdd where
  counter : Nat
  addend  : W64
  tenant  : Nat
  command : Option (Nat × W32 × Nat)
deriving DecidableEq, Repr

/-- The sync counter store. -/
structure Sync where
  counters : FMap Counter := []
  waits    : List Wait := []
  nextWait : Nat := 1
  discards : FMap Nat := []
  heldAdds : List HeldAdd := []
deriving DecidableEq, Repr

/-! ## Hold engines (chapter 16) -/

/-- A frozen set: the hold command that froze it, or the snapshot that does, and the element set. -/
structure Frozen where
  set     : HoldSet
  tenant  : Nat
  q       : Nat
  index   : W32
  snap    : Option Nat
  at_     : Nat
  stopped : Nat
  abandoned : Nat
  cases   : List (Nat × Nat × Nat × Status)
deriving DecidableEq, Repr

/-- A RECEIVE that waits, with what has arrived (R588, R589). -/
structure Receive where
  q       : Nat
  index   : W32
  target  : Nat
  src     : Nat
  rdv     : W64
  header  : Option (List Byte)
  got     : Nat
  chunks  : List (Nat × List Byte)
  answered : Bool
deriving DecidableEq, Repr

/-- A block of the snapshot reserve: the captured contents of a drawer's block that the live drawer has since
written, kept for the snapshots listed (R574). A mirrored drawer's takes two. -/
structure Kept where
  tenant : Nat
  drawer : Nat
  block  : Nat
  cost   : Nat
  snaps  : List Nat
deriving DecidableEq, Repr

/-- A TRANSFER under way: its command, its snapshot, and from the destination's attestation on the parcel it sends with
how many body bytes have been offered (R587, R588). -/
structure Transfer where
  q      : Nat
  index  : W32
  snap   : Nat
  header : List Byte := []
  body   : List Byte := []
  sent   : Nat := 0
deriving DecidableEq, Repr

/-- The hold engines. `outcomes` keeps, by source endpoint, the rendezvous number of the last transfer and whether it was
committed (R590). -/
structure Hold where
  frozen    : List Frozen := []
  snapshots : List Snapshot := []
  kept      : List Kept := []
  nextSnap  : Nat := 1
  receives  : List Receive := []
  outcomes  : FMap (Option (W64 × Bool)) := []
  transfers : List Transfer := []
deriving DecidableEq, Repr

/-! ## Security (chapter 17) -/

/-- The lifecycle (Table 17–7). -/
inductive Lifecycle where
  | manufacture | deployed | returned
deriving DecidableEq, Repr

/-- The debug state (R618). -/
inductive DebugState where
  | locked | unlocked | unlockedSincePower
deriving DecidableEq, Repr

/-- Who asked for an attestation report. -/
inductive ReportBy where
  | host
  | session (id reqId : Nat)
  | fabric (r : Req)
deriving DecidableEq, Repr

/-- A queued report request (R613, R617). -/
structure ReportReq where
  by_   : ReportBy
  nonce : List Byte
  scope : Nat
  ids   : List Nat
deriving DecidableEq, Repr

/-- The seal processor's state. `tlsPublic` and `tlsCert` are the public key and the certificate of the TLS server, made at each
start (R628; DESIGN CHOICE, log 13). -/
structure Security where
  lifecycle : Lifecycle := .deployed
  debug     : DebugState := .locked
  challenge : Option (List Byte) := none
  keys      : List (List Byte) := []
  serial    : List Byte := List.replicate 16 0
  stepping  : BitVec 8 := 0
  secver    : BitVec 6 := 0
  reports   : List ReportReq := []
  tlsPublic : List Byte := []
  tlsCert   : List Byte := []
deriving DecidableEq, Repr

/-! ## Management port (chapter 18) -/

/-- The roles of a session (R632). -/
inductive SessRole where
  | admin | observer | enroller
deriving DecidableEq, Repr

/-- A Bureau session: not yet in a role while its handshake runs. -/
structure Session where
  id      : Nat
  role    : Option SessRole
  cert    : List Byte
  on      : Bool
  buffer  : List (Nat × Nat × List Byte)
  dropped : Nat
deriving DecidableEq, Repr

/-- The holder of the configuration lock (R646). -/
inductive Holder where
  | free
  | host
  | session (id : Nat)
deriving DecidableEq, Repr

/-- The management port. -/
structure Bureau where
  creds     : List (List Byte × Nat) := []
  sessions  : List Session := []
  lock      : Holder := .free
  presence  : Bool := false
  mac       : List Byte := List.replicate 6 0
  addresses : List (List Byte) := []
  revoked   : List (Nat × List Byte) := []
deriving DecidableEq, Repr

/-! ## Health and events (chapters 19 and 20) -/

/-- The health states (R652), in register order. -/
inductive HealthState where
  | sound | worn | spalled | failed
deriving DecidableEq, Repr, Inhabited

/-- A 32-byte entry of the fault log or the event ring (Tables 10–4 and 19–4): timestamp, code, source,
flags, and the numbers at 0x0C (4 bytes), 0x10 (8 bytes) and 0x18 (8 bytes). -/
structure EventEntry where
  ts    : Nat
  code  : Nat
  src   : Nat
  flags : Nat
  a     : Nat
  b     : Nat
  c     : Nat
deriving DecidableEq, Repr

/-- A ring of 4,096 entries, keyed by index modulo 4,096, with its indices and overflow count. -/
structure Ring where
  slots    : FMap (Option EventEntry) := []
  tail     : W32 := 0
  head     : W32 := 0
  overflow : Nat := 0
deriving DecidableEq, Repr

/-- Events: the two rings, MSI-X state and the health last reported; `once` is the point in bench input order (input number and
time) of the latest of each of the events that one input could raise twice, by its code (R659). (DEDUCED, log 93.) -/
structure Events where
  fault  : Ring := {}
  ring   : Ring := {}
  armed  : BitVec 256 := BitVec.allOnes 256
  masked : BitVec 256 := BitVec.allOnes 256
  pba    : BitVec 256 := 0
  health : HealthState := .sound
  trig   : BitVec 10 := 0
  once   : FMap (Nat × Nat) := []
deriving DecidableEq, Repr

/-! ## Host port (chapter 20) -/

/-- The host port's own registers and its link (R44, R45): whether it is up and at which width, which of J1 and J2 are
cabled, and the widest link of the port at the other end. (DESIGN CHOICE, log 114.) `msixTable` holds the MSI-X table's bytes but the vector controls, whose mask bits are in
Events. `waiting` holds the accesses that wait behind a host write (R671), oldest first. (DEDUCED, log 89.) -/
structure HostPort where
  linkUp      : Bool := false
  width       : Nat := 0
  cableJ1     : Bool := true
  cableJ2     : Bool := true
  partner     : Nat := 16
  perstLow    : Bool := false
  d3hot       : Bool := false
  snaps       : List (Interface × Nat × W32) := []
  errStatus   : Nat := 0
  errKind     : Nat := 0
  errValid    : Bool := false
  errAddr     : W64 := 0
  errCnt      : W32 := 0
  retainPorts : W32 := 0
  retainStat  : Nat := 0
  attNonce    : FMap Byte := []
  attIds      : FMap Byte := []
  attBusy     : Bool := false
  attStatus   : Nat := 0
  report      : List Byte := []
  operand     : W64 := 0
  target      : FMap Byte := []
  syncStatus  : Nat := 0
  syncFlags   : Nat := 0
  syncValue   : W64 := 0
  syncBefore  : W64 := 0
  msixTable   : FMap Byte := []
  waiting     : List Instr := []
deriving DecidableEq, Repr

/-! ## Debug access (chapter 21) -/

/-- The TAP instruction in force (Table 21–1). -/
inductive TapInstr where
  | extest | idcode | sample | dbg | bypass
deriving DecidableEq, Repr

/-- The test access port, the DBG register and the halts. (DESIGN CHOICE, log 99.) -/
structure Debug where
  ir       : TapInstr := .idcode
  shift    : List Bool := []
  driven   : List Bool := []
  cmd      : BitVec 8 := 0
  status   : Status := .ok
  busy     : Bool := false
  target   : BitVec 16 := 0
  addr     : BitVec 40 := 0
  data     : W64 := 0
  buf      : FMap Byte := []
  engHalt  : List Nat := []
  engReq   : List Nat := []
deriving DecidableEq, Repr

/-! ## Outputs -/

/-- What the node hands to an interface: the model's own record, in order, of what leaves the node.
(DESIGN CHOICE, log 4; DEDUCED, log 110.) -/
inductive Out where
  | console (ts : Nat) (text : String)
  | msix (vector : Nat)
  | message (port : Nat) (seq : Nat) (m : Msg)
  | flit (port : Nat) (raw : List Byte)
  | trainingWords (port : Nat) (words : List (List Byte))
  | reply (session reqId : Nat) (kind : Nat) (status : Status) (item : List Byte)
  | push (session : Nat) (item : List Byte)
  | closed (session : Nat) (alert : String)
  | tls (session : Nat) (result : String)
  | net (kind : String) (payload : List Byte)
  | hostRead (bar : Nat) (offset : Nat) (data : List Byte) (poisoned : Bool)
  | hostStatus (kind : String)
  | emitted (gate : Nat) (input index content : Nat) (claim : W32)
  | tdo (bits : List Bool)
  | capture (status : Status) (busy : Bool) (data : W64)
deriving DecidableEq, Repr

/-! ## The state -/

/-- The state of the node. `fresh` is the model's own counter for free values, `out` its record of outputs, `delayed` the host
port's completions that the spare's lag delays (R300), `pending` the queue of commands that wait. -/
structure State where
  power   : Power := {}
  time    : Nat := 0
  domains : FMap Domain := []
  ports   : FMap Port := []
  fabric  : Fabric := {}
  bench   : Benches := {}
  jny     : JoineryState := {}
  mem     : List Host.Cell := []
  dram    : Dram := {}
  sync    : Sync := {}
  queues  : FMap Queue := []
  shares  : Shares := {}
  ctxs    : FMap Ctx := []
  streams : FMap Stream := []
  images  : FMap (Option LexImage) := []
  hold    : Hold := {}
  sec     : Security := {}
  bureau  : Bureau := {}
  events  : Events := {}
  host    : HostPort := {}
  dbg     : Debug := {}
  out     : List Out := []
  delayed : List Out := []
  fresh   : Nat := 0
  pending : List Instr := []
deriving DecidableEq, Repr

/-- The machine right after reset: VIN not yet applied, in OFF (R104), with an empty queue. Every field
has the default its structure gives it. (DESIGN CHOICE, log 2.) -/
def State.reset : State := {}

end Sys2Proof.Machine
end

