-- ==== Sys2Proof/Machine/Events.lean ====
section
/-! DEFINITION. Time, the event catalogue (R657 to R661, R689), and how an event reaches the event ring and its
MSI-X vector, the fault log, the Bureau sessions and the console. Tenants' alert counters are in Ops.lean. -/

namespace Sys2Proof.Machine

/-- The events of Table 19–3. -/
inductive Ev where
  | sound | worn | spalled
  | thermalTrip | sealBootFail | bootTimeout | stackTrainFail | retainRestoreFail
  | inputOv | inputHigh | powerWarn | thermalLimit | selftestFail
  | retentionEnter | retentionExit
  | waitPoolExhausted | snapshotEvicted
  | benchRetired | benchThreeway | benchUnresolved | claimExhausted
  | benchTransient | spareLag | claimLast | benchDetached | benchReadmitFail
  | benchReadmitted
  | linkDown | linkFlushed | linkProtocol | trainFail | linkAuthFail | synthLockFail | portFlood
  | ambientFlood | dozeSearchFail
  | linkUp | linkResumed
  | stackLost | sparesExhausted
  | sparesLow | hardSymbol | ueTransient | linePoisoned | mirrorRepaired | mirrorDegraded | lapOverdue
  | retireAdvise
  | mirrorRebuilt | retireDone | errorInjected
  | counterSaturated | queueDone | holdDigestReady | counterWrap
  | joineryRejected | tokenRejected | debugUnlocked | configLockBroken
  | joineryApplied | genSweepDone | debugRelocked | lifecycleChanged | credentialsReset | joineryKeyEnrolled
deriving DecidableEq, Repr

/-- The event codes of Table 20–11 (R689). -/
def Ev.code : Ev → Nat
  | .sound => 0x0101 | .worn => 0x0102 | .spalled => 0x0103
  | .thermalTrip => 0x0110 | .sealBootFail => 0x0111 | .bootTimeout => 0x0112 | .stackTrainFail => 0x0113
  | .retainRestoreFail => 0x0114
  | .inputOv => 0x0120 | .inputHigh => 0x0121 | .powerWarn => 0x0122 | .thermalLimit => 0x0123
  | .selftestFail => 0x0124
  | .retentionEnter => 0x0130 | .retentionExit => 0x0131
  | .waitPoolExhausted => 0x0140 | .snapshotEvicted => 0x0141
  | .benchRetired => 0x0201 | .benchThreeway => 0x0202 | .benchUnresolved => 0x0203 | .claimExhausted => 0x0204
  | .benchTransient => 0x0210 | .spareLag => 0x0211 | .claimLast => 0x0212 | .benchDetached => 0x0213
  | .benchReadmitFail => 0x0214
  | .benchReadmitted => 0x0220
  | .linkDown => 0x0301 | .linkFlushed => 0x0302 | .linkProtocol => 0x0303 | .trainFail => 0x0304
  | .linkAuthFail => 0x0305 | .synthLockFail => 0x0306 | .portFlood => 0x0307 | .ambientFlood => 0x0308
  | .dozeSearchFail => 0x0309
  | .linkUp => 0x0310 | .linkResumed => 0x0311
  | .stackLost => 0x0401 | .sparesExhausted => 0x0402
  | .sparesLow => 0x0410 | .hardSymbol => 0x0411 | .ueTransient => 0x0412 | .linePoisoned => 0x0413
  | .mirrorRepaired => 0x0414 | .mirrorDegraded => 0x0415 | .lapOverdue => 0x0416 | .retireAdvise => 0x0417
  | .mirrorRebuilt => 0x0420 | .retireDone => 0x0421 | .errorInjected => 0x0422
  | .counterSaturated => 0x0501 | .queueDone => 0x0502 | .holdDigestReady => 0x0503 | .counterWrap => 0x0504
  | .joineryRejected => 0x0601 | .tokenRejected => 0x0602 | .debugUnlocked => 0x0603
  | .configLockBroken => 0x0604
  | .joineryApplied => 0x0610 | .genSweepDone => 0x0611 | .debugRelocked => 0x0612
  | .lifecycleChanged => 0x0613 | .credentialsReset => 0x0614 | .joineryKeyEnrolled => 0x0615

/-- The severities of Table 19–3, coded 0 INFO, 1 WARN, 2 ALERT as in Table 19–4. -/
def Ev.severity : Ev → Nat
  | .spalled | .thermalTrip | .sealBootFail | .bootTimeout | .stackTrainFail | .retainRestoreFail
  | .benchRetired | .benchThreeway | .benchUnresolved | .claimExhausted
  | .stackLost | .sparesExhausted => 2
  | .sound | .retentionEnter | .retentionExit | .benchReadmitted | .linkUp | .linkResumed
  | .mirrorRebuilt | .retireDone | .errorInjected
  | .counterSaturated | .queueDone | .holdDigestReady | .counterWrap
  | .joineryApplied | .genSweepDone | .debugRelocked | .lifecycleChanged | .credentialsReset
  | .joineryKeyEnrolled => 0
  | .worn | .inputOv | .inputHigh | .powerWarn | .thermalLimit | .selftestFail
  | .waitPoolExhausted | .snapshotEvicted
  | .benchTransient | .spareLag | .claimLast | .benchDetached | .benchReadmitFail
  | .linkDown | .linkFlushed | .linkProtocol | .trainFail | .linkAuthFail | .synthLockFail | .portFlood
  | .ambientFlood | .dozeSearchFail
  | .sparesLow | .hardSymbol | .ueTransient | .linePoisoned | .mirrorRepaired | .mirrorDegraded
  | .lapOverdue | .retireAdvise
  | .joineryRejected | .tokenRejected | .debugUnlocked | .configLockBroken => 1

/-- The event names that the console writes (R114); only the routed events need one. -/
def Ev.name : Ev → String
  | .sound => "SOUND" | .worn => "WORN" | .spalled => "SPALLED"
  | .thermalTrip => "THERMAL_TRIP" | .sealBootFail => "SEAL_BOOT_FAIL" | .bootTimeout => "BOOT_TIMEOUT"
  | .stackTrainFail => "STACK_TRAIN_FAIL" | .retainRestoreFail => "RETAIN_RESTORE_FAIL"
  | .selftestFail => "SELFTEST_FAIL"
  | .benchRetired => "BENCH_RETIRED" | .benchThreeway => "BENCH_THREEWAY"
  | .benchUnresolved => "BENCH_UNRESOLVED" | .claimExhausted => "CLAIM_EXHAUSTED"
  | .stackLost => "STACK_LOST" | .sparesExhausted => "SPARES_EXHAUSTED"
  | _ => ""

/-- The events that the console carries (Table 19–2): ALERT, SOUND and WORN, and the start-up failures. -/
def Ev.onConsole (e : Ev) : Bool :=
  e.severity == 2 || e == .sound || e == .worn || e == .selftestFail

/-- The events that the fault log leaves out (Table 19–2). -/
def Ev.offLog (e : Ev) : Bool := e == .queueDone || e == .holdDigestReady || e == .counterWrap

/-- The events that Bureau sessions do not receive (Table 19–2). -/
def Ev.offBureau (e : Ev) : Bool := e == .queueDone || e == .holdDigestReady

/-- The events that add to tenants' alert counters (Table 19–2). -/
def Ev.alerts (e : Ev) : Bool := e == .sound || e == .worn || e == .spalled || e == .benchRetired

/-- What kind of unit an event's source number counts (R661, R114). -/
inductive SourceKind where
  | node | port | bench | domain | stack
deriving DecidableEq, Repr

/-- The source of an event on the console: NODE, PORT n, BENCH A to C, DOMAIN n or STACK n (R114). -/
def sourceText (k : SourceKind) (n : Nat) : String :=
  match k with
  | .node => "NODE"
  | .port => "PORT " ++ toString n
  | .bench => "BENCH " ++ (if n = 0 then "A" else if n = 1 then "B" else "C")
  | .domain => "DOMAIN " ++ toString n
  | .stack => "STACK " ++ toString n

/-- The timestamp in ns: 3.2 ns a count, truncated (R76). -/
def timestampOf (count : Nat) : Nat := 16 * count / 5

/-- The timestamp now (R76). -/
def State.ts (s : State) : Nat := timestampOf s.time

/-- Hand something to an interface. (DESIGN CHOICE, log 4.) -/
def State.emit (s : State) (o : Out) : State := { s with out := s.out ++ [o] }

/-- A part's name in console lines (Table 0–1). -/
def Part.name : Part → String
  | .sp1 => "SP1" | .sp4 => "SP4" | .sp16 => "SP16"

/-- A console line with its CR LF (R114). -/
def State.console (s : State) (ts : Nat) (text : String) : State :=
  s.emit (.console ts (s.power.part.name ++ " " ++ toString ts ++ " " ++ text ++ "\r\n"))

/-! ## Rings -/

/-- Entries not yet consumed: tail − head modulo 2^32 (R676). -/
def Ring.unread (r : Ring) : Nat := (r.tail - r.head).toNat

/-- Append an entry; with 4,096 unconsumed it is dropped and the overflow count rises, saturating at
65,535 (R359, R678). -/
def Ring.push (r : Ring) (e : EventEntry) : Ring :=
  if 4096 ≤ r.unread then { r with overflow := satAdd 65535 r.overflow 1 }
  else { r with slots := r.slots.set (r.tail.toNat % 4096) (some e) none, tail := r.tail + 1 }

/-- A write of the consumer index: ignored outside the range from head to tail (R359, R676). -/
def Ring.setHead (r : Ring) (h : W32) : Ring :=
  if (h - r.head).toNat ≤ r.unread then { r with head := h } else r

/-- Bytes of an entry: Table 10–4 and Table 19–4 have one shape. -/
def EventEntry.bytes (e : EventEntry) : List Byte :=
  leBytes 8 e.ts ++ leBytes 2 e.code ++ leBytes 1 e.src ++ leBytes 1 e.flags ++ leBytes 4 e.a
    ++ leBytes 8 e.b ++ leBytes 8 e.c

/-! ## MSI-X -/

/-- The vector that an entry signals (Table 20–7). -/
def vectorOf (severity : Nat) (e : EventEntry) : Nat :=
  if e.code = 0x0502 then 4 + (e.a % 65536) % 252
  else if severity = 2 then 0 else if severity = 1 then 1 else 2

/-- Send a message, or hold it in the PBA while its vector is masked (R679); none is sent in D3hot (R665)
or while the link is down. -/
def State.msix (s : State) (v : Nat) : State :=
  if s.host.d3hot || !s.host.linkUp then s
  else if s.events.masked.getLsbD v then { s with events.pba := s.events.pba ||| ((1 : BitVec 256) <<< v) }
  else s.emit (.msix v)

/-- An event that entered the ring signals its vector if armed, and disarms it (R680). -/
def State.signal (s : State) (v : Nat) : State :=
  if s.events.armed.getLsbD v then
    { s with events.armed := s.events.armed &&& ~~~((1 : BitVec 256) <<< v) }.msix v
  else s

/-! ## Raising an event -/

/-- Queue an event for a subscribed session: the oldest of 1,024 undelivered is dropped and counted (R650). -/
def Session.queue (x : Session) (code ts : Nat) (detail : List Byte) : Session :=
  if !x.on then x
  else if 1024 ≤ x.buffer.length then
    { x with buffer := x.buffer.drop 1 ++ [(code, ts, detail)], dropped := satAdd 65535 x.dropped 1 }
  else { x with buffer := x.buffer ++ [(code, ts, detail)] }

/-- Put an entry on every interface of Table 19–2 but the alert counters (R657, R659). -/
def State.post (s : State) (e : Ev) (kind : SourceKind) (n : Nat) (entry : EventEntry) : State :=
  let s1 := { s with events.ring := s.events.ring.push entry }
  let s2 := if s.events.ring.unread < 4096 then s1.signal (vectorOf e.severity entry) else s1
  let s3 := if e.offLog then s2 else { s2 with events.fault := s2.events.fault.push entry }
  let s4 := if e.offBureau then s3 else
    { s3 with bureau.sessions := s3.bureau.sessions.map fun x => x.queue entry.code entry.ts (entry.bytes.drop 10) }
  if e.onConsole then s4.console entry.ts ("EVENT " ++ e.name ++ " " ++ sourceText kind n) else s4

/-- Raise an event that is not a memory event, with the details of Table 19–5; source 0xFF is the node. -/
def State.note (s : State) (e : Ev) (kind : SourceKind) (n a b c : Nat) : State :=
  s.post e kind n
    { ts := s.ts, code := e.code, src := if kind = .node then 0xFF else n, flags := e.severity, a := a, b := b, c := c }

/-- Raise a performance counter's wrap (Table 19–6, Table 20–6): the register offset in detail B. -/
def State.counterWrap (s : State) (offset : Nat) : State := s.note .counterWrap .node 0 0 offset 0

end Sys2Proof.Machine
end

