-- ==== Sys2Proof/Machine/Access.lean ====
section
/-! DEFINITION. Reading and writing the tables of the state by the number of their unit, what the part has
(Table 0–1), and looking things up in the joinery in force. -/

namespace Sys2Proof

/-- The member ports of a group. -/
def GroupRec.members (g : GroupRec) : List Nat := (List.range 32).filter fun p => g.portMask.getLsbD p
/-- The size of a drawer in bytes; sizes are in 64 KiB blocks. -/
def DrawerRec.bytes (r : DrawerRec) : Nat := r.size * 65536
/-- Whether a drawer's stack mask allows a stack; a mask of 0 allows any (Table 5–6). (DEDUCED, log 34.) -/
def DrawerRec.allows (r : DrawerRec) (n : Nat) : Bool := r.stackMask == 0 || r.stackMask.getLsbD n
/-- The access entry of a certificate in a drawer: some true where it grants write as well (R30). -/
def DrawerRec.entry (r : DrawerRec) (cert : List Byte) : Option Bool :=
  (r.entries.find? fun e => e.cert == cert).map (·.write)

/-- The key of a loaded image: tenant × 512, then 64 dictionary slots and 256 grammar slots. -/
def imageKey (t : Nat) (grammar : Bool) (slot : Nat) : Nat := t * 512 + (if grammar then 64 + slot else slot)

end Sys2Proof

namespace Sys2Proof.Machine

/-! ## What the part has (Table 0–1) -/

/-- Slices present, and so stacks. -/
def Part.slices : Part → Nat
  | .sp1 => 1 | .sp4 => 4 | .sp16 => 16

/-- Optical ports present. -/
def Part.ports (p : Part) : Nat := 2 * p.slices

/-- Sieve engines present. -/
def Part.sieves (p : Part) : Nat := 4 * p.slices

/-- Lexicon engines present. -/
def Part.lexicons (p : Part) : Nat := p.slices

/-- Copy engines present. -/
def Part.copies (p : Part) : Nat := 2 * p.slices

/-! ## Tables of the state -/

/-- Port `p`. -/
def State.port (s : State) (p : Nat) : Port := s.ports.get p {}
/-- Replace port `p`. -/
def State.setPort (s : State) (p : Nat) (v : Port) : State := { s with ports := s.ports.set p v {} }
/-- Change port `p`. -/
def State.updPort (s : State) (p : Nat) (f : Port → Port) : State := s.setPort p (f (s.port p))

/-- Stack `n`. -/
def State.stk (s : State) (n : Nat) : Stack := s.dram.stks.get n {}
/-- Replace stack `n`. -/
def State.setStk (s : State) (n : Nat) (v : Stack) : State := { s with dram.stks := s.dram.stks.set n v {} }
/-- Change stack `n`. -/
def State.updStk (s : State) (n : Nat) (f : Stack → Stack) : State := s.setStk n (f (s.stk n))

/-- Domain `d`. -/
def State.dom (s : State) (d : Nat) : Domain := s.domains.get d {}
/-- Replace domain `d`. -/
def State.setDom (s : State) (d : Nat) (v : Domain) : State := { s with domains := s.domains.set d v {} }

/-- The run-time state of drawer `d`. -/
def State.drw (s : State) (d : Nat) : DrawerState := s.dram.drawers.get d {}
/-- Replace the run-time state of drawer `d`. -/
def State.setDrw (s : State) (d : Nat) (v : DrawerState) : State :=
  { s with dram.drawers := s.dram.drawers.set d v {} }

/-- Queue `q`. -/
def State.queue (s : State) (q : Nat) : Queue := s.queues.get q {}
/-- Replace queue `q`. -/
def State.setQueue (s : State) (q : Nat) (v : Queue) : State := { s with queues := s.queues.set q v {} }

/-- The sieve context of key engine × 8 + context. -/
def State.ctx (s : State) (k : Nat) : Ctx := s.ctxs.get k {}
/-- Replace a sieve context. -/
def State.setCtx (s : State) (k : Nat) (v : Ctx) : State := { s with ctxs := s.ctxs.set k v {} }

/-- Stream context `n`. -/
def State.stream (s : State) (n : Nat) : Stream := s.streams.get n {}
/-- Replace stream context `n`. -/
def State.setStream (s : State) (n : Nat) (v : Stream) : State := { s with streams := s.streams.set n v {} }

/-- Sync counter `c`. -/
def State.counter (s : State) (c : Nat) : Counter := s.sync.counters.get c {}
/-- Replace sync counter `c`. -/
def State.setCounter (s : State) (c : Nat) (v : Counter) : State :=
  { s with sync.counters := s.sync.counters.set c v {} }

/-- One more draw of a free value. (DESIGN CHOICE, log 5.) -/
def State.draw (s : State) : State := { s with fresh := s.fresh + 1 }

/-! ## Bench roles and inputs (R294, R298 to R302) -/

/-- The role of a bench. -/
def Benches.role (b : Benches) : BenchId → Role
  | .A => b.roleA | .B => b.roleB | .C => b.roleC

/-- Set the role of a bench. -/
def Benches.setRole (b : Benches) (i : BenchId) (r : Role) : Benches :=
  match i with
  | .A => { b with roleA := r }
  | .B => { b with roleB := r }
  | .C => { b with roleC := r }

/-- The benches in order. -/
def allBenches : List BenchId := [.A, .B, .C]

/-- The benches in a role. -/
def Benches.inRole (b : Benches) (r : Role) : List BenchId := allBenches.filter fun i => b.role i == r

/-- How many inputs a bench has consumed. -/
def Benches.taken (b : Benches) : BenchId → Nat
  | .A => b.takenA | .B => b.takenB | .C => b.takenC

/-- A bench has consumed `n` inputs. -/
def Benches.setTaken (b : Benches) (i : BenchId) (n : Nat) : Benches :=
  match i with
  | .A => { b with takenA := n }
  | .B => { b with takenB := n }
  | .C => { b with takenC := n }

/-- Both ACTIVE benches have consumed `n` inputs: they go on to them, or return to before later ones (R302). -/
def Benches.activesAt (b : Benches) (n : Nat) : Benches := (b.inRole .active).foldl (fun u i => u.setTaken i n) b

/-- A bench's hc in ps: as its domain measures it, or that of the slow corner before the first report (Table 0–3).
(DESIGN CHOICE, log 130.) -/
def State.benchHc (s : State) (i : BenchId) : Nat := let h := (s.dom (16 + i.num)).hc; if h = 0 then 1300 else h

/-- A time in counts of 3.2 ns, in hc of a bench. -/
def State.hcOf (s : State) (i : BenchId) (counts : Nat) : Nat := counts * 3200 / s.benchHc i

/-- The undo record of a bench (R302): the inputs that it consumed in its last 1,024 hc. -/
def State.undoRecord (s : State) (i : BenchId) : List JournalEntry :=
  s.bench.journal.filter fun e => decide (e.seq ≤ s.bench.taken i) && decide (s.hcOf i (s.time - e.at_) ≤ 1024)

/-- Whether the journal still needs an input: for a bench that has yet to consume it, or for an undo record. -/
def State.needsEntry (s : State) (e : JournalEntry) : Bool :=
  allBenches.any fun i => match s.bench.role i with
    | .active => decide (s.bench.taken i < e.seq) || decide (s.hcOf i (s.time - e.at_) ≤ 1024)
    | .spare => decide (s.bench.taken i < e.seq)
    | .rebuilding => decide (s.bench.taken i < e.seq)
    | _ => false

/-- Deliver an input to both ACTIVE benches, which consume it, and append it to the journal (R298). (DESIGN CHOICE, log 8.) -/
def State.input (s : State) (c : Instr) : State :=
  let n := s.bench.inputs + 1
  let e : JournalEntry := { seq := n, at_ := s.time, cmd := c }
  { s with bench := { (s.bench.activesAt n) with inputs := n, journal := s.bench.journal.filter s.needsEntry ++ [e] } }

/-- Whether the benches run: from SELF_TEST on, but in RETENTION and FAILED. -/
def State.benchesRun (s : State) : Bool :=
  match s.power.node with | .off | .sealBoot | .retention | .failed => false | _ => true

/-- Whether every gate holds and delivery to the active pair is paused: in a dispute or a kerf (R306, R320). -/
def State.gatesHold (s : State) : Bool := s.bench.dispute.isSome || s.bench.kerf.isSome

/-- Whether an input would wait: delivery is paused, or earlier ones wait. -/
def State.inputsWait (s : State) : Bool := s.gatesHold || !s.bench.heldIn.isEmpty

/-- An input that a port raises by what it does itself: it takes its number and its place in the journal at once, and while
delivery is paused the active pair consumes it afterwards (R298, R306, R307). (DESIGN CHOICE, log 105.) -/
def State.portInput (s : State) (c : Instr) : State :=
  if !s.benchesRun then s
  else if s.gatesHold then
    let n := s.bench.inputs + 1
    { s with bench := { s.bench with inputs := n, journal := s.bench.journal ++ [{ seq := n, at_ := s.time, cmd := c }] } }
  else s.input c

/-- What a command does that is an input of the benches: `f`, once it is delivered. While delivery is paused, or earlier inputs
wait, it waits in order (R306, R321); with no bench running it is no input. (DESIGN CHOICE, log 105.) -/
def State.deliver (s : State) (c : Instr) (f : State → State) : State :=
  if !s.benchesRun then f s
  else if s.inputsWait then { s with bench.heldIn := s.bench.heldIn ++ [c] }
  else f (s.input c)

/-- Raise an event of the node without details, once at each point in bench input order: a second one there would be the same
occurrence (R659). (DEDUCED, log 101.) -/
def State.noteOnce (s : State) (e : Ev) : State :=
  let here := (s.bench.inputs + 1, s.time)
  if s.events.once.get e.code (0, 0) = here then s
  else { s with events.once := s.events.once.set e.code here (0, 0) }.note e .node 0 0 0 0

/-! ## The joinery in force -/

/-- Whether an optional record answers a test. -/
def optAny {α : Type} (o : Option α) (p : α → Bool) : Bool := match o with | none => false | some a => p a

/-- The records that a lookup finds in the joinery in force, or none before the first apply. -/
def State.records {α : Type} (s : State) (f : Joinery → List α) : List α :=
  match s.jny.inForce with | none => [] | some j => f j

/-- The record of drawer `d`. -/
def State.drawer (s : State) (d : Nat) : Option DrawerRec := (s.records (·.drawers)).find? (·.id == d)
/-- The record of tenant `t`. -/
def State.tenant (s : State) (t : Nat) : Option TenantRec := (s.records (·.tenants)).find? (·.id == t)
/-- The record that queue `q` lies in. -/
def State.range (s : State) (q : Nat) : Option QueueRange :=
  (s.records (·.queues)).find? fun r => r.base ≤ q && q < r.base + r.count
/-- The tenant of counter `c`. -/
def State.counterTenant (s : State) (c : Nat) : Option Nat :=
  ((s.records (·.counters)).find? fun r => r.base ≤ c && c < r.base + r.count).map (·.tenant)
/-- The group that port `p` is a member of. -/
def State.groupOf (s : State) (p : Nat) : Option GroupRec :=
  (s.records (·.groups)).find? fun g => g.portMask.getLsbD p
/-- The group of number `n`. -/
def State.group (s : State) (n : Nat) : Option GroupRec := (s.records (·.groups)).find? (·.group == n)
/-- The tenant whose stream contexts include `n`. -/
def State.streamTenant (s : State) (n : Nat) : Option Nat :=
  ((s.records (·.tenants)).find? fun t => t.streamBase ≤ n && n < t.streamBase + t.streamCount).map (·.id)
/-- The LOOPS record in force (R97). -/
def State.loops (s : State) : LoopsRec :=
  match s.jny.inForce with
  | none => { volts := [], eqFreeze := 0, thFreeze := 0, dramFreeze := 0, placeFreeze := false, share := 0 }
  | some j => j.loops

/-! ## Access sets (R30, R193, R194, Table 11–1) -/

/-- The certificate bound to endpoint `ep` on a group (R193, R194). (DEDUCED, log 108.) -/
def State.boundCert (s : State) (ep : Nat) : Option (List Byte) :=
  (s.fabric.bindings.find? fun b => b.ep == ep && !b.ports.isEmpty).map (·.cert)

/-- The certificate chain of the endpoint bound as `ep`, leaf first. -/
def State.boundChain (s : State) (ep : Nat) : List (List Byte) :=
  match s.fabric.bindings.find? fun b => b.ep == ep && !b.ports.isEmpty with | none => [] | some b => b.chain

/-- Whether endpoint `ep` is bound on the group of port `p`. -/
def State.boundOn (s : State) (ep p : Nat) : Bool :=
  match s.groupOf p with
  | none => false
  | some g => s.fabric.bindings.any fun b => b.ep == ep && b.ports.any fun x => x.1 == g.group

/-- Whether a certificate has an entry in at least one drawer of tenant `t`, with write where `w` asks (Table 11–1). -/
def State.admitted (s : State) (cert : List Byte) (t : Nat) (w : Bool) : Bool :=
  (s.records (·.drawers)).any fun r =>
    r.tenant == t && match r.entry cert with | none => false | some x => x || !w

/-! ## Frozen elements (chapter 16) -/

/-- The hold set that holds counter `c`, if one does. -/
def State.counterFrozen (s : State) (c : Nat) : Bool :=
  s.hold.frozen.any fun f => f.set.counters.any fun r => r.1 ≤ c && c < r.1 + r.2
/-- Whether a hold set freezes drawer `d`. -/
def State.drawerFrozen (s : State) (d : Nat) : Bool := s.hold.frozen.any fun f => f.set.drawers.contains d
/-- Whether a hold set freezes queue `q`. -/
def State.queueFrozen (s : State) (q : Nat) : Bool := s.hold.frozen.any fun f => f.set.queues.contains q
/-- Whether a hold set freezes stream `n`. -/
def State.streamFrozen (s : State) (n : Nat) : Bool := s.hold.frozen.any fun f => f.set.streams.contains n
/-- Whether a hold set freezes context `k`. -/
def State.ctxFrozen (s : State) (k : Nat) : Bool := s.hold.frozen.any fun f => f.set.contexts.contains k
/-- Whether a generation-wrap sweep covers drawer `d`. -/
def State.sweeping (s : State) (d : Nat) : Bool := (s.drw d).sweeping.isSome

end Sys2Proof.Machine
end

