-- ==== Sys2Proof/Machine/SyncOps.lean ====
section
/-! DEFINITION. What an operation on a sync counter does (chapter 11): the addition and its saturation, the
release of waits, the merging of notifications, held additions, the checks of R379; and the doorbell rule
(R405), which a counter's doorbell target shares. -/

namespace Sys2Proof

/-- The largest value of a 64-bit word. -/
def maxWord : W64 := BitVec.allOnes 64

/-- The merging test of R394: the same kind, and the same endpoint and address or the same queue. -/
def Target.same : Target → Target → Bool
  | .endpoint e _ a, .endpoint f _ b => e == f && a == b
  | .doorbell q _, .doorbell r _ => q == r
  | _, _ => false

/-- The order of release: ascending threshold, then order of registration (R387). -/
def Wait.before (a b : Wait) : Bool :=
  a.threshold.toNat < b.threshold.toNat || (a.threshold == b.threshold && a.id < b.id)

/-- Whether a wait is registered and not released. -/
def Wait.isWaiting (w : Wait) : Bool := w.phase == .waiting

/-- Whether a wait's notification is pending before its gate (R392, R393). -/
def Wait.isPending (w : Wait) : Bool := match w.phase with | .pending _ => true | _ => false

/-- What a doorbell with new tail `t` does to a queue of `depth` slots (R405, Table 12–2). -/
def Queue.bell (q : Queue) (depth : Nat) (t : W32) : Queue × Status :=
  let d := (t - q.tail).toNat
  let f := depth - (q.tail - q.head).toNat
  if d = 0 then (q, .ok)
  else if d ≤ f then ({ q with tail := t }, .ok)
  else if d < 2 ^ 31 then (q, .range)
  else (q, .ok)

/-- Advance a queue's head past the completed slots that follow it (R412); `fuel` bounds the slots. -/
def Queue.advance (q : Queue) : Nat → Queue
  | 0 => q
  | fuel + 1 =>
    if q.finished.contains q.head then
      ({ q with head := q.head + 1, finished := q.finished.filter (· != q.head) }).advance fuel
    else q

/-- What a counter operation answers (R381). -/
structure CounterReply where
  status     : Status
  after      : W64
  before     : W64
  sat        : Bool
  satisfied  : Bool
  registered : Bool
deriving DecidableEq, Repr

/-- The answer of an operation that R379 refuses: all zero but the status (R381). -/
def CounterReply.refused (st : Status) : CounterReply :=
  { status := st, after := 0, before := 0, sat := false, satisfied := false, registered := false }

/-- A counter operation (Table 11–3). -/
inductive CounterOp where
  | add (x : W64)
  | set (x : W64)
  | read
  | wait (threshold : W64) (target : Option Target) (owner : WaitOwner)
deriving DecidableEq, Repr

/-- The operand slot of a counter response (Table 11–4). -/
def CounterReply.slot (r : CounterReply) : List Byte :=
  leBytes 8 r.before.toNat ++ leBytes 1 (b2n r.sat + 2 * b2n r.satisfied + 4 * b2n r.registered) ++ leBytes 7 0

end Sys2Proof

namespace Sys2Proof.Machine

/-- Replace the wait records. -/
def State.setWaits (s : State) (ws : List Wait) : State := { s with sync.waits := ws }

/-- Free the record of wait `id` (R384). -/
def State.freeWait (s : State) (id : Nat) : State := s.setWaits (s.sync.waits.filter (·.id != id))

/-- Count discarded notifications or additions of a tenant (R390, R393, R416); the count saturates (Table 19–6). -/
def State.discard (s : State) (t n : Nat) : State :=
  { s with sync.discards := s.sync.discards.set t (satAdd 0xFFFFFFFF (s.sync.discards.get t 0) n) 0 }

/-- Set the phase of wait `id`. -/
def State.setPhase (s : State) (id : Nat) (ph : WaitPhase) : State :=
  s.setWaits (s.sync.waits.map fun w => if w.id = id then { w with phase := ph } else w)

/-- Drop a pending notification of the same counter to the same target: the newer release takes its place
and the older record is freed (R394). -/
def State.mergeOlder (s : State) (w : Wait) : State :=
  match w.target with
  | none => s
  | some t =>
    s.setWaits (s.sync.waits.filter fun v =>
      !(v.id != w.id && v.counter == w.counter && v.isPending && optAny v.target (·.same t)))

/-- Release one wait with a status: its notification is pending, and merges (R394); a doorbell target is
rung only for OK (R390). -/
def State.releaseOne (s : State) (st : Status) (w : Wait) : State :=
  match w.target with
  | some (.doorbell _ _) =>
    if st = .ok then (s.mergeOlder w).setPhase w.id (.pending st)
    else (s.freeWait w.id).discard w.tenant 1
  | _ => (s.mergeOlder w).setPhase w.id (.pending st)

/-- Release every registered wait that satisfies `p`, in the order of R387. -/
def State.releaseAll (s : State) (p : Wait → Bool) (st : Status) : State :=
  (sortBy Wait.before (s.sync.waits.filter fun w => w.isWaiting && p w)).foldl (fun t w => t.releaseOne st w) s

/-- Release the waits that counter `c`'s value satisfies (R387); captured waits of a frozen counter are not
released (Table 11–7). -/
def State.wake (s : State) (c : Nat) : State :=
  if s.counterFrozen c then s
  else s.releaseAll (fun w => w.counter == c && decide (w.threshold.toNat ≤ (s.counter c).value.toNat)) .ok

/-- SYNC_ADD on counter `c` (Table 11–3, R396, R397). -/
def State.addCounter (s : State) (c : Nat) (x : W64) : State × Status :=
  let v := s.counter c
  if v.sat then (s, if x = 0 then .ok else .saturated)
  else if 2 ^ 64 ≤ v.value.toNat + x.toNat then
    (((s.setCounter c { value := maxWord, sat := true }).note .counterSaturated .node 0 c 0 0).wake c, .saturated)
  else ((s.setCounter c { value := v.value + x, sat := false }).wake c, .ok)

/-- SYNC_SET on counter `c` (Table 11–3); waits that the new value satisfies are released (R387, R389). -/
def State.storeCounter (s : State) (c : Nat) (x : W64) : State :=
  (s.setCounter c { value := x, sat := false }).wake c

/-- Whether a notify target passes R383 for a counter of tenant `t`. -/
def State.targetOk (s : State) (t : Nat) : Target → Bool
  | .endpoint ep _ _ => optAny (s.boundCert ep) (s.admitted · t false)
  | .doorbell q _ => optAny (s.range q) (·.tenant == t)

/-- Whether `n` more wait records are obtainable for tenant `t`: the node's pool of 1,048,576 and the
tenant's quota (R384, R385). -/
def State.waitsFree (s : State) (t n : Nat) : Bool :=
  decide (s.sync.waits.length + n ≤ 1048576) &&
  optAny (s.tenant t) fun r => decide ((s.sync.waits.filter (·.tenant == t)).length + n ≤ r.waitQuota)

/-- Register a wait; WAIT_POOL_EXHAUSTED is raised when the pool becomes full (R385). -/
def State.register (s : State) (c t : Nat) (th : W64) (target : Option Target) (owner : WaitOwner) : State :=
  let w : Wait := { id := s.sync.nextWait, counter := c, threshold := th, owner := owner, target := target,
                    tenant := t, phase := .waiting }
  let s1 := { s with sync.waits := s.sync.waits ++ [w], sync.nextWait := s.sync.nextWait + 1 }
  if s1.sync.waits.length = 1048576 then s1.noteOnce .waitPoolExhausted else s1

/-- What refuses an operation on counter `c` before it takes effect (R379): no tenant, no right there, a frozen counter.
`granted` is what Table 11–1 says of the counter's tenant. -/
def State.counterRefusal (s : State) (c : Nat) (granted : Nat → Bool) (op : CounterOp) : Option Status :=
  match s.counterTenant c with
  | none => some .denied
  | some t => if !granted t then some .denied else if s.counterFrozen c && op != .read then some .held else none

/-- What an operation on counter `c` of tenant `t` does once it may. -/
def State.counterDo (s : State) (c t : Nat) (op : CounterOp) : State × CounterReply :=
  let v := s.counter c
  let answer := fun (u : State) (st : Status) (w r : Bool) =>
    (u, ({ status := st, after := (u.counter c).value, before := v.value, sat := (u.counter c).sat,
           satisfied := w, registered := r } : CounterReply))
  match op with
  | .add x => let r := s.addCounter c x; answer r.1 r.2 false false
  | .set x => answer (s.storeCounter c x) .ok false false
  | .read => answer s .ok false false
  | .wait th target owner =>
    if v.sat || decide (th.toNat ≤ v.value.toNat) then answer s .ok true false
    else if !(match target with | none => true | some x => s.targetOk t x) then (s, .refused .denied)
    else if !s.waitsFree t 1 then (s, .refused .waitRefused)
    else answer (s.register c t th target owner) .ok false true

/-- An operation on counter `c` under the checks of R379. (DEDUCED, log 100.) -/
def State.counterOp (s : State) (c : Nat) (granted : Nat → Bool) (op : CounterOp) : State × CounterReply :=
  match s.counterRefusal c granted op with
  | some st => (s, .refused st)
  | none => s.counterDo c ((s.counterTenant c).getD 0) op

/-! ## Held additions (R416, R658) -/

/-- The slots of a command have completed: the head advances past them when every lower one has (R412). -/
def State.retireSlots (s : State) (q : Nat) (index : W32) (slots : Nat) : State :=
  let u := s.queue q
  s.setQueue q ({ u with finished := u.finished ++ (List.range slots).map fun k => index + BitVec.ofNat 32 k }.advance
    (u.finished.length + slots))

/-- Apply an addition of tenant `t`'s: held while the counter is frozen; discarded and counted when the
counter is not in the tenant's ranges (R416). The flag says that it is held. -/
def State.tenantAdd (s : State) (c : Nat) (x : W64) (t : Nat) (cmd : Option (Nat × W32 × Nat)) : State × Bool :=
  if s.counterTenant c = some t then
    if s.counterFrozen c then
      ({ s with sync.heldAdds := s.sync.heldAdds ++ [{ counter := c, addend := x, tenant := t, command := cmd }] }, true)
    else ((s.addCounter c x).1, false)
  else (s.discard t 1, false)

/-- Take up one held addition, and let its command's slots retire. -/
def State.takeHeld (s : State) (h : HeldAdd) : State :=
  let u := (s.tenantAdd h.counter h.addend h.tenant h.command).1
  match h.command with
  | none => u
  | some c => u.retireSlots c.1 c.2.1 c.2.2

/-- Take up the additions whose counter has thawed or has left its tenant, in order. -/
def State.thawAdds (s : State) : State :=
  let ready := fun (h : HeldAdd) => !s.counterFrozen h.counter || s.counterTenant h.counter != some h.tenant
  (s.sync.heldAdds.filter ready).foldl (fun u h => u.takeHeld h)
    { s with sync.heldAdds := s.sync.heldAdds.filter fun h => !ready h }

/-! ## Raising an event that concerns tenants -/

/-- A tenant's alert counter: the highest-numbered counter of its ranges (R658). -/
def State.alertCounter (s : State) (t : Nat) : Option Nat :=
  ((s.records (·.counters)).filter (·.tenant == t)).foldl
    (fun m r => some (match m with | none => r.base + r.count - 1 | some k => max k (r.base + r.count - 1))) none

/-- Add 1 to the alert counter of every tenant that has one (R658). (DEDUCED, log 101.) -/
def State.alertAll (s : State) : State :=
  (s.records (·.tenants)).foldl
    (fun u t => match u.alertCounter t.id with | none => u | some c => (u.tenantAdd c 1 t.id none).1) s

/-- Raise an event on every interface of Table 19–2 (R657). (DEDUCED, log 101.) -/
def State.raise (s : State) (e : Ev) (kind : SourceKind) (n a b c : Nat) : State :=
  if e.alerts then (s.note e kind n a b c).alertAll else s.note e kind n a b c

end Sys2Proof.Machine
end

