-- ==== Sys2Proof/Machine/Ops.lean ====
section
/-! DEFINITION. Operations over the whole node that many commands share: node states and their console lines
(R114), health (R652 to R655), entry to FAILED (R117), the bench roles, the interrupt of a BUSY bit (R679). -/

namespace Sys2Proof.Machine

/-- The outcome of a command. -/
abbrev Res := Host.Outcome State Fault Refusal

/-! ## Node states -/

/-- The names of Table 4–1. -/
def NodeState.name : NodeState → String
  | .off => "OFF" | .sealBoot => "SEAL_BOOT" | .selfTest => "SELF_TEST" | .memoryTrain => "MEMORY_TRAIN"
  | .awaitJoinery => "AWAIT_JOINERY" | .applying => "APPLYING" | .ready => "READY"
  | .retention => "RETENTION" | .failed => "FAILED"

/-- The number of a node state in Table 4–1's order. -/
def NodeState.num : NodeState → Nat
  | .off => 0 | .sealBoot => 1 | .selfTest => 2 | .memoryTrain => 3 | .awaitJoinery => 4 | .applying => 5
  | .ready => 6 | .retention => 7 | .failed => 8

/-- Whether a bound of Table 4–2 runs: that of SEAL_BOOT, SELF_TEST or MEMORY_TRAIN, or, once an image has been accepted,
that of APPLYING. A full apply from READY, whose 1.5 s R108 gives, counts as one. (DESIGN CHOICE, log 120.) -/
def State.startUpBounded (s : State) : Bool :=
  match s.power.node with
  | .sealBoot | .selfTest | .memoryTrain => true
  | .applying => match s.jny.phase with | .accepted _ _ _ _ _ | .applied _ => true | _ => false
  | _ => false

/-- Change the node state and write its console line, with the trigger or failure name where there is one (R114).
(DEDUCED, log 20.) -/
def State.setNode (s : State) (n : NodeState) (why : String) : State :=
  { s with power.node := n }.console s.ts
    ("STATE " ++ n.name ++ (if why = "" then "" else " " ++ why))

/-- Whether the node is in state `n`. -/
def State.isIn (s : State) (n : NodeState) : Bool := s.power.node == n

/-- READY, and not draining for RETENTION or SHUTDOWN (Table 4–5). -/
def State.isReady (s : State) : Bool := s.isIn .ready

/-- Whether steps 1 to 4 of Table 4–5 are under way: a retention entry or a shutdown. -/
def State.isDraining (s : State) : Bool := s.isReady && (s.power.retention.isSome || s.power.shutdown)

/-- The names of Table 9–1. -/
def Role.name : Role → String
  | .active => "ACTIVE" | .spare => "SPARE" | .rebuilding => "REBUILDING" | .retired => "RETIRED" | .excluded => "EXCLUDED"

/-! ## Health -/

/-- The names of R652. -/
def HealthState.name : HealthState → String
  | .sound => "SOUND" | .worn => "WORN" | .spalled => "SPALLED" | .failed => "FAILED"

/-- The triggers of Table 19–1, from index 1 on. -/
def triggerNames : List String :=
  ["NO_SPARE", "STACK_LOST", "SPARES_EXHAUSTED", "PACE_CEILING", "PORTS_DOWN", "SPARES_LOW", "HOLD_ENGINE_OUT", "ENGINE_OUT",
    "PORT_DOWN_HW"]

/-- Spare blocks left on a stack, of the 4,096 it starts with (R370). -/
def Stack.spares (k : Stack) : Nat := 4096 - k.sparesUsed.length

/-- The stacks present and not lost. -/
def State.liveStacks (s : State) : List Nat := (List.range s.power.part.slices).filter fun n => !(s.stk n).lost

/-- Whether a port is down for hardware reasons (R206). -/
def Port.hwDown (p : Port) : Bool := p.loopFail || p.synthHw || p.alarmHw != 0

/-- How many ports are down for hardware reasons. -/
def State.hwDownPorts (s : State) : Nat :=
  ((List.range s.power.part.ports).filter fun p => (s.port p).hwDown).length

/-- The active triggers of Table 19–1, bit n for index n; none before SELF_TEST (R653). (DEDUCED, log 45.) -/
def State.triggers (s : State) : BitVec 10 :=
  if s.isIn .off || s.isIn .sealBoot then 0 else
  let live := s.liveStacks
  let bit := fun (n : Nat) (b : Bool) => BitVec.ofNat 10 (if b then 2 ^ n else 0)
  -- the roles that a kerf changes at its step 5 are seen from its step 7 on (Table 9–4)
  bit 1 (if s.bench.kerf.isSome then s.events.trig.getLsbD 1
         else decide ((s.bench.inRole .active).length + (s.bench.inRole .spare).length < 3)) |||
  bit 2 ((List.range s.power.part.slices).any fun n => (s.stk n).lost) |||
  bit 3 (live.any fun n => (s.stk n).spares == 0) |||
  bit 4 (s.domains.any fun e => e.2.ceiling) |||
  bit 5 (decide (4 ≤ s.hwDownPorts)) |||
  bit 6 (live.any fun n => decide ((s.stk n).spares < 410)) |||
  bit 7 (!s.power.holdOut.isEmpty) |||
  bit 8 (!s.power.sieveOut.isEmpty || !s.power.lexOut.isEmpty || !s.power.copyOut.isEmpty) |||
  bit 9 (decide (1 ≤ s.hwDownPorts) && decide (s.hwDownPorts < 4))

/-- The health that a trigger mask gives (R652). -/
def healthOf (t : BitVec 10) : HealthState :=
  if t &&& 0x3E != 0 then .spalled else if t &&& 0x3C0 != 0 then .worn else .sound

/-- The codes of the health states. -/
def HealthState.num : HealthState → Nat
  | .sound => 0 | .worn => 1 | .spalled => 2 | .failed => 3

/-- The node's health (R652). -/
def State.healthNow (s : State) : HealthState := if s.isIn .failed then .failed else healthOf s.events.trig

/-- The event of a health state. -/
def HealthState.event : HealthState → Ev
  | .sound => .sound | .worn => .worn | _ => .spalled

/-- The lowest set bit of a mask, or 0. -/
def lowestBit (t : BitVec 10) : Nat := ((List.range 10).find? fun i => t.getLsbD i).getD 0

/-- Re-evaluate health at the end of a bench input (R654, R655). (DEDUCED, log 102.) -/
def State.settle (s : State) : State :=
  let t := s.triggers
  let old := s.events.trig
  if t = old then s else
  let s1 := { s with events.trig := t }
  let h := healthOf t
  let h0 := s.events.health
  if s.isIn .failed || h = h0 then s1 else
  let changed := if h0.num < h.num then t &&& ~~~old else old &&& ~~~t
  { s1 with events.health := h }.raise h.event .node 0
    (h0.num + 4 * h.num + 256 * lowestBit changed) t.toNat 0

/-- Whether the wake island has a supply: VIN is at 30 V or above (R137). (DEDUCED, log 121.) -/
def State.vinPresent (s : State) : Bool := s.power.vinOn || decide (30000 ≤ s.power.vinMv)

/-- The levels of the service connector's status outputs (R51, R53): PWR_GOOD, REPLACE_REQ and FAULT; low where VIN is
absent. -/
structure ServicePins where
  pwrGood    : Bool
  replaceReq : Bool
  fault      : Bool
deriving DecidableEq, Repr

/-- The service connector's status outputs (R51): REPLACE_REQ while the node is Spalled, FAULT in FAILED. -/
def State.servicePins (s : State) : ServicePins :=
  { pwrGood := s.vinPresent && s.power.pwrGood
    replaceReq := s.vinPresent && s.healthNow == .spalled
    fault := s.vinPresent && s.isIn .failed }

/-! ## Host link (R44, R45, R111) -/

/-- The widest of ×16, ×8, ×4 and ×1 that the cables and the other end allow: ×16 needs J1 and J2, the rest J1 (R45); 0 where
there is none. -/
def HostPort.widest (h : HostPort) : Nat :=
  if !h.cableJ1 then 0
  else ([16, 8, 4, 1].find? fun w => decide (w ≤ h.partner) && (decide (w ≤ 8) || h.cableJ2)).getD 0

/-- The host link goes down. -/
def HostPort.down (h : HostPort) : HostPort := { h with linkUp := false, width := 0 }

/-- The host link trains, unless PERST_N holds it (R111). -/
def HostPort.train (h : HostPort) : HostPort :=
  if h.perstLow || h.widest = 0 then h.down else { h with linkUp := true, width := h.widest }

/-! ## Small shared effects -/

/-- Whether a host write waits for a reserve block (R575). -/
def State.writeHeld (s : State) : Bool := s.fabric.parked.any fun x => match x with | .hostWrite _ _ => true | _ => false

/-- A BUSY bit of JNY_STAT, RETIRE_STAT, ATT_STAT or SYNC_RESULT falls: vector 3 sends a message (R679, R680).
(DEDUCED, log 29.) -/
def State.busyFell (s : State) : State := s.msix 3

/-- A performance counter: its count and its wrap count; a wrap raises COUNTER_WRAP (Table 19–6). -/
def bumpPerf (count wraps n : Nat) : Nat × Nat × Bool :=
  if count + n < 2 ^ 48 then (count + n, wraps, false) else ((count + n) % 2 ^ 48, satAdd 65535 wraps 1, true)

/-- The credential store once every session has closed: each REVOKE of a session's own entry has taken effect (R635).
(DEDUCED, log 85.) -/
def Bureau.lasting (b : Bureau) : List (List Byte × Nat) := b.creds.filter fun c => !(b.revoked.map (·.2)).contains c.1

/-- A reply on a session: to a request of type `kind`, with its bytes (R637). -/
def replyTo (session reqId kind : Nat) (st : Status) (body : Body) : Out :=
  .reply session reqId kind st (replyItem kind reqId st.code body)

/-- Reply to a Bureau request, if its session is still open (R638). `kind` is the request's message type. (DEDUCED, log 110.) -/
def State.answer (s : State) (session reqId kind : Nat) (st : Status) (body : Body) : State :=
  if s.bureau.sessions.any (·.id == session) then s.emit (replyTo session reqId kind st body) else s

/-- JOINERY_LOAD's message type (Table 18–1). -/
def kindLoad : Nat := 0x06
/-- RETIRE's message type. -/
def kindRetire : Nat := 0x07
/-- READMIT's message type. -/
def kindReadmit : Nat := 0x09

/-! ## Entry to FAILED (R117) -/

/-- What an operation that FAILED cuts short owes its submitter: NOT_READY (R118). (DEDUCED, log 122.) -/
def State.refusePending (s : State) (kind : Nat) (who : Submitter) (body : Body) : State :=
  match who with
  | .host => s.busyFell
  | .session i r => s.answer i r kind .notReady body

/-- The image, the retirements and the re-admission under way end (R117, R118). (DEDUCED, log 122.) -/
def State.endPending (s : State) : State :=
  let s1 := match s.jny.phase with
    | .idle => s
    | .checking _ w | .accepted _ _ _ _ w | .applied w =>
      { s with jny := { s.jny with phase := .idle, submit := .notReady } }.refusePending kindLoad w []
  let s2 := s.dram.jobs.foldl (fun (u : State) j =>
    { u with dram.lastRetire := (.notReady, j.stack, 0) }.refusePending kindRetire j.by_ [(1, cborUint 0)]) s1
  match s.bench.readmit with
  | none => s2
  | some r => if r.stage = 0 then s2 else s2.answer r.session r.reqId kindReadmit .notReady []

/-- A port with its laser off and its link gone. (DEDUCED, log 19.) -/
def Port.dark (p : Port) : Port :=
  { loopFail := p.loopFail, synthHw := p.synthHw, synthFails := p.synthFails, alarms := p.alarms,
    alarmHw := p.alarmHw, errCnt := p.errCnt, flitsTx := p.flitsTx, flitsTxW := p.flitsTxW,
    flitsRx := p.flitsRx, flitsRxW := p.flitsRxW, cause := p.cause, flood := p.flood }

/-- What every loss of contents takes: drawers, counters, queues, engines, snapshots, links (R117, R135). (DEDUCED, log 19.) -/
def State.loseContents (s : State) : State :=
  { s with
    mem := [], queues := [], ctxs := [], streams := [], images := [], hold := {}, sync := {}, fabric := {}, shares := {}
    ports := s.ports.mapVals Port.dark {}
    dram := { stks := s.dram.stks.mapVals (fun k => { k with inject := none }) {} }
    bench := { s.bench with dispute := none, kerf := none, waiting := [], readmit := none, throttled := false }
    power := { s.power with retention := none, shutdown := false } }

/-- Enter FAILED by event code `code`, which the stop record will name (R137), with the failure's name on the
console. The event itself has been raised. The host link trains where this ends SEAL_BOOT (R111). (DEDUCED, log 19.) -/
def State.enterFailed (s : State) (code : Nat) (why : String) : State :=
  let s1 := s.endPending.loseContents
  let s2 := { s1 with
    power := { s1.power with failCode := code }
    host := if s.isIn .sealBoot then s1.host.train else s1.host }
  s2.setNode .failed why

/-- Record a start-up failure in NODE_BOOTSTAT: the first one's code and state, and the count (Table 20–4).
(DEDUCED, log 20.) -/
def State.bootFailure (s : State) (code : Nat) : State :=
  { s with
    power.bootCode := if s.power.bootCount = 0 then code else s.power.bootCode
    power.bootState := if s.power.bootCount = 0 then s.power.node.num else s.power.bootState
    power.bootCount := satAdd 255 s.power.bootCount 1 }

end Sys2Proof.Machine
end

