-- ==== Sys2Proof/Machine/Flags.lean ====
section
/-! DEFINITION. The status words that several interfaces show (Tables 20–4 and 20–8): node state, stop record, boot
record, bench roles, port and slice state. -/

namespace Sys2Proof.Machine

/-- The number of a lifecycle state (Table 20–4). -/
def Lifecycle.num : Lifecycle → Nat
  | .manufacture => 0 | .deployed => 1 | .returned => 2

/-- The number of a debug state (Table 20–4). -/
def DebugState.num : DebugState → Nat
  | .locked => 0 | .unlocked => 1 | .unlockedSincePower => 2

/-- The number of a role in BENCH_ROLE (Table 20–4). -/
def Role.num : Role → Nat
  | .active => 0 | .spare => 1 | .rebuilding => 2 | .retired => 3 | .excluded => 4

/-- The number of a port mode in PORT_STATE (Table 20–8). -/
def PortMode.num : PortMode → Nat
  | .disabled => 0 | .training => 1 | .up => 2 | .replay => 3 | .hold => 4 | .quiesce => 5 | .doze => 6 | .darkDoze => 7

/-- NODE_STATE: the triggers show in [25:17], bit 16 + n for trigger n. -/
def State.nodeStateWord (s : State) : Nat :=
  s.power.node.num + 16 * s.healthNow.num + 256 * (s.sec.debug).num + 4096 * s.sec.lifecycle.num +
  65536 * (s.events.trig.toNat - s.events.trig.toNat % 2)

/-- NODE_STOPCAUSE: the cause, the event code for FAILED, the debug flag (R137). -/
def State.stopCauseWord (s : State) : Nat :=
  s.power.stopCause + 65536 * s.power.stopCode + 2 ^ 32 * b2n s.power.dbgFlag

/-- NODE_BOOTSTAT. -/
def State.bootStatWord (s : State) : Nat :=
  s.power.bootCode + 65536 * s.power.bootState + 2 ^ 24 * s.power.bootCount

/-- BENCH_ROLE. -/
def State.benchRoleWord (s : State) : Nat :=
  s.bench.roleA.num + 16 * s.bench.roleB.num + 256 * s.bench.roleC.num

/-- A performance counter's register: the count in [47:0], the wraps in [63:48]. -/
def perfWord (count wraps : Nat) : Nat := count % 2 ^ 48 + 2 ^ 48 * (wraps % 65536)

/-- The ports that are up, as a mask. -/
def State.portsUp (s : State) : Nat :=
  ((List.range s.power.part.ports).map fun p =>
    match (s.port p).mode with | .up => 2 ^ p | .replay => 2 ^ p | .quiesce => 2 ^ p | _ => 0).sum

/-- PORT_STATE of port `p` (Table 20–8). -/
def State.portStateWord (s : State) (p : Nat) : Nat :=
  let v := s.port p
  let g := s.groupOf p
  let id := match g with | none => 0x3FFF | some x => (match s.fabric.nodeIds.get x.group none with | none => 0x3FFF | some k => k.id)
  v.mode.num + 16 * v.width + 256 * b2n v.half + 512 * b2n v.hwDown + 1024 * b2n v.flood + 4096 * v.cause +
  65536 * v.ep + 2 ^ 32 * id + 2 ^ 48 * (match g with | none => 0 | some x => x.group)

/-- The set voltage of a domain in mV (R80). -/
def Domain.mv (v : Domain) : Nat := 680 + v.volt / 100

end Sys2Proof.Machine
end

