-- ==== Sys2Proof/Machine/FlitForm.lean ====
section
/-! DEFINITION. Forms on the fibre: codewords and lanes (R179, R180), the training word (R184), flits with their CRC and GCM
(R212 to R221), message framing (R223), VC3 and key-agreement messages (R255, R256), and the transport header (R260). -/

namespace Sys2Proof

/-! ## Codewords and lanes (R179, R180) -/

/-- Payload bits of an RS(544,514) codeword: 514 symbols of 10 bits. -/
def codewordBits : Nat := 5140

/-- The codewords that the flit at a position of the stream overlaps: flits fill codeword payloads contiguously. -/
def codewordsOf (pos : Nat) : List Nat :=
  let first := 2048 * pos / codewordBits
  let last := (2048 * pos + 2047) / codewordBits
  (List.range (last + 1 - first)).map (first + ·)

/-- The lane that carries a codeword: they are dealt to the active lanes in turn, from the lowest-numbered. -/
def codewordLane (lane0 width c : Nat) : Nat := lane0 + c % width

/-- The lane markers that a lane inserts before its codeword `c` (R180): one every 8,192 codewords of the lane, with the lane's
number and the codeword count. -/
def laneMarker (lane c : Nat) : Option (Nat × W32) := if c % 8192 = 0 then some (lane, BitVec.ofNat 32 c) else none

/-! ## The training word (Table 6–2) -/

/-- One bit step of the IEEE 802.3 CRC-32, reflected. -/
def crc32Bit (c : W32) : W32 := if c.getLsbD 0 then (c >>> 1) ^^^ 0xEDB88320#32 else c >>> 1

/-- CRC-32 of IEEE 802.3: initial value and final XOR of all ones. (PRESUMED, log 128.) -/
def crc32 (bs : List Byte) : W32 :=
  (bs.foldl (fun c b => (List.range 8).foldl (fun c _ => crc32Bit c) (c ^^^ b.zeroExtend 32)) (BitVec.allOnes 32)) ^^^
    BitVec.allOnes 32

/-- A training word (R184). -/
structure TrainWord where
  lane   : Nat
  half   : Bool
  port   : Nat
  pass   : BitVec 8
  widths : Nat
  phase  : Nat
deriving DecidableEq, Repr

/-- The 16 bytes of a training word. -/
def TrainWord.bytes (w : TrainWord) : List Byte :=
  let body := leBytes 1 0xC7 ++ leBytes 1 (w.lane % 8 + 8 * b2n w.half) ++ leBytes 1 w.port ++ leBytes 1 w.pass.toNat ++
    leBytes 1 (w.widths % 16) ++ leBytes 1 w.phase ++ List.replicate 6 0
  body ++ leBytes 4 (crc32 body).toNat

/-- The training word that 16 bytes spell; none where the CRC fails or it is none. -/
def trainWordOf (bs : List Byte) : Option TrainWord :=
  if bs.length = 16 ∧ byteAt bs 0 = 0xC7 ∧ field bs 12 4 = (crc32 (sub bs 0 12)).toNat then
    some { lane := byteAt bs 1 % 8, half := bitOf (byteAt bs 1) 3, port := byteAt bs 2, pass := BitVec.ofNat 8 (byteAt bs 3)
           widths := byteAt bs 4 % 16, phase := byteAt bs 5 }
  else none

/-! ## CRC-64 (R220) -/

/-- One bit step of the CRC: shift left, and take the polynomial where the top bit met a one. -/
def crcBit (c : W64) (b : Bool) : W64 :=
  let out := c.getLsbD 63 != b
  let sh := c <<< 1
  if out then sh ^^^ 0x42F0E1EBA9EA3693#64 else sh

/-- CRC-64/ECMA-182 (R220): initial value 0, no reflection, no final XOR; each byte's top bit first. -/
def crc64 (bs : List Byte) : W64 :=
  bs.foldl (fun c b => [7, 6, 5, 4, 3, 2, 1, 0].foldl (fun c i => crcBit c (b.getLsbD i)) c) 0

/-! ## Received flits (Tables 7–1 and 7–2) -/

/-- The header of a flit. -/
def Flit.hdr (f : Flit) : Nat := field f.raw 0 8
/-- SEQ. -/
def Flit.seq (f : Flit) : Nat := bits f.hdr 11 0
/-- ACK. -/
def Flit.ack (f : Flit) : Nat := bits f.hdr 23 12
/-- TYPE (Table 7–3). -/
def Flit.typ (f : Flit) : Nat := bits f.hdr 25 24
/-- The four credit fields. -/
def Flit.credits (f : Flit) : List Nat := [bits f.hdr 37 28, bits f.hdr 47 38, bits f.hdr 54 48, bits f.hdr 59 55]
/-- The reserved header bits are 0. -/
def Flit.clean (f : Flit) : Bool := bits f.hdr 27 26 == 0 && bits f.hdr 63 60 == 0
/-- Whether the CRC holds (R220). -/
def Flit.crcOk (f : Flit) : Bool := field f.raw 248 8 == (crc64 (sub f.raw 0 248)).toNat
/-- The control counter of an IDLE or NAK flit (R219). -/
def Flit.ctrl (f : Flit) : Nat := field f.raw 8 8
/-- No credit field is used. -/
def Flit.noCredit (f : Flit) : Bool := f.credits.all (· == 0)
/-- Bytes 16–231 of an IDLE or NAK flit are zero (R219). -/
def Flit.blank (f : Flit) : Bool := allZero (sub f.raw 16 216)
/-- The GCM tag field is zero. -/
def Flit.noTag (f : Flit) : Bool := allZero (sub f.raw 232 16)

/-- The plaintext of a DATA flit under an extended sequence number (R218), or none where the tag fails. -/
def Flit.opened (f : Flit) (k : LinkKeys) (n : Nat) : Option (List Byte) :=
  Config.gcmOpen k.rxKey (flitNonce k.rxSalt n) (sub f.raw 0 8) (sub f.raw 8 240)

/-- Whether the tag of an IDLE or NAK flit verifies under its control counter (R219). -/
def Flit.ctrlOk (f : Flit) (k : LinkKeys) : Bool :=
  (Config.gcmOpen k.rxKey (flitNonce k.rxSalt f.ctrl) (sub f.raw 0 232) (sub f.raw 232 16)).isSome

/-- The 14 slots of a payload. -/
def slotsIn (payload : List Byte) : List (List Byte) := (List.range 14).map fun i => sub payload (16 * i) 16

/-- The slots of a TRAIN flit, in clear. -/
def Flit.clearSlots (f : Flit) : List (List Byte) := slotsIn (sub f.raw 8 224)

/-! ## Sent flits -/

/-- The start of the control counters (R219). -/
def ctrlStart : Nat := 2 ^ 63

/-- A flit header (Table 7–2). -/
def flitHeader (seq ack typ : Nat) (cr : List Nat) : List Byte :=
  leBytes 8 (seq % 4096 + ack % 4096 * 2 ^ 12 + typ * 2 ^ 24 + cr.getD 0 0 * 2 ^ 28 + cr.getD 1 0 * 2 ^ 38 +
    cr.getD 2 0 * 2 ^ 48 + cr.getD 3 0 * 2 ^ 55)

/-- 248 bytes with their CRC. -/
def withCrc (body : List Byte) : List Byte := body ++ leBytes 8 (crc64 body).toNat

/-- A sealed DATA flit (R218): extended sequence number, ACK, credit fields and payload. -/
def dataFlit (k : LinkKeys) (n ack : Nat) (cr : List Nat) (payload : List Byte) : List Byte :=
  let h := flitHeader n ack 1 cr
  withCrc (h ++ sub (Config.gcmSeal k.txKey (flitNonce k.txSalt n) h (sub payload 0 224)) 0 240)

/-- A sealed IDLE (type 0) or NAK (type 2) flit (R219). -/
def ctrlFlit (k : LinkKeys) (typ ctr ack : Nat) : List Byte :=
  let body := flitHeader 0 ack typ [] ++ leBytes 8 ctr ++ List.replicate 216 0
  withCrc (body ++ sub (Config.gcmSeal k.txKey (flitNonce k.txSalt ctr) body []) 0 16)

/-- A flit in clear, with a zero tag: a TRAIN flit (R215), or an IDLE flit of training up to the end of step 6 (R186). -/
def clearFlit (typ : Nat) (payload : List Byte) : List Byte :=
  withCrc (flitHeader 0 0 typ [] ++ sub payload 0 224 ++ List.replicate 16 0)

/-- The payloads of the flits that carry a message from a flit of its own. (DEDUCED, log 37.) -/
def payloads (message : List Byte) : List (List Byte) := chunks 224 (ceilDiv message.length 224) message

/-! ## Framing (R223, R224, R229) -/

/-- The node's receive buffers in slots (Table 7–6). -/
def bufferOf : Nat → Nat
  | 0 => 4096 | 1 => 4096 | 2 => 512 | _ => 128

/-- The longest message of a virtual channel in DATA flits (Table 7–6). -/
def longestOf : Nat → Nat
  | 0 => 272 | 1 => 272 | 2 => 16 | _ => 128

/-- Where the framing of a stream stands: the message under way, the slots that the receive buffers hold, and the messages
complete so far. -/
structure Framing where
  part : Option Partial
  held : List Nat
  done : List RxMsg
deriving DecidableEq, Repr

/-- What the framing of a stream depends on: whether TRAIN flits carry it, the received flit position, the longest message
and the buffer of each channel, and whether a VC3 lead slot is one of a known type. -/
structure FrameRule where
  train   : Bool
  pos     : Nat
  longest : Nat → Nat
  space   : Nat → Nat
  known   : List Byte → Bool

/-- A message's last slot has come. -/
def FrameRule.complete (u : FrameRule) (vc : Nat) (bytes : List Byte) : RxMsg :=
  { vc := vc, train := u.train, bytes := bytes, pos := u.pos }

/-- Take the slots of a flit; none on a framing violation (R223, R229, R255). (DEDUCED, log 39.) -/
def frame (u : FrameRule) : List (List Byte) → Framing → Option Framing
  | [], x => some x
  | sl :: rest, x =>
    match x.part with
    | some q =>
      let b := q.bytes ++ sl
      frame u rest (if q.left ≤ 1 then { x with part := none, done := x.done ++ [u.complete q.vc b] }
                    else { x with part := some { q with left := q.left - 1, bytes := b } })
    | none =>
      let n := field sl 2 2
      let vc := byteAt sl 0 % 4
      if field sl 0 4 = 0 then (if allZero sl && rest.all allZero then some x else none)
      else if n = 0 ∨ u.longest vc < n ∨ u.space vc < x.held.getD vc 0 + n then none
      else if vc = 3 ∧ ¬ u.known sl then none
      else
        let held := modifyAt (· + n) x.held vc
        frame u rest (if n ≤ 1 then { x with held := held, done := x.done ++ [u.complete vc sl] }
                      else { x with held := held, part := some { vc := vc, left := n - 1, bytes := sl } })

/-- The slots of a message. -/
def RxMsg.slots (m : RxMsg) : Nat := m.bytes.length / 16

/-! ## VC3 messages (Tables 7–9 and 6–4) -/

/-- A message with a prefix (Table 7–5) of channel `vc`: `body` starts at byte 4. -/
def prefixed (vc : Nat) (body : List Byte) : List Byte :=
  let n := ceilDiv (4 + body.length) 16
  sub (leBytes 1 vc ++ leBytes 1 0 ++ leBytes 2 n ++ body) 0 (16 * n)

/-- A VC3 message: its type in byte 4 and its fields from byte 6 (R255). -/
def vc3Bytes (kind : Nat) (fields : List Byte) : List Byte := prefixed 3 (leBytes 1 kind ++ leBytes 1 0 ++ fields)

/-- The type of a VC3 message. -/
def RxMsg.kind (m : RxMsg) : Nat := byteAt m.bytes 4

/-- Bytes from byte 6, where the fields of a VC3 message start. -/
def RxMsg.fields (m : RxMsg) : List Byte := m.bytes.drop 6

/-- The bytes of fields that a one-slot VC3 message of DATA flits uses (Table 7–9). -/
def vc3Used : Nat → Nat
  | 0x05 => 3 | 0x0F => 1 | 0x10 => 6 | 0x11 => 4 | 0x12 => 4 | 0x13 => 6 | 0x14 => 6 | 0x15 => 1 | 0x16 => 0 | 0x17 => 0
  | 0x18 => 1 | _ => 10

/-- Whether the reserved bytes of a one-slot VC3 lead slot are 0 (R255): byte 5, byte 7 of DOZE_REQ and DOZE_ACK, the unused
bytes; and the reserved bits of the prefix. (DEDUCED, log 39.) -/
def vc3Clean (sl : List Byte) : Bool :=
  let k := byteAt sl 4
  byteAt sl 0 == 3 && byteAt sl 1 == 0 && byteAt sl 5 == 0 && ((k != 0x13 && k != 0x14) || byteAt sl 7 == 0) &&
  allZero (sl.drop (6 + vc3Used k))

/-- The types that DATA flits may carry: 0x0F only before the port is up (R255). -/
def dataKinds (up : Bool) (k : Nat) : Bool :=
  k == 0x04 || k == 0x05 || (decide (0x10 ≤ k) && decide (k ≤ 0x18)) || (!up && k == 0x0F)

/-- The types that TRAIN flits may carry (R255). -/
def trainKinds (k : Nat) : Bool := (decide (1 ≤ k) && decide (k ≤ 5)) || k == 0x0F

/-- Whether a VC3 lead slot of a DATA flit is a known message: KA_BIND alone may be longer than its lead slot.
(DEDUCED, log 39.) -/
def knownInData (up : Bool) (sl : List Byte) : Bool :=
  let k := byteAt sl 4
  dataKinds up k &&
    (if k = 0x04 then byteAt sl 0 == 3 && byteAt sl 1 == 0 && byteAt sl 5 == 0 else field sl 2 2 == 1 && vc3Clean sl)

/-- Whether `bytes` is the VC3 message of this type with these fields: its reserved bytes are 0 and it has no other slot. -/
def RxMsg.spells (m : RxMsg) (kind : Nat) (fields : List Byte) : Bool := m.bytes == vc3Bytes kind fields

/-! ## Key agreement (Table 6–4, R256) -/

/-- KA_HELLO's fields: version 0x01, nonce, ephemeral public key. -/
def helloFields (nonce eph : List Byte) : List Byte := leBytes 1 1 ++ sub nonce 0 32 ++ sub eph 0 97

/-- KA_CERT's fields: the chain with its byte count, the static link public key, the signature over it. -/
def certFields (chain : List (List Byte)) (link sig : List Byte) : List Byte :=
  leBytes 2 chain.flatten.length ++ chain.flatten ++ sub link 0 97 ++ sub sig 0 96

/-- The length of a DER element at the front, from its tag and length octets (X.690); none where they are no definite form of
at most three length octets. (PRESUMED, log 129.) -/
def derLength (bs : List Byte) : Option Nat :=
  let l := byteAt bs 1
  let be := fun (n : Nat) => ((bs.drop 2).take n).foldl (fun a b => a * 256 + b.toNat) 0
  if bs.length < 2 ∨ byteAt bs 0 ≠ 0x30 then none
  else if l < 0x80 then some (2 + l)
  else if l = 0x81 then some (3 + be 1)
  else if l = 0x82 then some (4 + be 2)
  else if l = 0x83 then some (5 + be 3)
  else none

/-- The certificates of a chain written in sequence; none where they do not fill it. `fuel` bounds them. -/
def splitCerts : Nat → List Byte → Option (List (List Byte))
  | _, [] => some []
  | 0, _ => none
  | fuel + 1, bs =>
    match derLength bs with
    | none => none
    | some n => if bs.length < n then none else (splitCerts fuel (bs.drop n)).map (bs.take n :: ·)

/-- A chain field: its certificates, leaf first, and the bytes after it; none where the count passes 8,192 bytes or the chain
is empty or does not parse. -/
def chainField (bs : List Byte) : Option (List (List Byte) × List Byte) :=
  let n := field bs 0 2
  if n = 0 ∨ 8192 < n ∨ bs.length < 2 + n then none
  else (splitCerts 8192 (sub bs 2 n)).map fun cs => (cs, bs.drop (2 + n))

/-- The public key of a certificate, where it is a P-384 key. -/
def certKey (der : List Byte) : Option (List Byte) := (Config.x509 der).bind (·.p384)

/-- Whether a signature in the form of R139 verifies over some bytes under a certificate's key. -/
def signedBy (der msg sig : List Byte) : Bool :=
  match certKey der with
  | none => false
  | some k => Config.ecdsaVerify (Config.sha384 k) (Config.sha384 msg) (field sig 0 48) (field sig 48 48)

/-- Whether a COSE signature, r and s of 48 big-endian bytes each (R614), verifies under the key of this digest. -/
def coseVerifies (keyDigest signed sig : List Byte) : Bool :=
  sig.length == 96 && Config.ecdsaVerify keyDigest (Config.sha384 signed) (leNat (sub sig 0 48).reverse) (leNat (sub sig 48 48).reverse)

/-- Whether each certificate of a chain is signed by the next. -/
def chainLinked : List (List Byte) → Bool
  | a :: b :: rest => Config.certSigned b a && chainLinked (b :: rest)
  | _ => true

/-- The listed CA certificates at which a chain ends (R192): its links hold, and its last certificate is a listed one or is
signed by one. (DEDUCED, log 108.) -/
def anchors (cas : List (List Byte)) (chain : List (List Byte)) : List (List Byte) :=
  match chain.getLast? with
  | none => []
  | some z => if chainLinked chain then cas.filter fun c => c == z || Config.certSigned c z else []

/-- Whether a chain ends at the Waidrian root (R595): its links hold, and its last certificate has the root's key.
(DEDUCED, log 78.) -/
def waidrian (chain : List (List Byte)) : Bool :=
  match chain.getLast?.bind certKey with
  | none => false
  | some k => chainLinked chain && Config.sha384 k == Config.rootKeyDigest

/-- The certificate hash of a chain's leaf (R157). -/
def leafHash (chain : List (List Byte)) : List Byte := Config.sha384 (chain.headD [])

/-- The transcript hash (R190): both KA_HELLO and both KA_CERT messages, the lower-nonce side's first in each pair.
(DEDUCED, log 129.) -/
def transcriptOf (lower : Bool) (ownHello ownCert peerHello peerCert : List Byte) : List Byte :=
  Config.sha384 (if lower then ownHello ++ peerHello ++ ownCert ++ peerCert else peerHello ++ ownHello ++ peerCert ++ ownCert)

/-! ## The transport header (Table 8–1) -/

/-- Whether an opcode's request carries LENGTH bytes of data (Table 8–2, Tables 15–9 and 16–8). -/
def carriesData (op : Nat) : Bool := op == 0x02 || op == 0x20 || op == 0x21 || op == 0x41 || op == 0x42

/-- A transport message: the prefix, the header of Table 8–1, operand slots and data. -/
def transportBytes (vc dst src op : Nat) (ordered : Bool) (tag drawer length offset status opslots : Nat) (word : W64)
    (ops data : List Byte) : List Byte :=
  prefixed vc (leBytes 2 (dst % 2 ^ 14) ++ leBytes 2 (src % 2 ^ 14) ++ leBytes 1 op ++ leBytes 1 (b2n ordered) ++
    leBytes 2 (tag % 4096) ++ leBytes 2 drawer ++ leBytes 2 (length % 2 ^ 13) ++ leBytes 5 offset ++ leBytes 1 status ++
    leBytes 1 (opslots % 16) ++ leBytes 1 0 ++ leBytes 8 word.toNat ++ sub ops 0 (16 * opslots) ++ data)

/-- The opcode of a transport message. -/
def RxMsg.opcode (m : RxMsg) : Nat := byteAt m.bytes 8

/-- Whether a message is a response (R271). -/
def RxMsg.isResponse (m : RxMsg) : Bool := m.vc != 3 && bitOf m.opcode 7

/-- Whether a message is a request. -/
def RxMsg.isRequest (m : RxMsg) : Bool := m.vc != 3 && !bitOf m.opcode 7

/-- The reserved bits of a prefix and of a header (Table 8–1), STATUS among them for a request, are 0. -/
def msgHeaderClean (b : List Byte) : Bool :=
  bits (byteAt b 0) 7 2 == 0 && byteAt b 1 == 0 && bits (field b 4 2) 15 14 == 0 && bits (field b 6 2) 15 14 == 0 &&
  bits (byteAt b 9) 7 1 == 0 && bits (field b 10 2) 15 12 == 0 && bits (field b 14 2) 15 13 == 0 && byteAt b 21 == 0 &&
  bits (byteAt b 22) 7 4 == 0 && byteAt b 23 == 0

/-- The request that a message spells, on a port: `found` is left to what its lines hold. `resv` says that a reserved bit or
byte is not 0, the bytes after the last data byte among them (R261). -/
def RxMsg.request (m : RxMsg) (p : Fin 32) : Req :=
  let b := m.bytes
  let k := byteAt b 22 % 16
  let n := field b 14 2 % 2 ^ 13
  let rest := b.drop (32 + 16 * k)
  { port := p, vc := ⟨m.vc % 4, Nat.mod_lt _ (by decide)⟩, dst := BitVec.ofNat 14 (field b 4 2), src := BitVec.ofNat 14 (field b 6 2)
    ordered := bitOf (byteAt b 9) 0, tag := BitVec.ofNat 12 (field b 10 2), drawer := BitVec.ofNat 16 (field b 12 2)
    length := BitVec.ofNat 13 (field b 14 2), offset := BitVec.ofNat 40 (field b 16 5), opslots := BitVec.ofNat 4 (byteAt b 22)
    word := BitVec.ofNat 64 (field b 24 8), ops := sub b 32 (16 * k)
    data := if carriesData m.opcode then rest.take n else []
    resv := !msgHeaderClean b || (carriesData m.opcode && !allZero (rest.drop n)), slots := m.slots, found := [] }

/-- The status of a code of Table 20–10. -/
def statusOf (c : Nat) : Option Status :=
  ([.ok, .poisoned, .denied, .range, .linkLost, .timeout, .saturated, .waitRefused, .format, .rejected, .held, .aborted, .shape,
    .notReady, .quantumOverrun, .debugActiveBench] : List Status).find? fun s => s.code == c

end Sys2Proof
end

