-- ==== Sys2Proof/Machine/Lines.lean ====
section
/-! DEFINITION. Stored lines (chapter 10): where a line lies, what reading it finds and records (Table 10–2), how
writes treat poison and stale tags, mirrored copies, injections, the snapshot reserve (R574, R575), the loss of a
stack (R371), and reads and writes of a drawer's bytes built from these. -/

namespace Sys2Proof

/-- Whether a snapshot of the drawer shares block `b`. -/
def Snapshot.shares (x : Snapshot) (d b : Nat) : Bool := x.drawers.any fun im => im.id == d && im.shared.contains b

end Sys2Proof

namespace Sys2Proof.Machine

/-! ## Where a line lies -/

/-- The memory address of a byte of a drawer. (DESIGN CHOICE, log 9.) -/
def addr (d off : Nat) : Nat := d * 2 ^ 40 + off

/-- The key of a line's tag and poison bit. (DESIGN CHOICE, log 9.) -/
def lineKey (d l : Nat) : Nat := d * 2 ^ 34 + l

/-- The current generation of drawer `d`. -/
def State.gen (s : State) (d : Nat) : W32 := s.jny.gens.get d 0

/-- The tag of the current generation: its low 8 bits (R331). -/
def State.curTag (s : State) (d : Nat) : BitVec 8 := (s.gen d).truncate 8

/-- The tag that line `l` of drawer `d` bears. (DEDUCED, log 86.) -/
def State.lineTag (s : State) (d l : Nat) : BitVec 8 :=
  match s.dram.tags.get (lineKey d l) none with | some t => t | none => (s.drw d).stampTag

/-- Whether line `l` of drawer `d` bears the drawer's current tag (R333). -/
def State.tagOk (s : State) (d l : Nat) : Bool := s.lineTag d l == s.curTag d

/-- Whether line `l` of drawer `d` has its poison bit set. -/
def State.poisonBit (s : State) (d l : Nat) : Bool := s.dram.poison.get (lineKey d l) false

/-- Where copy `c` of block `b` of drawer `d` lies: its stack and physical block. -/
def State.place (s : State) (d b c : Nat) : Option (Nat × Nat) :=
  (s.dram.dtt.find? fun e => e.drawer == d && e.copy == c && decide (e.first ≤ b) && decide (b < e.first + e.count)).map
    fun e => (e.stack, e.phys + (b - e.first))

/-- The places of a block on live stacks, the primary copy (the lowest stack) first. -/
def State.livePlaces (s : State) (d b : Nat) : List (Nat × Nat) :=
  sortBy (fun x y => decide (x.1 < y.1))
    ((((s.place d b 0).toList ++ (s.place d b 1).toList)).filter fun x => !(s.stk x.1).lost)

/-- The drawer and block that a physical block holds, if it holds one. -/
def State.occupant (s : State) (stack phys : Nat) : Option (Nat × Nat) :=
  (s.dram.dtt.filterMap fun e =>
    if e.stack = stack ∧ e.phys ≤ phys ∧ phys < e.phys + e.count then
      let b := e.first + (phys - e.phys)
      if s.place e.drawer b e.copy = some (stack, phys) then some (e.drawer, b) else none
    else none).head?

/-! ## Memory events (Table 10–4) -/

/-- Flag bits of a memory entry. -/
def flagLasting : Nat := 1
/-- Found by patrol. -/
def flagPatrol : Nat := 4
/-- Found by a sweep. -/
def flagSweep : Nat := 8
/-- Injected. -/
def flagInjected : Nat := 16
/-- A bank, not a block. -/
def flagBank : Nat := 32

/-- Raise a memory event. `blk` and `line` are the physical block and the line in it, `last` the eight bytes at
0x18. Channel, pseudo-channel and bank follow from the block's bank number (R713). -/
def State.memEvent (s : State) (e : Ev) (stack flags d sym1 sym2 blk line spare last : Nat) : State :=
  let k := blk / 1024
  s.post e .stack stack
    { ts := s.ts, code := e.code, src := stack, flags := flags
      a := d % 65536 + 65536 * sym1 + 16777216 * sym2
      b := blk % 2 ^ 20 + 2 ^ 20 * (line % 1024) + 2 ^ 32 * (k / 32 % 32 + 32 * (k / 16 % 2) + 64 * (k % 16))
            + 2 ^ 48 * (spare % 65536)
      c := last }

/-- 24 hours in ns. -/
def dayNs : Nat := 86400000000000

/-- Count on one of the stack's error counters (R360), saturating. -/
def State.countErr (s : State) (stack i : Nat) : State :=
  s.updStk stack fun k => { k with errCnt := modifyAt (fun n => satAdd 0xFFFFFFFF n 1) k.errCnt i }

/-- Post RETIRE_ADVISE for a block, and for its bank when eight distinct blocks of it have had one within 24 h;
each is advised at most once while it stays unretired (R361). -/
def State.advise (s : State) (stack blk line d : Nat) : State :=
  if s.dram.advised.any (fun a => a.1 == stack && !a.2.1 && a.2.2.1 == blk) || (s.stk stack).retired.contains blk then s
  else
    let s1 := { s with dram.advised := s.dram.advised ++ [(stack, false, blk, s.ts)] }
    let s2 := s1.memEvent .retireAdvise stack 0 d 0xFF 0xFF blk line 0 0
    let bank := blk / 1024
    let near : List (Nat × Bool × Nat × Nat) := s2.dram.advised.filter fun a =>
      a.1 == stack && !a.2.1 && a.2.2.1 / 1024 == bank && decide (s.ts ≤ a.2.2.2 + dayNs)
    if 8 ≤ near.length && !s2.dram.advised.any (fun a => a.1 == stack && a.2.1 && a.2.2.1 == bank) then
      ({ s2 with dram.advised := s2.dram.advised ++ [(stack, true, bank, s.ts)] }).memEvent .retireAdvise stack
        flagBank 0 0xFF 0xFF (bank * 1024) 0 0 0
    else s2

/-- Note a HARD_SYMBOL line: two distinct lines of a block within 24 h call for RETIRE_ADVISE (R361). -/
def State.noteHard (s : State) (stack blk line d : Nat) : State :=
  let s1 := { s with dram.hardLog := s.dram.hardLog ++ [(stack, blk, line, s.ts)] }
  if s.dram.hardLog.any fun h => h.1 == stack && h.2.1 == blk && h.2.2.1 != line && decide (s.ts ≤ h.2.2.2 + dayNs)
  then s1.advise stack blk line d else s1

/-! ## Loss of a stack (R371, R372) -/

/-- Whether a drawer is mirrored. -/
def State.mirrored (s : State) (d : Nat) : Bool := optAny (s.drawer d) (·.mirrored)

/-- Mark a mirrored drawer degraded and log it once for the degradation (R345). -/
def State.degrade (s : State) (d stack : Nat) : State :=
  if (s.drw d).degraded then s
  else (s.setDrw d { s.drw d with degraded := true }).memEvent .mirrorDegraded stack 0 d 0xFF 0xFF 0 0 0 0

/-- Whether every block of a bank is retired. -/
def Stack.bankGone (k : Stack) (bank : Nat) : Bool := (List.range 1024).all fun i => k.retired.contains (bank * 1024 + i)

/-- Where a copy of the node's own tables may lie beside those at `have_`: on another live stack, and on the SP1 in another bank of
stack 0 (R373). (DESIGN CHOICE, log 133.) -/
def State.tableSpot (s : State) (have_ : List (Nat × Nat)) : Option (Nat × Nat) :=
  let bank := fun (n : Nat) => (List.range 1024).find? fun b => !have_.contains (n, b) && !(s.stk n).bankGone b
  match s.liveStacks.find? fun n => s.power.part == .sp1 || !have_.any (·.1 == n) with
  | none => none
  | some n => (bank n).map fun b => (n, b)

/-- The node keeps its tables in two copies: one that a lost stack or a retired bank held is built again (R373, R346).
(DESIGN CHOICE, log 133.) -/
def State.keepTables (s : State) : State :=
  let gone := fun (t : Nat × Nat) => (s.stk t.1).lost || (s.stk t.1).bankGone t.2
  let add := fun (ts : List (Nat × Nat)) => if ts.length < 2 then ts ++ (s.tableSpot ts).toList else ts
  { s with dram.tables := add (add (s.dram.tables.filter (!gone ·))) }

/-- Declare stack `n` lost: no further access, its moves and retirements end, mirrored drawers with a copy on it
degrade, snapshots lose the shared blocks that lay on it alone (R371, R372, R345, R576). A retirement cut short
answers ABORTED. (DESIGN CHOICE, log 106.) -/
def State.loseStack (s : State) (n : Nat) : State :=
  if (s.stk n).lost then s else
  let held := (s.dram.dtt.filter (·.stack == n)).map (·.drawer)
  let s1 := (s.updStk n fun k => { k with lost := true, inject := none }).raise .stackLost .stack n
    (65536 * 0xFF + 16777216 * 0xFF) 0 0
  let s2 := ((s.records (·.drawers)).filter fun r => r.mirrored && held.contains r.id).foldl
    (fun u r => u.degrade r.id n) s1
  let gone := fun (im : DrawerImage) => im.shared.filter fun b =>
    (s2.livePlaces im.id b).isEmpty
  let s3 := { s2 with
    dram.moves := s2.dram.moves.filter fun (m : Move) => m.stack != n && (s2.place m.drawer m.block m.copy).map (fun (p : Nat × Nat) => p.1) != some n
    dram.jobs := s2.dram.jobs.filter (·.stack != n)
    hold.snapshots := s2.hold.snapshots.map fun (x : Snapshot) =>
      { x with drawers := x.drawers.map fun (im : DrawerImage) => { im with lost := im.lost ++ (gone im).filter (!im.lost.contains ·) } } }
  let s4 := (s2.dram.jobs.filter (·.stack == n)).foldl (fun u j => match j.by_ with
    | .session i r => u.answer i r 0x07 .aborted [(1, cborUint 0)]
    | .host => { u with dram.lastRetire := (.aborted, n, 0) }.busyFell) s3
  -- an SP1 has no other stack for the node's own tables (R373, R5)
  if s.power.part = .sp1 then s4.enterFailed Ev.stackLost.code "STACK_LOST" else s4.keepTables

/-- Note a poisoning that is not injected: lines in more than 64 distinct blocks of a stack within 1 s lose the
stack (R371). -/
def State.notePoison (s : State) (stack blk : Nat) : State :=
  let log := (s.dram.poisonLog.filter fun e => decide (s.ts < e.2.2 + 1000000000)) ++ [(stack, blk, s.ts)]
  let s1 := { s with dram.poisonLog := log }
  if 64 < ((log.filter (·.1 == stack)).map (·.2.1)).dedup.length then s1.loseStack stack else s1

/-! ## Reading a line (Table 10–2) -/

/-- What checking the line code of one copy finds, after the re-read: nothing to correct, a transient
correction, a lasting one, an uncorrectable first read only, or uncorrectable twice. -/
inductive Check where
  | clean | transient | lasting (sym1 sym2 : Nat) | ueTransient (sym1 sym2 : Nat) | bad (sym1 sym2 : Nat)
deriving DecidableEq, Repr

/-- Table 10–2's classes of first read and re-read. -/
def classify : Cond → Cond → Check
  | .clean, _ => .clean
  | .correctable _, .clean => .transient
  | .correctable a, .correctable b => .lasting a b
  | .correctable a, .uncorrectable _ _ => .lasting a 0xFF
  | .uncorrectable a b, .uncorrectable _ _ => .bad a b
  | .uncorrectable a b, _ => .ueTransient a b

/-- What the damage that the cells of physical line `pl` hold makes of a read. A symbol that an injection stored
corrupted stays (Table 10–5); other damage is repaired by the read that meets it, or becomes poison.
(DESIGN CHOICE, log 10.) -/
def State.damageAt (s : State) (stack pl : Nat) : State × Check × Bool :=
  match s.dram.faults.find? fun f => f.1.stack == stack && f.1.line == pl with
  | none => (s, .clean, false)
  | some f =>
    match classify f.1.first f.1.again with
    | .lasting a b =>
      (if f.2 then s else { s with dram.faults := s.dram.faults.filter (· != f) }, .lasting a b, f.2)
    | c => ({ s with dram.faults := s.dram.faults.filter (· != f) }, c, f.2)

/-- What the next read of physical line `pl` of a stack finds, whether an injection made it so, and the state
with a read injection consumed and repaired damage gone (Table 10–5). -/
def State.codeAt (s : State) (stack pl : Nat) : State × Check × Bool :=
  match (s.stk stack).inject with
  | some (.readFlip1, l) =>
    if l = pl then (s.updStk stack fun k => { k with inject := none }, .transient, true) else s.damageAt stack pl
  | some (.readFlip2, l) =>
    if l = pl then (s.updStk stack fun k => { k with inject := none }, .ueTransient 0 1, true) else s.damageAt stack pl
  | _ => s.damageAt stack pl
/-- Count and log what a check found, other than an uncorrectable line (Table 10–2's last column). `pl` is the
physical line, `d` and `off` the drawer and the line's offset, or 0 for a block in no drawer. -/
def State.recordCheck (s : State) (flags stack pl d off : Nat) (inj : Bool) : Check → State
  | .clean => s
  | .transient => s.countErr stack 0
  | .lasting a b =>
    ((s.countErr stack 1).memEvent .hardSymbol stack (flags + flagLasting + (if inj then flagInjected else 0)) d a b
      (pl / 1024) pl 0 off).noteHard stack (pl / 1024) (pl % 1024) d
  | .ueTransient a b =>
    (s.countErr stack 2).memEvent .ueTransient stack (flags + (if inj then flagInjected else 0)) d a b
      (pl / 1024) pl 0 off
  | .bad _ _ => s

/-- Log a line poisoned on one stack: the counter, LINE_POISONED, the advice and the count of R371. -/
def State.recordPoison (s : State) (flags stack pl d off : Nat) (inj : Bool) (a b : Nat) : State :=
  let s1 := ((s.countErr stack 3).memEvent .linePoisoned stack (flags + (if inj then flagInjected else 0)) d a b
    (pl / 1024) pl 0 off).advise stack (pl / 1024) (pl % 1024) d
  if inj then s1 else s1.notePoison stack (pl / 1024)

/-- The canonical form of the memory: addresses rise strictly and no listed byte is 0, which every unlisted byte of a drawer
reads as (R107, R606). (DESIGN CHOICE, log 9.) -/
def Memory.wf (m : List Host.Cell) : Bool := FMap.wf m 0

/-- The 64 bytes of a line as stored. -/
def State.lineBytes (s : State) (d l : Nat) : List Byte := FMap.getRun s.mem 0 (addr d (l * 64)) 64

/-- Store a whole line with the current tag and no poison bit (R340). -/
def State.storeLine (s : State) (d l : Nat) (data : List Byte) : State :=
  { s with
    mem := FMap.setRun 0 s.mem (addr d (l * 64)) data
    dram.tags := s.dram.tags.set (lineKey d l) (some (s.curTag d)) none
    dram.poison := s.dram.poison.set (lineKey d l) false false }

/-- Poison a line: zero data, the poison bit, the current tag (R336). -/
def State.poisonLine (s : State) (d l : Nat) : State :=
  let s1 := s.storeLine d l (List.replicate 64 0)
  { s1 with dram.poison := s1.dram.poison.set (lineKey d l) true false }

/-- What a read of a line gives: its data, whether it is poisoned, and for a sweep how it was corrected (0 not,
1 transient, 2 lasting) and whether this read poisoned it. -/
structure LineRead where
  data     : List Byte
  poisoned : Bool
  corr     : Nat
  newly    : Bool
deriving DecidableEq, Repr

/-- Zeros with POISONED. -/
def LineRead.bad (newly : Bool) : LineRead := { data := List.replicate 64 0, poisoned := true, corr := 0, newly := newly }

/-- How a sweep counts a check (R355). -/
def Check.corr : Check → Nat
  | .transient => 1 | .lasting _ _ => 2 | .ueTransient _ _ => 1 | _ => 0

/-- Read line `l` of drawer `d` from the places given, the first being served (R335, R333, R343, R344). -/
def State.readFrom (s : State) (flags d l : Nat) (places : List (Nat × Nat)) : State × LineRead :=
  match places with
  | [] => (s, .bad false)
  | (stack, phys) :: rest =>
    if s.tagOk d l && s.poisonBit d l then (s, .bad false) else
    let pl := phys * 1024 + l % 1024
    let data := if s.tagOk d l then s.lineBytes d l else List.replicate 64 0
    match s.codeAt stack pl with
    | (s1, .bad a b, inj) =>
      match rest with
      | [] => (((s1.poisonLine d l).recordPoison flags stack pl d (l * 64) inj a b), .bad true)
      | (stack2, phys2) :: _ =>
        let pl2 := phys2 * 1024 + l % 1024
        match s1.codeAt stack2 pl2 with
        | (s2, .bad a2 b2, inj2) =>
          (((s2.poisonLine d l).recordPoison flags stack pl d (l * 64) inj a b).recordPoison (flags ^^^ 2) stack2 pl2 d
            (l * 64) inj2 a2 b2, .bad true)
        | (s2, c2, inj2) =>
          (((s2.recordCheck (flags ^^^ 2) stack2 pl2 d (l * 64) inj2 c2).countErr stack 4).memEvent .mirrorRepaired stack
            (flags + (if inj then flagInjected else 0)) d a b phys pl 0 (l * 64),
            { data := data, poisoned := false, corr := 1, newly := false })
    | (s1, c, inj) =>
      (s1.recordCheck flags stack pl d (l * 64) inj c, { data := data, poisoned := false, corr := c.corr, newly := false })

/-- Read line `l` of drawer `d` for a request or an engine: the primary copy is served. -/
def State.readLine (s : State) (flags d l : Nat) : State × LineRead := s.readFrom flags d l (s.livePlaces d (l / 1024))

/-! ## Writing a line -/

/-- What a store does to the cells of one copy: an armed store injection corrupts it (Table 10–5), and a plain
store leaves no damage. -/
def State.storeCells (s : State) (stack pl : Nat) : State :=
  let s1 := { s with dram.faults := s.dram.faults.filter fun f => !(f.1.stack == stack && f.1.line == pl) }
  let hit := fun (first again : Cond) =>
    { (s1.updStk stack fun k => { k with inject := none }) with
      dram.faults := s1.dram.faults ++ [(⟨stack, pl, first, again⟩, true)] }
  match (s.stk stack).inject with
  | some (.storeFlip1, l) => if l = pl then hit (.correctable 0) (.correctable 0) else s1
  | some (.storeFlip2, l) => if l = pl then hit (.uncorrectable 0 1) (.uncorrectable 0 1) else s1
  | _ => s1

/-- Write `data` at byte `at_` of line `l`: a whole line stores and clears poison (R340); a part merges, stores
nothing in a poisoned line (R341). The flag says that the line refused. -/
def State.writeLine (s : State) (d l at_ : Nat) (data : List Byte) : State × Bool :=
  let places := s.livePlaces d (l / 1024)
  let cells := fun (u : State) => places.foldl (fun v x => v.storeCells x.1 (x.2 * 1024 + l % 1024)) u
  if places.isEmpty then (s, true)
  else if at_ = 0 && data.length = 64 then (cells (s.storeLine d l data), false)
  else
    match s.readLine 0 d l with
    | (s1, r) => if r.poisoned then (s1, true) else (cells (s1.storeLine d l (splice r.data at_ data)), false)

/-- Write a line poisoned, as a copy does where its source is (R339); nothing on a lost stack (R372). -/
def State.writePoison (s : State) (d l : Nat) : State :=
  if (s.livePlaces d (l / 1024)).isEmpty then s else s.poisonLine d l

/-! ## Ranges of a drawer -/

/-- The parts of the lines that `n` bytes from offset `off` cover: line, first byte, count. -/
def pieces (off n : Nat) : List (Nat × Nat × Nat) :=
  if n = 0 then [] else
  (List.range ((off + n - 1) / 64 - off / 64 + 1)).map fun i =>
    let l := off / 64 + i
    let a := if i = 0 then off % 64 else 0
    (l, a, min 64 (off + n - l * 64) - a)

/-- What reading a range gives: the bytes, with zeros for those of poisoned lines, the offset of the first
poisoned line (R338), and which of the bytes came of poisoned lines. -/
structure RangeRead where
  data : List Byte
  bad  : Option Nat
  mask : List Bool
deriving DecidableEq, Repr

/-- Read `n` bytes at offset `off` of drawer `d`. -/
def State.readRange (s : State) (d off n : Nat) : State × RangeRead :=
  (pieces off n).foldl (fun acc p =>
    let r := acc.1.readLine 0 d p.1
    (r.1, { data := acc.2.data ++ sub r.2.data p.2.1 p.2.2
            bad := if acc.2.bad.isNone && r.2.poisoned then some (p.1 * 64) else acc.2.bad
            mask := acc.2.mask ++ List.replicate p.2.2 r.2.poisoned }))
    (s, { data := [], bad := none, mask := [] })

/-- Write bytes at offset `off` of drawer `d`, each line on its own (R342); the offset of the first line that
refused. -/
def State.writeRange (s : State) (d off : Nat) (data : List Byte) : State × Option Nat :=
  (pieces off data.length).foldl (fun acc p =>
    let r := acc.1.writeLine d p.1 p.2.1 (sub data (p.1 * 64 + p.2.1 - off) p.2.2)
    (r.1, if acc.2.isNone && r.2 then some (p.1 * 64) else acc.2))
    (s, none)

/-! ## The snapshot reserve (R574, R575) -/

/-- Reserve blocks that a tenant's snapshots hold. -/
def State.reserveUsed (s : State) (t : Nat) : Nat :=
  ((s.hold.kept.filter (·.tenant == t)).map (·.cost)).sum

/-- Discard snapshot `id`: its reserve blocks that no other snapshot needs are free. -/
def State.dropSnapshot (s : State) (id : Nat) : State :=
  { s with
    hold.snapshots := s.hold.snapshots.filter (·.id != id)
    hold.kept := (s.hold.kept.map fun k => { k with snaps := k.snaps.filter (· != id) }).filter (!·.snaps.isEmpty) }

/-- Whether a snapshot may be evicted: it freezes no set and is not being exported or transferred (R575). -/
def State.evictable (s : State) (x : Snapshot) : Bool := !x.busy && !s.hold.frozen.any fun f => f.snap == some x.id

/-- Evict tenant `t`'s snapshots, oldest first, until `n` reserve blocks are free; none where they cannot be.
(DEDUCED, log 88.) -/
def State.reserveFor (s : State) (t n : Nat) : Nat → Option State
  | 0 => none
  | fuel + 1 =>
    if s.reserveUsed t + n ≤ ((s.tenant t).map (·.reserve)).getD 0 then some s
    else match s.hold.snapshots.find? fun x => x.tenant == t && s.evictable x with
      | none => none
      | some x => ((s.dropSnapshot x.id).noteOnce .snapshotEvicted).reserveFor t n fuel

/-- Make block `b` of drawer `d` writable: where a snapshot shares it, the snapshot keeps it in a reserve block
(R574). None where no reserve block can be had: the write waits (R575). -/
def State.unshare (s : State) (d b : Nat) : Option State :=
  if !s.hold.snapshots.any (·.shares d b) then some s else
  match s.drawer d with
  | none => some s
  | some r =>
    let cost := if r.mirrored then 2 else 1
    match s.reserveFor r.tenant cost (s.hold.snapshots.length + 1) with
    | none => none
    | some u =>
      let ids := (u.hold.snapshots.filter (·.shares d b)).map (·.id)
      if ids.isEmpty then some u else
      some { u with
        hold.kept := u.hold.kept ++ [{ tenant := r.tenant, drawer := d, block := b, cost := cost, snaps := ids }]
        hold.snapshots := u.hold.snapshots.map fun x =>
          { x with drawers := x.drawers.map fun im =>
              if im.id = d then { im with shared := im.shared.filter (· != b) } else im } }

/-- Make the blocks that a write covers writable, or answer none where it must wait (R575). (DEDUCED, log 88.) -/
def State.claimRange (s : State) (d off n : Nat) : Option State :=
  if n = 0 then some s else
  (List.range ((off + n - 1) / 65536 - off / 65536 + 1)).foldl
    (fun u i => match u with | none => none | some v => v.unshare d (off / 65536 + i)) (some s)

/-- Bring in the damage that cells have come to hold: it stays until a read meets it or a write covers it, so that what an engine,
a copy or a retirement reads later may find it too. (DESIGN CHOICE, log 10.) -/
def State.withFound (s : State) (found : List Damage) : State :=
  { s with dram.faults := s.dram.faults ++ found.map fun f => (f, false) }

end Sys2Proof.Machine
end

