-- ==== Sys2Proof/Machine/Bounds.lean ====
section
/-! DEFINITION. The bounds on what is in flight (R283, R285 to R287, R155): which fabric requests are outstanding, tracker
entries, quotas, and where engines stall issue (Table 8–4). -/

namespace Sys2Proof.Machine

/-- The tenant of a queue; 0 where it is not configured. -/
def State.queueTenant (s : State) (q : Nat) : Nat := match s.range q with | none => 0 | some r => r.tenant

/-! ## In-flight bounds (R283, R285 to R287, R155) -/

/-- Whether an opcode names no drawer for the ordering rules and the quotas (R277, R286): sync operations, DOORBELL, lexicon
commands and transfer messages. (DEDUCED, log 42.) -/
def namesNoDrawer (op : Nat) : Bool :=
  (decide (0x10 ≤ op) && decide (op ≤ 0x14)) || op == 0x18 || (decide (0x20 ≤ op) && decide (op ≤ 0x24)) || decide (0x40 ≤ op)

/-- Whether an opcode is a sync operation, which takes no tracker entry (R287). -/
def isSyncOp (op : Nat) : Bool := decide (0x10 ≤ op) && decide (op ≤ 0x14)

/-- An outstanding fabric request as the bounds see it: its port, its opcode and its drawer. -/
structure Outstanding where
  port   : Nat
  op     : Nat
  drawer : Nat
deriving DecidableEq, Repr

/-- What a waiting request counts as. -/
def Parked.outstanding : Parked → Option Outstanding
  | .req op r _ live => if live then some { port := r.port.val, op := op, drawer := r.drawer.toNat } else none
  | .mask op r _ _ _ _ live => if live then some { port := r.port.val, op := op, drawer := r.drawer.toNat } else none
  | .attest r live => if live then some { port := r.port.val, op := 0x40, drawer := r.drawer.toNat } else none
  | .hostWrite _ _ => none

/-- What a response that is not yet sent counts as. -/
def Msg.outstanding (p : Nat) (m : Msg) : Option Outstanding :=
  match m.body with
  | .response _ _ opcode _ drawer _ _ _ _ _ => some { port := p, op := opcode - 128, drawer := drawer }
  | _ => none

/-- The fabric requests outstanding on a port: in its receive buffers, waiting in the node, or with a response not yet sent.
(DEDUCED, log 43.) -/
def State.outstanding (s : State) (p : Nat) : List Outstanding :=
  let v := s.port p
  ((v.rx.filter fun m => m.isRequest && !m.train).map fun m => { port := p, op := m.opcode, drawer := field m.bytes 12 2 }) ++
  (s.fabric.parked.filterMap Parked.outstanding).filter (·.port == p) ++ v.txq.filterMap (Msg.outstanding p)

/-- The requests outstanding on every port. -/
def State.allOutstanding (s : State) : List Outstanding := (List.range s.power.part.ports).flatMap s.outstanding

/-- Tracker entries in use: fabric requests but sync operations, and the node's own requests. An engine's memory operation
takes effect within its command's step, and is outstanding in no state. (DEDUCED, log 43.) -/
def State.trackerTotal (s : State) : Nat :=
  (s.allOutstanding.filter fun x => !isSyncOp x.op).length + s.fabric.outbound.length

/-- Tracker entries that a tenant uses: its drawers' requests outstanding, and outbound requests of its queues (R286).
(DEDUCED, log 43.) -/
def State.trackerUse (s : State) (t : Nat) : Nat :=
  (s.allOutstanding.filter fun x => !namesNoDrawer x.op && optAny (s.drawer x.drawer) (·.tenant == t)).length +
  (s.fabric.outbound.filter fun o => match o.issuer with
    | .command q _ => s.queueTenant q == t | .transfer q _ => s.queueTenant q == t | _ => false).length

/-- Whether a tenant has reached its tracker quota (R155). -/
def State.atQuota (s : State) (t : Nat) : Bool := optAny (s.tenant t) fun r => decide (r.trackerQuota ≤ s.trackerUse t)

/-- Whether a tenant's write waits for a block of the snapshot reserve (R575). -/
def State.awaitsReserve (s : State) (t : Nat) : Bool :=
  s.fabric.parked.any fun x => match x with
    | .req op r none _ => !namesNoDrawer op && op != 0x01 && op != 0x28 && optAny (s.drawer r.drawer.toNat) (·.tenant == t) &&
        (s.claimRange r.drawer.toNat r.offset.toNat r.length.toNat).isNone
    | .hostWrite o data => optAny (s.drawer (o / 2 ^ 40)) (·.tenant == t) && (s.claimRange (o / 2 ^ 40) (o % 2 ^ 40) data.length).isNone
    | _ => false

/-- Whether the node withholds the credit of requests to a tenant's drawers (R155, R575). -/
def State.withholdsFor (s : State) (t : Nat) : Bool := s.atQuota t || s.awaitsReserve t

/-- Whether engines stall issue, for a tenant: at the tracker bound or at its quota (Table 8–4). -/
def State.stalls (s : State) (t : Nat) : Bool := decide (262144 ≤ s.trackerTotal) || s.atQuota t

end Sys2Proof.Machine
end

