-- ==== Sys2Proof/Machine/Operands.lean ====
section
/-! DEFINITION. The operands of engine commands: the header (Table 12–4), the layouts of the copy, sieve, lexicon and
hold commands (Tables 12–7, 14–1, 15–8, 16–3), and the dispatch checks of Table 12–5. -/

namespace Sys2Proof

/-! ## Fields of a command -/

/-- The drawer of the pool address at offset `o` (R424). -/
def poolDrawer (b : List Byte) (o : Nat) : Nat := field b o 2

/-- The drawer offset of the pool address at offset `o` (R424). -/
def poolOffset (b : List Byte) (o : Nat) : Nat := field b (o + 2) 5

/-- A length or count field (R424). -/
def lengthAt (b : List Byte) (o : Nat) : Nat := field b o 5

/-- OPCODE. -/
def cmdOp (b : List Byte) : Nat := byteAt b 0
/-- FENCE. -/
def cmdFence (b : List Byte) : Bool := bitOf (byteAt b 1) 0
/-- NOTIFY. -/
def cmdNotify (b : List Byte) : Bool := bitOf (byteAt b 1) 1
/-- INTERRUPT. -/
def cmdInterrupt (b : List Byte) : Bool := bitOf (byteAt b 1) 2
/-- SLOTS. -/
def cmdSlots (b : List Byte) : Nat := byteAt b 2 % 8
/-- TENANT. -/
def cmdTenant (b : List Byte) : Nat := field b 4 2 % 4096
/-- COUNTER. -/
def cmdCounter (b : List Byte) : Nat := field b 8 4 % 262144
/-- ADDEND. -/
def cmdAddend (b : List Byte) : Nat := field b 12 4

/-- How many slots a command takes as its header stands: 1 to 4; a SLOTS field of another value, or a completion
record found where a command should be, takes one. -/
def takenSlots (b : List Byte) : Nat :=
  if 1 ≤ cmdSlots b ∧ cmdSlots b ≤ 4 ∧ byteAt b 0 < 128 then cmdSlots b else 1

/-- Whether the header's reserved fields are 0, COUNTER and ADDEND among them when NOTIFY is clear (Table 12–4). -/
def headerClean (b : List Byte) : Bool :=
  byteAt b 1 < 8 && byteAt b 2 < 8 && byteAt b 3 == 0 && field b 4 2 < 4096 && field b 6 2 == 0 &&
  field b 8 4 < 262144 && (cmdNotify b || (field b 8 4 == 0 && field b 12 4 == 0))

/-! ## Layouts -/

/-- A command's layout: its slots, the bits of its bytes from 16 on that may be other than 0 (offset, size, mask),
the places of its pool addresses and of its length fields. -/
structure Layout where
  slots   : Nat
  free    : List (Nat × Nat × Nat) := []
  pools   : List Nat := []
  lengths : List Nat := []
deriving Repr

/-- All ones over `n` bytes. -/
def ones (n : Nat) : Nat := 256 ^ n - 1

/-- Engine classes of a queue range (Table 5–7). -/
def clsCopy : Nat := 0
/-- Sieve. -/
def clsSieve : Nat := 1
/-- Lexicon. -/
def clsLexicon : Nat := 2
/-- Hold. -/
def clsHold : Nat := 3

/-- The layout of an opcode of a class; none where the opcode is not defined for it. -/
def layoutOf (cls op : Nat) : Option Layout :=
  match cls, op with
  | _, 0x00 => some { slots := 1 }
  | 0, 0x01 => some { slots := 1, pools := [16, 24], free := [(32, 8, 0xBFFF)], lengths := [40] }
  | 0, 0x02 => some { slots := 1, pools := [16], free := [(24, 8, ones 8)], lengths := [40] }
  | 0, 0x03 => some { slots := 1, pools := [16], lengths := [40] }
  | 0, 0x04 => some { slots := 1, pools := [16, 24, 48, 56], free := [(32, 8, 0x0007FFFF00000000)], lengths := [40] }
  | 0, 0x05 => some { slots := 1, pools := [16, 24, 32], free := [(48, 8, 0x101FFFF)], lengths := [40] }
  | 0, 0x06 => some { slots := 1, pools := [16, 24, 32], free := [(48, 8, 0x101FFFF)], lengths := [40] }
  | 0, 0x07 => some { slots := 1, pools := [16, 24], lengths := [40] }
  | 0, 0x08 => some { slots := 1, pools := [16, 24], lengths := [40] }
  | 1, 0x01 => some { slots := 1, free := [(16, 2, 0x73F), (32, 8, 0xFFFFFFFFFF), (40, 2, 0xFFFF)], pools := [24] }
  | 1, 0x02 => some { slots := 2, free := [(16, 2, 0x73F), (18, 6, ones 6), (24, 1, 1), (64, 64, ones 64)] }
  | 1, 0x03 => some { slots := 1, free := [(16, 2, 0x73F)] }
  | 2, 0x01 => some { slots := 1, free := [(16, 1, 0xFF)], pools := [24], lengths := [40] }
  | 2, 0x02 => some { slots := 1, free := [(16, 1, 0xFF)], pools := [24], lengths := [40] }
  | 2, 0x03 => some { slots := 1, free := [(16, 1, 0xFF), (17, 1, 1)] }
  | 2, 0x04 => some { slots := 2, free := [(16, 9, ones 9), (64, 2, ones 2), (80, 2, ones 2), (96, 2, ones 2), (112, 2, ones 2)]
                      pools := [72, 88, 104, 120] }
  | 2, 0x05 => some { slots := 1, free := [(16, 2, ones 2), (18, 1, 1)] }
  | 2, 0x06 => some { slots := 1, free := [(16, 2, ones 2), (18, 1, 3)], pools := [24, 32], lengths := [40, 48] }
  | 2, 0x07 => some { slots := 1, free := [(16, 2, ones 2), (18, 1, 1)], pools := [24], lengths := [40] }
  | 2, 0x08 => some { slots := 1, free := [(16, 2, ones 2), (18, 1, 1), (19, 5, ones 5)], pools := [32] }
  | 2, 0x09 => some { slots := 1, free := [(16, 2, ones 2), (18, 1, 1), (19, 5, ones 5), (24, 4, ones 4)] }
  | 2, 0x0A => some { slots := 1, free := [(16, 2, ones 2), (18, 1, 1), (19, 5, ones 5), (24, 4, ones 4)], pools := [32] }
  | 2, 0x0B => some { slots := 1, free := [(16, 2, ones 2), (19, 5, ones 5)] }
  | 3, 0x01 => some { slots := 1, pools := [24, 32] }
  | 3, 0x02 => some { slots := 1, free := [(16, 4, ones 4), (20, 1, 1)] }
  | 3, 0x03 => some { slots := 1, free := [(16, 4, ones 4)] }
  | 3, 0x04 => some { slots := 2, free := [(16, 4, ones 4), (20, 1, 3)], pools := [24, 64], lengths := [40, 72] }
  | 3, 0x05 => some { slots := 1, free := [(16, 4, ones 4)], pools := [24], lengths := [40] }
  | 3, 0x06 => some { slots := 1, free := [(16, 4, ones 4), (20, 2, 0x3FFF), (24, 8, ones 8)] }
  | 3, 0x07 => some { slots := 1, free := [(16, 4, ones 4), (20, 2, 0x3FFF), (24, 8, ones 8)] }
  | _, _ => none

/-- The bits of the command that its layout lets be other than 0, as (offset, size, mask). -/
def Layout.all (l : Layout) : List (Nat × Nat × Nat) :=
  l.free ++ l.pools.map (fun o => (o, 8, 0x00FFFFFFFFFFFFFF)) ++ l.lengths.map fun o => (o, 8, 0x000000FFFFFFFFFF)

/-- The mask of byte `i` in a layout. -/
def Layout.byteMask (l : Layout) (i : Nat) : Nat :=
  l.all.foldl (fun m x => if x.1 ≤ i ∧ i < x.1 + x.2.1 then m ||| (x.2.2 / 256 ^ (i - x.1) % 256) else m) 0

/-- Whether every reserved bit of the operands is 0. -/
def Layout.clean (l : Layout) (b : List Byte) : Bool :=
  (List.range (64 * l.slots - 16)).all fun i => (byteAt b (16 + i)) &&& (255 - l.byteMask (16 + i)) == 0

/-- Check 2 of Table 12–5: OPCODE defined, SLOTS right, reserved fields 0. -/
def formatOk (cls : Nat) (b : List Byte) : Bool :=
  match layoutOf cls (cmdOp b) with
  | none => false
  | some l => cmdSlots b == l.slots && headerClean b && l.clean b

/-! ## Number formats (Table 13–2) -/

/-- The width in bits of a format code; 0 for a reserved code. -/
def fmtBits : Nat → Nat
  | 0x00 => 32 | 0x01 => 16 | 0x02 => 16 | 0x03 => 8 | 0x04 => 8 | 0x05 => 6 | 0x06 => 6 | 0x07 => 4
  | 0x08 => 8 | 0x09 => 4 | 0x0A => 3 | 0x0B => 1 | _ => 0

/-- Whether a format may be MX-scaled. -/
def fmtMx (f : Nat) : Bool := decide (3 ≤ f) && decide (f ≤ 8)

/-! ## Check 5: operand encodings, alignments and counts -/

/-- CONVERT's source format, destination format, rounding, source MX and destination MX. -/
def convSrc (b : List Byte) : Nat := byteAt b 36
/-- Destination format. -/
def convDst (b : List Byte) : Nat := byteAt b 37
/-- Rounding toward zero. -/
def convRz (b : List Byte) : Bool := bitOf (byteAt b 38) 0
/-- Source MX. -/
def convSrcMx (b : List Byte) : Bool := bitOf (byteAt b 38) 1
/-- Destination MX. -/
def convDstMx (b : List Byte) : Bool := bitOf (byteAt b 38) 2

/-- The rules of R428 on CONVERT's formats and count. -/
def convertOk (b : List Byte) : Bool :=
  let n := lengthAt b 40
  let sub8 := fun f => fmtBits f == 1 || fmtBits f == 3 || fmtBits f == 4 || fmtBits f == 6
  let side := fun (f : Nat) (mx : Bool) (o : Nat) => !mx || (fmtMx f && n % 32 == 0 && field b o 8 != 0)
  fmtBits (convSrc b) != 0 && fmtBits (convDst b) != 0 &&
  (!(sub8 (convSrc b) || sub8 (convDst b)) || n % 8 == 0) &&
  side (convSrc b) (convSrcMx b) 48 && side (convDst b) (convDstMx b) 56

/-- GATHER and SCATTER's element size and index width in bytes. -/
def elemSize (b : List Byte) : Nat := field b 48 4 % 131072
/-- Index width in bytes. -/
def indexSize (b : List Byte) : Nat := if bitOf (byteAt b 51) 0 then 8 else 4

/-- The channel entries of STREAM_OPEN: mode, n, drawer and offset of the window. -/
def openChannels (b : List Byte) : List (Nat × Nat × Nat × Nat) :=
  (List.range (byteAt b 24)).map fun i =>
    (byteAt b (64 + 16 * i), byteAt b (65 + 16 * i), poolDrawer b (72 + 16 * i), poolOffset b (72 + 16 * i))

/-- The bytes of a window: its header line and its ring (R550). -/
def windowBytes (n : Nat) : Nat := 64 + 2 ^ n

/-- Check 5 for the opcode of a class. What it says of two loaded images (R555) is with the lexicon. -/
def encodingsOk (cls : Nat) (b : List Byte) : Bool :=
  match cls, cmdOp b with
  | 0, 0x04 => convertOk b
  | 0, 0x05 => decide (1 ≤ elemSize b) && decide (elemSize b ≤ 65536)
  | 0, 0x06 => decide (1 ≤ elemSize b) && decide (elemSize b ≤ 65536)
  | 0, 0x08 => poolOffset b 16 % 64 == 0 && lengthAt b 40 % 64 == 0 && poolOffset b 24 % 64 == 0
  | 1, 0x01 => lengthAt b 32 % 4 == 0 && field b 40 2 % 4 == 0
  | 1, 0x02 => field b 18 2 % 4 == 0 && field b 20 2 % 4 == 0 && field b 22 2 % 8 == 0 && field b 22 2 ≤ 4096
  | 2, 0x04 => decide (byteAt b 24 ≤ 4) &&
      ((openChannels b).all fun c => decide (c.1 ≤ 1) && decide (12 ≤ c.2.1) && decide (c.2.1 ≤ 30) && c.2.2.2 % 64 == 0) &&
      (List.range 4).all fun i => decide (i < byteAt b 24) || allZero (sub b (64 + 16 * i) 16)
  | 2, 0x06 => poolOffset b 32 % 4 == 0 && !(lengthAt b 48 == 0 && (lengthAt b 40 != 0 || bitOf (byteAt b 18) 0))
  | 2, 0x07 => poolOffset b 24 % 4 == 0
  | 2, 0x08 => poolOffset b 32 % 64 == 0
  | 2, 0x0A => poolOffset b 32 % 64 == 0
  | 3, 0x01 => poolOffset b 32 % 64 == 0
  | _, _ => true

/-! ## Checks 6 to 8: drawers, ranges, freezes -/

/-- Whether a COPY is remote. -/
def copyRemote (b : List Byte) : Bool := bitOf (field b 32 2) 15
/-- The endpoint of a remote COPY. -/
def copyEndpoint (b : List Byte) : Nat := field b 32 2 % 16384

/-- Bytes that `n` elements of a format take. -/
def elemBytes (f n : Nat) : Nat := ceilDiv (n * fmtBits f) 8

/-- A sieve command's context key. -/
def cmdCtx (b : List Byte) : Nat := (field b 16 2 % 64) * 8 + field b 16 2 / 256 % 8

/-- The ranges of drawers that a command names: drawer, offset, length. A hold descriptor's length, and a mask's,
follow from what they name (`dyn`). -/
def rangesOf (cls : Nat) (b : List Byte) (dyn : Nat) : List (Nat × Nat × Nat) :=
  let r := fun o n => (poolDrawer b o, poolOffset b o, n)
  let n := lengthAt b 40
  match cls, cmdOp b with
  | 0, 0x01 => if copyRemote b then [r 16 n] else [r 16 n, r 24 n]
  | 0, 0x02 => [r 16 n]
  | 0, 0x03 => [r 16 n]
  | 0, 0x04 => [r 16 (elemBytes (convSrc b) n), r 24 (elemBytes (convDst b) n)] ++
      (if convSrcMx b then [r 48 (n / 32)] else []) ++ (if convDstMx b then [r 56 (n / 32)] else [])
  | 0, 0x05 => [r 16 0, r 24 (n * elemSize b), r 32 (n * indexSize b)]
  | 0, 0x06 => [r 16 (n * elemSize b), r 24 0, r 32 (n * indexSize b)]
  | 0, 0x07 => [r 16 n, r 24 48]
  | 0, 0x08 => [r 16 n, r 24 64]
  | 1, 0x01 => [r 24 (lengthAt b 32)]
  | 2, 0x01 => [r 24 n]
  | 2, 0x02 => [r 24 n]
  | 2, 0x04 => (openChannels b).map fun c => (c.2.2.1, c.2.2.2, windowBytes c.2.1)
  | 2, 0x06 => [r 24 n, r 32 (4 * lengthAt b 48)]
  | 2, 0x07 => [r 24 (4 * n)]
  | 2, 0x08 => [r 32 dyn]
  | 2, 0x0A => [r 32 dyn]
  | 3, 0x01 => [r 24 dyn, r 32 64]
  | 3, 0x04 => [r 24 n] ++ (if bitOf (byteAt b 20) 1 then [r 64 (lengthAt b 72)] else [])
  | 3, 0x05 => [r 24 n]
  | _, _ => []

/-- Whether a command does no work for its length or count is 0, or it is a NOP (closing words of R410). (DEDUCED, log 52.) -/
def noWork (cls : Nat) (b : List Byte) : Bool :=
  cmdOp b == 0 || (cls == 0 && cmdOp b != 8 && lengthAt b 40 == 0) || (cls == 1 && cmdOp b == 1 && lengthAt b 32 == 0)

end Sys2Proof

namespace Sys2Proof.Machine

/-- The stream range and slots of a lexicon command lie in the tenant's reservations (R522). -/
def State.lexNamesOk (s : State) (t : Nat) (b : List Byte) : Bool :=
  optAny (s.tenant t) fun r =>
    let streamOk := decide (r.streamBase ≤ field b 16 2) && decide (field b 16 2 < r.streamBase + r.streamCount)
    let gramOk := fun (g : Nat) => decide (g < r.grammarSlots)
    match cmdOp b with
    | 0x01 => decide (byteAt b 16 < r.dictSlots)
    | 0x02 => decide (byteAt b 16 < r.grammarSlots)
    | 0x03 => if bitOf (byteAt b 17) 0 then decide (byteAt b 16 < r.grammarSlots) else decide (byteAt b 16 < r.dictSlots)
    | 0x04 => streamOk && decide (byteAt b 18 < r.dictSlots) && (byteAt b 19 == 0xFF || gramOk (byteAt b 19))
    | 0x05 => streamOk
    | 0x06 => streamOk
    | 0x07 => streamOk
    | 0x08 => if bitOf (byteAt b 18) 0 then streamOk else gramOk (byteAt b 19)
    | 0x09 => if bitOf (byteAt b 18) 0 then streamOk else gramOk (byteAt b 19)
    | 0x0A => if bitOf (byteAt b 18) 0 then streamOk else gramOk (byteAt b 19)
    | 0x0B => streamOk && (byteAt b 19 == 0xFF || gramOk (byteAt b 19))
    | _ => true

/-- Whether remote COPY's endpoint is admitted (R434): bound, with an entry in the source drawer when it is sealed,
and otherwise in some drawer of the tenant. -/
def State.remoteOk (s : State) (t : Nat) (b : List Byte) : Bool :=
  optAny (s.boundCert (copyEndpoint b)) fun cert =>
    optAny (s.drawer (poolDrawer b 16)) fun d => if d.isSealed then (d.entry cert).isSome else s.admitted cert t false

/-- Whether every drawer that a command names is the tenant's, and its context, streams and slots as well (check 6). -/
def State.ownsNamed (s : State) (cls t : Nat) (b : List Byte) (dyn : Nat) : Bool :=
  ((rangesOf cls b dyn).all fun r => optAny (s.drawer r.1) (·.tenant == t)) &&
  (if cls = 0 ∧ cmdOp b = 1 ∧ copyRemote b then s.remoteOk t b else true) &&
  (if cls = 1 ∧ cmdOp b ≠ 0 then (s.ctx (cmdCtx b)).tenant == t else true) &&
  (if cls = 2 then s.lexNamesOk t b else true)

/-- Whether a range lies within a drawer (R35: a length of 0 takes the offset alone). -/
def State.within (s : State) (r : Nat × Nat × Nat) : Bool := optAny (s.drawer r.1) fun d => decide (r.2.1 + r.2.2 ≤ d.bytes)

/-- Checks 2 to 8 of Table 12–5 on a command of tenant `t`'s queue: the first failure's status, or none. (DEDUCED, log 52.) -/
def State.dispatchCheck (s : State) (cls t : Nat) (b : List Byte) (dyn : Nat) : Option Status :=
  let rs := rangesOf cls b dyn
  if !formatOk cls b then some .format
  else if cmdTenant b != t then some .denied
  else if cmdNotify b && s.counterTenant (cmdCounter b) != some t then some .denied
  else if !encodingsOk cls b then some .format
  else if !s.ownsNamed cls t b dyn then some .denied
  else if !(rs.all fun r => s.within r) ||
      (cls == 1 && cmdOp b == 1 && decide (65536 < field b 40 2 + lengthAt b 32)) then some .range
  else if rs.any fun r => s.drawerFrozen r.1 || s.sweeping r.1 then some .held
  else none

end Sys2Proof.Machine
end

