-- ==== Sys2Proof/Machine/QueueOps.lean ====
section
/-! DEFINITION. Engine queues (chapter 12): the ring, engines in service, dispatch and its checks, running commands,
completion records and the actions of a completion. -/

namespace Sys2Proof

/-- The ring offset, in its drawer, of slot index `i` of queue `q` (R160, R403). -/
def QueueRange.slotAt (r : QueueRange) (q : Nat) (i : W32) : Nat :=
  r.ringBase * 65536 + (q - r.base) * r.depth * 64 + (i.toNat % r.depth) * 64

/-- The lap parity of an index (R403). -/
def lapParity (depth : Nat) (i : W32) : Nat := i.toNat / depth % 2

/-- The completion record (Table 12–6), as the whole line it is written as. -/
def RunCmd.record (c : RunCmd) (depth : Nat) (addPending : Bool) (ts : Nat) : List Byte :=
  leBytes 1 (0x80 + lapParity depth c.index) ++ leBytes 1 c.status.code ++ leBytes 1 (cmdOp c.bytes) ++
  leBytes 1 (b2n c.preempted + 2 * b2n addPending + 4 * b2n (cmdInterrupt c.bytes)) ++
  leBytes 4 c.index.toNat ++ leBytes 8 c.progress.toNat ++ leBytes 8 c.result.toNat ++ leBytes 8 ts ++
  List.replicate 32 0

/-- Whether a command occupies its engine. -/
def RunCmd.onEngine (c : RunCmd) : Bool := c.phase == .dispatched || c.phase == .running || c.phase == .waiting

/-- End a command with a status; its completion follows (R415). -/
def RunCmd.finish (c : RunCmd) (st : Status) (progress result : W64) : RunCmd :=
  { c with phase := .ended, status := st, progress := progress, result := result }

end Sys2Proof

namespace Sys2Proof.Machine

/-- What a copy or lexicon command does to memory is done under the generations that it was checked under (R604). -/
def State.underGens (s : State) (c : RunCmd) (f : State → Option State) : Option State :=
  if c.gens.isEmpty then f s
  else
    let before : FMap W32 := c.gens.foldl (fun (m : FMap W32) (g : Nat × W32) => m.set g.1 g.2 0) s.jny.gens
    (f { s with jny.gens := before }).map fun (u : State) => { u with jny.gens := s.jny.gens }

/-! ## Engines in service (R152) -/

/-- The SLICE mask of slice `n`. -/
def State.sliceMask (s : State) (n : Nat) : BitVec 8 :=
  match (s.records (·.slices)).find? (·.slice == n) with | none => 0 | some r => r.mask

/-- Whether engine `n` of a class receives dispatch: its mask bit is 1 and it passed self-test (R152). -/
def State.engineOk (s : State) (cls n : Nat) : Bool :=
  match cls with
  | 0 => (s.sliceMask (n / 2)).getLsbD (5 + n % 2) && !s.power.copyOut.contains n
  | 1 => (s.sliceMask (n / 4)).getLsbD (n % 4) && !s.power.sieveOut.contains n
  | 2 => (s.sliceMask n).getLsbD 4 && !s.power.lexOut.contains n
  | _ => !s.power.holdOut.contains n

/-- How many engines of a class the part has. -/
def Part.engines (p : Part) : Nat → Nat
  | 0 => p.copies | 1 => p.sieves | 2 => p.lexicons | _ => 2

/-- The class number in the halts of a debugger: class × 256 + engine. -/
def engineCode (cls n : Nat) : Nat := cls * 256 + n

/-- Whether an engine of a class is free: no running command of the class is on it, and no debug halt holds it.
(DEDUCED, log 104.) -/
def State.engineFree (s : State) (cls n : Nat) : Bool :=
  s.engineOk cls n && !s.dbg.engHalt.contains (engineCode cls n) &&
  !s.queues.any fun e => (optAny (s.range e.1) fun r => r.cls == cls) && e.2.running.any fun c => c.onEngine && c.engine == n

/-- Whether dispatch to an engine is delayed because issue is limited into its domain, or into the memory controllers of its
slice's stack (R83, R85). (DEDUCED, log 131.) -/
def State.dispatchHeld (s : State) (cls n : Nat) : Bool :=
  match cls with
  | 0 => (s.dom (n / 2)).issueLim || (s.stk (n / 2)).limiting
  | 1 => (s.dom (n / 4)).issueLim || (s.stk (n / 4)).limiting
  | 2 => (s.dom n).issueLim || (s.stk n).limiting
  | _ => (s.dom 20).issueLim

/-- The engine a command is dispatched to (R418): of the slice that holds the first block of its destination, or of
its source where none is local, and otherwise the lowest-numbered free one. A sieve command goes to its context's.
(DEDUCED, log 104.) -/
def State.pickEngine (s : State) (cls : Nat) (b : List Byte) : Option Nat :=
  if cls = 1 ∧ cmdOp b ≠ 0 then
    (if s.engineOk 1 (cmdCtx b / 8) && !s.dispatchHeld 1 (cmdCtx b / 8) then some (cmdCtx b / 8) else none) else
  let free := (List.range (s.power.part.engines cls)).filter fun n => s.engineFree cls n && !s.dispatchHeld cls n
  let home : Option Nat :=
    if cls = 0 then
      let o := if (cmdOp b = 1 ∧ copyRemote b) ∨ cmdOp b = 2 ∨ cmdOp b = 3 then 16 else 24
      (s.livePlaces (poolDrawer b o) (poolOffset b o / 65536)).head?.map (·.1)
    else none
  match home with
  | none => free.head?
  | some h => match free.find? (fun n => n / 2 == h) with | some n => some n | none => free.head?

/-! ## Running commands -/

/-- The running command of queue `q` with index `i`. -/
def State.runOf (s : State) (q : Nat) (i : W32) : Option RunCmd := (s.queue q).running.find? (·.index == i)

/-- Change a running command. -/
def State.updRun (s : State) (q : Nat) (i : W32) (f : RunCmd → RunCmd) : State :=
  let u := s.queue q
  s.setQueue q { u with running := u.running.map fun c => if c.index = i then f c else c }

/-- End a running command (R415 follows with COMMAND_COMPLETE). -/
def State.endRun (s : State) (q : Nat) (i : W32) (st : Status) (progress result : W64) : State :=
  s.updRun q i fun c => c.finish st progress result

/-- Remove a running command from its queue. -/
def State.dropRun (s : State) (q : Nat) (i : W32) : State :=
  let u := s.queue q
  s.setQueue q { u with running := u.running.filter (·.index != i) }

/-- Whether a command of the class and opcode given runs as (q, i) and has not ended: the state its row acts on. -/
def State.running (s : State) (q : Nat) (i : W32) (cls op : Nat) : Option RunCmd :=
  match s.range q, s.runOf q i with
  | some r, some c => if r.cls = cls ∧ cmdOp c.bytes = op ∧ (c.phase = .dispatched ∨ c.phase = .running) then some c else none
  | _, _ => none

/-! ## Completion (R411, R412, R415 to R417) -/

/-- Write a command's completion record to its first slot; the record clears any poison there (R411). (DEDUCED, log 47.) -/
def State.writeRecord (s : State) (q : Nat) (r : QueueRange) (c : RunCmd) (addPending : Bool) : State :=
  (s.writeRange r.ring (r.slotAt q c.index) (c.record r.depth addPending s.ts)).1

/-- The actions of a completion, in the order of R415: record, ADD, QUEUE_DONE; then the head (R412). `r` is where
the queue's ring lies. (DEDUCED, log 47.) -/
def State.completeIn (s : State) (q : Nat) (r : QueueRange) (c : RunCmd) : State :=
  let adds := cmdNotify c.bytes && !c.refused
  let counter := cmdCounter c.bytes
  let held := adds && s.counterFrozen counter && s.counterTenant counter == some r.tenant
  let s1 := s.writeRecord q r c held
  let s2 := if adds then
      (s1.tenantAdd counter (BitVec.ofNat 64 (cmdAddend c.bytes)) r.tenant (some (q, c.index, c.slots))).1
    else s1
  let s3 := if cmdInterrupt c.bytes then s2.note .queueDone .node 0 (q + 65536 * c.status.code) c.index.toNat 0 else s2
  let s4 := s3.dropRun q c.index
  if held then s4 else s4.retireSlots q c.index c.slots

/-- Complete an ended command of a configured queue. -/
def State.complete (s : State) (q : Nat) (i : W32) : State :=
  match s.range q, s.runOf q i with
  | some r, some c => s.completeIn q r c
  | _, _ => s

/-! ## Dispatch (R408, R410, R414) -/

/-- The bytes that a drawer's lines hold, with zeros for stale and poisoned ones: what the model consults to know
the length of something before it is read under Table 10–2. -/
def State.peek (s : State) (d off n : Nat) : List Byte :=
  (pieces off n).flatMap fun p =>
    if s.tagOk d p.1 && !s.poisonBit d p.1 then sub (s.lineBytes d p.1) p.2.1 p.2.2 else List.replicate p.2.2 0

/-- The bytes of a mask over `v` tokens (R544). -/
def maskBytes (v : Nat) : Nat := ceilDiv v 512 * 64

/-- The grammar image that a lexicon grammar command uses, if it is loaded: from its slot, or from its stream's
position in stream form (R545). -/
def State.cmdGrammar (s : State) (t : Nat) (b : List Byte) : Option LexImage :=
  if bitOf (byteAt b 18) 0 then
    match (s.stream (field b 16 2)).gram with
    | none => none
    | some g => s.images.get (imageKey t true g.1) none
  else s.images.get (imageKey t true (byteAt b 19)) none

/-- The length that a command's operands leave to what they name: a hold-set descriptor's, or a mask's. -/
def State.dynLength (s : State) (cls t : Nat) (b : List Byte) : Nat :=
  match cls, cmdOp b with
  | 3, 0x01 =>
    let h := s.peek (poolDrawer b 24) (poolOffset b 24) 10
    16 + 8 * (field h 0 2 + field h 2 2 + field h 4 2 + field h 6 2 + field h 8 2)
  | 2, 0x08 => match s.cmdGrammar t b with | none => 0 | some im => maskBytes (field (s.peek im.drawer im.offset 16) 8 4)
  | 2, 0x0A => match s.cmdGrammar t b with | none => 0 | some im => maskBytes (field (s.peek im.drawer im.offset 16) 8 4)
  | _, _ => 0

/-- Whether a lexicon command names a stream that it must have to itself (R524). -/
def usesStream (b : List Byte) : Bool :=
  match cmdOp b with
  | 0x04 => true | 0x05 => true | 0x06 => true | 0x07 => true | 0x0B => true
  | 0x08 => bitOf (byteAt b 18) 0 | 0x09 => bitOf (byteAt b 18) 0 | 0x0A => bitOf (byteAt b 18) 0
  | _ => false

/-- Whether a command must wait at dispatch for its context (R479) or its stream (R524), which another holds; a command
for a frozen context waits for its thaw (R570). -/
def State.mustWait (s : State) (cls : Nat) (b : List Byte) : Bool :=
  (cls == 1 && cmdOp b != 0 && s.ctxFrozen (cmdCtx b)) || s.queues.any fun e => (optAny (s.range e.1) fun r => r.cls == cls) && e.2.running.any fun c =>
    c.phase != .ended && !c.refused && cmdOp c.bytes != 0 && cmdOp b != 0 &&
    ((cls == 1 && cmdCtx c.bytes == cmdCtx b) ||
     (cls == 2 && usesStream c.bytes && usesStream b && field c.bytes 16 2 == field b 16 2))

/-! ## Engine time (R161, R419, R420) -/

/-- The key of a tenant's account in a class. -/
def shareKey (cls t : Nat) : Nat := cls * 4096 + t

/-- What a tenant has had of a class's engine time, over its weight. -/
def State.vtime (s : State) (cls t : Nat) : Nat := s.shares.vtime.get (shareKey cls t) 0

/-- The weight of a tenant in a class on an engine: of the records before a delta until the engine's next quantum boundary
(Table 5–10). -/
def State.weightOn (s : State) (cls t n : Nat) : Nat :=
  let rs := if s.shares.formerOn.contains (engineCode cls n) then s.shares.former else s.records (·.shares)
  match rs.find? fun x => x.tenant == t && x.cls == cls with | none => 1 | some x => max x.weight 1

/-- A quantum begins on an engine: the records in force hold there. -/
def State.beginQuantum (s : State) (cls n : Nat) : State :=
  { s with shares.formerOn := s.shares.formerOn.filter (· != engineCode cls n) }

/-- A queue is served on an engine: its tenant's rotation goes on from it (R419). -/
def State.served (s : State) (q : Nat) (r : QueueRange) (n : Nat) : State :=
  let u := s.beginQuantum r.cls n
  { u with shares.last := u.shares.last.set (shareKey r.cls r.tenant) (q + 1) 0 }

/-- Whether a command takes engine time now: a START's is its context's. -/
def State.consumesTime (s : State) (cls : Nat) (c : RunCmd) : Bool :=
  c.onEngine && !(cls == 1 && cmdOp c.bytes == 0x02 && (s.ctx (cmdCtx c.bytes)).phase != .running)

/-- Add a command in execution and move the dispatch index past its slots. -/
def State.addRun (s : State) (q : Nat) (c : RunCmd) : State :=
  let u := s.queue q
  s.setQueue q { u with running := u.running ++ [c], dispatch := u.dispatch + BitVec.ofNat 32 c.slots }

/-- Whether a queue's next command may be dispatched: the node is READY and applies nothing, no hold set freezes the
queue (R569), fewer than 8 run (R413), every slot is below the tail (R408), and a FENCE has the queue to itself
(R414). (DEDUCED, log 72.) -/
def State.dispatchable (s : State) (q : Nat) (b : List Byte) (slots : Nat) : Bool :=
  let u := s.queue q
  s.isReady && !s.queueFrozen q && decide (u.running.length < 8) &&
  decide (slots ≤ (u.tail - u.dispatch).toNat) && (!cmdFence b || u.dispatch == u.head)

/-- The command of a queue that has ready work: one that a preemption, a hold or a retention paused, or the next at the dispatch
index, which may be dispatched and need not wait for its context or stream. -/
def State.readyCmd (s : State) (q : Nat) : Option (QueueRange × List Byte) :=
  match s.range q with
  | none => none
  | some r =>
    let u := s.queue q
    match u.running.find? (fun c => c.phase == .paused && !c.pauseReq) with
    | some c => if s.isReady && !s.isDraining && !s.queueFrozen q then some (r, c.bytes) else none
    | none =>
      let b := s.peek r.ring (r.slotAt q u.dispatch) 64
      if s.dispatchable q b (takenSlots b) && !s.mustWait r.cls b then some (r, b) else none

/-- The queues of a class with ready work, in the order of their numbers. -/
def State.readyQueues (s : State) (cls : Nat) : List (Nat × QueueRange × List Byte) :=
  s.queues.filterMap fun e => match s.readyCmd e.1 with
    | some x => if x.1.cls = cls then some (e.1, x) else none
    | none => none

/-- Whether it is a queue's turn (R419): no other tenant with ready work that an engine could take has had less of the class's
time, and no other queue of its own tenant comes sooner in the rotation. (DESIGN CHOICE, log 103.) -/
def State.myTurn (s : State) (q : Nat) (r : QueueRange) : Bool :=
  let last := s.shares.last.get (shareKey r.cls r.tenant) 0
  let dist := fun (x : Nat) => (x + 65536 - last) % 65536
  (s.readyQueues r.cls).all fun x =>
    (s.pickEngine r.cls x.2.2).isNone ||
    (if x.2.1.tenant = r.tenant then decide (dist q ≤ dist x.1) else decide (s.vtime r.cls r.tenant ≤ s.vtime r.cls x.2.1.tenant))

/-- Whether a tenant has work of a class that runs or is ready. -/
def State.hasWork (s : State) (cls t : Nat) : Bool :=
  (s.queues.any fun e => (optAny (s.range e.1) fun r => r.cls == cls && r.tenant == t) &&
    (e.2.running.any fun c => s.consumesTime cls c)) ||
  (s.readyQueues cls).any fun x => x.2.1.tenant == t

/-- The engine time that one count of the timebase adds to a tenant's account. -/
def State.timeOf (s : State) (cls t : Nat) : Nat :=
  (s.queues.map fun e => if optAny (s.range e.1) (fun r => r.cls == cls && r.tenant == t) then
      ((e.2.running.filter fun c => s.consumesTime cls c).map fun c => 100000000 / s.weightOn cls t c.engine).sum
    else 0).sum

/-- One count of the timebase passes: the tenants whose commands run are charged, and one with no work keeps no claim to the
time that it left unused (R161). (DESIGN CHOICE, log 103.) -/
def State.chargeTime (s : State) : State :=
  let rs := s.records (·.shares)
  let s1 := { s with shares.vtime := rs.foldl (fun (m : FMap Nat) (x : ShareRec) =>
    m.set (shareKey x.cls x.tenant) (s.vtime x.cls x.tenant + s.timeOf x.cls x.tenant) 0) s.shares.vtime }
  let floor := fun (cls : Nat) =>
    ((rs.filter fun x => x.cls == cls && s.hasWork cls x.tenant).map fun x => s1.vtime cls x.tenant).min?
  let lift := fun (m : FMap Nat) (x : ShareRec) =>
    match floor x.cls with
    | none => m
    | some f => if s.hasWork x.cls x.tenant then m else m.set (shareKey x.cls x.tenant) (max f (s1.vtime x.cls x.tenant)) 0
  { s1 with shares.vtime := rs.foldl lift s1.shares.vtime }

/-- Continue a queue's command that a preemption, a hold or a retention paused, which is next in line (R420, R578), on a
free engine. -/
def State.continuePreempted (s : State) (q : Nat) (r : QueueRange) (c : RunCmd) : State :=
  match s.pickEngine r.cls c.bytes with
  | none => s
  | some n => (s.served q r n).updRun q c.index fun x => { x with phase := .running, engine := n, preemptReq := false }

/-- Dispatch the command at the dispatch index: its slots are read, the checks of Table 12–5 made, and it takes an
engine; or it waits. While the node drains for RETENTION only hold commands are taken, with NOT_READY (Table 4–5). -/
def State.dispatchNext (s : State) (q : Nat) (r : QueueRange) (u : Queue) : State :=
  let slot := fun (k : Nat) => r.slotAt q (u.dispatch + BitVec.ofNat 32 k)
  let r0 := s.readRange r.ring (slot 0) 64
  let n := takenSlots r0.2.data
  if (!s.dispatchable q r0.2.data n || (s.isDraining && r.cls != clsHold)) = true then s else
  let rest := (List.range (n - 1)).foldl (fun acc k =>
    let x := acc.1.readRange r.ring (slot (k + 1)) 64
    (x.1, acc.2.1 ++ x.2.data, acc.2.2 || x.2.bad.isSome)) (r0.1, r0.2.data, r0.2.bad.isSome)
  let s1 := rest.1
  let b := rest.2.1
  let verdict : Option Status :=
    if rest.2.2 then some .poisoned
    else match s1.dispatchCheck r.cls r.tenant b (s1.dynLength r.cls r.tenant b) with
      | some st => some st
      | none => if s.isDraining then some .notReady else none
  match verdict with
  | some st => s1.addRun q
      { index := u.dispatch, bytes := b, slots := n, engine := 0, phase := .ended, status := st, refused := true, started := s.ts }
  | none =>
    if s1.mustWait r.cls b then s else
    match s1.pickEngine r.cls b with
    | none => s
    | some e => (s1.served q r e).addRun q { index := u.dispatch, bytes := b, slots := n, engine := e, started := s.ts }

/-- Dispatch the next command of queue `q` (R408 to R410) where it is its turn (R419). While the node drains for RETENTION no command is
dispatched, and a hold command completes with NOT_READY (Table 4–5). -/
def State.dispatch (s : State) (q : Nat) : State :=
  match s.range q with
  | none => s
  | some r =>
    let u := s.queue q
    if !s.isDraining && !s.myTurn q r then s else
    match u.running.find? (fun c => c.phase == .paused && !c.pauseReq) with
    | some c => if s.isReady && !s.isDraining && !s.queueFrozen q then s.continuePreempted q r c else s
    | none => s.dispatchNext q r u

/-! ## Stopping and pausing -/

/-- Ask every running command that satisfies `p` to end with `st` at its next resume point (R439, R507). -/
def State.stopRuns (s : State) (p : Nat → RunCmd → Bool) (st : Status) : State :=
  s.queues.foldl (fun u e =>
    let mark := fun (c : RunCmd) => if c.phase != .ended && p e.1 c then { c with stop := some st } else c
    u.setQueue e.1 { u.queue e.1 with running := (u.queue e.1).running.map mark }) s

/-- The drawers that a command names. -/
def namedDrawers (cls : Nat) (b : List Byte) : List Nat := (rangesOf cls b 0).map (·.1)

/-- Take what is pending at a resume point (R420, R421): a stop ends the command with its status, a pause or a
preemption leaves it paused with its progress word; one that has not begun is at rest as it stands. A remote COPY that stops first awaits its outstanding WRITEs (R436). A debug halt of its engine is taken as well (Debug Access).
(DEDUCED, log 53.) -/
def State.resumePoint (s : State) (q : Nat) (i : W32) : State :=
  match s.range q, s.runOf q i with
  | some r, some c =>
    if c.phase = .ended then s else
    let s1 := if s.dbg.engReq.contains (engineCode r.cls c.engine) then
        { s with dbg.busy := false, dbg.status := .ok
                 dbg.engHalt := s.dbg.engHalt ++ [engineCode r.cls c.engine]
                 dbg.engReq := s.dbg.engReq.filter (· != engineCode r.cls c.engine) }
      else s
    let out := s1.fabric.outbound.any fun o => o.issuer == .command q i
    match c.stop with
    | some st =>
      if c.phase = .waiting then s1
      else if out then s1.updRun q i fun x => { x with phase := .waiting, failed := if x.failed.isNone then some st else x.failed }
      else s1.endRun q i st c.progress c.result
    | none =>
      if c.pauseReq then (if c.phase = .dispatched then s1 else s1.updRun q i fun x => { x with phase := .paused })
      else if c.preemptReq then s1.updRun q i fun x => { x with phase := .paused, preempted := true, preemptReq := false }
      else s1
  | _, _ => s

/-- Whether a stop, pause, preemption or engine halt waits for a command's resume point. (DEDUCED, log 72.) -/
def State.mustRest (s : State) (cls : Nat) (c : RunCmd) : Bool :=
  c.stop.isSome || c.pauseReq || c.preemptReq || s.dbg.engReq.contains (engineCode cls c.engine)

/-- Whether a command of queue `q` may do work: no debug halt holds its engine at a resume point, and its engine does not stall
issue at a bound of Table 8–4. -/
def State.mayWork (s : State) (q cls : Nat) (c : RunCmd) : Bool :=
  (c.phase == .dispatched || c.phase == .running) && !s.dbg.engHalt.contains (engineCode cls c.engine) &&
  !s.stalls (s.queueTenant q)

/-- The engine's free slot in the running commands goes to the row `op` of a class: the command it acts on. -/
def State.actor (s : State) (q : Nat) (i : W32) (cls op : Nat) : Option RunCmd :=
  match s.running q i cls op with
  | none => none
  | some c => if s.mayWork q cls c then some c else none

end Sys2Proof.Machine
end

