-- ==== Sys2Proof/Machine/PortOps.lean ====
section
/-! DEFINITION. What the ports and the transaction layer share: in-flight bounds and withheld credit (R228, R285), forming and
sending flits under credit and replay space (R212 to R219, R226, R235), the node's outbound requests (R289), going down,
holding and flushing (R243 to R253), training starts (R187), and endpoint bindings (R193 to R195, R716). -/

namespace Sys2Proof

/-- The slots of a message with `ops` operand slots and `n` data bytes (R261). -/
def slotsOf (ops n : Nat) : Nat := 2 + ops + ceilDiv n 16

/-- The DATA flits that a message of `n` slots takes, from a flit of its own. (DEDUCED, log 37.) -/
def flitsOf (n : Nat) : Nat := ceilDiv n 14

end Sys2Proof

namespace Sys2Proof.Machine

/-! ## Ports at a glance -/

/-- Down causes in Table 7–7's order. -/
def causeErrorWindow : Nat := 1
/-- LOSS_OF_SIGNAL. -/
def causeLossOfSignal : Nat := 2
/-- SYNTH_LOCK_FAIL. -/
def causeSynthLock : Nat := 3
/-- FLOOD. -/
def causeFlood : Nat := 4
/-- DOZE_SEARCH_FAIL. -/
def causeDozeSearch : Nat := 5
/-- REPLAY_STALL. -/
def causeReplayStall : Nat := 6
/-- PEER_RESET. -/
def causePeerReset : Nat := 7
/-- PROTOCOL. -/
def causeProtocol : Nat := 8
/-- PLANNED. -/
def causePlanned : Nat := 9

/-- Whether a port carries traffic: UP, REPLAY or QUIESCE. -/
def Port.isUp (v : Port) : Bool := v.mode == .up || v.mode == .replay || v.mode == .quiesce

/-- Whether a port dozes. -/
def Port.dozes (v : Port) : Bool := v.mode == .doze || v.mode == .darkDoze

/-- The lanes in use, as a mask. -/
def Port.activeLanes (v : Port) : BitVec 8 := BitVec.ofNat 8 ((2 ^ v.width - 1) * 2 ^ v.lane0)

/-- Whether a quiet slot runs. -/
def quietRuns : Option Quiet → Bool
  | none => false
  | some q => q.active

/-- Whether a quiet slot of either side runs: the port sends nothing (R197, R199). -/
def Port.mute (v : Port) : Bool := quietRuns v.quiet || quietRuns v.peerQuiet

/-- Whether a VC3 message of a type is one of those in a list. -/
def isVc3 (k : Nat) (m : Option Msg) : Bool :=
  match m with | some x => (match x.body with | .vc3 j _ => j == k | _ => false) | none => false

/-- Whether the node has sent LINK_DOWN_PLANNED in the session: nothing more follows it (R253). -/
def Port.closed (v : Port) : Bool := v.replayBuf.any fun x => isVc3 0x18 x.msg

/-- Whether new messages may be sent: no replay run (R236), no resume whose peer's NAK is still awaited (Table 7–8), no
quiet slot, and no LINK_DOWN_PLANNED sent. -/
def Port.maySend (v : Port) : Bool :=
  (v.mode == .up || v.mode == .quiesce) && v.run.isNone && !v.awaitNak && !v.mute && !v.closed

/-- The DATA flits in the replay buffer. -/
def Port.unacked (v : Port) : Nat := (v.replayBuf.map (·.raw.length)).sum

/-- Take `n` from entry `i` of a list of counts. -/
def takeAt (xs : List Nat) (i n : Nat) : List Nat := modifyAt (· - n) xs i

/-- Add `n` to entry `i` of a list of counts. -/
def addAt (xs : List Nat) (i n : Nat) : List Nat := modifyAt (· + n) xs i

/-- Count one on a port error counter (Table 20–8 PORT_ERRCNT), saturating. -/
def Port.countErr (v : Port) (i : Nat) : Port := { v with errCnt := modifyAt (fun n => satAdd 0xFFFFFFFF n 1) v.errCnt i }

/-- A transport error (R20, R264, R271). -/
def State.transportError (s : State) (p : Nat) : State := s.updPort p (·.countErr 7)

/-- Raise a port event: detail B is the bound endpoint ID (Table 19–5). -/
def State.portEvent (s : State) (e : Ev) (p a c : Nat) : State := s.raise e .port p a (s.port p).ep c

/-- Count `n` DATA flits sent. (DEDUCED, log 37.) -/
def State.countTx (s : State) (p n : Nat) : State :=
  let v := s.port p
  let r := bumpPerf v.flitsTx v.flitsTxW n
  let s1 := s.setPort p { v with flitsTx := r.1, flitsTxW := r.2.1 }
  if r.2.2 then s1.counterWrap (0x100000 + p * 0x1000 + 0x50) else s1

/-- Count a DATA flit accepted. (DEDUCED, log 37.) -/
def State.countRx (s : State) (p : Nat) : State :=
  let v := s.port p
  let r := bumpPerf v.flitsRx v.flitsRxW 1
  let s1 := s.setPort p { v with flitsRx := r.1, flitsRxW := r.2.1 }
  if r.2.2 then s1.counterWrap (0x100000 + p * 0x1000 + 0x58) else s1

/-- The node's endpoint ID on the group of port `p`, if learned (R263). -/
def State.nodeId (s : State) (p : Nat) : Option Nat :=
  (s.groupOf p).bind fun g => (s.fabric.nodeIds.get g.group none).map (·.id)

/-! ## The outbound queue, and limited issue -/

/-- Bytes of the outbound queue: the node's requests that wait for a port and a tag. (DEDUCED, log 43.) -/
def State.outQueueBytes (s : State) : Nat :=
  ((s.fabric.outbound.filter (·.port.isNone)).map fun o => 16 * slotsOf 0 o.data.length).sum

/-- Whether `n` bytes of data may enter the outbound queue of 1 MiB (Table 8–4). -/
def State.outRoom (s : State) (n : Nat) : Bool := decide (s.outQueueBytes + 16 * slotsOf 0 n ≤ 2 ^ 20)

/-- Whether issue into a port is limited: for its slice, for the benches, the crossbar or the port blocks, or for a stack's
memory controller, which any port's requests may reach (R83, R85). (DEDUCED, log 131.) -/
def State.issueLimited (s : State) (p : Nat) : Bool :=
  ([p / 2, 16, 17, 18, 19, 21].any fun d => (s.dom d).issueLim) || (List.range s.power.part.slices).any fun n => (s.stk n).limiting

/-! ## Credit returns (R227, R228) -/

/-- Whether the node withholds the credit returns of a virtual channel on a port: every channel's in a dispute or a kerf
(R306); VC0's for a drain, a full apply or a QUIESCE, at a bound of Table 8–4, and while issue is limited (R85); VC0's and
VC2's while the spare's lag throttles inputs (R300). -/
def State.withholds (s : State) (p vc : Nat) : Bool :=
  s.gatesHold ||
  (vc == 0 && (s.isDraining || !s.isReady || (s.port p).quiesce.isSome || s.bench.throttled || s.issueLimited p ||
    decide (4096 ≤ (s.outstanding p).length) || decide (262144 ≤ s.trackerTotal))) ||
  (vc == 2 && s.bench.throttled)

/-- The withheld channels of a port. -/
def State.withheld (s : State) (p : Nat) : List Bool := (List.range 4).map (s.withholds p)

/-- The most that a CR field of one flit returns (Table 7–2). -/
def crMax : Nat → Nat
  | 0 => 1023 | 1 => 1023 | 2 => 127 | _ => 31

/-- The CR fields of the next DATA flit: what is owed, but for the withheld channels. -/
def Port.crNow (v : Port) (held : List Bool) : List Nat :=
  (List.range 4).map fun c => if held.getD c false then 0 else min (v.owed.getD c 0) (crMax c)

/-- Whether returnable credit of a channel passes a floor and is not withheld. -/
def State.creditOver (s : State) (p : Nat) (floor : Nat → Nat) : Bool :=
  (List.range 4).any fun c => decide (floor c < (s.port p).owed.getD c 0) && !s.withholds p c

/-- Consume a message's slots from a receive buffer; they become returnable (R227). (DEDUCED, log 39.) -/
def Port.consume (v : Port) (vc n : Nat) : Port :=
  let k := min n (v.held.getD vc 0)
  { v with held := takeAt v.held vc k, owed := addAt v.owed vc k }

/-- Consume a message whose credit is withheld for a tenant's quota. -/
def Port.consumeFor (v : Port) (vc n t : Nat) : Port :=
  let k := min n (v.held.getD vc 0)
  { v with held := takeAt v.held vc k, quotaOwed := if k = 0 then v.quotaOwed else v.quotaOwed ++ [(t, k)] }

/-- What was withheld for tenants' quotas is returnable again, where `ok` says so of the tenant. -/
def Port.releaseQuota (v : Port) (ok : Nat → Bool) : Port :=
  let back := v.quotaOwed.filter fun x => ok x.1
  { v with quotaOwed := v.quotaOwed.filter fun x => !ok x.1, owed := addAt v.owed 0 ((back.map (·.2)).sum) }

/-! ## Sending (R212 to R219, R226, R235) -/

/-- The bytes of a message of the node (R260, R262, R265, R391, R255). -/
def State.msgBytes (s : State) (p : Nat) (m : Msg) : List Byte :=
  match m.body with
  | .response src dst opcode tag drawer offset st word slot data =>
    transportBytes m.vc dst src opcode false tag drawer data.length offset st.code (ceilDiv slot.length 16) word slot data
  | .request id =>
    match s.fabric.outbound.find? (·.id == id) with
    | none => []
    | some o =>
      let me := (s.nodeId p).getD 0x3FFF
      if carriesData o.opcode then
        transportBytes m.vc o.dst me o.opcode false o.tag o.drawer o.data.length o.offset 0 0 o.word [] o.data
      else transportBytes m.vc o.dst me o.opcode false o.tag o.drawer 0 o.offset 0 (ceilDiv o.data.length 16) o.word o.data []
  | .notify _ src dst counter value slot => transportBytes m.vc dst src 0x14 false 0 0 0 counter 0 1 value slot []
  | .vc3 kind fields => vc3Bytes kind fields

/-- Session keys of zeros, for a port that has none: no session sends with them. -/
def noKeys : LinkKeys := { txKey := [], txSalt := [], rxKey := [], rxSalt := [], confirm := [] }

/-- Send payloads in DATA flits: each takes the next sequence number and returns owed credit; the port, and the flits. -/
def Port.putFlits (held : List Bool) : List (List Byte) → Port → Port × List (List Byte)
  | [], v => (v, [])
  | x :: xs, v =>
    let cr := v.crNow held
    let raw := dataFlit (v.keys.getD noKeys) v.nextSeq (v.expected + 4095) cr x
    let r := Port.putFlits held xs { v with
      owed := v.owed.zipWith (· - ·) cr, nextSeq := v.nextSeq + 1, ackSent := v.expected, txPos := v.txPos + 1 }
    (r.1, raw :: r.2)

/-- Put a message into DATA flits: credit is taken for its whole length (R226), and the flits wait in the replay
buffer for their ACK. (DEDUCED, log 37.) -/
def Port.launch (v : Port) (m : Msg) (bytes : List Byte) (held : List Bool) : Port × List (List Byte) :=
  let r := Port.putFlits held (payloads bytes) v
  -- a quiet slot of the node's own starts so many flits after its QUIET_REQ (R257)
  let quiet := if isVc3 0x11 (some m) then v.quiet.map fun q => { q with at_ := some (r.1.txPos + q.start) } else v.quiet
  ({ r.1 with
      quiet := quiet
      credits := takeAt v.credits m.vc m.slots
      replayBuf := v.replayBuf ++ [{ first := v.nextSeq, raw := r.2, msg := some m }] }, r.2)

/-- Whether a message may start now: credit on its channel, and space for its flits (R226, R235). -/
def Port.room (v : Port) (m : Msg) : Bool :=
  decide (m.slots ≤ v.credits.getD m.vc 0) && decide (v.unacked + flitsOf m.slots ≤ 1024)

/-- A message that has gone: its first sequence number, and its flits. -/
structure Gone where
  seq   : Nat
  msg   : Msg
  flits : List (List Byte)
deriving DecidableEq, Repr

/-- Send the messages of a transmit queue that may go, each channel in its order, up to a LINK_DOWN_PLANNED: what stays, the
port, and what went. -/
def pumpQueue (bytes : Msg → List Byte) (held : List Bool) : List Msg → List Nat → Port → List Msg × Port × List Gone
  | [], _, v => ([], v, [])
  | m :: ms, stuck, v =>
    if !stuck.contains m.vc && v.room m && !v.closed then
      let x := v.launch m (bytes m) held
      let r := pumpQueue bytes held ms stuck x.1
      (r.1, r.2.1, { seq := v.nextSeq, msg := m, flits := x.2 } :: r.2.2)
    else
      let r := pumpQueue bytes held ms (m.vc :: stuck) v
      (m :: r.1, r.2.1, r.2.2)

/-- Mark an outbound request sent: its timeout runs from its lead slot (R289). -/
def State.markSent (s : State) (m : Msg) : State :=
  match m.body with
  | .request id =>
    { s with fabric.outbound := s.fabric.outbound.map fun (o : OutReq) => if o.id = id then { o with sent := true } else o }
  | _ => s

/-- Flits leave on a port. -/
def State.emitFlits (s : State) (p : Nat) (raws : List (List Byte)) : State := raws.foldl (fun u x => u.emit (.flit p x)) s

/-- A message leaves on a port. -/
def State.emitGone (s : State) (p : Nat) (g : Gone) : State :=
  ((s.markSent g.msg).emit (.message p g.seq g.msg)).emitFlits p g.flits

/-- Send a credit-only DATA flit (R228). -/
def State.creditOnly (s : State) (p : Nat) : State :=
  let v := s.port p
  let r := Port.putFlits (s.withheld p) [[]] v
  ((s.setPort p { r.1 with replayBuf := v.replayBuf ++ [{ first := v.nextSeq, raw := r.2, msg := none }] }).emitFlits p r.2).countTx p 1

/-- Send what port `p`'s transmit queue holds, as far as it may go (R200, R226); with no DATA flit ready, a credit-only one
where a channel is owed more than one quarter of its buffer (R228). -/
def State.pump (s : State) (p : Nat) : State :=
  let v := s.port p
  if !v.maySend then s else
  let r := pumpQueue (s.msgBytes p) (s.withheld p) v.txq [] { v with txq := [] }
  let n := (r.2.2.map (·.flits.length)).sum
  let s1 := r.2.2.foldl (fun u x => u.emitGone p x) (s.setPort p { r.2.1 with txq := r.1 })
  if n != 0 then s1.countTx p n
  else if s1.creditOver p (fun c => bufferOf c / 4) && decide (v.unacked < 1024) then s1.creditOnly p
  else s1

/-- Send a message at once, outside the transmit queue. -/
def State.launchNow (s : State) (p : Nat) (m : Msg) : State :=
  let v := s.port p
  let r := v.launch m (s.msgBytes p m) (s.withheld p)
  ((s.setPort p r.1).emitGone p { seq := v.nextSeq, msg := m, flits := r.2 }).countTx p r.2.length

/-- A VC3 message of the node. -/
def vc3Msg (kind : Nat) (fields : List Byte) : Msg :=
  { vc := 3, slots := (vc3Bytes kind fields).length / 16, body := .vc3 kind fields }

/-- Begin to wake a dozing port by light, for transmit work (R209). In dark doze the work waits. -/
def Port.wakeForWork (v : Port) : Port :=
  if v.mode == .doze then { v with doze := v.doze.map fun d => { d with woken := true, lit := true }, laser := true } else v

/-- Queue a message on port `p` and send what may go. -/
def State.send (s : State) (p : Nat) (m : Msg) : State :=
  (s.updPort p fun v => { v with txq := v.txq ++ [m] }.wakeForWork).pump p

/-- Send a VC3 message (Table 7–9): its type and its fields from byte 6. -/
def State.sendVc3 (s : State) (p kind : Nat) (fields : List Byte) : State :=
  s.send p (vc3Msg kind fields)

/-- The next IDLE (0) or NAK (2) flit of a port, under its control counter (R219, R233). -/
def Port.ctrlNow (v : Port) (typ : Nat) : Port × List Byte :=
  ({ v with txCtrl := v.txCtrl + 1, ackSent := v.expected, txPos := v.txPos + 1 },
    ctrlFlit (v.keys.getD noKeys) typ v.txCtrl (v.expected + 4095))

/-- Send an IDLE flit (R214). -/
def State.sendIdle (s : State) (p : Nat) : State :=
  let r := (s.port p).ctrlNow 0
  (s.setPort p r.1).emit (.flit p r.2)

/-- Send a NAK (R232): its ACK is expected − 1. In a quiet slot it waits for the slot's end (R197, R199). -/
def State.sendNak (s : State) (p : Nat) : State :=
  let v := s.port p
  if v.mute then s.setPort p { v with nakDue := true } else
  let r := ({ v with nakDue := false }.countErr 3).ctrlNow 2
  (s.setPort p r.1).emit (.flit p r.2)

/-- Send a key-agreement message in TRAIN flits (R215). -/
def State.sendTrain (s : State) (p : Nat) (bytes : List Byte) : State :=
  let flits := (payloads bytes).map (clearFlit 3)
  (s.updPort p fun v => { v with txPos := v.txPos + flits.length }).emitFlits p flits

/-! ## Responses to fabric requests -/

/-- What serving a request gives back: its status, WORD, operand slot bytes and data; or that its response comes later. -/
structure Reply where
  status : Status
  word   : W64 := 0
  slot   : List Byte := []
  data   : List Byte := []
  later  : Bool := false
deriving DecidableEq, Repr

/-- Send a response on the port the request arrived on (R262): VC2 for a VC2 request, else VC1. -/
def State.respond (s : State) (op : Nat) (r : Req) (x : Reply) : State :=
  if x.later || !(s.port r.port.val).hasSession then s else
  s.send r.port.val
    { vc := if r.vc = 2 then 2 else 1
      slots := slotsOf (ceilDiv x.slot.length 16) x.data.length
      body := .response r.dst.toNat r.src.toNat (op + 128) r.tag.toNat r.drawer.toNat r.offset.toNat x.status x.word
        x.slot x.data }

/-! ## Bindings and node IDs -/

/-- The member ports of the groups on which endpoint `ep` is bound, lowest first. -/
def State.routes (s : State) (ep : Nat) : List Nat :=
  (List.range 32).filter fun p => s.boundOn ep p && (s.port p).hasSession

/-- Whether the node may send requests of its own on port `p`'s group (R265). -/
def State.mayAddress (s : State) (p : Nat) : Bool :=
  (s.nodeId p).isSome || optAny (s.groupOf p) (·.endpoint != 0x3FFF)

/-- Bind endpoint `ep` to a certificate for the session of port `p`. -/
def State.bindEp (s : State) (ep p : Nat) (cert : List Byte) (chain : List (List Byte)) : State :=
  match s.groupOf p with
  | none => s
  | some g =>
    if s.fabric.bindings.any fun b => b.ep == ep && b.cert == cert then
      { s with fabric.bindings := s.fabric.bindings.map fun b =>
          if b.ep = ep ∧ b.cert = cert then { b with ports := b.ports.filter (· != (g.group, p)) ++ [(g.group, p)] } else b }
    else { s with fabric.bindings := s.fabric.bindings ++ [{ ep := ep, cert := cert, chain := chain, ports := [(g.group, p)] }] }

/-- The session of port `p` keeps no binding any longer (R716), and its group forgets its node ID when every member that had
a session as it was learned has been through a full link reset (R263). (DEDUCED, log 40.) -/
def State.endBindings (s : State) (p : Nat) : State :=
  let bs := (s.fabric.bindings.map fun b => { b with ports := b.ports.filter (·.2 != p) }).filter (!·.ports.isEmpty)
  let s1 := { s with fabric.bindings := bs }
  match s.groupOf p with
  | none => s1
  | some g =>
    match s1.fabric.nodeIds.get g.group none with
    | none => s1
    | some k =>
      let due := k.due.filter (· != p)
      { s1 with fabric.nodeIds := s1.fabric.nodeIds.set g.group (if due.isEmpty then none else some { k with due := due }) none }

/-! ## Outbound requests (R283, R289) -/

/-- The lowest node tag of port `p` that is neither outstanding nor in quarantine (R283, R291). (DEDUCED, log 40.) -/
def State.freeTag (s : State) (p : Nat) : Option Nat :=
  (List.range 4096).find? fun t =>
    !s.fabric.outbound.any (fun o => o.port == some p && o.tag == t) &&
    !s.fabric.quarantine.any (fun x => x.1 == p && x.2.1 == t)

/-- The port that an outbound request to an endpoint takes: one that carries traffic, else one that dozes, else one in HOLD
(R209, R244), with a tag free (R283) and an address (R265). (DEDUCED, log 40.) -/
def State.outPort (s : State) (dst : Nat) : Option Nat :=
  let ps := (s.routes dst).filter fun p =>
    (s.port p).quiesce.isNone && !(s.port p).closed && (s.port p).mode != .training && s.mayAddress p && (s.freeTag p).isSome
  ((ps.filter fun p => (s.port p).isUp) ++ (ps.filter fun p => (s.port p).dozes) ++ ps).head?

/-- Give an unassigned outbound request a port and a tag, where one serves, and queue it there; in a dispute or a kerf it waits at
its gate (R306). -/
def State.assign (s : State) (o : OutReq) : State :=
  match if s.gatesHold then none else s.outPort o.dst with
  | none => s
  | some p =>
    let t := (s.freeTag p).getD 0
    let s1 := { s with fabric.outbound := s.fabric.outbound.map fun (x : OutReq) =>
      if x.id = o.id then { x with port := some p, tag := t } else x }
    s1.send p { vc := 0, slots := slotsOf 0 o.data.length, body := .request o.id }

/-- Put a request into the outbound queue, or let its engine stall while the queue is full (Table 8–4). -/
def State.enqueue (s : State) (o : OutReq) : State :=
  if s.outRoom o.data.length then { s with fabric.outbound := s.fabric.outbound ++ [o] }
  else { s with fabric.stalled := s.fabric.stalled ++ [o] }

/-- Try every request that waits in the outbound queue, and those that stall for room there. -/
def State.assignAll (s : State) : State :=
  let s1 := s.fabric.stalled.foldl (fun u o => u.enqueue o) { s with fabric.stalled := [] }
  (s1.fabric.outbound.filter (·.port.isNone)).foldl (fun u o => u.assign o) s1

/-- Issue an outbound request; `place` is its place in the issuer's work. -/
def State.issue (s : State) (issuer : Issuer) (opcode dst drawer offset : Nat) (word : W64) (data : List Byte) (place : Nat) :
    State :=
  let o : OutReq := { id := s.fabric.nextOut, issuer := issuer, opcode := opcode, dst := dst, drawer := drawer, at_ := place,
                      offset := offset, word := word, data := data, port := none, tag := 0, sent := false }
  let s1 := { s with fabric.nextOut := s.fabric.nextOut + 1 }.enqueue o
  if s1.fabric.outbound.contains o then s1.assign o else s1

/-- The node's requests that satisfy `f`, in the outbound queue or on their way, or stalled. -/
def State.outReqs (s : State) (f : OutReq → Bool) : List OutReq := s.fabric.outbound.filter f ++ s.fabric.stalled.filter f

/-- Whether a command still has outbound requests. -/
def State.hasOutbound (s : State) (q : Nat) (i : W32) : Bool := !(s.outReqs fun o => o.issuer == .command q i).isEmpty

/-- The longest prefix of a range whose pieces all completed OK (R436). (DEDUCED, log 50.) -/
def okPrefix (acked : List (Nat × Nat)) : Nat → Nat → Nat
  | 0, n => n
  | fuel + 1, n => match acked.find? (fun a => a.1 == n && a.2 != 0) with | none => n | some a => okPrefix acked fuel (n + a.2)

/-- A WRITE of a remote COPY has completed. When every one has and none is left to issue, the command ends (R436,
R433: a poisoned source ends it POISONED, its result the first poisoned offset). (DEDUCED, log 50.) -/
def State.copyAnswered (s : State) (q : Nat) (i : W32) (off len : Nat) (st : Status) : State :=
  let s1 := s.updRun q i fun c =>
    if st = .ok then
      let a := c.acked ++ [(off, len)]
      { c with acked := a, progress := BitVec.ofNat 64 (okPrefix a (a.length + 1) 0) }
    else { c with failed := if c.failed.isNone then some st else c.failed }
  match s1.runOf q i with
  | none => s1
  | some c =>
    if c.phase = .waiting ∧ ¬ s1.hasOutbound q i then
      let st := match c.failed with | some f => f | none => c.status
      s1.endRun q i st (BitVec.ofNat 64 (okPrefix c.acked (c.acked.length + 1) 0)) c.result
    else s1

/-- A stream's last stored response ends with a status: that of an ADVANCE_FETCH whose WRITEs failed (R560, R561). -/
def State.restatus (s : State) (op n : Nat) (st : Status) : State :=
  let x := s.stream n
  match x.stored with
  | none => s
  | some r => if op = 0x24 then s.setStream n { x with stored := some { r with status := st } } else s

/-- One outbound WRITE of a MASK_FETCH has completed; after a failure none is issued any more, and with the last the
response goes (R561). (DEDUCED, log 69.) -/
def State.maskAnswered (s : State) (key : Nat) (st : Status) : State :=
  let unsent : OutReq → Bool := fun o => o.port.isNone && (match o.issuer with | .mask _ _ k => k == key | _ => false)
  let gone : Nat := if st = Status.ok then 0 else (s.outReqs unsent).length
  let f : Parked → Parked := fun x => match x with
    | .mask op r k left failed word live =>
      if k = key then .mask op r k (left - 1 - gone) (if failed.isNone && st != .ok then some st else failed) word live else x
    | y => y
  let keep : List OutReq → List OutReq := fun os => if st = Status.ok then os else os.filter (!unsent ·)
  let s1 : State := { s with
    fabric.parked := s.fabric.parked.map f, fabric.outbound := keep s.fabric.outbound, fabric.stalled := keep s.fabric.stalled }
  let isDone := fun (x : Parked) => match x with | .mask _ _ k left _ _ _ => k == key && left == 0 | _ => false
  match s1.fabric.parked.find? isDone with
  | some (.mask op r _ _ failed word live) =>
    let s2 := { s1 with fabric.parked := s1.fabric.parked.filter (!isDone ·) }
    let s3 := match failed with
      | some x => if bitOf r.word.toNat 2 then s2.restatus op r.offset.toNat x else s2
      | none => s2
    if live then
      s3.respond op r (match failed with | some x => { status := x, word := word } | none => { status := .ok, word := word })
    else s3
  | _ => s1

/-- A TRANSFER ends with a status: its snapshot is free again, and where a message was lost XFER_ABORT goes when it can
(R589). -/
def State.endTransfer (s : State) (q : Nat) (i : W32) (st : Status) (o : OutReq) : State :=
  let mine : Transfer → Bool := fun t => t.q == q && t.index == i
  let snaps := (s.hold.transfers.filter mine).map (·.snap)
  let s1 := { s with
    hold.transfers := s.hold.transfers.filter (!mine ·)
    hold.snapshots := s.hold.snapshots.map fun (x : Snapshot) => if snaps.contains x.id then { x with busy := false } else x }
  let s2 := s1.endRun q i st 0 0
  if st = .linkLost ∨ st = .timeout then s2.issue .abandoned 0x44 o.dst 0 0 o.word [] 0 else s2

/-- An outbound request completes toward its issuer with a status (R290, R245); a response's WORD and data reach a
transfer through RESPONSE_RECEIVED. -/
def State.outDone (s : State) (o : OutReq) (st : Status) : State :=
  let s1 := { s with fabric.outbound := s.fabric.outbound.filter (·.id != o.id) }
  match o.issuer with
  | .command q i => s1.copyAnswered q i o.at_ o.data.length st
  | .mask _ _ key => s1.maskAnswered key st
  | .transfer q i => if st = .ok then s1 else s1.endTransfer q i st o
  | .abandoned => s1

/-! ## Down, hold, flush, reset -/

/-- The sessions' end on port `p`: keys, sequence state, credits, messages (R251). What outlives it is kept. -/
def Port.afterSession (v : Port) : Port :=
  { enabled := v.enabled, half := v.half, everUp := v.everUp, failRaised := v.failRaised, synthFails := v.synthFails
    synthHw := v.synthHw, loopFail := v.loopFail, alarms := v.alarms, alarmHw := v.alarmHw, flood := v.flood
    waitFlood := v.waitFlood, cause := v.cause, eqCoef := v.eqCoef, thCoef := v.thCoef, session := v.session + 1
    errCnt := v.errCnt, flitsTx := v.flitsTx, flitsTxW := v.flitsTxW, flitsRx := v.flitsRx, flitsRxW := v.flitsRxW
    lastQuiet := v.lastQuiet }

/-- Begin training from step 1 (R187), or wait for FLOOD to stay clear (R204); a port that is not enabled, or
failed loopback, stays dark. -/
def Port.train (v : Port) : Port :=
  if !v.enabled || v.loopFail then { v with mode := .disabled, laser := false }
  else if v.flood || v.waitFlood then { v with mode := .training, step := 0, laser := false, waitFlood := true }
  else { v with mode := .training, step := 1, laser := true, frozen := false }

/-- Waits that port `p` owns are released with LINK_LOST; its passed notifications pass the gate again (R245, R392). -/
def State.releasePort (s : State) (p : Nat) : State :=
  let s1 := s.releaseAll (fun w => w.owner == .port p) .linkLost
  s1.setWaits (s1.sync.waits.map fun w => match w.phase with
    | .passed st x _ => if x = p then { w with phase := .pending st } else w
    | _ => w)

/-- Whether a message of the node is one of the link's own. -/
def Msg.isLink (m : Msg) : Bool := m.vc == 3

/-- Whether a flush of port `p` would find anything to complete, release or discard (R245). -/
def State.leftovers (s : State) (p : Nat) : Bool :=
  let v := s.port p
  s.fabric.outbound.any (·.port == some p) || s.sync.waits.any (fun w => w.owner == .port p && w.isWaiting) ||
  v.txq.any (!·.isLink) || (v.replayBuf.any fun x => optAny x.msg (!·.isLink)) || (v.held.take 3).any (· != 0) ||
  s.fabric.parked.any fun x => optAny x.outstanding (·.port == p)

/-- A parked request's response will not be sent, where it arrived on port `p` (R246); one that failed is at its end. -/
def Parked.mute (p : Nat) (x : Parked) : Option Parked :=
  match x with
  | .req op r failed _ => if r.port.val ≠ p then some x else if failed.isSome then none else some (.req op r none false)
  | .mask op r k l f w live => some (.mask op r k l f w (live && r.port.val != p))
  | .attest r live => some (.attest r (live && r.port.val != p))
  | y => some y

/-- A port's session carries nothing any longer: transmit queue, receive buffers, replay buffer and credits are cleared. -/
def Port.cleared (v : Port) : Port :=
  { v with
    hasSession := false, txq := [], replayBuf := [], credits := [0, 0, 0, 0], held := [0, 0, 0, 0], owed := [0, 0, 0, 0]
    quotaOwed := [], partialMsg := none, rx := [], run := none, runDue := none, nakDue := false }

/-- Flush port `p` (R245) and raise LINK_FLUSHED. -/
def State.flush (s : State) (p : Nat) : State :=
  let s1 := s.updPort p Port.cleared
  let s2 := { s1 with fabric.parked := s1.fabric.parked.filterMap (Parked.mute p) }
  let s3 := (s2.fabric.outbound.filter (·.port == some p)).foldl (fun u o => u.outDone o .linkLost) s2
  (s3.releasePort p).portEvent .linkFlushed p 0 0

/-- End the session of port `p` (R251, R716, R291). -/
def State.endSession (s : State) (p : Nat) : State :=
  let s1 := (s.releasePort p).endBindings p
  let s2 := { s1 with
    fabric.quarantine := s1.fabric.quarantine.filter (·.1 != p), fabric.parked := s1.fabric.parked.filterMap (Parked.mute p) }
  s2.updPort p Port.afterSession

/-- A full link reset: the session ends and training starts (R251), or the port stays dark where `dark` asks. -/
def State.fullReset (s : State) (p : Nat) (dark : Bool) : State :=
  (s.endSession p).updPort p fun v => if dark then { v with mode := .disabled, laser := false } else v.train

/-- Raise LINK_DOWN with its cause and the error window's count, and record the cause (R243). -/
def State.linkDown (s : State) (p cause : Nat) : State :=
  let s1 := s.portEvent .linkDown p cause ((s.port p).errWin.sum)
  s1.updPort p fun v => { v with cause := cause, errWin := [] }

/-- Hold and grace (Table 7–8): the port stops sending and keeps its session, replay buffer, credits and queue. -/
def State.goHold (s : State) (p cause : Nat) : State :=
  let v := s.port p
  if !v.hasSession || v.mode == .hold then s else
  (s.linkDown p cause).updPort p fun w =>
    { w with mode := .hold, frozen := true, grace := true, run := none, runDue := none, nakDue := false, quiet := none
             peerQuiet := none, doze := none, timeouts := 0, awaitNak := false }

/-- Flush at once, then full link reset and training (PEER_RESET, PROTOCOL, grace expiry). -/
def State.flushReset (s : State) (p cause : Nat) (raiseDown : Bool) : State :=
  let s1 := if raiseDown then s.linkDown p cause else s
  (s1.flush p).fullReset p false

/-- A framing or header violation (Table 7–4 check 5, R229): LINK_PROTOCOL, then the flush and the reset. -/
def State.protocolDown (s : State) (p : Nat) : State :=
  (s.portEvent .linkProtocol p 0 0).flushReset p causeProtocol true

/-- The session ends with LINK_DOWN_PLANNED (R253): what is left is flushed; `dark` keeps the lasers off. -/
def State.plannedDown (s : State) (p : Nat) (dark : Bool) : State :=
  let s1 := s.linkDown p causePlanned
  (if s.leftovers p then s1.flush p else s1).fullReset p dark

/-- Whether a port stays dark after the node's own LINK_DOWN_PLANNED with `reason`: for retention, shutdown or a port that is
not enabled, and for a full apply until READY (R253). -/
def State.staysDark (s : State) (reason : Nat) : Bool := reason != 2 || !s.isReady

/-- A port that cannot send LINK_DOWN_PLANNED ends its session as if it had, and flushes (R252 step 4, R253). -/
def State.forcedDown (s : State) (p reason : Nat) : State :=
  ((s.linkDown p causePlanned).flush p).fullReset p (s.staysDark reason)

/-- The reason of the LINK_DOWN_PLANNED that a port has sent. -/
def Port.closeReason (v : Port) : Nat :=
  match (v.replayBuf.find? fun x => isVc3 0x18 x.msg).bind (·.msg) with
  | some m => (match m.body with | .vc3 _ f => byteAt f 0 | _ => 0)
  | none => 0

/-- The session of a port that has sent LINK_DOWN_PLANNED ends (R253). -/
def State.closeSent (s : State) (p : Nat) : State :=
  let v := s.port p
  if v.closed then s.plannedDown p (s.staysDark v.closeReason) else s

/-- End the session of port `p` by the node's own LINK_DOWN_PLANNED with `reason`, once it has gone; a port in HOLD, or in
dark doze, cannot send it and flushes as if it had (R253). (DEDUCED, log 24.) -/
def State.sendPlanned (s : State) (p reason : Nat) : State :=
  let v := s.port p
  if !v.hasSession then s.updPort p fun w => if s.staysDark reason then { w.afterSession with mode := .disabled } else w
  else if v.mode == .training then s.fullReset p (s.staysDark reason)
  else if v.mode == .hold || v.mode == .darkDoze then s.forcedDown p reason
  else if v.txq.any fun m => isVc3 0x18 (some m) then s
  else (s.sendVc3 p 0x18 (leBytes 1 reason)).closeSent p

/-! ## Quiesce (R252) -/

/-- Start a QUIESCE on port `p` with the reason that LINK_DOWN_PLANNED will give; it wakes a dozing port (R209). A held port
ends its session at once; a port without one trains anew or goes dark. -/
def State.quiesce (s : State) (p reason : Nat) : State :=
  let v := s.port p
  if v.isUp || v.dozes then
    let s1 := s.sendVc3 p 0x16 []
    s1.updPort p fun w => { w with
      mode := if w.mode == .up then .quiesce else w.mode
      quiesce := some { (w.quiesce.getD {}) with own := true, reason := reason } }
  else if v.hasSession then s.sendPlanned p reason
  else if s.staysDark reason then s.updPort p fun w => { w.afterSession with mode := .disabled }
  else s.updPort p fun w => w.afterSession.train

/-- Whether the node has finished its work on a quiesced port: no request received and unanswered, every response acked, and
no notification pending for it (R252 step 2). -/
def State.quiesceIdle (s : State) (p : Nat) : Bool :=
  let v := s.port p
  v.txq.isEmpty && (s.outstanding p).isEmpty && !s.fabric.outbound.any (·.port == some p) &&
  (v.replayBuf.all fun x => !optAny x.msg (!·.isLink)) &&
  !s.sync.waits.any fun w => w.isPending && optAny w.target fun t => match t with
    | .endpoint e _ _ => s.boundOn e p | .doorbell _ _ => false

/-- Carry a QUIESCE on: send QUIESCE_DONE when idle, and with both DONEs sent and acked end the session (R252). -/
def State.quiesceStep (s : State) (p : Nat) : State :=
  match (s.port p).quiesce with
  | none => s
  | some z =>
    let v := s.port p
    if !v.isUp then s
    else if !z.sentDone then
      if s.quiesceIdle p then
        (s.updPort p fun w => { w with quiesce := some { z with sentDone := true } }).sendVc3 p 0x17 []
      else s
    else if z.own && z.acked && optAny z.peerDone (fun n => decide (n ≤ v.ackSent)) then s.sendPlanned p z.reason
    else s

/-! ## After a flit, and after a port comes up -/

/-- What follows a flit that passed every check: queued work may go, a QUIESCE may go on, and a session that is closed ends. -/
def State.afterFlit (s : State) (p : Nat) : State := ((s.pump p).quiesceStep p).closeSent p

/-- A port is up again: its queue is sent and requests that waited for a port are placed. -/
def State.resumeTraffic (s : State) (p : Nat) : State := (s.afterFlit p).assignAll

end Sys2Proof.Machine
end

