-- ==== Sys2Proof/Machine/Ports.lean ====
section
/-! DEFINITION. Port training, the synthesiser and quiet slots, light flood, lane alarms, and doze (chapter 6). -/

namespace Sys2Proof.Machine

/-! ## Training (R182, R185 to R187) -/

/-- The lane sets of width `w` in order of k (R181): the first lanes. -/
def laneSets (w : Nat) : List Nat := (List.range (8 / w)).map (· * w)

/-- Whether every lane of the set from `k` of width `w` passes both ways. -/
def setPasses (both : BitVec 8) (w k : Nat) : Bool := (List.range w).all fun i => both.getLsbD (k + i)

/-- The width and first lane that R182 chooses from the lanes that pass in both directions: the largest width not
below the minimum, at its lowest k; only width 8 with fallback off. -/
def chooseWidth (fallback : Bool) (minWidth : Nat) (both : BitVec 8) : Option (Nat × Nat) :=
  let widths := if fallback then [8, 4, 2, 1].filter fun w => decide (minWidth ≤ w) else [8]
  (widths.flatMap fun w => ((laneSets w).filter (setPasses both w)).map fun k => (w, k)).head?

/-- A failed attempt: lasers off, and a pause of 10 ms, or of 1 s after an authentication failure (R187). -/
def State.failAttempt (s : State) (p : Nat) (long : Bool) : State :=
  (s.endSession p).updPort p fun v =>
    { v with mode := .training, step := 0, laser := false, pauseLong := some long }

/-! ## Training words (R184, Table 6–3) -/

/-- The widths that a group's ports offer, as Table 6–2 writes them. -/
def widthsOffered (g : GroupRec) : Nat := if g.fallback then (([1, 2, 4, 8].filter fun w => decide (g.minWidth ≤ w)).sum) else 8

/-- Send the training word of a phase on every lane, with the node's receive pass mask. (DEDUCED, log 107.) -/
def State.sendWords (s : State) (p : Nat) (pass : BitVec 8) (phase : Nat) : State :=
  match s.groupOf p with
  | none => s
  | some g => s.emit (.trainingWords p ((List.range 8).map fun k =>
      TrainWord.bytes { lane := k, half := g.half, port := p, pass := pass, widths := widthsOffered g, phase := phase }))

/-- The valid training words that a port hears, each with the lane it came on: one whose CRC fails is ignored (R184). -/
def heardWords (words : List (Fin 8 × List Byte)) : List (Nat × TrainWord) :=
  words.filterMap fun x => (trainWordOf x.2).map fun w => (x.1.val, w)

/-- The lanes whose words bear their own lane number and the group's speed: a crossed lane counts as failed (R43, R181).
(DEDUCED, log 107.) -/
def numberedLanes (half : Bool) (heard : List (Nat × TrainWord)) : BitVec 8 :=
  BitVec.ofNat 8 (((List.range 8).filter fun k => heard.any fun x => x.1 == k && x.2.lane == k && x.2.half == half).map (2 ^ ·)).sum

/-- The peer's receive pass mask, from the last valid word heard. -/
def peerMask (heard : List (Nat × TrainWord)) : BitVec 8 := match heard.getLast? with | none => 0 | some x => x.2.pass

/-! ## Key agreement's ends (R187, R189, R193) -/

/-- Whether a KA_FAIL reason is an authentication failure (R187). -/
def authReason (r : Nat) : Bool := r == 2 || r == 3 || r == 4 || r == 6

/-- Send KA_FAIL: in a DATA flit at step 7, where no TRAIN flit goes any more (R215, R225), in a TRAIN flit before. -/
def State.sendKaFail (s : State) (p reason : Nat) : State :=
  if (s.port p).hasSession then s.launchNow p (vc3Msg 0x0F (leBytes 1 reason))
  else s.sendTrain p (vc3Bytes 0x0F (leBytes 1 reason))

/-- Refuse the peer with KA_FAIL (Table 6–4b): LINK_AUTH_FAIL and the long pause for an authentication failure. -/
def State.refusePeer (s : State) (p reason : Nat) : State :=
  let s1 := s.sendKaFail p reason
  let s2 := if authReason reason then s1.portEvent .linkAuthFail p reason 0 else s1
  s2.failAttempt p (authReason reason)

/-- Whether the group's endpoint ID is bound to another certificate than `cert` (R193). -/
def State.identityClash (s : State) (p : Nat) (cert : List Byte) : Bool :=
  optAny (s.groupOf p) fun g => g.endpoint != 0x3FFF && optAny (s.boundCert g.endpoint) (· != cert)

/-- Bind the endpoint of a single-endpoint group to the peer's certificate at the end of key agreement (R193). -/
def State.bindPeer (s : State) (p : Nat) : State :=
  match s.groupOf p, (s.port p).cert with
  | some g, some c =>
    if g.endpoint = 0x3FFF then s
    else (s.bindEp g.endpoint p c (s.port p).chain).updPort p fun v => { v with ep := g.endpoint }
  | _, _ => s

/-- The port comes up (Table 6–3 step 7): LINK_UP, and what waited for it. -/
def State.comeUp (s : State) (p : Nat) : State :=
  let s1 := s.updPort p fun v => { v with
    mode := .up, step := 0, everUp := true, synthFails := 0, synthHw := false, floodRaised := false, errWin := []
    alarmHw := v.alarmHw &&& v.activeLanes, frozen := false }
  ((s1.portEvent .linkUp p 0 0).resumeTraffic p).settle

/-- The fields of the node's CREDIT_INIT: its buffers of Table 7–6. -/
def creditInitFields : List Byte := leBytes 2 (bufferOf 0) ++ leBytes 2 (bufferOf 1) ++ leBytes 2 (bufferOf 2)

/-- The peer and the node have the same keys: the session begins, and CREDIT_INIT is the first VC3 message
(R225); but a peer whose group's ID has meanwhile been bound to another certificate is refused (R193, R195). -/
def State.openSession (s : State) (p : Nat) : State :=
  if optAny (s.port p).cert (s.identityClash p) then s.refusePeer p 6 else
  let s1 := s.updPort p fun v => { v with hasSession := true, step := 7, credits := [0, 0, 0, 128] }
  (s1.launchNow p (vc3Msg 0x10 creditInitFields)).bindPeer p

/-- Begin key agreement (R190): a fresh nonce and ephemeral key; KA_HELLO and KA_CERT go without waiting. -/
def State.beginAgreement (s : State) (p : Nat) : State :=
  let nonce := sub (Config.freeBytes s.fresh 32) 0 32
  let eph := sub (Config.freeBytes (s.fresh + 1) 97) 0 97
  let s1 := s.draw.draw.updPort p fun v => { v with step := 6, ka := some { nonce := nonce, eph := eph } }
  (s1.sendTrain p (vc3Bytes 0x01 (helloFields nonce eph))).sendTrain p
    (vc3Bytes 0x02 (certFields Config.identityChain Config.linkPublic Config.linkSignature))

/-- Step 3 of Table 6–3 ends: the lanes that pass each way, from what the receivers find clean, the lane numbers and the
peer's mask; the lanes of an active alarm never do (R718). -/
def Port.masks (v : Port) (half : Bool) (receives : BitVec 8) (words : List (Fin 8 × List Byte)) : Port :=
  let heard := heardWords words
  { v with step := 4, passTx := peerMask heard &&& ~~~v.alarms
           passRx := receives &&& numberedLanes half heard &&& ~~~v.alarms }

/-- TRAINING_STEP_DONE (R185): a step of Table 6–3 completes. `receives` are the lanes whose loops have converged, `words` what
each lane heard. (DESIGN CHOICE, log 107.) -/
def execTrainingStepDone (p : Fin 32) (receives : BitVec 8) (words : List (Fin 8 × List Byte)) (s : State) : Res :=
  let v := s.port p.val
  if v.mode != .training || v.step == 0 then .next s else
  match v.step with
  | 1 => .next ((s.setPort p.val { v with step := 2, synthFails := 0 }).sendWords p.val 0 0)
  | 2 => .next ((s.setPort p.val { v with step := 3 }).sendWords p.val (receives &&& ~~~v.alarms) 1)
  | 3 =>
    let w := v.masks (optAny (s.groupOf p.val) (·.half)) receives words
    .next ((s.setPort p.val w).sendWords p.val w.passRx 1)
  | 4 =>
    match s.groupOf p.val with
    | none => .next s
    | some g =>
      match chooseWidth g.fallback g.minWidth (v.passTx &&& v.passRx) with
      | none => .next (s.failAttempt p.val false)
      | some w => .next ((s.setPort p.val { v with step := 5, width := w.1, lane0 := w.2, half := g.half }).sendWords p.val v.passRx 2)
  | 5 => .next (s.beginAgreement p.val)
  | 6 => if optAny v.ka (fun k => k.finished && k.finishSent) then .next (s.openSession p.val) else .next s
  | 7 => if v.creditInit then .next ((s.portInput (.trainingStepDone p receives words)).comeUp p.val) else .next s
  | _ => .next s

/-- TRAINING_STEP_TIMEOUT (R187): a step fails or overruns its bound. -/
def execTrainingStepTimeout (p : Fin 32) (s : State) : Res :=
  let v := s.port p.val
  if v.mode == .training && v.step != 0 then .next (s.failAttempt p.val false) else .next s

/-- TRAINING_RETRY_PAUSE_EXPIRY (R187): the pause after a failed attempt ends. -/
def execTrainingRetryPauseExpiry (p : Fin 32) (s : State) : Res :=
  let v := s.port p.val
  if v.mode == .training && v.pauseLong.isSome then .next (s.setPort p.val { v with pauseLong := none }.train) else .next s

/-- TRAIN_FAIL_TIMER (R187): not up 200 ms after the first attempt; raised once per enable. -/
def execTrainFailTimer (p : Fin 32) (s : State) : Res :=
  let v := s.port p.val
  if v.enabled && v.mode == .training && !v.everUp && !v.failRaised then
    .next (((s.portInput (.trainFailTimer p)).setPort p.val { v with failRaised := true }).portEvent .trainFail p.val 0 0)
  else .next s

/-- SYNTH_LOCK_TIMEOUT (R196, R206): the event, the count of consecutive failures, and the end of the attempt or,
at an up port, hold and grace. -/
def execSynthLockTimeout (p : Fin 32) (s : State) : Res :=
  let v := s.port p.val
  let training := v.mode == .training && v.step != 0
  if !training && !v.isUp && v.mode != .hold && !v.dozes then .next s else
  let s1 := ((s.portInput (.synthLockTimeout p)).setPort p.val { v with
    synthFails := v.synthFails + 1, synthHw := v.synthHw || decide (3 ≤ v.synthFails + 1) }).portEvent .synthLockFail p.val 0 0
  .next (if training then s1.failAttempt p.val false else s1.goHold p.val causeSynthLock).settle

/-! ## Replay runs (R236, R237) and quiet slots (R197 to R200) -/

/-- Start a replay run: every unacked flit is sent again, unchanged, before any new one (R236, R219). `a` is the ACK of the NAK
that starts it, none for the replay timer. A port still in training stays there; in a quiet slot the run waits. -/
def State.startRun (s : State) (p : Nat) (a : Option Nat) : State :=
  let v := s.port p
  if v.replayBuf.isEmpty then s.pump p
  else if v.mute then s.setPort p { v with runDue := some a }
  else
    let s1 := s.setPort p { v.countErr 5 with
      run := some a, runDue := none, txPos := v.txPos + v.unacked, mode := if v.mode == .training then .training else .replay }
    (s1.emitFlits p (v.replayBuf.flatMap (·.raw))).countTx p v.unacked

/-- What waited for the end of a quiet slot: a NAK first (R232), then a replay run, then new work. -/
def State.afterSlot (s : State) (p : Nat) : State :=
  if (s.port p).mute then s else
  let s1 := if (s.port p).nakDue then s.sendNak p else s
  match (s1.port p).runDue with | some a => s1.startRun p a | none => s1.afterFlit p

/-- QUIET_SLOT_ANNOUNCE (R197): QUIET_REQ, for a slot of at most 8 µs at least 1,024 flits ahead, and at most one
slot in 10 ms. (DEDUCED, log 41.) -/
def execQuietSlotAnnounce (p : Fin 32) (len start : Nat) (s : State) : Res :=
  let v := s.port p.val
  let due := match v.lastQuiet with | none => true | some t => decide (t + 10000000 ≤ s.ts)
  if v.isUp && v.quiet.isNone && due && decide (1 ≤ len) && decide (len ≤ 8000) && decide (1024 ≤ start) && decide (start ≤ 65535) then
    .next ((s.setPort p.val { v with quiet := some { len := len, start := start } }).sendVc3 p.val 0x11 (leBytes 2 len ++ leBytes 2 start))
  else .next s

/-- The peer's side of a quiet slot starts: nothing is sent until it ends. -/
def Port.startPeerQuiet (v : Port) (x : Quiet) : Port := { v with peerQuiet := some { x with active := true } }

/-- Whether a count of flit positions has reached a slot's start (R257). -/
def Quiet.reached (q : Quiet) (n : Nat) : Bool := optAny q.at_ fun a => decide (a ≤ n)

/-- Start the slot `q` of the node's own. -/
def Port.startQuiet (v : Port) (q : Quiet) (now : Nat) : Port :=
  { v with quiet := some { q with active := true }, lastQuiet := some now }

/-- QUIET_SLOT_START (R257): the announced count of flits is reached, sent by the requester or received by its partner: the
node's own acknowledged slot, or the partner's, begins. (DEDUCED, log 41.) -/
def execQuietSlotStart (p : Fin 32) (s : State) : Res :=
  let v := s.port p.val
  let own := optAny v.quiet fun q => q.acked && !q.active && q.reached v.txPos
  let theirs := optAny v.peerQuiet fun q => !q.active && q.reached v.rxPos
  .next (match v.quiet, v.peerQuiet with
    | some q, w =>
      if own then s.setPort p.val (v.startQuiet q s.ts)
      else (match w with | some x => if theirs then s.setPort p.val (v.startPeerQuiet x) else s | none => s)
    | none, some x => if theirs then s.setPort p.val (v.startPeerQuiet x) else s
    | none, none => s)

/-- QUIET_SLOT_END (R197): the slot that runs ends, and what waited is sent in order: a NAK, a replay run, new work (R200).
(DEDUCED, log 41.) -/
def execQuietSlotEnd (p : Fin 32) (s : State) : Res :=
  let v := s.port p.val
  if quietRuns v.quiet then .next ((s.setPort p.val { v with quiet := none }).afterSlot p.val)
  else if quietRuns v.peerQuiet then .next ((s.setPort p.val { v with peerQuiet := none }).afterSlot p.val)
  else .next s

/-- QUIET_DEFERRAL_EXPIRY (R198): no QUIET_ACK for 1 s: the slot is taken unacknowledged. (DEDUCED, log 41.) -/
def execQuietDeferralExpiry (p : Fin 32) (s : State) : Res :=
  let v := s.port p.val
  match v.quiet with
  | some q => if !q.acked && !q.active then .next (s.setPort p.val (v.startQuiet q s.ts)) else .next s
  | none => .next s

/-! ## Flood (R202 to R204) -/

/-- FLOOD_ASSERT (R202): an up port goes down at once, with PORT_FLOOD once per down episode. (DEDUCED, log 38.) -/
def execFloodAssert (p : Fin 32) (s : State) : Res :=
  let v := s.port p.val
  let s1 := s.setPort p.val { v with flood := true }
  if !v.isUp then .next s1 else
  let s2 := (s1.portInput (.floodAssert p)).goHold p.val causeFlood
  .next (if v.floodRaised then s2
    else (s2.updPort p.val fun w => { w with floodRaised := true }).portEvent .portFlood p.val 0 0)

/-- FLOOD_DEBOUNCE_EXPIRY (R203, R204): FLOOD clear for 5 ms: the resume retrain, or the full training that waited,
starts. (DEDUCED, log 38.) -/
def execFloodDebounceExpiry (p : Fin 32) (s : State) : Res :=
  let v := { s.port p.val with flood := false, waitFlood := false }
  if (s.port p.val).waitFlood && (s.port p.val).mode == .training then .next (s.setPort p.val v.train)
  else .next (s.setPort p.val v)

/-! ## Lanes (R205, R206, R718, R243) -/

/-- LANE_ALARM_ASSERT (R718): the port is down for hardware reasons, and an active lane takes an up or held port
down. -/
def execLaneAlarmAssert (p : Fin 32) (lane : Fin 8) (s : State) : Res :=
  let v := s.port p.val
  let bit : BitVec 8 := 1#8 <<< lane.val
  let s1 := (s.portInput (.laneAlarmAssert p lane)).setPort p.val { v with alarms := v.alarms ||| bit, alarmHw := v.alarmHw ||| bit }
  .next (if v.isUp && v.activeLanes.getLsbD lane.val then s1.goHold p.val causeLossOfSignal else s1).settle

/-- LANE_ALARM_CLEAR (R206). -/
def execLaneAlarmClear (p : Fin 32) (lane : Fin 8) (s : State) : Res :=
  let bit : BitVec 8 := 1#8 <<< lane.val
  .next ((s.portInput (.laneAlarmClear p lane)).updPort p.val fun v => { v with alarms := v.alarms &&& ~~~bit, alarmHw := v.alarmHw &&& ~~~bit }).settle

/-- LOSS_OF_SIGNAL (R243): hold and grace. -/
def execLossOfSignal (p : Fin 32) (s : State) : Res :=
  if (s.port p.val).isUp then .next ((s.portInput (.lossOfSignal p)).goHold p.val causeLossOfSignal) else .next s

/-- RESUME_RETRAIN_DONE (R188, Table 7–8 step 3): within grace the port is UP, its first flit a NAK, and LINK_RESUMED
is raised; a dozing port resumes its traffic. It does not complete while a lane of the set is out or FLOOD holds.
(DEDUCED, log 38.) -/
def execResumeRetrainDone (p : Fin 32) (s : State) : Res :=
  let v := s.port p.val
  if v.flood || v.alarms &&& v.activeLanes != 0 then .next s
  else if v.mode == .hold && v.grace then
    let s1 := ((s.portInput (.resumeRetrainDone p)).setPort p.val { v with
      mode := if v.quiesce.isSome then .quiesce else .up, frozen := false, awaitNak := true, errWin := []
      floodRaised := false, synthFails := 0, synthHw := false, alarmHw := v.alarmHw &&& v.activeLanes }).sendNak p.val
    .next ((s1.portEvent .linkResumed p.val 0 0).assignAll).settle
  else if v.dozes && optAny v.doze (·.woken) then
    .next ((s.setPort p.val { v with mode := if v.quiesce.isSome then .quiesce else .up, doze := none, laser := true, frozen := false, errWin := [] }).resumeTraffic p.val)
  else .next s

/-- GRACE_EXPIRY (R244): no NAK came from the peer within grace: flush, then full link reset. -/
def execGraceExpiry (p : Fin 32) (s : State) : Res :=
  if (s.port p.val).grace then .next ((s.portInput (.graceExpiry p)).flushReset p.val 0 false).settle else .next s

/-- QUIESCE_BOUND_EXPIRY (R252 step 4): LINK_DOWN PLANNED, flush, reset. -/
def execQuiesceBoundExpiry (p : Fin 32) (s : State) : Res :=
  match (s.port p.val).quiesce with
  | none => .next s
  | some z =>
    if !z.own then .next s
    else .next ((s.portInput (.quiesceBoundExpiry p)).forcedDown p.val z.reason)

/-! ## Doze (R207 to R211) -/

/-- Enter a doze that both sides have agreed (R257): lasers off, and in dark doze the detector as well. (DEDUCED, log 41.) -/
def Port.beginDoze (v : Port) (d : Doze) : Port :=
  { v with mode := if d.dark then .darkDoze else .doze, laser := false, doze := some { d with begun := true }
           quiet := none, peerQuiet := none }

/-- DOZE_EXPIRY (R208, R211): at D the side that asked for the doze, or that stayed dark after a false wake, turns
its laser on. (DEDUCED, log 41.) -/
def execDozeExpiry (p : Fin 32) (s : State) : Res :=
  let v := s.port p.val
  match v.doze with
  | none => .next s
  | some d =>
    if v.dozes && (d.own || d.lit) then .next (s.setPort p.val { v with laser := true, doze := some { d with woken := true } })
    else .next s

/-- DARK_DOZE_WAKE (R210): at D − G the port listens and beacons. (DEDUCED, log 41.) -/
def execDarkDozeWake (p : Fin 32) (s : State) : Res :=
  let v := s.port p.val
  match v.doze with
  | none => .next s
  | some d =>
    if v.mode == .darkDoze then
      .next (s.setPort p.val { v with laser := true, doze := some { d with woken := true, search := true } })
    else .next s

/-- DOZE_SEARCH_EXPIRY (R210): no partner by D + 4 G. (DEDUCED, log 41.) -/
def execDozeSearchExpiry (p : Fin 32) (s : State) : Res :=
  let v := s.port p.val
  if v.mode == .darkDoze && optAny v.doze (·.search) then
    .next (((s.portInput (.dozeSearchExpiry p)).portEvent .dozeSearchFail p.val 0 0).goHold p.val causeDozeSearch)
  else .next s

/-- DOZE_LIGHT_WAKE (R211): light wakes a dozing port; in dark doze the detector is off. (DEDUCED, log 41.) -/
def execDozeLightWake (p : Fin 32) (s : State) : Res :=
  let v := s.port p.val
  match v.doze with
  | none => .next s
  | some d =>
    if v.mode == .doze then
      .next (s.setPort p.val { v with laser := true, doze := some { d with woken := true, lit := true } })
    else .next s

/-- DOZE_AMBIENT_EXPIRY (R211): no training word within 2 ms and unmodulated light: AMBIENT_FLOOD, and dark doze
until D. (DEDUCED, log 41.) -/
def execDozeAmbientExpiry (p : Fin 32) (trainingWord unmodulated : Bool) (s : State) : Res :=
  let v := s.port p.val
  match v.doze with
  | none => .next s
  | some d =>
    if v.mode == .doze && d.lit && !trainingWord && unmodulated then
      .next (((s.portInput (.dozeAmbientExpiry p trainingWord unmodulated)).setPort p.val { v with
        mode := .darkDoze, laser := false, doze := some { d with dark := true, woken := false } }).portEvent .ambientFlood p.val 0 0)
    else .next s

end Sys2Proof.Machine
end

