-- ==== Sys2Proof/Machine/Link.lean ====
section
/-! DEFINITION. The Chotelin Link (chapter 7): received flits and their checks, acks, NAKs and replay, credits, the error
window, and the VC3 messages with key agreement (chapter 6). -/

namespace Sys2Proof

/-! ## What flits and key-agreement messages hold -/

/-- What an IDLE or NAK flit must hold besides its tag (check 5): reserved bits, SEQ, credit fields and bytes 16–231 zero, and
its type. (DEDUCED, log 39.) -/
def Flit.plainCtrl (f : Flit) (typ : Nat) : Bool := f.clean && f.seq == 0 && f.noCredit && f.typ == typ && f.blank

/-- Whether the fields that R215 requires to be 0 in a TRAIN flit are. -/
def Flit.plainTrain (f : Flit) : Bool := f.seq == 0 && f.ack == 0 && f.noCredit && f.clean && f.noTag

/-- Whether a TRAIN flit carries KA_HELLO. -/
def Flit.hello (f : Flit) : Bool :=
  f.typ == 3 && byteAt (f.clearSlots.headD []) 0 % 4 == 3 && byteAt (f.clearSlots.headD []) 4 == 1

/-- The node's own KA_HELLO. -/
def Agreement.ownHello (k : Agreement) : List Byte := vc3Bytes 0x01 (helloFields k.nonce k.eph)
/-- The node's own KA_CERT. -/
def ownCert : List Byte := vc3Bytes 0x02 (certFields Config.identityChain Config.linkPublic Config.linkSignature)
/-- A byte string as an unsigned big-endian number. -/
def beNat (bs : List Byte) : Nat := bs.foldl (fun a b => a * 256 + b.toNat) 0
/-- The nonce and the ephemeral public key of a KA_HELLO message. -/
def helloOf (m : List Byte) : List Byte × List Byte := (sub m 7 32, sub m 39 97)
/-- Whether the node's nonce is the lower one (R190). -/
def Agreement.lower (k : Agreement) (hello : List Byte) : Bool := decide (beNat k.nonce < beNat (helloOf hello).1)

/-- The transcript hash of an agreement, once both of the peer's messages are there (R190). -/
def Agreement.transcript (k : Agreement) : Option (List Byte) :=
  match k.peerHello, k.peerCert with
  | some h, some c => some (transcriptOf (k.lower h) k.ownHello ownCert h c)
  | _, _ => none

end Sys2Proof

namespace Sys2Proof.Machine

/-! ## Error window and NAKs (R222, R232, R240 to R242) -/

/-- Whether received flits are checked under Table 7–4: from the end of step 6 on, and not in HOLD or doze (R186). -/
def Port.receives (v : Port) : Bool := v.isUp || (v.mode == .training && v.step == 7)

/-- Count an error on counter `i` of PORT_ERRCNT and in the error window; the threshold takes the port down (R241).
Flits under FLOOD are not counted (R202). -/
def State.countFlitError (s : State) (p i : Nat) : State :=
  let v := s.port p
  if v.flood then s else
  let v1 := v.countErr i
  if !v.isUp then s.setPort p v1 else
  let v2 := { v1 with errWin := match v1.errWin with | [] => [1] | n :: ns => (n + 1) :: ns }
  let s1 := s.setPort p v2
  let threshold := match s.groupOf p with | none => 64 | some g => g.threshold
  if threshold ≤ v2.errWin.sum then s1.goHold p causeErrorWindow else s1

/-- Start a NAK where none is outstanding; one that a corrupt flit started is not repeated (R222, R232). -/
def State.startNak (s : State) (p : Nat) (repeats : Bool) : State :=
  let v := s.port p
  if v.nak.isSome then s else (s.setPort p { v with nak := some repeats }).sendNak p

/-- A flit that fails check 1 or 2 of Table 7–4 is a lost DATA position while UP or in REPLAY (R222). -/
def State.lostPosition (s : State) (p : Nat) : State := if (s.port p).isUp then s.startNak p false else s

/-! ## Codewords (R179, R221, R88) -/

/-- The uncorrectable codewords that overlap the next flit: those that its command names, and one that was found under the
flit before. -/
def Port.badUnder (v : Port) (f : Flit) : List Nat :=
  ((codewordsOf v.rxPos).zipIdx.filter fun x => f.lost.contains x.2 || v.badCw == some x.1).map (·.1)

/-- Those of them that no earlier flit has counted. -/
def Port.newBad (v : Port) (f : Flit) : List Nat := (v.badUnder f).filter fun c => v.badCw != some c

/-- A flit position has come (R257). -/
def Port.landed (v : Port) (f : Flit) : Port :=
  { v with rxPos := v.rxPos + 1, badCw := match (v.badUnder f).getLast? with | none => v.badCw | some c => some c }

/-- What a received codeword makes of the port's optical loops (R88, R90): one that the FEC corrects or finds clean adapts
each loop that neither the joinery nor a hold freezes. (DESIGN CHOICE, log 18.) -/
def State.adapted (s : State) (p : Nat) (f : Flit) : State :=
  let v := s.port p
  if !(v.badUnder f).isEmpty || v.frozen || v.mode == .disabled || v.dozes then s
  else s.setPort p { v with
    eqCoef := if s.loops.eqFreeze.getLsbD p then v.eqCoef else v.eqCoef + 1
    thCoef := if s.loops.thFreeze.getLsbD p then v.thCoef else v.thCoef + 1 }

/-- A flit position of the stream: the loops adapt, and the position counts. -/
def State.arrives (s : State) (p : Nat) (f : Flit) : State :=
  (s.adapted p f).setPort p (((s.adapted p f).port p).landed f)

/-- Checks 1 and 2 of Table 7–4, and what follows for a flit that passes them. A codeword is counted once, whatever flits it
overlaps (R221). -/
def State.checked (s : State) (p : Nat) (f : Flit) (ok : State → State) : State :=
  let v := s.port p
  let s1 := s.arrives p f
  if !v.receives then s1
  else if !(v.badUnder f).isEmpty then ((v.newBad f).foldl (fun u _ => u.countFlitError p 0) s1).lostPosition p
  else if !f.crcOk then (s1.countFlitError p 1).lostPosition p
  else ok s1

/-! ## Acks and credits (R227, R234) -/

/-- Release `n` flits from the front of the replay buffer: what is left, and the messages that are acked. -/
def releaseFlits : Nat → List Sent → List Sent × List Msg
  | _, [] => ([], [])
  | n, x :: xs =>
    if n = 0 then (x :: xs, [])
    else if x.raw.length ≤ n then
      let r := releaseFlits (n - x.raw.length) xs
      (r.1, x.msg.toList ++ r.2)
    else ({ x with first := x.first + n, raw := x.raw.drop n } :: xs, [])

/-- A doze that both sides have agreed begins; work that waits wakes the port at once (R209, R257). -/
def Port.startDoze (v : Port) : Port :=
  match v.doze with
  | some d => if d.begun || v.mode != .up then v else
      let w := v.beginDoze d
      if w.txq.isEmpty then w else w.wakeForWork
  | none => v

/-- A message of the node is acked: a delivered notification frees its record (R384, R392), the DOZE_ACK it sent starts the
doze (R257), its QUIESCE_DONE is done (R252). -/
def State.acked (s : State) (p : Nat) (m : Msg) : State :=
  match m.body with
  | .notify w _ _ _ _ _ => s.freeWait w
  | .vc3 k _ =>
    if k = 0x14 then s.updPort p Port.startDoze
    else if k = 0x17 then s.updPort p fun v => { v with quiesce := v.quiesce.map fun z => { z with acked := true } }
    else s
  | _ => s

/-- Take an ACK: in range it releases every flit from the oldest through it; out of range it is stale (R234). -/
def State.takeAck (s : State) (p a : Nat) : State :=
  let v := s.port p
  let oldest := v.nextSeq - v.unacked
  let n := (a + 1 + 4096 - oldest % 4096) % 4096
  if v.unacked < n ∨ n = 0 then s else
  let r := releaseFlits n v.replayBuf
  r.2.foldl (fun u m => u.acked p m) (s.setPort p { v with replayBuf := r.1, timeouts := 0 })

/-- Clear a NAK that is not repeated: a flit has passed every check (R222). -/
def Port.calm (v : Port) : Port := { v with nak := if v.nak = some false then none else v.nak }

/-! ## Flits -/

/-- Whether the tag of an IDLE or NAK flit verifies at a port, under its control counter. -/
def Port.ctrlOk (v : Port) (f : Flit) : Bool := f.ctrlOk (v.keys.getD noKeys)

/-- The plaintext of the DATA flit that the port expects next, or none where its tag fails (R218). -/
def Port.opens (v : Port) (f : Flit) : Option (List Byte) := f.opened (v.keys.getD noKeys) v.expected

/-- An IDLE flit that has passed checks 1 and 2; `tagOk` is what the GCM tag comes to. -/
def State.takeIdle (tagOk : Bool) (s : State) (p : Nat) (f : Flit) : State :=
  let v := s.port p
  if !tagOk || f.ctrl ≤ v.rxCtrl then s.countFlitError p 2
  else if !f.plainCtrl 0 then (s.protocolDown p).settle
  else ((s.setPort p { v.calm with rxCtrl := f.ctrl }).takeAck p f.ack).afterFlit p

/-- IDLE_FLIT (R221): its checks, and its ACK. (DEDUCED, log 39.) -/
def execIdleFlit (p : Fin 32) (f : Flit) (s : State) : Res :=
  .next (s.checked p.val f fun u => u.takeIdle ((s.port p.val).ctrlOk f) p.val f)

/-- What the framing of a port's DATA stream depends on: a buffer's space is what neither holds slots nor has credit still to
be returned (R226, R229). -/
def Port.frameRule (v : Port) : FrameRule :=
  { train := false, pos := v.rxPos, longest := longestOf, known := knownInData v.isUp
    space := fun c => bufferOf c - v.owed.getD c 0 - (if c = 0 then (v.quotaOwed.map (·.2)).sum else 0) }

/-- Accept a DATA flit in sequence: its messages enter the receive buffers, its ACK and credits are taken (R227,
R231); or a header or framing violation, or a sender beyond its window of 1,024 flits (R259), takes the link down. -/
def State.acceptData (s : State) (p : Nat) (f : Flit) (plain : List Byte) : State :=
  let v := s.port p
  match if f.clean && f.typ == 1 && decide (v.expected < v.ackSent + 1024) then
      frame v.frameRule (slotsIn plain) { part := v.partialMsg, held := v.held, done := [] } else none with
  | none => s.protocolDown p
  | some x =>
    let s1 := s.setPort p { v with
      expected := v.expected + 1, nak := none, nakDue := false, partialMsg := x.part, held := x.held, rx := v.rx ++ x.done
      credits := v.credits.zipWith (· + ·) f.credits }
    (((s1.countRx p).takeAck p f.ack).afterFlit p)

/-- A DATA flit that has passed checks 1 and 2 (R231): accepted, out of order, or a duplicate; `plain` is what the GCM
opens it to at the expected number. -/
def State.takeData (plain : Option (List Byte)) (s : State) (p : Nat) (f : Flit) : State :=
  let d := (f.seq + 4096 - (s.port p).expected % 4096) % 4096
  if d = 0 then
    match plain with
    | some x => (s.acceptData p f x).settle
    | none =>
      let s1 := s.countFlitError p 2
      if (s1.port p).receives then s1.startNak p true else s1
  else if d ≤ 1023 then s.startNak p true
  else s

/-- DATA_FLIT (R231): classified by sequence after the FEC and the CRC. (DEDUCED, log 39.) -/
def execDataFlit (p : Fin 32) (f : Flit) (s : State) : Res :=
  .next (s.checked p.val f fun u => u.takeData ((s.port p.val).opens f) p.val f)

/-- A NAK flit that has passed checks 1 and 2 (R236, Table 7–8): an ACK in range releases flits and starts a replay run; the
NAK that started the run in progress is ignored. After a resume it ends grace. (DEDUCED, log 39.) -/
def State.takeNak (tagOk : Bool) (s : State) (p : Nat) (f : Flit) : State :=
  let v := s.port p
  if !tagOk || f.ctrl ≤ v.rxCtrl then s.countFlitError p 2
  else if !f.plainCtrl 2 then (s.protocolDown p).settle
  else
    let n := (f.ack + 1 + 4096 - (v.nextSeq - v.unacked) % 4096) % 4096
    let s1 := s.setPort p { v.calm.countErr 4 with rxCtrl := f.ctrl, grace := false, awaitNak := false }
    if v.unacked < n then s1.afterFlit p
    else if v.run = some (some f.ack) then s1
    else ((s1.takeAck p f.ack).startRun p (some f.ack)).quiesceStep p

/-- NAK_FLIT (R236). -/
def execNakFlit (p : Fin 32) (f : Flit) (s : State) : Res :=
  .next (s.checked p.val f fun u => u.takeNak ((s.port p.val).ctrlOk f) p.val f)

/-- REPLAY_RUN_DONE (R236): the last flit of the run has been sent. -/
def execReplayRunDone (p : Fin 32) (s : State) : Res :=
  let v := s.port p.val
  if v.run.isNone then .next s
  else .next ((s.setPort p.val { v with
    run := none
    mode := if v.mode == .replay then (if v.quiesce.isSome then .quiesce else .up) else v.mode }).afterFlit p.val)

/-- REPLAY_TIMER_EXPIRY (R237, R238): a run from the oldest flit; the eighth in a row takes the port down, or ends an attempt
whose session is not up yet. (DEDUCED, log 39.) -/
def execReplayTimerExpiry (p : Fin 32) (s : State) : Res :=
  let v := s.port p.val
  if !v.receives || v.replayBuf.isEmpty then .next s else
  let s1 := s.setPort p.val { v.countErr 6 with timeouts := v.timeouts + 1 }
  if v.timeouts + 1 < 8 then .next (s1.startRun p.val none)
  else
    let s2 := s1.portInput (.replayTimerExpiry p)
    .next (if v.isUp then s2.goHold p.val causeReplayStall else s2.failAttempt p.val false)

/-- NAK_REPEAT_EXPIRY (R232): a further NAK after 4 µs. -/
def execNakRepeatExpiry (p : Fin 32) (s : State) : Res :=
  let v := s.port p.val
  if v.receives && v.nak == some true then .next (s.sendNak p.val) else .next s

/-- CREDIT_RETURN_TIMER (R228): a credit-only DATA flit, unless the node withholds the credit. -/
def execCreditReturnTimer (p : Fin 32) (s : State) : Res :=
  let v := s.port p.val
  if v.maySend && s.creditOver p.val (fun _ => 0) && decide (v.unacked < 1024) then .next (s.creditOnly p.val) else .next s

/-- ERROR_SUBWINDOW (R240): the window slides by one sub-window of sixteen. -/
def execErrorSubwindow (p : Fin 32) (s : State) : Res :=
  let v := s.port p.val
  if v.isUp then .next (s.setPort p.val { v with errWin := (0 :: v.errWin).take 16 }) else .next s

/-! ## TRAIN flits (R215, R216, R243) -/

/-- The framing of an attempt's TRAIN flits (R216, R223). -/
def Port.trainRule (v : Port) : FrameRule :=
  { train := true, pos := v.rxPos, longest := fun _ => 640, space := fun _ => 640, known := fun sl => trainKinds (byteAt sl 4) }

/-- A TRAIN flit of the attempt under way: its slots enter the training buffer; a lost or ill-framed one fails the attempt. -/
def State.takeTrain (s : State) (p : Nat) (f : Flit) : State :=
  let v := s.port p
  match frame v.trainRule f.clearSlots { part := v.partialMsg, held := [0, 0, 0, v.trainSlots], done := [] } with
  | none => s.refusePeer p 1
  | some x =>
    if !f.plainTrain || x.held.take 3 != [0, 0, 0] then s.refusePeer p 1
    else s.setPort p { v with partialMsg := x.part, trainSlots := x.held.getD 3 0, rx := v.rx ++ x.done }

/-- TRAIN_FLIT (R215): in step 5 or 6 its slots enter the training buffer. At an up or held port one that carries KA_HELLO is
PEER_RESET (R243); another is checked as any flit is, and is of no valid type. (DEDUCED, log 39.) -/
def execTrainFlit (p : Fin 32) (f : Flit) (s : State) : Res :=
  let v := s.port p.val
  let sound := (v.badUnder f).isEmpty && f.crcOk
  if v.mode == .training && (v.step == 5 || v.step == 6) then
    .next (if !sound then (s.arrives p.val f).failAttempt p.val false
      else if f.typ != 3 then s.arrives p.val f
      else (s.arrives p.val f).takeTrain p.val f)
  else if sound && f.hello && v.hasSession && v.mode != .training then
    .next ((s.portInput (.trainFlit p f)).flushReset p.val causePeerReset true).settle
  else .next (s.checked p.val f fun u =>
    if v.ctrlOk f then ((u.portInput (.trainFlit p f)).protocolDown p.val).settle else u.countFlitError p.val 2)

/-! ## VC3 messages in a receive buffer -/

/-- Whether the port is in step 6, where key-agreement messages in TRAIN flits belong. -/
def Port.agreeing (v : Port) : Bool := v.mode == .training && v.step == 6

/-- The VC3 message at the front of a port's buffers, where it is of this type and its fields begin so. -/
def Port.frontVc3 (v : Port) (kind : Nat) (fields : List Byte) : Option RxMsg :=
  match v.rx.find? (·.vc == 3) with
  | none => none
  | some m => if m.kind = kind && fields.isPrefixOf m.fields then some m else none

/-- Take a message out of a port's buffers; its slots, but a training buffer's, become returnable. -/
def Port.dropRx (v : Port) (m : RxMsg) : Port :=
  let w := { v with rx := v.rx.erase m }
  if m.train then w else w.consume m.vc m.slots

/-- The VC3 message of a type, with these fields, that a port has received is taken in its turn: `train` says what one of TRAIN
flits does in step 6, `data` what one of DATA flits does. With no such message in front nothing happens. (DESIGN CHOICE,
log 132.) -/
def State.vc3Row (s : State) (p kind : Nat) (fields : List Byte) (train data : State → List Byte → State) : State :=
  match (s.port p).frontVc3 kind fields with
  | none => s
  | some m =>
    let s1 := s.updPort p (·.dropRx m)
    if m.train then (if (s1.port p).agreeing then train s1 m.fields else s1)
    else if (s1.port p).receives then data s1 m.fields else s1

/-- Whether fields spell a message whole: `n` bytes, and nothing but zeros after. -/
def spelt (fields : List Byte) (n : Nat) : Bool := decide (n ≤ fields.length) && allZero (fields.drop n)

/-- A DATA message that may not come (R255). -/
def State.violates (p : Nat) (s : State) (_ : List Byte) : State := (s.protocolDown p).settle

/-- A TRAIN message that may not come (R189). -/
def State.malformed (p : Nat) (s : State) (_ : List Byte) : State := s.refusePeer p 1

/-! ## Key agreement (R189 to R195) -/

/-- KA_HELLO (R190): kept for the transcript; equal nonces end the attempt. (DEDUCED, log 108.) -/
def State.takeHello (p : Nat) (s : State) (f : List Byte) : State :=
  match (s.port p).ka with
  | none => s
  | some k =>
    if byteAt f 0 != 1 || !spelt f 130 || k.peerHello.isSome then s.refusePeer p 1
    else if sub f 1 32 = k.nonce then s.refusePeer p 7
    else s.updPort p fun v => { v with ka := some { k with peerHello := some (vc3Bytes 0x01 (sub f 0 130)) } }

/-- KA_HELLO. -/
def execKaHello (p : Fin 32) (fields : List Byte) (s : State) : Res :=
  .next (s.vc3Row p.val 0x01 fields (State.takeHello p.val) (State.violates p.val))

/-- The peer's KA_CERT is accepted: the session's keys (R191), its identity, and the node's own KA_FINISH. -/
def State.acceptCert (s : State) (p : Nat) (k : Agreement) (hello cert link : List Byte) (chain : List (List Byte)) : State :=
  let k1 := { k with peerCert := some cert, finishSent := true }
  let t := (k1.transcript).getD []
  let keys := linkKeys (k.lower hello) (Config.ecdh k.eph link) (Config.ecdh Config.linkPublic (helloOf hello).2) t
  (s.updPort p fun v => { v with
      ka := some k1, keys := some keys, cert := some (leafHash chain), chain := chain }).sendTrain p
    (vc3Bytes 0x03 (hmac384 keys.confirm t))

/-- KA_CERT (R192, R193): the peer's chain, its signature, and the certificate that its group's ID may be bound to.
(DEDUCED, log 108.) -/
def State.takeCert (p : Nat) (s : State) (f : List Byte) : State :=
  match (s.port p).ka with
  | none => s
  | some k =>
    match k.peerHello, chainField f with
    | some h, some (chain, rest) =>
      if k.peerCert.isSome || !spelt rest 193 then s.refusePeer p 1
      else if (anchors (s.records (·.cas)) chain).isEmpty then s.refusePeer p 2
      else if !signedBy (chain.headD []) (sub rest 0 97) (sub rest 97 96) then s.refusePeer p 3
      else if s.identityClash p (leafHash chain) then s.refusePeer p 6
      else s.acceptCert p k h (vc3Bytes 0x02 (f.take (f.length - rest.length + 193))) (sub rest 0 97) chain
    | _, _ => s.refusePeer p 1

/-- KA_CERT. -/
def execKaCert (p : Fin 32) (fields : List Byte) (s : State) : Res :=
  .next (s.vc3Row p.val 0x02 fields (State.takeCert p.val) (State.violates p.val))

/-- KA_FINISH (R189): the confirmation HMAC, over the transcript hash with the confirmation key. (DEDUCED, log 108.) -/
def State.takeFinish (p : Nat) (s : State) (f : List Byte) : State :=
  match (s.port p).ka, (s.port p).keys with
  | some k, some keys =>
    if !spelt f 48 || k.finished then s.refusePeer p 1
    else if sub f 0 48 != sub (hmac384 keys.confirm ((k.transcript).getD [])) 0 48 then s.refusePeer p 4
    else s.updPort p fun v => { v with ka := some { k with finished := true } }
  | some _, none => s.refusePeer p 1
  | none, _ => s

/-- KA_FINISH. -/
def execKaFinish (p : Fin 32) (fields : List Byte) (s : State) : Res :=
  .next (s.vc3Row p.val 0x03 fields (State.takeFinish p.val) (State.violates p.val))

/-- A KA_BIND as its fields give it: endpoint ID, chain, signature. -/
def bindFields (f : List Byte) : Option (Nat × List (List Byte) × List Byte) :=
  match chainField (f.drop 2) with
  | none => none
  | some (chain, rest) => if field f 0 2 < 16384 && spelt rest 96 then some (field f 0 2, chain, sub rest 0 96) else none

/-- Whether a KA_BIND binds (R194, R195): a switch's group, a chain that ends at a listed CA, a signature over the transcript
hash and the endpoint ID, and no other certificate bound. (DEDUCED, log 108.) -/
def State.mayBind (s : State) (p ep : Nat) (chain : List (List Byte)) (sig : List Byte) : Bool :=
  optAny (s.groupOf p) (fun g => g.endpoint == 0x3FFF) && ep != 0x3FFF && !(anchors (s.records (·.cas)) chain).isEmpty &&
  (match (s.port p).ka.bind (·.transcript) with
    | none => false
    | some t => signedBy (chain.headD []) (t ++ leBytes 2 ep) sig) &&
  !optAny (s.boundCert ep) (· != leafHash chain)

/-- The fields of KA_BIND_ACK. -/
def bindAckFields (ep : Nat) (ok : Bool) : List Byte := leBytes 2 ep ++ leBytes 1 (if ok then Status.ok.code else Status.denied.code)

/-- Carry out a KA_BIND, the command `c`, with what it may. -/
def State.bindPeerEp (s : State) (c : Instr) (p ep : Nat) (chain : List (List Byte)) (ok : Bool) : State :=
  if ok then (s.portInput c).bindEp ep p (leafHash chain) chain else s

/-- KA_BIND of TRAIN flits, after the peer's KA_FINISH. -/
def State.takeBindTrain (c : Instr) (p : Nat) (s : State) (f : List Byte) : State :=
  match bindFields f with
  | none => s.refusePeer p 1
  | some (ep, chain, sig) =>
    if !optAny (s.port p).ka (·.finished) then s.refusePeer p 1
    else
      let ok := s.mayBind p ep chain sig
      ((s.bindPeerEp c p ep chain ok).sendTrain p (vc3Bytes 0x05 (bindAckFields ep ok))).assignAll

/-- KA_BIND of DATA flits. -/
def State.takeBindData (c : Instr) (p : Nat) (s : State) (f : List Byte) : State :=
  match bindFields f with
  | none => (s.protocolDown p).settle
  | some (ep, chain, sig) =>
    let ok := s.mayBind p ep chain sig
    ((s.bindPeerEp c p ep chain ok).sendVc3 p 0x05 (bindAckFields ep ok)).assignAll

/-- KA_BIND (R194, R195): binds an endpoint behind a switch to its certificate. -/
def execKaBind (p : Fin 32) (ep : BitVec 16) (rest : List Byte) (s : State) : Res :=
  let c : Instr := .kaBind p ep rest
  .next (s.vc3Row p.val 0x04 (leBytes 2 ep.toNat ++ rest) (State.takeBindTrain c p.val) (State.takeBindData c p.val))

/-- KA_BIND_ACK (R194): the node binds nothing at its peer. One of TRAIN flits answers nothing and is out of order (R189); one
of DATA flits is taken and leaves nothing behind. -/
def execKaBindAck (p : Fin 32) (ep : BitVec 16) (status : BitVec 8) (s : State) : Res :=
  .next (s.vc3Row p.val 0x05 (leBytes 2 ep.toNat ++ [status]) (State.malformed p.val) fun u _ => u.afterFlit p.val)

/-- The reason of a KA_FAIL: a reserved one, or one in an ill-formed message, counts as MALFORMED (R189). -/
def failReason (f : List Byte) : Nat := if spelt f 1 && decide (1 ≤ byteAt f 0) && decide (byteAt f 0 ≤ 7) then byteAt f 0 else 1

/-- The peer ends the attempt (R192). -/
def State.takeFail (p : Nat) (s : State) (f : List Byte) : State :=
  let r := failReason f
  let s1 := if authReason r then s.portEvent .linkAuthFail p (r + 256) 0 else s
  s1.failAttempt p (authReason r)

/-- KA_FAIL (R192): in a DATA flit it belongs only before the port is up (R255). -/
def execKaFail (p : Fin 32) (reason : BitVec 8) (s : State) : Res :=
  .next (s.vc3Row p.val 0x0F [reason] (State.takeFail p.val) fun u f => if (u.port p.val).isUp then (u.protocolDown p.val).settle else u.takeFail p.val f)

/-! ## Credits, quiet slots, doze, quiesce on VC3 (Table 7–9) -/

/-- CREDIT_INIT's fields are taken (R225): too small a buffer ends the attempt with KA_FAIL 0x05, a second CREDIT_INIT is a
framing violation. -/
def State.takeCreditInit (p : Nat) (s : State) (f : List Byte) : State :=
  let w := s.port p
  if w.creditInit then (s.protocolDown p).settle
  else if field f 0 2 < 272 ∨ field f 2 2 < 272 ∨ field f 4 2 < 16 then s.refusePeer p 5
  else s.setPort p { w with creditInit := true, credits := [field f 0 2, field f 2 2, field f 4 2, w.credits.getD 3 0] }

/-- CREDIT_INIT (R225): the peer's buffers. -/
def execCreditInit (p : Fin 32) (vc0 vc1 vc2 : BitVec 16) (s : State) : Res :=
  .next (s.vc3Row p.val 0x10 (leBytes 2 vc0.toNat ++ leBytes 2 vc1.toNat ++ leBytes 2 vc2.toNat) (State.malformed p.val) (State.takeCreditInit p.val))

/-- QUIET_REQ is granted with QUIET_ACK, for a length and a start of Table 7–9 (R199); `pos` is its position in the stream. -/
def State.takeQuietReq (p pos : Nat) (s : State) (f : List Byte) : State :=
  let len := field f 0 2
  let start := field f 2 2
  if 1 ≤ len ∧ len ≤ 8000 ∧ 1024 ≤ start then
    (s.updPort p fun w => { w with peerQuiet := some { len := len, start := start, at_ := some (pos + start), acked := true } }).sendVc3 p
      0x12 (sub f 0 4)
  else s.afterFlit p

/-- The fields of QUIET_REQ and QUIET_ACK: length and start. -/
def slotFields (len start : BitVec 16) : List Byte := leBytes 2 len.toNat ++ leBytes 2 start.toNat

/-- QUIET_REQ (R199): granted with QUIET_ACK; during the slot the port sends nothing. -/
def execQuietReq (p : Fin 32) (len start : BitVec 16) (s : State) : Res :=
  let fields := slotFields len start
  let pos := match (s.port p.val).frontVc3 0x11 fields with | none => 0 | some m => m.pos
  .next (s.vc3Row p.val 0x11 fields (State.malformed p.val) (State.takeQuietReq p.val pos))

/-- QUIET_ACK (R198): it acknowledges the QUIET_REQ with its length and start. -/
def execQuietAck (p : Fin 32) (len start : BitVec 16) (s : State) : Res :=
  .next (s.vc3Row p.val 0x12 (slotFields len start) (State.malformed p.val) fun u f =>
    (u.updPort p.val fun w => { w with
      quiet := w.quiet.map fun q => if q.len = field f 0 2 ∧ q.start = field f 2 2 then { q with acked := true } else q }).afterFlit p.val)

/-- Whether a doze may have this duration in ms (R207). -/
def dozeRange (d : Nat) : Bool := decide (10 ≤ d) && decide (d ≤ 86400000)

/-- The fields of DOZE_REQ and DOZE_ACK. -/
def dozeFields (dark : Bool) (d : Nat) : List Byte := leBytes 1 (b2n dark) ++ leBytes 1 0 ++ leBytes 4 d

/-- DOZE_REQ's fields are taken (R207): accepted with no unacked flits and no queued work; else DOZE_REFUSE with its reason. A
kind that Table 7–9 does not list is a framing violation. (DEDUCED, log 41.) -/
def State.takeDozeReq (p : Nat) (s : State) (f : List Byte) : State :=
  let w := s.port p
  let d := field f 2 4
  if 1 < byteAt f 0 then (s.protocolDown p).settle
  else if !w.replayBuf.isEmpty then s.sendVc3 p 0x15 (leBytes 1 0)
  else if !w.txq.isEmpty then s.sendVc3 p 0x15 (leBytes 1 1)
  else if !dozeRange d then s.sendVc3 p 0x15 (leBytes 1 2)
  else (s.setPort p { w with doze := some { dark := byteAt f 0 == 1, d := d, own := false } }).sendVc3 p 0x14
    (dozeFields (byteAt f 0 == 1) d)

/-- The fields of DOZE_REQ and DOZE_ACK as they come: kind, a reserved byte, D. -/
def dozeSpelt (kind : BitVec 8) (d : BitVec 32) : List Byte := [kind, 0] ++ leBytes 4 d.toNat

/-- DOZE_REQ (R207). -/
def execDozeReq (p : Fin 32) (kind : BitVec 8) (d : BitVec 32) (s : State) : Res :=
  .next (s.vc3Row p.val 0x13 (dozeSpelt kind d) (State.malformed p.val) (State.takeDozeReq p.val))

/-- Whether the node's own doze request has been granted, and a flit of the node has acked the DOZE_ACK. -/
def Port.dozeAcked (v : Port) : Bool := optAny v.doze fun d => d.own && optAny d.ackAt fun n => decide (n ≤ v.ackSent)

/-- The requester's doze starts once the DOZE_ACK is acked (R257). -/
def State.dozeStep (s : State) (p : Nat) : State := if (s.port p).dozeAcked then s.updPort p Port.startDoze else s

/-- DOZE_ACK's fields are taken: one that answers the node's own request is acked at once by an IDLE flit, and the doze starts. -/
def State.takeDozeAck (p : Nat) (s : State) (f : List Byte) : State :=
  let w := s.port p
  match w.doze with
  | none => s.afterFlit p
  | some d =>
    if d.own && !d.begun && d.dark == (byteAt f 0 == 1) && d.d == field f 2 4 then
      let s1 := s.setPort p { w with doze := some { d with ackAt := some w.expected } }
      (if w.mute then s1 else s1.sendIdle p).dozeStep p
    else s.afterFlit p

/-- DOZE_ACK (R257): the partner accepts the node's request; one that answers none is ignored. (DEDUCED, log 41.) -/
def execDozeAck (p : Fin 32) (kind : BitVec 8) (d : BitVec 32) (s : State) : Res :=
  .next (s.vc3Row p.val 0x14 (dozeSpelt kind d) (State.malformed p.val) (State.takeDozeAck p.val))

/-- DOZE_REFUSE (R207): the node's request is refused; the port goes on. -/
def execDozeRefuse (p : Fin 32) (reason : BitVec 8) (s : State) : Res :=
  .next (s.vc3Row p.val 0x15 [reason] (State.malformed p.val) fun u _ =>
    (u.updPort p.val fun w =>
      { w with doze := if optAny w.doze (fun d => d.own && !d.begun) then none else w.doze }).afterFlit p.val)

/-- QUIESCE_REQ (R252, R254): the port finishes its work and answers QUIESCE_DONE. -/
def execQuiesceReq (p : Fin 32) (s : State) : Res :=
  .next (s.vc3Row p.val 0x16 [] (State.malformed p.val) fun u _ =>
    (u.updPort p.val fun w => { w with
      mode := if w.mode == .up then .quiesce else w.mode, quiesce := some (w.quiesce.getD {}) }).afterFlit p.val)

/-- QUIESCE_DONE (R252): the peer is done; with both DONEs acked the node ends the session. -/
def execQuiesceDone (p : Fin 32) (s : State) : Res :=
  .next (s.vc3Row p.val 0x17 [] (State.malformed p.val) fun u _ =>
    ((u.updPort p.val fun w => { w with
      quiesce := w.quiesce.map fun z => { z with peerDone := some w.expected } }).afterFlit p.val).settle)

/-- LINK_DOWN_PLANNED (R253): what remains is flushed, and full training begins at once; in a drain or a full apply the port
stays dark. -/
def execLinkDownPlanned (p : Fin 32) (reason : BitVec 8) (s : State) : Res :=
  .next (s.vc3Row p.val 0x18 [reason] (State.malformed p.val) fun u _ =>
    ((u.portInput (.linkDownPlanned p reason)).plannedDown p.val (!u.isReady)).settle)

end Sys2Proof.Machine
end

