-- ==== Sys2Proof/Machine/Transport.lean ====
section
/-! DEFINITION. Fabric requests and the node's own (chapters 1, 8 and 11): discards, decoder checks, access checks,
reads, writes, atomics, counter operations and doorbells; responses and timeouts; notifications. -/

namespace Sys2Proof

/-- The virtual channel of an opcode (Table 8–2). -/
def channelOf (op : Nat) : Nat := if 0x10 ≤ op ∧ op ≤ 0x14 then 2 else 0

/-- Check 5's slot count (R261): `carries` says that LENGTH bytes of data follow. -/
def Req.slotsOk (r : Req) (carries : Bool) : Bool :=
  r.slots == slotsOf r.opslots.toNat (if carries then r.length.toNat else 0)

/-- The checks of Table 11–2 that all counter requests share: DRAWER, LENGTH and OFFSET[39:18] are 0. -/
def Req.counterFmt (r : Req) (ops : Nat) : Bool :=
  r.drawer == 0 && r.length == 0 && decide (r.offset.toNat < 262144) && r.opslots.toNat == ops && r.slotsOk false

/-- A notify target slot (Table 11–5); none for another kind or a non-zero reserved byte (R382). -/
def targetOf (b : List Byte) : Option Target :=
  if byteAt b 1 != 0 then none
  else if byteAt b 0 = 1 then
    if field b 2 2 < 16384 then
      some (.endpoint (field b 2 2) (BitVec.ofNat 32 (field b 4 4)) (BitVec.ofNat 64 (field b 8 8))) else none
  else if byteAt b 0 = 2 then
    if field b 8 8 = 0 then some (.doorbell (field b 2 2) (BitVec.ofNat 32 (field b 4 4))) else none
  else none

/-- The header of a lexicon request (R557): DRAWER 0, a stream in OFFSET[15:0], WORD within its mask. -/
def Req.lexHead (r : Req) (mask : W64) : Bool :=
  r.drawer == 0 && decide (r.offset.toNat < 65536) && (r.word &&& ~~~mask) == 0

/-- The operand slots of a grammar request (Table 15–9): reserved bits 0, a mask's destination 64-byte aligned (R544). -/
def Req.lexOps (r : Req) : Bool :=
  decide (field r.ops 0 4 < 2 ^ 24) && field r.ops 5 3 == 0 && decide (field r.ops 8 4 < 2 ^ 20) && field r.ops 12 4 == 0 &&
  (r.opslots.toNat < 2 || (allZero (sub r.ops 23 9) && field r.ops 18 5 % 64 == 0))

/-- Checks 3 to 6 of Table 8–3 that are the opcode's own: its lengths, operand slots and reserved fields (R267, R715,
Tables 11–2 and 15–9). -/
def reqFmt (op : Nat) (r : Req) : Bool :=
  let short := decide (r.length.toNat ≤ 4096)
  match op with
  | 0x01 => short && r.opslots == 0 && r.word == 0 && r.slotsOk false
  | 0x02 => short && r.opslots == 0 && r.word == 0 && r.slotsOk true
  | 0x03 => r.length == 8 && r.opslots == 0 && r.slotsOk false && r.offset.toNat % 8 == 0
  | 0x04 => r.length == 8 && r.opslots == 1 && r.slotsOk false && r.offset.toNat % 8 == 0 && allZero (sub r.ops 8 8)
  | 0x05 => r.length == 16 && r.opslots == 2 && r.word == 0 && r.slotsOk false && r.offset.toNat % 16 == 0
  | 0x10 => r.counterFmt 0
  | 0x11 => r.counterFmt 0
  | 0x12 => r.counterFmt 0 && r.word == 0
  | 0x13 => r.counterFmt 1 && (targetOf (sub r.ops 0 16)).isSome
  | 0x18 => r.length == 0 && r.opslots == 0 && decide (r.offset.toNat < 65536) && decide (r.word.toNat < 2 ^ 32) &&
      r.slotsOk false
  | 0x20 => short && r.opslots == 0 && r.lexHead 0xFFFF0003 && r.slotsOk true
  | 0x21 => short && r.opslots == 0 && r.lexHead 0xFFFF0001 && r.length.toNat % 4 == 0 && r.slotsOk true
  | 0x22 => r.length == 0 && r.opslots == 2 && r.lexHead 0x4 && r.lexOps && r.slotsOk false
  | 0x23 => r.length == 0 && r.opslots == 1 && r.lexHead 0xFFFF0004 && r.lexOps && r.slotsOk false
  | 0x24 => r.length == 0 && r.opslots == 2 && r.lexHead 0xFFFF0004 && r.lexOps && r.slotsOk false
  | 0x28 => short && r.opslots == 0 && decide (r.word.toNat < 2 ^ 18) && r.slotsOk false
  | _ => false

end Sys2Proof

namespace Sys2Proof.Machine

/-! ## Arrival (R20, R263, R264, R270) -/

/-- Whether a request of the same source with the same tag is outstanding on the port (Table 8–3 check 1): its
response not yet sent, or the request itself not yet complete. -/
def State.tagBusy (s : State) (r : Req) : Bool :=
  let same := fun (x : Req) => x.port == r.port && x.src == r.src && x.tag == r.tag
  ((s.port r.port.val).txq.any fun m => match m.body with
    | .response _ d _ t _ _ _ _ _ _ => d == r.src.toNat && t == r.tag.toNat
    | _ => false) ||
  s.fabric.parked.any fun x => match x with
    | .req _ y _ live => live && same y
    | .mask _ y _ _ _ _ live => live && same y
    | .attest y live => live && same y
    | .hostWrite _ _ => false

/-- Whether an ORDERED request is ordered after an earlier one of its source on its port, by their opcodes and drawers (R276,
R277). -/
def orderedAfter (op drawer op' drawer' : Nat) : Bool := namesNoDrawer op || (!namesNoDrawer op' && drawer' == drawer)

/-- The port of a waiting request, and whether its response is still to be sent. -/
def Parked.origin : Parked → Option (Nat × Bool)
  | .req _ y _ live => some (y.port.val, live)
  | .mask _ y _ _ _ _ live => some (y.port.val, live)
  | .attest y live => some (y.port.val, live)
  | .hostWrite _ _ => none

/-- Whether a request must wait for an earlier one of its port that waits (R276, R277, R282): an ORDERED one for those of its
source that it is ordered after, and any for those of the session before. -/
def State.behindParked (s : State) (op : Nat) (r : Req) (live : Bool) : Bool :=
  s.fabric.parked.any fun x =>
    let after := fun (op' : Nat) (y : Req) (l : Bool) =>
      y.port == r.port && ((live && !l) ||
        (l == live && r.ordered && y.src == r.src && orderedAfter op r.drawer.toNat op' y.drawer.toNat))
    match x with
    | .req op' y _ l => after op' y l
    | .mask op' y _ _ _ _ l => after op' y l
    | .attest y l => after 0x40 y l
    | .hostWrite _ _ => false

/-- Whether an ORDERED request must wait for an earlier response that is not yet sent: one that names a drawer (R276), or
that fails (R279). -/
def State.behindResponse (s : State) (op : Nat) (r : Req) (fails : Bool) : Bool :=
  r.ordered && (!namesNoDrawer op || fails) && (s.port r.port.val).txq.any fun m => match m.body with
    | .response _ d opcode _ drawer _ _ _ _ _ => d == r.src.toNat && orderedAfter op r.drawer.toNat (opcode - 128) drawer
    | _ => false

/-- Whether a request must wait for earlier ones. A transfer message touches no drawer's stored bytes and is served at once.
(DEDUCED, log 42.) -/
def State.mustQueue (s : State) (op : Nat) (r : Req) (fails live : Bool) : Bool :=
  decide (op < 0x40) && (s.behindParked op r live || (live && s.behindResponse op r fails))

/-- Learn the node's endpoint ID on the group of the port (R263). -/
def State.learnId (s : State) (r : Req) : State :=
  match s.groupOf r.port.val with
  | none => s
  | some g =>
    let k : NodeId := { id := r.dst.toNat, due := g.members.filter fun x => (s.port x).hasSession }
    if (s.fabric.nodeIds.get g.group none).isNone then
      { s with fabric.nodeIds := s.fabric.nodeIds.set g.group (some k) none }.assignAll
    else s

/-- What serving a request comes to: a completion, or a wait (R575). -/
abbrev Served := State × Option Reply

/-- Park a request, with what its lines were found to hold already brought in. -/
def State.park (s : State) (op : Nat) (r : Req) (failed : Option Status) (live : Bool) : State :=
  { s with fabric.parked := s.fabric.parked ++ [.req op { r with found := [] } failed live] }

/-- Give a served request its completion, or park it. -/
def settleServed (op : Nat) (r : Req) (x : Served) : State :=
  match x.2 with
  | some y => (x.1.respond op r y).afterFlit r.port.val
  | none => x.1.park op r none true

/-- Whether the node takes fabric requests: in READY, and in APPLYING from READY up to the apply point (Table 5–9). -/
def State.takesRequests (s : State) : Bool :=
  s.isReady || (s.isIn .applying && s.jny.inForce.isSome && match s.jny.phase with | .accepted _ _ _ _ _ => true | _ => false)

/-- Whether a port delivers messages to the benches: a session past training, and the node takes requests. -/
def State.delivers (s : State) (p : Nat) : Bool :=
  s.takesRequests && (s.port p).hasSession && (s.port p).mode != .training

/-- The completion of a request that fails at stage 3 or 4: counter requests carry an operand slot of zeros (R381). -/
def failReply (op : Nat) (st : Status) : Reply :=
  { status := st, slot := if 0x10 ≤ op ∧ op ≤ 0x13 then leBytes 16 0 else [] }

/-- The message at the front of a port's received requests, where it is the request `r` of opcode `op` (R260). What the lines of
`r` hold is no part of the message. -/
def State.frontReq (s : State) (op : Nat) (r : Req) : Option RxMsg :=
  match (s.port r.port.val).rx.find? fun m => m.isRequest && !m.train with
  | none => none
  | some m => if m.opcode = op ∧ m.request r.port = { r with found := [] } then some m else none

/-- Take a request's message out of its buffer; its credit is withheld where its drawer's tenant is at its quota (R155). -/
def State.takeReq (s : State) (op : Nat) (r : Req) (m : RxMsg) : State :=
  let p := r.port.val
  let s1 := s.updPort p fun v => { v with rx := v.rx.erase m }
  match if namesNoDrawer op || m.vc != 0 then none else (s.drawer r.drawer.toNat).map (·.tenant) with
  | some t => s1.updPort p fun v => if s1.withholdsFor t then v.consumeFor 0 m.slots t else v.consume m.vc m.slots
  | none => s1.updPort p fun v => v.consume m.vc m.slots

/-- Whether a request is discarded without a completion: from no bound endpoint (R20), to another ID (R264), or under a tag that
is outstanding (Table 8–3 check 1). -/
def State.discards (s : State) (r : Req) : Bool :=
  r.src == 0x3FFF || !s.boundOn r.src.toNat r.port.val || optAny (s.nodeId r.port.val) (· != r.dst.toNat) || s.tagBusy r

/-- A request from stage 3 on: checks 2 to 6 of Table 8–3, of which `fmt` are the opcode's own, and `check`, which is its stage 4;
one that must wait keeps what they gave (R279), and the rest goes to `serve`. (DEDUCED, log 42 and 112.) -/
def State.judge (s : State) (op : Nat) (r : Req) (fmt : Bool) (check : State → Req → Option Status)
    (serve : State → Req → Served) : State :=
  let sound := r.vc.val == channelOf op && !r.resv && fmt
  let s1 := if sound then (s.learnId r).withFound r.found else s
  let verdict := if sound then check s1 r else some .format
  if s1.mustQueue op r verdict.isSome true then s1.park op r verdict true
  else match verdict with
    | some st => (s1.respond op r (failReply op st)).afterFlit r.port.val
    | none => settleServed op r (serve s1 r)

/-- A request at the front of its port's buffers (Table 1–2). -/
def State.admitReq (s : State) (op : Nat) (r : Req) (fmt : Bool) (check : State → Req → Option Status)
    (serve : State → Req → Served) : State :=
  match s.frontReq op r with
  | none => s
  | some m =>
    let s1 := s.takeReq op r m
    if s1.discards r then s1.transportError r.port.val else (s1.judge op r fmt check serve).settle

/-- A request from an endpoint, as the command `c` brings it: the message at the front of its port's buffers, taken as an input
of the benches. Where another message or none is in front nothing happens. (DESIGN CHOICE, log 132; DEDUCED, log 43 and 112.) -/
def State.request (s : State) (c : Instr) (op : Nat) (r : Req) (fmt : Bool) (check : State → Req → Option Status)
    (serve : State → Req → Served) : State :=
  if !s.delivers r.port.val || (!s.inputsWait && (s.frontReq op r).isNone) then s
  else s.deliver c fun u => u.admitReq op r fmt check serve

/-- The access checks of Table 1–3 in order. (DEDUCED, log 44.) -/
def State.access (s : State) (r : Req) (write : Bool) (len : Nat) : Option Status :=
  match s.drawer r.drawer.toNat with
  | none => some .denied
  | some d =>
    match (s.boundCert r.src.toNat).bind d.entry with
    | none => some .denied
    | some w =>
      if write && !w then some .denied
      else if d.bytes < r.offset.toNat + len then some .range
      else if s.drawerFrozen d.id || s.sweeping d.id then some .held
      else none

/-! ## Reads, writes and atomics (R272 to R275, R338, R341, R342) -/

/-- The result of a READ or STREAM_READ range: POISONED carries the true bytes with zeros for poisoned lines, and
the first poisoned line's offset (R338). -/
def RangeRead.reply (x : RangeRead) : Reply :=
  match x.bad with
  | none => { status := .ok, data := x.data }
  | some o => { status := .poisoned, word := BitVec.ofNat 64 o, data := x.data }

/-- READ's stage 4. -/
def State.checkRead (s : State) (r : Req) : Option Status := s.access r false r.length.toNat

/-- READ past stage 4. (DEDUCED, log 44.) -/
def State.serveRead (s : State) (r : Req) : Served :=
  let x := s.readRange r.drawer.toNat r.offset.toNat r.length.toNat
  (x.1, some x.2.reply)

/-- READ (R268, R272, R338). -/
def execRead (r : Req) (s : State) : Res :=
  .next (s.request (.read r) 0x01 r (reqFmt 0x01 r) State.checkRead State.serveRead)

/-- WRITE's stage 4. -/
def State.checkWrite (s : State) (r : Req) : Option Status := s.access r true r.length.toNat

/-- WRITE past stage 4; it waits where no reserve block can be had (R575). (DEDUCED, log 44.) -/
def State.serveWrite (s : State) (r : Req) : Served :=
  match s.claimRange r.drawer.toNat r.offset.toNat r.length.toNat with
  | none => (s, none)
  | some u =>
    let x := u.writeRange r.drawer.toNat r.offset.toNat (sub r.data 0 r.length.toNat)
    (x.1, some { status := if x.2.isSome then .poisoned else .ok })

/-- WRITE (R340 to R342). -/
def execWrite (r : Req) (s : State) : Res :=
  .next (s.request (.write r) 0x02 r (reqFmt 0x02 r) State.checkWrite State.serveWrite)

/-- An atomic on `n` bytes past stage 4: the old bytes, and what `f` makes of them where it writes (R273 to
R275). Its stage 4 is that of a write of its LENGTH (R270). (DEDUCED, log 44.) -/
def State.serveAtomic (n : Nat) (f : List Byte → Option (List Byte)) (answer : List Byte → Reply) (s : State) (r : Req) :
    Served :=
  let d := r.drawer.toNat
  let o := r.offset.toNat
  match s.claimRange d o n with
  | none => (s, none)
  | some u =>
    let x := u.readRange d o n
    if x.2.bad.isSome then (x.1, some { status := .poisoned })
    else match f x.2.data with
      | none => (x.1, some (answer x.2.data))
      | some new => ((x.1.writeRange d o new).1, some (answer x.2.data))

/-- A 64-bit atomic's answer: the old value in WORD. -/
def answerWord (old : List Byte) : Reply := { status := .ok, word := BitVec.ofNat 64 (leNat old) }

/-- FADD64 from stage 4 on: addition modulo 2^64. -/
def State.serveFadd (s : State) (r : Req) : Served :=
  s.serveAtomic 8 (fun old => some (leBytes 8 (leNat old + r.word.toNat))) answerWord r

/-- CAS64 from stage 4 on. -/
def State.serveCas64 (s : State) (r : Req) : Served :=
  s.serveAtomic 8 (fun old => if leNat old = r.word.toNat then some (sub r.ops 0 8) else none) answerWord r

/-- CAS128 from stage 4 on. -/
def State.serveCas128 (s : State) (r : Req) : Served :=
  s.serveAtomic 16 (fun old => if old = sub r.ops 0 16 then some (sub r.ops 16 16) else none)
    (fun old => { status := .ok, data := old }) r

/-- FADD64 (R274). -/
def execFadd64 (r : Req) (s : State) : Res :=
  .next (s.request (.fadd64 r) 0x03 r (reqFmt 0x03 r) State.checkWrite State.serveFadd)

/-- CAS64 (R274). -/
def execCas64 (r : Req) (s : State) : Res :=
  .next (s.request (.cas64 r) 0x04 r (reqFmt 0x04 r) State.checkWrite State.serveCas64)

/-- CAS128 (R274). -/
def execCas128 (r : Req) (s : State) : Res :=
  .next (s.request (.cas128 r) 0x05 r (reqFmt 0x05 r) State.checkWrite State.serveCas128)

/-! ## Counters and doorbells (R269, R378 to R382) -/

/-- Stage 4 of a counter operation of a fabric endpoint: what its bound certificate may do (Table 11–1). -/
def State.checkSync (op : CounterOp) (write : Bool) (s : State) (r : Req) : Option Status :=
  s.counterRefusal r.offset.toNat (fun t => optAny (s.boundCert r.src.toNat) fun c => s.admitted c t write) op

/-- A counter operation past stage 4, with the response of R381. -/
def State.serveSync (op : CounterOp) (s : State) (r : Req) : Served :=
  let x := s.counterDo r.offset.toNat ((s.counterTenant r.offset.toNat).getD 0) op
  (x.1, some { status := x.2.status, word := x.2.after, slot := if x.2.status = .ok ∨ x.2.status = .saturated then x.2.slot else leBytes 16 0 })

/-- SYNC_ADD's stage 4. -/
def State.checkSyncAdd (s : State) (r : Req) : Option Status := State.checkSync (.add r.word) true s r
/-- SYNC_ADD past stage 4. -/
def State.serveSyncAdd (s : State) (r : Req) : Served := State.serveSync (.add r.word) s r
/-- SYNC_SET's stage 4. -/
def State.checkSyncSet (s : State) (r : Req) : Option Status := State.checkSync (.set r.word) true s r
/-- SYNC_SET past stage 4. -/
def State.serveSyncSet (s : State) (r : Req) : Served := State.serveSync (.set r.word) s r
/-- SYNC_READ's stage 4. -/
def State.checkSyncRead (s : State) (r : Req) : Option Status := State.checkSync .read false s r
/-- SYNC_READ past stage 4. -/
def State.serveSyncRead (s : State) (r : Req) : Served := State.serveSync .read s r
/-- The operation of a SYNC_WAIT. -/
def waitOp (r : Req) : CounterOp := .wait r.word (targetOf (sub r.ops 0 16)) (.port r.port.val)
/-- SYNC_WAIT's stage 4. -/
def State.checkSyncWait (s : State) (r : Req) : Option Status := State.checkSync (waitOp r) false s r
/-- SYNC_WAIT past stage 4. -/
def State.serveSyncWait (s : State) (r : Req) : Served := State.serveSync (waitOp r) s r

/-- SYNC_ADD (R380). -/
def execSyncAdd (r : Req) (s : State) : Res :=
  .next (s.request (.syncAdd r) 0x10 r (reqFmt 0x10 r) State.checkSyncAdd State.serveSyncAdd)

/-- SYNC_SET (R380). -/
def execSyncSet (r : Req) (s : State) : Res :=
  .next (s.request (.syncSet r) 0x11 r (reqFmt 0x11 r) State.checkSyncSet State.serveSyncSet)

/-- SYNC_READ (R380). -/
def execSyncRead (r : Req) (s : State) : Res :=
  .next (s.request (.syncRead r) 0x12 r (reqFmt 0x12 r) State.checkSyncRead State.serveSyncRead)

/-- SYNC_WAIT (R380, R382, R386): the arrival port owns the wait. -/
def execSyncWait (r : Req) (s : State) : Res :=
  .next (s.request (.syncWait r) 0x13 r (reqFmt 0x13 r) State.checkSyncWait State.serveSyncWait)

/-- DOORBELL's stage 4 (R269, R406): the queue lies in the drawer named, and the source may write it. Doorbells to a frozen
queue are HELD (R569). -/
def State.checkDoorbell (s : State) (r : Req) : Option Status :=
  match s.range r.offset.toNat with
  | none => some .denied
  | some x =>
    let right := optAny (s.drawer x.ring) fun d => optAny ((s.boundCert r.src.toNat).bind d.entry) id
    if x.ring != r.drawer.toNat || !right then some .denied
    else if s.queueFrozen r.offset.toNat then some .held
    else none

/-- DOORBELL past stage 4. One that a full apply records and later discards is counted (Table 5–9). (DEDUCED, log 94.) -/
def State.serveDoorbell (s : State) (r : Req) : Served :=
  let q := r.offset.toNat
  let y := (s.queue q).bell (match s.range q with | none => 0 | some x => x.depth) (r.word.truncate 32)
  let s1 := s.setQueue q y.1
  (if s.isIn .applying && y.1.tail != (s.queue q).tail then { s1 with jny.dropped := s1.jny.dropped + 1 } else s1,
    some { status := y.2 })

/-- DOORBELL (R269, R715). -/
def execDoorbell (r : Req) (s : State) : Res :=
  .next (s.request (.doorbell r) 0x18 r (reqFmt 0x18 r) State.checkDoorbell State.serveDoorbell)

/-- The response at the front of a port's received responses. -/
def Port.frontResp (v : Port) : Option RxMsg := v.rx.find? fun m => m.isResponse && !m.train

/-- UNASSIGNED_OPCODE (R267): FORMAT, at check 2 of Table 8–3; a message whose opcode has bit 7 set is a response
that answers nothing (R271). -/
def execUnassignedOpcode (r : Req) (code : BitVec 8) (s : State) : Res :=
  let p := r.port.val
  if code.getLsbD 7 then
    match (s.port p).frontResp with
    | none => .next s
    | some m =>
      if s.delivers p && m.opcode == code.toNat && m.request r.port == { r with found := [] } then
        .next (s.deliver (.unassignedOpcode r code) fun u => (u.updPort p (·.dropRx m)).transportError p)
      else .next s
  else .next (s.request (.unassignedOpcode r code) code.toNat r false (fun _ _ => none) fun u _ => (u, some { status := .format }))

/-! ## Timeouts of the node's own requests (R239, R289 to R291) -/

/-- Whether an outbound request waits for the node ID of a switch's group (R265): it has no port, and no group that would serve
it has an ID. -/
def State.awaitsId (s : State) (o : OutReq) : Bool :=
  o.port.isNone && !(s.routes o.dst).isEmpty && (s.routes o.dst).all fun p => !s.mayAddress p

/-- A request of the node's own ends with TIMEOUT; the tag it held is quarantined (R290, R291). -/
def State.timeOut (s : State) (o : OutReq) : State :=
  let s1 := s.outDone o .timeout
  let s2 := match o.port with
    | none => s1
    | some p => { s1 with fabric.quarantine := s1.fabric.quarantine ++ [(p, o.tag, s.ts)] }
  s2.assignAll

/-- OUTBOUND_TIMEOUT (R290, R291): suspended in REPLAY and HOLD (R239), and not yet running before the lead slot is sent, but
for a request that waits for a node ID (R265, R289). `n` is the request's tag on its port, or, with no port, its number. -/
def execOutboundTimeout (port : Option (Fin 32)) (n : Nat) (s : State) : Res :=
  let found := match port with
    | some p => s.fabric.outbound.find? fun x => x.port == some p.val && x.tag == n && x.sent &&
        (s.port p.val).mode != .replay && (s.port p.val).mode != .hold
    | none => s.fabric.outbound.find? fun x => x.id == n && s.awaitsId x
  match found with
  | none => .next s
  | some x => .next (s.deliver (.outboundTimeout port n) fun u => u.timeOut x)

/-- TAG_QUARANTINE_EXPIRY (R291): the tag may be used again. -/
def execTagQuarantineExpiry (p : Fin 32) (tag : BitVec 12) (s : State) : Res :=
  .next ({ s with fabric.quarantine := s.fabric.quarantine.filter fun x => !(x.1 == p.val && x.2.1 == tag.toNat) }.assignAll)

/-! ## Notifications (R391 to R394) -/

/-- The operand slot of a NOTIFY (Table 11–6). -/
def notifySlot (address : W64) (cookie : W32) (st : Status) (sat : Bool) : List Byte :=
  leBytes 8 address.toNat ++ leBytes 4 cookie.toNat ++ leBytes 1 st.code ++ leBytes 1 (b2n sat) ++ leBytes 2 0

/-- NOTIFY_DELIVERY (R391, R392): a pending notification passes the transmitter gate of an up member port with VC2
credit, carrying the counter's value now; one for a dozing port wakes it (R209). It waits for the node's ID as any request of
the node's does (R265). -/
def execNotifyDelivery (p : Fin 32) (wait : Nat) (s : State) : Res :=
  match s.sync.waits.find? (·.id == wait) with
  | none => .next s
  | some w =>
    match w.target, w.phase with
    | some (.endpoint ep cookie address), .pending st =>
      let v := s.port p.val
      let c := w.fixed.getD (s.counter w.counter)
      let m : Msg := { vc := 2, slots := 3, body := .notify wait ((s.nodeId p.val).getD 0x3FFF) ep w.counter c.value
                         (notifySlot address cookie st c.sat) }
      if !(s.boundOn ep p.val && s.mayAddress p.val && v.hasSession) then .next s
      else if v.dozes then .next (s.setPort p.val v.wakeForWork)
      else if !(v.maySend && v.room m) then .next s
      else .next (s.deliver (.notifyDelivery p wait) fun u =>
        ((u.launchNow p.val m).setPhase wait (.passed st p.val v.nextSeq)).afterFlit p.val)
    | _, _ => .next s

/-- DOORBELL_NOTIFY_DELIVERY (R393): the new tail is written as a doorbell would write it, and the record is freed;
discarded and counted where the queue is gone. A frozen queue's tail does not move (R569). -/
def execDoorbellNotifyDelivery (wait : Nat) (s : State) : Res :=
  match s.sync.waits.find? (·.id == wait) with
  | none => .next s
  | some w =>
    match w.target, w.phase with
    | some (.doorbell q tail), .pending _ =>
      .next (s.deliver (.doorbellNotifyDelivery wait) fun u =>
        let u1 := u.freeWait wait
        match u.range q with
        | none => u1.discard w.tenant 1
        | some x => if u.queueFrozen q then u1 else u1.setQueue q ((u.queue q).bell x.depth tail).1)
    | _, _ => .next s

end Sys2Proof.Machine
end

