-- ==== Sys2Proof/Machine/Bench.lean ====
section
/-! DEFINITION. Benches, output gates, disputes, claims, the kerf and the spare (chapter 9). -/

namespace Sys2Proof.Machine

/-- The largest claim (R317). -/
def lastClaim : W32 := 0xFFFFFFFF

/-- Causes of BENCH_RETIRED (Table 19–5). -/
def retiredLasting : Nat := 1
/-- SILENT. -/
def retiredSilent : Nat := 2
/-- SPARE_STALL. -/
def retiredStall : Nat := 3
/-- SPARE_MISMATCH. -/
def retiredMismatch : Nat := 4
/-- TRANSIENT_RATE. -/
def retiredRate : Nat := 5
/-- DETACHED. -/
def retiredDetached : Nat := 6

/-- The spare, if there is one. -/
def Benches.spare (b : Benches) : Option BenchId := (b.inRole .spare).head?

/-- The other bench of the active pair. -/
def Benches.partner (b : Benches) (i : BenchId) : Option BenchId := (b.inRole .active).find? (· != i)

/-- Old and new claim in detail B of BENCH_RETIRED. -/
def claims (old new : W32) : Nat := old.toNat + 2 ^ 32 * new.toNat

/-! ## Re-admission's end (R327, R328) -/

/-- The re-admission ends in failure: BENCH_READMIT_FAIL with its reason, the bench RETIRED, the reply ABORTED. -/
def State.failReadmit (s : State) (reason : Nat) : State :=
  match s.bench.readmit with
  | none => s
  | some r =>
    let s1 := { s with bench := { (s.bench.setRole r.bench .retired) with readmit := none } }
    (s1.raise .benchReadmitFail .bench r.bench.num reason s.bench.claim.toNat 0).answer r.session r.reqId kindReadmit
      .aborted [(1, cborText Role.retired.name)]

/-! ## Claims and promotions (R313, R317, R319) -/

/-- Issue the next claim; reaching the last one raises CLAIM_LAST once (R313, R317). -/
def State.issueClaim (s : State) : State :=
  let c := s.bench.claim + 1
  let s1 := { s with bench := { s.bench with claim := c } }
  if c = lastClaim ∧ ¬ s.bench.lastRaised then
    { s1 with bench := { s1.bench with lastRaised := true } }.raise .claimLast .node 0 0 c.toNat 0
  else s1

/-- Whether a planned promotion is possible: a spare, and a claim left (R319). -/
def State.canPromote (s : State) : Bool := s.bench.spare.isSome && s.bench.claim != lastClaim

/-- Inputs are no longer throttled: the host port's delayed completions go (R300). -/
def State.unthrottle (s : State) : State :=
  s.delayed.foldl (fun u o => u.emit o) { s with bench := { s.bench with throttled := false }, delayed := [] }

/-- Retire bench `i` and let the spare take its place, under the next claim; the new pair has consumed the inputs before
number `n` + 1. -/
def State.promote (s : State) (i : BenchId) (n : Nat) : State :=
  match s.bench.spare with
  | none => s
  | some sp =>
    let b := ((s.bench.setRole i .retired).setRole sp .active).activesAt n
    { s with bench := b }.unthrottle.issueClaim

/-- A planned promotion (R319): BENCH_RETIRED with its cause, or BENCH_DETACHED. -/
def State.plannedPromotion (s : State) (i : BenchId) (cause : Nat) : State :=
  let old := s.bench.claim
  let s1 := s.promote i s.bench.inputs
  (s1.raise (if cause = retiredDetached then .benchDetached else .benchRetired) .bench i.num cause
    (claims old s1.bench.claim) 0xFF).settle

/-- Retire the spare without a promotion (R301, R311). -/
def State.retireSpare (s : State) (cause gate : Nat) : State :=
  match s.bench.spare with
  | none => s
  | some sp =>
    let s1 := { s with bench := s.bench.setRole sp .retired }.unthrottle
    (s1.raise .benchRetired .bench sp.num cause (claims s.bench.claim s.bench.claim) gate).settle

/-! ## Charges (R310) -/

/-- 1 s in ns. -/
def secondNs : Nat := 1000000000

/-- Charge a bench with a transient retry; the sixteenth charge within 1 s retires it by a planned promotion. The flag
says that the limit was reached with none possible: the charges restart. -/
def State.charge (s : State) (i : BenchId) : State × Bool :=
  let mine := (s.bench.charges.filter fun c => c.1 == i && decide (s.ts < c.2 + secondNs)) ++ [(i, s.ts)]
  let others := s.bench.charges.filter (·.1 != i)
  if 16 ≤ mine.length then
    let s1 := { s with bench := { s.bench with charges := others } }
    if s.canPromote then (s1.plannedPromotion i retiredRate, false) else (s1, true)
  else ({ s with bench := { s.bench with charges := others ++ mine } }, false)

/-- Raise BENCH_TRANSIENT (R308): detail A is 5 where a bench reached the limit and stays (R310). -/
def State.noteTransient (s : State) (limit : Bool) (input : Nat) : State :=
  s.raise .benchTransient .node 0 (if limit then retiredRate else 0) s.bench.claim.toNat input

/-! ## Gates (R304, R305, R315) -/

/-- The accepted claim of a gate. -/
def Benches.acceptedAt (b : Benches) (g : Nat) : W32 := b.accepted.get g 0

/-- Whether a gate has emitted this input's output (R304). -/
def Benches.wasEmitted (b : Benches) (g input index : Nat) : Bool :=
  b.emitted.any fun e => e.gate == g && e.input == input && e.index == index

/-- A gate sees a claim above its accepted one: it raises it, and drops what it holds of lower claims (R315). -/
def Benches.seeClaim (b : Benches) (g : Nat) (c : W32) : Benches :=
  if (b.acceptedAt g).toNat < c.toNat then
    let low := fun (x : Nat × BenchOut) => x.1 == g && decide (x.2.claim.toNat < c.toNat)
    { b with
      accepted := b.accepted.set g c 0
      fenced := satAdd 0xFFFFFFFF b.fenced (b.waiting.filter low).length
      waiting := b.waiting.filter (!low ·) }
  else b

/-- A gate emits an output (R304): the history keeps it for the spare's shadow. -/
def State.emitOut (s : State) (g : Nat) (o : BenchOut) (charge : Option (BenchId × Nat × BenchId × Nat)) : State :=
  if s.bench.wasEmitted g o.input o.index then s else
  let b := { s.bench with
      emitted := s.bench.emitted ++ [{ gate := g, at_ := s.time, input := o.input, index := o.index, content := o.content, strikes := 0, charge := charge }]
      waiting := s.bench.waiting.filter fun x => !(x.1 == g && x.2.input == o.input && x.2.index == o.index) }
  { s with bench := b }.emit (.emitted g o.input o.index o.content o.claim)

/-- A dispute is found (R305, R306): every gate holds, and both ACTIVE benches return to before the disputed input, to consume
it and every later one again (R302, R304a); a re-admission ends with it (R328). -/
def State.beginDispute (s : State) (d : Dispute) : State :=
  let s1 := s.failReadmit 3
  { s1 with bench := { (s1.bench.activesAt (d.input - 1)) with dispute := some d } }

/-- Whether a bench can have made an output: of an input that it has consumed (R304). -/
def Benches.made (b : Benches) (o : BenchOut) : Bool := o.input != 0 && decide (o.input ≤ b.taken o.bench)

/-- GATE_OUTPUT (R305, R315): an output of an ACTIVE bench meets its partner's. Outputs under an old claim are
dropped and counted; outputs of no active bench are dropped; during a dispute they are held (R306). (DESIGN CHOICE, log 105.) -/
def execGateOutput (g : Fin 179) (o : BenchOut) (s : State) : Res :=
  if s.isIn .failed || s.isIn .off then .next s
  else if !s.bench.made o then .next s
  else if o.claim.toNat < (s.bench.acceptedAt g.val).toNat then
    .next { s with bench.fenced := satAdd 0xFFFFFFFF s.bench.fenced 1 }
  else if s.bench.role o.bench != .active then .next s
  else
    let b := s.bench.seeClaim g.val o.claim
    let s1 := { s with bench := b }
    if b.wasEmitted g.val o.input o.index then .next s1
    else
      let mate := b.waiting.find? fun x =>
        x.1 == g.val && x.2.input == o.input && x.2.index == o.index && x.2.claim == o.claim && x.2.bench != o.bench &&
        b.role x.2.bench == .active
      match mate with
      | none => .next { s1 with bench.waiting := b.waiting ++ [(g.val, o)] }
      | some m =>
        if b.dispute.isSome then .next { s1 with bench.waiting := b.waiting ++ [(g.val, o)] }
        else if m.2.content = o.content then .next (s1.emitOut g.val o none)
        else
          let s2 := { s1 with bench.waiting := b.waiting ++ [(g.val, o)] }
          .next (s2.beginDispute { gate := g.val, input := o.input, index := o.index, outA := some m.2, outB := some o
                                   phase := .retry, late := none })

/-- SKEW_LIMIT_EXPIRY (R305): one bench's output has not come 64 hc after its partner's. -/
def execSkewLimitExpiry (g : Fin 179) (s : State) : Res :=
  if s.bench.dispute.isSome then .next s else
  match s.bench.waiting.find? fun x => x.1 == g.val && s.bench.role x.2.bench == .active with
  | none => .next s
  | some x =>
    .next (s.beginDispute { gate := g.val, input := x.2.input, index := x.2.index, outA := some x.2, outB := none
                            phase := .retry, late := s.bench.partner x.2.bench })

/-! ## Retry (R304a, R308 to R310) -/

/-- Whether the outputs of the two retries match, one by one. -/
def retryMatches (first second : List BenchOut) : Bool :=
  (first.map fun o => (o.input, o.index, o.content)) == (second.map fun o => (o.input, o.index, o.content))

/-- The gate at which a retried output is known: the disputed gate, or one that holds it. -/
def Benches.gateFor (b : Benches) (d : Dispute) (o : BenchOut) : Option Nat :=
  if o.input = d.input ∧ o.index = d.index then some d.gate
  else (b.waiting.find? fun x => x.2.input == o.input && x.2.index == o.index).map (·.1)

/-- Whether two lists of outputs are those of a dispute's retry: the first bench's and the second's, under the current claim,
of the disputed input and later ones. -/
def Benches.retryFits (b : Benches) (d : Dispute) (first second : List BenchOut) : Bool :=
  let of_ := fun (i : BenchId) (o : BenchOut) =>
    o.bench == i && o.claim == b.claim && decide (d.input ≤ o.input) && decide (o.input ≤ b.inputs)
  match b.inRole .active with
  | [x, y] => first.all (of_ x) && second.all (of_ y)
  | _ => false

/-- The retry matched: both benches have consumed every delivered input again, the outputs are emitted, BENCH_TRANSIENT is raised, and the charge of R310 follows: for the
late bench of a skew dispute now, else when the shadow arrives. -/
def State.transientRetry (s : State) (d : Dispute) (first : List BenchOut) : State :=
  let charge := match d.outA, d.outB with
    | some a, some b => if s.bench.spare.isSome then some (a.bench, a.content, b.bench, b.content) else none
    | _, _ => none
  let r := bumpPerf s.bench.transients s.bench.transientW 1
  let s1 := { s with bench := { (s.bench.activesAt s.bench.inputs) with dispute := none, transients := r.1, transientW := r.2.1 } }
  let s2 := if r.2.2 then s1.counterWrap 0x60 else s1
  let s3 := first.foldl (fun u o => match s.bench.gateFor d o with
    | none => u
    | some g => u.emitOut g o (if o.input = d.input ∧ o.index = d.index then charge else none)) s2
  match d.late with
  | some i => let c := s3.charge i; c.1.noteTransient c.2 d.input
  | none => if charge.isSome && s.bench.claim == lastClaim then s3 else s3.noteTransient false d.input

/-- The node fails on a dispute that nothing decides (R312, R317, R318). -/
def State.benchFailure (s : State) (e : Ev) (name : String) (input : Nat) : State :=
  (s.raise e .node 0 0 s.bench.claim.toNat input).enterFailed e.code name

/-- Retire bench `i` for a lasting dispute (Table 9–4 step 5): the next claim is issued, the new pair stands before the disputed
input, and the kerf runs until the
first output under it. (DEDUCED, log 45.) -/
def State.retireInKerf (s : State) (i : BenchId) (cause : Nat) (d : Dispute) : State :=
  let old := s.bench.claim
  let s1 := s.promote i (d.input - 1)
  { s1 with bench := { s1.bench with dispute := none, kerf := some (i, cause, old, d.gate) } }

/-- Two-of-three arbitration on the shadow of the disputed output (Table 9–3). (DEDUCED, log 45.) -/
def State.arbitrate (s : State) (d : Dispute) (shadow : BenchOut) : State :=
  match d.outA, d.outB with
  | some a, some b =>
    if shadow.content = a.content then s.retireInKerf b.bench retiredLasting d
    else if shadow.content = b.content then s.retireInKerf a.bench retiredLasting d
    else s.benchFailure .benchThreeway "BENCH_THREEWAY" d.input
  | some a, none =>
    if shadow.content = a.content then
      match s.bench.partner a.bench with
      | some m => s.retireInKerf m retiredSilent d
      | none => s
    else s.benchFailure .benchThreeway "BENCH_THREEWAY" d.input
  | _, _ => s

/-- The retry did not match: the fault is lasting (R309). -/
def State.lastingFault (s : State) (d : Dispute) : State :=
  if s.bench.claim == lastClaim then s.benchFailure .claimExhausted "CLAIM_EXHAUSTED" d.input
  else match s.bench.spare with
    | none => s.benchFailure .benchUnresolved "BENCH_UNRESOLVED" d.input
    | some sp =>
      match s.bench.waiting.find? fun x =>
        x.1 == d.gate && x.2.input == d.input && x.2.index == d.index && x.2.bench == sp with
      | some x => s.arbitrate d x.2
      | none => { s with bench := { s.bench with dispute := some { d with phase := .shadow } } }

/-- RETRY_DONE (R308, R309): the retried outputs are compared with each other. (DESIGN CHOICE, log 105.) -/
def execRetryDone (first second : List BenchOut) (s : State) : Res :=
  match s.bench.dispute with
  | none => .next s
  | some d =>
    if d.phase != .retry || !s.bench.retryFits d first second then .next s
    else if retryMatches first second then .next (s.transientRetry d first)
    else .next (s.lastingFault d)

/-! ## The spare (R299 to R301, R310 to R312) -/

/-- Compare the shadow with what the gate emitted (R311), and with the originals of a transient dispute (R310). -/
def State.checkShadow (s : State) (e : Emitted) (o : BenchOut) : State :=
  let charged := match e.charge with
    | none => []
    | some c => (if c.2.1 != o.content then [c.1] else []) ++ (if c.2.2.2 != o.content then [c.2.2.1] else [])
  let r := charged.foldl (fun (acc : State × Bool) i => let x := acc.1.charge i; (x.1, acc.2 || x.2)) (s, false)
  let s1 := if e.charge.isSome && s.bench.claim == lastClaim then r.1.noteTransient r.2 e.input else r.1
  let others := s1.bench.emitted.filter (· != e)
  if o.content = e.content then { s1 with bench := { s1.bench with emitted := others ++ [{ e with charge := none, strikes := 0 }] } }
  else if e.strikes = 0 then
    -- the spare consumes the input once more from the journal
    { s1 with bench := { (s1.bench.setTaken o.bench (e.input - 1)) with emitted := others ++ [{ e with charge := none, strikes := 1 }] } }
  else s1.retireSpare retiredMismatch e.gate

/-- What a gate's history of the last 1,024 hc holds of an output (R303). -/
def State.history (s : State) (g : Nat) (o : BenchOut) : Option Emitted :=
  s.bench.emitted.find? fun e =>
    e.gate == g && e.input == o.input && e.index == o.index && decide (s.hcOf o.bench (s.time - e.at_) ≤ 1024)

/-- SHADOW_ARRIVAL (R310 to R312): the spare's shadow decides a lasting dispute, charges a bench, or checks the
spare. One that comes before the retry ends waits at the gate. -/
def execShadowArrival (g : Fin 179) (o : BenchOut) (s : State) : Res :=
  if s.bench.spare != some o.bench || !s.bench.made o then .next s else
  let ours := fun (d : Dispute) => d.gate == g.val && d.input == o.input && d.index == o.index
  match s.bench.dispute with
  | some d =>
    if ours d then
      if d.phase == .shadow then .next (s.arbitrate d o)
      else .next { s with bench.waiting := s.bench.waiting ++ [(g.val, o)] }
    else match s.history g.val o with
      | none => .next s
      | some e => .next (s.checkShadow e o)
  | none =>
    match s.history g.val o with
    | none => .next s
    | some e => .next (s.checkShadow e o)

/-- SHADOW_TIMEOUT (R312): no shadow 1,088 hc after a lasting dispute. -/
def execShadowTimeout (s : State) : Res :=
  match s.bench.dispute with
  | none => .next s
  | some d =>
    if d.phase == .shadow then .next (s.benchFailure .benchUnresolved "BENCH_UNRESOLVED" d.input) else .next s

/-- FIRST_NEW_CLAIM_OUTPUT (R320 step 7): delivery and credits resume, and BENCH_RETIRED, then SPALLED, are raised.
(DEDUCED, log 45.) -/
def execFirstNewClaimOutput (s : State) : Res :=
  match s.bench.kerf with
  | none => .next s
  | some k =>
    -- the new pair has consumed the disputed input and every later one (R320 step 6)
    let s1 := { s with bench := { (s.bench.activesAt s.bench.inputs) with kerf := none } }
    .next (s1.raise .benchRetired .bench k.1.num k.2.1 (claims k.2.2.1 s.bench.claim) k.2.2.2).settle

/-- SPARE_CONSUME (R299, R300): the spare takes the next journal input, the one of this number; its lag, from the input's delivery to now, throttles
inputs from 1,024 hc until it is below 768 hc. (DESIGN CHOICE, log 105; DEDUCED, log 111.) -/
def execSpareConsume (input : Nat) (s : State) : Res :=
  match s.bench.spare with
  | none => .next s
  | some sp =>
    match s.bench.journal.find? fun e => e.seq == s.bench.taken sp + 1 && e.seq == input with
    | none => .next s
    | some e =>
      let lag := s.hcOf sp (s.time - e.at_)
      let s1 := { s with bench := { (s.bench.setTaken sp e.seq) with lag := lag } }
      if 1024 ≤ lag ∧ ¬ s.bench.throttled then
        .next ({ s1 with bench := { s1.bench with throttled := true } }.raise .spareLag .bench sp.num 0 s.bench.claim.toNat 0)
      else if lag < 768 then .next s1.unthrottle
      else .next s1

/-- SPARE_STALL_TIMER (R301): nothing consumed for 10 µs while the journal holds inputs. (DEDUCED, log 111.) -/
def execSpareStallTimer (s : State) : Res :=
  match s.bench.spare with
  | none => .next s
  | some sp => if s.bench.taken sp < s.bench.inputs then .next (s.retireSpare retiredStall 0xFF) else .next s

/-- MEMORY_OP_COMPLETE (R321): a controller's completion enters the benches as an input. -/
def execMemoryOpComplete (gate : Fin 32) (s : State) : Res := .next (s.deliver (.memoryOpComplete gate) id)

/-! ## Re-admission (R325 to R327) -/

/-- READMIT_SELFTEST_DONE (R326, R327): where it passes, the active pair's state at this input is copied. -/
def execReadmitSelftestDone (passed : Bool) (s : State) : Res :=
  match s.bench.readmit with
  | none => .next s
  | some r =>
    if r.stage != 1 then .next s
    else .next (s.deliver (.readmitSelftestDone passed) fun u =>
      if !passed then (u.failReadmit 1).settle
      else { u with bench := { (u.bench.setTaken r.bench u.bench.inputs) with
        testFailed := u.bench.testFailed.filter (· != r.bench), readmit := some { r with stage := 2 } } })

/-- STATE_COPY_DONE (R326, R327): the copy is checked against both active digests; active digests that differ are a
dispute as well. -/
def execStateCopyDone (digest1 digest2 copyDigest : Nat) (s : State) : Res :=
  match s.bench.readmit with
  | none => .next s
  | some r =>
    if r.stage != 2 then .next s
    else .next (s.deliver (.stateCopyDone digest1 digest2 copyDigest) fun u =>
      if digest1 = copyDigest ∧ digest2 = copyDigest then { u with bench.readmit := some { r with stage := 3 } }
      else
        let s1 := u.failReadmit 2
        if digest1 = digest2 then s1.settle
        else
          let out := fun (i : BenchId) (d : Nat) =>
            ({ bench := i, claim := u.bench.claim, input := u.bench.inputs, index := 0, content := d } : BenchOut)
          match s1.bench.inRole .active with
          | [a, b] => (s1.beginDispute { gate := 0xFF, input := u.bench.inputs, index := 0, outA := some (out a digest1)
                                         outB := some (out b digest2), phase := .retry, late := none }).settle
          | _ => s1.settle)

/-- The last input that a bench must have consumed for its lag to be within 1,024 hc. -/
def State.caughtUpTo (s : State) (i : BenchId) : Nat :=
  s.bench.journal.foldl (fun n e => if 1024 < s.hcOf i (s.time - e.at_) then max n e.seq else n) (s.bench.taken i)

/-- JOURNAL_CATCH_UP (R326 step 4): the bench has consumed the journal until its lag is within 1,024 hc, takes the current claim
and is the SPARE. (DESIGN CHOICE, log 105.) -/
def execJournalCatchUp (s : State) : Res :=
  match s.bench.readmit with
  | none => .next s
  | some r =>
    if r.stage != 3 then .next s else
    .next (s.deliver .journalCatchUp fun u =>
      let s1 := { u with bench := { ((u.bench.setTaken r.bench (u.caughtUpTo r.bench)).setRole r.bench .spare) with readmit := none } }
      (s1.raise .benchReadmitted .bench r.bench.num 0 u.bench.claim.toNat 0).settle.answer r.session r.reqId
      kindReadmit .ok [(1, cborText Role.spare.name)])

end Sys2Proof.Machine
end

