-- ==== Sys2Proof/Machine/Power.lean ====
section
/-! DEFINITION. Supplies, RESET_N, the service connector's inputs and the start-up sequence (chapters 2 and 4). -/

namespace Sys2Proof.Machine

/-! ## Shared operations -/

/-- The causes of NODE_STOPCAUSE (Table 20–4). -/
def causeUndervolt : Nat := 1
/-- INPUT_OV. -/
def causeInputOv : Nat := 2
/-- THERMAL_TRIP. -/
def causeThermal : Nat := 3
/-- RESET_N. -/
def causeResetN : Nat := 4
/-- SHUTDOWN. -/
def causeShutdown : Nat := 5
/-- FAILED. -/
def causeFailed : Nat := 6
/-- NODE_RESET. -/
def causeNodeReset : Nat := 7

/-- What outlasts every stop while VIN stays at or above 30 V: the stop record and the retired blocks with the
spares they used (R137, R369), the fuses and the credential store (R594, R612, R631), the pins, and the rings until
the next start (R712). -/
def State.kept (s : State) : State :=
  { power := { part := s.power.part, node := s.power.node, vinOn := s.power.vinOn, vinMv := s.power.vinMv
               resetLow := s.power.resetLow, ovStopped := s.power.ovStopped, ovRecord := s.power.ovRecord
               highExc := s.power.highExc, highRaised := s.power.highRaised, stopCause := s.power.stopCause, stopCode := s.power.stopCode
               dbgFlag := s.power.dbgFlag, maxSeq := s.power.maxSeq }
    time := s.time
    dram := { stks := s.dram.stks.mapVals (fun k => { retired := k.retired, sparesUsed := k.sparesUsed }) {} }
    sec := { lifecycle := s.sec.lifecycle, debug := s.sec.debug, keys := s.sec.keys, serial := s.sec.serial
             stepping := s.sec.stepping, secver := s.sec.secver }
    bureau := { creds := s.bureau.lasting, presence := s.bureau.presence, mac := s.bureau.mac }
    host := { perstLow := s.host.perstLow, cableJ1 := s.host.cableJ1, cableJ2 := s.host.cableJ2, partner := s.host.partner }
    events := { s.events with trig := 0, health := .sound, once := [] }
    out := s.out, fresh := s.fresh, pending := s.pending }

/-- Stop every converter except the wake island and enter OFF (R132 to R135). The stop record takes the cause, or
FAILED with its event code, or THERMAL_TRIP, where the stop ends FAILED (R137). In OFF no converter runs that could stop,
and the record keeps the cause of the last stop, for RESET_N as for any other cause. (DEDUCED, log 123.) -/
def State.stop (s : State) (cause : Nat) (why : String) : State :=
  if s.isIn .off then { s with power.starting := false, power.pwrGood := false, power.restartDue := false }
  else
    let c := if s.isIn .failed then (if s.power.tripped then causeThermal else causeFailed) else cause
    let s1 := s.kept
    { s1 with
      power.stopCause := c
      power.stopCode := if c = causeFailed then s.power.failCode else 0 }.setNode .off why

/-- Begin the start-up sequence of Table 4–2 from step 1, with empty rings and every vector armed (R357, R712).
A converter stop for overvoltage, VIN off or RESET_N low hold it off. -/
def State.start (s : State) : State :=
  if s.isIn .off && s.power.vinOn && !s.power.resetLow && !s.power.ovStopped then
    { s with power.starting := true, power.restartDue := false, power.bootCode := 0, power.bootState := 0
             power.bootCount := 0, events := {} }
  else s

/-- Raise a start-up failure: detail A is the node state (Table 19–5), NODE_BOOTSTAT records it (R115). -/
def State.startUpFailure (s : State) (e : Ev) (detailB : Nat) : State :=
  (s.bootFailure e.code).raise e .node 0 s.power.node.num detailB 0

/-- A start-up failure that takes the node to FAILED. -/
def State.failStartUp (s : State) (e : Ev) (name : String) : State :=
  (s.startUpFailure e 0).enterFailed e.code name

/-! ## Supplies -/

/-- VIN_APPLIED (R55, R106): VIN rises through 39.0 V. -/
def execVinApplied (mv : Nat) (s : State) : Res :=
  .next ({ s with power.vinOn := true, power.vinMv := mv }.start)

/-- VIN_UNDERVOLT (R55, R135): below 37.0 V for more than 5 µs the converters stop. -/
def execVinUndervolt (mv : Nat) (s : State) : Res :=
  .next { (s.stop causeUndervolt "UNDERVOLT") with power.vinOn := false, power.vinMv := mv }

/-- VIN_OVERVOLT (R56): above 62.0 V the converters stop, and the wake island records INPUT_OV. A node that is OFF after
SHUTDOWN records it too, and starts on recovery as a node that ran. (DESIGN CHOICE, log 124.) -/
def execVinOvervolt (mv : Nat) (s : State) : Res :=
  if s.power.vinOn then
    .next { (s.stop causeInputOv "INPUT_OV") with
            power.vinMv := mv, power.ovStopped := true, power.ovRecord := some mv }
  else .next { s with power.vinMv := mv }

/-- VIN_OV_RECOVER (R56): below 61.0 V the node restarts from OFF. -/
def execVinOvRecover (mv : Nat) (s : State) : Res :=
  if s.power.ovStopped then .next ({ s with power.vinMv := mv, power.ovStopped := false }.start)
  else .next { s with power.vinMv := mv }

/-- Raise INPUT_HIGH once for the excursion under way (R57). -/
def State.noteHigh (s : State) : State :=
  if s.power.highExc && !s.power.highRaised then
    { s with power.highRaised := true }.raise .inputHigh .node 0 s.power.vinMv 0 0
  else s

/-- VIN_HIGH_EXCURSION (R57): between 60 V and 62 V the node goes on, and raises INPUT_HIGH once per excursion; a node that is
OFF raises it when it starts within the excursion. In RETENTION and after THERMAL_TRIP, of which R57 says nothing, it is
raised at once. (DESIGN CHOICE, log 125.) -/
def execVinHighExcursion (mv : Nat) (s : State) : Res :=
  let s1 := { s with power.vinMv := mv, power.highExc := true }
  .next (if s.isIn .off then s1 else s1.noteHigh)

/-- VIN_HIGH_EXCURSION_END (R57): VIN leaves the band, and the next entry is an excursion of its own. -/
def execVinHighExcursionEnd (mv : Nat) (s : State) : Res :=
  .next { s with power.vinMv := mv, power.highExc := false, power.highRaised := false }

/-- VIN_COLD_LOSS (R137, R369): below 30 V the stop record and the retirement list are cleared; the next start
reports COLD. (DEDUCED, log 21.) -/
def execVinColdLoss (s : State) : Res :=
  let s1 := s.stop causeUndervolt "UNDERVOLT"
  .next { s1 with
    power := { part := s.power.part, node := .off, resetLow := s.power.resetLow }
    sec := { s1.sec with debug := .locked }
    dram := {} }

/-! ## Service connector and shelf inputs -/

/-- RESET_N_ASSERT (R133): every converter but the wake island's stops; the node enters OFF. -/
def execResetNAssert (s : State) : Res :=
  .next { (s.stop causeResetN "RESET_N") with power.resetLow := true }

/-- RESET_N_RELEASE (R133): the start-up sequence runs from step 1 while VIN is in range. -/
def execResetNRelease (s : State) : Res :=
  if s.power.resetLow then .next ({ s with power.resetLow := false }.start) else .next s

/-- POWER_WARN_N_ASSERT (R136): POWER_WARN with its timestamp; recorded in RETENTION and reported at exit. With
the node OFF, or after THERMAL_TRIP, nothing runs that could raise it. -/
def execPowerWarnNAssert (s : State) : Res :=
  if s.isIn .off || s.power.tripped then .next s
  else if s.isIn .retention then
    .next { s with power.retention := s.power.retention.map fun r => { r with warnings := r.warnings ++ [s.ts] } }
  else .next (s.deliver .powerWarnNAssert fun u => u.raise .powerWarn .node 0 0 u.ts 0)

/-- PRESENCE_N_RECOGNISED (R632): opens the 300 s window of the enroller role. -/
def execPresenceNRecognised (s : State) : Res := .next { s with bureau.presence := true }

/-- PRESENCE_WINDOW_EXPIRY (R632): the window closes. -/
def execPresenceWindowExpiry (s : State) : Res := .next { s with bureau.presence := false }

/-! ## Start-up (Table 4–2) -/

/-- SEAL_BOOT_ENTRY (R106 step 2, R77, R618): the timestamp starts at 0, PWR_GOOD goes high, a debug unlock since
VIN was applied shows as UNLOCKED_SINCE_POWER, a recorded INPUT_OV is reported (R56), and INPUT_HIGH is raised where VIN is
in its band (R57). The console line names no trigger. (DEDUCED, log 20.) -/
def execSealBootEntry (s : State) : Res :=
  if s.power.starting && s.isIn .off then
    let s1 := { s with
      time := 0
      power := { s.power with starting := false, pwrGood := true, ovRecord := none }
      sec := { s.sec with debug := if s.power.dbgFlag then .unlockedSincePower else .locked, challenge := none } }
    let s2 := s1.setNode .sealBoot ""
    let s3 := match s.power.ovRecord with | none => s2 | some mv => s2.raise .inputOv .node 0 mv 0 0
    .next s3.noteHigh
  else .next s

/-- The seal processor makes the key pair of the TLS server for this start, and its certificate, which carries the serial and is
signed with the same key (R628). (DESIGN CHOICE, log 13.) -/
def State.makeTlsKey (s : State) : State :=
  let key := Config.freeBytes s.fresh 97
  { s.draw with sec.tlsPublic := key, sec.tlsCert := Config.tlsCertificate key s.sec.serial }

/-- SEAL_BOOT_DONE (Table 4–2 step 3, Table 4–4): to SELF_TEST, or to FAILED where the seal ROM, the fuses or the
Avyanath ROM's digest fail. The host port link trains (R111). -/
def execSealBootDone (romAndFusesOk avyanathOk : Bool) (s : State) : Res :=
  if !s.isIn .sealBoot then .next s
  else
    let u := s.makeTlsKey
    if romAndFusesOk && avyanathOk then .next ({ u with host := u.host.train }.setNode .selfTest "")
    else .next (u.failStartUp .sealBootFail "SEAL_BOOT_FAIL")

/-- The unit of a SELFTEST_FAIL: its kind in [7:0] and its number in [23:8] (Table 19–5). -/
def unitDetail : TestUnit → Nat
  | .bench b => 1 + 256 * b.num
  | .holdEngine n => 2 + 256 * n.val
  | .counterStore => 3
  | .sieve n => 4 + 256 * n.val
  | .lexicon n => 5 + 256 * n.val
  | .copy n => 6 + 256 * n.val
  | .port n => 7 + 256 * n.val
  | .comparator n => 8 + 256 * n.val

/-- The benches among failed units. -/
def failedBenches (failed : List TestUnit) : List BenchId := allBenches.filter fun b => failed.contains (.bench b)

/-- The hold engines among failed units. -/
def failedHolds (failed : List TestUnit) : List Nat :=
  (List.range 2).filter fun n => failed.any fun u => match u with | .holdEngine m => m.val == n | _ => false

/-- The roles after self-test: A and B active and C the spare, or the two benches that passed (R295, R296). -/
def rolesAfterTest (bad : List BenchId) (b : BenchId) : Role :=
  if bad.contains b then .retired
  else if bad.isEmpty then (if b = .C then .spare else .active)
  else .active

/-- Take the failed units out of service (Table 4–4). A gate comparator, of whose failure Table 4–4 says nothing, is reported
and stays in service. (DESIGN CHOICE, log 126.) -/
def State.takeOut (s : State) (failed : List TestUnit) : State :=
  failed.foldl (fun u x => match x with
    | .holdEngine n => { u with power.holdOut := u.power.holdOut ++ [n.val] }
    | .sieve n => { u with power.sieveOut := u.power.sieveOut ++ [n.val] }
    | .lexicon n => { u with power.lexOut := u.power.lexOut ++ [n.val] }
    | .copy n => { u with power.copyOut := u.power.copyOut ++ [n.val] }
    | .port n => u.updPort n.val fun p => { p with loopFail := true }
    | _ => u) s

/-- SELF_TEST_DONE (Table 4–2 step 4, Table 4–4, R295, R296): failed units go out of service, the claim is 1, every
accepted claim is 0, and the node enters MEMORY_TRAIN, or FAILED. -/
def execSelfTestDone (failed : List TestUnit) (s : State) : Res :=
  if !s.isIn .selfTest then .next s else
  let bad := failedBenches failed
  .next (s.deliver (.selfTestDone failed) fun u0 =>
  let s1 := failed.foldl (fun u x => u.startUpFailure .selftestFail (unitDetail x)) u0
  if 2 ≤ bad.length || (failedHolds failed).length = 2 || failed.contains .counterStore then
    s1.enterFailed Ev.selftestFail.code "SELFTEST_FAIL"
  else
    let s2 := s1.takeOut failed
    let s3 := { s2 with bench := { s2.bench with
      roleA := rolesAfterTest bad .A, roleB := rolesAfterTest bad .B, roleC := rolesAfterTest bad .C
      claim := 1, accepted := [], testFailed := bad } }
    (s3.setNode .memoryTrain "").settle)

/-- MEMORY_TRAIN_DONE (R107, Table 4–4): every line is zero with tag 0, failed stacks are lost, and the node enters
AWAIT_JOINERY, or FAILED where no stack trained. The node's own tables take their two places (R373). -/
def execMemoryTrainDone (failed : List (Fin 16)) (s : State) : Res :=
  if !s.isIn .memoryTrain then .next s else
  let present := List.range s.power.part.slices
  let bad := present.filter fun n => failed.any fun f => f.val == n
  .next (s.deliver (.memoryTrainDone failed) fun u0 =>
  let s1 := { u0 with
    mem := [], dram := { u0.dram with tags := [], poison := [], freePoison := [], faults := [], drawers := [], dtt := [], tables := [] } }
  if bad.length = present.length then s1.failStartUp .stackTrainFail "STACK_TRAIN_FAIL"
  else
    let s2 := if bad.isEmpty then s1 else s1.startUpFailure .stackTrainFail 0
    let s3 := present.foldl (fun u n => u.updStk n fun k =>
      { k with lost := bad.contains n, headroom := Config.headroomBlocks, lapStart := s.ts }) s2
    (s3.keepTables.setNode .awaitJoinery "").settle)

/-- START_UP_BOUND_EXPIRY (R105): a start-up state overran its bound. (DESIGN CHOICE, log 120.) -/
def execStartUpBoundExpiry (s : State) : Res :=
  if s.startUpBounded then .next (s.failStartUp .bootTimeout "BOOT_TIMEOUT") else .next s

/-- NODE_RESET_RESTART (R134): 10 ms after a NODE_RESET took the node to OFF, it starts again. -/
def execNodeResetRestart (s : State) : Res :=
  if s.power.restartDue then .next ({ s with power.restartDue := false }.start) else .next s

end Sys2Proof.Machine
end

