-- ==== Sys2Proof/Machine/BureauOps.lean ====
section
/-! DEFINITION. The management port (chapter 18): sessions, roles, the checks every Bureau request meets, the
configuration lock, and the messages whose effect is the node's state of health, its logs and its credentials. -/

namespace Sys2Proof.Machine

/-! ## The port and its sessions -/

/-- Whether Bureau sessions are served: AWAIT_JOINERY, APPLYING, READY and FAILED but after THERMAL_TRIP (R118, R645). -/
def State.mgmtUp (s : State) : Bool :=
  (s.isIn .awaitJoinery || s.isIn .applying || s.isIn .ready || s.isIn .failed) && !s.power.tripped

/-- Whether the management link is up (Table 4–3, R118, R127). -/
def State.mgmtLink (s : State) : Bool := s.mgmtUp || s.isIn .selfTest || s.isIn .memoryTrain

/-- Close a session (R647, R635): its lock is released, and a REVOKE of its own entry takes effect. (DEDUCED, log 85.) -/
def State.closeSession (s : State) (id : Nat) (alert : String) : State :=
  if !s.bureau.sessions.any (·.id == id) then s else
  let gone := (s.bureau.revoked.filter (·.1 == id)).map (·.2)
  { s with
    bureau.sessions := s.bureau.sessions.filter (·.id != id)
    bureau.lock := if s.bureau.lock = Holder.session id then Holder.free else s.bureau.lock
    bureau.creds := s.bureau.creds.filter fun c => !gone.contains c.1
    bureau.revoked := s.bureau.revoked.filter (·.1 != id) }.emit (.closed id alert)

/-- Whether the session still owes a reply to an earlier request: it reads no further message (R638). -/
def State.owesReply (s : State) (id : Nat) : Bool :=
  let mine := fun (b : Submitter) => match b with | .session i _ => i == id | .host => false
  (match s.jny.phase with
    | .idle => false | .checking _ b => mine b | .accepted _ _ _ _ b => mine b | .applied b => mine b) ||
  s.dram.jobs.any (fun j => mine j.by_) || optAny s.bench.readmit (fun r => r.session == id && r.stage != 0) ||
  s.sec.reports.any fun r => match r.by_ with | .session i _ => i == id | _ => false

/-- Whether a party may start a guarded operation (R646). -/
def State.lockOpen (s : State) (who : Submitter) : Bool :=
  match s.bureau.lock, who with
  | .free, _ => true
  | .host, .host => true
  | .session i, .session j _ => i == j
  | _, _ => false

/-- The states of Table 18–1: A AWAIT_JOINERY and APPLYING, R READY, F FAILED. -/
def State.inStates (s : State) (a r f : Bool) : Bool :=
  (a && (s.isIn .awaitJoinery || s.isIn .applying)) || (r && s.isIn .ready) || (f && s.isIn .failed)

/-- A Bureau request of type `kind`, as the command `c` brings it, an input of the benches (R637 to R640, R646): the checks, then
`act`. `parse` reads a body of its type, and `v` are the operands that the command names. `roles` says which roles may send it,
`ok` that it is in its states, `guarded` that the lock guards it. A message that is another command's does nothing.
(DEDUCED, log 84.) -/
def State.bureauRequest {α : Type} [BEq α] (s : State) (c : Instr) (m : BureauMsg) (kind : Nat) (parse : Body → Option α) (v : α)
    (roles : SessRole → Bool) (ok guarded : Bool) (act : State → State) : State :=
  if !s.mgmtUp || s.owesReply m.session then s else
  match s.bureau.sessions.find? (·.id == m.session) with
  | none => s
  | some x =>
    match x.role with
    | none => s
    | some role =>
      match m.read kind parse v with
      | .other => s
      | .notCbor => s.deliver c fun u => u.closeSession m.session "decode_error"
      | .bad => s.deliver c fun u => u.answer m.session m.reqId m.typ .format []
      | .asks => s.deliver c fun u =>
        let refuse := fun (st : Status) => u.answer m.session m.reqId kind st []
        if !roles role then refuse .denied
        else if !ok then refuse .notReady
        else if guarded && !u.lockOpen (.session m.session m.reqId) then refuse .notReady
        else act u

/-- Operator-admin alone. -/
def adminOnly : SessRole → Bool
  | .admin => true
  | _ => false
/-- Operator-observer, and so operator-admin. -/
def observers : SessRole → Bool
  | .enroller => false
  | _ => true
/-- Any role. -/
def anyRole (_ : SessRole) : Bool := true

/-- TCP_CONNECT (R626): at most four sessions; a fifth attempt is reset, and so is one before AWAIT_JOINERY.
(DESIGN CHOICE, log 109.) -/
def execTcpConnect (session : Nat) (s : State) : Res :=
  if !s.mgmtLink || s.bureau.sessions.any (·.id == session) then .next s
  else if !s.mgmtUp || 4 ≤ s.bureau.sessions.length then .next (s.emit (.closed session "reset"))
  else .next { s with bureau.sessions := s.bureau.sessions ++
      [{ id := session, role := none, cert := [], on := false, buffer := [], dropped := 0 }] }

/-- The store holds an operator-admin entry. -/
def Bureau.hasAdmin (b : Bureau) : Bool := b.creds.any (·.2 == 0)

/-- The role that R632 gives a client, or none. -/
def State.roleFor (s : State) (hash : List Byte) : Option SessRole :=
  match s.bureau.creds.find? (·.1 == hash) with
  | some c => some (if c.2 = 0 then .admin else .observer)
  | none =>
    if !s.bureau.hasAdmin || s.sec.lifecycle == .returned || s.bureau.presence then some .enroller else none

/-- TLS_HANDSHAKE_DONE (R627, R632): the session takes its role, or ends with certificate_required or access_denied.
(DESIGN CHOICE, log 109.) -/
def execTlsHandshakeDone (session : Nat) (client : TlsClient) (s : State) : Res :=
  match s.bureau.sessions.find? (fun x => x.id == session && x.role.isNone) with
  | none => .next s
  | some _ =>
    match client with
    | .noCertificate => .next (s.closeSession session "certificate_required")
    | .certificate der =>
      let hash := Config.sha384 der
      if ((Config.x509 der).bind (·.p384)).isNone then .next (s.closeSession session "certificate_required") else
      match s.roleFor hash with
      | none => .next (s.closeSession session "access_denied")
      | some r =>
        .next ({ s with bureau.sessions := s.bureau.sessions.map fun (x : Session) =>
          if x.id = session then { x with role := some r, cert := hash } else x }.emit (.tls session "up"))

/-- SESSION_IDLE_TIMEOUT (R626). -/
def execSessionIdleTimeout (session : Nat) (s : State) : Res := .next (s.closeSession session "idle")

/-- SESSION_CLOSE (R647). -/
def execSessionClose (session : Nat) (s : State) : Res := .next (s.closeSession session "close")

/-! ## Network (R625) -/

/-- The modified EUI-64 interface identifier of the MAC address. -/
def eui64 (mac : List Byte) : List Byte :=
  [mac.getD 0 0 ^^^ 0x02#8, mac.getD 1 0, mac.getD 2 0, 0xFF#8, 0xFE#8, mac.getD 3 0, mac.getD 4 0, mac.getD 5 0]

/-- The node's addresses: the link-local one, and those that SLAAC formed. -/
def State.addresses (s : State) : List (List Byte) :=
  ([0xFE#8, 0x80#8, 0, 0, 0, 0, 0, 0] ++ eui64 s.bureau.mac) :: s.bureau.addresses

/-- IPV4_FRAME (R625): discarded. (DESIGN CHOICE, log 109.) -/
def execIpv4Frame (s : State) : Res := .next s

/-- NEIGHBOR_DISCOVERY (R625): a solicitation for an address of the node is answered. (DESIGN CHOICE, log 109.) -/
def execNeighborDiscovery (target : List Byte) (s : State) : Res :=
  if s.mgmtLink && s.addresses.contains target then .next (s.emit (.net "advertisement" (target ++ s.bureau.mac)))
  else .next s

/-- ROUTER_ADVERTISEMENT (R625): an address is formed by SLAAC from the advertised network. (DESIGN CHOICE, log 109.) -/
def execRouterAdvertisement (networkId : List Byte) (s : State) : Res :=
  let a := sub networkId 0 8 ++ eui64 s.bureau.mac
  if !s.mgmtLink || s.bureau.addresses.contains a then .next s
  else .next { s with bureau.addresses := s.bureau.addresses ++ [a] }

/-- ICMPV6_ECHO (R625): answered with its payload. (DESIGN CHOICE, log 109.) -/
def execIcmpv6Echo (payload : List Byte) (s : State) : Res :=
  if s.mgmtLink then .next (s.emit (.net "echo" payload)) else .next s

/-! ## Health, telemetry, logs -/

/-- The names of the active triggers. -/
def State.activeTriggers (s : State) : List String :=
  (triggerNames.zipIdx.filter fun e => s.events.trig.getLsbD (e.2 + 1)).map (·.1)

/-- HEALTH (R641, R714). (DEDUCED, log 110.) -/
def execHealth (m : BureauMsg) (s : State) : Res :=
  .next (s.bureauRequest (.health m) m 0x01 noBody () anyRole (s.inStates true true true) false fun u =>
    u.answer m.session m.reqId 0x01 .ok
      [(1, cborText u.power.node.name), (2, cborText u.healthNow.name), (3, cborArray (u.activeTriggers.map cborText)),
        (4, cborArray [cborUint u.bench.claim.toNat, cborText u.bench.roleA.name, cborText u.bench.roleB.name, cborText u.bench.roleC.name]),
        (5, cborArray ((List.range u.power.part.slices).map fun n => cborUint (u.stk n).spares)), (6, cborUint u.portsUp),
        (7, cborBytes (leBytes 8 u.stopCauseWord ++ leBytes 8 u.power.maxSeq)), (8, cborBytes u.bureau.mac)])

/-- TELEMETRY (R641, R714). -/
def execTelemetry (m : BureauMsg) (s : State) : Res :=
  .next (s.bureauRequest (.telemetry m) m 0x02 noBody () observers (s.inStates false true false) false fun u =>
    u.answer m.session m.reqId 0x02 .ok
      [(1, cborArray ((List.range 24).map fun d => let v := u.dom d
          cborArray [cborUint v.mv, cborUint v.hc, cborInt v.junction.toInt, cborUint v.occupancy])),
        (2, cborArray ((List.range u.power.part.slices).map fun n => cborInt (u.stk n).temp.toInt)),
        (3, cborUint u.power.vinMv), (4, cborUint (Config.inputPower u.time).toNat),
        (5, cborArray ((List.range 32).map fun p => cborBytes (((u.port p).errCnt.take 8).flatMap (leBytes 4))))])

/-- The entry of index `i` in a ring, if it is still there. -/
def Ring.entryAt (r : Ring) (i : W32) : Option EventEntry :=
  if 1 ≤ (r.tail - i).toNat ∧ (r.tail - i).toNat ≤ 4096 then r.slots.get (i.toNat % 4096) none else none

/-- The entries from index `i` on, at most `n`, up to the tail. -/
def Ring.readFrom (r : Ring) (i : W32) (n : Nat) : List (List Byte) :=
  (List.range n).filterMap fun k => (r.entryAt (i + BitVec.ofNat 32 k)).map EventEntry.bytes

/-- FAULT_READ (R641, R644): entries from the start index on; the overflow count stays. -/
def execFaultRead (m : BureauMsg) (start count : Nat) (s : State) : Res :=
  .next (s.bureauRequest (.faultRead m start count) m 0x03 faultReadBody (start, count) observers (s.inStates true true true) false fun u =>
    u.answer m.session m.reqId 0x03 .ok
      [(1, cborArray ((u.events.fault.readFrom (BitVec.ofNat 32 start) count).map cborBytes)),
        (2, cborUint u.events.fault.head.toNat), (3, cborUint u.events.fault.tail.toNat), (4, cborUint u.events.fault.overflow)])

/-- FAULT_ACK (R359, R644). -/
def execFaultAck (m : BureauMsg) (head : Nat) (clear : Bool) (s : State) : Res :=
  .next (s.bureauRequest (.faultAck m head clear) m 0x04 faultAckBody (head, clear) adminOnly (s.inStates true true true) false fun u =>
    let r := u.events.fault.setHead (BitVec.ofNat 32 head)
    { u with events.fault := if clear then { r with overflow := 0 } else r }.answer m.session m.reqId 0x04 .ok
      [(1, cborUint r.head.toNat)])

/-- SCRUB_STATUS (R641). -/
def execScrubStatus (m : BureauMsg) (s : State) : Res :=
  .next (s.bureauRequest (.scrubStatus m) m 0x08 noBody () observers (s.inStates false true false) false fun u =>
    u.answer m.session m.reqId 0x08 .ok
      ((match u.jny.inForce with
          | none => [(1, cborUint 0), (2, cborUint 0)]
          | some j => [(1, cborUint j.lap), (2, cborUint j.sweep)]) ++
        [(3, cborArray ((List.range u.power.part.slices).map fun n => let k := u.stk n
          cborArray [cborUint k.lastLap, cborUint k.lapPos, cborUint k.laps, cborBool k.overdue]))]))

/-- NODE_RESET (R134, R643): the reply, then OFF; the node starts again 10 ms later. -/
def execNodeReset (m : BureauMsg) (s : State) : Res :=
  .next (s.bureauRequest (.nodeReset m) m 0x0D noBody () adminOnly (s.inStates true true true) false fun u =>
    { (u.answer m.session m.reqId 0x0D .ok []).stop causeNodeReset "NODE_RESET" with power.restartDue := true })

/-! ## The configuration lock (R646, R647) -/

/-- The holder as LOCK's reply names it to session `id`. -/
def Holder.code (h : Holder) (id : Nat) : Nat :=
  match h with
  | .free => 0
  | .host => 1
  | .session i => if i = id then 2 else 3

/-- LOCK, with what it makes of the holder; none where the acquisition fails. (DEDUCED, log 84.) -/
def State.lockRequest (s : State) (c : Instr) (m : BureauMsg) (action : Nat) (f : Holder → Option Holder) (broken : Holder → Bool) : State :=
  s.bureauRequest c m 0x0E (uintBody (· < 3)) action adminOnly (s.inStates true true false) false fun u =>
    match f u.bureau.lock with
    | none => u.answer m.session m.reqId 0x0E .notReady [(1, cborUint (u.bureau.lock.code m.session))]
    | some h =>
      let u1 := { u with bureau.lock := h }
      let u2 := if broken u.bureau.lock then u1.raise .configLockBroken .node 0 0 0 0 else u1
      u2.answer m.session m.reqId 0x0E .ok [(1, cborUint (h.code m.session))]

/-- LOCK_RELEASE (R647): a session releases its own lock. (DEDUCED, log 84.) -/
def execLockRelease (m : BureauMsg) (s : State) : Res :=
  .next (s.lockRequest (.lockRelease m) m 0 (fun h => some (if h = .session m.session then .free else h)) fun _ => false)

/-- LOCK_ACQUIRE (R647): a free lock, or the session's own. (DEDUCED, log 84.) -/
def execLockAcquire (m : BureauMsg) (s : State) : Res :=
  .next (s.lockRequest (.lockAcquire m) m 1 (fun h => if h = .free ∨ h = .session m.session then some (.session m.session) else none)
    fun _ => false)

/-- LOCK_ACQUIRE_FORCE (R647): also a lock that the host port holds, with CONFIG_LOCK_BROKEN. (DEDUCED, log 84.) -/
def execLockAcquireForce (m : BureauMsg) (s : State) : Res :=
  .next (s.lockRequest (.lockAcquireForce m) m 2
    (fun h => if h = .free ∨ h = .host ∨ h = .session m.session then some (.session m.session) else none)
    fun h => h == .host)

/-- SUBSCRIBE (R649). -/
def execSubscribe (m : BureauMsg) (on : Bool) (s : State) : Res :=
  .next (s.bureauRequest (.subscribe m on) m 0x0F boolBody on observers (s.inStates true true true) false fun u =>
    { u with bureau.sessions := u.bureau.sessions.map fun (x : Session) =>
        if x.id = m.session then { x with on := on } else x }.answer m.session m.reqId 0x0F .ok [])

/-! ## Credentials (R633 to R636) -/

/-- The role of the session that sent a message is the enroller's. (DEDUCED, log 85.) -/
def State.fromEnroller (s : State) (m : BureauMsg) : Bool :=
  optAny (s.bureau.sessions.find? (·.id == m.session)) fun x => x.role == some .enroller

/-- Admin or enroller. -/
def enrolling : SessRole → Bool
  | .observer => false
  | _ => true

/-- ENROLL (R633, R635): adds an entry or replaces its role; RANGE with 16 entries. -/
def execEnroll (m : BureauMsg) (cert : List Byte) (role : Nat) (s : State) : Res :=
  .next (s.bureauRequest (.enroll m cert role) m 0x10 enrollBody (cert, role) enrolling (s.inStates true true false) false fun u =>
    let h := Config.sha384 cert
    if u.fromEnroller m && u.bureau.hasAdmin then u.answer m.session m.reqId 0x10 .denied []
    else if u.bureau.creds.any (·.1 == h) then
      { u with bureau.creds := u.bureau.creds.map fun (c : List Byte × Nat) => if c.1 = h then (h, role) else c }.answer
        m.session m.reqId 0x10 .ok [(1, cborUint u.bureau.creds.length)]
    else if 16 ≤ u.bureau.creds.length then u.answer m.session m.reqId 0x10 .range []
    else { u with bureau.creds := u.bureau.creds ++ [(h, role)] }.answer m.session m.reqId 0x10 .ok
      [(1, cborUint (u.bureau.creds.length + 1))])

/-- REVOKE (R635): of the last admin entry DENIED; of the session's own entry when it closes. (DEDUCED, log 85.) -/
def execRevoke (m : BureauMsg) (hash : List Byte) (s : State) : Res :=
  .next (s.bureauRequest (.revoke m hash) m 0x11 (bytesBody (·.length == 48)) hash adminOnly (s.inStates true true false) false fun u =>
    let rest := u.bureau.creds.filter (·.1 != hash)
    let own := u.bureau.sessions.any fun x => x.id == m.session && x.cert == hash
    if u.bureau.creds.any (fun c => c.1 == hash && c.2 == 0) && !rest.any (·.2 == 0) then
      u.answer m.session m.reqId 0x11 .denied []
    else if own then
      { u with bureau.revoked := u.bureau.revoked ++ [(m.session, hash)] }.answer m.session m.reqId 0x11 .ok
        [(1, cborUint u.bureau.creds.length)]
    else { u with bureau.creds := rest }.answer m.session m.reqId 0x11 .ok [(1, cborUint rest.length)])

/-- JOINERY_KEY (R636, R612): the next slot takes the digest of the key. -/
def execJoineryKey (m : BureauMsg) (key : List Byte) (s : State) : Res :=
  .next (s.bureauRequest (.joineryKey m key) m 0x12 (bytesBody (·.length == 97)) key enrolling (s.isIn .awaitJoinery) false fun u =>
    if u.fromEnroller m && !u.sec.keys.isEmpty then u.answer m.session m.reqId 0x12 .denied []
    else if u.jny.everOk then u.answer m.session m.reqId 0x12 .notReady []
    else if 8 ≤ u.sec.keys.length then u.answer m.session m.reqId 0x12 .denied []
    else
      ({ u with sec.keys := u.sec.keys ++ [Config.sha384 key] }.raise .joineryKeyEnrolled .node 0 0 0 0).answer
        m.session m.reqId 0x12 .ok [(1, cborUint (u.sec.keys.length + 1))])

/-- CRED_RESET (R634): the store is emptied and every other session closed. -/
def execCredReset (m : BureauMsg) (s : State) : Res :=
  .next (s.bureauRequest (.credReset m) m 0x13 noBody () (· == .enroller) (s.inStates true true false) false fun u =>
    let others := (u.bureau.sessions.filter (·.id != m.session)).map (·.id)
    let u1 := others.foldl (fun v i => v.closeSession i "close") u
    ({ u1 with bureau.creds := [], bureau.revoked := [] }.raise .credentialsReset .node 0 0 0 0).answer
      m.session m.reqId 0x13 .ok [])

/-- CHALLENGE (R619): 32 random bytes, which the operand gives; an earlier challenge becomes invalid. -/
def execChallenge (m : BureauMsg) (random : List Byte) (s : State) : Res :=
  .next (s.bureauRequest (.challenge m random) m 0x14 noBody () adminOnly (s.inStates true true false) false fun u =>
    { u with sec.challenge := some (sub random 0 32) }.answer m.session m.reqId 0x14 .ok [(1, cborBytes (sub random 0 32))])

/-- CHALLENGE_EXPIRY (R619). -/
def execChallengeExpiry (s : State) : Res := .next (s.deliver .challengeExpiry fun u => { u with sec.challenge := none })

/-- ATTEST (R613, R617, R629): the request takes its place in the queue of reports. -/
def execAttest (m : BureauMsg) (nonce : List Byte) (scope : Nat) (ids : List Nat) (s : State) : Res :=
  .next (s.bureauRequest (.attest m nonce scope ids) m 0x05 attestBody (nonce, scope, ids) anyRole (s.inStates true true true) false fun u =>
    { u with sec.reports := u.sec.reports ++
        [{ by_ := .session m.session m.reqId, nonce := nonce, scope := scope, ids := ids }] })

end Sys2Proof.Machine
end

