-- ==== Sys2Proof/Machine/Formats.lean ====
section
/-! DEFINITION. Number formats (chapter 13): what an element of each format stands for, exactly; rounding and saturation on
conversion (R428, R443 to R450); dot products (R451, R452). -/

namespace Sys2Proof

/-- The value of an element: a NaN or an infinity with its sign bit, or ±m × 2^e exactly. -/
inductive Num where
  | nan (neg : Bool)
  | inf (neg : Bool)
  | fin (neg : Bool) (m : Nat) (e : Int)
deriving DecidableEq, Repr

/-! ## Powers of two -/

/-- Scale `m` up by 2^n where n is not negative. -/
def scaleUp (m : Nat) (n : Int) : Nat := m * 2 ^ n.toNat

/-- Whether m1 × 2^e1 is above m2 × 2^e2. -/
def aboveNum (m1 : Nat) (e1 : Int) (m2 : Nat) (e2 : Int) : Bool :=
  decide (scaleUp m2 (e2 - min e1 e2) < scaleUp m1 (e1 - min e1 e2))

/-- m × 2^e in whole multiples of 2^q: to nearest, ties to even, or toward zero. -/
def roundAt (rz : Bool) (m : Nat) (e q : Int) : Nat :=
  if q ≤ e then scaleUp m (e - q)
  else
    let d := 2 ^ (q - e).toNat
    let k := m / d
    let r := 2 * (m % d)
    if !rz && (decide (d < r) || (decide (r = d) && k % 2 == 1)) then k + 1 else k

/-- The exponent of the leading bit of m × 2^e. -/
def topExp (m : Nat) (e : Int) : Int := (Nat.log2 m : Int) + e

/-! ## Floating formats -/

/-- A floating format: exponent and mantissa bits, bias, and its specials: 0 infinities and NaN as IEEE 754, 1 one NaN
pattern and no infinity (E4M3), 2 neither. -/
structure FloatFmt where
  eb      : Nat
  mb      : Nat
  bias    : Int
  special : Nat
deriving DecidableEq, Repr

/-- The floating formats of Table 13–2; their layouts are IEEE 754's and OCP's. (PRESUMED, log 14.) -/
def floatFmt : Nat → Option FloatFmt
  | 0x00 => some ⟨8, 23, 127, 0⟩
  | 0x01 => some ⟨5, 10, 15, 0⟩
  | 0x02 => some ⟨8, 7, 127, 0⟩
  | 0x03 => some ⟨4, 3, 7, 1⟩
  | 0x04 => some ⟨5, 2, 15, 0⟩
  | 0x05 => some ⟨3, 2, 3, 2⟩
  | 0x06 => some ⟨2, 3, 1, 2⟩
  | 0x07 => some ⟨2, 1, 1, 2⟩
  | _ => none

/-- The sign bit's weight. -/
def FloatFmt.signBit (f : FloatFmt) : Nat := 2 ^ (f.eb + f.mb)

/-- The code of the largest finite magnitude. -/
def FloatFmt.maxCode (f : FloatFmt) : Nat :=
  match f.special with
  | 0 => (2 ^ f.eb - 1) * 2 ^ f.mb - 1
  | 1 => 2 ^ (f.eb + f.mb) - 2
  | _ => 2 ^ (f.eb + f.mb) - 1

/-- The exponent of a unit in the last place of the subnormal values. -/
def FloatFmt.minQ (f : FloatFmt) : Int := 1 - f.bias - f.mb

/-- The magnitude of a code, subnormal values kept (R444). -/
def FloatFmt.magnitude (f : FloatFmt) (code : Nat) : Nat × Int :=
  let e := code / 2 ^ f.mb
  let m := code % 2 ^ f.mb
  if e = 0 then (m, f.minQ) else (2 ^ f.mb + m, f.minQ + (e - 1))

/-- The value of a code. -/
def FloatFmt.decode (f : FloatFmt) (v : Nat) : Num :=
  let neg := bitOf v (f.eb + f.mb)
  let code := v % f.signBit
  if f.special = 0 ∧ f.maxCode < code then
    if code = f.maxCode + 1 then .inf neg else .nan neg
  else if f.special = 1 ∧ f.maxCode < code then .nan neg
  else
    let x := f.magnitude code
    .fin neg x.1 x.2

/-- The code of m × 2^e rounded, before any limit: past the largest code the value is out of range. -/
def FloatFmt.codeOf (f : FloatFmt) (rz : Bool) (m : Nat) (e : Int) : Nat :=
  if m = 0 then 0 else
  let ex := max (topExp m e) (1 - f.bias)
  (ex - (1 - f.bias)).toNat * 2 ^ f.mb + roundAt rz m e (ex - f.mb)

/-- The canonical quiet NaN of a format that has one (R444). -/
def FloatFmt.qnan (f : FloatFmt) : Option Nat :=
  match f.special with
  | 0 => some (f.maxCode + 1 + 2 ^ (f.mb - 1))
  | 1 => some (f.maxCode + 1)
  | _ => none

/-- What a conversion gives: the code, whether it saturated, and whether a NaN was replaced by 0. -/
structure Converted where
  code : Nat
  sat  : Bool
  nan  : Bool
deriving DecidableEq, Repr

/-- A code with its sign. -/
def FloatFmt.signed (f : FloatFmt) (neg : Bool) (code : Nat) : Nat := (if neg then f.signBit else 0) + code

/-- Conversion to a floating format (R428, R444): out of range saturates to the largest finite magnitude. -/
def FloatFmt.encode (f : FloatFmt) (rz : Bool) : Num → Converted
  | .nan _ => match f.qnan with | some c => ⟨c, false, false⟩ | none => ⟨0, false, true⟩
  | .inf neg =>
    if f.special = 0 then ⟨f.signed neg (f.maxCode + 1), false, false⟩ else ⟨f.signed neg f.maxCode, true, false⟩
  | .fin neg m e =>
    let top := f.magnitude f.maxCode
    ⟨f.signed neg (min (f.codeOf rz m e) f.maxCode), aboveNum m e top.1 top.2, false⟩

/-! ## Integer formats, LQ3, S1 -/

/-- An integer as a value, in units of 2^q. -/
def intNum (v : Int) (q : Int) : Num := .fin (decide (v < 0)) v.natAbs q

/-- A two's-complement field of `w` bits. -/
def signedOf (w v : Nat) : Int := if v < 2 ^ (w - 1) then v else (v : Int) - 2 ^ w

/-- Conversion to a two's-complement format of `w` bits in units of 2^q. -/
def encodeInt (w : Nat) (q : Int) (rz : Bool) : Num → Converted
  | .nan _ => ⟨0, false, true⟩
  | .inf neg => ⟨if neg then 2 ^ (w - 1) else 2 ^ (w - 1) - 1, true, false⟩
  | .fin neg m e =>
    let k := roundAt rz m e q
    let top := if neg then 2 ^ (w - 1) else 2 ^ (w - 1) - 1
    let r := min k top
    ⟨if neg then (2 ^ w - r) % 2 ^ w else r, aboveNum m e top q, false⟩

/-- The value of an LQ3 code (R448), in sixteenths. -/
def lq3Mag (v : Nat) : Nat := match v % 4 with | 0 => 0 | 1 => 1 | 2 => 4 | _ => 16

/-- Conversion to LQ3 (R449). (DEDUCED, log 16.) -/
def encodeLq3 : Num → Converted
  | .nan _ => ⟨0, false, true⟩
  | .inf neg => ⟨if neg then 7 else 3, true, false⟩
  | .fin neg m e =>
    let atLeast := fun (q : Int) => !aboveNum 1 q m e
    let c := if atLeast (-1) then 3 else if atLeast (-3) then 2 else if atLeast (-5) then 1 else 0
    ⟨if c = 0 then 0 else if neg then 4 + c else c, aboveNum m e 1 0, false⟩

/-- Conversion to S1 (R447): 1 where the sign is clear. (DEDUCED, log 16.) -/
def encodeS1 : Num → Converted
  | .nan neg => ⟨b2n !neg, false, false⟩
  | .inf neg => ⟨b2n !neg, false, false⟩
  | .fin neg _ _ => ⟨b2n !neg, false, false⟩

/-! ## Elements of any format -/

/-- The value of an element code; an MX INT8 element counts in 2^−6 (OCP MXINT8). -/
def elemNum (fmt : Nat) (mx : Bool) (v : Nat) : Num :=
  match floatFmt fmt with
  | some f => f.decode v
  | none =>
    match fmt with
    | 0x08 => intNum (signedOf 8 v) (if mx then -6 else 0)
    | 0x09 => intNum (signedOf 4 v) 0
    | 0x0A => .fin (bitOf v 2) (lq3Mag v) (-4)
    | _ => .fin (v == 0) 1 0

/-- Conversion of a value to an element of a format. -/
def elemCode (fmt : Nat) (mx rz : Bool) (x : Num) : Converted :=
  match floatFmt fmt with
  | some f => f.encode rz x
  | none =>
    match fmt with
    | 0x08 => encodeInt 8 (if mx then -6 else 0) rz x
    | 0x09 => encodeInt 4 0 rz x
    | 0x0A => encodeLq3 x
    | _ => encodeS1 x

/-- The element codes of a packed string: `n` fields of `w` bits, least significant bit first (R445). -/
def unpackBits (w n : Nat) (b : List Byte) : List Nat :=
  (List.range n).map fun i => leNat (sub b (w * i / 8) ((w * i % 8 + w + 7) / 8)) / 2 ^ (w * i % 8) % 2 ^ w

/-- Pack element codes of `w` bits (R445). -/
def packBits (w : Nat) (codes : List Nat) : List Byte :=
  leBytes (ceilDiv (w * codes.length) 8) ((codes.zipIdx.map fun c => c.1 % 2 ^ w * 2 ^ (w * c.2)).sum)

/-! ## MX scales (R450) -/

/-- Scale a value by 2^k. -/
def Num.scale (k : Int) : Num → Num
  | .fin neg m e => .fin neg m (e + k)
  | x => x

/-- Apply a scale byte: 0xFF makes the value NaN. -/
def Num.mx (b : Byte) (x : Num) : Num := if b = 0xFF then .nan false else x.scale ((b.toNat : Int) - 127)

/-- Take a scale byte out of a value. -/
def Num.unmx (b : Byte) (x : Num) : Num := if b = 0xFF then .nan false else x.scale (127 - (b.toNat : Int))

/-- The exponent of the largest power of two in an element format (OCP Microscaling). (PRESUMED, log 15.) -/
def emaxOf (fmt : Nat) : Int :=
  match floatFmt fmt with
  | some f => let t := f.magnitude f.maxCode; topExp t.1 t.2
  | none => 0

/-- A value as plain numbers: 0 finite, 2 infinite, 4 NaN, plus 1 for the sign; its magnitude and exponent. -/
def Num.parts : Num → Nat × Nat × Int
  | .fin neg m e => (b2n neg, m, e)
  | .inf neg => (2 + b2n neg, 0, 0)
  | .nan neg => (4 + b2n neg, 0, 0)

/-- The scale byte of a block: the largest power of two not above its largest magnitude, over the element format's own
(OCP Microscaling); free for a block of zeros, or with a NaN or an infinity, on which that text states no scale.
(PRESUMED, log 15.) -/
def blockScale (fmt : Nat) (xs : List Num) : Byte :=
  let isFin : Num → Bool := fun x => match x with | .fin _ _ _ => true | _ => false
  let tops := xs.filterMap fun x => match x with | .fin _ m e => if m = 0 then none else some (topExp m e) | _ => none
  match tops with
  | [] => Config.mxScale (xs.map Num.parts)
  | t :: ts =>
    if xs.all isFin then BitVec.ofInt 8 (max 0 (min 254 (ts.foldl max t - emaxOf fmt + 127)))
    else Config.mxScale (xs.map Num.parts)

/-! ## FP32 arithmetic -/

/-- Binary32. -/
def fp32 : FloatFmt := ⟨8, 23, 127, 0⟩

/-- Round a value to FP32 to nearest, ties to even; past the range it is an infinity (R452). -/
def toFp32 : Num → W32
  | .nan _ => 0x7FC00000
  | .inf neg => if neg then 0xFF800000 else 0x7F800000
  | .fin neg m e => BitVec.ofNat 32 (fp32.signed neg (min (fp32.codeOf false m e) (fp32.maxCode + 1)))

/-- The value of an FP32 word. -/
def ofFp32 (w : W32) : Num := fp32.decode w.toNat

/-- An exact sum: a zero is +0 unless both are −0. -/
def Num.add : Num → Num → Num
  | .nan s, _ => .nan s
  | _, .nan s => .nan s
  | .inf s, .inf t => if s = t then .inf s else .nan false
  | .inf s, _ => .inf s
  | _, .inf s => .inf s
  | .fin s m e, .fin t n f =>
    let q := min e f
    let v := fun (neg : Bool) (a : Nat) => if neg then -(a : Int) else (a : Int)
    let r := v s (scaleUp m (e - q)) + v t (scaleUp n (f - q))
    if r = 0 then .fin (s && t && m == 0 && n == 0) 0 q else intNum r q

/-- An exact product. -/
def Num.mul : Num → Num → Num
  | .nan s, _ => .nan s
  | _, .nan s => .nan s
  | .inf s, .inf t => .inf (s != t)
  | .inf s, .fin t n _ => if n = 0 then .nan false else .inf (s != t)
  | .fin t n _, .inf s => if n = 0 then .nan false else .inf (s != t)
  | .fin s m e, .fin t n f => .fin (s != t) (m * n) (e + f)

/-- FP32 addition to nearest, ties to even. -/
def addFp32 (a b : W32) : W32 := toFp32 ((ofFp32 a).add (ofFp32 b))

/-! ## Rows and dot products -/

/-- Whether a format's products accumulate in FP32 (Table 13–2). -/
def accumFp (fmt : Nat) (mx : Bool) : Bool := decide (fmt ≤ 7) || mx

/-- A row: its element codes and its scale bytes. (DESIGN CHOICE, log 6.) -/
structure Row where
  codes  : List Nat
  scales : List Byte
deriving DecidableEq, Repr

/-- A row of `n` elements from its element bytes and its scale bytes (R455, R461). -/
def rowOf (fmt n : Nat) (mx : Bool) (elems scales : List Byte) : Row :=
  { codes := unpackBits (fmtBits fmt) n elems, scales := if mx then sub scales 0 (n / 32) else [] }

/-- The dot product of two rows as an FP32: groups of 32, each exact and rounded once, added in order (R451). -/
def dotFp (fmt : Nat) (mx : Bool) (a b : Row) : W32 :=
  let prods := (a.codes.zip b.codes).map fun x => (elemNum fmt mx x.1).mul (elemNum fmt mx x.2)
  (chunks 32 (prods.length + 1) prods).zipIdx.foldl (fun acc g =>
    let s := g.1.foldl Num.add (.fin false 0 0)
    let s1 := if mx then (s.mx (a.scales.getD g.2 0xFF)).mx (b.scales.getD g.2 0xFF) else s
    addFp32 acc (toFp32 s1)) 0

/-- The whole-number factor of an element in an integer dot product: its value, or for LQ3 its sixteenths. -/
def elemInt (fmt v : Nat) : Int :=
  match fmt with
  | 0x08 => signedOf 8 v
  | 0x09 => signedOf 4 v
  | _ => if bitOf v 2 then -(lq3Mag v : Int) else lq3Mag v

/-- The dot product of two rows as an INT32: exact; for S1 the positions that agree (R446, R448, R452). -/
def dotInt (fmt : Nat) (a b : Row) : W32 :=
  if fmt = 0x0B then BitVec.ofNat 32 ((a.codes.zip b.codes).filter fun x => x.1 == x.2).length
  else BitVec.ofInt 32 ((a.codes.zip b.codes).map fun x => elemInt fmt x.1 * elemInt fmt x.2).sum

/-- The score of two rows. -/
def score (fmt : Nat) (mx : Bool) (a b : Row) : W32 := if accumFp fmt mx then dotFp fmt mx a b else dotInt fmt a b

/-- Add a score to an accumulator entry; the flag says that an INT32 sum saturated (R452). -/
def addScore (fp : Bool) (old x : W32) : W32 × Bool :=
  if fp then (addFp32 old x, false)
  else
    let r := old.toInt + x.toInt
    if r < -(2 ^ 31) then (0x80000000, true) else if 2 ^ 31 - 1 < r then (0x7FFFFFFF, true) else (BitVec.ofInt 32 r, false)

/-! ## CONVERT (R428) -/

/-- The values of `n` source elements, with their scales where the source is MX. -/
def sourceNums (fmt n : Nat) (mx : Bool) (elems scales : List Byte) : List Num :=
  (unpackBits (fmtBits fmt) n elems).zipIdx.map fun c =>
    let x := elemNum fmt mx c.1
    if mx then x.mx (scales.getD (c.2 / 32) 0xFF) else x

/-- Convert values to a format: element bytes, scale bytes, how many saturated, how many NaN were replaced.
(DEDUCED, log 16.) -/
def convertNums (fmt : Nat) (mx rz : Bool) (xs : List Num) : List Byte × List Byte × Nat × Nat :=
  let scales := if mx then (chunks 32 (xs.length + 1) xs).map (blockScale fmt) else []
  let out := xs.zipIdx.map fun x => elemCode fmt mx rz (if mx then x.1.unmx (scales.getD (x.2 / 32) 0xFF) else x.1)
  (packBits (fmtBits fmt) (out.map (·.code)), scales, (out.filter (·.sat)).length, (out.filter (·.nan)).length)

/-! ## Top-k lists (R465 to R468) -/

/-- Whether score `a` is above score `b`: as FP32 values with −0 equal to +0, or as INT32. -/
def scoreAbove (fp : Bool) (a b : W32) : Bool :=
  if !fp then b.slt a else
  match ofFp32 a, ofFp32 b with
  | .inf s, .inf t => t && !s
  | .inf s, _ => !s
  | _, .inf t => t
  | .fin s m e, .fin t n f =>
    if s = t then (if s then aboveNum n f m e else aboveNum m e n f) else t && !(m == 0 && n == 0)
  | _, _ => false

/-- Whether an FP32 score is NaN. -/
def scoreNan (fp : Bool) (a : W32) : Bool := fp && match ofFp32 a with | .nan _ => true | _ => false

/-- The order of a list (R466): score falling, then key ID rising. -/
def Entry.before (fp : Bool) (a b : Entry) : Bool :=
  scoreAbove fp a.score b.score || (!scoreAbove fp b.score a.score && decide (a.key.toNat < b.key.toNat))

/-- Enter a candidate into a query's row, keeping at most k. -/
def enterRow (fp : Bool) (k : Nat) (row : List Entry) (e : Entry) : List Entry := (insertBy (Entry.before fp) e row).take k

/-- The entry that pads a drained list (R468). -/
def padEntry (fp : Bool) : Entry := { score := if fp then 0xFF800000 else 0x80000000, key := 0xFFFFFFFF }

/-- A drained list's bytes (R468). -/
def TopK.drain (t : TopK) : List Byte :=
  (List.range t.q).flatMap fun i =>
    let row := t.rows.getD i []
    (row ++ List.replicate (t.k - row.length) (padEntry t.fp)).flatMap fun e => leBytes 4 e.score.toNat ++ leBytes 4 e.key.toNat

end Sys2Proof
end

