-- ==== Sys2Proof/Machine/Sieve.lean ====
section
/-! DEFINITION. The sieve sequencer (chapter 14): instruction words and which instruction a word is, registers and system
registers, traps, resume points, and the choice of the context that an engine runs. -/

namespace Sys2Proof

/-- The instructions of Table 14–5, one for each op and func that has a meaning. -/
inductive SKind where
  | aluAdd | aluSub | aluAnd | aluOr | aluXor | aluShl | aluShr | aluSar | aluMul | aluMulhu | aluSltu | aluSlt
  | aluMinu | aluMaxu | aluPopcnt
  | addi | andi | ori | xori | shiShl | shiShr | shiSar | ldi
  | beq | bne | bltu | bgeu | blt | bge | jal | jr | sld | sst | mfsr | mtsr
  | yieldOp | window | trap | tret | halt | pld | pst
  | tcfg | trelTiles | trelAccumulators | tld | tst | tscoreTile | tscoreContiguous | tscoreIndexed | ast
  | topkSelect | topkMerge | topkDrain | topkClear | xmov | sadd | sset | sread | swait
deriving DecidableEq, Repr

/-! ## Fields of an instruction word (Table 14–4) -/

/-- A field of a word. -/
def wf (w : W32) (hi lo : Nat) : Nat := bits w.toNat hi lo
/-- op. -/
def fOp (w : W32) : Nat := wf w 31 26
/-- rd of the R and I formats, ra of the B format. -/
def fA (w : W32) : Nat := wf w 25 21
/-- ra of the R and I formats, rb of the B format. -/
def fB (w : W32) : Nat := wf w 20 16
/-- rb of the R format. -/
def fC (w : W32) : Nat := wf w 15 11
/-- func of the R format. -/
def fFunc (w : W32) : Nat := wf w 10 0
/-- imm16. -/
def fImm (w : W32) : Nat := wf w 15 0
/-- imm16 sign-extended to 64 bits. -/
def fSimm (w : W32) : W64 := (BitVec.ofNat 16 (fImm w)).signExtend 64
/-- ta of the T format. -/
def fTa (w : W32) : Nat := wf w 25 22
/-- The span's count, tn + 1. -/
def fTn (w : W32) : Nat := wf w 21 18 + 1
/-- ra of the T format. -/
def fTr (w : W32) : Nat := wf w 17 13
/-- func of the T format. -/
def fTf (w : W32) : Nat := wf w 7 0

/-- The instruction that a word is; none where its op or func is unassigned (R490). (DEDUCED, log 54 and 55.) -/
def kindOf (w : W32) : Option SKind :=
  match fOp w with
  | 0x01 =>
    match fFunc w with
    | 0 => some .aluAdd | 1 => some .aluSub | 2 => some .aluAnd | 3 => some .aluOr | 4 => some .aluXor
    | 5 => some .aluShl | 6 => some .aluShr | 7 => some .aluSar | 8 => some .aluMul | 9 => some .aluMulhu
    | 10 => some .aluSltu | 11 => some .aluSlt | 12 => some .aluMinu | 13 => some .aluMaxu | 14 => some .aluPopcnt
    | _ => none
  | 0x02 => some .addi | 0x03 => some .andi | 0x04 => some .ori | 0x05 => some .xori
  | 0x06 => match wf w 7 6 with | 0 => some .shiShl | 1 => some .shiShr | 2 => some .shiSar | _ => none
  | 0x07 => some .ldi
  | 0x10 => some .beq | 0x11 => some .bne | 0x12 => some .bltu | 0x13 => some .bgeu | 0x14 => some .blt | 0x15 => some .bge
  | 0x16 => some .jal | 0x17 => some .jr | 0x18 => some .sld | 0x19 => some .sst | 0x1A => some .mfsr | 0x1B => some .mtsr
  | 0x1C => some .yieldOp | 0x1D => some .window | 0x1E => some .trap | 0x1F => some .tret | 0x20 => some .halt
  | 0x21 => some .pld | 0x22 => some .pst
  | 0x28 => some .tcfg
  | 0x29 => if bitOf (fTf w) 0 then some .trelAccumulators else some .trelTiles
  | 0x2A => some .tld | 0x2B => some .tst
  | 0x2C => match fTf w % 4 with | 0 => some .tscoreTile | 1 => some .tscoreContiguous | 2 => some .tscoreIndexed | _ => none
  | 0x2D => some .ast
  | 0x2E => match fTf w % 4 with | 0 => some .topkSelect | 1 => some .topkMerge | 2 => some .topkDrain | _ => some .topkClear
  | 0x2F => some .xmov
  | 0x30 => some .sadd | 0x31 => some .sset | 0x32 => some .sread | 0x33 => some .swait
  | _ => none

/-! ## Trap causes (Table 14–7) -/

/-- ILLEGAL. -/
def causeIllegal : Nat := 1
/-- FORMAT. -/
def causeFormat : Nat := 2
/-- SHAPE. -/
def causeShape : Nat := 3
/-- DENIED. -/
def causeDenied : Nat := 4
/-- RANGE. -/
def causeRange : Nat := 5
/-- HELD. -/
def causeHeld : Nat := 6
/-- WINDOW_NEST. -/
def causeWindowNest : Nat := 7
/-- SCRATCH. -/
def causeScratch : Nat := 8
/-- BREAK. -/
def causeBreak : Nat := 9
/-- TIMER. -/
def causeTimer : Nat := 0xC
/-- XMOV_IN. -/
def causeXmovIn : Nat := 0xD

/-! ## Registers -/

/-- s`n` (R484). -/
def Ctx.reg (c : Ctx) (n : Nat) : W64 := if n = 0 then 0 else c.regs.get n 0
/-- Write s`n`; s0 ignores it (R484). -/
def Ctx.setReg (c : Ctx) (n : Nat) (v : W64) : Ctx := if n = 0 then c else { c with regs := c.regs.set n v 0 }
/-- The word at a region address; addresses wrap at 64 KiB (R483). -/
def Ctx.fetch (c : Ctx) (pc : BitVec 16) : W32 :=
  BitVec.ofNat 32 (leNat ((List.range 4).map fun i => c.region.get ((pc.toNat + i) % 65536) 0))
/-- The address after an instruction (R483). -/
def Ctx.next (c : Ctx) : BitVec 16 := c.pc + 4

/-- STATUS (Table 14–3). -/
def Ctx.status (c : Ctx) : W64 :=
  BitVec.ofNat 64 (b2n c.ie + 2 * b2n c.xe + 4 * b2n c.te + 8 * b2n c.tm + 16 * (c.depth % 16) + 256 * (c.win % 512))
/-- STATUS as a trap return sets it: WIN becomes 0 (R512, R516). -/
def Ctx.setStatus (c : Ctx) (v : W64) : Ctx :=
  { c with ie := v.getLsbD 0, xe := v.getLsbD 1, te := v.getLsbD 2, tm := v.getLsbD 3, depth := bits v.toNat 7 4, win := 0 }
/-- What TPROG shows: the pending long instruction at this depth, or the one that the trap interrupted (R497). -/
def Ctx.tprog (c : Ctx) : W64 :=
  let show_ := fun (l : LongOp) => BitVec.ofNat 64 (l.done % 2 ^ 32 + if l.wait.isSome then 0 else 2 ^ 32)
  match c.long with
  | some l => show_ l
  | none => match c.saved.head? with | some (some l) => show_ l | _ => 0
/-- A 64-bit word of scratch; `free` stands for what lies outside it, which only a push or pop can name (R492). -/
def Ctx.scratch64 (c : Ctx) (free : W64) (off : Nat) : W64 :=
  if off + 8 ≤ 4096 then BitVec.ofNat 64 (leNat (FMap.getRun c.scratch 0 off 8)) else free
/-- Store a 64-bit word in scratch. -/
def Ctx.setScratch64 (c : Ctx) (off : Nat) (v : W64) : Ctx :=
  if off + 8 ≤ 4096 then { c with scratch := FMap.setRun 0 c.scratch off (leBytes 8 v.toNat) } else c

/-! ## Traps (R509 to R517) -/

/-- Trap entry: the context in its handler, or the START result of a double trap or stack fault (R482, R511, R515).
`ret` is the return address and `pend` the long instruction or SWAIT interrupted. (DEDUCED, log 57.) -/
def Ctx.enterTrap (c : Ctx) (cause info : Nat) (ret : BitVec 16) (pend : Option LongOp) : Sum Ctx W64 :=
  let stop : W64 := BitVec.ofNat 64
    ((if c.depth = 0 then cause + 65536 * ret.toNat else c.tcause + 16 * cause + 65536 * ret.toNat))
  let info40 := info % 2 ^ 40
  if !c.tm then
    if 1 ≤ c.depth then .inr stop
    else .inl { c with tra := (ret &&& 0xFFFC).zeroExtend 64, tstat := c.status, tcause := cause, tinfo := BitVec.ofNat 64 info40
                       ie := false, depth := 1, win := 0, pc := c.trapEntry.truncate 16 &&& 0xFFFC
                       long := none, saved := pend :: c.saved }
  else if 8 ≤ c.depth || decide (c.tsp.toNat < 64) then .inr stop
  else
    let sp := c.tsp.toNat - 64
    let words : List W64 :=
      [ret.zeroExtend 64, c.status, BitVec.ofNat 64 (cause + 2 ^ 24 * info40), c.reg 1, c.reg 2, c.reg 3, c.reg 4,
       { c with long := pend }.tprog]
    let c1 := words.zipIdx.foldl (fun (u : Ctx) x => u.setScratch64 (sp + 8 * x.2) x.1) c
    .inl { c1 with tsp := BitVec.ofNat 64 sp, ie := false, depth := c.depth + 1, win := 0, tcause := cause
                   tinfo := BitVec.ofNat 64 info40, pc := BitVec.ofNat 16 (0x100 + 16 * cause)
                   long := none, saved := pend :: c.saved }

/-- Trap return (R512, R516, R517). A pending instruction continues only where the return address is its own; `free`
stands for scratch outside the 4 KiB. The flag says that a pending SWAIT is given up. (DEDUCED, log 57.) -/
def Ctx.leaveTrap (c : Ctx) (free : W64) : Ctx × Option Nat :=
  let pend := (c.saved.head?).join
  let c1 : Ctx :=
    if !c.tm then { c.setStatus c.tstat with pc := c.tra.truncate 16 }
    else
      let sp := c.tsp.toNat
      let w := fun (i : Nat) => c.scratch64 free (sp + 8 * i)
      let u := (((c.setReg 1 (w 3)).setReg 2 (w 4)).setReg 3 (w 5)).setReg 4 (w 6)
      { u.setStatus (w 1) with pc := (w 0).truncate 16, tsp := BitVec.ofNat 64 ((sp + 64) % 8192) }
  let c2 := { c1 with saved := c.saved.drop 1, long := none }
  match pend with
  | none => (c2, none)
  | some l => if l.pc = c2.pc then ({ c2 with long := some l }, none) else (c2, l.wait)

/-- The interrupt that is due at a resume point, with its cause and TINFO (R500): TIMER before XMOV_IN. -/
def Ctx.dueInterrupt (c : Ctx) : Option (Nat × Nat) :=
  if !c.ie || c.win != 0 || (!c.tm && c.depth != 0) then none
  else if c.te && c.timerPend then some (causeTimer, 0)
  else if c.xe && c.xmovPend then some (causeXmovIn, c.xmovInfo.toNat)
  else none

/-- The context with the event of a cause taken: its TPEND bit clears (R500). -/
def Ctx.takePend (c : Ctx) (cause : Nat) : Ctx :=
  if cause = causeTimer then { c with timerPend := false } else { c with xmovPend := false }

/-- A context that is no longer masked has not held a mask since its quantum expired (R507). (DEDUCED, log 63.) -/
def Ctx.unmask (c : Ctx) : Ctx := if c.ie && c.win == 0 then { c with overrun := false } else c

/-- A tile register. -/
def Ctx.tile (c : Ctx) (n : Nat) : Option Tile := c.tiles.get n none
/-- An accumulator. -/
def Ctx.acc (c : Ctx) (n : Nat) : Option Accum := c.accs.get n none
/-- Replace a tile; a query residency that includes it ends (R463). -/
def Ctx.setTile (c : Ctx) (n : Nat) (t : Option Tile) : Ctx :=
  { c with tiles := c.tiles.set n t none
           resident := match c.resident with
             | some (a, k) => if a ≤ n ∧ n < a + k then none else some (a, k)
             | none => none }
/-- Replace an accumulator. -/
def Ctx.setAcc (c : Ctx) (n : Nat) (a : Option Accum) : Ctx := { c with accs := c.accs.set n a none }

/-- Whether a context may be given its engine. -/
def Ctx.mayRun (c : Ctx) : Bool := c.phase == .ready && !c.halted

/-- Whether an instruction issues memory operations. -/
def SKind.usesPool : SKind → Bool
  | .pld => true | .pst => true | .tld => true | .tst => true | .tscoreContiguous => true | .tscoreIndexed => true
  | .ast => true | .topkMerge => true | .topkDrain => true | _ => false

/-- The engine of a context key. -/
def keyEngine (key : Nat) : Nat := key / 8

/-- The context without a program: what START leaves in place stays, and its waits are another's care. -/
def Ctx.ended (c : Ctx) : Ctx :=
  { c with phase := .idle, start := none, long := none, saved := [], win := 0, pauseReq := false, stopReq := none
           preemptReq := false, overrun := false, haltReq := false, stepReq := false }

end Sys2Proof

namespace Sys2Proof.Machine

/-! ## Which context an engine runs -/

/-- Free the wait records that context `key` owns (R481, R508). -/
def State.freeCtxWaits (s : State) (key : Nat) : State := s.setWaits (s.sync.waits.filter fun w => w.owner != .context key)

/-- End a context's program: its START ends with a status and a result (R482). -/
def State.endStart (s : State) (key : Nat) (st : Status) (result : W64) : State :=
  let c := s.ctx key
  let s1 := (s.freeCtxWaits key).setCtx key c.ended
  match c.start with
  | none => s1
  | some (q, i) => s1.endRun q i st (BitVec.ofNat 64 c.counted) result

/-- Whether an engine runs a context. -/
def State.engineRuns (s : State) (e : Nat) : Bool := (List.range 8).any fun n => (s.ctx (e * 8 + n)).phase == .running

/-- A trap of a context that runs: its handler, or the end of its START. (DEDUCED, log 57.) -/
def State.trapCtx (s : State) (key : Nat) (c : Ctx) (cause info : Nat) (ret : BitVec 16) (pend : Option LongOp) : State :=
  match c.enterTrap cause info ret pend with
  | .inl u => s.setCtx key u
  | .inr result => (s.setCtx key c).endStart key .aborted result

/-- Give engine `e` to a ready context of the tenant that has had the least of the class's time (R419), the next after context
`last` in cyclic order; an interrupt that is due is taken
at once. `fuel` bounds the contexts that a stack fault ends. (DEDUCED, log 53.) -/
def State.elect (s : State) (e last : Nat) : Nat → State
  | 0 => s
  | fuel + 1 =>
    if s.engineRuns e || s.dbg.engHalt.contains (engineCode 1 e) then s else
    let ready := ((List.range 8).map fun i => (last + 1 + i) % 8).filter fun n => (s.ctx (e * 8 + n)).mayRun
    let had := fun (n : Nat) => s.vtime 1 (s.ctx (e * 8 + n)).tenant
    match ready.find? fun n => ready.all fun m => decide (had n ≤ had m) with
    | none => s
    | some n =>
      let key := e * 8 + n
      let c := { s.ctx key with phase := .running }
      let s1 := s.beginQuantum 1 e
      match c.dueInterrupt with
      | none => s1.setCtx key c
      | some (cause, info) => (s1.trapCtx key (c.takePend cause) cause info c.pc c.long).elect e n fuel

/-- Elect on the engine of context `key`, after that context. -/
def State.reelect (s : State) (key : Nat) : State := s.elect (keyEngine key) (key % 8) 9

/-- A context's halt is taken: it gives up its engine, and the debug command that waits for it ends (R707, R708). -/
def State.takeHalt (s : State) (key : Nat) : State :=
  let c := s.ctx key
  let s1 := s.setCtx key { c with haltReq := false, halted := true, phase := if c.phase = .running then .ready else c.phase }
  { s1 with dbg.busy := false, dbg.status := .ok }

/-- What is pending at a resume point of context `key` is taken: a stop, a pause, a halt, a preemption, an interrupt
(R498, R500 to R503). Inside a window nothing is. (DEDUCED, log 53.) -/
def State.boundary (s : State) (key : Nat) : State :=
  let c := s.ctx key
  if c.phase = .idle ∨ c.phase = .paused ∨ c.win ≠ 0 then s else
  match c.stopReq with
  | some st => (s.endStart key st 0).reelect key
  | none =>
    if c.pauseReq then (s.setCtx key { c with pauseReq := false, phase := .paused, overrun := false }).reelect key
    else if c.haltReq then (s.takeHalt key).reelect key
    else if c.preemptReq && c.ie && c.phase == .running then
      let s1 := s.setCtx key { c with preemptReq := false, overrun := false, phase := .ready }
      let s2 := match c.start with
        | none => s1
        | some (q, i) => s1.updRun q i fun r => { r with preempted := true }
      s2.reelect key
    else if c.halted then s
    else if c.phase = .running ∨ c.phase = .blocked then
      match c.dueInterrupt with
      | none => s
      | some (cause, info) =>
        let phase : CtxPhase := if c.phase = .blocked then .ready else .running
        (s.trapCtx key { c.takePend cause with phase := phase } cause info c.pc c.long).reelect key
    else s

/-- The resume point after an instruction or a unit: a debugger's step has come to its end (R708). (DEDUCED, log 53.) -/
def State.resumed (s : State) (key : Nat) : State :=
  let c := s.ctx key
  (if c.stepReq then s.setCtx key { c with stepReq := false, haltReq := true } else s).boundary key

/-! ## Executing -/

/-- What an instruction does: it retires to an address, faults, commits a unit, blocks in SWAIT, ends the program, gives
up the quantum, or waits for back-pressure. -/
inductive Act where
  | retire (s : State) (c : Ctx) (next : BitVec 16)
  | trap (s : State) (c : Ctx) (cause info : Nat) (pend : Option LongOp)
  | unit (s : State) (c : Ctx)
  | block (s : State) (c : Ctx)
  | halt (s : State) (c : Ctx) (st : Status) (result : W64)
  | offer (s : State) (c : Ctx) (next : BitVec 16)
  | stay
deriving Repr

/-- One more instruction retired: RETIRED wraps at 48 bits (R485, R662), the window counts down (R503). (DEDUCED, log 56.) -/
def State.retireCtx (s : State) (key : Nat) (c : Ctx) (next : BitVec 16) : State :=
  let r := bumpPerf c.retired c.wraps 1
  let c1 := { c with pc := next, retired := r.1, wraps := r.2.1, counted := c.counted + 1 }
  let s1 := s.setCtx key (Ctx.unmask c1)
  if r.2.2 then s1.counterWrap 16 else s1

/-- Whether other work wants context `key`'s engine (R420, R506): another ready context of it, or a command of the class on it
that is owed time. (DESIGN CHOICE, log 103.) -/
def State.sieveOwed (s : State) (key : Nat) : Bool :=
  ((List.range 8).any fun n => decide (n ≠ key % 8) && (s.ctx (keyEngine key * 8 + n)).mayRun) ||
  (s.readyQueues 1).any fun x => decide (s.vtime 1 x.2.1.tenant ≤ s.vtime 1 (s.ctx key).tenant) &&
    decide (cmdCtx x.2.2 / 8 = keyEngine key) && cmdOp x.2.2 != 0


/-- Apply what an instruction does to context `key`. -/
def State.act (s : State) (key : Nat) : Act → State
  | .retire u c next => (u.retireCtx key { c with win := c.win - 1 } next).resumed key
  | .trap u c cause info pend => ((u.trapCtx key c cause info c.pc pend).reelect key).resumed key
  | .unit u c => (u.setCtx key c).resumed key
  | .block u c => ((u.setCtx key { c with phase := .blocked, overrun := false }).resumed key).reelect key
  | .halt u c st result =>
    let u1 := u.retireCtx key { c with win := 0 } (c.pc + 4)
    (u1.endStart key st result).reelect key
  | .offer u c next =>
    let owed := c.win == 0 && u.sieveOwed key
    let u1 := u.retireCtx key { c with win := c.win - 1 } next
    if owed then ((u1.setCtx key { u1.ctx key with phase := .ready, preemptReq := false }).resumed key).reelect key
    else u1.resumed key
  | .stay => s

/-- Whether context `key` executes now: it runs on its engine, and no debug halt holds either. -/
def State.executes (s : State) (key : Nat) : Bool :=
  let c := s.ctx key
  s.isReady && c.phase == .running && !c.halted && !s.dbg.engHalt.contains (engineCode 1 (keyEngine key))

/-- Execute the instruction at the PC of context `key` where it is of a kind. One that issues memory operations waits where its
tenant's engines stall (Table 8–4). (DEDUCED, log 54.) -/
def State.instr (s : State) (key : Nat) (k : SKind) (f : State → Ctx → W32 → Act) : State :=
  let c := s.ctx key
  let w := c.fetch c.pc
  let c1 := if optAny c.long (·.pc != c.pc) then { c with long := none } else c
  if s.executes key && kindOf w == some k && !(k.usesPool && s.stalls c.tenant) then s.act key (f s c1 w) else s

/-- Run the units of a long instruction to its end (R496); `fuel` bounds the units. -/
def runLong (f : State → Ctx → W32 → Act) : Nat → State → Ctx → W32 → Act
  | 0, s, c, _ => .unit s c
  | fuel + 1, s, c, w =>
    match f s c w with
    | .unit u d => runLong f fuel u d w
    | x => x

/-- More units than any long instruction has. -/
def unitBound : Nat := 2 ^ 40

/-- Execute a long instruction from where it stands to its end. -/
def State.longInstr (s : State) (key : Nat) (k : SKind) (f : State → Ctx → W32 → Act) : State :=
  s.instr key k (runLong f unitBound)

end Sys2Proof.Machine
end

