-- ==== Sys2Proof/Machine/Copy.lean ====
section
/-! DEFINITION. The rows of the engine queues, and the copy engines (chapter 12): each copy command works unit by unit, a
unit ending at a resume point (R421, R422). -/

namespace Sys2Proof

/-- What a unit leaves of its command: units done, whether poison was met, and the result word. -/
def RunCmd.step (c : RunCmd) (done : Nat) (bad : Bool) (result : W64) : RunCmd :=
  { c with phase := .running, progress := BitVec.ofNat 64 done, result := result
           status := if bad && c.status == .ok then .poisoned else c.status }

/-- Whether a command has met poison in its source: COPY, CONVERT and GATHER keep that beside their progress word. -/
def RunCmd.met (c : RunCmd) : Bool := !c.acc.isEmpty

/-- Note the first poisoned line of a unit's source, at offset `o`: the result word keeps the command's first, the lower
one where the command works from its end (R433). -/
def RunCmd.note (c : RunCmd) (back : Bool) (o : Option Nat) : RunCmd :=
  match o with
  | none => c
  | some x => if !c.met || back then { c with acc := [1], result := BitVec.ofNat 64 x } else c

end Sys2Proof

namespace Sys2Proof.Machine

/-! ## Queues -/

/-- COMMAND_DISPATCH (R408, R410, R418, R419): an output of the benches, which the gates hold in a dispute. (DESIGN CHOICE, log 103.) -/
def execCommandDispatch (q : BitVec 16) (found : List Damage) (s : State) : Res :=
  .next (s.deliver (.commandDispatch q found) fun u => ((u.withFound found).dispatch q.toNat).settle)

/-- COMMAND_COMPLETE (R411, R412, R415 to R417): an ended command's record, ADD and QUEUE_DONE. (DEDUCED, log 47.) -/
def execCommandComplete (q : BitVec 16) (index : BitVec 32) (s : State) : Res :=
  match s.runOf q.toNat index with
  | none => .next s
  | some c =>
    if c.phase = .ended then .next (s.deliver (.commandComplete q index) fun u => (u.complete q.toNat index).settle) else .next s

/-- Whether a command of a class is owed time against a running one of tenant `t`: one waits whose tenant has had no more than
it (R419), and no engine is free (R420). (DESIGN CHOICE, log 103.) -/
def State.owed (s : State) (cls t : Nat) : Bool :=
  ((s.readyQueues cls).any fun x => decide (s.vtime cls x.2.1.tenant ≤ s.vtime cls t)) &&
  !(List.range (s.power.part.engines cls)).any fun n => s.engineFree cls n

/-- QUANTUM_EXPIRY (R420, R507): the command stops at its next resume point where other work is owed, and a new quantum begins
on its engine (Table 5–10). A context that
masks when its quantum expires may be killed 1 ms later (R501, R507). (DEDUCED, log 63; DESIGN CHOICE, log 103.) -/
def execQuantumExpiry (q : BitVec 16) (index : BitVec 32) (s : State) : Res :=
  match s.range q.toNat, s.runOf q.toNat index with
  | some r, some c =>
    if r.cls = clsSieve then
      let key := cmdCtx c.bytes
      let x := s.ctx key
      if x.phase = .running ∧ x.start = some (q.toNat, index) then
        let owed := s.sieveOwed key
        .next (s.deliver (.quantumExpiry q index) fun u => ((u.beginQuantum 1 c.engine).setCtx key { x with overrun := !x.ie || x.win != 0, preemptReq := x.preemptReq || owed }).boundary key)
      else .next s
    else if c.phase = .running ∨ c.phase = .dispatched then
      .next (s.deliver (.quantumExpiry q index) fun u =>
        (u.beginQuantum r.cls c.engine).updRun q.toNat index fun x => { x with preemptReq := x.preemptReq || u.owed r.cls r.tenant })
    else .next s
  | _, _ => .next s

/-! ## Writing what a copy reads -/

/-- Write bytes, each destination line of a byte that came of a poisoned line being poisoned whole (R339, R433). The flag
says that a line refused a partial write. (DEDUCED, log 49.) -/
def State.writeMasked (s : State) (d off : Nat) (data : List Byte) (mask : List Bool) : State × Bool :=
  (pieces off data.length).foldl (fun (acc : State × Bool) p =>
    let i := p.1 * 64 + p.2.1 - off
    if ((mask.drop i).take p.2.2).any id then (acc.1.writePoison d p.1, acc.2)
    else
      let r := acc.1.writeLine d p.1 p.2.1 (sub data i p.2.2)
      (r.1, acc.2 || r.2)) (s, false)

/-- Record a unit, and end the command after its last. -/
def State.advance (s : State) (q : Nat) (i : W32) (c : RunCmd) (done total : Nat) (bad : Bool) (result : W64) : State :=
  let c1 := c.step done bad result
  let s1 := s.updRun q i fun _ => c1
  if total ≤ done then s1.endRun q i c1.status c1.progress c1.result else s1

/-! ## The units -/

/-- COPY within the node (R426): 4 KiB of destination, from the end where the ranges overlap upward. (DEDUCED, log 48.) -/
def State.copyUnit (s : State) (q : Nat) (i : W32) (c : RunCmd) : Option State :=
  let b := c.bytes
  let n := lengthAt b 40
  let p := c.progress.toNat
  let sd := poolDrawer b 16
  let so := poolOffset b 16
  let dd := poolDrawer b 24
  let d0 := poolOffset b 24
  if n ≤ p then some (s.endRun q i c.status c.progress c.result) else
  let back := sd == dd && decide (so < d0) && decide (d0 < so + n)
  let e := n - p
  let am : Nat × Nat :=
    if back then
      let m := min e (if (d0 + e) % 4096 = 0 then 4096 else (d0 + e) % 4096)
      (e - m, m)
    else (p, min e (4096 - (d0 + p) % 4096))
  match s.claimRange dd (d0 + am.1) am.2 with
  | none => none
  | some u =>
    let r := u.readRange sd (so + am.1) am.2
    let x := r.1.writeMasked dd (d0 + am.1) r.2.data r.2.mask
    let c1 := c.note back r.2.bad
    some (x.1.advance q i c1 (p + am.2) n (r.2.bad.isSome || x.2) c1.result)

/-- A remote COPY (R433 to R436): one outbound WRITE, whose WORD is 0 (R715); with the last issued, the command waits for the
responses. None where the outbound queue has no room for it (Table 8–4).
(DEDUCED, log 50.) -/
def State.remoteUnit (s : State) (q : Nat) (i : W32) (c : RunCmd) : Option State :=
  let b := c.bytes
  let n := lengthAt b 40
  if c.failed.isSome || n ≤ c.sent then
    if s.hasOutbound q i then some (s.updRun q i fun x => { x with phase := .waiting })
    else some (s.endRun q i (match c.failed with | some f => f | none => c.status) c.progress c.result)
  else
    let d0 := poolOffset b 24
    let m := min (n - c.sent) (4096 - (d0 + c.sent) % 4096)
    if !s.outRoom m then none else
    let r := s.readRange (poolDrawer b 16) (poolOffset b 16 + c.sent) m
    let c0 := c.note false r.2.bad
    let c1 : RunCmd := { c0.step c.progress.toNat r.2.bad.isSome c0.result with
      sent := c.sent + m, phase := if n ≤ c.sent + m then .waiting else .running }
    some ((r.1.updRun q i fun _ => c1).issue (.command q i) 0x02 (copyEndpoint b) (poolDrawer b 24) (d0 + c.sent)
      0 r.2.data c.sent)

/-- FILL or ZERO of 4 KiB: byte k of the range is byte k mod 8 of the pattern (R427). A poisoned line that the range covers
in part refuses, and the command ends POISONED. (DEDUCED, log 48.) -/
def State.fillUnit (pattern : List Byte) (s : State) (q : Nat) (i : W32) (c : RunCmd) : Option State :=
  let b := c.bytes
  let n := lengthAt b 40
  let p := c.progress.toNat
  let o := poolOffset b 16
  if n ≤ p then some (s.endRun q i c.status c.progress 0) else
  let m := min (n - p) (4096 - (o + p) % 4096)
  match s.claimRange (poolDrawer b 16) (o + p) m with
  | none => none
  | some u =>
    let x := u.writeRange (poolDrawer b 16) (o + p) ((List.range m).map fun k => pattern.getD ((p + k) % 8) 0)
    some (x.1.advance q i c (p + m) n x.2.isSome 0)

/-- Elements of a CONVERT between its resume points: at most 4 KiB of destination (16 KiB for the 1-bit format's source),
in whole lines and whole MX blocks. (DEDUCED, log 51.) -/
def convertChunk (fmt : Nat) : Nat :=
  match fmtBits fmt with
  | 32 => 1024 | 16 => 2048 | 8 => 4096 | 6 => 4096 | 4 => 8192 | 3 => 10240 | _ => 32768

/-- CONVERT (R428, R433): a run of elements, or all that is left where the destination is not line-aligned.
(DEDUCED, log 51.) -/
def State.convertUnit (s : State) (q : Nat) (i : W32) (c : RunCmd) : Option State :=
  let b := c.bytes
  let n := lengthAt b 40
  let p := c.progress.toNat
  if n ≤ p then some (s.endRun q i c.status c.progress c.result) else
  let sf := convSrc b
  let df := convDst b
  let aligned := poolOffset b 24 % 64 == 0 && (!convDstMx b || poolOffset b 56 % 64 == 0)
  let m := if aligned then min (n - p) (convertChunk df) else n - p
  let dn := elemBytes df m
  let d0 := poolOffset b 24 + fmtBits df * p / 8
  let sn := if convDstMx b then m / 32 else 0
  match (s.claimRange (poolDrawer b 24) d0 dn).bind fun u =>
      if sn = 0 then some u else u.claimRange (poolDrawer b 56) (poolOffset b 56 + p / 32) sn with
  | none => none
  | some u =>
    let r := u.readRange (poolDrawer b 16) (poolOffset b 16 + fmtBits sf * p / 8) (elemBytes sf m)
    let sc := if convSrcMx b then r.1.readRange (poolDrawer b 48) (poolOffset b 48 + p / 32) (m / 32)
      else (r.1, { data := [], bad := none, mask := [] })
    let xs := sourceNums sf m (convSrcMx b) r.2.data sc.2.data
    let out := convertNums df (convDstMx b) (convRz b) xs
    -- an element is of a poisoned line where its bytes or its scale byte are
    let badElem := fun (k : Nat) =>
      ((r.2.mask.drop (fmtBits sf * k / 8)).take (ceilDiv (fmtBits sf * (k + 1)) 8 - fmtBits sf * k / 8)).any id ||
      sc.2.mask.getD (k / 32) false
    let bads := (List.range m).map badElem
    let maskOf := (List.range dn).map fun j =>
      ((bads.drop (8 * j / fmtBits df)).take (ceilDiv (8 * (j + 1)) (fmtBits df) - 8 * j / fmtBits df)).any id
    let x := sc.1.writeMasked (poolDrawer b 24) d0 out.1 maskOf
    let y := if sn = 0 then x else
      x.1.writeMasked (poolDrawer b 56) (poolOffset b 56 + p / 32) out.2.1
        ((List.range sn).map fun j => ((bads.drop (32 * j)).take 32).any id)
    let bad := match r.2.bad with | some o => some o | none => sc.2.bad
    let counts := c.result.toNat
    let sat := (min (2 ^ 32 - 1) (counts % 2 ^ 32 + out.2.2.1)) + 2 ^ 32 * min (2 ^ 32 - 1) (counts / 2 ^ 32 + out.2.2.2)
    let c1 := if c.met || bad.isSome then c.note false bad else { c with result := BitVec.ofNat 64 sat }
    some (y.1.advance q i c1 (p + m) n (bad.isSome || x.2 || y.2) c1.result)

/-- Read index `j` of a GATHER or SCATTER; none where its line is poisoned. (DEDUCED, log 49.) -/
def State.readIndex (s : State) (b : List Byte) (j : Nat) : State × Option Nat × Option Nat :=
  let r := s.readRange (poolDrawer b 32) (poolOffset b 32 + j * indexSize b) (indexSize b)
  (r.1, if r.2.bad.isSome then none else some (leNat r.2.data), r.2.bad)

/-- GATHER (R429, R430, R433): one element. An element whose index is of a poisoned line is poisoned. (DEDUCED, log 49.) -/
def State.gatherUnit (s : State) (q : Nat) (i : W32) (c : RunCmd) : Option State :=
  let b := c.bytes
  let n := lengthAt b 40
  let j := c.progress.toNat
  if n ≤ j then some (s.endRun q i c.status c.progress c.result) else
  let es := elemSize b
  let dst := poolOffset b 24 + j * es
  match s.claimRange (poolDrawer b 24) dst es with
  | none => none
  | some u =>
    match u.readIndex b j with
    | (u1, none, bad) =>
      let x := u1.writeMasked (poolDrawer b 24) dst (List.replicate es 0) (List.replicate es true)
      let c1 := c.note false bad
      some (x.1.advance q i c1 (j + 1) n true c1.result)
    | (u1, some ix, _) =>
      let o := poolOffset b 16 + ix * es
      if !u1.within (poolDrawer b 16, o, es) then some (u1.endRun q i .range c.progress (BitVec.ofNat 64 j))
      else
        let r := u1.readRange (poolDrawer b 16) o es
        let x := r.1.writeMasked (poolDrawer b 24) dst r.2.data r.2.mask
        let c1 := c.note false r.2.bad
        some (x.1.advance q i c1 (j + 1) n (r.2.bad.isSome || x.2) c1.result)

/-- SCATTER (R429, R430): one element. An element whose index is of a poisoned line is left out. (DEDUCED, log 49.) -/
def State.scatterUnit (s : State) (q : Nat) (i : W32) (c : RunCmd) : Option State :=
  let b := c.bytes
  let n := lengthAt b 40
  let j := c.progress.toNat
  if n ≤ j then some (s.endRun q i c.status c.progress c.result) else
  let es := elemSize b
  match s.readIndex b j with
  | (u1, none, _) => some (u1.advance q i c (j + 1) n true c.result)
  | (u1, some ix, _) =>
    let o := poolOffset b 24 + ix * es
    if !u1.within (poolDrawer b 24, o, es) then some (u1.endRun q i .range c.progress (BitVec.ofNat 64 j))
    else match u1.claimRange (poolDrawer b 24) o es with
      | none => none
      | some u =>
        let r := u.readRange (poolDrawer b 16) (poolOffset b 16 + j * es) es
        let x := r.1.writeMasked (poolDrawer b 24) o r.2.data r.2.mask
        some (x.1.advance q i c (j + 1) n (r.2.bad.isSome || x.2) c.result)

/-- DIGEST (R431, R433): 4 KiB of the range; the digest is written after the last. (DEDUCED, log 48.) -/
def State.digestUnit (s : State) (q : Nat) (i : W32) (c : RunCmd) : Option State :=
  let b := c.bytes
  let n := lengthAt b 40
  let p := c.progress.toNat
  if n ≤ p then some (s.endRun q i c.status c.progress c.result) else
  let m := min 4096 (n - p)
  match (if n ≤ p + m then s.claimRange (poolDrawer b 24) (poolOffset b 24) 48 else some s) with
  | none => none
  | some u =>
    let r := u.readRange (poolDrawer b 16) (poolOffset b 16 + p) m
    let c1 := { c with acc := c.acc ++ r.2.data }
    let x := if n ≤ p + m then r.1.writeRange (poolDrawer b 24) (poolOffset b 24) (Config.sha384 c1.acc) else (r.1, none)
    let result := match r.2.bad with | none => c.result | some o => if c.status = .ok then BitVec.ofNat 64 o else c.result
    some (x.1.advance q i c1 (p + m) n (r.2.bad.isSome || x.2.isSome) result)

/-- The counts of a sweep's summary (Table 10–3), kept with its progress word: lines read, corrected transient and lasting,
poisoned, newly poisoned, the first poisoned offset, and the start. -/
structure Sweep where
  lines  : Nat
  trans  : Nat
  hard   : Nat
  bad    : Nat
  newly  : Nat
  first  : Option Nat
  start  : Nat
deriving DecidableEq, Repr

/-- A sweep's counts as bytes. -/
def Sweep.bytes (w : Sweep) : List Byte :=
  leBytes 8 w.lines ++ leBytes 8 w.trans ++ leBytes 8 w.hard ++ leBytes 8 w.bad ++ leBytes 8 w.newly ++
  leBytes 8 (w.first.getD 0xFFFFFFFFFFFFFFFF) ++ leBytes 8 w.start

/-- A sweep's counts from its kept bytes; a new sweep starts now. -/
def sweepOf (acc : List Byte) (now : Nat) : Sweep :=
  if acc.isEmpty then { lines := 0, trans := 0, hard := 0, bad := 0, newly := 0, first := none, start := now }
  else { lines := field acc 0 8, trans := field acc 8 8, hard := field acc 16 8, bad := field acc 24 8, newly := field acc 32 8
         first := if field acc 40 8 = 0xFFFFFFFFFFFFFFFF then none else some (field acc 40 8), start := field acc 48 8 }

/-- Count one read of a sweep (R355, R356). -/
def Sweep.count (w : Sweep) (off : Nat) (r : LineRead) (copies : Nat) : Sweep :=
  { w with lines := w.lines + copies
           trans := w.trans + b2n (r.corr == 1), hard := w.hard + b2n (r.corr == 2)
           bad := w.bad + (if r.poisoned then copies else 0), newly := w.newly + (if r.newly then copies else 0)
           first := if r.poisoned && w.first.isNone then some off else w.first }

/-- Sweep one line: every copy is read under Table 10–2 (R353); copies that one read has poisoned together count each.
(DEDUCED, log 51.) -/
def State.sweepLine (s : State) (d l : Nat) (w : Sweep) : State × Sweep :=
  match s.livePlaces d (l / 1024) with
  | [] => (s, w.count (l * 64) (.bad false) 1)
  | [p] =>
    let r := s.readFrom flagSweep d l [p]
    (r.1, w.count (l * 64) r.2 1)
  | p1 :: p2 :: _ =>
    let r := s.readFrom flagSweep d l [p1, p2]
    if r.2.newly then (r.1, w.count (l * 64) r.2 2)
    else
      let r2 := r.1.readFrom (flagSweep + 2) d l [p2, p1]
      (r2.1, (w.count (l * 64) r.2 1).count (l * 64) r2.2 1)

/-- SWEEP (R353 to R356, R432): 4 KiB of the range; the summary is written after the last. (DEDUCED, log 48.) -/
def State.sweepUnit (s : State) (q : Nat) (i : W32) (c : RunCmd) : Option State :=
  let b := c.bytes
  let n := lengthAt b 40
  let p := c.progress.toNat
  let write := fun (u : State) (data : List Byte) => (u.writeRange (poolDrawer b 24) (poolOffset b 24) data).1
  if n = 0 then
    match s.claimRange (poolDrawer b 24) (poolOffset b 24) 64 with
    | none => none
    | some u => some ((write u (List.replicate 64 0)).endRun q i .ok 0 0)
  else if n ≤ p then some (s.endRun q i c.status c.progress 0)
  else
    let m := min 4096 (n - p)
    match (if n ≤ p + m then s.claimRange (poolDrawer b 24) (poolOffset b 24) 64 else some s) with
    | none => none
    | some u =>
      let r := (List.range (m / 64)).foldl (fun (acc : State × Sweep) k =>
        acc.1.sweepLine (poolDrawer b 16) ((poolOffset b 16 + p) / 64 + k) acc.2) (u, sweepOf c.acc s.ts)
      let u1 := if n ≤ p + m then
          write r.1 ((r.2.bytes.take 48) ++ leBytes 8 (s.ts - r.2.start) ++ leBytes 8 0)
        else r.1
      some (u1.advance q i { c with acc := r.2.bytes } (p + m) n false 0)

/-! ## Running a copy command -/

/-- One unit of the copy command that runs, by its opcode; none where it waits for back-pressure (R421, R575). -/
def State.copyWork (s0 : State) (q : Nat) (i : W32) (c : RunCmd) : Option State := s0.underGens c fun s =>
  match cmdOp c.bytes with
  | 0x01 => if copyRemote c.bytes then s.remoteUnit q i c else s.copyUnit q i c
  | 0x02 => s.fillUnit (sub c.bytes 24 8) q i c
  | 0x03 => s.fillUnit (List.replicate 8 0) q i c
  | 0x04 => s.convertUnit q i c
  | 0x05 => s.gatherUnit q i c
  | 0x06 => s.scatterUnit q i c
  | 0x07 => s.digestUnit q i c
  | 0x08 => s.sweepUnit q i c
  | _ => some (s.endRun q i .ok 0 0)

/-- Whether the command of queue `q` with index `i` does copy work now. -/
def State.copies (s : State) (q : Nat) (i : W32) : Option RunCmd :=
  match s.range q, s.runOf q i with
  | some r, some c => if r.cls = clsCopy ∧ s.mayWork q clsCopy c = true then some c else none
  | _, _ => none

/-- Run a copy command from its progress word to its end, or to a wait; `fuel` bounds the units. -/
def State.copyRun (s : State) (q : Nat) (i : W32) : Nat → State
  | 0 => s
  | fuel + 1 =>
    match s.copies q i with
    | none => s
    | some c =>
      if s.mustRest clsCopy c then s.resumePoint q i
      else match s.copyWork q i c with
        | none => s.resumePoint q i
        | some u => u.copyRun q i fuel

/-- The row of a copy opcode: its command runs to its end, unless something waits for its resume point. -/
def State.copyRow (s : State) (q : BitVec 16) (i : W32) (op : Nat) : Res :=
  match s.actor q.toNat i clsCopy op with
  | none => .next s
  | some _ => .next ((s.copyRun q.toNat i (2 ^ 41)).settle)

/-- COPY_RESUME_POINT (R420, R421): the command does one unit and takes what is pending. -/
def execCopyResumePoint (q : BitVec 16) (index : BitVec 32) (s : State) : Res :=
  match s.copies q.toNat index with
  | none => .next (match s.range q.toNat with
      | some r => if r.cls = clsCopy then s.resumePoint q.toNat index else s
      | none => s)
  | some c =>
    let s1 := if s.mustRest clsCopy c then s else (s.copyWork q.toNat index c).getD s
    .next ((s1.resumePoint q.toNat index).settle)

/-- COPY_NOP (R410). -/
def execCopyNop (q : BitVec 16) (index : BitVec 32) (s : State) : Res := s.copyRow q index 0x00
/-- COPY. -/
def execCopy (q : BitVec 16) (index : BitVec 32) (s : State) : Res := s.copyRow q index 0x01
/-- FILL. -/
def execFill (q : BitVec 16) (index : BitVec 32) (s : State) : Res := s.copyRow q index 0x02
/-- ZERO. -/
def execZero (q : BitVec 16) (index : BitVec 32) (s : State) : Res := s.copyRow q index 0x03
/-- CONVERT. -/
def execConvert (q : BitVec 16) (index : BitVec 32) (s : State) : Res := s.copyRow q index 0x04
/-- GATHER. -/
def execGather (q : BitVec 16) (index : BitVec 32) (s : State) : Res := s.copyRow q index 0x05
/-- SCATTER. -/
def execScatter (q : BitVec 16) (index : BitVec 32) (s : State) : Res := s.copyRow q index 0x06
/-- DIGEST. -/
def execDigest (q : BitVec 16) (index : BitVec 32) (s : State) : Res := s.copyRow q index 0x07
/-- SWEEP. -/
def execSweep (q : BitVec 16) (index : BitVec 32) (found : List Damage) (s : State) : Res :=
  (s.withFound found).copyRow q index 0x08

end Sys2Proof.Machine
end

