-- ==== Sys2Proof/Machine/HostOps.lean ====
section
/-! DEFINITION. What the host port's commands share (chapter 20): when BAR0 is served, the error capture (R673), and
the checks of a submitting write (R670, R675). -/

namespace Sys2Proof.Machine

/-- Kinds of HOST_ERRCAP: BAR2 read. -/
def errBar2Read : Nat := 1
/-- BAR2 write. -/
def errBar2Write : Nat := 2
/-- Doorbell. -/
def errDoorbell : Nat := 3
/-- Counter window. -/
def errWindow : Nat := 4
/-- Command. -/
def errCommand : Nat := 5
/-- Register access. (DEDUCED, log 91.) -/
def errRegister : Nat := 6

/-- The node status and identification block is served: from MEMORY_TRAIN on, and in FAILED but after THERMAL_TRIP
(R668, R118). -/
def State.regsUp (s : State) : Bool :=
  !s.power.tripped && (s.isIn .memoryTrain || s.isIn .awaitJoinery || s.isIn .applying || s.isIn .ready || s.isIn .failed)

/-- Record a host access (R673): counted, and captured where no capture is held. -/
def State.hostErr (s : State) (kind : Nat) (st : Status) (off : Nat) (bar2 : Bool) : State :=
  let h := { s.host with errCnt := if s.host.errCnt = 0xFFFFFFFF then s.host.errCnt else s.host.errCnt + 1 }
  { s with host := if h.errValid then h else
      { h with errValid := true, errKind := kind, errStatus := st.code
               errAddr := BitVec.ofNat 64 (off % 2 ^ 63 + 2 ^ 63 * b2n bar2) } }

/-- A completion of the host port goes, or waits while the spare's lag delays it (R300). -/
def State.complete_ (s : State) (o : Out) : State :=
  if s.bench.throttled then { s with delayed := s.delayed ++ [o] } else s.emit o

/-- A BAR access that the port answers with Unsupported Request: in D3hot (R665). -/
def State.unsupported (s : State) : State := s.complete_ (.hostStatus "UR")

/-- Whether a host write that waits for a reserve block holds up every later host access (R671, R575), or others wait behind one
already. (DEDUCED, log 89.) -/
def State.hostHeld (s : State) : Bool := s.writeHeld || !s.host.waiting.isEmpty

/-- A host access waits behind a host write and those that wait already (R671). -/
def State.hostWait (s : State) (c : Instr) : State := { s with host.waiting := s.host.waiting ++ [c] }

/-- Whether the host port takes accesses at all. -/
def State.barOpen (s : State) : Bool := s.host.linkUp && !s.power.tripped

/-- An access of BAR0 by the host port, as the command `c` brings it, an input of the benches: nothing while the port is down; in
its turn where an earlier host write waits (R671); Unsupported Request in D3hot. (DEDUCED, log 89.) -/
def State.hostGate (s : State) (c : Instr) (act : State → State) : State :=
  if !s.barOpen then s
  else if s.hostHeld then s.hostWait c
  else s.deliver c fun u => if u.host.d3hot then u.unsupported else act u

/-- A write to a command register at BAR0 offset `off`: it acts on an 8-byte write alone (R670). -/
def State.commandWrite (s : State) (w : HostWrite) (off : Nat) (act : State → State) : State :=
  if !s.regsUp then s
  else if w.size != 8 then s.hostErr errRegister .format off false
  else act s

/-- A submitting write (R675): refused with NOT_READY in its status field while busy, while a session holds the lock
that guards it, or outside its states. -/
def State.submit (s : State) (w : HostWrite) (off : Nat) (busy guarded ok : Bool) (refuse act : State → State) : State :=
  s.commandWrite w off fun u =>
    if busy || (guarded && !u.lockOpen .host) || !ok then (refuse u).hostErr errCommand .notReady off false
    else act u

end Sys2Proof.Machine
end

