-- ==== Sys2Proof/Machine/JoineryImage.lean ====
section
/-! DEFINITION. The joinery image: its layout (Tables 5–1 to 5–7), its checks in the order of Table 5–8 with the
location that the apply report gives a rejection (R717), the capacity rule (R166), and the apply report's bytes
(Table 5–12). -/

namespace Sys2Proof

/-- A rejection: the code of Table 5–8 and the fields of R717. -/
structure Reject where
  code  : Nat
  index : Nat := 0xFFFFFFFF
  off   : Nat := 0
  stype : Nat := 0
  skey  : Nat := 0
deriving DecidableEq, Repr

/-- A record of an image: its number, its offset in the image, its type and its bytes. -/
structure RawRec where
  idx   : Nat
  off   : Nat
  typ   : Nat
  bytes : List Byte
deriving DecidableEq, Repr

/-- A field of a record. -/
def RawRec.f (r : RawRec) (o n : Nat) : Nat := field r.bytes o n

/-- A rejection at a field of a record. -/
def RawRec.rej (r : RawRec) (code o : Nat) : Reject := { code := code, index := r.idx, off := r.off + o }

/-- The first failure of a list of checks. -/
def firstFail : List (Option Reject) → Option Reject
  | [] => none
  | some r :: _ => some r
  | none :: cs => firstFail cs

/-- A check that fails with `r` where `bad` holds. -/
def failIf (bad : Bool) (r : Reject) : Option Reject := if bad then some r else none

/-- The first failure that a check finds in a list, in order. -/
def firstIn {α : Type} (xs : List α) (chk : α → Option Reject) : Option Reject := firstFail (xs.map chk)

/-! ## Header and records (R138 to R140) -/

/-- The sequence number of an image. -/
def imageSeq (im : List Byte) : Nat := field im 0x08 8

/-- The kind of an image: true for delta. -/
def imageDelta (im : List Byte) : Bool := bitOf (field im 0x06 2) 0

/-- The length that a known record type's table gives, from the record's own fields; 0 for an unknown type. -/
def recordLength (typ : Nat) (b : List Byte) : Nat :=
  match typ with
  | 0x1 => 16 | 0x2 => 24 | 0x3 => 40
  | 0x4 => 32 + 56 * field b 0x18 2
  | 0x5 => 32 | 0x6 => 24 | 0x7 => 16 | 0x8 => 16 | 0x9 => 16 | 0xA => 16 | 0xB => 48
  | 0xC => 16 + 8 * ceilDiv (field b 0x08 2) 8
  | _ => 0

/-- Whether a record type is known (Table 5–2). -/
def knownType (t : Nat) : Bool := decide (1 ≤ t) && decide (t ≤ 12)

/-- Cut the bytes from offset `off` to `stop` into records; a record whose length is wrong fails with JR_LENGTH at
its length field. (DEDUCED, log 113.) -/
def cutRecords (im : List Byte) (stop : Nat) : Nat → Nat → Nat → List RawRec → List RawRec × Option Reject
  | 0, _, _, acc => (acc.reverse, none)
  | fuel + 1, off, idx, acc =>
    if stop ≤ off then (acc.reverse, none) else
    let typ := field im off 2
    let len := field im (off + 4) 4
    let bytes := sub im off (min len (stop - off))
    let bad := len < 8 || len % 8 != 0 || stop < off + len || (knownType typ && len != recordLength typ bytes)
    if bad then (acc.reverse, some { code := 0x03, index := idx, off := off + 4 })
    else cutRecords im stop fuel (off + len) (idx + 1) ({ idx := idx, off := off, typ := typ, bytes := bytes } :: acc)

/-- The records of an image and the failure that cutting it meets. -/
def imageRecords (im : List Byte) : List RawRec × Option Reject :=
  cutRecords im (im.length - 96) im.length 0x60 0 []

/-- Records of one type. -/
def ofType (rs : List RawRec) (t : Nat) : List RawRec := rs.filter (·.typ == t)

/-! ## Checks JR_HEADER to JR_RECORD_COUNT -/

/-- JR_HEADER and the header part of JR_LENGTH. -/
def checkHeader (im : List Byte) : Option Reject :=
  firstFail [
    failIf (im.length < 6) { code := 0x02, off := 0x10 },
    failIf (field im 0 4 != 0x594E4A57) { code := 0x02, off := 0 },
    failIf (field im 4 2 != 1) { code := 0x02, off := 4 },
    failIf (im.length < 192 || field im 0x10 4 % 8 != 0 || field im 0x10 4 < 192 || 0x1000000 < field im 0x10 4 ||
      field im 0x10 4 != im.length) { code := 0x03, off := 0x10 }]

/-- The part code of Table 5–1. -/
def partCode (slices : Nat) : Nat := slices

/-- The reserved fields of a record: pairs of offset and size, with the bits that must be 0. -/
def reservedOf (r : RawRec) : List (Nat × Nat × Nat) :=
  (2, 2, 0xFFFF) ::
  match r.typ with
  | 0x1 => [(0x09, 1, 0x80), (0x0A, 6, 0xFFFFFFFFFFFF)]
  | 0x2 => [(0x09, 1, 0xF8), (0x0B, 1, 0xFF), (0x16, 2, 0xFFFF)]
  | 0x3 => [(0x0A, 2, 0xFFFF), (0x25, 3, 0xFFFFFF)]
  | 0x4 => [(0x0C, 2, 0xFFF0), (0x1A, 6, 0xFFFFFFFFFFFF)] ++
      (List.range (r.f 0x18 2)).map fun i => (0x20 + 56 * i + 49, 7, 0xFFFFFFFFFFFFFF)
  | 0x5 => [(0x13, 3, 0xFFFFFF)]
  | 0x6 => [(0x12, 6, 0xFFFFFFFFFFFF)]
  | 0x7 => [(0x0B, 1, 0xFF)]
  | 0x8 => [(0x09, 1, 0xF8), (0x0A, 6, 0xFFFFFFFFFFFF)]
  | 0x9 => [(0x0D, 3, 0xFFFFFF)]
  | 0xA => [(0x0C, 4, 0xFFFFFFFF)]
  | 0xB => [(0x2A, 1, 0xFE), (0x2C, 4, 0xFFFFFFFF)]
  | 0xC => (0x0A, 6, 0xFFFFFFFFFFFF) ::
      (List.range (r.bytes.length - (16 + r.f 0x08 2))).map fun i => (16 + r.f 0x08 2 + i, 1, 0xFF)
  | _ => []

/-- JR_RESERVED_FIELD. -/
def checkReserved (im : List Byte) (rs : List RawRec) : Option Reject :=
  firstFail [
    failIf (field im 0x06 2 / 2 != 0) { code := 0x09, off := 0x06 },
    failIf (field im 0x1A 6 != 0) { code := 0x09, off := 0x1A },
    failIf (field im 0x50 16 != 0) { code := 0x09, off := 0x50 },
    firstIn rs fun r => firstIn (reservedOf r) fun x =>
      failIf ((r.f x.1 x.2.1) &&& x.2.2 != 0) (r.rej 0x09 x.1)]

/-- The key of a record within its type (Table 5–2), and the offset of the key field; none for unkeyed types. -/
def recordKey (r : RawRec) : Option (Nat × Nat) :=
  match r.typ with
  | 0x1 => some (r.f 0x08 1, 0x08)
  | 0x2 => some (r.f 0x08 1, 0x08)
  | 0x3 => some (r.f 0x08 2, 0x08)
  | 0x4 => some (r.f 0x08 2, 0x08)
  | 0x5 => some (r.f 0x08 4, 0x08)
  | 0x6 => some (r.f 0x08 4, 0x08)
  | 0x7 => some (r.f 0x08 2 * 256 + r.f 0x0A 1, 0x08)
  | _ => none

/-- The offset of the key field that breaks the order of two records of a type: the class of an ENGINE_SHARE whose tenant
is that of the record before it, else the field that the key begins with. (DEDUCED, log 113.) -/
def orderField (p r : RawRec) (o : Nat) : Nat := if r.typ = 7 ∧ p.f 0x08 2 = r.f 0x08 2 then 0x0A else o

/-- The certificate of an ENDPOINT_CA record. -/
def caCert (r : RawRec) : List Byte := sub r.bytes 16 (r.f 0x08 2)

/-- JR_RECORD_ORDER between a record and those before it (R141). -/
def orderFault (before : List RawRec) (r : RawRec) : Option Reject :=
  match before.getLast? with
  | none => none
  | some p =>
    if r.typ < p.typ then some (r.rej 0x0B 0)
    else if r.typ = 0xC then failIf ((ofType before 0xC).any fun q => caCert q == caCert r) (r.rej 0x0B 0x10)
    else if r.typ = p.typ then
      match recordKey p, recordKey r with
      | some a, some b => failIf (b.1 ≤ a.1) (r.rej 0x0B (orderField p r b.2))
      | _, _ => none
    else none

/-- JR_RECORD_ORDER. -/
def checkOrder (rs : List RawRec) : Option Reject :=
  firstIn (List.range rs.length) fun i => (rs[i]?).bind fun r => orderFault (rs.take i) r

/-- The record after the first `n` of a type, where there is one, fails the count. -/
def tooMany (rs : List RawRec) (t n : Nat) : Option Reject := ((ofType rs t)[n]?).map fun r => r.rej 0x0C 0

/-- A missing record of a type: the subject is its type and key (R717). -/
def missing (code t k : Nat) : Reject := { code := code, stype := t, skey := k }

/-- JR_RECORD_COUNT (Table 5–2) on a part with `slices` slices. A SLICE record of an absent slice is no record of a slice
present: its key breaks no count, and JR_ABSENT names it (R3). (DEDUCED, log 115.) -/
def checkCounts (slices : Nat) (rs : List RawRec) : Option Reject :=
  firstFail ([
    firstIn (List.range slices) fun n =>
      failIf (!(ofType rs 1).any fun r => r.f 0x08 1 == n) (missing 0x0C 1 n),
    tooMany rs 2 32,
    failIf (ofType rs 3).isEmpty (missing 0x0C 3 0),
    tooMany rs 3 4095, tooMany rs 4 4096, tooMany rs 5 4096, tooMany rs 6 4096,
    firstIn (List.range rs.length) fun i => (rs[i]?).bind fun r =>
      failIf (r.typ == 7 && decide (4 ≤ ((ofType (rs.take i) 7).filter fun q => q.f 0x08 2 == r.f 0x08 2).length))
        (r.rej 0x0C 0)]
    ++ [0x8, 0x9, 0xA, 0xB].map (fun t => if (ofType rs t).isEmpty then some (missing 0x0C t 0) else tooMany rs t 1)
    ++ [tooMany rs 0xC 32])

/-! ## Checks JR_FIELD_RANGE to JR_ZERO_SIZE -/

/-- Whether a port mask is an aligned set of 1, 2, 4 or 8 ports (R153). -/
def alignedMask (m : Nat) : Bool :=
  [1, 2, 4, 8].any fun n => (List.range (32 / n)).any fun k => m == (2 ^ n - 1) * 2 ^ (k * n)

/-- Whether `n` is a power of two, 2 to 65,536. -/
def depthOk (n : Nat) : Bool := (List.range 16).any fun k => n == 2 ^ (k + 1)

/-- The fields of a record that are outside their range (JR_FIELD_RANGE), each with its offset. In the RETURNED
lifecycle a sealed drawer is one, at its flags (R624). -/
def rangeFaults (returned : Bool) (r : RawRec) : List (Bool × Nat) :=
  match r.typ with
  | 0x1 => [(15 < r.f 0x08 1, 0x08)]
  | 0x2 => [(31 < r.f 0x08 1, 0x08), (!(List.contains [1, 2, 4, 8] (r.f 0x0A 1)), 0x0A), (!alignedMask (r.f 0x0C 4), 0x0C),
      (0x3FFF < r.f 0x10 2, 0x10), (r.f 0x12 2 == 0 || 4095 < r.f 0x12 2, 0x12),
      (r.f 0x14 2 == 0 || 1000 < r.f 0x14 2, 0x14)]
  | 0x3 => [(4095 < r.f 0x08 2, 0x08), (262144 < r.f 0x0C 4, 0x0C), (1048576 < r.f 0x10 4, 0x10),
      (65535 < r.f 0x14 4, 0x14), (65536 < r.f 0x14 4 + r.f 0x18 4, 0x18), (16252928 < r.f 0x1C 4, 0x1C),
      (256 < r.f 0x20 2, 0x20), (512 < r.f 0x22 2, 0x22), (64 < r.f 0x24 1, 0x24)]
  | 0x4 => [(r.f 0x08 2 == 0, 0x08), (4095 < r.f 0x0A 2, 0x0A), (returned && bitOf (r.f 0x0C 2) 0, 0x0C),
      (16252928 < r.f 0x10 4, 0x10),
      (if bitOf (r.f 0x0C 2) 3 then decide (262144 < r.f 0x14 4 + r.f 0x10 4) else r.f 0x14 4 != 0, 0x14),
      (256 < r.f 0x18 2, 0x18)]
  | 0x5 => [(65535 < r.f 0x08 4, 0x08), (65536 < r.f 0x08 4 + r.f 0x0C 4, 0x0C), (4095 < r.f 0x10 2, 0x10),
      (3 < r.f 0x12 1, 0x12), (r.f 0x18 4 != 0 && !depthOk (r.f 0x18 4), 0x18), (16252927 < r.f 0x1C 4, 0x1C)]
  | 0x6 => [(262143 < r.f 0x08 4, 0x08), (262144 < r.f 0x08 4 + r.f 0x0C 4, 0x0C), (4095 < r.f 0x10 2, 0x10)]
  | 0x7 => [(4095 < r.f 0x08 2, 0x08), (3 < r.f 0x0A 1, 0x0A), (10000 < r.f 0x0C 2, 0x0C),
      (r.f 0x0E 2 != 0 && (r.f 0x0E 2 < 20 || 1000 < r.f 0x0E 2), 0x0E)]
  | 0x8 => [(2 < r.f 0x08 1, 0x08)]
  | 0x9 => [(r.f 0x08 4 < 3600 || 604800 < r.f 0x08 4, 0x08), (r.f 0x0C 1 == 0 || 25 < r.f 0x0C 1, 0x0C)]
  | 0xA => [(r.f 0x08 4 < 11 || 60000 < r.f 0x08 4, 0x08)]
  | 0xB => (List.range 24).map (fun d => (decide (27 < r.f (0x08 + d) 1) && r.f (0x08 + d) 1 != 0xFF, 0x08 + d)) ++
      [(decide (10 < r.f 0x2B 1), 0x2B)]
  | 0xC => [(r.f 0x08 2 == 0 || 4080 < r.f 0x08 2, 0x08)]
  | _ => []

/-- The fields of a record that name a slice, port or stack absent from a part of `n` slices (JR_ABSENT). -/
def absentFaults (n : Nat) (r : RawRec) : List (Bool × Nat) :=
  match r.typ with
  | 0x1 => [(n ≤ r.f 0x08 1, 0x08)]
  | 0x2 => [(2 ^ (2 * n) ≤ r.f 0x0C 4, 0x0C)]
  | 0x4 => [(2 ^ n ≤ r.f 0x0E 2, 0x0E)]
  | 0xB => (List.range 16).map (fun d => (decide (n ≤ d) && r.f (0x08 + d) 1 != 0xFF, 0x08 + d)) ++
      [(decide (2 ^ (2 * n) ≤ r.f 0x20 4), 0x20), (decide (2 ^ (2 * n) ≤ r.f 0x24 4), 0x24),
       (decide (2 ^ n ≤ r.f 0x28 2), 0x28)]
  | _ => []

/-- The offset of a record's tenant field, where it has one. -/
def tenantField : Nat → Option Nat
  | 0x3 => some 0x08 | 0x4 => some 0x0A | 0x5 => some 0x10 | 0x6 => some 0x10 | 0x7 => some 0x08
  | _ => none

/-- The fields of a record that JR_ZERO_SIZE names. -/
def zeroFaults (r : RawRec) : List (Bool × Nat) :=
  match r.typ with
  | 0x3 => [(r.f 0x0C 4 == 0, 0x0C)]
  | 0x4 => [(r.f 0x10 4 == 0, 0x10)]
  | 0x5 => [(r.f 0x0C 4 == 0, 0x0C), (r.f 0x18 4 == 0, 0x18)]
  | 0x6 => [(r.f 0x0C 4 == 0, 0x0C)]
  | 0x7 => [(r.f 0x0C 2 == 0, 0x0C), (r.f 0x0E 2 == 0, 0x0E)]
  | _ => []

/-- The first failing field over all records, in image order. -/
def checkFields (code : Nat) (rs : List RawRec) (faults : RawRec → List (Bool × Nat)) : Option Reject :=
  firstIn rs fun r => firstIn (faults r) fun x => failIf x.1 (r.rej code x.2)

/-! ## The joinery that the records declare -/

/-- The access entries of a DRAWER record. -/
def accessEntries (r : RawRec) : List AccessEntry :=
  (List.range (r.f 0x18 2)).map fun i =>
    { cert := sub r.bytes (0x20 + 56 * i) 48, write := r.f (0x20 + 56 * i + 48) 1 == 3 }

/-- The record of a DRAWER. -/
def drawerOf (r : RawRec) : DrawerRec :=
  let fl := r.f 0x0C 2
  { id := r.f 0x08 2, tenant := r.f 0x0A 2, isSealed := bitOf fl 0, mirrored := bitOf fl 1, pinned := bitOf fl 2
    hostVisible := bitOf fl 3, stackMask := BitVec.ofNat 16 (r.f 0x0E 2), size := r.f 0x10 4, bar2 := r.f 0x14 4
    entries := accessEntries r }

/-- The record of a QUEUE_RANGE. -/
def queueOf (r : RawRec) : QueueRange :=
  { base := r.f 0x08 4, count := r.f 0x0C 4, tenant := r.f 0x10 2, cls := r.f 0x12 1, ring := r.f 0x16 2
    depth := r.f 0x18 4, ringBase := r.f 0x1C 4 }

/-- The record of a TENANT. -/
def tenantOf (r : RawRec) : TenantRec :=
  { id := r.f 0x08 2, trackerQuota := r.f 0x0C 4, waitQuota := r.f 0x10 4, streamBase := r.f 0x14 4
    streamCount := r.f 0x18 4, reserve := r.f 0x1C 4, grammarSlots := r.f 0x20 2, contexts := r.f 0x22 2
    dictSlots := r.f 0x24 1 }

/-- The record of a PORT_GROUP. -/
def groupRecOf (r : RawRec) : GroupRec :=
  { group := r.f 0x08 1, enable := bitOf (r.f 0x09 1) 0, fallback := bitOf (r.f 0x09 1) 1, half := bitOf (r.f 0x09 1) 2
    minWidth := r.f 0x0A 1, portMask := BitVec.ofNat 32 (r.f 0x0C 4), endpoint := r.f 0x10 2
    threshold := r.f 0x12 2, grace := r.f 0x14 2 }

/-- A field of the one record of an unkeyed type. -/
def one (rs : List RawRec) (t o n : Nat) : Nat := match (ofType rs t).head? with | none => 0 | some r => r.f o n

/-- The joinery that an image's records declare. -/
def joineryOf (im : List Byte) (rs : List RawRec) : Joinery :=
  { seq := imageSeq im, isDelta := imageDelta im, digest := Config.sha384 im
    slices := (ofType rs 1).map fun r => { slice := r.f 0x08 1, mask := BitVec.ofNat 8 (r.f 0x09 1) }
    groups := (ofType rs 2).map groupRecOf
    tenants := (ofType rs 3).map tenantOf
    drawers := (ofType rs 4).map drawerOf
    queues := (ofType rs 5).map queueOf
    counters := (ofType rs 6).map fun r => { base := r.f 0x08 4, count := r.f 0x0C 4, tenant := r.f 0x10 2 }
    shares := (ofType rs 7).map fun r =>
      { tenant := r.f 0x08 2, cls := r.f 0x0A 1, weight := r.f 0x0C 2, quantum := r.f 0x0E 2 }
    bench := { spare := one rs 8 0x08 1, excl := BitVec.ofNat 8 (one rs 8 0x09 1) }
    lap := one rs 9 0x08 4, sweep := one rs 9 0x0C 1, timeout := one rs 0xA 0x08 4
    loops :=
      { volts := (List.range 24).map fun d => BitVec.ofNat 8 (one rs 0xB (0x08 + d) 1)
        eqFreeze := BitVec.ofNat 32 (one rs 0xB 0x20 4), thFreeze := BitVec.ofNat 32 (one rs 0xB 0x24 4)
        dramFreeze := BitVec.ofNat 16 (one rs 0xB 0x28 2), placeFreeze := bitOf (one rs 0xB 0x2A 1) 0
        share := one rs 0xB 0x2B 1 }
    cas := (ofType rs 0xC).map caCert }

/-! ## Checks JR_DANGLING to JR_BENCH_CONFIG -/

/-- JR_DANGLING. -/
def danglingFaults (j : Joinery) (r : RawRec) : List (Bool × Nat) :=
  let noTenant := fun (o : Nat) => (!j.tenants.any fun t => t.id == r.f o 2, o)
  match r.typ with
  | 0x4 => [noTenant 0x0A]
  | 0x5 => [noTenant 0x10, (!j.drawers.any fun d => d.id == r.f 0x16 2 && d.tenant == r.f 0x10 2, 0x16)]
  | 0x6 => [noTenant 0x10]
  | 0x7 => [noTenant 0x08]
  | _ => []

/-- Whether two ranges of numbers, each a base and a count, share a number. -/
def overlap (a n b m : Nat) : Bool := decide (a < b + m) && decide (b < a + n) && n != 0 && m != 0

/-- The ring area of a queue range (R160). -/
def QueueRange.area (q : QueueRange) : Nat := q.count * q.depth * 64

/-- JR_OVERLAP between a record and those of its type before it. -/
def overlapFaults (before : List RawRec) (r : RawRec) : List (Bool × Nat) :=
  let prev := ofType before r.typ
  match r.typ with
  | 0x2 => [(prev.any fun p => (p.f 0x0C 4) &&& (r.f 0x0C 4) != 0, 0x0C)]
  | 0x3 => [(prev.any fun p => overlap (p.f 0x14 4) (p.f 0x18 4) (r.f 0x14 4) (r.f 0x18 4), 0x14)]
  | 0x4 => [(bitOf (r.f 0x0C 2) 3 && prev.any fun p => bitOf (p.f 0x0C 2) 3 &&
      overlap (p.f 0x14 4) (p.f 0x10 4) (r.f 0x14 4) (r.f 0x10 4), 0x14)]
  | 0x5 => [(prev.any fun p => overlap (p.f 0x08 4) (p.f 0x0C 4) (r.f 0x08 4) (r.f 0x0C 4), 0x08),
      (prev.any fun p => p.f 0x16 2 == r.f 0x16 2 &&
        overlap (p.f 0x1C 4 * 65536) (queueOf p).area (r.f 0x1C 4 * 65536) (queueOf r).area, 0x1C)]
  | 0x6 => [(prev.any fun p => overlap (p.f 0x08 4) (p.f 0x0C 4) (r.f 0x08 4) (r.f 0x0C 4), 0x08)]
  | _ => []

/-- JR_OVERLAP. -/
def checkOverlap (rs : List RawRec) : Option Reject :=
  firstIn (List.range rs.length) fun i => (rs[i]?).bind fun r =>
    firstIn (overlapFaults (rs.take i) r) fun x => failIf x.1 (r.rej 0x12 x.2)

/-- JR_ACCESS_SET (R157). -/
def accessFaults (r : RawRec) : List (Bool × Nat) :=
  if r.typ = 4 then
    (List.range (r.f 0x18 2)).flatMap fun i =>
      let o := 0x20 + 56 * i
      [(decide (0 < i) && !bytesLt (sub r.bytes (o - 56) 48) (sub r.bytes o 48), o),
       (r.f (o + 48) 1 != 1 && r.f (o + 48) 1 != 3, o + 48)]
  else []

/-- JR_SEALED_HOST. -/
def sealedHostFaults (r : RawRec) : List (Bool × Nat) :=
  [(r.typ == 4 && bitOf (r.f 0x0C 2) 0 && bitOf (r.f 0x0C 2) 3, 0x0C)]

/-- Whether DER bytes are an X.509 CA certificate with an ECDSA P-384 key (R164). -/
def caOk (der : List Byte) : Bool := Machine.optAny (Config.x509 der) fun c => c.isCa && c.p384.isSome

/-- Whether the last 96 bytes of an image hold a signature over the rest that verifies under the key of the header's digest
(R139, R143): r and s are little-endian (R7). -/
def imageSigned (im : List Byte) : Bool :=
  let n := im.length - 96
  Config.ecdsaVerify (sub im 0x20 48) (Config.sha384 (im.take n)) (field im n 48) (field im (n + 48) 48)

/-- The checks whose answer an outside standard gives: the image's signature, and a CA certificate's form. `given` fixes
both answers. -/
structure Verdicts where
  signed : List Byte → Bool
  ca     : List Byte → Bool

/-- The verdicts of the standards. -/
def Verdicts.standard : Verdicts := { signed := imageSigned, ca := caOk }

/-- JR_CA_CERT: an ENDPOINT_CA certificate fails R164 or does not parse. -/
def checkCas (ok : List Byte → Bool) (rs : List RawRec) : Option Reject :=
  firstIn (ofType rs 0xC) fun r => failIf (!ok (caCert r)) (r.rej 0x15 0x10)

/-- JR_NO_CA: a group is enabled and no ENDPOINT_CA is present. -/
def checkNoCa (j : Joinery) : Option Reject := failIf (j.cas.isEmpty && j.groups.any (·.enable)) (missing 0x16 0xC 0)

/-- JR_MISSING_SHARE, at the queue range's class. -/
def shareFaults (j : Joinery) (r : RawRec) : List (Bool × Nat) :=
  [(r.typ == 5 && !j.shares.any fun x => x.tenant == r.f 0x10 2 && x.cls == r.f 0x12 1, 0x12)]

/-- JR_SHARE_SUM, at the weight whose addition passes 10,000. -/
def checkShareSum (rs : List RawRec) : Option Reject :=
  let xs := ofType rs 7
  firstIn (List.range xs.length) fun i => (xs[i]?).bind fun r =>
    failIf (10000 < (((xs.take (i + 1)).filter fun p => p.f 0x0A 1 == r.f 0x0A 1).map fun p => p.f 0x0C 2).sum)
      (r.rej 0x18 0x0C)

/-- JR_SLOT_SUM (R156), at the reservation whose addition passes its total. -/
def checkSlotSum (rs : List RawRec) : Option Reject :=
  let xs := ofType rs 3
  firstIn (List.range xs.length) fun i => (xs[i]?).bind fun r =>
    let total := fun (o n : Nat) => ((xs.take (i + 1)).map fun p => p.f o n).sum
    firstFail [failIf (256 < total 0x20 2) (r.rej 0x19 0x20), failIf (512 < total 0x22 2) (r.rej 0x19 0x22),
      failIf (64 < total 0x24 1) (r.rej 0x19 0x24)]

/-- JR_TIMEOUT_GRACE, at the outbound timeout. -/
def graceFaults (j : Joinery) (r : RawRec) : List (Bool × Nat) :=
  [(r.typ == 0xA && (j.groups.filter (·.enable)).any fun g => decide (r.f 0x08 4 < g.grace + 10), 0x08)]

/-- How many of the three benches a mask holds out. -/
def heldOut (m : Nat) : Nat := ((List.range 3).filter fun b => bitOf m b).length

/-- JR_BENCH_CONFIG: `bad` are the numbers of the benches that failed self-test; a bench that was retired later is not one. -/
def benchFaults (bad : List Nat) (r : RawRec) : List (Bool × Nat) :=
  let m := r.f 0x09 1
  if r.typ = 8 then
    [(2 ≤ heldOut m, 0x09), (bitOf m (r.f 0x08 1), 0x08),
     (((List.range 3).filter fun b => !bitOf m b && !bad.contains b).length < 2, 0x09)]
  else []

/-! ## The capacity rule (R166) -/

/-- Blocks of a stack that drawers and reserves may take: 62 GiB. -/
def stackBlocks : Nat := 1015808

/-- A demand for blocks: how many, on which stacks, and whether each block needs two stacks. -/
structure Need where
  blocks : Nat
  mask   : BitVec 16
  twice  : Bool
deriving DecidableEq, Repr

/-- The blocks of a demand that must lie within the stacks `S`, whatever else is done: a block with one stack
outside `S` to go to leaves one copy inside. -/
def Need.within (n : Need) (S : BitVec 16) : Nat :=
  let outside := ((List.range 16).filter fun i => n.mask.getLsbD i && !S.getLsbD i).length
  n.blocks * ((if n.twice then 2 else 1) - outside)

/-- The sets of stacks that the placement condition ranges over: every subset of the live stacks; where every
demand may use all of them, the whole set and the sets that leave out one stack are enough. (DEDUCED, log 12.) -/
def testSets (live : List Nat) (needs : List Need) : List (BitVec 16) :=
  let all := live.foldl (fun m i => m ||| ((1 : BitVec 16) <<< i)) 0
  if needs.all fun n => n.mask &&& all == all then
    all :: live.map fun i => all &&& ~~~((1 : BitVec 16) <<< i)
  else (List.range 65536).map (fun k => BitVec.ofNat 16 k) |>.filter fun S => S &&& all == S

/-- Whether the demands can be placed on stacks that have `room i` blocks left: no set of stacks is asked for more
than it has (the condition of a transport problem). (DEDUCED, log 12.) -/
def placeable (live : List Nat) (room : Nat → Nat) (needs : List Need) : Bool :=
  (testSets live needs).all fun S =>
    decide ((needs.map (·.within S)).sum ≤ ((live.filter fun i => S.getLsbD i).map room).sum)

/-- The blocks of an extent list on stack `i`. -/
def blocksOn (xs : List (Nat × Nat)) (i : Nat) : Nat := ((xs.filter (·.1 == i)).map (·.2)).sum

end Sys2Proof

namespace Sys2Proof.Machine

/-- The stack of each block of copy `c` of drawer `d`, from block `first` on, as (stack, 1). -/
def State.whereBlocks (s : State) (d c first count : Nat) : List (Nat × Nat) :=
  (List.range count).filterMap fun i => (s.place d (first + i) c).map fun p => (p.1, 1)

/-- The places of blocks of copy `c` of drawer `d`, from block `first` on. -/
def State.placesOf (s : State) (d c first count : Nat) : List (Nat × Nat) :=
  (List.range count).filterMap fun i => s.place d (first + i) c

/-- The physical blocks that a new joinery frees: of deleted drawers, of the removed part of drawers that shrink, and of
the copy that is not the primary where a mirror is removed (R166, R174, R348). -/
def State.freedPlaces (s : State) (j : Joinery) : List (Nat × Nat) :=
  (s.records (·.drawers)).flatMap fun o =>
    match j.drawers.find? (·.id == o.id) with
    | none => s.placesOf o.id 0 0 o.size ++ s.placesOf o.id 1 0 o.size
    | some n =>
      s.placesOf o.id 0 n.size (o.size - n.size) ++ s.placesOf o.id 1 n.size (o.size - n.size) ++
      (if o.mirrored && !n.mirrored then
        (List.range (min o.size n.size)).filterMap fun b => (s.livePlaces o.id b)[1]?
      else [])

/-- The blocks that a new joinery frees, by stack. -/
def State.freedBy (s : State) (j : Joinery) : List (Nat × Nat) := (s.freedPlaces j).map fun p => (p.1, 1)

/-- Whether a drawer of the new joinery will not be moved (R166). -/
def fixedDrawer (j : Joinery) (r : DrawerRec) : Bool := r.pinned || j.loops.placeFreeze

/-- The blocks that a drawer which will not be moved keeps where they are, by stack: both copies of a mirrored one, the
primary copy of each block where its mirror is removed (R166, R348). -/
def State.keptBlocks (s : State) (o n : DrawerRec) : List (Nat × Nat) :=
  let size := min o.size n.size
  if o.mirrored && !n.mirrored then
    (List.range size).filterMap fun b => (s.livePlaces o.id b).head?.map fun p => (p.1, 1)
  else s.whereBlocks n.id 0 0 size ++ (if o.mirrored then s.whereBlocks n.id 1 0 size else [])

/-- The demands of one drawer: where it will not be moved, only what is added; a mirror added to it needs a second copy of
each block on another stack than the one that holds it (R166). -/
def State.drawerNeeds (s : State) (j : Joinery) (d : DrawerRec) (mask live : BitVec 16) : List Need :=
  match s.drawer d.id with
  | none => [{ blocks := d.size, mask := mask, twice := d.mirrored }]
  | some o =>
    if !fixedDrawer j d then [{ blocks := d.size, mask := mask, twice := d.mirrored }]
    else
      let size := min o.size d.size
      { blocks := d.size - size, mask := mask, twice := d.mirrored } ::
      (if d.mirrored && !o.mirrored then
        ((List.range 16).filter (live.getLsbD ·)).map fun i =>
          { blocks := blocksOn (s.whereBlocks d.id 0 0 size) i, mask := mask &&& ~~~((1 : BitVec 16) <<< i), twice := false }
      else [])

/-- One addition of R717's capacity order: its demands, the blocks it keeps in place, and where its failure is reported. -/
structure Addition where
  needs : List Need
  held  : List (Nat × Nat)
  rej   : Reject

/-- The additions of a joinery in the order of R717: tenant reserves, then drawers, each named at its stack mask. `live` is
the mask of live stacks. -/
def State.additions (s : State) (j : Joinery) (rs : List RawRec) (live : BitVec 16) : List Addition :=
  ((ofType rs 3).map fun r =>
    { needs := [{ blocks := r.f 0x1C 4, mask := live, twice := false }], held := [], rej := r.rej 0x1D 0x1C }) ++
  (ofType rs 4).map fun r =>
    let d := drawerOf r
    { needs := s.drawerNeeds j d (if d.stackMask = 0 then live else d.stackMask &&& live) live
      held := match s.drawer d.id with | none => [] | some o => if fixedDrawer j d then s.keptBlocks o d else []
      rej := r.rej 0x1D 0x0E }

/-- What is taken on a stack where these blocks are kept in place: they, and the blocks that await a sweep. -/
def State.taken (s : State) (j : Joinery) (held : List (Nat × Nat)) (i : Nat) : Nat :=
  blocksOn held i + (s.stk i).awaiting + blocksOn (s.freedBy j) i

/-- JR_CAPACITY's placement part: the record whose addition first leaves no placement. (DEDUCED, log 12.) -/
def State.checkPlacement (s : State) (j : Joinery) (rs : List RawRec) : Option Reject :=
  let live := s.liveStacks
  let mask := live.foldl (fun m i => m ||| ((1 : BitVec 16) <<< i)) (0 : BitVec 16)
  let adds := s.additions j rs mask
  firstIn (List.range adds.length) fun k => (adds[k]?).bind fun n =>
    let held := (adds.take (k + 1)).flatMap (·.held)
    let needs := (adds.take (k + 1)).flatMap (·.needs)
    failIf (!placeable live (fun i => stackBlocks - s.taken j held i) needs ||
      live.any fun i => decide (stackBlocks < s.taken j held i)) n.rej

/-- The dictionary, or grammar, slots that a tenant's loaded images need: one above the highest that holds an image
(R167, R527). -/
def State.loadedImages (s : State) (t : Nat) (grammar : Bool) : Nat :=
  (s.images.filter fun e => e.1 / 512 == t && (decide (64 ≤ e.1 % 512)) == grammar && e.2.isSome).foldl
    (fun m e => max m (e.1 % 512 + 1 - if grammar then 64 else 0)) 0

/-- The sieve contexts that a tenant has configured: those that hold anything but their assignment (R167). -/
def State.tenantContexts (s : State) (t : Nat) : Nat :=
  (s.ctxs.filter fun e => e.2.tenant == t && e.2 != { tenant := t }).length

/-- The sieve contexts of the engines in service under an image's SLICE records. -/
def State.contextsOf (s : State) (j : Joinery) : Nat :=
  8 * ((List.range s.power.part.sieves).filter fun n =>
    !s.power.sieveOut.contains n && j.slices.any fun r => r.slice == n / 4 && r.mask.getLsbD (n % 4)).length

/-- JR_CAPACITY's sieve contexts (R442): the TENANT record whose addition passes the contexts in service. -/
def State.checkContexts (s : State) (j : Joinery) (rs : List RawRec) : Option Reject :=
  let xs := ofType rs 3
  firstIn (List.range xs.length) fun i => (xs[i]?).bind fun r =>
    failIf (s.contextsOf j < ((xs.take (i + 1)).map fun p => p.f 0x22 2).sum) (r.rej 0x1D 0x22)

/-- JR_CAPACITY's reservations below current use (R167), and dropped tenants that still hold something. -/
def State.checkUse (s : State) (j : Joinery) (rs : List RawRec) : Option Reject :=
  firstFail [
    firstIn (ofType rs 3) fun r =>
      let t := r.f 0x08 2
      firstFail [failIf (r.f 0x1C 4 < s.reserveUsed t) (r.rej 0x1D 0x1C),
        failIf (r.f 0x20 2 < s.loadedImages t true) (r.rej 0x1D 0x20),
        failIf (r.f 0x22 2 < s.tenantContexts t) (r.rej 0x1D 0x22),
        failIf (r.f 0x24 1 < s.loadedImages t false) (r.rej 0x1D 0x24)],
    firstIn ((s.records (·.tenants)).filter fun t => !j.tenants.any (·.id == t.id)) fun t =>
      failIf (s.hold.snapshots.any (·.tenant == t.id) || s.loadedImages t.id true != 0 || s.loadedImages t.id false != 0 ||
        s.tenantContexts t.id != 0) (missing 0x1D 3 t.id)]

/-- JR_CAPACITY's ring areas (R160). -/
def ringFaults (j : Joinery) (r : RawRec) : List (Bool × Nat) :=
  [(r.typ == 5 && match j.drawers.find? (·.id == r.f 0x16 2) with
      | none => false
      | some d => decide (d.bytes < r.f 0x1C 4 * 65536 + (queueOf r).area), 0x1C)]

/-! ## Drawer changes (Table 5–11) -/

/-- The certificates of a drawer's access set. -/
def certs (r : DrawerRec) : List (List Byte) := r.entries.map (·.cert)

/-- Whether a change of a drawer advances its generation (Table 5–11). -/
def advances (o n : DrawerRec) : Bool :=
  o.tenant != n.tenant || o.isSealed != n.isSealed || (n.isSealed && certs o != certs n)

/-- Whether a change advances the generation, resizes or re-mirrors: what JR_DRAWER_BUSY guards. -/
def disturbs (o n : DrawerRec) : Bool := advances o n || o.size != n.size || o.mirrored != n.mirrored

/-- Whether a drawer is frozen, in a snapshot being exported or transferred, or under a wrap sweep. -/
def State.drawerBusy (s : State) (d : Nat) : Bool :=
  s.drawerFrozen d || s.sweeping d || s.hold.snapshots.any fun x => x.busy && x.drawers.any (·.id == d)

/-- JR_DRAWER_BUSY. -/
def State.checkBusyDrawers (s : State) (j : Joinery) (rs : List RawRec) : Option Reject :=
  firstFail [
    firstIn (ofType rs 4) fun r => (s.drawer (r.f 0x08 2)).bind fun o =>
      failIf (disturbs o (drawerOf r) && s.drawerBusy o.id) (r.rej 0x20 0x08),
    firstIn ((s.records (·.drawers)).filter fun o => !j.drawers.any (·.id == o.id)) fun o =>
      failIf (s.drawerBusy o.id) (missing 0x20 4 o.id)]

/-- JR_DELTA_FORBIDDEN: a SLICE record differs from the one in force. -/
def State.checkDelta (s : State) (rs : List RawRec) : Option Reject :=
  firstIn (ofType rs 1) fun r =>
    failIf ((s.records (·.slices)).any fun o => o.slice == r.f 0x08 1 && o.mask.toNat != r.f 0x09 1) (r.rej 0x1F 0x09)

/-- JR_BENCH_LIVE: BENCH differs from the record in force while READY. -/
def State.checkBenchLive (s : State) (rs : List RawRec) : Option Reject :=
  match s.jny.inForce with
  | none => none
  | some j => firstIn (ofType rs 8) fun r =>
      firstFail [failIf (r.f 0x08 1 != j.bench.spare) (r.rej 0x1E 0x08),
        failIf (r.f 0x09 1 != j.bench.excl.toNat) (r.rej 0x1E 0x09)]

/-- JR_MIRROR: a mirrored drawer without two live stacks to lie on. -/
def State.mirrorFaults (s : State) (r : RawRec) : List (Bool × Nat) :=
  let d := drawerOf r
  let offered := s.liveStacks.filter fun i => d.stackMask == 0 || d.stackMask.getLsbD i
  [(r.typ == 4 && d.mirrored && decide (offered.length < 2), if d.stackMask = 0 then 0x0C else 0x0E)]

/-- The checks of Table 5–8 from JR_HEADER on, in order: the first failure, or none. `ready` says that the image is
checked in READY. -/
def State.checkImageBy (s : State) (v : Verdicts) (ready : Bool) (im : List Byte) : Option Reject :=
  match checkHeader im with
  | some r => some r
  | none =>
    let cut := imageRecords im
    let rs := cut.1
    let j := joineryOf im rs
    let n := s.power.part.slices
    firstFail [
      cut.2,
      failIf (field im 0x14 4 != rs.length) { code := 0x03, off := 0x14 },
      failIf (field im 0x18 2 != partCode n) { code := 0x04, off := 0x18 },
      failIf (s.sec.keys.getLast? != some (sub im 0x20 48)) { code := 0x05, off := 0x20 },
      failIf (!v.signed im) { code := 0x06, off := im.length - 96 },
      failIf (imageSeq im ≤ s.power.maxSeq) { code := 0x07, off := 0x08 },
      failIf (imageDelta im && !ready) { code := 0x08, off := 0x06 },
      checkReserved im rs,
      firstIn rs fun r => failIf (!knownType r.typ) (r.rej 0x0A 0),
      checkOrder rs,
      checkCounts n rs,
      checkFields 0x0D rs (rangeFaults (s.sec.lifecycle == .returned)),
      checkFields 0x0E rs (absentFaults n),
      firstIn rs fun r => (tenantField r.typ).bind fun o => failIf (r.f o 2 == 0) (r.rej 0x0F o),
      checkFields 0x10 rs zeroFaults,
      checkFields 0x11 rs (danglingFaults j),
      checkOverlap rs,
      checkFields 0x13 rs accessFaults,
      checkFields 0x14 rs sealedHostFaults,
      checkCas v.ca rs,
      checkNoCa j,
      checkFields 0x17 rs (shareFaults j),
      checkShareSum rs,
      checkSlotSum rs,
      checkFields 0x1A rs (graceFaults j),
      checkFields 0x1B rs (benchFaults (s.bench.testFailed.map BenchId.num)),
      checkFields 0x1C rs s.mirrorFaults,
      s.checkPlacement j rs,
      s.checkContexts j rs,
      s.checkUse j rs,
      checkFields 0x1D rs (ringFaults j),
      if ready then s.checkBenchLive rs else none,
      if imageDelta im then s.checkDelta rs else none,
      s.checkBusyDrawers j rs]

/-- The checks with the verdicts of the standards. -/
def State.checkImage (s : State) (ready : Bool) (im : List Byte) : Option Reject := s.checkImageBy .standard ready im

/-! ## The apply report (Table 5–12) -/

/-- The bytes of an apply report. (DEDUCED, log 110.) -/
def reportBytes (code : Nat) (delta : Bool) (index seq ts off portMask dropped awaiting : Nat) (stype skey : Nat)
    (entries : List GenEntry) : List Byte :=
  leBytes 1 code ++ leBytes 1 (b2n delta) ++ leBytes 2 0 ++ leBytes 4 index ++ leBytes 8 seq ++ leBytes 8 ts ++
  leBytes 4 off ++ leBytes 4 portMask ++ leBytes 4 dropped ++ leBytes 4 awaiting ++ leBytes 2 entries.length ++
  leBytes 2 stype ++ leBytes 4 skey ++
  entries.flatMap fun e =>
    leBytes 2 e.drawer ++ leBytes 1 (b2n e.wrap + 2 * b2n e.created) ++ leBytes 1 0 ++ leBytes 4 e.gen.toNat ++
    leBytes 2 (min e.discarded 65535) ++ leBytes 6 0

end Sys2Proof.Machine
end

