-- ==== Sys2Proof/Machine/Pace.lean ====
section
/-! DEFINITION. The pace loop, thermal limits, the DRAM threshold loops and the placement loop (chapter 3, R66). -/

namespace Sys2Proof

/-- The domain that a stack's or a junction's temperature limits: domain n for slice n's stack (Table 3–1). -/
def ThermalUnit.num : ThermalUnit → Nat
  | .domain d => d.val
  | .stack n => n.val

/-- Whether a unit is a stack. -/
def ThermalUnit.isStack : ThermalUnit → Bool
  | .domain _ => false
  | .stack _ => true

end Sys2Proof

namespace Sys2Proof.Machine

/-- The event source of a thermal unit (R661). -/
def thermalKind : ThermalUnit → SourceKind
  | .domain _ => .domain
  | .stack _ => .stack

/-- The ceiling above the floor, in hundredths of a millivolt (R80). -/
def ceilVolt : Nat := 17000

/-- One step of 6.25 mV (R81). -/
def stepVolt : Nat := 625

/-- The run at the ceiling with backlog (R86): it goes on while the domain holds both, and ends where it does not. -/
def Domain.atCeiling (v : Domain) (now : Nat) : Domain :=
  { v with ceilSince := if v.volt == ceilVolt && v.backlog then some (v.ceilSince.getD now) else none }

/-- Whether a junction temperature in 0.1 °C is at its limit (R65). -/
def junctionHot (t : BitVec 16) : Bool := decide (1050 ≤ t.toInt)

/-- Whether a DRAM temperature in 0.1 °C is at its limit (R65). -/
def dramHot (t : BitVec 16) : Bool := decide (950 ≤ t.toInt)

/-- What one period makes of a domain (R81, R83, R87): demand raises the voltage at once, at least one step where
there is backlog; a fixed voltage is kept; a domain whose junction, or whose stack (`stackHot`), is at its limit is never
raised; issue into it goes free when the junction is below its limit. -/
def Domain.period (v : Domain) (r : DomainReport) (stackHot : Bool) (now : Nat) : Domain :=
  let want := match v.fixed with
    | some f => f
    | none => if r.backlog then min ceilVolt (max (v.demanded + stepVolt) (stepVolt * r.lowest))
              else min ceilVolt (stepVolt * r.lowest)
  let hot := junctionHot r.junction || stackHot
  let volt := if v.limiting && hot then min v.volt want else want
  { v with
    volt := volt, demanded := want, hc := r.hc, junction := r.junction, occupancy := r.occupancy, backlog := r.backlog
    issueLim := v.issueLim && junctionHot r.junction }.atCeiling now

/-- Whether a domain is a retired bench's, which is held at the floor (R316). -/
def State.heldAtFloor (s : State) (d : Nat) : Bool := allBenches.any fun b => d == 16 + b.num && s.bench.role b == .retired

/-- Take a stack's DRAM temperature (R64): issue into its controller goes free below the limit (R83). -/
def Stack.takeTemp (k : Stack) (t : BitVec 16) : Stack := { k with temp := t, limiting := k.limiting && dramHot t }

/-- One domain's part of a period: domain n of a slice carries its stack's temperature too (Table 3–1). -/
def State.domainPeriod (s : State) (r : DomainReport) : State :=
  let d := r.dom.val
  let slice := decide (d < 16)
  let s1 := if slice then s.updStk d fun k => k.takeTemp r.dram else s
  let v := (s1.dom d).period r (slice && dramHot r.dram) s.ts
  s1.setDom d (if s.heldAtFloor d then { v with volt := 0, demanded := 0, ceilSince := none } else v)

/-- PACE_PERIOD (R81): each 20 µs the loop sets every domain. (DESIGN CHOICE, log 17.) -/
def execPacePeriod (reports : List DomainReport) (s : State) : Res :=
  if s.isIn .off || s.isIn .retention || s.power.tripped then .next s
  else .next (s.deliver (.pacePeriod reports) fun u => reports.foldl (fun w r => w.domainPeriod r) u)

/-- PACE_CEILING_TIMER (R86): a domain held the ceiling with backlog for more than 60 s. -/
def execPaceCeilingTimer (d : Fin 24) (s : State) : Res :=
  match (s.dom d.val).ceilSince with
  | none => .next s
  | some _ => .next (s.deliver (.paceCeilingTimer d) fun u => (u.setDom d.val { u.dom d.val with ceiling := true }).settle)

/-- PACE_CEILING_CLEAR_TIMER (R653): every domain that set the trigger ran 60 s without the ceiling and backlog. -/
def execPaceCeilingClearTimer (s : State) : Res :=
  if s.domains.any fun e => e.2.ceiling && e.2.ceilSince.isSome then .next s
  else .next (s.deliver .paceCeilingClearTimer fun u =>
    ({ u with domains := u.domains.mapVals (fun v => { v with ceiling := false }) {} }).settle)

/-- A temperature limit is reached (R83, R84): the domain's voltage goes one step down toward the floor, and at the floor
issue is limited; THERMAL_LIMIT is raised once for the domain and the excursion. R83 states no amount: one step of R81 for
each report is the model's. (DESIGN CHOICE, log 117.) -/
def State.thermalLimit (s : State) (unit : ThermalUnit) (temp : Nat) : State :=
  let v := s.dom unit.num
  let low := { v with
    volt := v.volt - stepVolt
    issueLim := v.issueLim || (v.volt == 0 && !unit.isStack)
    limiting := true
    ceilSince := none }
  let s1 := s.setDom unit.num low
  let s2 := if unit.isStack then s1.updStk unit.num fun k => { k with limiting := k.limiting || v.volt == 0 } else s1
  if v.limiting then s2 else s2.raise .thermalLimit (thermalKind unit) unit.num temp (b2n unit.isStack) 0

/-- THERMAL_LIMIT_REACHED (R83, R84). -/
def execThermalLimitReached (unit : ThermalUnit) (temp : Nat) (s : State) : Res :=
  if s.isIn .off || s.isIn .retention || s.power.tripped then .next s
  else .next (s.deliver (.thermalLimitReached unit temp) fun u => u.thermalLimit unit temp)

/-- Whether a domain runs below its demanded level, or issue into it or its stack is limited (R83). -/
def State.heldBack (s : State) (d : Nat) : Bool :=
  decide ((s.dom d).volt < (s.dom d).demanded) || (s.dom d).issueLim || (decide (d < 16) && (s.stk d).limiting)

/-- THERMAL_EXCURSION_END (R84): the domain has run at its demanded level for 1 s; one that is held back has not. -/
def execThermalExcursionEnd (d : Fin 24) (s : State) : Res :=
  let v := s.dom d.val
  if !v.limiting || s.heldBack d.val then .next s
  else .next (s.deliver (.thermalExcursionEnd d) fun u => u.setDom d.val { u.dom d.val with limiting := false })

/-- A trip (R66): THERMAL_TRIP, FAILED, and every converter but the wake island's stops: both ports lose power
and PWR_GOOD falls. A node that is in FAILED already stays there, and its converters stop too. (DESIGN CHOICE, log 118.) -/
def State.thermalTrip (s : State) (unit : ThermalUnit) (temp : Nat) : State :=
  let s0 := s.raise .thermalTrip (thermalKind unit) unit.num temp (b2n unit.isStack) 0
  let s1 := { s0 with
    host := s0.host.down
    bureau := { s0.bureau with sessions := [], lock := .free, creds := s0.bureau.lasting, revoked := [] } }
  let s2 := if s.isIn .failed then s1 else s1.enterFailed Ev.thermalTrip.code "THERMAL_TRIP"
  { s2 with power.tripped := true, power.pwrGood := false, host := s2.host.down }

/-- THERMAL_TRIP_TIMER (R66). -/
def execThermalTripTimer (unit : ThermalUnit) (temp : Nat) (s : State) : Res :=
  if s.isIn .off || s.power.tripped then .next s
  else .next (s.deliver (.thermalTripTimer unit temp) fun u => u.thermalTrip unit temp)

/-- DRAM_CALIBRATION (R89, R90): the channel's loop takes its correction, or, frozen, reports it. (DESIGN CHOICE, log 17.) -/
def execDramCalibration (st : Fin 16) (chan : Fin 32) (correction : BitVec 8) (s : State) : Res :=
  let k := s.stk st.val
  if k.lost || s.isIn .off || s.isIn .retention then .next s
  else .next (s.deliver (.dramCalibration st chan correction) fun u => u.updStk st.val fun x =>
    if s.loops.dramFreeze.getLsbD st.val then { x with calibPend := x.calibPend.set chan.val correction 0 }
    else { x with
      calib := x.calib.set chan.val (x.calib.get chan.val 0 + correction) 0
      calibPend := x.calibPend.set chan.val 0 0 })

/-! ## Placement loop (R91 to R96) -/

/-- Whether a physical block may hold data: no spare position, not retired, not awaiting a sweep (R174), no move's
destination. -/
def State.usableBlock (s : State) (stack phys : Nat) : Bool :=
  decide (phys < 1048576) && decide (phys % 1024 < 1020) && !(s.stk stack).retired.contains phys &&
    !(s.stk stack).unswept.contains phys && !s.dram.moves.any fun m => m.stack == stack && m.phys == phys

/-- Whether a physical block is free: usable, and it holds no block of a drawer. -/
def State.freeBlock (s : State) (stack phys : Nat) : Bool := s.usableBlock stack phys && (s.occupant stack phys).isNone

/-- Take the measurements of R91 into each stack's registers. -/
def State.measure (s : State) (reports : List StackReport) : State :=
  reports.foldl (fun u r => u.updStk r.stack.val fun k => { k with demand := r.demand, corrected := r.corrected }) s

/-- The reasons of R91 for moving a block off stack `src` to stack `dst`: demand over 1.25 times the mean of the node's live
stacks for 1 s and a destination below the mean, or a corrected-line rate over 4 times the median of them all.
(DESIGN CHOICE, log 36.) -/
def State.moveReason (s : State) (reports : List StackReport) (src dst : Nat) : Bool :=
  let all := s.liveStacks.map s.stk
  let n := all.length
  let total := (all.map (·.demand)).sum
  let rates := sortBy (fun a b => decide (a < b)) (all.map (·.corrected))
  let median2 := (rates.getD ((n - 1) / 2) 0) + (rates.getD (n / 2) 0)
  (reports.any fun r => r.stack.val == src && r.overFor1s) && decide (5 * total < 4 * n * (s.stk src).demand) &&
    decide (n * (s.stk dst).demand < total) ||
  decide (4 * median2 < 2 * (s.stk src).corrected)

/-- Whether a block at this place is under a retirement copy (R94, R95). -/
def State.retiring (s : State) (stack phys : Nat) : Bool :=
  s.dram.jobs.any fun j => j.stack == stack && (if j.bank then j.unit == phys / 1024 else j.unit == phys)

/-- Whether the placement loop may put copy `copy` of a block on stack `dest` (R94): its drawer is neither pinned nor under a
wrap sweep and allows the stack, the block is not under a retirement copy, and its other copy neither lies there nor moves
there. -/
def State.mayMove (s : State) (drawer block copy dest : Nat) : Bool :=
  (optAny (s.drawer drawer) fun r => !r.pinned && decide (block < r.size) && r.allows dest && !s.sweeping drawer) &&
  (optAny (s.place drawer block copy) fun p => !(s.stk p.1).lost && p.1 != dest && !s.retiring p.1 p.2) &&
  ((s.place drawer block (1 - copy)).map (·.1) != some dest) &&
  !s.dram.moves.any (fun m => m.drawer == drawer && m.block == block && m.copy != copy && m.stack == dest)

/-- Whether the placement loop may start this move (R91, R93, R94, R96; off a stack that the drawer's mask excludes, R172; the SP1 has nowhere to move to).
(DESIGN CHOICE, log 36.) -/
def State.moveAllowed (s : State) (reports : List StackReport) (drawer block copy dest phys : Nat) : Bool :=
  s.isReady && !s.loops.placeFreeze && s.loops.share != 0 && s.power.part != .sp1 && s.mayMove drawer block copy dest &&
  (optAny (s.place drawer block copy) fun p =>
    s.moveReason reports p.1 dest || (optAny (s.drawer drawer) fun r => !r.allows p.1)) &&
  !s.dram.moves.any (fun m => m.drawer == drawer && m.block == block && m.copy == copy) &&
  decide (dest < s.power.part.slices) && !(s.stk dest).lost && decide (0 < (s.stk dest).headroom) &&
  s.freeBlock dest phys

/-- PLACEMENT_EVALUATION (R91): the loop measures the stacks and starts a move into headroom.
(DESIGN CHOICE, log 17, 35, 36.) -/
def execPlacementEvaluation (reports : List StackReport) (drawer block copy : Nat) (dest : Fin 16) (phys : Nat)
    (s : State) : Res :=
  .next (s.deliver (.placementEvaluation reports drawer block copy dest phys) fun u =>
    let s1 := u.measure reports
    if s1.moveAllowed reports drawer block copy dest.val phys then
      let s2 := s1.updStk dest.val fun k => { k with headroom := k.headroom - 1 }
      { s2 with
        dram.moves := s2.dram.moves ++ [{ drawer := drawer, block := block, copy := copy, stack := dest.val, phys := phys }] }
    else s1)

/-- One more block moved into (`into`) or out of a stack, in its performance counter (Table 19–6). -/
def State.countMoved (s : State) (stack : Nat) (into : Bool) : State :=
  let k := s.stk stack
  let r := if into then bumpPerf k.movedIn k.movedInW 1 else bumpPerf k.movedOut k.movedOutW 1
  let s1 := s.setStk stack
    (if into then { k with movedIn := r.1, movedInW := r.2.1 } else { k with movedOut := r.1, movedOutW := r.2.1 })
  if r.2.2 then s1.counterWrap (0x120000 + stack * 0x1000 + (if into then 0x58 else 0x60)) else s1

/-- Abandon block moves: each destination block returns to headroom (R95). -/
def State.abandonMoves (s : State) (p : Move → Bool) : State :=
  let s1 := { s with dram.moves := s.dram.moves.filter (!p ·) }
  (s.dram.moves.filter p).foldl (fun u m => u.updStk m.stack fun k => { k with headroom := k.headroom + 1 }) s1

/-- BLOCK_MOVE_DONE (R37): the translation table points to the new block, and the old one is headroom. A move that R94 no
longer allows, because the drawer was pinned or a sweep or a retirement has begun, is abandoned. Damage that the cells of
the old block hold stays there and is not read: R91 to R96 say nothing of it. (DESIGN CHOICE, log 119.) -/
def execBlockMoveDone (drawer block copy : Nat) (s : State) : Res :=
  match s.dram.moves.find? fun m => m.drawer == drawer && m.block == block && m.copy == copy, s.place drawer block copy with
  | some m, some p =>
    .next (s.deliver (.blockMoveDone drawer block copy) fun u =>
      if !u.mayMove drawer block copy m.stack then u.abandonMoves (· == m) else
      let s1 := { u with
        dram.moves := u.dram.moves.filter (· != m)
        dram.dtt := { drawer := drawer, copy := copy, first := block, count := 1, stack := m.stack, phys := m.phys } :: u.dram.dtt }
      let s2 := s1.updStk p.1 fun k => { k with headroom := k.headroom + 1 }
      (s2.countMoved p.1 false).countMoved m.stack true)
  | _, _ => .next s

end Sys2Proof.Machine
end

