-- ==== Sys2Proof/Machine/Integrity.lean ====
section
/-! DEFINITION. Stored data's own commands (chapter 10, R174, R606 to R608): patrol, retirement, stack loss, mirror
builds, zero stamps and sweeps, injection; and the advance of a drawer's generation (R605). -/

namespace Sys2Proof.Machine

/-! ## Generations (R605, R608, R173) -/

/-- The commands in execution passed their access checks under generation `g` of drawer `d`, which now advances: they complete
under it (R604). -/
def State.keepGen (s : State) (d : Nat) (g : W32) : State :=
  let keep := fun (c : RunCmd) => if c.phase = .ended || c.gens.any (·.1 == d) then c else { c with gens := c.gens ++ [(d, g)] }
  { s with queues := s.queues.mapVals (fun (u : Queue) => { u with running := u.running.map keep }) {} }

/-- Advance a drawer's generation: its snapshots are discarded, and a new low byte of 0 starts a wrap sweep. The
number is how many snapshots went. -/
def State.advanceGen (s0 : State) (d : Nat) : State × Nat :=
  let s := s0.keepGen d (s0.gen d)
  let g := s.gen d + 1
  let hit := s.hold.snapshots.filter fun x => x.drawers.any (·.id == d)
  let s1 := hit.foldl (fun u x => u.dropSnapshot x.id) { s with jny.gens := s.jny.gens.set d g 0 }
  let s2 := if g.truncate 8 = (0 : BitVec 8) then s1.setDrw d { s1.drw d with sweeping := some s.ts } else s1
  (s2, hit.length)

/-- Make every line of a drawer its zero line under the current tag, with no poison (R606). -/
def State.zeroDrawer (s : State) (d : Nat) : State :=
  { s with
    mem := FMap.keep s.mem fun a => a / 2 ^ 40 != d
    dram.tags := s.dram.tags.keep fun k => k / 2 ^ 34 != d
    dram.poison := s.dram.poison.keep fun k => k / 2 ^ 34 != d }.setDrw d { s.drw d with stampTag := s.curTag d }

/-- WRAP_SWEEP_DONE (R608): every block zero-stamped under the new generation; the drawer is held no longer. -/
def execWrapSweepDone (drawer : Nat) (s : State) : Res :=
  match (s.drw drawer).sweeping with
  | none => .next s
  | some t =>
    .next (s.deliver (.wrapSweepDone drawer) fun u =>
      let s1 := u.zeroDrawer drawer
      let s2 := s1.setDrw drawer { s1.drw drawer with sweeping := none, unstamped := [] }
      s2.raise .genSweepDone .node 0 drawer (u.ts - t) (u.gen drawer).toNat)

/-! ## Zero stamps and freed blocks (R606, R607, R174) -/

/-- Take block `b` out of runs of blocks. -/
def dropBlock (b : Nat) (runs : List (Nat × Nat)) : List (Nat × Nat) :=
  runs.flatMap fun r =>
    if r.1 ≤ b ∧ b < r.1 + r.2 then [(r.1, b - r.1), (b + 1, r.1 + r.2 - (b + 1))].filter (·.2 != 0) else [r]

/-- ZERO_STAMP_DONE (R607): the block is stamped; an access that waited for it found it stamped first. (DEDUCED, log 86.) -/
def execZeroStampDone (drawer block : Nat) (s : State) : Res :=
  .next (s.deliver (.zeroStampDone drawer block) fun u =>
    u.setDrw drawer { u.drw drawer with unstamped := dropBlock block (u.drw drawer).unstamped })

/-- FREE_BLOCK_SWEEP_DONE (R174): freed blocks count against capacity no longer. -/
def execFreeBlockSweepDone (st : Fin 16) (count : Nat) (s : State) : Res :=
  .next (s.deliver (.freeBlockSweepDone st count) fun u =>
    u.updStk st.val fun k => { k with awaiting := k.awaiting - count, unswept := k.unswept.drop count })

/-! ## Patrol (R349 to R352) -/

/-- Lines of a stack. -/
def stackLines : Nat := 2 ^ 30

/-- The first line from `pos` on that lies in no retired block; `fuel` bounds the blocks skipped. -/
def skipRetired (retired : List Nat) : Nat → Nat → Nat
  | 0, pos => pos
  | fuel + 1, pos =>
    if pos < stackLines ∧ retired.contains (pos / 1024) then skipRetired retired fuel ((pos / 1024 + 1) * 1024) else pos

/-- The lap ends: its duration, the lap count and a new start (R351). -/
def State.endLap (s : State) (n : Nat) : State :=
  let k := s.stk n
  let r := bumpPerf k.laps k.lapsW 1
  let s1 := s.setStk n { k with
    laps := r.1, lapsW := r.2.1, lastLap := s.ts - k.lapStart - k.lapAdjust, lapStart := s.ts, lapAdjust := 0, lapPos := 0, overdue := false }
  if r.2.2 then s1.counterWrap (0x120000 + n * 0x1000 + 0x18) else s1

/-- Read one physical line for the patrol (R335, R350): in a drawer under Table 10–2, with the other copy of a
mirrored one behind it; a line of no drawer is checked alone and poisoned with tag 0 (R336). -/
def State.patrolLine (s : State) (n pl : Nat) : State :=
  match s.occupant n (pl / 1024) with
  | some (d, b) =>
    let l := b * 1024 + pl % 1024
    if s.poisonBit d l && s.tagOk d l then s else
    let here := (n, pl / 1024)
    let all := s.livePlaces d b
    let flags := flagPatrol + (if all.head? = some here then 0 else 2)
    (s.readFrom flags d l (here :: all.filter (· != here))).1
  | none =>
    let key := n * 2 ^ 30 + pl
    if s.dram.freePoison.contains key then s else
    match s.codeAt n pl with
    | (s1, .bad a b, inj) =>
      { s1 with dram.freePoison := s1.dram.freePoison ++ [key] }.recordPoison flagPatrol n pl 0 0 inj a b
    | (s1, c, inj) => s1.recordCheck flagPatrol n pl 0 0 inj c

/-- Whether a stack's patrol scrub runs: the stack is there and live, and the node is past start-up and awake (R128, R349, R372). -/
def State.patrols (s : State) (n : Nat) : Bool :=
  decide (n < s.power.part.slices) && !(s.stk n).lost && (s.isIn .awaitJoinery || s.isIn .applying || s.isIn .ready)

/-- PATROL_READ (R349): the next line of the lap, under Table 10–2. -/
def execPatrolRead (st : Fin 16) (found : List Damage) (s : State) : Res :=
  let n := st.val
  let k := s.stk n
  if !s.patrols n then .next s else
  let pos := skipRetired k.retired (k.retired.length + 1) k.lapPos
  .next (s.deliver (.patrolRead st found) fun u =>
    if stackLines ≤ pos then u.endLap n else
    let s1 := ((u.withFound found).patrolLine n pos).updStk n fun x => { x with lapPos := pos + 1 }
    (if stackLines ≤ pos + 1 then s1.endLap n else s1).settle)

/-- LAP_OVERDUE_TIMER (R352): once for each lap; none in RETENTION (R128). -/
def execLapOverdueTimer (st : Fin 16) (s : State) : Res :=
  let k := s.stk st.val
  if k.overdue || !s.patrols st.val then .next s
  else .next (s.deliver (.lapOverdueTimer st) fun u =>
    (u.updStk st.val fun x => { x with overdue := true }).memEvent .lapOverdue st.val 0 0 0xFF 0xFF 0 0 0 0)

/-! ## Retirement (R362 to R370, R713) -/

/-- The blocks of a unit that are not yet retired. -/
def Stack.unretired (k : Stack) (bank : Bool) (unit : Nat) : List Nat :=
  ((List.range (if bank then 1024 else 1)).map fun i => if bank then unit * 1024 + i else unit).filter (!k.retired.contains ·)

/-- Whether a move takes a block out of a retirement's unit (R95). -/
def State.movesFrom (s : State) (st : Nat) (bank : Bool) (unit : Nat) (m : Move) : Bool :=
  optAny (s.place m.drawer m.block m.copy) fun p => p.1 == st && (if bank then p.2 / 1024 == unit else p.2 == unit)

/-- Accept or refuse a retirement: the status of one that is over at once, and the state. A placement move of a block of the
unit is abandoned (R95). -/
def State.askRetire (s : State) (st : Nat) (bank : Bool) (unit : Nat) (by_ : Submitter) : State × Option Status :=
  if 16 ≤ s.dram.jobs.length then (s, some .notReady)
  else
    let k := s.stk st
    let exists_ := decide (st < s.power.part.slices) && !k.lost && decide (unit < if bank then 1024 else 1048576)
    if !exists_ then (s, some .range)
    else
      let need := (k.unretired bank unit).length
      let owed := ((s.dram.jobs.filter (·.stack == st)).map (·.need)).sum
      if need = 0 then (s, some .ok)
      else if k.spares < owed + need then (s, some .range)
      else
        let u := s.abandonMoves (s.movesFrom st bank unit)
        ({ u with dram.jobs := u.dram.jobs ++ [{ stack := st, bank := bank, unit := unit, need := need, by_ := by_ }] }, none)

/-- RETIRE (R362, R363): the reply of an accepted one is sent when it completes. (DEDUCED, log 85.) -/
def execRetire (m : BureauMsg) (st : Nat) (bank : Bool) (unit : Nat) (s : State) : Res :=
  .next (s.bureauRequest (.retire m st bank unit) m 0x07 retireBody (st, bank, unit) adminOnly (s.isIn .awaitJoinery || s.isIn .ready) true fun u =>
    match u.askRetire st bank unit (.session m.session m.reqId) with
    | (v, none) => v
    | (v, some x) => v.answer m.session m.reqId 0x07 x [(1, cborUint (v.stk st).spares)])

/-- A write of RETIRE_CMD (R362, R675): stack in [3:0], bank in [4], unit in [35:16]. -/
def State.retireSubmit (s : State) (w : HostWrite) : State :=
  let v := w.value.toNat
  let st := bits v 3 0
  let bank := bitOf v 4
  let unit := if bank then bits v 25 16 else bits v 35 16
  let done := fun (u : State) (x : Status) => { u with dram.lastRetire := (x, st, (u.stk st).spares) }
  s.submit w 0x1020 false true (s.isIn .awaitJoinery || s.isIn .ready) (done · .notReady) fun u =>
    match u.askRetire st bank unit .host with
    | (x, none) => x
    | (x, some r) => (done x r).busyFell

/-- RETIRE_CMD (R362). -/
def execRetireCmd (w : HostWrite) (s : State) : Res := .next (s.hostGate (.retireCmd w) (·.retireSubmit w))

/-- Whether a physical block is one of the spare positions (R713). -/
def isSpare (b : Nat) : Bool := decide (1020 ≤ b % 1024)

/-- Copy one occupied block to a spare (R364): each damaged line is read under Table 10–2, and the table's entry for
the block names the spare. The number counts the lines that are poisoned. -/
def State.copyBlock (s : State) (stack blk spare : Nat) : State × Nat :=
  match s.occupant stack blk with
  | none => ({ s with dram.freePoison := s.dram.freePoison.filter fun k => k / 1024 != stack * 2 ^ 20 + blk }, 0)
  | some (d, b) =>
    let here := (stack, blk)
    let copy := if s.place d b 0 = some here then 0 else 1
    let hurt := (s.dram.faults.filter fun f => f.1.stack == stack && f.1.line / 1024 == blk).map (·.1.line % 1024)
    let s1 := hurt.foldl (fun u i =>
      (u.readFrom 0 d (b * 1024 + i) (here :: (u.livePlaces d b).filter (· != here))).1) s
    let bad := (s1.dram.poison.filter fun e => e.1 / 2 ^ 34 == d && e.1 % 2 ^ 34 / 1024 == b).length
    ({ s1 with dram.dtt := { drawer := d, copy := copy, first := b, count := 1, stack := stack, phys := spare } :: s1.dram.dtt }, bad)

/-- Log the fall of a stack's spare pool (R370). -/
def State.noteSpares (s : State) (n : Nat) : State :=
  let k := s.stk n
  let s1 := if k.spares < 410 ∧ ¬ k.lowRaised then
      (s.setStk n { k with lowRaised := true }).memEvent .sparesLow n 0 0 0xFF 0xFF 0 0 k.spares 0
    else s
  let k1 := s1.stk n
  if k1.spares = 0 ∧ ¬ k1.outRaised then
    (s1.setStk n { k1 with outRaised := true }).memEvent .sparesExhausted n 0 0 0xFF 0xFF 0 0 0 0
  else s1

/-- Whether these spare blocks may replace the unit's blocks: in the stack's unused spares, outside the unit, all
different. -/
def Stack.sparesFit (k : Stack) (out : List Nat) (chosen : List Nat) : Bool :=
  chosen.length == (out.filter (!isSpare ·)).length && chosen.dedup.length == chosen.length &&
  chosen.all fun b => isSpare b && decide (b < 1048576) && !k.sparesUsed.contains b && !k.retired.contains b && !out.contains b

/-- RETIRE_COPY_DONE (R364 to R367): the lines are copied to the spare blocks, the translation table names them, and
RETIRE_DONE is logged. -/
def execRetireCopyDone (index : Nat) (spares : List Nat) (s : State) : Res :=
  match s.dram.jobs[index]? with
  | none => .next s
  | some j =>
    let k := s.stk j.stack
    let out := k.unretired j.bank j.unit
    if !k.sparesFit out spares then .next s else
    .next (s.deliver (.retireCopyDone index spares) fun u0 =>
    let s0 := { u0 with dram.jobs := u0.dram.jobs.filter (· != j) }
    let r := ((out.filter (!isSpare ·)).zip spares).foldl (fun (acc : State × Nat) x =>
      let y := acc.1.copyBlock j.stack x.1 x.2
      (y.1, acc.2 + y.2)) (s0, 0)
    let s1 := r.1.updStk j.stack fun x => { x with
      retired := x.retired ++ out, sparesUsed := x.sparesUsed ++ spares ++ (out.filter isSpare).filter (!x.sparesUsed.contains ·) }
    let s2 := { s1 with dram.faults := s1.dram.faults.filter fun f =>
      !(f.1.stack == j.stack && out.contains (f.1.line / 1024)) }.keepTables
    let left := (s2.stk j.stack).spares
    let owner := if j.bank then 0 else match s.occupant j.stack j.unit with | none => 0 | some x => x.1
    let s3 := (s2.memEvent .retireDone j.stack (if j.bank then flagBank else 0) owner 0xFF 0xFF
      (if j.bank then j.unit * 1024 else j.unit) 0 left (2 ^ 40 * min r.2 16777215)).noteSpares j.stack
    let s4 := { s3 with dram.lastRetire := (.ok, j.stack, left) }.busyFell
    (match j.by_ with
      | .session i q => s4.answer i q 0x07 .ok [(1, cborUint left)]
      | .host => s4).settle)

/-! ## Channels, sensors, stacks (R371) -/

/-- Whether a stack is there, and has power. -/
def State.stackRuns (s : State) (n : Nat) : Bool := decide (n < s.power.part.slices) && !s.isIn .off

/-- STACK_CHANNEL_LOSS (R371): the pair loses a channel and retrains it. -/
def execStackChannelLoss (st : Fin 16) (s : State) : Res :=
  if !s.stackRuns st.val then .next s else .next (s.deliver (.stackChannelLoss st) fun u => u.updStk st.val fun k => { k with channelOut := true })

/-- CHANNEL_RETRAIN_DONE (R371). -/
def execChannelRetrainDone (st : Fin 16) (s : State) : Res :=
  .next (s.deliver (.channelRetrainDone st) fun u => u.updStk st.val fun k => { k with channelOut := false })

/-- CHANNEL_RETRAIN_TIMEOUT (R371): the stack is lost. -/
def execChannelRetrainTimeout (st : Fin 16) (s : State) : Res :=
  if s.stackRuns st.val && (s.stk st.val).channelOut then .next (s.deliver (.channelRetrainTimeout st) fun u => (u.loseStack st.val).settle)
  else .next s

/-- STACK_SENSORS_FAILED (R371): every temperature sensor of the stack fails: it is lost. -/
def execStackSensorsFailed (st : Fin 16) (s : State) : Res :=
  if s.stackRuns st.val then
    .next (s.deliver (.stackSensorsFailed st) fun u => (u.loseStack st.val).settle)
  else .next s

/-! ## Mirrors (R345 to R347) -/

/-- Whether copy `c` of a drawer is complete on live stacks. -/
def State.copyComplete (s : State) (r : DrawerRec) (c : Nat) : Bool :=
  (List.range r.size).all fun b => optAny (s.place r.id b c) fun p => !(s.stk p.1).lost

/-- Whether a plan gives copy `c` of a drawer a free place for every block, on live stacks that its mask allows, none
where the other copy's block lies. (DESIGN CHOICE, log 11.) -/
def State.planFits (s : State) (r : DrawerRec) (c : Nat) (plan : List Extent) : Bool :=
  (plan.all fun (e : Extent) =>
    e.drawer == r.id && e.copy == c && decide (e.stack < s.power.part.slices) && !(s.stk e.stack).lost &&
    (r.stackMask == 0 || r.stackMask.getLsbD e.stack) &&
    (List.range e.count).all fun i =>
      s.freeBlock e.stack (e.phys + i) && (s.place r.id (e.first + i) (1 - c)).map (fun (x : Nat × Nat) => x.1) != some e.stack) &&
  (List.range r.size).all fun b => plan.any fun (e : Extent) => decide (e.first ≤ b) && decide (b < e.first + e.count)

/-- MIRROR_BUILD_DONE (R346): the missing copy lies where the plan says, and the drawer is degraded no longer.
(DEDUCED, log 33.) -/
def execMirrorBuildDone (drawer : Nat) (plan : List Extent) (s : State) : Res :=
  match s.drawer drawer with
  | none => .next s
  | some r =>
    let c := if s.copyComplete r 0 then 1 else 0
    if !r.mirrored || !(s.drw drawer).degraded || s.copyComplete r c || !s.planFits r c plan then .next s else
    .next (s.deliver (.mirrorBuildDone drawer plan) fun u =>
      let s1 := { u with dram.dtt := plan ++ u.dram.dtt.filter fun (e : Extent) => !(e.drawer == drawer && e.copy == c) }
      let s2 := s1.setDrw drawer { s1.drw drawer with degraded := false }
      s2.memEvent .mirrorRebuilt ((plan.head?.map fun (e : Extent) => e.stack).getD 0) 0 drawer 0xFF 0xFF 0 0 0 0)

/-! ## Injection (R374, R375, R682) -/

/-- The kind of a number (Table 10–5, in order). -/
def injectKindOf : Nat → InjectKind
  | 0 => .readFlip1 | 1 => .readFlip2 | 2 => .storeFlip1 | _ => .storeFlip2

/-- Where a target lies: its stack, its physical line, and its drawer and line offset. (DEDUCED, log 87.) -/
def State.aim (s : State) : InjectTarget → Option (Nat × Nat × Nat × Nat)
  | .physical st l =>
    if st < s.power.part.slices ∧ ¬ (s.stk st).lost ∧ l < stackLines then
      match s.occupant st (l / 1024) with
      | some (d, b) => some (st, l, d, (b * 1024 + l % 1024) * 64)
      | none => some (st, l, 0, 0)
    else none
  | .pool d off =>
    (s.livePlaces d (off / 65536)).head?.map fun p => (p.1, p.2 * 1024 + off / 64 % 1024, d, off / 64 * 64)

/-- Arm an injection, with ERROR_INJECTED; RANGE for no such line, NOT_READY while one is armed.
(DEDUCED, log 87.) -/
def State.arm (s : State) (kind : Nat) (t : InjectTarget) : State × Status :=
  match s.aim t with
  | none => (s, .range)
  | some (st, l, d, off) =>
    let k := s.stk st
    if k.inject.isSome then (s, .notReady)
    else ((s.setStk st { k with inject := some (injectKindOf kind, l) }).memEvent .errorInjected st flagInjected d 0
      (if kind % 2 = 0 then 0xFF else 1) (l / 1024) l 0 off, .ok)

/-- INJECT (R374): the Bureau arms an injection. -/
def execInject (m : BureauMsg) (kind : Nat) (target : InjectTarget) (s : State) : Res :=
  .next (s.bureauRequest (.inject m kind target) m 0x0A armBody (some (kind, target)) adminOnly (s.isIn .ready) true fun u =>
    let r := u.arm kind target
    r.1.answer m.session m.reqId 0x0A r.2 [])

/-- INJECT_CANCEL (R375): the armed injection of the target's stack goes. -/
def execInjectCancel (m : BureauMsg) (target : InjectTarget) (s : State) : Res :=
  .next (s.bureauRequest (.injectCancel m target) m 0x0A cancelBody (some target) adminOnly (s.isIn .ready) true fun u =>
    match u.aim target with
    | none => u.answer m.session m.reqId 0x0A .range []
    | some x => (u.updStk x.1 fun k => { k with inject := none }).answer m.session m.reqId 0x0A .ok [])

/-- The target that SLICE_INJADDR holds, in the form that bit 5 of SLICE_INJECT chooses. -/
def injectTarget (st : Nat) (pool : Bool) (a : W64) : InjectTarget :=
  if pool then .pool (a.toNat % 65536) (a.toNat / 65536 % 2 ^ 40) else .physical st (a.toNat % 2 ^ 30)

/-- A write of SLICE_INJECT: CANCEL in bit 4 cancels; else the kind in [1:0] is armed. In pool form the line must lie on
this stack (R682). The status shows in the register; outside READY, and on an absent slice, the write is ignored (R668, R2). -/
def State.sliceInject (s : State) (st : Nat) (w : HostWrite) : State :=
  let v := w.value.toNat
  let say := fun (u : State) (x : Status) => u.updStk st fun k => { k with injStatus := x }
  if !s.isReady || s.power.part.slices ≤ st then s else
  s.submit w (0x120000 + st * 0x1000 + 0x80) false true (s.isIn .ready) (say · .notReady) fun u =>
    if bitOf v 4 then say (u.updStk st fun k => { k with inject := none }) .ok
    else
      let t := injectTarget st (bitOf v 5) (u.stk st).injAddr
      if optAny (u.aim t) (·.1 != st) then say u .range
      else let r := u.arm (bits v 1 0) t; say r.1 r.2

/-- SLICE_INJECT (R682). (DEDUCED, log 87.) -/
def execSliceInject (st : Fin 16) (w : HostWrite) (s : State) : Res := .next (s.hostGate (.sliceInject st w) (·.sliceInject st.val w))

/-- SLICE_INJECT_CANCEL (R375). -/
def execSliceInjectCancel (st : Fin 16) (w : HostWrite) (s : State) : Res :=
  .next (s.hostGate (.sliceInjectCancel st w) (·.sliceInject st.val { w with value := w.value ||| 0x10 }))

end Sys2Proof.Machine
end

