-- ==== Sys2Proof/Machine/LexTables.lean ====
section
/-! DEFINITION. What the lexicon engines compute (chapter 15): the checks of a load, UTF-8, the tokeniser's walk, the grammar's
runs and masks, the channels' bytes, and the windows. -/

namespace Sys2Proof

/-! ## Image load checks (Table 15–4) -/

/-- Whether tables (offset, size) lie within an image, 8-byte aligned, apart from the header and one another. -/
def tablesOk (total : Nat) (ts : List (Nat × Nat)) : Bool :=
  (ts.all fun t => t.1 % 8 == 0 && decide (64 ≤ t.1) && decide (t.1 + t.2 ≤ total)) &&
  ts.zipIdx.all fun a => ts.zipIdx.all fun b =>
    a.2 == b.2 || a.1.2 == 0 || b.1.2 == 0 || decide (a.1.1 + a.1.2 ≤ b.1.1) || decide (b.1.1 + b.1.2 ≤ a.1.1)

/-- The numbers of a dictionary header (Table 15–2). -/
structure DictHdr where
  t     : Nat
  n     : Nat
  edges : Nat
  l     : Nat
  cls   : Bool
  tok   : Nat
  pool  : Nat
  node  : Nat
  edge  : Nat
  clsAt : Nat
  plen  : Nat
deriving DecidableEq, Repr

/-- Read a dictionary header. -/
def dictHdr (b : List Byte) : DictHdr :=
  { t := field b 0x08 4, n := field b 0x0C 4, edges := field b 0x10 4, l := field b 0x14 2, cls := bitOf (field b 0x06 2) 0
    tok := field b 0x20 4, pool := field b 0x24 4, node := field b 0x28 4, edge := field b 0x2C 4, clsAt := field b 0x30 4
    plen := field b 0x34 4 }

/-- The tables of a dictionary. -/
def DictHdr.tables (h : DictHdr) : List (Nat × Nat) :=
  [(h.tok, 8 * h.t), (h.pool, h.plen), (h.node, 16 * h.n), (h.edge, 8 * h.edges)] ++ if h.cls then [(h.clsAt, 256)] else []

/-- The string of token `i` in an image; none where it lies outside the pool. -/
def DictHdr.string (h : DictHdr) (b : List Byte) (i : Nat) : Option (List Byte) :=
  let e := h.tok + 8 * i
  let o := field b e 4
  let n := field b (e + 4) 2
  if o + n ≤ h.plen then some (sub b (h.pool + o) n) else none

/-- The child of a node along a byte, in an image. -/
def DictHdr.child (h : DictHdr) (b : List Byte) (node : Nat) (x : Byte) : Option Nat :=
  let first := field b (h.node + 16 * node + 4) 4
  let count := field b (h.node + 16 * node + 8) 2
  ((List.range count).find? fun i => byteAt b (h.edge + 8 * (first + i)) == x.toNat).map fun i =>
    field b (h.edge + 8 * (first + i) + 4) 4

/-- The node that bytes reach from a node. -/
def DictHdr.reach (h : DictHdr) (b : List Byte) : Nat → List Byte → Option Nat
  | node, [] => some node
  | node, x :: xs => match h.child b node x with | none => none | some m => h.reach b m xs

/-- The token that ends at a node. -/
def DictHdr.tokenAt (h : DictHdr) (b : List Byte) (node : Nat) : Nat := field b (h.node + 16 * node) 4

/-- Whether a node's edges are in range and rise strictly (checks 8, Table 15–3). -/
def DictHdr.nodeOk (h : DictHdr) (b : List Byte) (node : Nat) : Bool :=
  let e := h.node + 16 * node
  let first := field b (e + 4) 4
  let count := field b (e + 8) 2
  let tok := h.tokenAt b node
  decide (count ≤ 256) && decide (first + count ≤ h.edges) && (tok == 0xFFFFFFFF || decide (tok < h.t)) &&
  (List.range count).all fun i =>
    decide (field b (h.edge + 8 * (first + i) + 4) 4 < h.n) &&
    (i == 0 || decide (byteAt b (h.edge + 8 * (first + i - 1)) < byteAt b (h.edge + 8 * (first + i))))

/-- The first check of Table 15–4 that a dictionary image of `len` bytes fails; 0 for none. -/
def dictCheck (b : List Byte) (len : Nat) : Nat :=
  let h := dictHdr b
  let total := field b 0x18 8
  let range := fun (n : Nat) (p : Nat → Bool) => (List.range n).all p
  let silent := fun (i : Nat) => bitOf (byteAt b (h.tok + 8 * i + 6)) 0
  if sub b 0 4 ≠ [0x57, 0x4C, 0x58, 0x44] ∨ field b 4 2 ≠ 1 then 1
  else if len ≠ total ∨ 2 ^ 29 < total ∨ total < 64 then 2
  else if !tablesOk total h.tables then 3
  else if field b 6 2 / 2 ≠ 0 ∨ field b 0x16 2 ≠ 0 ∨ field b 0x38 8 ≠ 0 ∨ (!h.cls && h.clsAt != 0) = true ∨
      ¬ (range h.t fun i => decide (byteAt b (h.tok + 8 * i + 6) < 2) && byteAt b (h.tok + 8 * i + 7) == 0) ∨
      ¬ (range h.n fun i => allZero (sub b (h.node + 16 * i + 10) 6)) ∨
      ¬ (range h.edges fun i => allZero (sub b (h.edge + 8 * i + 1) 3)) ∨
      (h.cls && !range 256 fun i => decide (byteAt b (h.clsAt + i) < 4)) = true then 4
  else if h.t < 256 ∨ 1048576 < h.t ∨ h.n < 256 ∨ 16777216 < h.n ∨ h.edges ≠ h.n - 1 ∨ h.l = 0 ∨ 256 < h.l then 5
  else if !(range 256 fun i => h.string b i == some [BitVec.ofNat 8 i]) ||
      !(field b (h.node + 8) 2 == 256 && range 256 fun i =>
        match h.child b 0 (BitVec.ofNat 8 i) with | none => false | some m => decide (m < h.n) && h.tokenAt b m == i) then 6
  else if !(range h.t fun i =>
      decide (field b (h.tok + 8 * i + 4) 2 ≤ h.l) && silent i == (field b (h.tok + 8 * i + 4) 2 == 0)) then 7
  else if !(range h.n fun i => h.nodeOk b i) ||
      !(range h.t fun i => match h.string b i with
        | none => false
        | some x => silent i || (match h.reach b 0 x with | none => false | some m => h.tokenAt b m == i)) ||
      !(range h.n fun m => h.tokenAt b m == 0xFFFFFFFF ||
        (!silent (h.tokenAt b m) && match h.string b (h.tokenAt b m) with | none => false | some x => h.reach b 0 x == some m))
    then 8
  else 0

/-- The numbers of a grammar header (Table 15–5). -/
structure GramHdr where
  v      : Nat
  s      : Nat
  start  : Nat
  runs   : Nat
  state  : Nat
  run    : Nat
deriving DecidableEq, Repr

/-- Read a grammar header. -/
def gramHdr (b : List Byte) : GramHdr :=
  { v := field b 0x08 4, s := field b 0x0C 4, start := field b 0x10 4, runs := field b 0x18 8, state := field b 0x20 8
    run := field b 0x28 8 }

/-- A run (Table 15–6): first token, length, next state. -/
def gramRun (b : List Byte) : Nat × Nat × Nat :=
  let v := field b 0 8
  (bits v 19 0, bits v 39 20 + 1, bits v 63 40)

/-- The first check of Table 15–4 that a grammar image of `len` bytes fails; 0 for none. -/
def gramCheck (b : List Byte) (len : Nat) : Nat :=
  let h := gramHdr b
  let total := field b 0x30 8
  let run := fun (i : Nat) => gramRun (sub b (h.run + 8 * i) 8)
  if sub b 0 4 ≠ [0x57, 0x4C, 0x58, 0x47] ∨ field b 4 2 ≠ 1 then 1
  else if len ≠ total ∨ 2 ^ 32 < total ∨ total < 64 then 2
  else if !tablesOk total [(h.state, 16 * h.s), (h.run, 8 * h.runs)] then 3
  else if field b 6 2 ≠ 0 ∨ field b 0x14 4 ≠ 0 ∨ field b 0x38 8 ≠ 0 ∨
      ¬ ((List.range h.s).all fun i => decide (byteAt b (h.state + 16 * i + 12) < 2) && allZero (sub b (h.state + 16 * i + 13) 3))
    then 4
  else if h.v < 256 ∨ 1048576 < h.v ∨ h.s = 0 ∨ 16777216 < h.s ∨ h.s ≤ h.start then 9
  else if !((List.range h.s).all fun i =>
      let first := field b (h.state + 16 * i) 8
      let count := field b (h.state + 16 * i + 8) 4
      decide (first + count ≤ h.runs) && (List.range count).all fun k =>
        let r := run (first + k)
        decide (r.1 + r.2.1 ≤ h.v) && decide (r.2.2 < h.s) &&
        (k == 0 || decide ((run (first + k - 1)).1 + (run (first + k - 1)).2.1 ≤ r.1))) then 10
  else 0

/-! ## UTF-8 (R532, R548) -/

/-- Continuation bytes after a lead byte, and the range of the first (the Unicode Standard, Table 3-7). -/
def utf8Lead (b : Nat) : Option (Nat × Nat × Nat) :=
  if 0xC2 ≤ b ∧ b ≤ 0xDF then some (1, 0x80, 0xBF)
  else if b = 0xE0 then some (2, 0xA0, 0xBF)
  else if b = 0xED then some (2, 0x80, 0x9F)
  else if 0xE1 ≤ b ∧ b ≤ 0xEF then some (2, 0x80, 0xBF)
  else if b = 0xF0 then some (3, 0x90, 0xBF)
  else if 0xF1 ≤ b ∧ b ≤ 0xF3 then some (3, 0x80, 0xBF)
  else if b = 0xF4 then some (3, 0x80, 0x8F)
  else none

/-- How many of the next `n` bytes continue a sequence, the first within a range. -/
def contCount : Nat → Nat → Nat → List Byte → Nat
  | 0, _, _, _ => 0
  | _, _, _, [] => 0
  | n + 1, lo, hi, b :: bs => if lo ≤ b.toNat ∧ b.toNat ≤ hi then 1 + contCount n 0x80 0xBF bs else 0

/-- Whether a byte is a continuation byte. -/
def isCont (b : Byte) : Bool := decide (0x80 ≤ b.toNat) && decide (b.toNat ≤ 0xBF)

/-- What a byte string is: nothing well formed, a complete character, or a well-formed prefix. -/
inductive Utf8 where
  | bad | complete | prefix_
deriving DecidableEq, Repr

/-- Classify a byte string as one character. -/
def utf8Of : List Byte → Utf8
  | [] => .bad
  | b :: bs =>
    if b.toNat < 0x80 then (if bs.isEmpty then .complete else .bad)
    else match utf8Lead b.toNat with
      | none => .bad
      | some (n, lo, hi) =>
        let m := contCount n lo hi bs
        if m ≠ bs.length then .bad else if m = n then .complete else .prefix_

/-- A byte as it will be matched: whether it is valid, and how many source bytes end with it where a source byte does. -/
structure Cell where
  byte : Byte
  ok   : Bool
  fin  : Option Nat
deriving DecidableEq, Repr

/-- The replacement character of repair. -/
def replacement : List Byte := [0xEF, 0xBF, 0xBD]

/-- The cells of a maximal subpart that ends at source position `e` and starts at `p`. -/
def badCells (repair : Bool) (p : Nat) (bs : List Byte) : List Cell :=
  if repair then
    [{ byte := 0xEF, ok := true, fin := none }, { byte := 0xBF, ok := true, fin := none },
     { byte := 0xBD, ok := true, fin := some (p + bs.length) }]
  else bs.zipIdx.map fun x => { byte := x.1, ok := false, fin := some (p + x.2 + 1) }

/-- Classify the available bytes from source position `p` (R532, R535, R536): the cells, the source positions at which
counted bytes or replacements end, and the bytes of undetermined validity. `fuel` bounds the characters. -/
def classifyBytes (final repair : Bool) : Nat → Nat → List Byte → List Cell × List Nat × List Byte
  | 0, _, _ => ([], [], [])
  | _, _, [] => ([], [], [])
  | fuel + 1, p, b :: bs =>
    let bad := fun (m : Nat) =>
      let part := b :: bs.take m
      let r := classifyBytes final repair fuel (p + part.length) (bs.drop m)
      let counted := if repair then [p + part.length] else (List.range part.length).map (p + · + 1)
      (badCells repair p part ++ r.1, counted ++ r.2.1, r.2.2)
    let good := fun (m : Nat) =>
      let part := b :: bs.take m
      let r := classifyBytes final repair fuel (p + part.length) (bs.drop m)
      ((part.zipIdx.map fun x => { byte := x.1, ok := true, fin := some (p + x.2 + 1) }) ++ r.1, r.2.1, r.2.2)
    if b.toNat < 0x80 then good 0
    else match utf8Lead b.toNat with
      | none => bad 0
      | some (n, lo, hi) =>
        let m := contCount n lo hi bs
        if m = n then good n
        else if m = bs.length && !final then ([], [], b :: bs)
        else bad m

/-- The cells of a carry and an input. A carry begins inside a character only where that character's earlier bytes have
been matched, so its leading continuation bytes are valid. -/
def cellsOf (carry input : List Byte) (final repair : Bool) : List Cell × List Nat × List Byte :=
  let lead := (carry.takeWhile isCont).length
  let r := classifyBytes final repair (carry.length + input.length + 1) lead (carry.drop lead ++ input)
  (((carry.take lead).zipIdx.map fun x => { byte := x.1, ok := true, fin := some (x.2 + 1) }) ++ r.1, r.2.1, r.2.2)

/-- The cells after source position `p`. -/
def cellsFrom (p : Nat) (cells : List Cell) : List Cell :=
  match cells.findIdx? fun c => c.fin == some p with
  | none => cells
  | some i => cells.drop (i + 1)

/-! ## Channels (R547 to R549) -/

/-- A byte through a WHOLE channel's held bytes: what is held, what is written, whether each step substituted. -/
def wholeByte (held : List Byte) (b : Byte) : List Byte × List Byte × Nat :=
  let fresh : List Byte × List Byte × Nat :=
    match utf8Of [b] with
    | .complete => ([], [b], 0)
    | .prefix_ => ([b], [], 0)
    | .bad => ([], replacement, 1)
  if held.isEmpty then fresh
  else match utf8Of (held ++ [b]) with
    | .complete => ([], held ++ [b], 0)
    | .prefix_ => (held ++ [b], [], 0)
    | .bad => (fresh.1, replacement ++ fresh.2.1, 1 + fresh.2.2)

/-- Bytes through a channel: the channel after, the bytes written, the substitutions. -/
def Channel.feed (c : Channel) (bs : List Byte) : Channel × List Byte × Nat :=
  if !c.whole then (c, bs, 0) else
  let r := bs.foldl (fun (acc : List Byte × List Byte × Nat) b =>
    let x := wholeByte acc.1 b
    (x.1, acc.2.1 ++ x.2.1, acc.2.2 + x.2.2)) (c.held, [], 0)
  ({ c with held := r.1, subst := satAdd 0xFFFFFFFF c.subst r.2.2 }, r.2.1, r.2.2)

/-- FINAL on a channel (R549). -/
def Channel.final (c : Channel) : Channel × List Byte × Nat :=
  if c.whole && !c.held.isEmpty then
    ({ c with held := [], subst := satAdd 0xFFFFFFFF c.subst 1 }, replacement, 1)
  else (c, [], 0)

/-- The drawer of a channel's window. -/
def Channel.drawer (c : Channel) : Nat := bits c.window.toNat 15 0
/-- The offset of a channel's window in its drawer. -/
def Channel.offset (c : Channel) : Nat := bits c.window.toNat 55 16

/-- A window's header line (Table 15–7). -/
def Channel.header (c : Channel) : List Byte :=
  leBytes 8 c.wpos ++ leBytes 8 c.finalPos ++ leBytes 4 c.subst ++ leBytes 1 (b2n c.whole) ++ leBytes 1 c.n ++
  List.replicate 42 0

/-- The runs of ring bytes that `len` bytes from stream position `pos` cover; `fuel` bounds them. -/
def ringRuns (n : Nat) : Nat → Nat → Nat → List (Nat × Nat)
  | 0, _, _ => []
  | fuel + 1, pos, len =>
    if len = 0 then [] else
    let o := pos % 2 ^ n
    let m := min len (2 ^ n - o)
    (o, m) :: ringRuns n fuel (pos + m) (len - m)

end Sys2Proof

namespace Sys2Proof.Machine

/-! ## Looking things up in a loaded image (R525) -/

/-- A lookup that may end its command: with POISONED at a poisoned line, with FORMAT outside the image. -/
abbrev Look (α : Type) := State × Except Status α

/-- Continue a lookup. -/
def Look.andThen {α β : Type} (x : Look α) (f : State → α → Look β) : Look β :=
  match x.2 with
  | .ok a => f x.1 a
  | .error e => (x.1, .error e)

/-- Read `n` bytes at offset `o` of an image. (DEDUCED, log 66.) -/
def State.look (s : State) (im : LexImage) (o n : Nat) : Look (List Byte) :=
  if im.length < o + n then (s, .error .format)
  else
    let r := s.readRange im.drawer (im.offset + o) n
    if r.2.bad.isSome then (r.1, .error .poisoned) else (r.1, .ok r.2.data)

/-- A dictionary's header. (DEDUCED, log 66.) -/
def State.lookDict (s : State) (im : LexImage) : Look DictHdr :=
  (s.look im 0 64).andThen fun u b => (u, .ok (dictHdr b))

/-- A grammar's header. (DEDUCED, log 66.) -/
def State.lookGram (s : State) (im : LexImage) : Look GramHdr :=
  (s.look im 0 64).andThen fun u b => (u, .ok (gramHdr b))

/-- Find the edge of a byte among `count` edges from index `i`. -/
def State.lookEdge (im : LexImage) (h : DictHdr) (b : Byte) : Nat → Nat → State → Look (Option Nat)
  | 0, _, s => (s, .ok none)
  | count + 1, i, s =>
    if h.edges ≤ i then (s, .error .format) else
    (s.look im (h.edge + 8 * i) 8).andThen fun u e =>
      if byteAt e 0 = b.toNat then (if field e 4 4 < h.n then (u, .ok (some (field e 4 4))) else (u, .error .format))
      else State.lookEdge im h b count (i + 1) u

/-- The break bits of a byte: before, after (Table 15–3). -/
def State.lookBreak (s : State) (im : LexImage) (h : DictHdr) (b : Byte) : Look (Bool × Bool) :=
  if !h.cls then (s, .ok (false, false)) else
  (s.look im (h.clsAt + b.toNat) 1).andThen fun u x => (u, .ok (bitOf (byteAt x 0) 0, bitOf (byteAt x 0) 1))

/-- The walk of R533 and R534 from a node: the candidate's length and token, or none where the tokeniser waits. -/
def State.walk (im : LexImage) (h : DictHdr) (final : Bool) :
    List Cell → Nat → Nat → Bool → Option (Nat × Nat) → State → Look (Option (Nat × Nat))
  | cells, node, depth, brk, cand, s =>
    let emit := fun (u : State) => match cand with | some c => (u, .ok (some c)) | none => (u, .error .format)
    if depth = h.l ∨ brk then emit s
    else match cells with
      | [] => if final then emit s else (s, .ok none)
      | c :: rest =>
        (s.lookBreak im h c.byte).andThen fun u br =>
          if depth ≠ 0 ∧ br.1 then emit u
          else if !c.ok then emit u
          else (u.look im (h.node + 16 * node) 16).andThen fun u1 nd =>
            (State.lookEdge im h c.byte (field nd 8 2) (field nd 4 4) u1).andThen fun u2 child =>
              match child with
              | none => emit u2
              | some m =>
                (u2.look im (h.node + 16 * m) 4).andThen fun u3 tb =>
                  let tok := field tb 0 4
                  if tok ≠ 0xFFFFFFFF ∧ h.t ≤ tok then (u3, .error .format)
                  else State.walk im h final rest m (depth + 1) br.2 (if tok = 0xFFFFFFFF then cand else some (depth + 1, tok)) u3

/-- One token from the cells (R533): the token, the source position it ends at, and the cells after it; none where the
tokeniser emits nothing more. -/
def State.nextToken (s : State) (im : LexImage) (h : DictHdr) (final : Bool) (cells : List Cell) :
    Look (Option (Nat × Option Nat × List Cell)) :=
  match cells with
  | [] => (s, .ok none)
  | c :: rest =>
    if !c.ok then (s, .ok (some (c.byte.toNat, c.fin, rest)))
    else (State.walk im h final cells 0 0 false none s).andThen fun u r =>
      match r with
      | none => (u, .ok none)
      | some (n, tok) => (u, .ok (some (tok, (cells.getD (n - 1) c).fin, cells.drop n)))

/-- What a run of the tokeniser gives: tokens with the source positions they end at, the cells left, whether a further
token stood ready, and the status that a lookup ended with. -/
structure Tokens where
  out  : List (Nat × Option Nat)
  left : List Cell
  more : Bool
  st   : Status
deriving DecidableEq, Repr

/-- Emit up to `n` tokens (R533, R534, R539). -/
def State.emitTokens (im : LexImage) (h : DictHdr) (final : Bool) : Nat → List Cell → State → State × Tokens
  | 0, cells, s =>
    match s.nextToken im h final cells with
    | (u, .ok r) => (u, { out := [], left := cells, more := r.isSome, st := .ok })
    | (u, .error e) => (u, { out := [], left := cells, more := false, st := e })
  | n + 1, cells, s =>
    match s.nextToken im h final cells with
    | (u, .error e) => (u, { out := [], left := cells, more := false, st := e })
    | (u, .ok none) => (u, { out := [], left := cells, more := false, st := .ok })
    | (u, .ok (some (tok, fin, rest))) =>
      let r := State.emitTokens im h final n rest u
      (r.1, { r.2 with out := (tok, fin) :: r.2.out })

/-- Drop the tokens after the last that ends at a source byte: a stop falls on an input byte boundary (R540, R562). -/
def wholeTokens (out : List (Nat × Option Nat)) : List (Nat × Option Nat) :=
  (out.reverse.dropWhile fun x => x.2.isNone).reverse

/-- The source position that tokens cover, from `p`. -/
def coveredBy (p : Nat) (out : List (Nat × Option Nat)) : Nat := out.foldl (fun a x => match x.2 with | some e => e | none => a) p

/-! ## Grammars (R543, R544) -/

/-- A state's runs, from index `i` on. -/
def State.lookRuns (im : LexImage) (h : GramHdr) : Nat → Nat → State → Look (List (Nat × Nat × Nat))
  | 0, _, s => (s, .ok [])
  | count + 1, i, s =>
    if h.runs ≤ i then (s, .error .format) else
    (s.look im (h.run + 8 * i) 8).andThen fun u b =>
      (State.lookRuns im h count (i + 1) u).andThen fun v rs => (v, .ok (gramRun b :: rs))

/-- A grammar state: its runs and its accept flag; RANGE at or above S. -/
def State.lookState (s : State) (im : LexImage) (h : GramHdr) (st : Nat) : Look (List (Nat × Nat × Nat) × Bool) :=
  if h.s ≤ st then (s, .error .range) else
  (s.look im (h.state + 16 * st) 16).andThen fun u b =>
    (State.lookRuns im h (field b 8 4) (field b 0 8) u).andThen fun v rs => (v, .ok (rs, bitOf (byteAt b 12) 0))

/-- The result word of a grammar command: the state and its accept flag (R543). -/
def gramWord (st : Nat) (accept : Bool) : W64 := BitVec.ofNat 64 (st % 2 ^ 24 + 2 ^ 24 * b2n accept)

/-- ADVANCE from state `st` by token `t`: the status, the resulting state and its result word (R543). -/
def State.advanceGram (s : State) (im : LexImage) (h : GramHdr) (st t : Nat) : Look (Status × Nat × W64) :=
  (s.lookState im h st).andThen fun u x =>
    if h.v ≤ t then (u, .error .range)
    else match x.1.find? fun r => decide (r.1 ≤ t) && decide (t < r.1 + r.2.1) with
      | none => (u, .ok (.rejected, st, gramWord st x.2))
      | some r =>
        if h.s ≤ r.2.2 then (u, .error .format) else
        (u.lookState im h r.2.2).andThen fun v y => (v, .ok (.ok, r.2.2, gramWord r.2.2 y.2))

/-- The mask of a state (R544): bit t is 1 exactly when t is allowed. -/
def State.maskOf (s : State) (im : LexImage) (h : GramHdr) (st : Nat) : Look (List Byte × W64) :=
  (s.lookState im h st).andThen fun u x =>
    let on := fun (t : Nat) => decide (t < h.v) && x.1.any fun r => decide (r.1 ≤ t) && decide (t < r.1 + r.2.1)
    (u, .ok ((List.range (maskBytes h.v)).map fun i =>
        BitVec.ofNat 8 (((List.range 8).map fun k => 2 ^ k * b2n (on (8 * i + k))).sum), gramWord st x.2))

/-! ## Windows (R550 to R552) -/

/-- Write a channel's bytes to its window's ring: the channel after, and whether a poisoned line refused. None where the
write must wait. (DEDUCED, log 67.) -/
def State.windowWrite (s : State) (c : Channel) (bs : List Byte) : Option (State × Channel × Bool) :=
  let runs := ringRuns c.n (bs.length + 1) c.wpos bs.length
  let r := runs.foldl (fun (acc : Option (State × Nat × Bool)) x =>
    match acc with
    | none => none
    | some (u, i, bad) =>
      let off := c.offset + 64 + x.1
      match u.claimRange c.drawer off x.2 with
      | none => none
      | some v =>
        let w := v.writeRange c.drawer off (sub bs i x.2)
        some (w.1, i + x.2, bad || w.2.isSome)) (some (s, 0, false))
  r.map fun x => (x.1, { c with wpos := c.wpos + bs.length }, x.2.2)

/-- Update a window's header (R551). (DEDUCED, log 67.) -/
def State.windowHeader (s : State) (c : Channel) : Option State :=
  (s.claimRange c.drawer c.offset 64).map fun u => (u.writeRange c.drawer c.offset c.header).1

/-- Write to every channel what `f` makes of it, and update the headers: the channels after, the substitutions, and
whether a line refused. None where a write must wait. (DEDUCED, log 67.) -/
def State.feedChannels (f : Channel → Channel × List Byte × Nat) :
    List Channel → State → Option (State × List Channel × Nat × Bool)
  | [], s => some (s, [], 0, false)
  | c :: cs, s =>
    let x := f c
    match (s.windowWrite x.1 x.2.1) with
    | none => none
    | some (u, c1, bad) =>
      match u.windowHeader c1 with
      | none => none
      | some v =>
        match State.feedChannels f cs v with
        | none => none
        | some (w, rest, n, b) => some (w, c1 :: rest, x.2.2 + n, bad || b)

/-- The bytes of a token; RANGE at or above T (R546). -/
def State.tokenBytes (s : State) (im : LexImage) (h : DictHdr) (t : Nat) : Look (List Byte) :=
  if h.t ≤ t then (s, .error .range) else
  (s.look im (h.tok + 8 * t) 8).andThen fun u e =>
    let o := field e 0 4
    let n := field e 4 2
    if h.l < n ∨ h.plen < o + n then (u, .error .format)
    else if n = 0 then (u, .ok []) else u.look im (h.pool + o) n

/-- The bytes of a run of tokens: how many passed, their bytes, and what ended the run. (DEDUCED, log 64.) -/
def State.tokenRun (im : LexImage) (h : DictHdr) : List Nat → State → State × Nat × List Byte × Status
  | [], s => (s, 0, [], .ok)
  | t :: ts, s =>
    match s.tokenBytes im h t with
    | (u, .error e) => (u, 0, [], e)
    | (u, .ok b) =>
      let r := State.tokenRun im h ts u
      (r.1, r.2.1 + 1, b ++ r.2.2.1, r.2.2.2)

end Sys2Proof.Machine
end

