-- ==== Sys2Proof/Machine/Lexicon.lean ====
section
/-! DEFINITION. The lexicon engines' fabric requests (R553, R557 to R561) and what they share with the queue commands. -/

namespace Sys2Proof

/-- The result word of a TOKENIZE (R541). -/
def tokWord (consumed count : Nat) (early : Bool) : W64 :=
  BitVec.ofNat 64 (consumed % 2 ^ 32 + 2 ^ 32 * min 0xFFFFFF count + 2 ^ 62 * b2n early + 2 ^ 63 * b2n (count != 0))

/-- The progress word of a TOKENIZE (R541). -/
def tokProgress (p written : Nat) : W64 := BitVec.ofNat 64 (p % 2 ^ 32 + 2 ^ 32 * written)

/-- The result word of a DETOKENIZE (R549). -/
def detokWord (subst : Nat) (early : Bool) : W64 := BitVec.ofNat 64 (subst % 2 ^ 32 + 2 ^ 62 * b2n early)

/-- The carry after an early stop that covers `p` bytes (R540). (DEDUCED, log 64.) -/
def carryAfter (carry : List Byte) (p : Nat) : List Byte := if carry.length ≤ p then [] else carry.drop p

/-- How many of the counted bytes or replacements lie within `p` source bytes. -/
def countedBy (counted : List Nat) (p : Nat) : Nat := (counted.filter fun e => decide (e ≤ p)).length

/-- FINAL on a channel, with the write position it leaves as the position of the last FINAL. -/
def Channel.close (c : Channel) : Channel × List Byte × Nat :=
  let x := c.final
  ({ x.1 with finalPos := c.wpos + x.2.1.length }, x.2.1, x.2.2)

/-- The stream of a lexicon command or request. -/
def Req.stream (r : Req) : Nat := r.offset.toNat
/-- The sequence of a stream-changing request (R557). -/
def Req.seq (r : Req) : BitVec 16 := BitVec.ofNat 16 (bits r.word.toNat 31 16)

end Sys2Proof

namespace Sys2Proof.Machine

/-- The loaded dictionary of a slot. -/
def State.dict (s : State) (t slot : Nat) : Option LexImage := s.images.get (imageKey t false slot) none
/-- The loaded grammar of a slot. -/
def State.gram (s : State) (t slot : Nat) : Option LexImage := s.images.get (imageKey t true slot) none

/-- Whether a queue command in execution uses a stream (R524). (DEDUCED, log 68.) -/
def State.streamBusy (s : State) (n : Nat) : Bool :=
  s.queues.any fun e => (optAny (s.range e.1) fun r => r.cls == clsLexicon) && e.2.running.any fun c =>
    c.phase != .ended && !c.refused && usesStream c.bytes && field c.bytes 16 2 == n

/-- Why a command on a window cannot write it: its drawer left the tenant, or is frozen (R439, R550). -/
def State.windowFault (s : State) (t : Nat) (c : Channel) : Option Status :=
  match s.drawer c.drawer with
  | none => some .denied
  | some d =>
    if d.tenant != t then some .denied
    else if d.bytes < c.offset + windowBytes c.n then some .range
    else if s.drawerFrozen d.id || s.sweeping d.id then some .held
    else none

/-- The first fault of a stream's windows. -/
def State.windowsFault (s : State) (t : Nat) (cs : List Channel) : Option Status := (cs.filterMap fun c => s.windowFault t c).head?

/-! ## Checks of a fabric request (R558) -/

/-- Checks 1 to 3 of R558: the stream's tenant, and the source's right there. They are the request's stage 4. -/
def State.lexRight (write : Bool) (s : State) (r : Req) : Option Status :=
  match s.streamTenant r.stream with
  | none => some .denied
  | some t =>
    if optAny (s.boundCert r.src.toNat) fun c => s.admitted c t false && (!write || s.admitted c t true) then none
    else some .denied

/-- Checks 4 and 5 of R558 on a stream, with the image that `need` names. -/
def State.lexReady (s : State) (n : Nat) (need : Stream → Option LexImage) : Except Status LexImage :=
  let x := s.stream n
  if !x.isOpen then .error .notReady
  else match need x with
    | none => .error .notReady
    | some im => if s.streamFrozen n then .error .held else .ok im

/-- The gate of a request in its turn: it waits while a queue command uses its stream (R524), where it uses it too; then checks 4
and 5 of R558 decide. (DEDUCED, log 68.) -/
def State.lexGate (s : State) (r : Req) (uses : Bool) (need : Nat → Stream → Option LexImage)
    (f : Nat → LexImage → Served) : Served :=
  let t := (s.streamTenant r.stream).getD 0
  if uses && s.streamBusy r.stream then (s, none)
  else match s.lexReady r.stream (need t) with
    | .error st => (s, some { status := st })
    | .ok im => f t im

/-- A stream-changing request under its sequence (R560): performed and stored, answered from the store, or refused.
(DEDUCED, log 68.) -/
def State.sequenced (s : State) (r : Req) (f : State → Served) : Served :=
  let x := s.stream r.stream
  if r.seq = x.seq then
    match f s with
    | (u, some y) =>
      let z := u.stream r.stream
      (u.setStream r.stream { z with seq := x.seq + 1, stored := some { status := y.status, word := y.word, data := y.data } }, some y)
    | w => w
  else match x.stored with
    | some y => if r.seq = x.seq - 1 then (s, some { status := y.status, word := y.word, data := y.data })
                else (s, some { status := .range, word := x.seq.zeroExtend 64 })
    | none => (s, some { status := .range, word := x.seq.zeroExtend 64 })

/-! ## TOKENIZE and DETOKENIZE (R559) -/

/-- A fabric TOKENIZE: at most 1,024 tokens, in the response. -/
def State.tokenizeNow (s : State) (r : Req) (im : LexImage) : Served :=
  let x := s.stream r.stream
  let input := sub r.data 0 r.length.toNat
  let final := bitOf r.word.toNat 0
  match s.lookDict im with
  | (u, .error st) => (u, some { status := st, word := tokWord 0 0 true })
  | (u, .ok h) =>
    if input.isEmpty && !final then (u, some { status := .ok, word := tokWord 0 0 false }) else
    let c := cellsOf x.carry input final (bitOf r.word.toNat 1)
    let e := State.emitTokens im h final 1024 c.1 u
    let early := e.2.more || e.2.st != .ok
    let out := if early then wholeTokens e.2.out else e.2.out
    let p := coveredBy 0 out
    let data := out.flatMap fun t => leBytes 4 t.1
    if early then
      (e.1.setStream r.stream { x with carry := carryAfter x.carry p },
       some { status := e.2.st, word := tokWord (p - x.carry.length) (countedBy c.2.1 p) true, data := data })
    else
      (e.1.setStream r.stream { x with carry := if final then [] else (e.2.left.map (·.byte)) ++ c.2.2 },
       some { status := .ok, word := tokWord input.length c.2.1.length false, data := data })

/-- A fabric TOKENIZE past stage 4. -/
def State.serveTokenize (s : State) (r : Req) : Served :=
  s.lexGate r true (fun t x => s.dict t x.dict) fun _ im => s.sequenced r fun u => u.tokenizeNow r im

/-- What detokenising a run of tokens on a stream, then FINAL, leaves: the stream, how many tokens passed, the
substitutions, whether a line refused, and the status. None where a write must wait. -/
def State.detokenize (s : State) (n : Nat) (im : LexImage) (h : DictHdr) (tokens : List Nat) (final : Bool) :
    Option (State × Nat × Nat × Bool × Status) :=
  let x := s.stream n
  let r := State.tokenRun im h tokens s
  let flush := final && r.2.2.2 == .ok
  match State.feedChannels (fun c => c.feed r.2.2.1) x.chans r.1 with
  | none => none
  | some (u, cs, k, bad) =>
    match (if flush then State.feedChannels Channel.close cs u else some (u, cs, 0, false)) with
    | none => none
    | some (v, cs2, k2, bad2) => some (v.setStream n { x with chans := cs2 }, r.2.1, k + k2, bad || bad2, r.2.2.2)

/-- A fabric DETOKENIZE. -/
def State.detokenizeNow (s : State) (r : Req) (t : Nat) (im : LexImage) : Served :=
  let x := s.stream r.stream
  let final := bitOf r.word.toNat 0
  let tokens := (List.range (r.length.toNat / 4)).map fun i => field r.data (4 * i) 4
  if tokens.isEmpty && !final then (s, some { status := .ok, word := detokWord 0 false }) else
  match s.windowsFault t x.chans with
  | some st => (s, some { status := st, word := detokWord 0 true })
  | none =>
    match s.lookDict im with
    | (u, .error st) => (u, some { status := st, word := detokWord 0 true })
    | (u, .ok h) =>
      match u.detokenize r.stream im h tokens final with
      | none => (s, none)
      | some (v, _, k, bad, st) =>
        (v, some { status := if st = .ok ∧ bad then .poisoned else st, word := detokWord k (st != .ok) })

/-- A fabric DETOKENIZE past stage 4. -/
def State.serveDetokenize (s : State) (r : Req) : Served :=
  s.lexGate r true (fun t x => s.dict t x.dict) fun t im => s.sequenced r fun u => u.detokenizeNow r t im

/-! ## Grammar requests (R543 to R545, R561) -/

/-- Whether a grammar request is in stream form. -/
def Req.streamForm (r : Req) : Bool := bitOf r.word.toNat 2
/-- The grammar image that a request uses. -/
def State.reqGram (s : State) (r : Req) (t : Nat) (x : Stream) : Option LexImage :=
  if Req.streamForm r then x.gram.bind fun g => s.gram t g.1 else s.gram t (byteAt r.ops 4)
/-- The state that a request starts from. -/
def State.reqState (s : State) (r : Req) : Nat :=
  if Req.streamForm r then (match (s.stream r.stream).gram with | some g => g.2 | none => 0) else field r.ops 0 3

/-- A slot outside the tenant's reservation is DENIED (R522), before the gate's other checks. (DEDUCED, log 65.) -/
def State.gramSlotOk (s : State) (r : Req) : Bool :=
  Req.streamForm r || optAny ((s.streamTenant r.stream).bind s.tenant) fun t => decide (byteAt r.ops 4 < t.grammarSlots)

/-- Stage 4 of a grammar request. -/
def State.checkGrammar (s : State) (r : Req) : Option Status :=
  if !s.gramSlotOk r then some .denied else State.lexRight (Req.streamForm r) s r

/-- A stream's grammar position moves to a state (R545). -/
def State.moveGram (s : State) (n st : Nat) : State :=
  let x := s.stream n
  match x.gram with
  | none => s
  | some g => s.setStream n { x with gram := some (g.1, st) }

/-- Send a mask to the requester by outbound WRITEs of at most 4,096 bytes; the request waits for them (R561).
(DEDUCED, log 69.) -/
def State.sendMask (s : State) (op : Nat) (r : Req) (mask : List Byte) (word : W64) : Served :=
  let parts := chunks 4096 (mask.length + 1) mask
  let key := s.fabric.nextOut
  let d := field r.ops 16 2
  let o := field r.ops 18 5
  let s1 := { s with fabric.parked := s.fabric.parked ++ [.mask op { r with found := [] } key parts.length none word true] }
  (parts.zipIdx.foldl (fun (u : State) x =>
      u.issue (.mask r.port.val r.src.toNat key) 0x02 r.src.toNat d (o + 4096 * x.2) 0 x.1 x.2) s1,
    some { status := .ok, word := word, later := true })

/-- A fabric MASK_FETCH past stage 4. -/
def State.serveMaskFetch (s : State) (r : Req) : Served :=
  s.lexGate r (Req.streamForm r) (s.reqGram r) fun _ im =>
    match (s.lookGram im).andThen fun u h => u.maskOf im h (s.reqState r) with
    | (u, .error st) => (u, some { status := st })
    | (u, .ok x) => u.sendMask 0x22 r x.1 x.2

/-- ADVANCE, and with `fetch` the mask of the new state. -/
def State.advanceNow (s : State) (r : Req) (im : LexImage) (fetch : Bool) : Served :=
  match (s.lookGram im).andThen fun u h => (u.advanceGram im h (s.reqState r) (field r.ops 8 4)).andThen fun v x => (v, .ok (h, x)) with
  | (u, .error st) => (u, some { status := st })
  | (u, .ok (h, st, next, word)) =>
    let move := fun (v : State) => if st = .ok ∧ Req.streamForm r then v.moveGram r.stream next else v
    if st = .ok ∧ fetch then
      match u.maskOf im h next with
      | (v, .error e) => (v, some { status := e, word := word })
      | (v, .ok x) => (move v).sendMask 0x24 r x.1 word
    else (move u, some { status := st, word := word })

/-- ADVANCE or ADVANCE_FETCH past stage 4. -/
def State.serveAdvanceForm (s : State) (r : Req) (fetch : Bool) : Served :=
  s.lexGate r (Req.streamForm r) (s.reqGram r) fun _ im =>
    if Req.streamForm r then s.sequenced r fun u => u.advanceNow r im fetch else s.advanceNow r im fetch

/-- ADVANCE past stage 4. -/
def State.serveAdvance (s : State) (r : Req) : Served := s.serveAdvanceForm r false
/-- ADVANCE_FETCH past stage 4. (DEDUCED, log 69.) -/
def State.serveAdvanceFetch (s : State) (r : Req) : Served := s.serveAdvanceForm r true

/-! ## STREAM_READ (R553) -/

/-- The channel that a STREAM_READ names, where its stream is open with it and its window lies in DRAWER. -/
def State.windowOf (s : State) (r : Req) : Option Channel :=
  let x := s.stream (bits r.word.toNat 15 0)
  let ch := x.chans[bits r.word.toNat 17 16]?
  if x.isOpen && optAny ch (fun c => c.drawer == r.drawer.toNat) then ch else none

/-- STREAM_READ's stage 4: the window, then checks 1 to 3 and 5 of Table 1–3. -/
def State.checkStreamRead (s : State) (r : Req) : Option Status :=
  if (s.windowOf r).isNone then some .denied else s.access { r with offset := 0 } false 0

/-- STREAM_READ past stage 4: a LENGTH of 0 touches no memory (R268). -/
def State.serveStreamRead (s : State) (r : Req) : Served :=
  match s.windowOf r with
  | none => (s, some { status := .denied })
  | some c =>
    let w : W64 := BitVec.ofNat 64 c.wpos
    let dist := (c.wpos + 2 ^ 40 - r.offset.toNat) % 2 ^ 40
    if r.length = 0 then (s, some { status := .ok, word := w })
    else if 2 ^ c.n < dist then (s, some { status := .range, word := w })
    else
      let m := min r.length.toNat dist
      let x := (ringRuns c.n (m + 1) r.offset.toNat m).foldl (fun (acc : State × List Byte × Option Nat) p =>
        let y := acc.1.readRange r.drawer.toNat (c.offset + 64 + p.1) p.2
        (y.1, acc.2.1 ++ y.2.data, if acc.2.2.isSome then acc.2.2 else y.2.bad)) (s, [], none)
      match x.2.2 with
      | none => (x.1, some { status := .ok, word := w, data := x.2.1 })
      | some o => (x.1, some { status := .poisoned, word := BitVec.ofNat 64 o, data := x.2.1 })

/-! ## The rows -/

/-- STREAM_READ. -/
def execStreamRead (r : Req) (s : State) : Res :=
  .next (s.request (.streamRead r) 0x28 r (reqFmt 0x28 r) State.checkStreamRead State.serveStreamRead)
/-- A fabric TOKENIZE. -/
def execFabricTokenize (r : Req) (s : State) : Res :=
  .next (s.request (.fabricTokenize r) 0x20 r (reqFmt 0x20 r) (State.lexRight true) State.serveTokenize)
/-- A fabric DETOKENIZE. -/
def execFabricDetokenize (r : Req) (s : State) : Res :=
  .next (s.request (.fabricDetokenize r) 0x21 r (reqFmt 0x21 r) (State.lexRight true) State.serveDetokenize)
/-- A fabric MASK_FETCH. -/
def execFabricMaskFetch (r : Req) (s : State) : Res :=
  .next (s.request (.fabricMaskFetch r) 0x22 r (reqFmt 0x22 r) State.checkGrammar State.serveMaskFetch)
/-- A fabric ADVANCE. -/
def execFabricAdvance (r : Req) (s : State) : Res :=
  .next (s.request (.fabricAdvance r) 0x23 r (reqFmt 0x23 r) State.checkGrammar State.serveAdvance)
/-- A fabric ADVANCE_FETCH. -/
def execFabricAdvanceFetch (r : Req) (s : State) : Res :=
  .next (s.request (.fabricAdvanceFetch r) 0x24 r (reqFmt 0x24 r) State.checkGrammar State.serveAdvanceFetch)

/-! ## Requests that wait (R276, R277, R524, R575) -/

/-- What an opcode does past stage 4. -/
def serveOf (op : Nat) : State → Req → Served :=
  match op with
  | 0x01 => State.serveRead | 0x02 => State.serveWrite | 0x03 => State.serveFadd | 0x04 => State.serveCas64
  | 0x05 => State.serveCas128 | 0x10 => State.serveSyncAdd | 0x11 => State.serveSyncSet | 0x12 => State.serveSyncRead
  | 0x13 => State.serveSyncWait | 0x18 => State.serveDoorbell
  | 0x20 => State.serveTokenize | 0x21 => State.serveDetokenize | 0x22 => State.serveMaskFetch
  | 0x23 => State.serveAdvance | 0x24 => State.serveAdvanceFetch | 0x28 => State.serveStreamRead
  | _ => fun s _ => (s, some { status := .format })

/-- A host write to a drawer through BAR2; none where it must wait (R575). The flag says that a line refused. -/
def State.hostStore (s : State) (drawer off : Nat) (data : List Byte) : Option (State × Bool) :=
  (s.claimRange drawer off data.length).map fun u =>
    let x := u.writeRange drawer off data
    (x.1, x.2.isSome)

/-- A waiting request keeps waiting, in its place among those that still do. -/
def State.repark (s : State) (x : Parked) : State := { s with fabric.parked := s.fabric.parked ++ [x] }

/-- Take up one waiting request again: what stages 3 and 4 gave stands, and the configuration that they were made under with
it (R36, R293). (DEDUCED, log 31.) -/
def State.retryOne (s : State) (x : Parked) : State :=
  match x with
  | .req op r failed live =>
    if s.mustQueue op r failed.isSome live then s.repark x
    else match failed with
      | some st => if live then (s.respond op r (failReply op st)).afterFlit r.port.val else s
      | none => match serveOf op s r with
        | (u, some y) => if live then (u.respond op r y).afterFlit r.port.val else u
        | (u, none) => u.repark x
  | .hostWrite o data =>
    if s.writeHeld then s.repark x
    else match s.hostStore (o / 2 ^ 40) (o % 2 ^ 40) data with
      | none => s.repark x
      | some (u, _) => u
  | y => s.repark y

/-- Take up every waiting request again, in order. (DEDUCED, log 42.) -/
def State.retry (s : State) : State :=
  s.fabric.parked.foldl State.retryOne { s with fabric.parked := [] }

end Sys2Proof.Machine
end

