-- ==== Sys2Proof/Machine/LexRows.lean ====
section
/-! DEFINITION. The lexicon queue commands (Table 15–8), each worked unit by unit between the resume points of R562. -/

namespace Sys2Proof.Machine

/-- The stream that a lexicon command names. -/
def cmdStream (b : List Byte) : Nat := field b 16 2

/-- The image of a command's stream that it needs, and whether it needs one (R555). (DEDUCED, log 65.) -/
def State.lexNeeds (s : State) (t : Nat) (b : List Byte) : List (Option LexImage) :=
  let x := s.stream (cmdStream b)
  match cmdOp b with
  | 0x04 => s.dict t (byteAt b 18) :: if byteAt b 19 = 0xFF then [] else [s.gram t (byteAt b 19)]
  | 0x06 => [s.dict t x.dict]
  | 0x07 => [s.dict t x.dict]
  | 0x08 => [s.cmdGrammar t b]
  | 0x09 => [s.cmdGrammar t b]
  | 0x0A => [s.cmdGrammar t b]
  | 0x0B => if byteAt b 19 = 0xFF then [] else [s.gram t (byteAt b 19)]
  | _ => []

/-- The statuses that follow check 8 (R555). (DEDUCED, log 65.) -/
def State.lexStop (s : State) (t : Nat) (b : List Byte) : Option Status :=
  if usesStream b && cmdOp b != 0x04 && !(s.stream (cmdStream b)).isOpen then some .notReady
  else if (s.lexNeeds t b).any (·.isNone) then some .notReady
  else if usesStream b && s.streamFrozen (cmdStream b) then some .held
  else none

/-! ## Loading (R530, R531) -/

/-- DICT_LOAD and GRAM_LOAD: the whole image is read and checked; the result word holds the code of the check that failed. -/
def State.loadUnit (grammar : Bool) (s : State) (q : Nat) (i : W32) (t : Nat) (c : RunCmd) : Option State :=
  let b := c.bytes
  let d := poolDrawer b 24
  let o := poolOffset b 24
  let n := lengthAt b 40
  let r := s.readRange d o n
  if r.2.bad.isSome then some (r.1.endRun q i .poisoned 0 0) else
  let slot := imageKey t grammar (byteAt b 16)
  let code := if grammar then gramCheck r.2.data n else dictCheck r.2.data n
  let code := if code = 0 ∧ (r.1.images.get slot none).isSome then 11 else code
  if code ≠ 0 then some (r.1.endRun q i .format 0 (BitVec.ofNat 64 code))
  else
    let im : LexImage := { drawer := d, offset := o, length := n, digest := Config.sha384 r.2.data }
    some ({ r.1 with images := r.1.images.set slot (some im) none }.endRun q i .ok (BitVec.ofNat 64 n) 0)

/-- UNLOAD (R531). -/
def State.unloadUnit (s : State) (q : Nat) (i : W32) (t : Nat) (c : RunCmd) : Option State :=
  let slot := byteAt c.bytes 16
  let grammar := bitOf (byteAt c.bytes 17) 0
  let named := fun (e : Nat × Stream) => s.streamTenant e.1 == some t && e.2.isOpen &&
    (if grammar then optAny e.2.gram (·.1 == slot) else e.2.dict == slot)
  if (s.images.get (imageKey t grammar slot) none).isSome && s.streams.any named then some (s.endRun q i .notReady 0 0)
  else some ({ s with images := s.images.set (imageKey t grammar slot) none none }.endRun q i .ok 0 0)

/-! ## Streams (R556) -/

/-- A grammar state as a command names it: all ones is the start state; RANGE at or above S. -/
def State.pickState (s : State) (im : LexImage) (st : Nat) : Look Nat :=
  (s.lookGram im).andThen fun u h =>
    if st = 0xFFFFFFFF then (u, .ok h.start) else if h.s ≤ st then (u, .error .range) else (u, .ok st)

/-- STREAM_OPEN (R550, R555, R556): a dictionary and a grammar that differ in T and V fail check 5. -/
def State.openUnit (s : State) (q : Nat) (i : W32) (t : Nat) (c : RunCmd) : Option State :=
  let b := c.bytes
  let n := cmdStream b
  match s.dict t (byteAt b 18) with
  | none => some (s.endRun q i .notReady 0 0)
  | some dim =>
    let g := byteAt b 19
    let looked : Look (Option (Nat × Nat) × Bool) :=
      match (if g = 0xFF then none else s.gram t g) with
      | none => (s, .ok (none, true))
      | some gim =>
        (s.lookDict dim).andThen fun u h => (u.lookGram gim).andThen fun v gh =>
          if h.t ≠ gh.v then (v, .ok (none, false))
          else (v.pickState gim (field b 20 4)).andThen fun w st => (w, .ok (some (g, st), true))
    match looked with
    | (u, .error st) => some (u.endRun q i st 0 0)
    | (u, .ok (_, false)) => some ((u.updRun q i fun x => { x with refused := true }).endRun q i .format 0 0)
    | (u, .ok (pos, true)) =>
      let chans : List Channel := (List.range (byteAt b 24)).map fun k =>
        { whole := byteAt b (64 + 16 * k) == 1, n := byteAt b (65 + 16 * k), window := BitVec.ofNat 64 (field b (72 + 16 * k) 8)
          held := [], subst := 0, wpos := 0, finalPos := 0 }
      match chans.foldl (fun (a : Option State) ch => a.bind fun v => v.windowHeader ch) (some u) with
      | none => none
      | some v =>
        let was := (s.stream n).isOpen
        some ((v.setStream n { isOpen := true, dict := byteAt b 18, gram := pos, chans := chans }).endRun q i .ok 0
          (BitVec.ofNat 64 (b2n was)))

/-- STREAM_CLOSE: with flush, FINAL goes to the channels first; the tokeniser's carry has nowhere to go and is dropped. -/
def State.closeUnit (s : State) (q : Nat) (i : W32) (t : Nat) (c : RunCmd) : Option State :=
  let n := cmdStream c.bytes
  let x := s.stream n
  if bitOf (byteAt c.bytes 18) 0 then
    match s.windowsFault t x.chans with
    | some st => some (s.endRun q i st 0 0)
    | none =>
      match State.feedChannels Channel.close x.chans s with
      | none => none
      | some (u, _, _, bad) => some ((u.setStream n {}).endRun q i (if bad then .poisoned else .ok) 0 0)
  else some ((s.setStream n {}).endRun q i .ok 0 0)

/-- GRAM_SET. (DEDUCED, log 65.) -/
def State.gramSetUnit (s : State) (q : Nat) (i : W32) (t : Nat) (c : RunCmd) : Option State :=
  let b := c.bytes
  let n := cmdStream b
  let x := s.stream n
  if byteAt b 19 = 0xFF then some ((s.setStream n { x with gram := none }).endRun q i .ok 0 0)
  else match s.gram t (byteAt b 19) with
    | none => some (s.endRun q i .notReady 0 0)
    | some im =>
      match s.pickState im (field b 20 4) with
      | (u, .error st) => some (u.endRun q i st 0 0)
      | (u, .ok st) => some ((u.setStream n { x with gram := some (byteAt b 19, st) }).endRun q i .ok 0 0)

/-! ## TOKENIZE (R532 to R541) -/

/-- Stop a TOKENIZE early with a status (R540). -/
def State.stopTok (s : State) (q : Nat) (i : W32) (c : RunCmd) (st : Status) : State :=
  let n := cmdStream c.bytes
  let x := s.stream n
  (s.setStream n { x with carry := carryAfter x.carry (c.progress.toNat % 2 ^ 32) }).endRun q i st c.progress c.result

/-- One unit of TOKENIZE: 64 tokens. The result word stands as an early stop here would give it. (DEDUCED, log 64.) -/
def State.tokUnit (s : State) (q : Nat) (i : W32) (t : Nat) (c : RunCmd) : Option State :=
  let b := c.bytes
  let n := cmdStream b
  let x := s.stream n
  let len := lengthAt b 40
  let flag := byteAt b 18
  if len = 0 && !bitOf flag 0 then some (s.endRun q i .ok 0 0) else
  match s.dict t x.dict with
  | none => some (s.endRun q i .notReady 0 0)
  | some im =>
    let inp := s.readRange (poolDrawer b 24) (poolOffset b 24) len
    let cut := (inp.2.mask.findIdx? id)
    let input := match cut with | none => inp.2.data | some k => inp.2.data.take k
    let final := bitOf flag 0 && cut.isNone
    match inp.1.lookDict im with
    | (u, .error st) => some (u.stopTok q i { c with result := tokWord 0 0 true } st)
    | (u, .ok h) =>
      let cells := cellsOf x.carry input final (bitOf flag 1)
      let p := c.progress.toNat % 2 ^ 32
      let written := c.progress.toNat / 2 ^ 32
      let cap := lengthAt b 48 - written
      let e := State.emitTokens im h final (min 64 cap) (cellsFrom p cells.1) u
      let failed := e.2.st != .ok
      let whole := e.2.more || failed || cut.isSome
      let out := if whole then wholeTokens e.2.out else e.2.out
      let p1 := coveredBy p out
      let w1 := written + out.length
      match e.1.claimRange (poolDrawer b 32) (poolOffset b 32 + 4 * written) (4 * out.length) with
      | none => none
      | some v =>
        let wr := v.writeRange (poolDrawer b 32) (poolOffset b 32 + 4 * written) (out.flatMap fun k => leBytes 4 k.1)
        let c1 : RunCmd := { c with
          phase := .running, progress := tokProgress p1 w1
          result := tokWord (p1 - x.carry.length) (countedBy cells.2.1 p1) true
          status := if wr.2.isSome then .poisoned else c.status }
        let s1 := wr.1.updRun q i fun _ => c1
        if failed then some (s1.stopTok q i c1 e.2.st)
        else if e.2.more then
          -- the tokens of this unit are written; another waits for room, or for the next unit
          if cap ≤ 64 then some (s1.stopTok q i c1 c1.status) else some s1
        else if cut.isSome then some (s1.stopTok q i c1 .poisoned)
        else
          let carry := if final then [] else (e.2.left.map (·.byte)) ++ cells.2.2
          some ((s1.setStream n { x with carry := carry }).endRun q i c1.status c1.progress (tokWord len cells.2.1.length false))

/-! ## DETOKENIZE (R546 to R549) -/

/-- One unit of DETOKENIZE: 64 tokens. -/
def State.detokUnit (s : State) (q : Nat) (i : W32) (t : Nat) (c : RunCmd) : Option State :=
  let b := c.bytes
  let n := cmdStream b
  let x := s.stream n
  let total := lengthAt b 40
  let final := bitOf (byteAt b 18) 0
  let done := c.progress.toNat
  let sofar := c.result.toNat % 2 ^ 32
  if total = 0 && !final then some (s.endRun q i .ok 0 0) else
  match s.dict t x.dict, s.windowsFault t x.chans with
  | none, _ => some (s.endRun q i .notReady c.progress c.result)
  | _, some st => some (s.endRun q i st c.progress (detokWord sofar true))
  | some im, none =>
    let m := min 64 (total - done)
    let inp := s.readRange (poolDrawer b 24) (poolOffset b 24 + 4 * done) (4 * m)
    let good := match inp.2.mask.findIdx? id with | none => m | some k => k / 4
    match inp.1.lookDict im with
    | (u, .error st) => some (u.endRun q i st c.progress (detokWord sofar true))
    | (u, .ok h) =>
      let tokens := (List.range good).map fun k => field inp.2.data (4 * k) 4
      let last := done + m == total && good == m
      match u.detokenize n im h tokens (final && last) with
      | none => none
      | some (v, k, subs, bad, st) =>
        let st1 := if st = .ok ∧ good < m then .poisoned else st
        let c1 : RunCmd := { c with
          phase := .running, progress := BitVec.ofNat 64 (done + k), result := detokWord (sofar + subs) true
          status := if bad then .poisoned else c.status }
        let s1 := v.updRun q i fun _ => c1
        if st1 ≠ .ok then some (s1.endRun q i st1 c1.progress c1.result)
        else if last then some (s1.endRun q i c1.status c1.progress (detokWord (sofar + subs) false))
        else some s1

/-! ## Grammar commands (R543 to R545) -/

/-- Whether a grammar command is in stream form. -/
def cmdStreamForm (b : List Byte) : Bool := bitOf (byteAt b 18) 0

/-- The state that a grammar command starts from. -/
def State.cmdState (s : State) (b : List Byte) : Nat :=
  if cmdStreamForm b then (match (s.stream (cmdStream b)).gram with | some g => g.2 | none => 0) else field b 20 4

/-- Write 4 KiB of a mask; after the last, `fin` ends the command. A poisoned line refuses no whole line (R340). -/
def State.maskUnit (s : State) (q : Nat) (i : W32) (c : RunCmd) (mask : List Byte) (fin : State → State) : Option State :=
  let done := c.progress.toNat
  let m := min 4096 (mask.length - done)
  match s.claimRange (poolDrawer c.bytes 32) (poolOffset c.bytes 32 + done) m with
  | none => none
  | some u =>
    let w := u.writeRange (poolDrawer c.bytes 32) (poolOffset c.bytes 32 + done) (sub mask done m)
    let c1 : RunCmd := { c with phase := .running, progress := BitVec.ofNat 64 (done + m) }
    let s1 := w.1.updRun q i fun _ => c1
    if mask.length ≤ done + m then some (fin s1) else some s1

/-- MASK_FETCH (R544). -/
def State.maskFetchUnit (s : State) (q : Nat) (i : W32) (t : Nat) (c : RunCmd) : Option State :=
  match s.cmdGrammar t c.bytes with
  | none => some (s.endRun q i .notReady 0 0)
  | some im =>
    match (s.lookGram im).andThen fun u h => u.maskOf im h (s.cmdState c.bytes) with
    | (u, .error st) => some (u.endRun q i st c.progress 0)
    | (u, .ok x) => u.maskUnit q i c x.1 fun v => v.endRun q i .ok (BitVec.ofNat 64 x.1.length) x.2

/-- ADVANCE, and with `fetch` ADVANCE_FETCH (R543 to R545). -/
def State.advanceUnit (fetch : Bool) (s : State) (q : Nat) (i : W32) (t : Nat) (c : RunCmd) : Option State :=
  let b := c.bytes
  match s.cmdGrammar t b with
  | none => some (s.endRun q i .notReady 0 0)
  | some im =>
    match (s.lookGram im).andThen fun u h =>
        (u.advanceGram im h (s.cmdState b) (field b 24 4)).andThen fun v x => (v, .ok (h, x)) with
    | (u, .error st) => some (u.endRun q i st c.progress 0)
    | (u, .ok (h, st, next, word)) =>
      let move := fun (v : State) => if st = .ok ∧ cmdStreamForm b then v.moveGram (cmdStream b) next else v
      if st = .ok ∧ fetch then
        match u.maskOf im h next with
        | (v, .error e) => some (v.endRun q i e c.progress word)
        | (v, .ok x) => v.maskUnit q i c x.1 fun w => (move w).endRun q i .ok (BitVec.ofNat 64 x.1.length) word
      else some ((move u).endRun q i st c.progress word)

/-! ## Running -/

/-- One unit of the lexicon command that runs, by its opcode; none where it waits for back-pressure. -/
def State.lexWork (s0 : State) (q : Nat) (i : W32) (t : Nat) (c : RunCmd) : Option State := s0.underGens c fun s =>
  let b := c.bytes
  match (if c.phase = .dispatched then s.lexStop t b else none) with
  | some st => some (s.endRun q i st 0 0)
  | none =>
    match cmdOp b with
    | 0x01 => s.loadUnit false q i t c
    | 0x02 => s.loadUnit true q i t c
    | 0x03 => s.unloadUnit q i t c
    | 0x04 => s.openUnit q i t c
    | 0x05 => s.closeUnit q i t c
    | 0x06 => s.tokUnit q i t c
    | 0x07 => s.detokUnit q i t c
    | 0x08 => s.maskFetchUnit q i t c
    | 0x09 => s.advanceUnit false q i t c
    | 0x0A => s.advanceUnit true q i t c
    | 0x0B => s.gramSetUnit q i t c
    | _ => some (s.endRun q i .ok 0 0)

/-- Take what is pending at a lexicon command's resume point: a stop of a TOKENIZE leaves its stream as R540 says. -/
def State.lexRest (s : State) (q : Nat) (i : W32) : State :=
  match s.runOf q i with
  | none => s
  | some c =>
    match c.stop with
    | some st =>
      if c.phase = .ended then s
      else if cmdOp c.bytes = 0x06 then
        s.stopTok q i { c with result := if c.result = 0 then tokWord 0 0 true else c.result } st
      else if cmdOp c.bytes = 0x07 then s.endRun q i st c.progress (detokWord (c.result.toNat % 2 ^ 32) true)
      else s.resumePoint q i
    | none => s.resumePoint q i

/-- Whether the command of queue `q` with index `i` does lexicon work now. -/
def State.lexes (s : State) (q : Nat) (i : W32) : Option (Nat × RunCmd) :=
  match s.range q, s.runOf q i with
  | some r, some c => if r.cls = clsLexicon ∧ s.mayWork q clsLexicon c = true then some (r.tenant, c) else none
  | _, _ => none

/-- Run a lexicon command to its end, or to a wait; `fuel` bounds the units. -/
def State.lexRun (s : State) (q : Nat) (i : W32) : Nat → State
  | 0 => s
  | fuel + 1 =>
    match s.lexes q i with
    | none => s
    | some (t, c) =>
      if s.mustRest clsLexicon c then s.lexRest q i
      else match s.lexWork q i t c with
        | none => s.lexRest q i
        | some u => u.lexRun q i fuel

/-- The row of a lexicon opcode: its command runs to its end, unless something waits for its resume point. Requests that
waited for its stream are taken up again (R524). -/
def State.lexRow (s : State) (q : BitVec 16) (i : W32) (op : Nat) : Res :=
  match s.actor q.toNat i clsLexicon op with
  | none => .next s
  | some _ => .next ((s.lexRun q.toNat i (2 ^ 41)).retry.settle)

/-- LEXICON_RESUME_POINT (R562): the command does one unit and takes what is pending. -/
def execLexiconResumePoint (q : BitVec 16) (index : BitVec 32) (s : State) : Res :=
  match s.lexes q.toNat index with
  | none => .next (match s.range q.toNat with
      | some r => if r.cls = clsLexicon then (s.lexRest q.toNat index).retry else s
      | none => s)
  | some (t, c) =>
    let s1 := if s.mustRest clsLexicon c then s else (s.lexWork q.toNat index t c).getD s
    .next ((s1.lexRest q.toNat index).retry.settle)

/-- LEX_NOP. -/
def execLexNop (q : BitVec 16) (index : BitVec 32) (s : State) : Res := s.lexRow q index 0x00
/-- DICT_LOAD. -/
def execDictLoad (q : BitVec 16) (index : BitVec 32) (s : State) : Res := s.lexRow q index 0x01
/-- GRAM_LOAD. -/
def execGramLoad (q : BitVec 16) (index : BitVec 32) (s : State) : Res := s.lexRow q index 0x02
/-- UNLOAD. -/
def execUnload (q : BitVec 16) (index : BitVec 32) (s : State) : Res := s.lexRow q index 0x03
/-- STREAM_OPEN. -/
def execStreamOpen (q : BitVec 16) (index : BitVec 32) (s : State) : Res := s.lexRow q index 0x04
/-- STREAM_CLOSE. -/
def execStreamClose (q : BitVec 16) (index : BitVec 32) (s : State) : Res := s.lexRow q index 0x05
/-- TOKENIZE. -/
def execTokenize (q : BitVec 16) (index : BitVec 32) (s : State) : Res := s.lexRow q index 0x06
/-- DETOKENIZE. -/
def execDetokenize (q : BitVec 16) (index : BitVec 32) (s : State) : Res := s.lexRow q index 0x07
/-- MASK_FETCH. -/
def execMaskFetch (q : BitVec 16) (index : BitVec 32) (s : State) : Res := s.lexRow q index 0x08
/-- ADVANCE. -/
def execAdvance (q : BitVec 16) (index : BitVec 32) (s : State) : Res := s.lexRow q index 0x09
/-- ADVANCE_FETCH. -/
def execAdvanceFetch (q : BitVec 16) (index : BitVec 32) (s : State) : Res := s.lexRow q index 0x0A
/-- GRAM_SET. -/
def execGramSet (q : BitVec 16) (index : BitVec 32) (s : State) : Res := s.lexRow q index 0x0B

end Sys2Proof.Machine
end

