-- ==== Sys2Proof/Machine/SieveProg.lean ====
section
/-! DEFINITION. The sieve instructions (chapters 13 and 14): scalar arithmetic, branches, scratch and system registers, pool
accesses, tiles, scoring, the top-k unit, XMOV and the counter operations. Each executes where the word at the PC is it. -/

namespace Sys2Proof

/-! ## Operands -/

/-- The pool address in a register: drawer and offset; none where a reserved bit is set (R424, R490). -/
def poolOf (v : W64) : Option (Nat × Nat) :=
  if v.toNat < 2 ^ 56 then some (bits v.toNat 15 0, bits v.toNat 55 16) else none

/-- Bytes of a row's elements. -/
def TileShape.rowBytes (t : TileShape) : Nat := t.elems * fmtBits t.fmt / 8
/-- Scale bytes of a row. -/
def TileShape.scaleBytes (t : TileShape) : Nat := if t.mx then t.elems / 32 else 0
/-- Bytes of a key record, and of a row in all (R461). -/
def TileShape.record (t : TileShape) : Nat := t.rowBytes + t.scaleBytes
/-- Bytes of a tile (Table 13–3). -/
def TileShape.size (t : TileShape) : Nat := t.rows * t.record

/-- Row `r` of a tile (R455). -/
def Tile.row (t : Tile) (r : Nat) : Row :=
  let h := t.shape
  rowOf h.fmt h.elems h.mx (sub t.data (r * h.rowBytes) h.rowBytes)
    (sub t.data (h.rows * h.rowBytes + r * h.scaleBytes) h.scaleBytes)

/-- All rows of a tile. -/
def Tile.allRows (t : Tile) : List Row := (List.range t.shape.rows).map t.row

/-- The tiles of a span; none where one is EMPTY or the shapes differ (R456). -/
def Ctx.span (c : Ctx) (ta n : Nat) : Option (List Tile) :=
  let ts := (List.range n).map fun i => c.tile (ta + i)
  if ts.all (·.isSome) then
    let xs := ts.filterMap id
    if xs.all fun t => some t.shape == xs.head?.map (·.shape) then some xs else none
  else none

/-- The accumulators of a span with the type and shape that all of them hold; none where one is EMPTY, they differ, or
they are too few for their entries (R457). -/
def Ctx.accSpan (c : Ctx) (a n : Nat) : Option (Accum × List W32) :=
  let xs := (List.range n).map fun i => c.acc (a + i)
  match xs.head? with
  | some (some h) =>
    if xs.all (fun x => match x with | some y => y.fp == h.fp && y.q == h.q && y.k == h.k | none => false) &&
        decide (h.q * h.k ≤ n * 1024) then
      some (h, (xs.filterMap id).flatMap (·.data))
    else none
  | _ => none

/-- Write entries into an accumulator span. -/
def Ctx.setAccSpan (c : Ctx) (a n : Nat) (fp : Bool) (q k : Nat) (data : List W32) : Ctx :=
  (List.range n).foldl (fun (u : Ctx) i =>
    u.setAcc (a + i) (some { fp := fp, q := q, k := k, data := (data.drop (1024 * i)).take 1024 })) c

/-- The lines among the `n` bytes from `off` that a read found poisoned. -/
def badLines (off : Nat) (mask : List Bool) : List Nat :=
  ((mask.zipIdx.filter (·.1)).map fun x => (off + x.2) / 64).dedup

/-- Count poisoned lines and keep the first one's offset (R471). (DEDUCED, log 59.) -/
def Ctx.meetPoison (c : Ctx) (lines : List Nat) : Ctx :=
  match lines with
  | [] => c
  | l :: _ =>
    { c with poiscnt := BitVec.ofNat 64 (satAdd 0xFFFFFFFF c.poiscnt.toNat lines.length)
             poisoff := if c.poisoff = 0xFFFFFFFFFFFFFFFF then BitVec.ofNat 64 (l * 64) else c.poisoff }

/-- Count NaN scores (R466). -/
def Ctx.meetNan (c : Ctx) (n : Nat) : Ctx := { c with nancnt := BitVec.ofNat 64 (satAdd 0xFFFFFFFF c.nancnt.toNat n) }

/-- Offer one candidate to every query of a list; the count is of its NaN scores (R466). -/
def TopK.offer (t : TopK) (key : W32) (scores : List W32) : TopK × Nat :=
  ({ t with rows := (t.rows.zip scores).map fun x =>
      if scoreNan t.fp x.2 then x.1 else enterRow t.fp t.k x.1 { score := x.2, key := key } },
   (scores.filter (scoreNan t.fp)).length)

/-- An empty list of a shape. (DEDUCED, log 61.) -/
def emptyTopK (fp : Bool) (q k : Nat) : TopK := { q := q, k := k, fp := fp, rows := List.replicate q [] }

/-- The list that a selection of a shape acts on (R465): the list, or an empty one of that shape; none where the shapes
differ. -/
def Ctx.listFor (c : Ctx) (fp : Bool) (q k : Nat) : Option TopK :=
  match c.topk with
  | none => some (emptyTopK fp q k)
  | some t => if t.q = q ∧ t.k = k then some t else none

/-- Mark the interrupted instructions that have one of these tiles as an operand (R459). (DEDUCED, log 58.) -/
def Ctx.breakTiles (c : Ctx) (ta n : Nat) : Ctx :=
  { c with saved := c.saved.map fun l => l.map fun (x : LongOp) =>
      if x.tiles.any fun t => decide (ta ≤ t) && decide (t < ta + n) then { x with broken := true } else x }

/-- Mark the interrupted instructions that have one of these accumulators as an operand (R459). (DEDUCED, log 58.) -/
def Ctx.breakAccs (c : Ctx) (a n : Nat) : Ctx :=
  { c with saved := c.saved.map fun l => l.map fun (x : LongOp) =>
      if x.accs.any fun t => decide (a ≤ t) && decide (t < a + n) then { x with broken := true } else x }

/-- The long instruction under way at the PC, or a fresh one. -/
def Ctx.op (c : Ctx) : LongOp := match c.long with | some l => l | none => { pc := c.pc }

/-- Whether a continued instruction's operands or list no longer stand as it left them (R459, R518). (DEDUCED, log 58.) -/
def Ctx.spoiled (c : Ctx) : Bool :=
  match c.long with
  | none => false
  | some l => l.broken || (match l.shapeK, c.topk with | some x, some t => decide ((t.q, t.k) ≠ x) | _, _ => false)

/-- CTXID. -/
def ctxIdWord (key tenant : Nat) : W64 := BitVec.ofNat 64 (key / 8 + 256 * (key % 8) + 65536 * tenant)

/-- The value of a system register; none for an unassigned number (R485). -/
def Ctx.sysReg (key : Nat) (c : Ctx) : Nat → Option W64
  | 0 => some c.status
  | 1 => some c.tra
  | 2 => some c.tstat
  | 3 => some (BitVec.ofNat 64 c.tcause)
  | 4 => some c.tinfo
  | 5 => some c.tprog
  | 6 => some c.trapEntry
  | 7 => some c.tsp
  | 8 => some c.ttimer
  | 9 => some (BitVec.ofNat 64 (b2n c.timerPend + 2 * b2n c.xmovPend))
  | 10 => some c.syncstat
  | 11 => some (BitVec.ofNat 64 (b2n c.accSat))
  | 12 => some c.nancnt
  | 13 => some c.poiscnt
  | 14 => some c.poisoff
  | 15 => some (ctxIdWord key c.tenant)
  | 16 => some (BitVec.ofNat 64 (Machine.perfWord c.retired c.wraps))
  | _ => none

/-- A write of a system register: RO ones and reserved bits ignore it (R485, R486). TSTAT has no layout of its own in the spec
(R9): it keeps all 64 written bits. (DEDUCED, log 55.) -/
def Ctx.setSysReg (c : Ctx) (n : Nat) (v : W64) : Ctx :=
  match n with
  | 0 => { c with ie := v.getLsbD 0, xe := v.getLsbD 1, te := v.getLsbD 2 }
  | 1 => { c with tra := v &&& 0xFFFC }
  | 2 => { c with tstat := v }
  | 6 => { c with trapEntry := v &&& 0xFFFC }
  | 7 => { c with tsp := v &&& 0x1FFF }
  | 8 => { c with ttimer := v &&& 0xFFFFFFFF }
  | 9 => { c with timerPend := c.timerPend && !v.getLsbD 0, xmovPend := c.xmovPend && !v.getLsbD 1 }
  | 11 => { c with accSat := c.accSat && !v.getLsbD 0 }
  | 12 => { c with nancnt := v &&& 0xFFFFFFFF }
  | 13 => { c with poiscnt := v &&& 0xFFFFFFFF }
  | 14 => { c with poisoff := v }
  | _ => c

/-- TCFG's parameter as a shape. -/
def shapeOf (v : W64) : TileShape :=
  { fmt := bits v.toNat 7 0, mx := bitOf v.toNat 8, rows := bits v.toNat 24 16, elems := bits v.toNat 47 32 }

/-- The bits of TCFG's parameter that are not reserved. -/
def tcfgMask : W64 := 0x0000FFFF01FF01FF

/-- Table 13–3 in order: the cause of the first rule that fails. -/
def TileShape.fault (h : TileShape) : Option Nat :=
  if fmtBits h.fmt = 0 then some causeFormat
  else if h.mx && !fmtMx h.fmt then some causeFormat
  else if h.rows = 0 ∨ 256 < h.rows then some causeFormat
  else if h.elems = 0 ∨ 32768 < h.elems then some causeFormat
  else if h.elems * fmtBits h.fmt % 128 ≠ 0 then some causeShape
  else if h.mx && h.elems % 32 != 0 then some causeShape
  else if 4096 < h.size then some causeShape
  else none

/-- Whether a tile is an operand of a context's running or interrupted long instruction (Table 13–6). -/
def Ctx.usesTile (c : Ctx) (u : Nat) : Bool :=
  Machine.optAny c.long (·.tiles.contains u) || c.saved.any fun l => Machine.optAny l (·.tiles.contains u)

/-- A context as START sets it (R481): its registers from slot 1, its system registers at reset; its tiles, lists, flags,
counters and scratch stay. -/
def Ctx.started (c : Ctx) (q : Nat) (index : W32) (b : List Byte) : Ctx :=
  let regs := (List.range 8).foldl (fun (m : FMap W64) i => m.set (i + 1) (BitVec.ofNat 64 (field b (64 + 8 * i) 8)) 0) []
  { c.ended with
    phase := .ready, start := some (q, index), pc := BitVec.ofNat 16 (field b 18 2), regs := regs
    ie := true, xe := false, te := false, tm := bitOf (byteAt b 24) 0, depth := 0, win := 0
    tra := 0, tstat := 0, tcause := 0, tinfo := 0, trapEntry := BitVec.ofNat 64 (field b 20 2)
    tsp := BitVec.ofNat 64 (field b 22 2), ttimer := 0, timerPend := false, xmovPend := false, syncstat := 0
    retired := 0, wraps := 0, counted := 0 }

/-- A context as RESETCTX leaves it (R481): its tiles, accumulators, list, flags, counters and scratch EMPTY or 0, and no
halt (R710). -/
def Ctx.emptied (c : Ctx) : Ctx :=
  { c with tiles := [], accs := [], topk := none, accSat := false, nancnt := 0, poiscnt := 0
           poisoff := 0xFFFFFFFFFFFFFFFF, scratch := [], resident := none, halted := false, haltReq := false, stepReq := false }

end Sys2Proof

namespace Sys2Proof.Machine

/-- A synchronous fault. -/
def fault (s : State) (c : Ctx) (cause info : Nat) : Act := .trap s c cause info c.long

/-- A fault of a long instruction on a memory operand: TPROG is valid (R509). -/
def faultIn (s : State) (c : Ctx) (l : LongOp) (cause info : Nat) : Act := .trap s c cause info (some l)

/-- An instruction that retires to the next address. -/
def retireNext (s : State) (c : Ctx) : Act := .retire s c c.next

/-- Commit a unit of a long instruction, or retire it where nothing is left. -/
def progress (s : State) (c : Ctx) (l : LongOp) (total : Nat) : Act :=
  if total ≤ l.done then retireNext s { c with long := none } else .unit s { c with long := some l }

/-- Checks 6 to 8 of Table 12–5 for a context's tenant (R469): the cause of the fault. -/
def State.memFault (s : State) (t d off n : Nat) : Option Nat :=
  match s.drawer d with
  | none => some causeDenied
  | some r =>
    if r.tenant != t then some causeDenied
    else if r.bytes < off + n then some causeRange
    else if s.drawerFrozen d || s.sweeping d then some causeHeld
    else none

/-! ## Scalar instructions (R484, R488) -/

/-- An ALU instruction; `rb` says that it has a second source. -/
def aluAct (two : Bool) (f : W64 → W64 → W64) (s : State) (c : Ctx) (w : W32) : Act :=
  if !two && fC w != 0 then fault s c causeFormat 0
  else retireNext s (c.setReg (fA w) (f (c.reg (fB w)) (c.reg (fC w))))

/-- An instruction of the I format that computes rd from ra. -/
def immAct (ok : Bool) (f : W64 → W64) (s : State) (c : Ctx) (w : W32) : Act :=
  if !ok then fault s c causeFormat 0 else retireNext s (c.setReg (fA w) (f (c.reg (fB w))))

/-- A shift amount in rb[5:0]. -/
def shiftBy (v : W64) : Nat := v.toNat % 64

/-- ALU ADD. -/
def execAluAdd (c : CtxId) (s : State) : Res := .next (s.instr c.key .aluAdd (aluAct true fun a b => a + b))
/-- ALU SUB. -/
def execAluSub (c : CtxId) (s : State) : Res := .next (s.instr c.key .aluSub (aluAct true fun a b => a - b))
/-- ALU AND. -/
def execAluAnd (c : CtxId) (s : State) : Res := .next (s.instr c.key .aluAnd (aluAct true fun a b => a &&& b))
/-- ALU OR. -/
def execAluOr (c : CtxId) (s : State) : Res := .next (s.instr c.key .aluOr (aluAct true fun a b => a ||| b))
/-- ALU XOR. -/
def execAluXor (c : CtxId) (s : State) : Res := .next (s.instr c.key .aluXor (aluAct true fun a b => a ^^^ b))
/-- ALU SHL. -/
def execAluShl (c : CtxId) (s : State) : Res := .next (s.instr c.key .aluShl (aluAct true fun a b => a <<< shiftBy b))
/-- ALU SHR. -/
def execAluShr (c : CtxId) (s : State) : Res := .next (s.instr c.key .aluShr (aluAct true fun a b => a >>> shiftBy b))
/-- ALU SAR. -/
def execAluSar (c : CtxId) (s : State) : Res := .next (s.instr c.key .aluSar (aluAct true fun a b => a.sshiftRight (shiftBy b)))
/-- ALU MUL: the low 64 bits. -/
def execAluMul (c : CtxId) (s : State) : Res := .next (s.instr c.key .aluMul (aluAct true fun a b => a * b))
/-- ALU MULHU: the high 64 bits of the unsigned product. -/
def execAluMulhu (c : CtxId) (s : State) : Res :=
  .next (s.instr c.key .aluMulhu (aluAct true fun a b => BitVec.ofNat 64 (a.toNat * b.toNat / 2 ^ 64)))
/-- ALU SLTU. -/
def execAluSltu (c : CtxId) (s : State) : Res := .next (s.instr c.key .aluSltu (aluAct true fun a b => if a.ult b then 1 else 0))
/-- ALU SLT. -/
def execAluSlt (c : CtxId) (s : State) : Res := .next (s.instr c.key .aluSlt (aluAct true fun a b => if a.slt b then 1 else 0))
/-- ALU MINU. -/
def execAluMinu (c : CtxId) (s : State) : Res := .next (s.instr c.key .aluMinu (aluAct true fun a b => if a.ult b then a else b))
/-- ALU MAXU. -/
def execAluMaxu (c : CtxId) (s : State) : Res := .next (s.instr c.key .aluMaxu (aluAct true fun a b => if a.ult b then b else a))
/-- How many bits of a word are set. -/
def popcount (v : W64) : Nat := ((List.range 64).filter fun i => v.getLsbD i).length
/-- ALU POPCNT of ra. -/
def execAluPopcnt (c : CtxId) (s : State) : Res :=
  .next (s.instr c.key .aluPopcnt (aluAct false fun a _ => BitVec.ofNat 64 (popcount a)))

/-- ADDI. -/
def execAddi (c : CtxId) (s : State) : Res := .next (s.instr c.key .addi fun u x w => immAct true (· + fSimm w) u x w)
/-- ANDI: the immediate is zero-extended. -/
def execAndi (c : CtxId) (s : State) : Res :=
  .next (s.instr c.key .andi fun u x w => immAct true (· &&& BitVec.ofNat 64 (fImm w)) u x w)
/-- ORI. -/
def execOri (c : CtxId) (s : State) : Res :=
  .next (s.instr c.key .ori fun u x w => immAct true (· ||| BitVec.ofNat 64 (fImm w)) u x w)
/-- XORI. -/
def execXori (c : CtxId) (s : State) : Res :=
  .next (s.instr c.key .xori fun u x w => immAct true (· ^^^ BitVec.ofNat 64 (fImm w)) u x w)
/-- SHI SHL: imm[5:0] is the amount; imm[15:8] is reserved. -/
def execShiShl (c : CtxId) (s : State) : Res :=
  .next (s.instr c.key .shiShl fun u x w => immAct (wf w 15 8 == 0) (· <<< wf w 5 0) u x w)
/-- SHI SHR. -/
def execShiShr (c : CtxId) (s : State) : Res :=
  .next (s.instr c.key .shiShr fun u x w => immAct (wf w 15 8 == 0) (· >>> wf w 5 0) u x w)
/-- SHI SAR. -/
def execShiSar (c : CtxId) (s : State) : Res :=
  .next (s.instr c.key .shiSar fun u x w => immAct (wf w 15 8 == 0) (·.sshiftRight (wf w 5 0)) u x w)

/-- LDI's result: quarter q of rd becomes the immediate. -/
def ldiInto (old : W64) (q imm : Nat) : W64 :=
  (old &&& ~~~((0xFFFF : W64) <<< (16 * q))) ||| (BitVec.ofNat 64 imm <<< (16 * q))

/-- LDI: q is ra[1:0], and ra[4:2] is reserved. -/
def execLdi (c : CtxId) (s : State) : Res :=
  .next (s.instr c.key .ldi fun u x w =>
    if 4 ≤ fB w then fault u x causeFormat 0
    else retireNext u (x.setReg (fA w) (ldiInto (x.reg (fA w)) (fB w) (fImm w))))

/-! ## Branches and jumps -/

/-- A target of a word offset, modulo 65,536 (Table 14–4). -/
def branchTo (pc : BitVec 16) (w : W32) : BitVec 16 := pc + BitVec.ofNat 16 (4 * fImm w)

/-- A branch of the B format. -/
def branchAct (taken : W64 → W64 → Bool) (s : State) (c : Ctx) (w : W32) : Act :=
  .retire s c (if taken (c.reg (fA w)) (c.reg (fB w)) then branchTo c.pc w else c.next)

/-- BEQ. -/
def execBeq (c : CtxId) (s : State) : Res := .next (s.instr c.key .beq (branchAct fun a b => a == b))
/-- BNE. -/
def execBne (c : CtxId) (s : State) : Res := .next (s.instr c.key .bne (branchAct fun a b => a != b))
/-- BLTU. -/
def execBltu (c : CtxId) (s : State) : Res := .next (s.instr c.key .bltu (branchAct fun a b => a.ult b))
/-- BGEU. -/
def execBgeu (c : CtxId) (s : State) : Res := .next (s.instr c.key .bgeu (branchAct fun a b => !a.ult b))
/-- BLT. -/
def execBlt (c : CtxId) (s : State) : Res := .next (s.instr c.key .blt (branchAct fun a b => a.slt b))
/-- BGE. -/
def execBge (c : CtxId) (s : State) : Res := .next (s.instr c.key .bge (branchAct fun a b => !a.slt b))
/-- JAL: ra is reserved. -/
def execJal (c : CtxId) (s : State) : Res :=
  .next (s.instr c.key .jal fun u x w =>
    if fB w ≠ 0 then fault u x causeFormat 0
    else .retire u (x.setReg (fA w) (x.next.zeroExtend 64)) (branchTo x.pc w))
/-- JR (R493): rd and imm are reserved. -/
def execJr (c : CtxId) (s : State) : Res :=
  .next (s.instr c.key .jr fun u x w =>
    let v := x.reg (fB w)
    if fA w ≠ 0 ∨ fImm w ≠ 0 ∨ (v &&& ~~~(0xFFFC : W64)) ≠ 0 then fault u x causeFormat 0
    else .retire u x (v.truncate 16))

/-! ## Scratch (R492) -/

/-- A scratch access at ra + imm. -/
def scratchAct (f : State → Ctx → Nat → Act) (s : State) (c : Ctx) (w : W32) : Act :=
  let off := (c.reg (fB w) + fSimm w).toNat
  if off % 8 ≠ 0 ∨ 4096 ≤ off then fault s c causeScratch off else f s c off

/-- SLD. -/
def execSld (c : CtxId) (s : State) : Res :=
  .next (s.instr c.key .sld fun u x w => scratchAct (fun v y o => retireNext v (y.setReg (fA w) (y.scratch64 0 o))) u x w)
/-- SST. -/
def execSst (c : CtxId) (s : State) : Res :=
  .next (s.instr c.key .sst fun u x w => scratchAct (fun v y o => retireNext v (y.setScratch64 o (y.reg (fA w)))) u x w)

/-! ## System registers (Table 14–2) -/

/-- MFSR: ra is reserved. -/
def execMfsr (c : CtxId) (s : State) : Res :=
  .next (s.instr c.key .mfsr fun u x w =>
    match Ctx.sysReg c.key x (fImm w) with
    | none => fault u x causeIllegal w.toNat
    | some v => if fB w ≠ 0 then fault u x causeFormat 0 else retireNext u (x.setReg (fA w) v))
/-- MTSR: rd is reserved. (DEDUCED, log 55.) -/
def execMtsr (c : CtxId) (s : State) : Res :=
  .next (s.instr c.key .mtsr fun u x w =>
    if (Ctx.sysReg c.key x (fImm w)).isNone then fault u x causeIllegal w.toNat
    else if fA w ≠ 0 then fault u x causeFormat 0
    else retireNext u (x.setSysReg (fImm w) (x.reg (fB w))))

/-! ## Control -/

/-- YIELD (R506). -/
def execYield (c : CtxId) (s : State) : Res :=
  .next (s.instr c.key .yieldOp fun u x w => if wf w 25 0 ≠ 0 then fault u x causeFormat 0 else .offer u x x.next)
/-- WINDOW (R503, R504): the count starts after this instruction. -/
def execWindow (c : CtxId) (s : State) : Res :=
  .next (s.instr c.key .window fun u x w =>
    if wf w 25 9 ≠ 0 ∨ 256 < wf w 8 0 then fault u x causeFormat 0
    else if x.win ≠ 0 then fault u x causeWindowNest x.win
    else if wf w 8 0 = 0 then retireNext u x
    else retireNext u { x with win := wf w 8 0 + 1 })
/-- TRAP (R509): BREAK with the code. -/
def execTrap (c : CtxId) (s : State) : Res :=
  .next (s.instr c.key .trap fun u x w =>
    if wf w 25 16 ≠ 0 then fault u x causeFormat 0 else fault u x causeBreak (wf w 15 0))
/-- TRET (R512, R516, R517): an SWAIT to which it returns keeps its record and blocks again (R495). (DEDUCED, log 57.) -/
def execTret (c : CtxId) (s : State) : Res :=
  .next (s.instr c.key .tret fun u x w =>
    if wf w 25 0 ≠ 0 then fault u x causeFormat 0
    else if x.depth = 0 then fault u x causeIllegal w.toNat
    else
      let r := x.leaveTrap (Config.freeWord u.fresh)
      let u1 := match r.2 with | none => u.draw | some id => u.draw.freeWait id
      if optAny r.1.long (·.wait.isSome) then
        .block u1 { r.1 with retired := (bumpPerf x.retired x.wraps 1).1, wraps := (bumpPerf x.retired x.wraps 1).2.1
                             counted := x.counted + 1 }
      else .retire u1 r.1 r.1.pc)
/-- HALT (R482). -/
def execHalt (c : CtxId) (s : State) : Res :=
  .next (s.instr c.key .halt fun u x w =>
    if wf w 20 1 ≠ 0 then fault u x causeFormat 0
    else .halt u x (if bitOf w.toNat 0 then .aborted else .ok) (x.reg (fA w)))
/-- UNASSIGNED_INSTRUCTION (R490): a word with an unassigned op or func raises ILLEGAL. -/
def execUnassignedInstruction (c : CtxId) (s : State) : Res :=
  let x := s.ctx c.key
  let w := x.fetch x.pc
  .next (if s.executes c.key && (kindOf w).isNone then
    s.act c.key (fault s (if optAny x.long (·.pc != x.pc) then { x with long := none } else x) causeIllegal w.toNat) else s)

/-! ## Pool loads and stores (R491) -/

/-- An access to 8 bytes at pool address ra with the immediate added to its offset. -/
def poolAct (f : State → Ctx → Nat → Nat → Act) (s : State) (c : Ctx) (w : W32) : Act :=
  match poolOf (c.reg (fB w)) with
  | none => fault s c causeFormat 0
  | some (d, o) =>
    let off := (o + (fSimm w).toNat) % 2 ^ 40
    if off % 8 ≠ 0 then fault s c causeFormat 0
    else match s.memFault c.tenant d off 8 with
      | some cause => fault s c cause off
      | none => f s c d off

/-- PLD: what a poisoned line gives is free, and the line is counted (R471). (DEDUCED, log 59.) -/
def execPld (c : CtxId) (s : State) : Res :=
  .next ((s.instr c.key .pld fun u x w => poolAct (fun v y d off =>
    let r := v.readRange d off 8
    if r.2.bad.isSome then
      retireNext r.1.draw ((y.meetPoison (badLines off r.2.mask)).setReg (fA w) (Config.freeWord r.1.fresh))
    else retireNext r.1 (y.setReg (fA w) (BitVec.ofNat 64 (leNat r.2.data)))) u x w).settle)
/-- PST. -/
def execPst (c : CtxId) (s : State) : Res :=
  .next ((s.instr c.key .pst fun u x w => poolAct (fun v y d off =>
    match v.claimRange d off 8 with
    | none => .stay
    | some v1 => retireNext (v1.writeRange d off (leBytes 8 (y.reg (fA w)).toNat)).1 y) u x w).settle)

/-! ## Tiles (R453 to R459) -/

/-- Whether the fields of a T-format instruction that it does not use are 0: `tn` and `ta` where they are unused, the
register where it is, func bits outside `mask`, and [12:8]. (DEDUCED, log 55.) -/
def tClean (w : W32) (usesTa usesTn usesRa : Bool) (mask : Nat) : Bool :=
  wf w 12 8 == 0 && (usesTa || fTa w == 0) && (usesTn || fTn w == 1) && (usesRa || fTr w == 0) && (fTf w &&& (255 - mask)) == 0

/-- TCFG (R453, R454). -/
def execTcfg (c : CtxId) (s : State) : Res :=
  .next (s.instr c.key .tcfg fun u x w =>
    let v := x.reg (fTr w)
    let h := shapeOf v
    if !tClean w true true true 0 || decide (16 < fTa w + fTn w) || (v &&& ~~~tcfgMask) != 0 then fault u x causeFormat 0
    else match h.fault with
      | some cause => fault u x cause 0
      | none =>
        retireNext u ((List.range (fTn w)).foldl (fun (y : Ctx) i =>
          y.setTile (fTa w + i) (some { shape := h, data := List.replicate h.size 0 })) (x.breakTiles (fTa w) (fTn w))))
/-- TREL of tiles (R453, R458). -/
def execTrelTiles (c : CtxId) (s : State) : Res :=
  .next (s.instr c.key .trelTiles fun u x w =>
    if !tClean w true true false 1 || decide (16 < fTa w + fTn w) then fault u x causeFormat 0
    else retireNext u ((List.range (fTn w)).foldl (fun (y : Ctx) i => y.setTile (fTa w + i) none) (x.breakTiles (fTa w) (fTn w))))
/-- TREL of accumulators (R457). -/
def execTrelAccumulators (c : CtxId) (s : State) : Res :=
  .next (s.instr c.key .trelAccumulators fun u x w =>
    if !tClean w true true false 1 || decide (16 < fTa w + fTn w) then fault u x causeFormat 0
    else retireNext u ((List.range (fTn w)).foldl (fun (y : Ctx) i => y.setAcc (fTa w + i) none) (x.breakAccs (fTa w) (fTn w))))

/-- One unit of TLD or TST: `f` moves tile i at its offset. -/
def tileStep (f : State → Ctx → Nat → Tile → Nat → Nat → Option (State × Ctx)) (s : State) (c : Ctx) (w : W32) : Act :=
  if !tClean w true true true 0 || decide (16 < fTa w + fTn w) then fault s c causeFormat 0 else
  match poolOf (c.reg (fTr w)) with
  | none => fault s c causeFormat 0
  | some (d, o) =>
    if c.spoiled then fault s c causeShape 0 else
    match c.span (fTa w) (fTn w) with
    | none => fault s c causeShape 0
    | some ts =>
      let l := { c.op with tiles := (List.range (fTn w)).map (fTa w + ·) }
      let size := ((ts.head?.map (·.shape.size)).getD 0)
      match s.memFault c.tenant d o (fTn w * size) with
      | some cause => faultIn s c l cause o
      | none =>
        match ts[l.done]? with
        | none => progress s c l 0
        | some t =>
          match f s c (fTa w + l.done) t d (o + l.done * size) with
          | none => .stay
          | some (u, x) => progress u x { l with done := l.done + 1 } (fTn w)

/-- TLD: a poisoned line gives zeros and is counted (R471). -/
def tldStep : State → Ctx → W32 → Act :=
  tileStep fun s c n t d off =>
    let r := s.readRange d off t.shape.size
    some (r.1, (c.meetPoison (badLines off r.2.mask)).setTile n (some { t with data := r.2.data }))
/-- TST. -/
def tstStep : State → Ctx → W32 → Act :=
  tileStep fun s c _ t d off =>
    match s.claimRange d off t.shape.size with
    | none => none
    | some u => some ((u.writeRange d off (sub t.data 0 t.shape.size)).1, c)

/-- TLD (R496). -/
def execTld (c : CtxId) (s : State) : Res := .next ((s.longInstr c.key .tld tldStep).settle)
/-- TST (R496). -/
def execTst (c : CtxId) (s : State) : Res := .next ((s.longInstr c.key .tst tstStep).settle)

/-! ## Scoring (R460 to R466) -/

/-- The rows of a query span. -/
def queryRows (ts : List Tile) : List Row := ts.flatMap Tile.allRows

/-- k of a selection: 1 to 1,024 (R465). -/
def kOk (k : Nat) : Bool := decide (1 ≤ k) && decide (k ≤ 1024)

/-- Score one record against the query rows and offer it to the list. -/
def scoreRecord (h : TileShape) (qs : List Row) (c : Ctx) (t : TopK) (id : W32) (rec_ : List Byte) : Ctx :=
  let key := rowOf h.fmt h.elems h.mx (sub rec_ 0 h.rowBytes) (sub rec_ h.rowBytes h.scaleBytes)
  let r := t.offer id (qs.map fun q => score h.fmt h.mx q key)
  { c.meetNan r.2 with topk := some r.1 }

/-- Read a key record at an offset and, unless a line of it is poisoned, score it (R471). -/
def State.keyAt (s : State) (h : TileShape) (qs : List Row) (q k : Nat) (c : Ctx) (d off : Nat) (id : W32) : State × Ctx :=
  let r := s.readRange d off h.record
  if r.2.bad.isSome then (r.1, c.meetPoison (badLines off r.2.mask))
  else match c.listFor (accumFp h.fmt h.mx) q k with
    | none => (r.1, c)
    | some t => (r.1, scoreRecord h qs c t id r.2.data)

/-- The checks that both streaming forms share, then `f` with the query's shape and rows. (DEDUCED, log 60.) -/
def streamCheck (s : State) (c : Ctx) (w : W32) (params k stride : Nat) (extra : Bool)
    (f : TileShape → List Row → LongOp → Act) : Act :=
  if !tClean w true true true 15 || decide (16 < fTa w + fTn w) || decide (31 < fTr w + params) || !extra || !kOk k then
    fault s c causeFormat 0
  else if c.spoiled then fault s c causeShape 0
  else match c.span (fTa w) (fTn w) with
    | none => fault s c causeShape 0
    | some ts =>
      let h := ((ts.head?.map (·.shape)).getD { fmt := 0, mx := false, rows := 0, elems := 0 })
      let q := h.rows * fTn w
      if 512 < q then fault s c causeShape 0
      else if stride % 16 ≠ 0 ∨ stride < h.record then fault s c causeFormat 0
      else if 65536 < q * k ∨ (c.listFor true q k).isNone then fault s c causeShape 0
      else f h (queryRows ts) { c.op with tiles := (List.range (fTn w)).map (fTa w + ·), shapeK := some (q, k) }

/-- One unit of TSCORE contiguous: 64 keys. (DEDUCED, log 59 and 60.) -/
def tscoreContiguousStep (s : State) (c : Ctx) (w : W32) : Act :=
  let p := fun i => (c.reg (fTr w + i)).toNat
  let k := bits (p 3) 42 32
  streamCheck s c w 3 k (p 1) (decide (p 0 < 2 ^ 56) && decide (p 3 < 2 ^ 43)) fun h qs l =>
    let d := bits (p 0) 15 0
    let o := bits (p 0) 55 16
    let total := p 2
    if total = 0 then retireNext s { c with long := none } else
    match s.memFault c.tenant d o ((total - 1) * p 1 + h.record) with
    | some cause => faultIn s c l cause o
    | none =>
      let n := min 64 (total - l.done)
      let r := (List.range n).foldl (fun (acc : State × Ctx) i =>
        let j := l.done + i
        acc.1.keyAt h qs qs.length k acc.2 d (o + j * p 1) (BitVec.ofNat 32 (bits (p 3) 31 0 + j))) (s, c)
      progress r.1 { r.2 with resident := some (fTa w, fTn w) } { l with done := l.done + n } total

/-- Work through the entries of an index list: the committed count, and the fault that stopped it. (DEDUCED, log 59.) -/
def indexedRun (h : TileShape) (qs : List Row) (k : Nat) (drained : Bool) (d o kd ko stride : Nat) :
    Nat → Nat → State → Ctx → State × Ctx × Nat × Option (Nat × Nat)
  | 0, j, s, c => (s, c, j, none)
  | n + 1, j, s, c =>
    let size := if drained then 8 else 4
    let at_ := o + j * size + (if drained then 4 else 0)
    let r := s.readRange d at_ 4
    let id := leNat r.2.data
    if r.2.bad.isSome then
      indexedRun h qs k drained d o kd ko stride n (j + 1) r.1 (c.meetPoison (badLines at_ r.2.mask))
    else if drained && id == 0xFFFFFFFF then indexedRun h qs k drained d o kd ko stride n (j + 1) r.1 c
    else
      let off := ko + id * stride
      match r.1.memFault c.tenant kd off h.record with
      | some cause => (r.1, c, j, some (cause, off))
      | none =>
        let x := r.1.keyAt h qs qs.length k c kd off (BitVec.ofNat 32 id)
        indexedRun h qs k drained d o kd ko stride n (j + 1) x.1 x.2

/-- One unit of TSCORE indexed: 64 entries, the key check made per key (R469). (DEDUCED, log 60.) -/
def tscoreIndexedStep (s : State) (c : Ctx) (w : W32) : Act :=
  let p := fun i => (c.reg (fTr w + i)).toNat
  let k := bits (p 3) 42 32
  streamCheck s c w 4 k (p 1) (decide (p 0 < 2 ^ 56) && decide (p 4 < 2 ^ 56) && p 3 == 2 ^ 32 * k) fun h qs l =>
    let d := bits (p 0) 15 0
    let o := bits (p 0) 55 16
    let drained := bitOf (fTf w) 3
    let total := p 2
    if total = 0 then retireNext s { c with long := none } else
    match s.memFault c.tenant d o (total * if drained then 8 else 4) with
    | some cause => faultIn s c l cause o
    | none =>
      let r := indexedRun h qs k drained d o (bits (p 4) 15 0) (bits (p 4) 55 16) (p 1) (min 64 (total - l.done)) l.done s c
      let c1 := { r.2.1 with resident := some (fTa w, fTn w) }
      let l1 := { l with done := r.2.2.1 }
      match r.2.2.2 with
      | some (cause, off) => faultIn r.1 c1 l1 cause off
      | none => progress r.1 c1 l1 total

/-- One unit of TSCORE tile: 64 key columns into the accumulator span. -/
def tscoreTileStep (s : State) (c : Ctx) (w : W32) : Act :=
  let v := (c.reg (fTr w)).toNat
  let kt := bits v 3 0
  let a := bits v 11 8
  let n := bits v 15 12 + 1
  if !tClean w true true true 15 || decide (16 < fTa w + fTn w) || decide (16 < a + n) || decide (65536 ≤ v) || bits v 7 4 != 0 then
    fault s c causeFormat 0
  else if c.spoiled then fault s c causeShape 0
  else match c.span (fTa w) (fTn w), c.tile kt with
    | some ts, some key =>
      let h := ((ts.head?.map (·.shape)).getD { fmt := 0, mx := false, rows := 0, elems := 0 })
      let qs := queryRows ts
      let q := qs.length
      let cols := key.shape.rows
      let fp := accumFp h.fmt h.mx
      let add := bitOf (fTf w) 2
      let l := { c.op with tiles := kt :: (List.range (fTn w)).map (fTa w + ·), accs := (List.range n).map (a + ·) }
      let held := match c.accSpan a n with
        | some (x, data) => if x.fp = fp ∧ x.q = q ∧ x.k = cols then some data else none
        | none => none
      if h.fmt ≠ key.shape.fmt ∨ h.mx ≠ key.shape.mx ∨ h.elems ≠ key.shape.elems ∨ 512 < q ∨ n * 1024 < q * cols then
        fault s c causeShape 0
      else if (add || l.done != 0) && held.isNone then fault s c causeShape 0
      else
        let base := if add || l.done != 0 then held.getD [] else List.replicate (n * 1024) 0
        let m := min 64 (cols - l.done)
        let r := (List.range m).foldl (fun (acc : List W32 × Bool) j =>
          let row := key.row (l.done + j)
          qs.zipIdx.foldl (fun (b : List W32 × Bool) x =>
            let i := x.2 * cols + (l.done + j)
            let sc := score h.fmt h.mx x.1 row
            let y := if add then addScore fp (b.1.getD i 0) sc else (sc, false)
            (modifyAt (fun _ => y.1) b.1 i, b.2 || y.2)) acc) (base, false)
        let c1 := { c.setAccSpan a n fp q cols r.1 with accSat := c.accSat || r.2, resident := some (fTa w, fTn w) }
        progress s c1 { l with done := l.done + m } cols
    | _, _ => fault s c causeShape 0

/-- TSCORE, tile form. -/
def execTscoreTile (c : CtxId) (s : State) : Res := .next ((s.longInstr c.key .tscoreTile tscoreTileStep).settle)
/-- TSCORE, contiguous form. -/
def execTscoreContiguous (c : CtxId) (s : State) : Res :=
  .next ((s.longInstr c.key .tscoreContiguous tscoreContiguousStep).settle)
/-- TSCORE, indexed form. -/
def execTscoreIndexed (c : CtxId) (s : State) : Res := .next ((s.longInstr c.key .tscoreIndexed tscoreIndexedStep).settle)

/-! ## Storing accumulators, and the top-k unit (R465 to R468) -/

/-- One unit of a store of bytes that the context holds: 4 KiB. -/
def storeStep (s : State) (c : Ctx) (l : LongOp) (d o : Nat) (data : List Byte) (final : Ctx → Ctx) : Act :=
  match s.memFault c.tenant d o data.length with
  | some cause => faultIn s c l cause o
  | none =>
    let n := min 4096 (data.length - l.done)
    match s.claimRange d (o + l.done) n with
    | none => .stay
    | some u =>
      let x := u.writeRange d (o + l.done) (sub data l.done n)
      if data.length ≤ l.done + n then retireNext x.1 { final c with long := none }
      else progress x.1 c { l with done := l.done + n } data.length

/-- One unit of AST: 4 KiB written. -/
def astStep (s : State) (c : Ctx) (w : W32) : Act :=
  if !tClean w true true true 0 || decide (16 < fTa w + fTn w) then fault s c causeFormat 0 else
  match poolOf (c.reg (fTr w)) with
  | none => fault s c causeFormat 0
  | some (d, o) =>
    if c.spoiled then fault s c causeShape 0 else
    match c.accSpan (fTa w) (fTn w) with
    | none => fault s c causeShape 0
    | some (h, data) =>
      storeStep s c { c.op with accs := (List.range (fTn w)).map (fTa w + ·) } d o
        ((data.take (h.q * h.k)).flatMap fun x => leBytes 4 x.toNat) id

/-- AST. -/
def execAst (c : CtxId) (s : State) : Res := .next ((s.longInstr c.key .ast astStep).settle)

/-- One unit of TOPK select: 64 key columns. -/
def topkSelectStep (s : State) (c : Ctx) (w : W32) : Act :=
  let v := (c.reg (fTr w)).toNat
  let k := bits v 42 32
  if !tClean w true true true 7 || decide (16 < fTa w + fTn w) || decide (2 ^ 43 ≤ v) || !kOk k then fault s c causeFormat 0
  else if c.spoiled then fault s c causeShape 0
  else match c.accSpan (fTa w) (fTn w) with
    | none => fault s c causeShape 0
    | some (h, data) =>
      match (if 65536 < h.q * k then none else c.listFor h.fp h.q k) with
      | none => fault s c causeShape 0
      | some t =>
        let l := { c.op with accs := (List.range (fTn w)).map (fTa w + ·), shapeK := some (h.q, k) }
        let n := min 64 (h.k - l.done)
        let r := (List.range n).foldl (fun (acc : TopK × Nat) j =>
          let col := l.done + j
          let x := acc.1.offer (BitVec.ofNat 32 (bits v 31 0 + col)) ((List.range h.q).map fun i => data.getD (i * h.k + col) 0)
          (x.1, acc.2 + x.2)) (t, 0)
        progress s { c.meetNan r.2 with topk := some r.1 } { l with done := l.done + n } h.k

/-- TOPK select. -/
def execTopkSelect (c : CtxId) (s : State) : Res := .next ((s.longInstr c.key .topkSelect topkSelectStep).settle)

/-- Enter one merged entry in the row of its query; an entry of a poisoned line, and padding, are passed over.
(DEDUCED, log 61.) -/
def State.mergeEntry (s : State) (c : Ctx) (t : TopK) (d off q : Nat) : State × Ctx × TopK :=
  let r := s.readRange d off 8
  let e : Entry := { score := BitVec.ofNat 32 (field r.2.data 0 4), key := BitVec.ofNat 32 (field r.2.data 4 4) }
  if r.2.bad.isSome then (r.1, c.meetPoison (badLines off r.2.mask), t)
  else if e.key = 0xFFFFFFFF then (r.1, c, t)
  else if scoreNan t.fp e.score then (r.1, c.meetNan 1, t)
  else (r.1, c, { t with rows := modifyAt (fun row => enterRow t.fp t.k row e) t.rows q })

/-- One unit of TOPK merge: 64 input entries, in the order in which the lists lie. (DEDUCED, log 61.) -/
def topkMergeStep (s : State) (c : Ctx) (w : W32) : Act :=
  let p := fun i => (c.reg (fTr w + i)).toNat
  let kin := bits (p 1) 10 0
  let q := bits (p 1) 25 16
  let k := bits (p 1) 42 32
  if !tClean w false false true 7 || decide (31 < fTr w + 2) || decide (2 ^ 56 ≤ p 0) ||
      p 1 != kin + 65536 * q + 2 ^ 32 * k || !kOk k || decide (1024 < kin) then fault s c causeFormat 0
  else if c.spoiled || q == 0 || decide (512 < q) || decide (65536 < q * k) then fault s c causeShape 0
  else match c.listFor ((Config.freeWord s.fresh).getLsbD 0) q k with
    | none => fault s c causeShape 0
    | some t =>
      let d := bits (p 0) 15 0
      let o := bits (p 0) 55 16
      let total := p 2 * (q * kin)
      if total = 0 then retireNext s { c with long := none } else
      let l := { c.op with shapeK := some (q, k) }
      match s.memFault c.tenant d o (total * 8) with
      | some cause => faultIn s c l cause o
      | none =>
        let n := min 64 (total - l.done)
        let r := (List.range n).foldl (fun (acc : State × Ctx × TopK) i =>
          let j := l.done + i
          acc.1.mergeEntry acc.2.1 acc.2.2 d (o + 8 * j) (j / kin % q)) (s.draw, c, t)
        progress r.1 { r.2.1 with topk := some r.2.2 } { l with done := l.done + n } total

/-- TOPK merge. -/
def execTopkMerge (c : CtxId) (s : State) : Res := .next ((s.longInstr c.key .topkMerge topkMergeStep).settle)

/-- One unit of TOPK drain: 4 KiB written; the clear flag empties the list after it. (DEDUCED, log 61.) -/
def topkDrainStep (s : State) (c : Ctx) (w : W32) : Act :=
  if !tClean w false false true 7 then fault s c causeFormat 0 else
  match poolOf (c.reg (fTr w)) with
  | none => fault s c causeFormat 0
  | some (d, o) =>
    if c.spoiled then fault s c causeShape 0 else
    match c.topk with
    | none => retireNext s { c with long := none }
    | some t =>
      storeStep s c { c.op with shapeK := some (t.q, t.k) } d o t.drain fun x =>
        if bitOf (fTf w) 2 then { x with topk := none } else x

/-- TOPK drain. -/
def execTopkDrain (c : CtxId) (s : State) : Res := .next ((s.longInstr c.key .topkDrain topkDrainStep).settle)

/-- TOPK clear. -/
def execTopkClear (c : CtxId) (s : State) : Res :=
  .next (s.instr c.key .topkClear fun u x w =>
    if !tClean w false false false 7 then fault u x causeFormat 0 else retireNext u { x with topk := none })

/-! ## XMOV (R472 to R474) -/

/-- XMOV (Table 13–6). -/
def execXmov (c : CtxId) (s : State) : Res :=
  let p := ((s.ctx c.key).reg (fTr ((s.ctx c.key).fetch (s.ctx c.key).pc))).toNat
  let e := bits p 5 0
  let dst := e * 8 + bits p 10 8
  let u := bits p 19 16
  let s1 := s.instr c.key .xmov fun v x w =>
    let y := v.ctx dst
    if !tClean w true false true 0 || p != e + 256 * bits p 10 8 + 65536 * u then fault v x causeFormat 0
    else if e / 4 ≠ c.engine.val / 4 ∨ e = c.engine.val then fault v x causeRange 0
    else if y.tenant ≠ x.tenant then fault v x causeDenied 0
    else match x.tile (fTa w) with
      | none => fault v x causeShape 0
      | some t =>
        if optAny (y.tile u) (·.shape != t.shape) then fault v x causeShape 0
        else if v.ctxFrozen dst || y.halted || y.usesTile u then fault v x causeHeld 0
        else retireNext (v.setCtx dst { y.setTile u (some t) with
          xmovPend := true, xmovInfo := BitVec.ofNat 64 (u + 256 * c.engine.val) }) x
  .next (s1.boundary dst)

/-! ## Counters (R494, R495) -/

/-- SYNCSTAT of a counter operation. (DEDUCED, log 62.) -/
def syncWord (r : CounterReply) : W64 :=
  BitVec.ofNat 64 (r.status.code + 256 * b2n r.sat + 512 * b2n r.satisfied + 1024 * b2n r.registered)

/-- A counter operation of a context: on counters of its tenant, with no trap. -/
def syncAct (op : W64 → CounterOp) (usesRb : Bool) (s : State) (c : Ctx) (w : W32) : Act :=
  if fFunc w ≠ 0 ∨ (!usesRb && fC w != 0) = true then fault s c causeFormat 0 else
  let r := s.counterOp (c.reg (fB w)).toNat (· == c.tenant) (op (c.reg (fC w)))
  let c1 := { c.setReg (fA w) r.2.after with syncstat := syncWord r.2 }
  if r.2.registered then .block r.1 { c with syncstat := syncWord r.2, long := some { pc := c.pc, wait := some s.sync.nextWait } }
  else retireNext r.1 c1

/-- A counter instruction, which the benches take in input order (R377): it waits at its gate while delivery is paused (R321). -/
def State.countInstr (s : State) (c : Instr) (key : Nat) (k : SKind) (f : State → Ctx → W32 → Act) : State :=
  if s.executes key && kindOf ((s.ctx key).fetch (s.ctx key).pc) == some k && !s.inputsWait then
    s.deliver c fun u => u.instr key k f
  else s

/-- SADD. -/
def execSadd (c : CtxId) (s : State) : Res := .next (s.countInstr (.sadd c) c.key .sadd (syncAct .add true))
/-- SSET. -/
def execSset (c : CtxId) (s : State) : Res := .next (s.countInstr (.sset c) c.key .sset (syncAct .set true))
/-- SREAD: rb is reserved. -/
def execSread (c : CtxId) (s : State) : Res := .next (s.countInstr (.sread c) c.key .sread (syncAct (fun _ => .read) false))
/-- SWAIT: a wait that registers blocks the context. (DEDUCED, log 62.) -/
def execSwait (c : CtxId) (s : State) : Res :=
  .next (s.countInstr (.swait c) c.key .swait (syncAct (fun th => .wait th none (.context c.key)) true))

/-- SWAIT_RELEASE (R495): the released wait's value and status reach the context, and its record is freed; not while the gates hold
(R306). (DEDUCED, log 62.) -/
def execSwaitRelease (c : CtxId) (s : State) : Res :=
  let x := s.ctx c.key
  let w := x.fetch x.pc
  match x.long.bind (·.wait) with
  | none => .next s
  | some id =>
    match s.sync.waits.find? (·.id == id) with
    | none => .next s
    | some v =>
      match v.phase with
      | .pending st =>
        if x.phase ≠ .blocked ∨ x.halted ∨ s.gatesHold then .next s else
        let k := s.counter v.counter
        let x1 := { x.setReg (fA w) k.value with
          syncstat := BitVec.ofNat 64 (st.code + 256 * b2n k.sat + 1024), phase := .ready, long := none, win := x.win - 1 }
        .next (((s.freeWait id).retireCtx c.key x1 x.next).resumed c.key |>.reelect c.key)
      | _ => .next s

/-! ## Rows about a context -/

/-- One unit of the long instruction at the PC, whichever it is. -/
def unitStep (k : SKind) : Option (State → Ctx → W32 → Act) :=
  match k with
  | .tld => some tldStep
  | .tst => some tstStep
  | .tscoreTile => some tscoreTileStep
  | .tscoreContiguous => some tscoreContiguousStep
  | .tscoreIndexed => some tscoreIndexedStep
  | .ast => some astStep
  | .topkSelect => some topkSelectStep
  | .topkMerge => some topkMergeStep
  | .topkDrain => some topkDrainStep
  | _ => none

/-- SIEVE_UNIT_DONE (R496, R498): the long instruction at the PC commits one unit, and what is pending is taken. -/
def execSieveUnitDone (c : CtxId) (s : State) : Res :=
  let x := s.ctx c.key
  match kindOf (x.fetch x.pc) with
  | none => .next s
  | some k =>
    match unitStep k with
    | none => .next s
    | some f => .next ((s.instr c.key k f).settle)

/-- TTIMER_EXPIRY (R500): TTIMER counts from 1 to 0, and TIMER becomes pending. -/
def execTtimerExpiry (c : CtxId) (s : State) : Res :=
  let x := s.ctx c.key
  if x.phase = .running ∧ x.ttimer = 1 then
    .next ((s.setCtx c.key { x with ttimer := 0, timerPend := true }).boundary c.key)
  else .next s

/-- OVERRUN_KILL_TIMER (R507, R508): a context that has masked since its quantum expired stops at once. (DEDUCED, log 63.) -/
def execOverrunKillTimer (c : CtxId) (s : State) : Res :=
  let x := s.ctx c.key
  if x.phase = .running ∧ x.overrun ∧ (!x.ie || x.win != 0) = true then
    .next ((s.endStart c.key .quantumOverrun 0).reelect c.key)
  else .next s

/-! ## Sieve queue commands (R478 to R482) -/

/-- SIEVE_NOP. -/
def execSieveNop (q : BitVec 16) (index : BitVec 32) (s : State) : Res :=
  match s.actor q.toNat index clsSieve 0x00 with
  | none => .next s
  | some _ => .next (s.endRun q.toNat index .ok 0 0)

/-- PLOAD (R480): a poisoned line is loaded as zeros, and the command completes with POISONED. (DEDUCED, log 59.) -/
def execPload (q : BitVec 16) (index : BitVec 32) (s : State) : Res :=
  match s.actor q.toNat index clsSieve 0x01 with
  | none => .next s
  | some r =>
    if s.mustRest clsSieve r then .next (s.resumePoint q.toNat index) else
    let n := lengthAt r.bytes 32
    let x := s.readRange (poolDrawer r.bytes 24) (poolOffset r.bytes 24) n
    let key := cmdCtx r.bytes
    let c := x.1.ctx key
    let s1 := x.1.setCtx key { c with region := FMap.setRun 0 c.region (field r.bytes 40 2) x.2.data }
    .next ((s1.endRun q.toNat index (if x.2.bad.isSome then .poisoned else .ok) (BitVec.ofNat 64 n) 0).settle)

/-- START (R481). -/
def execStart (q : BitVec 16) (index : BitVec 32) (s : State) : Res :=
  match s.actor q.toNat index clsSieve 0x02 with
  | none => .next s
  | some r =>
    if r.phase ≠ .dispatched then .next s
    else if s.mustRest clsSieve r then .next (s.resumePoint q.toNat index)
    else
    let key := cmdCtx r.bytes
    let s1 := (s.setCtx key ((s.ctx key).started q.toNat index r.bytes)).updRun q.toNat index fun x => { x with phase := .running }
    .next (s1.reelect key)

/-- RESETCTX (R481). -/
def execResetctx (q : BitVec 16) (index : BitVec 32) (s : State) : Res :=
  match s.actor q.toNat index clsSieve 0x03 with
  | none => .next s
  | some r =>
    if s.mustRest clsSieve r then .next (s.resumePoint q.toNat index) else
    let key := cmdCtx r.bytes
    let s1 := (s.freeCtxWaits key).setCtx key (s.ctx key).emptied
    .next (s1.endRun q.toNat index .ok 0 0)

end Sys2Proof.Machine
end

