-- ==== Sys2Proof/Machine/HoldOps.lean ====
section
/-! DEFINITION. Hold, resume and drop (chapter 16): hold-set descriptors, freezing, quiescing and capturing a set, what a
snapshot's body spells, and what RESUME checks and restores. -/

namespace Sys2Proof

/-! ## Hold sets (R565, Table 16–1) -/

/-- The entries of one kind in a descriptor: `n` of them after `skip` others. -/
def descEntries (b : List Byte) (skip n : Nat) : List Nat := (List.range n).map fun i => field b (16 + 8 * (skip + i)) 8

/-- A hold-set descriptor; none where a count is out of range, a reserved bit is set or an entry stands twice (check 1 of
Table 16–2). (DEDUCED, log 70.) -/
def holdSetOf (b : List Byte) : Option HoldSet :=
  let n := fun (i : Nat) => field b (2 * i) 2
  let ds := descEntries b 0 (n 0)
  let cs := descEntries b (n 0) (n 1)
  let qs := descEntries b (n 0 + n 1) (n 2)
  let ss := descEntries b (n 0 + n 1 + n 2) (n 3)
  let xs := descEntries b (n 0 + n 1 + n 2 + n 3) (n 4)
  let sizes := decide (n 0 ≤ 64) && decide (n 1 ≤ 16) && decide (n 2 ≤ 64) && decide (n 3 ≤ 64) && decide (n 4 ≤ 64)
  let short := fun (v : Nat) => decide (v < 65536)
  let range := fun (v : Nat) => decide (v = bits v 17 0 + 2 ^ 20 * bits v 40 20) && decide (1 ≤ bits v 40 20) && decide (bits v 40 20 ≤ 262144)
  if !sizes || !allZero (sub b 10 6) || !ds.all short || !cs.all range || !qs.all short || !ss.all short ||
      !(xs.all fun v => decide (v = v % 64 + 256 * bits v 10 8)) ||
      !(decide ds.Nodup && decide cs.Nodup && decide qs.Nodup && decide ss.Nodup && decide xs.Nodup) then none
  else some { drawers := ds, counters := cs.map fun v => (bits v 17 0, bits v 40 20), queues := qs, streams := ss
              contexts := xs.map fun v => (v % 64) * 8 + bits v 10 8 }

/-- The length of a descriptor by its header. -/
def descLength (h : List Byte) : Nat := 16 + 8 * (field h 0 2 + field h 2 2 + field h 4 2 + field h 6 2 + field h 8 2)

/-- A set with no element. -/
def HoldSet.isEmpty (x : HoldSet) : Bool :=
  x.drawers.isEmpty && x.counters.isEmpty && x.queues.isEmpty && x.streams.isEmpty && x.contexts.isEmpty

/-- Whether a set holds a counter. -/
def HoldSet.hasCounter (x : HoldSet) (c : Nat) : Bool := x.counters.any fun r => decide (r.1 ≤ c) && decide (c < r.1 + r.2)

/-- Whether the owner of a wait is a queue or a context of the set: such a wait is captured (Table 11–7). -/
def HoldSet.ownsWait (x : HoldSet) (o : WaitOwner) : Bool :=
  match o with
  | .queue q => x.queues.contains q
  | .context k => x.contexts.contains k
  | _ => false

/-- Whether a registered wait is one that a set's capture keeps. -/
def HoldSet.captures (x : HoldSet) (w : Wait) : Bool := w.isWaiting && x.hasCounter w.counter && x.ownsWait w.owner

/-- Whether ranges cover `n` numbers from `b`; `fuel` bounds the ranges. -/
def covered (rs : List (Nat × Nat)) : Nat → Nat → Nat → Bool
  | 0, _, n => n == 0
  | fuel + 1, b, n =>
    if n = 0 then true
    else match rs.find? fun r => decide (r.1 ≤ b) && decide (b < r.1 + r.2) with
      | none => false
      | some r => let m := min n (r.1 + r.2 - b); covered rs fuel (b + m) (n - m)

/-! ## A snapshot's body (R580) -/

/-- Whether a line of a captured drawer is poisoned: it was, or its block lay on a stack since lost (R576). -/
def DrawerImage.badLine (im : DrawerImage) (l : Nat) : Bool := im.poison.contains l || im.lost.contains (l / 1024)

/-- A block of a captured drawer: its 64 KiB and its poison bitmap, one bit a line. -/
def DrawerImage.chunk (im : DrawerImage) (b : Nat) : List Byte :=
  ((List.range 1024).flatMap fun k =>
    if im.badLine (b * 1024 + k) then List.replicate 64 0 else FMap.getRun im.bytes 0 (b * 65536 + k * 64) 64) ++
  (List.range 128).map fun i =>
    BitVec.ofNat 8 ((List.range 8).map fun k => if im.badLine (b * 1024 + i * 8 + k) then 2 ^ k else 0).sum

/-- A drawer's section: type, length, and its blocks. -/
def DrawerImage.section_ (im : DrawerImage) : List Byte :=
  let body := (List.range im.size).flatMap im.chunk
  leBytes 8 Config.drawerSectionType ++ leBytes 8 body.length ++ body

/-- A snapshot without what the node keeps of it beside its state. -/
def Snapshot.bare (x : Snapshot) : Snapshot :=
  { x with id := 0, digest := [], report := none, holdQ := 0, busy := false
           drawers := x.drawers.map fun im => { im with bytes := [], poison := [], shared := [], lost := [] } }

/-- The canonical serialisation of a snapshot: the body of its parcel in clear. -/
def Snapshot.body (x : Snapshot) : List Byte := Config.parcelSections x.bare ++ x.drawers.flatMap DrawerImage.section_

/-- The digest of a snapshot (R580). -/
def Snapshot.bodyDigest (x : Snapshot) : List Byte := Config.sha384 x.body

/-- The access-set digest of a drawer (R600). -/
def DrawerRec.accessDigest (r : DrawerRec) : List Byte := Sys2Proof.accessDigest r.entries

end Sys2Proof

namespace Sys2Proof.Machine

/-! ## The checks of HOLD (Table 16–2) -/

/-- The counter ranges of tenant `t`. -/
def State.counterRuns (s : State) (t : Nat) : List (Nat × Nat) :=
  ((s.records (·.counters)).filter (·.tenant == t)).map fun r => (r.base, r.count)

/-- Whether every element of a set is tenant `t`'s. -/
def State.ownsSet (s : State) (t : Nat) (x : HoldSet) : Bool :=
  x.drawers.all (fun d => optAny (s.drawer d) (·.tenant == t)) &&
  x.counters.all (fun r => covered (s.counterRuns t) ((s.counterRuns t).length + 1) r.1 r.2) &&
  x.queues.all (fun q => optAny (s.range q) (·.tenant == t)) &&
  x.streams.all (fun n => s.streamTenant n == some t) &&
  x.contexts.all (fun k => (s.ctx k).tenant == t)

/-- Whether a set holds the ring drawers of its queues and the window drawers of its open streams. -/
def State.closedSet (s : State) (x : HoldSet) : Bool :=
  x.queues.all (fun q => optAny (s.range q) fun r => x.drawers.contains r.ring) &&
  x.streams.all fun n => !(s.stream n).isOpen || (s.stream n).chans.all fun c => x.drawers.contains c.drawer

/-- Whether an element of a set is frozen by another one, or a drawer of it is under a wrap sweep. -/
def State.setTaken (s : State) (x : HoldSet) : Bool :=
  x.drawers.any (fun d => s.drawerFrozen d || s.sweeping d) ||
  x.counters.any (fun r => s.hold.frozen.any fun f => f.set.counters.any fun e =>
    decide (r.1 < e.1 + e.2) && decide (e.1 < r.1 + r.2)) ||
  x.queues.any (s.queueFrozen ·) || x.streams.any (s.streamFrozen ·) || x.contexts.any (s.ctxFrozen ·)

/-- Snapshots that hold a drawer. -/
def State.snapshotsOf (s : State) (d : Nat) : Nat := (s.hold.snapshots.filter fun x => x.drawers.any (·.id == d)).length

/-- Checks 2 to 5 of Table 16–2, after the class of the queues. (DEDUCED, log 70.) -/
def State.holdCheck (s : State) (t : Nat) (x : HoldSet) : Option Status :=
  if x.queues.any fun q => optAny (s.range q) (·.cls == clsHold) then some .format
  else if !s.ownsSet t x then some .denied
  else if !s.closedSet x then some .format
  else if s.setTaken x then some .held
  else if (x.drawers.any fun d => decide (16 ≤ s.snapshotsOf d)) || decide (4096 ≤ s.hold.snapshots.length) then some .range
  else none

/-! ## Freezing (R569 steps 1 and 2, R570) -/

/-- Change the frozen set of the HOLD command (q, i). -/
def State.updFrozen (s : State) (q : Nat) (i : W32) (f : Frozen → Frozen) : State :=
  { s with hold.frozen := s.hold.frozen.map fun (x : Frozen) => if x.q = q ∧ x.index = i ∧ x.snap.isNone then f x else x }

/-- The kinds of a hold report's entries (Table 16–5). -/
def caseCommand : Nat := 1
/-- A context. -/
def caseContext : Nat := 2
/-- An outbound request. -/
def caseRequest : Nat := 3

/-- The word of a context: engine and context number. -/
def ctxWord (key : Nat) : Nat := key / 8 + 256 * (key % 8)

/-- List a stopped command or context in the report of a HOLD. -/
def State.listStop (s : State) (q : Nat) (i : W32) (kind id : Nat) (index : W32) : State :=
  s.updFrozen q i fun f => { f with stopped := f.stopped + 1, cases := f.cases ++ [(kind, id, index.toNat, .aborted)] }

/-- What a hold asks of one command in execution: of a command of the set to pause, of one on a set's stream, or of
another queue's that names a set's drawer, to stop with HELD (R439, R540). -/
def askRun (x : HoldSet) (cls : Nat) (inSet : Bool) (c : RunCmd) : RunCmd :=
  let stream := cls == clsLexicon && usesStream c.bytes && x.streams.contains (field c.bytes 16 2)
  let names := (namedDrawers cls c.bytes).any (x.drawers.contains ·)
  let onCtx := cls == clsSieve && cmdOp c.bytes != 0 && x.contexts.contains (cmdCtx c.bytes)
  if c.phase = .ended then c
  else if stream || (!inSet && names && !onCtx) then { c with stop := some .held }
  else if cls = clsSieve ∧ cmdOp c.bytes = 0x02 ∧ c.phase ≠ .dispatched then c
  else if inSet || onCtx then { c with pauseReq := true }
  else c

/-- Ask every command in execution but the HOLD itself. (DEDUCED, log 72.) -/
def State.askRuns (s : State) (q : Nat) (i : W32) (x : HoldSet) : State :=
  s.queues.foldl (fun (u : State) (e : Nat × Queue) =>
    let cls := match s.range e.1 with | none => 0 | some r => r.cls
    let f := fun (c : RunCmd) => if e.1 = q ∧ c.index = i then c else askRun x cls (x.queues.contains e.1) c
    u.setQueue e.1 { e.2 with running := e.2.running.map f }) s

/-- The STARTs of a set's queues that run on contexts outside the set: the context, the queue and the index. -/
def State.strayStarts (s : State) (x : HoldSet) : List (Nat × Nat × W32) :=
  s.ctxs.filterMap fun e => match e.2.start with
    | none => none
    | some (q, i) => if x.queues.contains q && !x.contexts.contains e.1 then some (e.1, q, i) else none

/-- Ask a context to end its program with a status at its next resume point after any window. -/
def State.stopCtx (s : State) (key : Nat) (st : Status) : State :=
  (s.setCtx key { s.ctx key with stopReq := some st }).boundary key

/-- Ask a context to pause at its next resume point after any window. -/
def State.pauseCtx (s : State) (key : Nat) : State :=
  if (s.ctx key).phase = .idle then s else (s.setCtx key { s.ctx key with pauseReq := true }).boundary key

/-- Freeze a set for the HOLD command (q, i) of tenant `t`: from here on it is frozen for every other party; its work is
asked to pause or stop; waits that are not captured end with ABORTED (Table 11–7). -/
def State.freeze (s : State) (q : Nat) (i : W32) (t : Nat) (x : HoldSet) : State :=
  let f : Frozen := { set := x, tenant := t, q := q, index := i, snap := none, at_ := s.ts
                      stopped := 0, abandoned := 0, cases := [] }
  let s1 := { s with hold.frozen := s.hold.frozen ++ [f] }
  let s2 := s1.releaseAll (fun w => x.hasCounter w.counter && !x.ownsWait w.owner) .aborted
  let stray := s2.strayStarts x
  let s3 := stray.foldl (fun u e => (u.listStop q i caseCommand e.2.1 e.2.2).stopCtx e.1 .aborted) (s2.askRuns q i x)
  x.contexts.foldl (fun u k => u.pauseCtx k) s3

/-! ## At rest (R569 steps 2 and 3) -/

/-- Whether a command in execution keeps a set from rest. (DEDUCED, log 72.) -/
def runBusy (x : HoldSet) (cls : Nat) (inSet : Bool) (c : RunCmd) : Bool :=
  if inSet then
    if cls = clsSieve ∧ cmdOp c.bytes = 0x02 ∧ c.phase = .running then !x.contexts.contains (cmdCtx c.bytes)
    else !(c.phase == .paused || (c.phase == .dispatched && c.pauseReq))
  else c.stop == some .held && c.phase != .ended &&
    ((cls == clsLexicon && usesStream c.bytes && x.streams.contains (field c.bytes 16 2)) ||
     (namedDrawers cls c.bytes).any (x.drawers.contains ·))

/-- The commands in execution that keep a set from rest, but the HOLD itself. -/
def State.busyRuns (s : State) (f : Frozen) : List (Nat × RunCmd) :=
  s.queues.flatMap fun e =>
    let cls := match s.range e.1 with | none => 0 | some r => r.cls
    (e.2.running.filter fun c => !(e.1 == f.q && c.index == f.index) && runBusy f.set cls (f.set.queues.contains e.1) c).map
      fun c => (e.1, c)

/-- Whether a context runs, is ready or is blocked. -/
def Ctx.busy (c : Ctx) : Bool := c.phase == .running || c.phase == .ready || c.phase == .blocked

/-- The contexts of a set that still run. -/
def State.busyCtxs (s : State) (x : HoldSet) : List Nat := x.contexts.filter fun k => Ctx.busy (s.ctx k)

/-- The outbound requests of a set's commands. -/
def State.setOutbound (s : State) (x : HoldSet) : List OutReq :=
  s.outReqs fun o => match o.issuer with | .command q _ => x.queues.contains q | _ => false

/-- Whether a request that has passed stage 4 has still to take effect on a set's drawers (Table 16–4 step 2). -/
def State.setAwaited (s : State) (x : HoldSet) : Bool :=
  s.fabric.parked.any fun y => match y with
    | .req op r none _ => !namesNoDrawer op && x.drawers.contains r.drawer.toNat
    | .hostWrite o _ => x.drawers.contains (o / 2 ^ 40)
    | _ => false

/-- Whether a set is at rest, so that it may be captured. (DEDUCED, log 72.) -/
def State.setQuiet (s : State) (f : Frozen) : Bool :=
  (s.busyRuns f).isEmpty && (s.busyCtxs f.set).isEmpty && (s.setOutbound f.set).isEmpty && !s.setAwaited f.set

/-! ## Capture (R569 step 4, R571) -/

/-- The captured image of drawer `d`. -/
def State.imageOf (s : State) (d : Nat) : DrawerImage :=
  let size := match s.drawer d with | none => 0 | some r => r.size
  { id := d
    size := size
    isSealed := optAny (s.drawer d) (·.isSealed)
    digest := match s.drawer d with | none => [] | some r => r.accessDigest
    bytes := (s.mem.filter fun e => e.1 / 2 ^ 40 == d && s.tagOk d (e.1 % 2 ^ 40 / 64)).map fun e => (e.1 % 2 ^ 40, e.2)
    poison := (s.dram.poison.filter fun e => e.1 / 2 ^ 34 == d && s.tagOk d (e.1 % 2 ^ 34)).map fun e => e.1 % 2 ^ 34
    shared := List.range size
    lost := (List.range size).filter fun b => (s.livePlaces d b).isEmpty }

/-- The digest of a stream's images, taken at load: its dictionary's, and its grammar's where it has one (R577). -/
def State.streamImages (s : State) (t n : Nat) : List Byte :=
  let x := s.stream n
  let one := fun (o : Option LexImage) => match o with | none => [] | some im => im.digest
  one (s.dict t x.dict) ++ match x.gram with | none => [] | some g => one (s.gram t g.1)

/-- Capture a set as snapshot `id`. -/
def State.capture (s : State) (f : Frozen) (id : Nat) (report : Option (Nat × Nat)) : Snapshot :=
  let x := f.set
  { id := id, tenant := f.tenant, set := x
    drawers := x.drawers.map s.imageOf
    counters := s.sync.counters.filter fun e => x.hasCounter e.1
    waits := s.sync.waits.filter fun w => x.captures w
    queues := x.queues.map fun q =>
      (q, (match s.range q with | none => 0 | some r => r.cls), (match s.range q with | none => 0 | some r => r.depth), s.queue q)
    streams := x.streams.map fun n => (n, s.stream n, s.streamImages f.tenant n)
    contexts := x.contexts.map fun k => (k, s.ctx k)
    digest := [], report := report, holdQ := f.q, busy := false }

/-- An entry of the hold report. -/
def caseBytes (e : Nat × Nat × Nat × Status) : List Byte :=
  leBytes 2 e.1 ++ leBytes 2 e.2.1 ++ leBytes 4 e.2.2.1 ++ leBytes 1 e.2.2.2.code ++ leBytes 7 0

/-- The hold report without its digest (Table 16–5). (DEDUCED, log 71.) -/
def Frozen.report (f : Frozen) : List Byte :=
  List.replicate 48 0 ++ leBytes 8 f.at_ ++ leBytes 4 f.stopped ++ leBytes 4 f.abandoned ++ (f.cases.take 256).flatMap caseBytes

/-- Write what the node reports into a drawer, as far as the drawer reaches; none where it must wait (R575).
(DEDUCED, log 71.) -/
def State.report (s : State) (d off : Nat) (data : List Byte) : Option State :=
  match s.drawer d with
  | none => some s
  | some r =>
    let part := data.take (r.bytes - off)
    (s.claimRange d off part.length).map fun u => (u.writeRange d off part).1

/-! ## The rows of HOLD -/

/-- A hold command that may act now: dispatched, with no stop pending. -/
def State.holds (s : State) (q : BitVec 16) (i : W32) (op : Nat) : Option (RunCmd × Nat) :=
  match s.actor q.toNat i clsHold op with
  | none => none
  | some c => if c.phase = .dispatched then some (c, s.queueTenant q.toNat) else none

/-- Run a hold command's row, `a`, which is an input of the benches: a stop that is pending ends the command first (R421).
(DESIGN CHOICE, log 75.) -/
def State.holdRow (s : State) (a : Instr) (q : BitVec 16) (i : W32) (op : Nat) (f : State → Nat → RunCmd → Nat → State) : Res :=
  match s.holds q i op with
  | none => .next s
  | some (c, t) =>
    if s.mustRest clsHold c then .next (s.resumePoint q.toNat i) else .next (s.deliver a fun u => (f u q.toNat c t).settle)

/-- HOLD_NOP (R410). -/
def execHoldNop (q : BitVec 16) (index : BitVec 32) (s : State) : Res :=
  s.holdRow (.holdNop q index) q index 0x00 fun u q c _ => u.endRun q c.index .ok 0 0

/-- HOLD from its descriptor on. -/
def State.holdNow (s : State) (q : Nat) (c : RunCmd) (t : Nat) : State :=
  let d := poolDrawer c.bytes 24
  let o := poolOffset c.bytes 24
  let h := s.readRange d o 16
  let r := h.1.readRange d o (descLength h.2.data)
  if h.2.bad.isSome || r.2.bad.isSome then r.1.endRun q c.index .poisoned 0 0
  else match holdSetOf r.2.data with
    | none => r.1.endRun q c.index .format 0 0
    | some x =>
      match r.1.holdCheck t x with
      | some st => r.1.endRun q c.index st 0 0
      | none =>
        if x.isEmpty then r.1.endRun q c.index .ok 0 0
        else (r.1.updRun q c.index fun y => { y with phase := .waiting }).freeze q c.index t x

/-- HOLD (R566, R569 steps 1 and 2, R570). (DESIGN CHOICE, log 75.) -/
def execHold (q : BitVec 16) (index : BitVec 32) (s : State) : Res := s.holdRow (.hold q index) q index 0x01 State.holdNow

/-- The frozen set that the HOLD command (q, i) has still to capture. -/
def State.holding (s : State) (q : Nat) (i : W32) : Option Frozen :=
  s.hold.frozen.find? fun f => f.q == q && f.index == i && f.snap.isNone

/-- Stop at once a command that keeps a set from rest, and list it (R569 step 3); one that has ended completes.
(DEDUCED, log 73.) -/
def State.stopRun (s : State) (f : Frozen) (e : Nat × RunCmd) : State :=
  if e.2.phase = .ended then s.complete e.1 e.2.index
  else ((s.listStop f.q f.index caseCommand e.1 e.2.index).endRun e.1 e.2.index .aborted e.2.progress e.2.result).complete
    e.1 e.2.index

/-- Stop at once a context that still runs, as R508 stops a killed one, and list it. (DEDUCED, log 73.) -/
def State.killCtx (s : State) (f : Frozen) (key : Nat) : State :=
  let index : W32 := match (s.ctx key).start with | none => 0 | some (_, i) => i
  ((s.listStop f.q f.index caseContext (ctxWord key) index).endStart key .aborted 0).reelect key

/-- Abandon an outbound request of a set's command, which is captured with the progress word of R436. (DEDUCED, log 73.) -/
def State.abandon (s : State) (f : Frozen) (o : OutReq) : State :=
  match o.issuer with
  | .command q i =>
    let s1 := { s with
      fabric.outbound := s.fabric.outbound.map fun (x : OutReq) => if x.id = o.id then { x with issuer := .abandoned } else x
      fabric.stalled := s.fabric.stalled.filter (·.id != o.id) }
    let s2 := s1.updRun q i fun c =>
      let n := okPrefix c.acked (c.acked.length + 1) 0
      { c with phase := .paused, progress := BitVec.ofNat 64 n, sent := n, acked := if n = 0 then [] else [(0, n)] }
    s2.updFrozen f.q f.index fun x => { x with abandoned := x.abandoned + 1, cases := x.cases ++ [(caseRequest, q, i.toNat, .aborted)] }
  | _ => s

/-- HOLD_QUIESCE_EXPIRY (R569 step 3): 10 ms after the freeze point. (DEDUCED, log 73.) -/
def execHoldQuiesceExpiry (q : BitVec 16) (index : BitVec 32) (s : State) : Res :=
  match s.holding q.toNat index with
  | none => .next s
  | some f =>
    .next (s.deliver (.holdQuiesceExpiry q index) fun u0 =>
      let s1 := (u0.setOutbound f.set).foldl (fun u o => u.abandon f o) u0
      let s2 := (s1.busyCtxs f.set).foldl (fun u k => u.killCtx f k) s1
      let s3 := ((s2.strayStarts f.set).foldl (fun u e => (u.endStart e.1 .aborted 0).reelect e.1) s2)
      ((s3.busyRuns f).foldl (fun u e => u.stopRun f e) s3).settle)

/-- HOLD_CAPTURE (R569 step 4): a set at rest is captured, its report written, and HOLD completes with the snapshot's ID.
(DEDUCED, log 71.) -/
def execHoldCapture (q : BitVec 16) (index : BitVec 32) (s : State) : Res :=
  match s.holding q.toNat index, s.runOf q.toNat index with
  | some f, some c =>
    if !s.setQuiet f then .next s else
    let d := poolDrawer c.bytes 32
    let o := poolOffset c.bytes 32
    if (s.report d o f.report).isNone then .next s else
    .next (s.deliver (.holdCapture q index) fun u0 =>
      let u := (u0.report d o f.report).getD u0
      let id := u.hold.nextSnap
      let x := u.capture f id (some (d, o))
      let s1 := { u with hold.snapshots := u.hold.snapshots ++ [x], hold.nextSnap := id + 1 }
      let s2 := s1.updFrozen q.toNat index fun y => { y with snap := some id }
      (s2.endRun q.toNat index .ok 0 (BitVec.ofNat 64 id)).settle)
  | _, _ => .next s

/-- HOLD_DIGEST_DONE (R569 step 5): the digest goes into the report, and HOLD_DIGEST_READY is raised. (DEDUCED, log 71.) -/
def execHoldDigestDone (snapshot : BitVec 32) (s : State) : Res :=
  match s.hold.snapshots.find? fun x => x.id == snapshot.toNat && x.digest.isEmpty with
  | none => .next s
  | some x =>
    let g := sub x.bodyDigest 0 48
    let written := fun (u : State) => match x.report with | none => some u | some (d, o) => u.report d o g
    if (written s).isNone then .next s else
    .next (s.deliver (.holdDigestDone snapshot) fun u0 =>
      let u := (written u0).getD u0
      let s1 := { u with hold.snapshots := u.hold.snapshots.map fun (y : Snapshot) => if y.id = x.id then { y with digest := g } else y }
      (s1.note .holdDigestReady .node 0 x.id x.holdQ 0).settle)

/-! ## Thawing -/

/-- A paused context goes on: to its SWAIT where it waits there, else to its engine. -/
def Ctx.thawed (c : Ctx) : Ctx :=
  let wait := optAny c.long (·.wait.isSome)
  { c with pauseReq := false, phase := if c.phase = .paused then (if wait then .blocked else .ready) else c.phase }

/-- Thaw a frozen set: its commands and contexts go on, held additions take effect, waiting work is taken up.
(DEDUCED, log 73.) -/
def State.thaw (s : State) (f : Frozen) : State :=
  let x := f.set
  let s1 := { s with hold.frozen := s.hold.frozen.filter (· != f) }
  let s2 := s1.queues.foldl (fun (u : State) (e : Nat × Queue) =>
    let cls := match s.range e.1 with | none => 0 | some r => r.cls
    let g := fun (c : RunCmd) =>
      if x.queues.contains e.1 || (cls == clsSieve && x.contexts.contains (cmdCtx c.bytes)) then { c with pauseReq := false } else c
    u.setQueue e.1 { e.2 with running := e.2.running.map g }) s1
  let s3 := x.contexts.foldl (fun u k => u.setCtx k (Ctx.thawed (u.ctx k))) s2
  (x.contexts.foldl (fun u k => u.reelect k) s3).thawAdds.retry

/-! ## RESUME (R577, R578) -/

/-- The snapshot of an ID, where it is tenant `t`'s (R568). -/
def State.snapshot (s : State) (t id : Nat) : Option Snapshot := s.hold.snapshots.find? fun x => x.id == id && x.tenant == t

/-- The frozen set of a snapshot: frozen by it, or by another with the same descriptor. -/
def State.frozenFor (s : State) (x : Snapshot) : Option Frozen := s.hold.frozen.find? fun f => f.snap.isSome && f.set == x.set

/-- Whether every element of a set that is configured is tenant `t`'s. -/
def State.stillOwned (s : State) (t : Nat) (x : HoldSet) : Bool :=
  x.drawers.all (fun d => optAny (s.drawer d) (·.tenant == t)) &&
  x.counters.all (fun r => (s.records (·.counters)).all fun e =>
    e.tenant == t || !(decide (r.1 < e.base + e.count) && decide (e.base < r.1 + r.2))) &&
  x.queues.all (fun q => (s.range q).isNone || optAny (s.range q) (·.tenant == t)) &&
  x.streams.all (fun n => (s.streamTenant n).isNone || s.streamTenant n == some t) &&
  x.contexts.all (fun k => (s.ctx k).tenant == 0 || (s.ctx k).tenant == t)

/-- Whether every queue of a snapshot has its class and depth, and its counter ranges, streams and contexts exist. -/
def State.stillThere (s : State) (t : Nat) (x : Snapshot) : Bool :=
  x.queues.all (fun e => optAny (s.range e.1) fun r => r.cls == e.2.1 && r.depth == e.2.2.1) &&
  x.set.counters.all (fun r => covered (s.counterRuns t) ((s.counterRuns t).length + 1) r.1 r.2) &&
  x.set.streams.all (fun n => (s.streamTenant n).isSome) &&
  x.set.contexts.all (fun k => (s.ctx k).tenant != 0)

/-- Whether the images of a snapshot's open streams are loaded as they were. -/
def State.sameImages (s : State) (t : Nat) (x : Snapshot) : Bool :=
  x.streams.all fun e => !e.2.1.isOpen ||
    ((s.dict t e.2.1.dict).isSome && (match e.2.1.gram with | none => true | some g => (s.gram t g.1).isSome) &&
      ((match s.dict t e.2.1.dict with | none => [] | some im => im.digest) ++
        (match e.2.1.gram with | none => [] | some g => match s.gram t g.1 with | none => [] | some im => im.digest)) == e.2.2)

/-- Whether the records of a snapshot's captured waits can be had in place of those that its frozen set holds. -/
def State.waitsFit (s : State) (t : Nat) (x : Snapshot) : Bool :=
  { s with sync.waits := s.sync.waits.filter fun (w : Wait) => !x.set.captures w }.waitsFree t x.waits.length

/-- The checks of R577 in order, after the snapshot's own. (DEDUCED, log 74.) -/
def State.resumeCheck (s : State) (t : Nat) (x : Snapshot) : Option Status :=
  if (s.frozenFor x).isNone then some .notReady
  else if !s.stillOwned t x.set then some .denied
  else if !s.stillThere t x then some .range
  else if !s.sameImages t x then some .notReady
  else if x.set.drawers.any (s.sweeping ·) then some .held
  else if !s.waitsFit t x then some .waitRefused
  else none

/-- Restore a drawer's contents from a snapshot: the blocks that diverged go (R174), the snapshot's own come back, and
other snapshots keep what they share with either. (DEDUCED, log 74.) -/
def State.restoreDrawer (s : State) (id : Nat) (im : DrawerImage) : State :=
  let d := im.id
  let gone := (List.range im.size).filter fun b => !im.shared.contains b
  let cost := if s.mirrored d then 2 else 1
  let t := match s.drawer d with | none => 0 | some r => r.tenant
  let size := match s.drawer d with | none => 0 | some r => r.size
  -- blocks of the live drawer that other snapshots still need become theirs
  let left := gone.filterMap fun b =>
    let ids := (s.hold.snapshots.filter fun y => y.id != id && y.shares d b).map (·.id)
    if ids.isEmpty then none else some ({ tenant := t, drawer := d, block := b, cost := cost, snaps := ids } : Kept)
  let freed := gone.filter fun b => !left.any (·.block == b)
  let back := s.hold.kept.filter fun k => k.drawer == d && k.snaps.contains id
  let share := fun (y : Snapshot) (z : DrawerImage) =>
    if z.id ≠ d then z
    else if y.id = id then { z with shared := List.range z.size }
    else
      let mine := (back.filter fun k => k.snaps.contains y.id).map (·.block)
      { z with shared := (z.shared.filter fun b => !gone.contains b) ++ mine }
  let s1 := { s.zeroDrawer d with
    hold.kept := (s.hold.kept.filter fun (k : Kept) => !(k.drawer == d && k.snaps.contains id)) ++ left
    hold.snapshots := s.hold.snapshots.map fun (y : Snapshot) => { y with drawers := y.drawers.map (share y) } }
  let s2 := { s1 with
    mem := (im.bytes.filter fun e => decide (e.1 < size * 65536)).foldl (fun (m : List Host.Cell) (e : Nat × Byte) => FMap.set m (addr d e.1) e.2 0) s1.mem
    dram.poison := ((im.poison ++ im.lost.flatMap fun b => (List.range 1024).map (b * 1024 + ·)).filter (· < size * 1024)).foldl
      (fun (m : FMap Bool) l => m.set (lineKey d l) true false) s1.dram.poison }
  freed.foldl (fun u b => ((s.livePlaces d b).foldl (fun v p => v.updStk p.1 fun k => { k with awaiting := k.awaiting + 1 }) u)) s2

/-- Register a snapshot's waits again in their order, each under a new number; the pairs of old and new numbers.
(DEDUCED, log 74.) -/
def State.rewait (s : State) (x : Snapshot) : State × List (Nat × Nat) :=
  let kept := s.sync.waits.filter fun w => !x.set.captures w
  let renum := x.waits.zipIdx.map fun e => (e.1.id, s.sync.nextWait + e.2)
  ({ s with
      sync.waits := kept ++ x.waits.zipIdx.map fun (e : Wait × Nat) => { e.1 with id := s.sync.nextWait + e.2, phase := .waiting }
      sync.nextWait := s.sync.nextWait + x.waits.length }, renum)

/-- A context as it is restored: its SWAIT finds its wait by the new number, or registers anew. -/
def restoreCtx (renum : List (Nat × Nat)) (alive : Nat → Bool) (c : Ctx) : Ctx :=
  match c.long with
  | none => c
  | some l =>
    match l.wait with
    | none => c
    | some w =>
      match renum.find? (·.1 == w) with
      | some (_, n) => { c with long := some { l with wait := some n } }
      | none => if alive w then c else { c with long := none }

/-- Restore every element of a snapshot's set to its captured state (R578). (DEDUCED, log 74.) -/
def State.restore (s : State) (x : Snapshot) : State :=
  let s1 := x.drawers.foldl (fun u im => u.restoreDrawer x.id im) s
  let others : FMap Counter := s1.sync.counters.keep fun k => !x.set.hasCounter k
  let values : FMap Counter := x.counters.foldl (fun (m : FMap Counter) (e : Nat × Counter) => m.set e.1 e.2 ({} : Counter)) others
  let s2 := { s1 with sync.counters := values }
  let w := s2.rewait x
  let s3 := x.queues.foldl (fun u e => u.setQueue e.1 e.2.2.2) w.1
  let s4 := x.streams.foldl (fun u e => u.setStream e.1 e.2.1) s3
  x.contexts.foldl (fun u e => u.setCtx e.1 (restoreCtx w.2 (fun n => s4.sync.waits.any (·.id == n)) e.2)) s4

/-- RESUME once its command runs. -/
def State.resumeNow (s : State) (q : Nat) (c : RunCmd) (t : Nat) : State :=
  match s.snapshot t (field c.bytes 16 4) with
  | none => s.endRun q c.index .range 0 0
  | some x =>
    match s.resumeCheck t x, s.frozenFor x with
    | some st, _ => s.endRun q c.index st 0 0
    | none, none => s.endRun q c.index .notReady 0 0
    | none, some f =>
      let st : Status := if x.drawers.any fun im => !im.lost.isEmpty then .poisoned else .ok
      let s1 := (s.restore x).thaw f
      let s2 := if bitOf (byteAt c.bytes 20) 0 then (s1.dropSnapshot x.id).retry else s1
      s2.endRun q c.index st 0 0

/-- RESUME (R577 to R579). (DESIGN CHOICE, log 75.) -/
def execResume (q : BitVec 16) (index : BitVec 32) (s : State) : Res := s.holdRow (.resume q index) q index 0x02 State.resumeNow

/-- DROP once its command runs (R573): the snapshot that freezes a set, or is being sent, stays. (DEDUCED, log 80.) -/
def State.dropNow (s : State) (q : Nat) (c : RunCmd) (t : Nat) : State :=
  match s.snapshot t (field c.bytes 16 4) with
  | none => s.endRun q c.index .range 0 0
  | some x =>
    if !s.evictable x then s.endRun q c.index .notReady 0 0
    else ((s.dropSnapshot x.id).retry).endRun q c.index .ok 0 0

/-- DROP (R573). (DESIGN CHOICE, log 75.) -/
def execDrop (q : BitVec 16) (index : BitVec 32) (s : State) : Res := s.holdRow (.drop q index) q index 0x03 State.dropNow

end Sys2Proof.Machine
end

