-- ==== Sys2Proof/Machine/Parcels.lean ====
section
/-! DEFINITION. Parcels and transfers (chapter 16, R580 to R590): sealing and exporting a snapshot, importing one, the
transfer messages at both ends, and the responses that reach the node (R271). -/

namespace Sys2Proof

/-! ## The parcel header (Table 16–6) -/

/-- ASCII "WPCL". -/
def parcelMagic : List Byte := [0x57, 0x50, 0x43, 0x4C]

/-- ASCII "WPCL-SELF". -/
def labelSelf : List Byte := [0x57, 0x50, 0x43, 0x4C, 0x2D, 0x53, 0x45, 0x4C, 0x46]

/-- ASCII "WPCL-DEST". -/
def labelDest : List Byte := [0x57, 0x50, 0x43, 0x4C, 0x2D, 0x44, 0x45, 0x53, 0x54]

/-- Zero bytes. -/
def zeros (n : Nat) : List Byte := List.replicate n 0

/-- A parcel header of 256 bytes. -/
def parcelHeader (flags id len : Nat) (serial digest key cert : List Byte) : List Byte :=
  parcelMagic ++ leBytes 2 1 ++ leBytes 2 flags ++ leBytes 8 id ++ leBytes 8 len ++ sub serial 0 16 ++ zeros 8 ++
  sub digest 0 48 ++ sub key 0 97 ++ zeros 7 ++ sub cert 0 48 ++ zeros 8

/-- FLAGS of a header. (DEDUCED, log 78.) -/
def hdrFlags (h : List Byte) : Nat := field h 6 2
/-- Body length of a header. -/
def hdrLength (h : List Byte) : Nat := field h 0x10 8
/-- Whether a parcel is for a destination. -/
def hdrDest (h : List Byte) : Bool := bitOf (hdrFlags h) 1

/-- Check 1 of R584: the header is valid, and its body length is the body's. (DEDUCED, log 78.) -/
def headerOk (h : List Byte) (body : Nat) : Bool :=
  sub h 0 4 == parcelMagic && field h 4 2 == 1 && decide (hdrFlags h < 4) && hdrLength h == body && allZero (sub h 0x28 8) &&
  allZero (sub h 0xC1 7) && allZero (sub h 0xF8 8) &&
  (hdrDest h || (allZero (sub h 0x60 97) && allZero (sub h 0xC8 48)))

/-- The key of a sealed parcel (R581, Table 16–7); `cert` names the destination's link key. -/
def parcelKey (h cert : List Byte) : List Byte :=
  if hdrDest h then kdf (Config.parcelShared (sub h 0x60 97) cert) labelDest (sub h 0 0xF8) 256
  else kdf Config.memoryRoot labelSelf (sub h 0 0x60) 256

/-- Seal a body in pieces of 65,536 bytes (R581), from piece `i` on. -/
def sealPieces (key h : List Byte) : Nat → List (List Byte) → List Byte
  | _, [] => []
  | i, p :: ps =>
    sub (Config.gcmSeal key (zeros 4 ++ leBytes 8 i) (sub h 0 256 ++ leBytes 8 i) p) 0 (p.length + 16) ++ sealPieces key h (i + 1) ps

/-- The pieces of a body as the key opens them (R581), from piece `i` on: none for one whose tag fails. -/
def openPieces (key h : List Byte) : Nat → List (List Byte) → List (Option (List Byte))
  | _, [] => []
  | i, p :: ps => Config.gcmOpen key (zeros 4 ++ leBytes 8 i) (sub h 0 256 ++ leBytes 8 i) p :: openPieces key h (i + 1) ps

/-- The plaintext pieces of a parcel's body: those of an open parcel are its own. (DEDUCED, log 77.) -/
def bodyPieces (h body : List Byte) : List (Option (List Byte)) :=
  if hdrFlags h = 0 then [some body]
  else openPieces (parcelKey h (sub h 0xC8 48)) h 0 (chunks 65552 (body.length + 1) body)

/-- Whether every tag held and the plaintext has the header's digest (R584). -/
def bodyIntact (h : List Byte) (pieces : List (Option (List Byte))) : Bool :=
  pieces.all (·.isSome) && Config.sha384 (pieces.filterMap id).flatten == sub h 0x30 48

/-- The bytes of chunks that lie one after the other from offset 0, in whatever order they came; none where they do not. -/
def joined (cs : List (Nat × List Byte)) : Option (List Byte) :=
  (sortBy (fun a b => decide (a.1 < b.1)) cs).foldl
    (fun acc c => acc.bind fun b => if c.1 = b.length then some (b ++ c.2) else none) (some [])

/-- The destination's certificate chain of an EXPORT, in the form of KA_CERT (R582): the chain ends at the Waidrian root, and its
leaf's key has signed the static link key. It gives the certificate's hash, or none. (DEDUCED, log 78.) -/
def exportChain (bytes : List Byte) : Option (List Byte) :=
  match chainField bytes with
  | none => none
  | some (chain, rest) =>
    if waidrian chain && decide (193 ≤ rest.length) && signedBy (chain.headD []) (sub rest 0 97) (sub rest 97 96) then
      some (leafHash chain)
    else none

/-- The length of a sealed body. -/
def sealedLength (n : Nat) : Nat := n + 16 * ceilDiv n 65536

/-- Whether a snapshot meets lines of a lost stack (R576). -/
def Snapshot.hasLost (x : Snapshot) : Bool := x.drawers.any fun im => !im.lost.isEmpty

/-! ## Transfer messages (Table 16–8) -/

/-- The format of the transfer messages: DRAWER 0, no part that the message does not have. -/
def xferFmt (op : Nat) (r : Req) : Bool :=
  r.drawer == 0 &&
  match op with
  | 0x40 => r.length == 0 && r.offset == 0 && decide (2 ≤ r.opslots.toNat) && decide (r.opslots.toNat ≤ 6) && r.slotsOk false
  | 0x41 => r.length == 256 && r.offset == 0 && r.opslots == 0 && r.slotsOk true
  | 0x42 => decide (r.length.toNat ≤ 4096) && r.opslots == 0 && r.slotsOk true
  | _ => r.length == 0 && r.offset == 0 && r.opslots == 0 && r.slotsOk false

/-- The drawer IDs of an XFER_ATTEST: eight to a slot from the third on, without the padding at the end (R613). -/
def attestIds (r : Req) : List Nat :=
  let ids := (List.range (8 * (r.opslots.toNat - 2))).map fun k => field r.ops (32 + 2 * k) 2
  (ids.reverse.dropWhile (· == 0)).reverse

/-- The conditions of R587 on a report of the endpoint bound with `chain`, for the nonce sent. -/
def reportGood (chain : List (List Byte)) (nonce report : List Byte) : Bool :=
  match Config.coseReport report with
  | none => false
  | some f =>
    let signed := match certKey (chain.headD []) with
      | none => false
      | some k => coseVerifies (Config.sha384 k) f.signed f.sig
    signed && waidrian chain && f.nonce == nonce && f.lifecycle == ascii "DEPLOYED" && f.debug == ascii "LOCKED"

end Sys2Proof

namespace Sys2Proof.Machine

/-! ## Sealing -/

/-- A snapshot as a parcel: header and body. The parcel's ID, and a destination parcel's ephemeral key, are free values. -/
def State.parcel (s : State) (x : Snapshot) (flags : Nat) (cert : List Byte) : State × List Byte × List Byte :=
  let plain := x.body
  let digest := Config.sha384 plain
  let id := (Config.freeWord s.fresh).toNat
  let dest := bitOf flags 1
  let eph := if dest then Config.freeBytes (s.fresh + 1) 97 else []
  let len := if flags = 0 then plain.length else sealedLength plain.length
  let h := parcelHeader flags id len s.sec.serial digest eph (if dest then cert else [])
  let body := if flags = 0 then plain else sealPieces (parcelKey h cert) h 0 (chunks 65536 (plain.length + 1) plain)
  (s.draw.draw, h, body)

/-! ## EXPORT (R582, R583, R622, R624) -/

/-- The refusals of an EXPORT. (DEDUCED, log 78.) -/
def State.exportCheck (s : State) (x : Snapshot) (flags dest : Nat) (cert : Option (List Byte)) : Option Status :=
  if flags != 0 && s.sec.debug == .unlocked then some .denied
  else if flags == 1 && s.sec.lifecycle == .returned then some .denied
  else if bitOf flags 1 && cert.isNone then some .denied
  else if flags == 0 && x.drawers.any (·.isSealed) then some .denied
  else if optAny (s.drawer dest) (·.isSealed) then some .denied
  else none

/-- EXPORT once its command runs. (DESIGN CHOICE, log 76; DEDUCED, log 78.) -/
def State.exportNow (s : State) (q : Nat) (c : RunCmd) (t : Nat) : State :=
  let b := c.bytes
  match s.snapshot t (field b 16 4) with
  | none => s.endRun q c.index .range 0 0
  | some x =>
    let flags := byteAt b 20 % 4
    let chain := if bitOf flags 1 then s.readRange (poolDrawer b 64) (poolOffset b 64) (lengthAt b 72)
      else (s, { data := [], bad := none, mask := [] })
    let s1 := chain.1
    if chain.2.bad.isSome then s1.endRun q c.index .poisoned 0 0
    else
      let cert := exportChain chain.2.data
      match s1.exportCheck x flags (poolDrawer b 24) cert with
      | some st => s1.endRun q c.index st 0 0
      | none =>
        let p := s1.parcel x flags (cert.getD [])
        let data := p.2.1 ++ p.2.2
        let n := data.length
        if lengthAt b 40 < n then p.1.endRun q c.index .range 0 (BitVec.ofNat 64 n)
        else match p.1.claimRange (poolDrawer b 24) (poolOffset b 24) n with
          | none => s
          | some u =>
            let w := u.writeRange (poolDrawer b 24) (poolOffset b 24) data
            w.1.endRun q c.index (if x.hasLost || w.2.isSome then .poisoned else .ok) 0 (BitVec.ofNat 64 n)

/-- EXPORT (R582, R583). -/
def execExportParcel (q : BitVec 16) (index : BitVec 32) (found : List Damage) (s : State) : Res :=
  s.holdRow (.exportParcel q index found) q index 0x04 fun u => (u.withFound found).exportNow

/-! ## IMPORT (R584, R585) -/

/-- Check 2 of R584 with R622 and R624: whether this node may take a parcel with this header. -/
def State.mayTake (s : State) (h : List Byte) : Bool :=
  if hdrDest h then sub h 0xC8 48 == Config.sha384 (Config.identityChain.headD []) && s.sec.debug != .unlocked
  else if hdrFlags h = 0 then true
  else sub h 0x18 16 == s.sec.serial && s.sec.debug != .unlocked && s.sec.lifecycle != .returned

/-- The frozen set that snapshot `id` of tenant `t` freezes. -/
def State.target (s : State) (t id : Nat) : Option Frozen := s.hold.frozen.find? fun f => f.snap == some id && f.tenant == t

/-- Check 3 of R584: the manifest's counts, counter ranges, queues and drawers match the target's. -/
def State.matches_ (s : State) (f : Frozen) (y : Snapshot) : Bool :=
  let x := f.set
  y.drawers.length == x.drawers.length && y.set.counters.map (·.2) == x.counters.map (·.2) &&
  y.queues.length == x.queues.length && y.streams.length == x.streams.length && y.contexts.length == x.contexts.length &&
  ((y.queues.zip x.queues).all fun e => optAny (s.range e.2) fun r => r.cls == e.1.2.1 && r.depth == e.1.2.2.1) &&
  (y.drawers.zip x.drawers).all fun e => optAny (s.drawer e.2) fun r => r.isSealed == e.1.isSealed && decide (e.1.size ≤ r.size)

/-- Check 4 of R584: a sealed target drawer has the access-set digest that the manifest records. -/
def State.sameAccess (s : State) (f : Frozen) (y : Snapshot) : Bool :=
  (y.drawers.zip f.set.drawers).all fun e => optAny (s.drawer e.2) fun r => !r.isSealed || r.accessDigest == e.1.digest

/-- The reserve blocks of a drawer's image in the target drawer `d`. -/
def State.imageCost (s : State) (d : Nat) : Nat := if s.mirrored d then 2 else 1

/-- Check 5 of R584: the tenant's snapshot reserve holds the parcel's drawer blocks. -/
def State.reserveHolds (s : State) (f : Frozen) (y : Snapshot) : Bool :=
  let need := ((y.drawers.zip f.set.drawers).map fun e => e.1.size * s.imageCost e.2).sum
  decide (s.reserveUsed f.tenant + need ≤ ((s.tenant f.tenant).map (·.reserve)).getD 0)

/-- Checks 3 to 5 of R584 on a parcel's header and body, and what the tags and the digest say. (DEDUCED, log 77.) -/
def State.importCheck (s : State) (f : Frozen) (h body : List Byte) : Except Status Snapshot :=
  let pieces := bodyPieces h body
  match Config.parcelContent pieces with
  | none => .error .format
  | some y =>
    if !s.matches_ f y then .error .range
    else if !s.sameAccess f y then .error .denied
    else if !s.reserveHolds f y then .error .range
    else if !bodyIntact h pieces then .error .format
    else .ok y

/-- The number that stands at the place of `n` in a list of the same order. -/
def renumber (old new : List Nat) (n : Nat) : Nat :=
  match (old.zip new).find? (·.1 == n) with | none => n | some e => e.2

/-- The counter at the place of `c` in ranges of the same order and sizes. (DEDUCED, log 100.) -/
def recount (old new : List (Nat × Nat)) (c : Nat) : Nat :=
  match (old.zip new).find? fun e => decide (e.1.1 ≤ c) && decide (c < e.1.1 + e.1.2) with
  | none => c
  | some e => e.2.1 + (c - e.1.1)

/-- A snapshot's wait on the target set. -/
def rewaitOn (o n : HoldSet) (t : Nat) (w : Wait) : Wait :=
  { w with
    counter := recount o.counters n.counters w.counter, tenant := t
    owner := match w.owner with
      | .queue q => .queue (renumber o.queues n.queues q)
      | .context k => .context (renumber o.contexts n.contexts k)
      | x => x
    target := w.target.map fun g => match g with
      | .doorbell q tail => .doorbell (renumber o.queues n.queues q) tail
      | x => x }

/-- A stream on the target set: its windows lie in the target's drawers. -/
def restreamOn (o n : HoldSet) (x : Stream) : Stream :=
  { x with chans := x.chans.map fun c =>
      { c with window := BitVec.ofNat 64 (renumber o.drawers n.drawers c.drawer + 65536 * c.offset) } }

/-- A context on the target set: its START is that of the queue there. -/
def recontextOn (o n : HoldSet) (t : Nat) (c : Ctx) : Ctx :=
  { c with tenant := t, start := c.start.map fun e => (renumber o.queues n.queues e.1, e.2) }

/-- The snapshot that a parcel makes of the target set: element by element in the order of the two descriptors.
(DEDUCED, log 77.) -/
def graft (f : Frozen) (y : Snapshot) (id q : Nat) (digest : List Byte) : Snapshot :=
  let o := y.set
  let n := f.set
  { id := id, tenant := f.tenant, set := n
    drawers := (y.drawers.zip n.drawers).map fun e => { e.1 with id := e.2, shared := [] }
    counters := sortBy (fun a b => decide (a.1 < b.1)) (y.counters.map fun e => (recount o.counters n.counters e.1, e.2))
    waits := y.waits.map (rewaitOn o n f.tenant)
    queues := (y.queues.zip n.queues).map fun e => (e.2, e.1.2)
    streams := (y.streams.zip n.streams).map fun e => (e.2, restreamOn o n e.1.2.1, e.1.2.2)
    contexts := (y.contexts.zip n.contexts).map fun e => (e.2, recontextOn o n f.tenant e.1.2)
    digest := digest, report := none, holdQ := q, busy := false }

/-- Commit an import (R585): every target drawer's generation advances, its earlier snapshots go, and the new snapshot, in
reserve blocks, is the one that freezes the set. (DEDUCED, log 77.) -/
def State.commitImport (s : State) (f : Frozen) (y : Snapshot) (q : Nat) (digest : List Byte) : State × Nat :=
  let id := s.hold.nextSnap
  let x := graft f y id q digest
  let s1 := f.set.drawers.foldl (fun u d => (u.advanceGen d).1) s
  let blocks : List Kept := x.drawers.flatMap fun im => (List.range im.size).map fun b =>
    { tenant := f.tenant, drawer := im.id, block := b, cost := s.imageCost im.id, snaps := [id] }
  ({ s1 with
      hold.nextSnap := id + 1
      hold.snapshots := s1.hold.snapshots ++ [x]
      hold.kept := s1.hold.kept ++ blocks
      hold.frozen := s1.hold.frozen.map fun (g : Frozen) => if g = f then { g with snap := some id } else g }, id)

/-- IMPORT once its command runs. -/
def State.importNow (s : State) (q : Nat) (c : RunCmd) (t : Nat) : State :=
  let b := c.bytes
  let sid := field b 16 4
  let r := s.readRange (poolDrawer b 24) (poolOffset b 24) (lengthAt b 40)
  let h := sub r.2.data 0 256
  let stop := fun (st : Status) => r.1.endRun q c.index st 0 0
  if (s.snapshot t sid).isNone then s.endRun q c.index .range 0 0
  else if r.2.bad.isSome then stop .poisoned
  else if lengthAt b 40 < 256 || !headerOk h (lengthAt b 40 - 256) then stop .format
  else if !r.1.mayTake h then stop .denied
  else match r.1.target t sid with
    | none => stop .range
    | some f =>
      match r.1.importCheck f h (r.2.data.drop 256) with
      | .error st => stop st
      | .ok y =>
        let x := r.1.commitImport f y q (sub h 0x30 48)
        (x.1.retry).endRun q c.index .ok 0 (BitVec.ofNat 64 x.2)

/-- IMPORT (R584, R585). -/
def execImportParcel (q : BitVec 16) (index : BitVec 32) (found : List Damage) (s : State) : Res :=
  s.holdRow (.importParcel q index found) q index 0x05 fun u => (u.withFound found).importNow

/-! ## RECEIVE (R588 to R590) -/

/-- RECEIVE once its command runs: it waits for the source and the rendezvous that it names. -/
def State.receiveNow (s : State) (q : Nat) (c : RunCmd) (t : Nat) : State :=
  let b := c.bytes
  if (s.snapshot t (field b 16 4)).isNone then s.endRun q c.index .range 0 0
  else if s.sec.debug = .unlocked then s.endRun q c.index .denied 0 0
  else
    let r : Receive := { q := q, index := c.index, target := field b 16 4, src := field b 20 2 % 16384
                         rdv := BitVec.ofNat 64 (field b 24 8), header := none, got := 0, chunks := [], answered := false }
    { s.updRun q c.index fun x => { x with phase := .waiting } with hold.receives := s.hold.receives ++ [r] }

/-- RECEIVE (R588). -/
def execReceive (q : BitVec 16) (index : BitVec 32) (s : State) : Res := s.holdRow (.receive q index) q index 0x06 State.receiveNow

/-- The pending RECEIVE that a transfer message is for. -/
def State.receiveFor (s : State) (r : Req) : Option Receive :=
  s.hold.receives.find? fun x => x.src == r.src.toNat && x.rdv == r.word

/-- Change a pending RECEIVE. -/
def State.updReceive (s : State) (x : Receive) (f : Receive → Receive) : State :=
  { s with hold.receives := s.hold.receives.map fun (y : Receive) => if y.q = x.q ∧ y.index = x.index then f y else y }

/-- End a RECEIVE, with what it has of the parcel discarded, and keep the outcome of its rendezvous (R590). -/
def State.endReceive (s : State) (x : Receive) (st : Status) (result : W64) : State :=
  { s with
    hold.receives := s.hold.receives.filter fun (y : Receive) => !(y.q == x.q && y.index == x.index)
    hold.outcomes := s.hold.outcomes.set x.src (some (x.rdv, st == Status.ok)) none }.endRun x.q x.index st 0 result

/-- Whether a source's last rendezvous is this one, and committed (R590). -/
def State.committed (s : State) (r : Req) : Bool := s.hold.outcomes.get r.src.toNat none == some (r.word, true)

/-- RECEIVE_IDLE_TIMEOUT (R589): no transfer message for 1 s once a transfer has begun. (DEDUCED, log 79.) -/
def execReceiveIdleTimeout (q : BitVec 16) (index : BitVec 32) (s : State) : Res :=
  match s.hold.receives.find? fun x => x.q == q.toNat && x.index == index && x.header.isSome with
  | none => .next s
  | some x => .next (s.deliver (.receiveIdleTimeout q index) fun u => (u.endReceive x .timeout 0).settle)

/-! ## Transfer messages at the destination -/

/-- XFER_ATTEST from stage 4 on (R613): the request takes its place in the queue of reports. -/
def State.serveXferAttest (s : State) (r : Req) : Served :=
  let req : ReportReq := { by_ := .fabric r, nonce := sub r.ops 0 32, scope := if r.opslots = 2 then 0 else 2, ids := attestIds r }
  ({ s with sec.reports := s.sec.reports ++ [req], fabric.parked := s.fabric.parked ++ [.attest r true] },
    some { status := .ok, later := true })

/-- The answer of a rendezvous that is already committed. -/
def doneReply : Reply := { status := .ok, word := 1 }

/-- XFER_OFFER from stage 4 on (R588, R590): the header's own checks are made at once. (DEDUCED, log 79.) -/
def State.serveXferOffer (s : State) (r : Req) : Served :=
  if s.committed r then (s, some doneReply)
  else match s.receiveFor r with
    | none => (s, some { status := .denied })
    | some x =>
      let h := sub r.data 0 256
      if !headerOk h (hdrLength h) || !hdrDest h then (s.endReceive x .format 0, some { status := .format })
      else if !s.mayTake h then (s.endReceive x .denied 0, some { status := .denied })
      else (s.updReceive x fun y => { y with header := some h, got := 0, chunks := [] }, some { status := .ok })

/-- XFER_CHUNK from stage 4 on: body bytes at their offset. (DEDUCED, log 79.) -/
def State.serveXferChunk (s : State) (r : Req) : Served :=
  match s.receiveFor r with
  | none => (s, some { status := .denied })
  | some x =>
    match x.header with
    | none => (s, some { status := .denied })
    | some h =>
      let n := r.length.toNat
      if hdrLength h < r.offset.toNat + n then (s.endReceive x .format 0, some { status := .format })
      else (s.updReceive x fun y => { y with got := y.got + n, chunks := y.chunks ++ [(r.offset.toNat, sub r.data 0 n)] },
        some { status := .ok })

/-- XFER_COMMIT from stage 4 on: the whole parcel is there, its checks hold, and it is committed (R585, R588).
(DEDUCED, log 79.) -/
def State.serveXferCommit (s : State) (r : Req) : Served :=
  if s.committed r then (s, some doneReply)
  else match s.receiveFor r with
    | none => (s, some { status := .denied })
    | some x =>
      let fail := fun (st : Status) => ((s.endReceive x st 0, some { status := st }) : Served)
      match x.header with
      | none => (s, some { status := .denied })
      | some h =>
        match if x.got = hdrLength h then joined x.chunks else none with
        | none => fail .format
        | some body =>
          match s.target (s.queueTenant x.q) x.target with
          | none => fail .range
          | some f =>
            match s.importCheck f h body with
            | .error st => fail st
            | .ok y =>
              let c := s.commitImport f y x.q (sub h 0x30 48)
              ((c.1.endReceive x .ok (BitVec.ofNat 64 c.2)).retry, some { status := .ok })

/-- XFER_ABORT from stage 4 on (R589). (DEDUCED, log 79.) -/
def State.serveXferAbort (s : State) (r : Req) : Served :=
  match s.receiveFor r with
  | none => (s, some { status := if s.committed r then .ok else .denied })
  | some x => (s.endReceive x .aborted 0, some { status := .ok })

/-- XFER_ATTEST (R586, R613). -/
def execXferAttest (r : Req) (s : State) : Res := .next (s.request (.xferAttest r) 0x40 r (xferFmt 0x40 r) (fun _ _ => none) State.serveXferAttest)
/-- XFER_OFFER (R586, R588). -/
def execXferOffer (r : Req) (s : State) : Res := .next (s.request (.xferOffer r) 0x41 r (xferFmt 0x41 r) (fun _ _ => none) State.serveXferOffer)
/-- XFER_CHUNK (R586, R588). -/
def execXferChunk (r : Req) (s : State) : Res := .next (s.request (.xferChunk r) 0x42 r (xferFmt 0x42 r) (fun _ _ => none) State.serveXferChunk)
/-- XFER_COMMIT (R586, R588); `rendezvous` is the message's WORD. -/
def execXferCommit (r : Req) (rendezvous : BitVec 64) (s : State) : Res :=
  if r.word != rendezvous then .next s
  else .next (s.request (.xferCommit r rendezvous) 0x43 r (xferFmt 0x43 r) (fun _ _ => none) State.serveXferCommit)
/-- XFER_ABORT (R586, R589). -/
def execXferAbort (r : Req) (s : State) : Res := .next (s.request (.xferAbort r) 0x44 r (xferFmt 0x44 r) (fun _ _ => none) State.serveXferAbort)

/-! ## TRANSFER at the source (R586, R587) -/

/-- TRANSFER once its command runs: the destination is attested first, with a nonce drawn afresh. (DEDUCED, log 80.) -/
def State.transferNow (s : State) (q : Nat) (c : RunCmd) (t : Nat) : State :=
  let b := c.bytes
  match s.snapshot t (field b 16 4) with
  | none => s.endRun q c.index .range 0 0
  | some x =>
    if s.sec.debug = .unlocked then s.endRun q c.index .denied 0 0
    else
      let nonce := sub (Config.freeBytes s.fresh 32) 0 32
      let s1 := s.draw.updRun q c.index fun y => { y with phase := .waiting }
      let tr : Transfer := { q := q, index := c.index, snap := x.id }
      { s1 with
        hold.transfers := s1.hold.transfers ++ [tr]
        hold.snapshots := s1.hold.snapshots.map fun (y : Snapshot) => if y.id = x.id then { y with busy := true } else y }.issue
        (.transfer q c.index) 0x40 (field b 20 2 % 16384) 0 0 (BitVec.ofNat 64 (field b 24 8)) nonce 0

/-- TRANSFER (R586, R587). -/
def execTransfer (q : BitVec 16) (index : BitVec 32) (s : State) : Res := s.holdRow (.transfer q index) q index 0x07 State.transferNow

/-- Change a TRANSFER under way. -/
def State.updTransfer (s : State) (q : Nat) (i : W32) (f : Transfer → Transfer) : State :=
  { s with hold.transfers := s.hold.transfers.map fun (t : Transfer) => if t.q = q ∧ t.index = i then f t else t }

/-- The next chunk of a transfer, or its commit after the last (R588). (DEDUCED, log 80.) -/
def State.nextChunk (s : State) (t : Transfer) (o : OutReq) : State :=
  if t.sent < t.body.length then
    let part := (t.body.drop t.sent).take 4096
    (s.updTransfer t.q t.index fun x => { x with sent := x.sent + part.length }).issue (.transfer t.q t.index) 0x42 o.dst 0 t.sent
      o.word part t.sent
  else s.issue (.transfer t.q t.index) 0x43 o.dst 0 0 o.word [] 0

/-- A response as the node reads it (R271): its status, WORD and data. -/
structure RespFields where
  status : Status
  word   : W64
  data   : List Byte

/-- The fields of a response, or none where its status is none of Table 20–10. (DEDUCED, log 40.) -/
def respFields (b : List Byte) : Option RespFields :=
  (statusOf (byteAt b 21)).map fun st =>
    { status := st, word := BitVec.ofNat 64 (field b 24 8), data := sub (b.drop (32 + 16 * (byteAt b 22 % 16))) 0 (field b 14 2 % 2 ^ 13) }

/-- The answer to a transfer message, its request gone from the queue. (DEDUCED, log 80.) -/
def State.transferAnswered (s : State) (o : OutReq) (t : Transfer) (r : RespFields) : State :=
  let snap := s.hold.snapshots.find? (·.id == t.snap)
  let fin := fun (st : Status) => (s.endTransfer t.q t.index st o).retry
  if r.status != .ok then fin r.status
  else match o.opcode with
    | 0x40 =>
      match snap with
      | none => fin .range
      | some x =>
        if !reportGood (s.boundChain o.dst) o.data r.data then fin .denied
        else
          let p := s.parcel x 3 ((s.boundCert o.dst).getD [])
          (p.1.updTransfer t.q t.index fun y => { y with header := p.2.1, body := p.2.2 }).issue (.transfer t.q t.index) 0x41 o.dst 0 0
            o.word p.2.1 0
    | 0x41 => if bitOf r.word.toNat 0 then fin .ok else s.nextChunk t o
    | 0x42 => s.nextChunk t o
    | _ => fin (if optAny snap (·.hasLost) then .poisoned else .ok)

/-! ## Responses (R271) -/

/-- A response reaches the request it answers. -/
def State.answered (s : State) (o : OutReq) (r : RespFields) : State :=
  match o.issuer with
  | .transfer q i =>
    let s1 := { s with fabric.outbound := s.fabric.outbound.filter (·.id != o.id) }
    match s.hold.transfers.find? fun t => t.q == q && t.index == i with
    | none => s1
    | some t => s1.transferAnswered o t r
  | .abandoned =>
    let s1 := { s with fabric.outbound := s.fabric.outbound.filter (·.id != o.id) }
    -- the answer to an XFER_ABORT is one; that to an abandoned request comes too late (R569)
    if o.opcode = 0x44 then s1 else match o.port with | none => s1 | some p => s1.transportError p
  | _ => s.outDone o r.status

/-- The outstanding request that a response on port `p` answers: on VC1, with its tag and opcode (R271). -/
def State.answeredBy (s : State) (p : Nat) (m : RxMsg) : Option OutReq :=
  s.fabric.outbound.find? fun o =>
    o.port == some p && o.tag == field m.bytes 10 2 % 4096 && o.sent && o.opcode + 128 == m.opcode && m.vc == 1

/-- Take the response at the front of a port's buffers: one that answers no outstanding request is discarded and counted. -/
def State.takeResp (s : State) (p : Nat) (m : RxMsg) : State :=
  let s1 := s.updPort p (·.dropRx m)
  match s1.answeredBy p m, respFields m.bytes with
  | some o, some r => (((s1.answered o r).assignAll).afterFlit p).settle
  | _, _ => s1.transportError p

/-- RESPONSE_RECEIVED (R271): the response at the front of a port's buffers is taken; with another or none there nothing happens.
(DESIGN CHOICE, log 132.) -/
def execResponseReceived (p : Fin 32) (bytes : List Byte) (s : State) : Res :=
  match (s.port p.val).frontResp with
  | none => .next s
  | some m =>
    if m.bytes == bytes && s.delivers p.val then .next (s.deliver (.responseReceived p bytes) fun u => u.takeResp p.val m) else .next s

end Sys2Proof.Machine
end

