-- ==== Sys2Proof/Machine/JoineryApply.lean ====
section
/-! DEFINITION. Loading a joinery image and applying it (chapter 5): submission, acceptance, what a full and a delta apply
do to work in flight, the apply point, and the apply report. -/

namespace Sys2Proof

/-- A queue's ring: where slot 0 lies, the drawer and the depth. -/
def QueueRange.ringOf (r : QueueRange) (q : Nat) : Nat × Nat × Nat := (r.ring, r.depth, r.ringBase * 65536 + (q - r.base) * r.depth * 64)

/-- The record that queue `q` lies in under a joinery. -/
def Joinery.range (j : Joinery) (q : Nat) : Option QueueRange := j.queues.find? fun r => decide (r.base ≤ q) && decide (q < r.base + r.count)

/-- The tenant of a counter under a joinery. -/
def Joinery.counterTenant (j : Joinery) (c : Nat) : Option Nat :=
  (j.counters.find? fun r => decide (r.base ≤ c) && decide (c < r.base + r.count)).map (·.tenant)

/-- The tenant of a stream under a joinery. -/
def Joinery.streamTenant (j : Joinery) (n : Nat) : Option Nat :=
  (j.tenants.find? fun t => decide (t.streamBase ≤ n) && decide (n < t.streamBase + t.streamCount)).map (·.id)

/-- The group of a port under a joinery. -/
def Joinery.groupOf (j : Joinery) (p : Nat) : Option GroupRec := j.groups.find? fun g => g.portMask.getLsbD p

/-- Whether a joinery enables a port (R154). -/
def Joinery.enables (j : Joinery) (p : Nat) : Bool := Machine.optAny (j.groupOf p) (·.enable)

/-- The record of a drawer under a joinery. -/
def Joinery.drawer (j : Joinery) (d : Nat) : Option DrawerRec := j.drawers.find? (·.id == d)

/-- The part of an extent below a drawer's size. -/
def Extent.clip (e : Extent) (size : Nat) : Option Extent :=
  if e.first < size then some { e with count := min e.count (size - e.first) } else none

end Sys2Proof

namespace Sys2Proof.Machine

/-! ## Reports (R177, R717) -/

/-- Blocks that await a sweep, over all stacks. -/
def State.awaitingBlocks (s : State) : Nat := ((List.range s.power.part.slices).map fun n => (s.stk n).awaiting).sum

/-- Post an apply report in BAR0 and in the reply of the session that loaded the image, with its event (R177). -/
def State.postReport (s : State) (who : Submitter) (e : Ev) (code : Nat) (delta : Bool) (seq c : Nat) (rep : List Byte) : State :=
  let s1 := ({ s with jny.report := rep, jny.result := code }).raise e .node 0 (code + 256 * b2n delta) seq c
  match who with
  | .host => s1
  | .session i r => s1.answer i r kindLoad .ok [(1, cborBytes rep)]

/-- The report and the event of a rejection. (DEDUCED, log 28.) -/
def State.postReject (s : State) (who : Submitter) (im : List Byte) (r : Reject) : State :=
  s.postReport who .joineryRejected r.code (imageDelta im) (imageSeq im) (r.index + 2 ^ 32 * r.off)
    (reportBytes r.code (imageDelta im) r.index (imageSeq im) 0 r.off 0 0 s.awaitingBlocks r.stype r.skey [])

/-- The report and the event of an image that has been applied. -/
def State.postApplied (s : State) (who : Submitter) (j : Joinery) : State :=
  s.postReport who .joineryApplied 0 j.isDelta j.seq s.jny.pointTs
    (reportBytes 0 j.isDelta 0xFFFFFFFF j.seq s.jny.pointTs 0 s.jny.resets.toNat s.jny.dropped s.awaitingBlocks 0 0 s.jny.entries)

/-- The image is dealt with: JNY_STAT.BUSY falls (R679). (DEDUCED, log 29.) -/
def State.joineryIdle (s : State) : State := { s with jny.phase := .idle }.busyFell

/-! ## Submission (R150, R151, R675) -/

/-- Whether a retention entry or a shutdown is under way in any state. (DEDUCED, log 30.) -/
def State.closing (s : State) : Bool := s.power.retention.isSome || s.power.shutdown

/-- Whether an image may be submitted: AWAIT_JOINERY, APPLYING and READY, and no drain (Table 4–5). -/
def State.takesImages (s : State) : Bool := s.inStates true true false && !s.closing

/-- Take an image for checking: in AWAIT_JOINERY the node enters APPLYING (R150). (DEDUCED, log 28.) -/
def State.takeImage (s : State) (im : List Byte) (who : Submitter) : State :=
  let s1 := { s with jny.phase := .checking im who }
  if s.isIn .awaitJoinery then s1.setNode .applying "" else s1

/-- A write of JNY_CTRL (R675): the image of LEN bytes is read from Staging at the write. -/
def State.jnySubmit (s : State) (w : HostWrite) : State :=
  s.submit w 0x1010 (s.jny.phase != .idle) true s.takesImages (fun u => { u with jny.submit := .notReady }) fun u =>
    { u with jny.submit := .ok }.takeImage (FMap.getRun u.jny.staging 0 0 (bits w.value.toNat 24 0)) .host

/-- JNY_CTRL (R675). (DEDUCED, log 28.) -/
def execJnyCtrl (w : HostWrite) (s : State) : Res := .next (s.hostGate (.jnyCtrl w) (·.jnySubmit w))

/-- JOINERY_LOAD (R150, R151): a second image is rejected with JR_BUSY, unverified. (DEDUCED, log 28.) -/
def execJoineryLoad (m : BureauMsg) (image : List Byte) (s : State) : Res :=
  .next (s.bureauRequest (.joineryLoad m image) m kindLoad (bytesBody fun _ => true) image adminOnly s.takesImages true fun u =>
    let who := Submitter.session m.session m.reqId
    if u.jny.phase != .idle then u.postReject who image { code := 0x01 } else u.takeImage image who)

/-! ## The placement of an accepted image (R149, R166) -/

/-- The runs of blocks that a joinery adds to a drawer: its copy, first block and count. The copy that an added mirror
needs is built later (R346). -/
def State.addedRuns (s : State) (n : DrawerRec) : List (Nat × Nat × Nat) :=
  match s.drawer n.id with
  | none => (0, 0, n.size) :: (if n.mirrored then [(1, 0, n.size)] else [])
  | some o =>
    if n.size ≤ o.size then [] else
      (0, o.size, n.size - o.size) :: (if n.mirrored && o.mirrored then [(1, o.size, n.size - o.size)] else [])

/-- The runs of blocks of a drawer that an image's apply may move (R166): those that stay, of a drawer that is not kept in
place; copy, first block and count. -/
def State.movableRuns (s : State) (j : Joinery) (n : DrawerRec) : List (Nat × Nat × Nat) :=
  match s.drawer n.id with
  | none => []
  | some o =>
    if fixedDrawer j n || (o.mirrored && !n.mirrored) then [] else
      (0, 0, min o.size n.size) :: (if o.mirrored then [(1, 0, min o.size n.size)] else [])

/-- Whether extents give block `b` of copy `c` of drawer `d` a place. -/
def placesBlock (plan : List Extent) (d c b : Nat) : Bool :=
  plan.any fun e => e.drawer == d && e.copy == c && decide (e.first ≤ b) && decide (b < e.first + e.count)

/-- The stack that a plan gives block `b` of copy `c` of drawer `d`. -/
def planStack (plan : List Extent) (d c b : Nat) : Option Nat :=
  (plan.find? fun e => e.drawer == d && e.copy == c && decide (e.first ≤ b) && decide (b < e.first + e.count)).map (·.stack)

/-- The physical blocks that a plan takes. -/
def planBlocks (plan : List Extent) : List (Nat × Nat) :=
  plan.flatMap fun e => (List.range e.count).map fun i => (e.stack, e.phys + i)

/-- Whether an extent lies in one of these runs. -/
def inRuns (e : Extent) (rs : List (Nat × Nat × Nat)) : Bool :=
  rs.any fun r => r.1 == e.copy && decide (r.2.1 ≤ e.first) && decide (e.first + e.count ≤ r.2.1 + r.2.2)

/-- The stack on which a plan leaves block `b` of copy `c` of drawer `d`. -/
def State.plannedStack (s : State) (plan : List Extent) (d c b : Nat) : Option Nat :=
  match planStack plan d c b with | some x => some x | none => (s.place d b c).map (·.1)

/-- Whether a physical block is free for a plan: usable, and empty or left by a block that the plan moves elsewhere. -/
def State.freeUnder (s : State) (j : Joinery) (plan : List Extent) (stack phys : Nat) : Bool :=
  s.usableBlock stack phys && match s.occupant stack phys with
    | none => true
    | some (d, b) =>
      let c := if s.place d b 0 = some (stack, phys) then 0 else 1
      placesBlock plan d c b && optAny (j.drawer d) fun n =>
        (s.movableRuns j n).any fun r => r.1 == c && decide (b < r.2.2)

/-- Whether a plan is a placement of the joinery (R149): it places every block that the joinery adds and may move blocks
that need not stay (R166), on usable blocks of live stacks that the drawer's mask allows, no block twice, and the copies of
a mirrored block on different stacks. (DESIGN CHOICE, log 11.) -/
def State.planOk (s : State) (j : Joinery) (plan : List Extent) : Bool :=
  (plan.all fun e => optAny (j.drawer e.drawer) fun n =>
    n.allows e.stack && inRuns e (s.addedRuns n ++ s.movableRuns j n)) &&
  (j.drawers.all fun n => (s.addedRuns n).all fun r => (List.range r.2.2).all fun i => placesBlock plan n.id r.1 (r.2.1 + i)) &&
  (plan.all fun e => (List.range e.count).all fun i =>
    s.plannedStack plan e.drawer (1 - e.copy) (e.first + i) != some e.stack) &&
  decide (planBlocks plan).Nodup &&
  (planBlocks plan).all fun x => s.liveStacks.contains x.1 && s.freeUnder j plan x.1 x.2

/-! ## Acceptance -/

/-- A full apply accepted in READY: step 1 of Table 5–9. Commands and contexts are asked to stop, ports to quiesce, and
what no queue will run any more is counted. -/
def State.beginFull (s : State) (j : Joinery) : State :=
  let left := (s.queues.map fun e => if s.queueFrozen e.1 then 0 else (e.2.tail - e.2.dispatch).toNat).sum
  let s1 := { s with jny.dropped := left }.setNode .applying ""
  let s2 := (List.range s.power.part.ports).foldl (fun u p =>
    if (u.port p).isUp || (u.port p).dozes then u.quiesce p (if j.enables p then 2 else 3) else u) s1
  let s3 := s2.stopRuns (fun q _ => !s.queueFrozen q) .aborted
  s3.ctxs.foldl (fun u e => if u.ctxFrozen e.1 || (u.ctx e.1).phase == .idle then u else u.stopCtx e.1 .aborted) s3

/-- An image is accepted: the recorded sequence number rises (R145), and the apply begins. -/
def State.acceptImage (s : State) (im : List Byte) (j : Joinery) (plan : List Extent) (who : Submitter) : State :=
  let s1 := { s with
    power := { s.power with maxSeq := j.seq }
    jny := { s.jny with phase := .accepted im j plan (!j.isDelta) who, everOk := true, dropped := 0 } }
  if s.isReady && !j.isDelta then s1.beginFull j else s1

/-- IMAGE_CHECK_DONE (R147 to R150, R109): the first failing check rejects; a rejection in APPLYING returns the node to
AWAIT_JOINERY. `plan` is the placement that the node has computed; one that is no placement of the image is not the node's.
(DESIGN CHOICE, log 11.) -/
def execImageCheckDone (plan : List Extent) (s : State) : Res :=
  match s.jny.phase with
  | .checking im who =>
    if s.closing then .next s else
    match s.checkImage s.isReady im with
    | some r =>
      .next (s.deliver (.imageCheckDone plan) fun u =>
        let u1 := if u.isIn .applying then u.setNode .awaitJoinery "" else u
        ((u1.postReject who im r).joineryIdle).settle)
    | none =>
      let j := joineryOf im (imageRecords im).1
      if !s.planOk j plan then .next s
      else .next (s.deliver (.imageCheckDone plan) fun u => (u.acceptImage im j plan who).settle)
  | _ => .next s

/-! ## Work that an apply ends -/

/-- End with ABORTED what still runs of queue `q`, with its records in the ring `r` that it had (R168, Table 5–10). -/
def State.endQueue (s : State) (q : Nat) (r : QueueRange) : State :=
  (s.queue q).running.foldl (fun u c =>
    let d := if c.phase = .ended then c else c.finish .aborted c.progress c.result
    u.completeIn q r d) s

/-- End every context's program that a set does not hold frozen; frozen ones are dropped as they stand. -/
def State.endContexts (s : State) : State :=
  s.ctxs.foldl (fun u e => if s.ctxFrozen e.1 then u else
    if (u.ctx e.1).start.isSome then u.endStart e.1 .aborted 0 else u.freeCtxWaits e.1) s

/-- HOLDs that have not captured are at an end: their sets thaw. RECEIVEs and TRANSFERs are given up (R168 step 2). -/
def State.endHolds (s : State) : State :=
  let s1 := { s with
    hold.receives := [], hold.transfers := []
    hold.snapshots := s.hold.snapshots.map fun (x : Snapshot) => { x with busy := false } }
  (s.hold.frozen.filter (·.snap.isNone)).foldl (fun u f => u.thaw f) s1

/-- Every command and context of the node ends with ABORTED, every WAIT is released with ABORTED, and queues, contexts and
streams are reset (R168 steps 2 and 3). A frozen queue's commands, which its snapshot keeps, write nothing.
(DEDUCED, log 31.) -/
def State.endWork (s : State) : State :=
  let s1 := s.endHolds.endContexts
  let s2 := s1.queues.foldl (fun u e => match u.range e.1 with
    | none => u
    | some r => if u.queueFrozen e.1 then u else u.endQueue e.1 r) s1
  let s3 := s2.releaseAll (fun _ => true) .aborted
  { s3 with
    queues := [], ctxs := [], streams := []
    sync.heldAdds := s3.sync.heldAdds.map fun (h : HeldAdd) => { h with command := none } }

/-- Discard the snapshots that share block `b` of drawer `d`: the reserve cannot keep it. -/
def State.dropSharers (s : State) (d b : Nat) : State :=
  (s.hold.snapshots.filter (·.shares d b)).foldl (fun u x => (u.dropSnapshot x.id).noteOnce .snapshotEvicted) s

/-- Make the blocks that a write covers writable, whatever the reserve holds. (DEDUCED, log 31.) -/
def State.claimAnyway (s : State) (d off n : Nat) : State :=
  if n = 0 then s else
  (List.range ((off + n - 1) / 65536 - off / 65536 + 1)).foldl
    (fun u i => (u.unshare d (off / 65536 + i)).getD (u.dropSharers d (off / 65536 + i))) s

/-- The bytes that a request writes to its drawer. -/
def writeLength (op : Nat) (r : Req) : Nat := match op with | 0x02 => r.length.toNat | 0x03 => 8 | 0x04 => 8 | 0x05 => 16 | _ => 0

/-- A waiting request takes its effect now, where the configuration that it passed stage 4 under is to change (R36). One that
waits for a stream or behind a MASK_FETCH waits on. (DEDUCED, log 31.) -/
def State.finishOne (s : State) (x : Parked) : State :=
  match x with
  | .req op r none live =>
    if namesNoDrawer op then s.retryOne x
    else match serveOf op (s.claimAnyway r.drawer.toNat r.offset.toNat (writeLength op r)) r with
      | (u, some y) => if live then (u.respond op r y).afterFlit r.port.val else u
      | (u, none) => u.repark x
  | .hostWrite o data =>
    match (s.claimAnyway (o / 2 ^ 40) (o % 2 ^ 40) data.length).hostStore (o / 2 ^ 40) (o % 2 ^ 40) data with
    | none => s.repark x
    | some (u, _) => u
  | y => s.retryOne y

/-- Every waiting request that can takes its effect, in order, before the configuration changes (R36). -/
def State.finishParked (s : State) : State := s.fabric.parked.foldl State.finishOne { s with fabric.parked := [] }

/-- Whether a request past stage 4 has not taken its effect. -/
def State.reqsWait (s : State) : Bool := s.fabric.parked.any fun x => match x with | .req _ _ _ _ => true | _ => false

/-- The node's own requests that serve a MASK_FETCH. -/
def State.maskWrites (s : State) : List OutReq := s.outReqs fun o => match o.issuer with | .mask _ _ _ => true | _ => false

/-- Bring every fabric request past stage 4 to its end (R168 step 3): outbound WRITEs that a MASK_FETCH still waits for end with
LINK_LOST, as the flush of their ports is about to end them. `rounds` bounds the requests that wait for one another.
(DEDUCED, log 31.) -/
def State.finishFabric : Nat → State → State
  | 0, s => s
  | n + 1, s =>
    let u := s.finishParked
    if u.maskWrites.isEmpty then u
    else State.finishFabric n (u.maskWrites.foldl (fun v o => if (v.outReqs (·.id == o.id)).isEmpty then v else v.outDone o .linkLost) u)

/-- End the session of port `p` at the apply point of a full apply (R168 step 3): LINK_DOWN_PLANNED goes where it can, a QUIESCE
that has not completed is flushed (R252 step 4); the lasers stay off until READY. -/
def State.downForApply (s : State) (j : Joinery) (p : Nat) : State :=
  let v := s.port p
  let reason := if j.enables p then 2 else 3
  if v.isUp || v.dozes then
    let m := vc3Msg 0x18 (leBytes 1 reason)
    let s1 := if v.maySend && v.room m then s.launchNow p m else s
    if v.quiesce.isSome then s1.forcedDown p reason else s1.plannedDown p true
  else s.sendPlanned p reason

/-- Every port goes down, every binding ends (R716), and no fabric work is left. -/
def State.endFabric (s : State) (j : Joinery) : State :=
  let s1 := (List.range s.power.part.ports).foldl (fun u p => u.downForApply j p) s
  { s1 with
    fabric.bindings := [], fabric.outbound := [], fabric.stalled := []
    fabric.parked := s1.fabric.parked.filter fun x => match x with
      | .req _ _ _ _ => false | .mask _ _ _ _ _ _ _ => false | .hostWrite _ _ => true | .attest _ _ => true }

/-! ## Drawers at the apply point (Tables 5–10 and 5–11) -/

/-- Take the blocks of drawer `d` from `size` up out of the live drawer: a snapshot that shares one keeps it in the
reserve (R574). (DEDUCED, log 33.) -/
def State.trimDrawer (s : State) (d size old : Nat) : State :=
  let s1 := (List.range (old - size)).foldl (fun u i => match u.unshare d (size + i) with
    | some v => v
    | none => u.dropSharers d (size + i)) s
  let v := s1.drw d
  let s2 := { s1 with
    mem := FMap.keep s1.mem (fun a => !(a / 2 ^ 40 == d && decide (size * 65536 ≤ a % 2 ^ 40)))
    dram.tags := s1.dram.tags.keep (fun k => !(k / 2 ^ 34 == d && decide (size * 1024 ≤ k % 2 ^ 34)))
    dram.poison := s1.dram.poison.keep (fun k => !(k / 2 ^ 34 == d && decide (size * 1024 ≤ k % 2 ^ 34))) }
  let below := v.unstamped.filter fun (r : Nat × Nat) => decide (r.1 < size)
  s2.setDrw d { v with unstamped := below.map fun (r : Nat × Nat) => (r.1, min r.2 (size - r.1)) }

/-- A created drawer: its generation is the last one of its ID + 1 (Table 5–11); its blocks are stamped before they serve
an access (R606). -/
def State.createDrawer (s : State) (n : DrawerRec) : State × List GenEntry :=
  let g := s.gen n.id + 1
  let s1 := { s with jny.gens := s.jny.gens.set n.id g 0 }
  let v : DrawerState := { stampTag := g.truncate 8, unstamped := [(0, n.size)] }
  (s1.setDrw n.id v, [{ drawer := n.id, wrap := false, created := true, gen := g, discarded := 0 }])

/-- A drawer that stays: its generation, size and mirror (Table 5–11). (DEDUCED, log 33.) -/
def State.changeDrawer (s : State) (o n : DrawerRec) : State × List GenEntry :=
  let a := if advances o n then s.advanceGen n.id else (s, 0)
  let s1 := a.1
  let entry : List GenEntry := if advances o n then
      [{ drawer := n.id, wrap := decide ((s1.gen n.id).toNat % 256 = 0), created := false, gen := s1.gen n.id, discarded := a.2 }]
    else []
  let s2 := if n.size < o.size then s1.trimDrawer n.id n.size o.size
    else if o.size < n.size then
      s1.setDrw n.id { s1.drw n.id with unstamped := (s1.drw n.id).unstamped ++ [(o.size, n.size - o.size)] }
    else s1
  let s3 := if n.mirrored && !o.mirrored then s2.degrade n.id (((s.livePlaces n.id 0).head?.map (·.1)).getD 0)
    else if o.mirrored && !n.mirrored then s2.setDrw n.id { s2.drw n.id with degraded := false } else s2
  (s3, entry)

/-- A deleted drawer: its contents are unreadable and its snapshots discarded (Table 5–11). -/
def State.deleteDrawer (s : State) (d : Nat) : State :=
  let s1 := (s.hold.snapshots.filter fun x => x.drawers.any (·.id == d)).foldl (fun u x => u.dropSnapshot x.id) s
  { s1 with
    mem := FMap.keep s1.mem (fun a => a / 2 ^ 40 != d)
    dram.tags := s1.dram.tags.keep (fun k => k / 2 ^ 34 != d)
    dram.poison := s1.dram.poison.keep (fun k => k / 2 ^ 34 != d)
    dram.drawers := s1.dram.drawers.keep (· != d) }

/-- The entries of the translation table that stay for a drawer: below its new size; of a mirror that is removed, only the
primary copy of each block (R348). -/
def State.keptExtents (s : State) (o n : DrawerRec) : List Extent :=
  if o.mirrored && !n.mirrored then
    (List.range (min o.size n.size)).filterMap fun b =>
      let at_ := match (s.livePlaces n.id b).head? with | some x => some x | none => s.place n.id b 0
      at_.map fun x => { drawer := n.id, copy := 0, first := b, count := 1, stack := x.1, phys := x.2 }
  else (s.dram.dtt.filter (·.drawer == n.id)).filterMap (·.clip n.size)

/-- The translation table of a joinery. -/
def State.newTable (s : State) (j : Joinery) (plan : List Extent) : List Extent :=
  plan ++ j.drawers.flatMap fun n => match s.drawer n.id with | none => [] | some o => s.keptExtents o n

/-- Unload the images whose drawer is deleted, changes tenant or advances its generation (R526). -/
def State.unloadImages (s : State) (j : Joinery) : State :=
  { s with images := s.images.filter fun (e : Nat × Option LexImage) => optAny e.2 fun im =>
      match s.drawer im.drawer, j.drawer im.drawer with
      | some o, some n => !advances o n
      | _, _ => false }

/-- Every drawer's change, and the freed blocks' wait for their sweep (R174). -/
def State.applyDrawers (s : State) (j : Joinery) (plan : List Extent) : State :=
  let freed := s.freedPlaces j
  let table := s.newTable j plan
  let s1 := s.unloadImages j
  let gone := ((s.records (·.drawers)).filter fun o => (j.drawer o.id).isNone).map (·.id)
  let r := j.drawers.foldl (fun (acc : State × List GenEntry) n =>
    let x := match s.drawer n.id with
      | none => acc.1.createDrawer n
      | some o => acc.1.changeDrawer o n
    (x.1, acc.2 ++ x.2)) (s1, [])
  let s2 := gone.foldl (fun u d => u.deleteDrawer d) r.1
  -- a move under way ends where its block goes, is pinned, may no longer lie there, or is moved by the plan (R94, R172)
  let still := fun (m : Move) => !placesBlock plan m.drawer m.copy m.block && optAny (j.drawer m.drawer) fun n =>
    decide (m.block < n.size) && (m.copy == 0 || n.mirrored) && !n.pinned && n.allows m.stack
  let s3 := s2.abandonMoves (!still ·)
  let s4 := { s3 with dram.dtt := table, jny.entries := r.2 }
  freed.foldl (fun u p => u.updStk p.1 fun k => { k with awaiting := k.awaiting + 1, unswept := k.unswept ++ [p.2] }) s4

/-! ## Counters, contexts, domains, roles -/

/-- Whether a counter changes tenant, or leaves every range. -/
def State.counterMoves (s : State) (j : Joinery) (c : Nat) : Bool :=
  (s.counterTenant c).isSome && s.counterTenant c != j.counterTenant c

/-- Counters that change tenant (R169, Table 5–10): notifications that are pending keep the value, the counters are set
to 0, and their waiters are released with ABORTED. -/
def State.applyCounters (s : State) (j : Joinery) : State :=
  let pin := fun (w : Wait) =>
    if w.isPending && w.fixed.isNone && s.counterMoves j w.counter then { w with fixed := some (s.counter w.counter) } else w
  let s1 := s.setWaits (s.sync.waits.map pin)
  let s2 := { s1 with sync.counters := s1.sync.counters.keep fun c => !s.counterMoves j c }
  s2.releaseAll (fun w => s.counterMoves j w.counter) .aborted

/-- The sieve contexts of engines in service under a joinery, in the order of assignment: context number first (R442). -/
def State.assignable (s : State) (j : Joinery) : List Nat :=
  let engines := (List.range s.power.part.sieves).filter fun n =>
    !s.power.sieveOut.contains n && j.slices.any fun r => r.slice == n / 4 && r.mask.getLsbD (n % 4)
  (List.range 8).flatMap fun c => engines.map fun n => n * 8 + c

/-- Give tenant `t` its count of contexts: free ones in order where it has fewer; where it has more, they go in the
reverse order (R442). -/
def State.giveContexts (s : State) (order : List Nat) (t count : Nat) : State :=
  let mine := order.filter fun k => (s.ctx k).tenant == t
  if mine.length < count then
    ((order.filter fun k => (s.ctx k).tenant == 0).take (count - mine.length)).foldl (fun u k => u.setCtx k { tenant := t }) s
  else
    (mine.drop count).foldl (fun u k =>
      let v := if (u.ctx k).start.isSome then u.endStart k .aborted 0 else u.freeCtxWaits k
      (v.setCtx k {}).reelect k) s

/-- The contexts of every tenant, in ascending tenant ID; those that lose contexts first. -/
def State.applyContexts (s : State) (j : Joinery) : State :=
  let order := s.assignable j
  let want := fun (t : Nat) => match j.tenants.find? (·.id == t) with | none => 0 | some r => r.contexts
  let had := fun (t : Nat) => (order.filter fun k => (s.ctx k).tenant == t).length
  let losers := (((s.records (·.tenants)).map (·.id)).filter fun t => decide (want t < had t))
  let s1 := losers.foldl (fun u t => u.giveContexts order t (want t)) s
  j.tenants.foldl (fun u t => u.giveContexts order t.id t.contexts) s1

/-- The fixed voltages of the LOOPS record (R87, R97). -/
def State.applyVolts (s : State) (j : Joinery) : State :=
  j.loops.volts.zipIdx.foldl (fun (u : State) (e : Byte × Nat) =>
    u.setDom e.2 { u.dom e.2 with fixed := if e.1 == 0xFF then none else some (stepVolt * e.1.toNat) }) s

/-- The bench of a number. -/
def benchOf (n : Nat) : BenchId := if n = 0 then .A else if n = 1 then .B else .C

/-- The roles at the apply from AWAIT_JOINERY (R163, R295, R296): of three benches in service the preferred one is the
spare, two are the active pair. -/
def Benches.assign (b : Benches) (r : BenchRec) : Benches :=
  let out := fun (i : BenchId) => r.excl.getLsbD i.num
  let inService := allBenches.filter fun i => !out i && b.role i != .retired
  let role := fun (i : BenchId) =>
    if out i then Role.excluded
    else if b.role i = .retired then .retired
    else if inService.length = 3 ∧ i = benchOf r.spare then .spare
    else .active
  { b with
    roleA := role .A, roleB := role .B, roleC := role .C, lag := 0, throttled := false
    takenA := b.inputs, takenB := b.inputs, takenC := b.inputs }

/-- Whether ports are enabled, and their speed, under a joinery (R154). -/
def State.applyPorts (s : State) (j : Joinery) : State :=
  (List.range s.power.part.ports).foldl (fun u p => u.updPort p fun v =>
    { v with
      enabled := j.enables p, half := optAny (j.groupOf p) (·.half)
      everUp := v.everUp && v.enabled, failRaised := v.failRaised && v.enabled }) s

/-! ## The apply point (R36) -/

/-- The ports that a full apply resets: enabled before or after. -/
def State.fullMask (s : State) (j : Joinery) : Nat :=
  ((List.range s.power.part.ports).map fun p => if (s.port p).enabled || j.enables p then 2 ^ p else 0).sum

/-- What every apply puts in force at its point: drawers, counters and the records themselves, with the point's
timestamp. -/
def State.install (s : State) (j : Joinery) (plan : List Extent) : State :=
  let s1 := ((s.applyDrawers j plan).applyCounters j)
  { s1 with jny.inForce := some j, jny.pointTs := s.ts }.applyVolts j

/-- The apply point of a full apply (Table 5–9 step 3, R170). (DEDUCED, log 31.) -/
def State.fullPoint (s : State) (j : Joinery) (plan : List Extent) (who : Submitter) : State :=
  let first := s.jny.inForce.isNone
  let s1 := if first then s else ((State.finishFabric (s.fabric.parked.length + 1) s).endWork).endFabric j
  let s2 := { s1 with jny.resets := BitVec.ofNat 32 (s.fullMask j) }.install j plan
  let s3 := (s2.applyContexts j).applyPorts j
  let s4 := if first then { s3 with bench := s3.bench.assign j.bench } else s3
  { s4 with jny.phase := .applied who }.thawAdds.settle

/-! ## Delta effects (Table 5–10) -/

/-- Whether a delta removes queue `q`, or resets it: its tenant, class or ring changes. -/
def State.queueMoves (s : State) (j : Joinery) (q : Nat) : Bool :=
  match s.range q, j.range q with
  | none, _ => false
  | some _, none => true
  | some o, some n => o.tenant != n.tenant || o.cls != n.cls || o.ringOf q != n.ringOf q

/-- Whether the old ring of a queue still lies in a drawer of the queue's old tenant. -/
def ringStays (j : Joinery) (o : QueueRange) (q : Nat) : Bool :=
  optAny (j.drawer o.ring) fun d => d.tenant == o.tenant && decide ((o.ringOf q).2.2 + o.depth * 64 ≤ d.bytes)

/-- A queue that a delta removes or resets: what runs ends with ABORTED, recorded in its old ring where that stays; the rest
is dropped and counted; the queue is empty. (DEDUCED, log 32.) -/
def State.resetQueue (s : State) (j : Joinery) (q : Nat) : State :=
  match s.range q with
  | none => s
  | some o =>
    let stays := ringStays j o q && !s.queueFrozen q
    let s1 := s.ctxs.foldl (fun u e => match e.2.start with
      | some (p, _) => if p = q then (u.endStart e.1 .aborted 0).reelect e.1 else u
      | none => u) s
    let u := s1.queue q
    let lost := (u.tail - u.dispatch).toNat + (if stays then 0 else u.running.length)
    let s2 := if stays then s1.endQueue q o else s1
    { (s2.setQueue q {}) with
      jny.dropped := s.jny.dropped + lost
      sync.heldAdds := s2.sync.heldAdds.map fun (h : HeldAdd) => if (h.command.map (·.1)) = some q then { h with command := none } else h }

/-- The groups that a delta adds, removes or changes. -/
def State.groupChanges (s : State) (j : Joinery) : List GroupRec :=
  ((s.records (·.groups)).filter fun g => !j.groups.contains g) ++ j.groups.filter fun g => !(s.records (·.groups)).contains g

/-- Whether a chain ends at no certificate that a joinery lists. -/
def unlisted (j : Joinery) (chain : List (List Byte)) : Bool := (anchors j.cas chain).isEmpty

/-- The ports of the planned reset (Table 5–10): members of changed groups, and ports whose bound endpoint chains only to a
removed CA. (DEDUCED, log 32.) -/
def State.resetPorts (s : State) (j : Joinery) : List Nat :=
  let changed := s.groupChanges j
  let cut := s.fabric.bindings.filter fun b => unlisted j b.chain
  (List.range s.power.part.ports).filter fun p =>
    changed.any (·.portMask.getLsbD p) || cut.any (fun b => b.ports.any (·.2 == p)) ||
    ((s.port p).hasSession && (s.port p).cert.isSome && unlisted j (s.port p).chain)

/-- Bindings end with their group, or with the last listed CA of their chain (R716). (DEDUCED, log 32.) -/
def State.cutBindings (s : State) (j : Joinery) : State :=
  let changed := (s.groupChanges j).map (·.group)
  { s with fabric.bindings := (s.fabric.bindings.map fun (b : Binding) =>
      { b with ports := b.ports.filter fun (x : Nat × Nat) => !changed.contains x.1 }).filter fun (b : Binding) =>
        !b.ports.isEmpty && !unlisted j b.chain }

/-- The engines that have work keep to the ENGINE_SHARE records before a delta until their next quantum boundary (Table 5–10). -/
def State.keepShares (s : State) (j : Joinery) : State :=
  if j.shares = s.records (·.shares) then s else
  let on := s.queues.flatMap fun e => match s.range e.1 with
    | none => []
    | some r => (e.2.running.filter (·.onEngine)).map fun c => engineCode r.cls c.engine
  { s with shares.former := s.records (·.shares), shares.formerOn := on.dedup }

/-- The apply point of a delta apply (R171): the differences take effect, and the report is posted. (DEDUCED, log 31 and 32.) -/
def State.deltaPoint (s0 : State) (j : Joinery) (plan : List Extent) (who : Submitter) : State :=
  let s := s0.finishParked.keepShares j
  let ports := s.resetPorts j
  let s1 := (s.queues.map (·.1)).foldl (fun u q => if s.queueMoves j q then u.resetQueue j q else u) s
  let s2 := { s1 with
    streams := s1.streams.keep fun n => s.streamTenant n == j.streamTenant n
    jny.resets := BitVec.ofNat 32 (ports.map (2 ^ ·)).sum }.cutBindings j
  let s3 := ((s2.install j plan).applyContexts j).applyPorts j
  let s4 := ports.foldl (fun u p => u.quiesce p (if j.enables p then 2 else 3)) s3
  ((s4.thawAdds.postApplied who j).joineryIdle).settle

/-- APPLY_POINT (R36, R168, R170, R171). A delta's point is not reached while a request past stage 4 waits for a stream or behind
a MASK_FETCH. (DEDUCED, log 31.) -/
def execApplyPoint (s : State) : Res :=
  match s.jny.phase with
  | .accepted _ j plan full who =>
    if s.closing || s.isIn .failed then .next s
    else if full then .next (s.deliver .applyPoint fun u => u.fullPoint j plan who)
    else if s.finishParked.reqsWait then .next s
    else .next (s.deliver .applyPoint fun u => u.deltaPoint j plan who)
  | _ => .next s

/-- FULL_APPLY_DONE (R168 steps 4 and 5): READY, the report, and every enabled port trains. -/
def execFullApplyDone (s : State) : Res :=
  match s.jny.phase, s.jny.inForce with
  | .applied who, some j =>
    if s.closing || !s.isIn .applying then .next s else
    .next (s.deliver .fullApplyDone fun u =>
      let s1 := ((u.setNode .ready "").postApplied who j).joineryIdle
      ((List.range s.power.part.ports).foldl (fun v p => v.updPort p Port.train) s1).settle)
  | _, _ => .next s

/-- CONFIG_REQUEST (R110): Request Retry Status in SELF_TEST; served from MEMORY_TRAIN on, and in FAILED but after
THERMAL_TRIP (R118). -/
def execConfigRequest (s : State) : Res :=
  if !s.host.linkUp || s.power.tripped then .next s
  else if s.isIn .selfTest then .next (s.complete_ (.hostStatus "CRS"))
  else .next (s.complete_ (.hostStatus "served"))

end Sys2Proof.Machine
end

