-- ==== Sys2Proof/Machine/Retention.lean ====
section
/-! DEFINITION. Retention and shutdown (chapter 4, R120 to R132): the command and its refusals, the drain, entry, the wake
sources, and the exit. -/

namespace Sys2Proof.Machine

/-- RETENTION's message type (Table 18–1). -/
def kindRetention : Nat := 0x0B

/-- SHUTDOWN's message type (Table 18–1). -/
def kindShutdown : Nat := 0x0C

/-- SELFTEST, a cause of BENCH_RETIRED (Table 19–5). -/
def retiredSelftest : Nat := 7

/-! ## The command (R120, R121) -/

/-- Whether a hold-class command is a HOLD, RESUME, parcel export or import, or TRANSFER in progress; a RECEIVE is once a
transfer has been offered to it. (DEDUCED, log 22.) -/
def State.holdWork (s : State) : Bool :=
  !s.hold.transfers.isEmpty || s.hold.receives.any (·.header.isSome) ||
  s.queues.any fun e => (optAny (s.range e.1) fun r => r.cls == clsHold) &&
    e.2.running.any fun c => c.phase != .ended && [0x01, 0x02, 0x04, 0x05, 0x07].contains (cmdOp c.bytes)

/-- What refuses a retention command (R121); so does one that is already under way. (DEDUCED, log 22.) -/
def State.retentionBarred (s : State) : Bool :=
  s.holdWork || !s.dram.jobs.isEmpty || (s.dram.drawers.any fun e => e.2.sweeping.isSome) || s.jny.phase != .idle ||
  s.bench.readmit.isSome || s.bench.kerf.isSome || s.closing

/-- Step 1 of Table 4–5, and what step 2 asks for: running commands and contexts are to pause at their next resume
point. -/
def State.drain (s : State) : State :=
  let ask := fun (cls : Nat) (c : RunCmd) =>
    if c.phase == .ended || cls == clsHold || (cls == clsSieve && cmdOp c.bytes == 0x02 && c.phase == .running) then c
    else { c with pauseReq := true }
  let s1 := s.queues.foldl (fun (u : State) (e : Nat × Queue) =>
    let cls := match s.range e.1 with | none => 0 | some r => r.cls
    u.setQueue e.1 { e.2 with running := e.2.running.map (ask cls) }) s
  s1.ctxs.foldl (fun u e => u.pauseCtx e.1) s1

/-- Accept a retention command. -/
def State.acceptRetention (s : State) (timer mask : Nat) : State :=
  { s with power.retention := some { timer := timer, mask := BitVec.ofNat 32 mask } }.drain

/-- A write of RETAIN_CMD (R120, R675): the wake timer in [31:0]. -/
def State.retainSubmit (s : State) (w : HostWrite) : State :=
  s.submit w 0x1038 false true (s.isReady && !s.retentionBarred)
    (fun u => { u with host.retainStat := Status.notReady.code })
    fun u => u.acceptRetention (bits w.value.toNat 31 0) u.host.retainPorts.toNat

/-- RETAIN_CMD (R120). -/
def execRetainCmd (w : HostWrite) (s : State) : Res := .next (s.hostGate (.retainCmd w) (·.retainSubmit w))

/-- RETENTION (R120, R121, R643): the reply goes before the action starts. -/
def execRetention (m : BureauMsg) (timer mask : Nat) (s : State) : Res :=
  .next (s.bureauRequest (.retention m timer mask) m kindRetention retentionBody (timer, mask) adminOnly s.isReady true fun u =>
    if u.retentionBarred then u.answer m.session m.reqId kindRetention .notReady []
    else (u.answer m.session m.reqId kindRetention .ok []).acceptRetention timer mask)

/-- SHUTDOWN (R132, R643): the drain starts; it takes the place of a retention entry under way. (DEDUCED, log 24.) -/
def execShutdown (m : BureauMsg) (s : State) : Res :=
  .next (s.bureauRequest (.shutdown m) m kindShutdown noBody () adminOnly (s.inStates true true false) false fun u =>
    { u.answer m.session m.reqId kindShutdown .ok [] with power.shutdown := true, power.retention := none }.drain)

/-! ## Entry (Table 4–5) -/

/-- Whether a command in execution is at rest, or has ended. (DEDUCED, log 23.) -/
def atRest (cls : Nat) (c : RunCmd) : Bool :=
  match c.phase with
  | .ended => true
  | .paused => true
  | .dispatched => true
  | .running => cls == clsSieve && cmdOp c.bytes == 0x02
  | .waiting => cls == clsHold

/-- Whether work is at rest and every request has completed, as steps 2 and 3 of Table 4–5 ask. (DEDUCED, log 23.) -/
def State.workDone (s : State) : Bool :=
  (s.queues.all fun e => e.2.running.all fun c => atRest (match s.range e.1 with | none => 0 | some r => r.cls) c) &&
  (s.ctxs.all fun e => !Ctx.busy e.2) && s.fabric.outbound.isEmpty && s.fabric.stalled.isEmpty &&
  s.fabric.parked.all fun x => match x with
    | .req _ _ _ live => !live | .mask _ _ _ _ _ _ live => !live | .attest _ live => !live | .hostWrite _ _ => true

/-- Whether a registered WAIT is owned through a fabric port. -/
def portOwned (w : Wait) : Bool := w.isWaiting && match w.owner with | .port _ => true | _ => false

/-- Whether steps 2 and 3 of Table 4–5 are done: no notification is pending and no WAIT is owned through a port.
(DEDUCED, log 23.) -/
def State.drained (s : State) : Bool := s.workDone && s.sync.waits.all fun w => w.isWaiting && !portOwned w

/-- Step 4 of Table 4–5 on the ports: each sends LINK_DOWN_PLANNED, reason 0 for retention and 1 for shutdown, and turns its
laser off as its session ends. (DEDUCED, log 23.) -/
def State.planLinks (s : State) : State :=
  (List.range s.power.part.ports).foldl (fun u p => u.sendPlanned p (b2n s.power.shutdown)) s

/-- Whether a port still has a session. -/
def State.anySession (s : State) : Bool := (List.range s.power.part.ports).any fun p => (s.port p).hasSession

/-- The rest of step 4 of Table 4–5: the host link goes down, and the management port with it. (DEDUCED, log 23.) -/
def State.linksDown (s1 : State) : State :=
  let s2 := { s1 with host := s1.host.down, domains := s1.domains.mapVals (fun d => { d with ceilSince := none }) {} }
  (s2.bureau.sessions.map (·.id)).foldl (fun u i => u.closeSession i "down") s2

/-- RETENTION_ENTRY_DONE (R122, R131, R132). With work at rest and WAITs still owned through ports, it is the end of step 3:
they are released with LINK_LOST, and their notifications go before the links. With the drain ended, the node enters
RETENTION, or OFF for a shutdown, once every port's LINK_DOWN_PLANNED has gone. (DEDUCED, log 23 and 24.) -/
def execRetentionEntryDone (s : State) : Res :=
  if !(s.power.shutdown || s.power.retention.isSome) || (!s.power.shutdown && !s.isReady) then .next s
  else if !s.drained then
    .next (if s.workDone then s.deliver .retentionEntryDone fun u => u.releaseAll portOwned .linkLost else s)
  else .next (s.deliver .retentionEntryDone fun u =>
    let u1 := u.planLinks
    if u1.anySession then u1
    else if u1.power.shutdown then u1.linksDown.stop causeShutdown "SHUTDOWN"
    else match u1.power.retention with
      | none => u1
      | some r =>
        let u2 := u1.linksDown.raise .retentionEnter .node 0 r.timer r.mask.toNat 0
        ({ u2 with power.retention := some { r with entered := some s.ts } }.setNode .retention "").settle)

/-! ## Wake sources (R125, R126, Table 4–6) -/

/-- The retention that a wake source may end: entered, and with no source recognised yet. -/
def State.asleep (s : State) : Option Retention :=
  match s.power.retention with
  | none => none
  | some r => if s.isIn .retention && r.wake.isNone then some r else none

/-- Change the retention's record. -/
def State.setRetention (s : State) (r : Retention) : State := { s with power.retention := some r }

/-- WAKE_LIGHT (R125, R126): the port's receiver is powered alone. (DEDUCED, log 25.) -/
def execWakeLight (p : Fin 32) (s : State) : Res :=
  match s.asleep with
  | none => .next s
  | some r =>
    if p.val < s.power.part.ports && r.mask.getLsbD p.val && !r.detectors.getLsbD p.val && r.checking.isNone then
      .next (s.setRetention { r with checking := some p.val })
    else .next s

/-- AMBIENT_CHECK_EXPIRY (R126): with no training pattern and unmodulated light the node logs AMBIENT_FLOOD and stays; else
the exit goes on. (DEDUCED, log 25.) -/
def execAmbientCheckExpiry (p : Fin 32) (pattern unmodulated : Bool) (s : State) : Res :=
  match s.asleep with
  | none => .next s
  | some r =>
    if r.checking != some p.val then .next s
    else if !pattern && unmodulated then
      let s1 := s.setRetention { r with checking := none, detectors := r.detectors ||| ((1 : W32) <<< p.val) }
      .next (s1.portEvent .ambientFlood p.val 0 0)
    else .next (s.setRetention { r with checking := none, wake := some (.light p.val) })

/-- WAKE_TIMER_EXPIRY (R125): a timer of 0 is none. (DEDUCED, log 25.) -/
def execWakeTimerExpiry (s : State) : Res :=
  match s.asleep with
  | none => .next s
  | some r => if r.timer = 0 then .next s else .next (s.setRetention { r with wake := some .timer, checking := none })

/-- WAKE_HOST (R125): PERST_N rises after it fell in RETENTION. (DEDUCED, log 25.) -/
def execWakeHost (s : State) : Res :=
  match s.asleep with
  | none => .next s
  | some r =>
    if r.perstSeen then .next { (s.setRetention { r with wake := some .host, checking := none }) with host.perstLow := false }
    else .next s

/-! ## Exit (R129 to R131, Table 4–7) -/

/-- Detail A of RETENTION_EXIT (Table 19–5). -/
def Wake.detail : Wake → Nat
  | .light p => 1 + 256 * p
  | .timer => 2
  | .host => 3

/-- Work goes on from where it paused: all but that of frozen sets (R129 step 5). -/
def State.unpause (s : State) : State :=
  let s1 := s.queues.foldl (fun (u : State) (e : Nat × Queue) =>
    let cls := match s.range e.1 with | none => 0 | some r => r.cls
    let free := fun (c : RunCmd) =>
      if s.queueFrozen e.1 || (cls == clsSieve && cmdOp c.bytes != 0 && s.ctxFrozen (cmdCtx c.bytes)) then c else { c with pauseReq := false }
    u.setQueue e.1 { e.2 with running := e.2.running.map free }) s
  let keys := (s1.ctxs.map (·.1)).filter fun k => !s1.ctxFrozen k
  let s2 := keys.foldl (fun u k => u.setCtx k (Ctx.thawed (u.ctx k))) s1
  keys.foldl (fun u k => u.reelect k) s2

/-- The benches of R129 step 5 that failed step 3. -/
def State.exitFailures (s : State) (failed : List TestUnit) : List BenchId :=
  (failedBenches failed).filter fun b => s.bench.role b == .active || s.bench.role b == .spare

/-- The gate comparators that step 3 finds failed, by their units. -/
def failedComparators (failed : List TestUnit) : List TestUnit :=
  failed.filter fun u => match u with | .comparator _ => true | _ => false

/-- Why the benches that failed take the node to FAILED: the event to raise beside SELFTEST_FAIL, and the failure's code
and name (Table 4–4, R319). (DEDUCED, log 26.) -/
def State.exitFatal (s : State) (bad : List BenchId) : Option (Option Ev × Nat × String) :=
  if 2 ≤ bad.length then some (none, Ev.selftestFail.code, "SELFTEST_FAIL")
  else if bad.any fun b => s.bench.role b == .active then
    if s.bench.spare.isNone then some (none, Ev.selftestFail.code, "SELFTEST_FAIL")
    else if s.bench.claim == lastClaim then some (some .claimExhausted, Ev.claimExhausted.code, "CLAIM_EXHAUSTED")
    else none
  else none

/-- Step 5 of Table 4–7 for the benches that failed: a planned promotion, or the spare's retirement. (DEDUCED, log 26.) -/
def State.retireFailed (s : State) (bad : List BenchId) : State :=
  bad.foldl (fun u b =>
    if u.bench.role b == .active then u.plannedPromotion b retiredSelftest
    else { u with bench := u.bench.setRole b .retired }.unthrottle) s

/-- The assertions of POWER_WARN_N that the wake island recorded are reported (R136). -/
def State.reportWarnings (s : State) (r : Retention) : State :=
  r.warnings.foldl (fun u t => u.raise .powerWarn .node 0 0 t 0) s

/-- The node enters READY from RETENTION. -/
def State.wakeUp (s : State) (r : Retention) (w : Wake) (bad : List BenchId) : State :=
  let slept := s.ts - (r.entered.getD s.ts)
  let s1 := { s with
    power := { s.power with retention := none }
    bench := { (allBenches.foldl (fun (b : Benches) i => b.setTaken i s.bench.inputs) s.bench) with
      lag := 0, throttled := false, testFailed := s.bench.testFailed ++ bad }
    dram := { s.dram with stks := s.dram.stks.mapVals (fun k => { k with lapAdjust := k.lapAdjust + slept }) {} } }
  let s2 := (s1.setNode .ready "").retireFailed bad
  let s3 := s2.raise .retentionExit .node 0 w.detail slept 0
  let s5 := (s3.reportWarnings r).settle.unpause
  let s6 := (List.range s5.power.part.ports).foldl (fun u p => u.updPort p Port.train) s5
  { s6 with host := s6.host.train }

/-- RETENTION_EXIT_DONE (R129 to R131): READY, or FAILED where the seal processor's ROM, the benches or the saved state's
digest fail (Table 4–4, R130); the warnings of RETENTION are reported either way. RETAIN_RESTORE_FAIL is recorded in
NODE_BOOTSTAT as the failures of Table 4–4 are. (DEDUCED, log 20 and 26; DESIGN CHOICE, log 106.) -/
def execRetentionExitDone (checks : ExitChecks) (failed : List TestUnit) (s : State) : Res :=
  match s.power.retention with
  | none => .next s
  | some r =>
    match r.wake with
    | none => .next s
    | some w =>
      if !s.isIn .retention then .next s else
      let bad := s.exitFailures failed
      let fail := fun (u : State) => { u with host := u.host.train }
      if !checks.romOk then .next (fail ((s.reportWarnings r).failStartUp .sealBootFail "SEAL_BOOT_FAIL")) else
      let s1 := (bad.map TestUnit.bench ++ failedComparators failed).foldl
        (fun u x => u.startUpFailure .selftestFail (unitDetail x)) s
      match s1.exitFatal bad with
      | some (e, code, name) =>
        let s2 := match e with | none => s1 | some v => s1.raise v .node 0 0 s1.bench.claim.toNat 0
        .next (fail ((s2.reportWarnings r).enterFailed code name))
      | none =>
        if !checks.digestOk then .next (fail ((s1.reportWarnings r).failStartUp .retainRestoreFail "RETAIN_RESTORE_FAIL"))
        else .next (s1.wakeUp r w bad)

end Sys2Proof.Machine
end

