-- ==== Sys2Proof/Machine/SecurityOps.lean ====
section
/-! DEFINITION. Attestation reports, tokens, lifecycle and debug state (chapter 17), and the start of a re-admission
(R325). -/

namespace Sys2Proof.Machine

/-! ## Attestation reports (R613 to R617) -/

/-- The names of Table 17–7. -/
def Lifecycle.name : Lifecycle → String
  | .manufacture => "MANUFACTURE" | .deployed => "DEPLOYED" | .returned => "RETURNED"

/-- The names of R618. -/
def DebugState.name : DebugState → String
  | .locked => "LOCKED" | .unlocked => "UNLOCKED" | .unlockedSincePower => "UNLOCKED_SINCE_POWER"

/-- The stepping as text: a letter from bits 7 to 4 and a digit from bits 3 to 0 (Table 20–4). -/
def steppingText (v : BitVec 8) : String := String.ofList [Char.ofNat (65 + v.toNat / 16)] ++ toString (v.toNat % 16)

/-- A drawer entry (R615). -/
def State.drawerEntry (s : State) (r : DrawerRec) : List Byte :=
  cborArray [cborUint r.id, cborUint r.size, cborBool r.isSealed, cborBool r.mirrored, cborUint r.tenant,
    cborBytes r.accessDigest, cborUint (s.gen r.id).toNat]

/-- The configured drawers in ascending ID. -/
def State.drawersInOrder (s : State) : List DrawerRec := sortBy (fun a b => decide (a.id < b.id)) (s.records (·.drawers))

/-- The nonce that key 17 holds: on the management port it is bound to the session (R629). -/
def ReportReq.boundNonce (r : ReportReq) : List Byte :=
  match r.by_ with
  | .session i _ => Config.sha384 (r.nonce ++ Config.tlsExporter i)
  | _ => r.nonce

/-- The payload of a report (Table 17–6). (DEDUCED, log 81.) -/
def State.reportPayload (s : State) (r : ReportReq) : List Byte :=
  let all := s.drawersInOrder
  let shown := if r.scope = 1 then all else all.filter fun d => r.ids.contains d.id
  let entries : List (Nat × List Byte) := if r.scope = 0 then [] else [(11, cborArray (shown.map s.drawerEntry))]
  cborMap ([
    (1, cborText s.power.part.name), (2, cborText (steppingText s.sec.stepping)), (3, cborBytes s.sec.serial),
    (4, cborBytes (sub (Config.sha384 Config.identityChain.flatten) 0 8)), (5, cborBytes Config.sealRomDigest),
    (6, cborBytes Config.avyanathDigest), (7, cborUint s.sec.secver.toNat), (8, cborText s.sec.lifecycle.name),
    (9, cborText (s.sec.debug).name),
    (10, match s.jny.inForce with | none => cborNull | some j => cborArray [cborUint j.seq, cborBytes j.digest])] ++ entries ++ [
    (12, cborBytes (Config.sha384 (cborArray (all.map s.drawerEntry)))), (13, cborUint all.length),
    (14, cborArray [cborUint s.bench.claim.toNat, cborText s.bench.roleA.name, cborText s.bench.roleB.name, cborText s.bench.roleC.name]),
    (15, cborText s.healthNow.name), (16, cborText s.power.node.name), (17, cborBytes r.boundNonce), (18, cborUint s.ts),
    (19, cborUint r.scope)])

/-- The report as a COSE_Sign1 structure (R614). (DEDUCED, log 81.) -/
def State.signedReport (s : State) (r : ReportReq) (signature : List Byte) : List Byte :=
  let head := match r.by_ with
    | .fabric _ => cborMap []
    | _ => cborMap [(33, cborArray (Config.identityChain.map cborBytes))]
  cborArray [cborBytes [0xA1, 0x01, 0x38, 0x22], head, cborBytes (s.reportPayload r), cborBytes signature]

/-- Whether report requests are answered (R617, R118). -/
def State.mayReport (s : State) : Bool := s.inStates true true true && !s.power.tripped

/-- REPORT_SIGNED (R616, R617): the oldest request's report is complete, with values of this one point. (DEDUCED, log 81.) -/
def execReportSigned (signature : List Byte) (s : State) : Res :=
  match s.sec.reports with
  | [] => .next s
  | r :: rest =>
    if !s.mayReport then .next s else
    .next (s.deliver (.reportSigned signature) fun u =>
      let s1 := { u with sec.reports := rest }
      let b := s1.signedReport r signature
      match r.by_ with
      | .host => { s1 with host.report := b, host.attBusy := false, host.attStatus := Status.ok.code }.busyFell
      | .session i q => s1.answer i q 0x05 .ok [(1, cborBytes b)]
      | .fabric q =>
        let mine : Parked → Bool := fun x => match x with | .attest y _ => y == q | _ => false
        let live := s1.fabric.parked.any fun x => match x with | .attest y l => y == q && l | _ => false
        let s2 := { s1 with fabric.parked := s1.fabric.parked.filter (!mine ·) }
        if live then (s2.respond 0x40 q { status := .ok, data := b }).afterFlit q.port.val else s2)

/-! ## Debug state (R618 to R621, R703) -/

/-- Whether a hold-class command, a RECEIVE among them, is in progress (R620). -/
def State.holdClassBusy (s : State) : Bool :=
  s.holdWork || !s.hold.receives.isEmpty ||
  s.queues.any fun e => (optAny (s.range e.1) fun r => r.cls == clsHold) &&
    e.2.running.any fun c => c.phase != .ended && cmdOp c.bytes == 0x06

/-- What refuses an unlock or a relock (R620). (DEDUCED, log 22.) -/
def State.debugBarred (s : State) : Bool :=
  !(s.isIn .awaitJoinery || s.isReady) || s.holdClassBusy || s.jny.phase != .idle || s.bench.kerf.isSome || s.closing ||
  s.dram.drawers.any fun e => e.2.sweeping.isSome

/-- Thaw a frozen set without restoring it: its snapshots go, its paused commands complete with ABORTED (R621 step 3). -/
def State.thawUnrestored (s : State) (f : Frozen) : State :=
  let ids := (s.hold.snapshots.filter fun x => x.set == f.set).map (·.id)
  let s1 := ids.foldl (fun u i => u.dropSnapshot i) s
  let s2 := f.set.contexts.foldl (fun u k => if (u.ctx k).start.isSome then u.endStart k .aborted 0 else u) s1
  let end_ := fun (c : RunCmd) => if c.phase = .paused then c.finish .aborted c.progress c.result else c
  let s3 := s2.queues.foldl (fun (u : State) (e : Nat × Queue) =>
    let cls := match s.range e.1 with | none => 0 | some r => r.cls
    let g := fun (c : RunCmd) =>
      if f.set.queues.contains e.1 || (cls == clsSieve && cmdOp c.bytes != 0 && f.set.contexts.contains (cmdCtx c.bytes)) then end_ c else c
    u.setQueue e.1 { e.2 with running := e.2.running.map g }) s2
  s3.thaw f

/-- Change the debug state at one point in bench input order (R621). (DEDUCED, log 82.) -/
def State.changeDebug (s : State) (d : DebugState) (e : Ev) : State :=
  let ids := ((s.records (·.drawers)).filter (·.isSealed)).map (·.id)
  let s0 := s.finishParked
  let s1 := { s0 with sec.debug := d, power.dbgFlag := s.power.dbgFlag || (d == DebugState.unlocked) }
  let s2 := ids.foldl (fun u n => (u.advanceGen n).1) s1
  let s3 := (s2.hold.frozen.filter fun (f : Frozen) => f.set.drawers.any (ids.contains ·)).foldl (fun (u : State) f => u.thawUnrestored f) s2
  (s3.raise e .node 0 0 0 0).settle

/-- Unlock debug, or refuse with NOT_READY (R620, R621). (DEDUCED, log 82.) -/
def State.unlock (s : State) : State × Status :=
  if s.debugBarred then (s, .notReady) else (s.changeDebug .unlocked .debugUnlocked, .ok)

/-- Release every context and engine halt (R703). -/
def State.releaseHalts (s : State) : State :=
  let free := fun (c : Ctx) => { c with halted := false, haltReq := false, stepReq := false }
  let s1 := { s with dbg.engHalt := [], dbg.engReq := [], ctxs := s.ctxs.mapVals free {} }
  (s1.ctxs.map (·.1)).foldl (fun u k => u.reelect k) s1

/-- Relock debug, or refuse with NOT_READY (R620, R621, R703). -/
def State.relock (s : State) : State × Status :=
  if s.debugBarred then (s, .notReady)
  else (s.releaseHalts.changeDebug .unlockedSincePower .debugRelocked, .ok)

/-! ## Tokens (R619, R623, R702) -/

/-- Whether a token's action is allowed now. -/
def State.actionAllowed (s : State) (action : Nat) : Bool :=
  match action with
  | 1 => s.sec.lifecycle != .manufacture && s.sec.debug != .unlocked
  | 2 => s.sec.lifecycle == .manufacture
  | 3 => s.sec.lifecycle == .deployed && s.isIn .awaitJoinery
  | _ => false

/-- A token is refused: DENIED, and TOKEN_REJECTED is raised. (DEDUCED, log 82.) -/
def State.rejectToken (s : State) : State × Status := (s.raise .tokenRejected .node 0 0 0 0, .denied)

/-- Take a token (R619): it verifies, names this node and the valid challenge, and its action is allowed. (DEDUCED, log 82.) -/
def State.takeToken (s : State) (bytes : List Byte) : State × Status :=
  match Config.coseToken bytes with
  | none => s.rejectToken
  | some t =>
  if !coseVerifies Config.serviceKeyDigest t.signed t.sig || t.serial != s.sec.serial || some t.challenge != s.sec.challenge ||
      !s.actionAllowed t.action then s.rejectToken
  else if t.action = 1 then s.unlock
  else
    let next : Lifecycle := if t.action = 2 then .deployed else .returned
    ({ s with sec.lifecycle := next }.raise .lifecycleChanged .node 0 0 0 0, .ok)

/-- TOKEN (R619 to R624, R701). -/
def execToken (m : BureauMsg) (bytes : List Byte) (s : State) : Res :=
  .next (s.bureauRequest (.token m bytes) m 0x15 (bytesBody fun _ => true) bytes adminOnly (s.inStates true true false) false fun u =>
    let r := u.takeToken bytes
    r.1.answer m.session m.reqId 0x15 r.2 [])

/-! ## Re-admission (R325, R326 step 1) -/

/-- Whether a full apply is under way. -/
def State.fullApplyOn (s : State) : Bool :=
  match s.jny.phase with | .accepted _ _ _ full _ => full | .applied _ => true | _ => false

/-- Whether a kerf, a retry, an apply, a closing or another re-admission keeps benches as they are. -/
def State.benchesBusy (s : State) : Bool :=
  s.bench.kerf.isSome || s.bench.dispute.isSome || s.bench.readmit.isSome || s.closing || s.fullApplyOn

/-- The steward core of a bench. -/
def Benches.core (b : Benches) : BenchId → Core
  | .A => b.coreA | .B => b.coreB | .C => b.coreC

/-- Set the steward core of a bench. -/
def Benches.setCore (b : Benches) (i : BenchId) (c : Core) : Benches :=
  match i with
  | .A => { b with coreA := c }
  | .B => { b with coreB := c }
  | .C => { b with coreC := c }

/-- READMIT (R325, R326): its core restarts from ROM; OK at once for a bench in service, DENIED for an excluded one.
(DEDUCED, log 83.) -/
def execReadmit (m : BureauMsg) (b : BenchId) (s : State) : Res :=
  .next (s.bureauRequest (.readmit m b) m kindReadmit (uintBody (· < 3)) b.num adminOnly s.isReady true fun u =>
    let r := u.bench.role b
    if r = .active ∨ r = .spare then u.answer m.session m.reqId kindReadmit .ok [(1, cborText r.name)]
    else if r = .excluded then u.answer m.session m.reqId kindReadmit .denied []
    else if u.benchesBusy then u.answer m.session m.reqId kindReadmit .notReady []
    else { u with bench := { ((u.bench.setRole b .rebuilding).setCore b { epoch := (u.bench.core b).epoch + 1 }) with
      readmit := some { bench := b, stage := 1, session := m.session, reqId := m.reqId } } }.settle)

end Sys2Proof.Machine
end

