-- ==== Sys2Proof/Machine/HostRegs.lean ====
section
/-! DEFINITION. The register map of BAR0 (chapter 20): the regions, the value of every register, reads with their effects,
writes by access code, BAR2, resets of the host function, MSI-X and the sync mailbox. -/

namespace Sys2Proof.Machine

/-! ## Regions (R667 to R669, Table 20–2) -/

/-- The size of BAR0. -/
def bar0Size : Nat := 0x4000000

/-- The size of BAR2. -/
def bar2Size : Nat := 2 ^ 34

/-- Where Staging begins and ends. -/
def stagingBase : Nat := 0x1000000

/-- Whether an offset lies in Staging. -/
def inStaging (off : Nat) : Bool := decide (0x1000000 ≤ off) && decide (off < 0x2000000)

/-- Whether an offset lies in the node status and identification block (R668). -/
def inBlock (off : Nat) : Bool := decide (off < 0xE0000) || inStaging off

/-- Whether an offset lies in a region that takes any access size (R669). -/
def inBuffer (off : Nat) : Bool :=
  (decide (0x10000 ≤ off) && decide (off < 0x70000)) || (decide (0x80000 ≤ off) && decide (off < 0xE0000)) || inStaging off

/-- Whether an offset lies in a register region of Table 20–2. -/
def inRegisters (off : Nat) : Bool :=
  decide (off < 0x2000) || (decide (0x3000 ≤ off) && decide (off < 0x6000)) ||
  (decide (0x100000 ≤ off) && decide (off < 0x131800)) || (decide (0x140000 ≤ off) && decide (off < 0x180000)) ||
  (decide (0x2000000 ≤ off) && decide (off < 0x2880000)) || (decide (0x3000000 ≤ off) && decide (off < 0x3800000))

/-- Whether a region is served now: the block from MEMORY_TRAIN on and in FAILED, all else in READY (R112, R668). -/
def State.serves (s : State) (off : Nat) : Bool := s.regsUp && (inBlock off || s.isReady)

/-- Entry `i` of a ring as its 32 bytes, at the ring's base. -/
def Ring.byteAtOffset (r : Ring) (k : Nat) : Byte :=
  match r.slots.get (k / 32) none with | none => 0 | some e => e.bytes.getD (k % 32) 0

/-- A byte of a buffer region; 0 elsewhere. -/
def State.bufByte (s : State) (off : Nat) : Byte :=
  if off < 0x10000 then 0
  else if off < 0x30000 then s.jny.report.getD (off - 0x10000) 0
  else if off < 0x50000 then s.events.fault.byteAtOffset (off - 0x30000)
  else if off < 0x70000 then s.events.ring.byteAtOffset (off - 0x50000)
  else if off < 0x80000 then 0
  else if off < 0xE0000 then s.host.report.getD (off - 0x80000) 0
  else if inStaging off then s.jny.staging.get (off - stagingBase) 0
  else 0

/-! ## Register values -/

/-- The part's number in NODE_IDENT. -/
def Part.num : Part → Nat
  | .sp1 => 1 | .sp4 => 4 | .sp16 => 0x10

/-- The NODE registers (Table 20–4). -/
def State.nodeReg (s : State) (o : Nat) : Nat :=
  match o with
  | 0x00 => s.power.part.num + 2 ^ 16 * s.sec.stepping.toNat + 2 ^ 24 * s.sec.secver.toNat + 2 ^ 32
  | 0x08 => field s.sec.serial 0 8
  | 0x10 => field s.sec.serial 8 8
  | 0x18 => s.nodeStateWord
  | 0x20 => s.bootStatWord
  | 0x28 => s.stopCauseWord
  | 0x30 => s.power.maxSeq
  | 0x38 => s.ts
  | 0x40 => s.benchRoleWord
  | 0x48 => s.bench.claim.toNat
  | 0x50 => min 2047 s.bench.lag
  | 0x58 => s.bench.fenced
  | 0x60 => perfWord s.bench.transients s.bench.transientW
  | 0x68 => s.power.vinMv % 65536 + 65536 * (Config.inputPower s.time).toNat
  | _ => 0

/-- HOST_LOCK.HOLDER. -/
def Holder.reg : Holder → Nat
  | .free => 0 | .host => 1 | .session _ => 2

/-- Eight bytes of a small byte map. -/
def eightAt (m : FMap Byte) (i : Nat) : Nat := leNat (FMap.getRun m 0 i 8)

/-- The CTRL registers (Tables 20–4 and 20–9). Operations of the mailbox are over when they begin: its BUSY reads 0. -/
def State.ctrlReg (s : State) (o : Nat) : Nat :=
  match o with
  | 0x000 => s.bureau.lock.reg
  | 0x018 => b2n (s.jny.phase != .idle) + 2 ^ 8 * s.jny.result + 2 ^ 16 * s.jny.submit.code + 2 ^ 32 * s.jny.report.length
  | 0x028 =>
    s.dram.jobs.length + 2 ^ 8 * s.dram.lastRetire.1.code + 2 ^ 16 * s.dram.lastRetire.2.1 + 2 ^ 32 * s.dram.lastRetire.2.2
  | 0x030 => s.host.retainPorts.toNat
  | 0x040 => s.host.retainStat
  | 0x148 => b2n s.host.attBusy + 2 ^ 8 * s.host.attStatus + 2 ^ 32 * s.host.report.length
  | 0x308 => s.host.operand.toNat
  | 0x310 => eightAt s.host.target 0
  | 0x318 => eightAt s.host.target 8
  | 0x320 => s.host.syncStatus + 2 ^ 8 * s.host.syncFlags
  | 0x328 => s.host.syncValue.toNat
  | 0x330 => s.host.syncBefore.toNat
  | 0x380 => s.host.errStatus + 2 ^ 8 * s.host.errKind + 2 ^ 31 * b2n s.host.errValid
  | 0x388 => s.host.errAddr.toNat
  | 0x390 => s.host.errCnt.toNat
  | _ =>
    if 0x100 ≤ o ∧ o < 0x140 then eightAt s.host.attNonce (o - 0x100)
    else if 0x180 ≤ o ∧ o < 0x200 then eightAt s.host.attIds (o - 0x180)
    else 0

/-- The RINGS registers (Table 20–5). -/
def State.ringReg (s : State) (o : Nat) : Nat :=
  match o with
  | 0x00 => s.events.fault.tail.toNat
  | 0x08 => s.events.fault.head.toNat
  | 0x10 => s.events.fault.overflow
  | 0x18 => s.events.ring.tail.toNat
  | 0x20 => s.events.ring.head.toNat
  | 0x28 => s.events.ring.overflow
  | _ => if 0x60 ≤ o ∧ o < 0x80 then s.events.armed.toNat / 2 ^ (8 * (o - 0x60)) % 2 ^ 64 else 0

/-- The MSI-X table (16 bytes an entry, the mask in bit 0 of its vector control) and the PBA. -/
def State.msixReg (s : State) (o : Nat) : Nat :=
  if o < 0x1000 then
    if o % 16 = 0 then eightAt s.host.msixTable o
    else leNat (FMap.getRun s.host.msixTable 0 o 4) + 2 ^ 32 * b2n (s.events.masked.getLsbD (o / 16))
  else s.events.pba.toNat / 2 ^ (8 * (o - 0x1000)) % 2 ^ 64

/-- PORT_ERRWIN: the window's count, and the threshold and grace of the port's group. -/
def State.errWinReg (s : State) (p : Nat) : Nat :=
  min 4095 (s.port p).errWin.sum +
    match s.groupOf p with | none => 0 | some g => 2 ^ 16 * g.threshold + 2 ^ 32 * g.grace

/-- PORT_LANE: what a lane's loops measure is a free value (R90); the correction shows while the loop is frozen. -/
def State.laneReg (s : State) (p l : Nat) : Nat :=
  let v := s.port p
  let eq := s.loops.eqFreeze.getLsbD p || v.frozen
  let th := s.loops.thFreeze.getLsbD p || v.frozen
  let snr := if v.activeLanes.getLsbD l then (Config.laneSnr p l s.time).toNat else 0
  snr + 2 ^ 8 * b2n eq + 2 ^ 9 * b2n th + 2 ^ 16 * (if eq || th then (Config.lanePend p l s.time).toNat else 0)

/-- A port's registers (Table 20–8). -/
def State.portReg (s : State) (p o : Nat) : Nat :=
  if s.power.part.ports ≤ p then 0
  else if o = 0x00 then s.portStateWord p
  else if o = 0x08 then s.errWinReg p
  else if 0x10 ≤ o ∧ o < 0x50 then (s.port p).errCnt.getD ((o - 0x10) / 8) 0
  else if o = 0x50 then perfWord (s.port p).flitsTx (s.port p).flitsTxW
  else if o = 0x58 then perfWord (s.port p).flitsRx (s.port p).flitsRxW
  else if 0x80 ≤ o ∧ o < 0xC0 then s.laneReg p ((o - 0x80) / 8)
  else 0

/-- SLICE_STATE.ENG: the engines in service in the layout of the SLICE record's mask. -/
def State.sliceEngines (s : State) (n : Nat) : Nat :=
  ((List.range 4).map fun i => if s.engineOk 1 (4 * n + i) then 2 ^ i else 0).sum + (if s.engineOk 2 n then 16 else 0) +
  ((List.range 2).map fun i => if s.engineOk 0 (2 * n + i) then 2 ^ (5 + i) else 0).sum

/-- A slice's registers (Table 20–8). -/
def State.sliceReg (s : State) (n o : Nat) : Nat :=
  let k := s.stk n
  if s.power.part.slices ≤ n then 0
  else match o with
  | 0x00 => b2n (!k.lost) + 2 * b2n k.lost + 2 ^ 8 * s.sliceEngines n + 2 ^ 32 * k.spares + 2 ^ 48 * k.temp.toNat
  | 0x08 => k.lastLap
  | 0x10 => k.lapPos
  | 0x18 => perfWord k.laps k.lapsW
  | 0x50 => min 65535 k.demand + 2 ^ 16 * min 65535 k.corrected + 2 ^ 32 * k.headroom
  | 0x58 => perfWord k.movedIn k.movedInW
  | 0x60 => perfWord k.movedOut k.movedOutW
  | 0x80 => 2 ^ 8 * k.injStatus.code + 2 ^ 16 * b2n k.inject.isSome
  | 0x88 => k.injAddr.toNat
  | _ => if 0x20 ≤ o ∧ o < 0x48 then k.errCnt.getD ((o - 0x20) / 8) 0 else 0

/-- A domain's registers (Table 20–8); those of an absent slice's domain read as 0 (R2, Table 3–1). -/
def State.domReg (s : State) (d o : Nat) : Nat :=
  let v := s.dom d
  if d < 16 ∧ s.power.part.slices ≤ d then 0
  else match o with
  | 0x00 => v.mv % 4096 + 2 ^ 16 * (v.hc % 4096) + 2 ^ 32 * v.junction.toNat + 2 ^ 48 * (v.occupancy % 128) + 2 ^ 56 * b2n v.limiting
  | 0x08 => match v.ceilSince with | none => 0 | some t => min 0xFFFFFFFF ((s.ts - t) / 1000000)
  | _ => 0

/-- A tenant's registers (Table 20–8). -/
def State.tenantReg (s : State) (t o : Nat) : Nat :=
  if (s.tenant t).isNone then 0
  else match o with
  | 0x00 => s.sync.discards.get t 0
  | 0x08 => (s.sync.waits.filter (·.tenant == t)).length
  | 0x10 => s.trackerUse t
  | 0x18 => s.reserveUsed t
  | _ => 0

/-- Whether drawer `d` is host-visible. -/
def State.hostSees (s : State) (d : Nat) : Bool := optAny (s.drawer d) (·.hostVisible)

/-- Queue `q`'s descriptor view (R683). -/
def State.queueReg (s : State) (q o : Nat) : Nat :=
  match s.range q with
  | none => 0
  | some r =>
    if !s.hostSees r.ring then 0 else
    let u := s.queue q
    match o with
    | 0x00 => u.tail.toNat + 2 ^ 32 * u.head.toNat
    | 0x08 => u.dispatch.toNat + 2 ^ 32 * u.running.length + 2 ^ 40 * r.cls + 2 ^ 48 * r.tenant
    | 0x10 => r.ring + 2 ^ 32 * Nat.log2 r.depth + 2 ^ 40 * r.ringBase
    | _ => if 0x40 ≤ o ∧ o < 0x80 then ((u.running[(o - 0x40) / 8]?).map fun c => c.progress.toNat).getD 0 else 0

/-- Whether the host port reaches counters of tenant `t` (Table 11–1). -/
def State.hostReaches (s : State) (t : Nat) : Bool :=
  (s.records (·.drawers)).any fun r => r.tenant == t && r.hostVisible

/-- Counter `c`'s window (R685). -/
def State.windowReg (s : State) (c o : Nat) : Nat :=
  if !optAny (s.counterTenant c) s.hostReaches then 0
  else match o with
  | 0x00 => (s.counter c).value.toNat
  | 0x08 => b2n (s.counter c).sat + 2
  | _ => 0

/-- The value of the 64-bit register at an 8-byte aligned BAR0 offset: reserved offsets, commands and absent units read
as 0. -/
def State.reg (s : State) (off : Nat) : Nat :=
  if off < 0x1000 then s.nodeReg off
  else if off < 0x2000 then s.ctrlReg (off - 0x1000)
  else if off < 0x3000 then 0
  else if off < 0x4000 then s.ringReg (off - 0x3000)
  else if off < 0x6000 then s.msixReg (off - 0x4000)
  else if off < 0x100000 then 0
  else if off < 0x120000 then s.portReg ((off - 0x100000) / 0x1000) (off % 0x1000)
  else if off < 0x130000 then s.sliceReg ((off - 0x120000) / 0x1000) (off % 0x1000)
  else if off < 0x131800 then s.domReg ((off - 0x130000) / 0x100) (off % 0x100)
  else if off < 0x140000 then 0
  else if off < 0x180000 then s.tenantReg ((off - 0x140000) / 0x40) (off % 0x40)
  else if off < 0x2000000 then 0
  else if off < 0x2800000 then s.queueReg ((off - 0x2000000) / 0x80) (off % 0x80)
  else if off < 0x3000000 then 0
  else if off < 0x3800000 then s.windowReg ((off - 0x3000000) / 0x20) (off % 0x20)
  else 0

/-! ## Reads (R8, R102, R669, R670) -/

/-- Whether the register at an aligned offset has the access code RS. -/
def isRs (off : Nat) : Bool :=
  off == 0x30 || off == 0x38 || off == 0x60 || off == 0x1328 ||
  (decide (0x100000 ≤ off) && decide (off < 0x120000) && (off % 0x1000 == 0x50 || off % 0x1000 == 0x58)) ||
  (decide (0x120000 ≤ off) && decide (off < 0x130000) && [0x08, 0x18, 0x58, 0x60].contains (off % 0x1000)) ||
  (decide (0x3000000 ≤ off) && decide (off < 0x3800000) && off % 0x20 == 0)

/-- Whether an aligned offset is a counter window's VALUE. -/
def isWindow (off : Nat) : Bool := decide (0x3000000 ≤ off) && decide (off < 0x3800000) && off % 0x20 == 0

/-- Clear the RC field of a register that was read. -/
def State.clearRc (s : State) (off : Nat) : State :=
  if off = 0x3010 then { s with events.fault := { s.events.fault with overflow := 0 } }
  else if off = 0x3028 then { s with events.ring := { s.events.ring with overflow := 0 } }
  else s

/-- The snapshot that an interface holds of the word at an offset. -/
def HostPort.snapOf (h : HostPort) (via : Interface) (off : Nat) : Option W32 :=
  (h.snaps.find? fun e => e.1 == via && e.2.1 == off).map (·.2.2)

/-- An interface's snapshot of the word at an offset is gone. -/
def HostPort.dropSnap (h : HostPort) (via : Interface) (off : Nat) : HostPort :=
  { h with snaps := h.snaps.filter fun e => !(e.1 == via && e.2.1 == off) }

/-- An interface takes a snapshot of the word at an offset. -/
def HostPort.takeSnap (h : HostPort) (via : Interface) (off v : Nat) : HostPort :=
  { h.dropSnap via off with snaps := (h.dropSnap via off).snaps ++ [(via, off, BitVec.ofNat 32 v)] }

/-- A 4-byte read of a register: a low word of an RS field is paired with a snapshot of its high word, and in a counter
window with one of FLAGS; a word with a snapshot gives it up. -/
def State.read4 (s : State) (via : Interface) (off : Nat) : State × Nat :=
  let base := off / 8 * 8
  let now := if off % 8 = 0 then s.reg base % 2 ^ 32 else s.reg base / 2 ^ 32 % 2 ^ 32
  if off % 8 = 0 && isRs base then
    let h := s.host.takeSnap via (base + 4) (s.reg base / 2 ^ 32)
    ({ s with host := if isWindow base then h.takeSnap via (base + 8) (s.reg (base + 8)) else h }, now)
  else match s.host.snapOf via off with
    | some v => ({ s with host := s.host.dropSnap via off }, v.toNat)
    | none => (if off % 8 = 0 then s.clearRc base else s, now)

/-- What an interface is given for a read goes: the host port's completion may be delayed (R300). -/
def State.giveRead (s : State) (via : Interface) (off : Nat) (b : List Byte) : State :=
  match via with
  | .host => s.complete_ (.hostRead 0 off b false)
  | .mgmt => s.emit (.hostRead 0 off b false)

/-- A read of BAR0 that an interface makes, once it is served. An 8-byte read leaves an earlier snapshot in place.
(DESIGN CHOICE and DEDUCED, log 90.) -/
def State.readServed (s : State) (via : Interface) (off size : Nat) : State :=
  let give := fun (u : State) (b : List Byte) => u.giveRead via off b
  if !s.serves off then give s (List.replicate size 0)
  else if inBuffer off then give s ((List.range size).map fun i => s.bufByte (off + i))
  else if !inRegisters off then give s (List.replicate size 0)
  else if size = 4 ∧ off % 4 = 0 then
    let r := s.read4 via off
    give r.1 (leBytes 4 r.2)
  else if size = 8 ∧ off % 8 = 0 then give (s.clearRc off) (leBytes 8 (s.reg off))
  else (give s (List.replicate size 0xFF)).hostErr errRegister .format off false

/-- A read of BAR0, as the command `c` brings it: by the host port under its gate, outside the BAR with Unsupported Request; by
the management port while that serves registers, whatever the host port does (R10, R665). (DEDUCED, log 90.) -/
def State.bar0Read (s : State) (c : Instr) (via : Interface) (off size : Nat) : State :=
  if size = 0 ∨ 4096 < size then s else
  match via with
  | .host => s.hostGate c fun u => if bar0Size < off + size then u.unsupported else u.readServed .host off size
  | .mgmt => if !s.mgmtUp || decide (bar0Size < off + size) then s else s.deliver c fun u => u.readServed .mgmt off size

/-- RC_READ (R8): a read of BAR0; an RC field is cleared. (DEDUCED, log 90.) -/
def execRcRead (via : Interface) (offset size : Nat) (s : State) : Res := .next (s.bar0Read (.rcRead via offset size) via offset size)

/-- RS_LOW_READ (R8, R102): the 4-byte read of an RS field's low word. (DEDUCED, log 90.) -/
def execRsLowRead (via : Interface) (offset : Nat) (s : State) : Res :=
  if isRs offset then .next (s.bar0Read (.rsLowRead via offset) via offset 4) else .next s

/-! ## MSI-X (R679, R680) -/

/-- Unmask a vector: a message held in the PBA is sent. -/
def State.unmask (s : State) (v : Nat) : State :=
  let bit := (1 : BitVec 256) <<< v
  let s1 := { s with events.masked := s.events.masked &&& ~~~bit }
  if s.events.pba.getLsbD v && s.host.linkUp && !s.host.d3hot then
    { s1 with events.pba := s1.events.pba &&& ~~~bit }.msix v
  else s1

/-- The severity of an event code (Tables 19–3 and 20–11). -/
def severityOf (code : Nat) : Nat :=
  if [0x0103, 0x0110, 0x0111, 0x0112, 0x0113, 0x0114, 0x0201, 0x0202, 0x0203, 0x0204, 0x0401, 0x0402].contains code then 2
  else if [0x0101, 0x0130, 0x0131, 0x0220, 0x0310, 0x0311, 0x0420, 0x0421, 0x0422, 0x0501, 0x0502, 0x0503, 0x0504,
    0x0610, 0x0611, 0x0612, 0x0613, 0x0614, 0x0615].contains code then 0
  else 1

/-- Whether an unconsumed entry of the event ring maps to a vector. -/
def Ring.holds (r : Ring) (v : Nat) : Bool :=
  (List.range r.unread).any fun k => match r.slots.get ((r.head + BitVec.ofNat 32 k).toNat % 4096) none with
    | none => false
    | some e => vectorOf (severityOf e.code) e == v

/-- Arm a vector; with an unconsumed entry of it in the ring it sends one message at once and is disarmed. -/
def State.rearm (s : State) (v : Nat) : State :=
  let s1 := { s with events.armed := s.events.armed ||| ((1 : BitVec 256) <<< v) }
  if s.events.ring.holds v then s1.signal v else s1

/-- A write to the EVT_REARM word of vectors 64 × `i` on; vector 3 has no arming. -/
def State.rearmWord (s : State) (i v : Nat) : State :=
  ((List.range 64).filter fun k => bitOf v k && 64 * i + k != 3).foldl (fun u k => u.rearm (64 * i + k)) s

/-! ## Commands that a write triggers -/

/-- HOST_LOCK.ACQ and .REL (R675, R647): a free lock is taken, the host port's own is released. (DEDUCED, log 92.) -/
def State.hostLock (s : State) (v : Nat) : State :=
  if !s.inStates true true false then s else
  let s1 := if bitOf v 8 && s.bureau.lock == .free then { s with bureau.lock := .host } else s
  if bitOf v 9 && s1.bureau.lock == .host then { s1 with bureau.lock := .free } else s1

/-- ATT_CTRL (R613, R675): nonce length in [6:0], scope in [9:8], drawer IDs in [22:16]. (DEDUCED, log 92.) -/
def State.attSubmit (s : State) (w : HostWrite) : State :=
  s.submit w 0x1140 s.host.attBusy false s.mayReport (fun u => { u with host.attStatus := Status.notReady.code }) fun u =>
    let v := w.value.toNat
    let len := bits v 6 0
    let scope := bits v 9 8
    let count := bits v 22 16
    if len = 0 ∨ 64 < len ∨ scope = 3 ∨ 64 < count then
      { u with host.attStatus := Status.format.code }.hostErr errCommand .format 0x1140 false
    else
      let req : ReportReq := { by_ := .host, nonce := FMap.getRun u.host.attNonce 0 0 len, scope := scope
                               ids := (List.range count).map fun i => leNat (FMap.getRun u.host.attIds 0 (2 * i) 2) }
      { u with host.attBusy := true, sec.reports := u.sec.reports ++ [req] }

/-- The operation that the mailbox's operand and target give; none where a target does not have the form of Table 11–5. -/
def State.mailboxOp (s : State) (op : Nat) : Option CounterOp :=
  match op with
  | 0 => some (.add s.host.operand)
  | 1 => some (.set s.host.operand)
  | 2 => some .read
  | _ => (targetOf (FMap.getRun s.host.target 0 0 16)).map fun t => .wait s.host.operand (some t) .host

/-- SYNC_CMD (R686, Table 20–9): the operation in [1:0], the counter in [49:32]. (DEDUCED, log 92.) -/
def State.syncSubmit (s : State) (w : HostWrite) : State :=
  s.submit w 0x1300 false false s.isReady (fun u => { u with host.syncStatus := Status.notReady.code }) fun u =>
    let r := match u.mailboxOp (bits w.value.toNat 1 0) with
      | none => (u, CounterReply.refused .format)
      | some op => u.counterOp (bits w.value.toNat 49 32) u.hostReaches op
    let x := r.2
    ({ r.1 with
      host.syncStatus := x.status.code
      host.syncFlags := b2n x.sat + 2 * b2n x.satisfied + 4 * b2n x.registered
      host.syncValue := x.after, host.syncBefore := x.before }.busyFell).settle

/-- A counter window's ADD (R685). -/
def State.windowAdd (s : State) (c : Nat) (w : HostWrite) : State :=
  if !s.isReady then s else
  let off := 0x3000000 + c * 0x20 + 0x10
  s.commandWrite w off fun u =>
    let r := u.counterOp c u.hostReaches (.add w.value)
    if r.2.status = .ok ∨ r.2.status = .saturated then r.1.settle else r.1.hostErr errWindow r.2.status off false

/-- A doorbell register (R405, R406, R684); a frozen queue's is HELD (R569). (DEDUCED, log 94.) -/
def State.hostBell (s : State) (q : Nat) (w : HostWrite) : State :=
  let off := 0x2800000 + q * 8
  if !s.isReady then s
  else if w.size != 4 && w.size != 8 then s.hostErr errRegister .format off false
  else match s.range q with
    | none => s.hostErr errDoorbell .denied off false
    | some r =>
      if !s.hostSees r.ring then s.hostErr errDoorbell .denied off false
      else if s.queueFrozen q then s.hostErr errDoorbell .held off false
      else
        let y := (s.queue q).bell r.depth (w.value.truncate 32)
        if y.2 = .ok then s.setQueue q y.1 else s.hostErr errDoorbell y.2 off false

/-! ## Writes (R8, R669, R670) -/

/-- Set the read-write register at an aligned offset to a 64-bit value, of which its fields take their bits. Any other
register ignores the write. (DEDUCED, log 91.) -/
def State.setReg (s : State) (off v : Nat) : State :=
  let w32 := v % 2 ^ 32
  if off = 0x58 then { s with bench.fenced := w32 }
  else if off = 0x1030 then { s with host.retainPorts := BitVec.ofNat 32 w32 }
  else if 0x1100 ≤ off ∧ off < 0x1140 then { s with host.attNonce := FMap.setRun 0 s.host.attNonce (off - 0x1100) (leBytes 8 v) }
  else if 0x1180 ≤ off ∧ off < 0x1200 then { s with host.attIds := FMap.setRun 0 s.host.attIds (off - 0x1180) (leBytes 8 v) }
  else if off = 0x1308 then { s with host.operand := BitVec.ofNat 64 v }
  else if off = 0x1310 ∨ off = 0x1318 then { s with host.target := FMap.setRun 0 s.host.target (off - 0x1310) (leBytes 8 v) }
  else if off = 0x1390 then { s with host.errCnt := BitVec.ofNat 32 w32 }
  else if off = 0x3008 then { s with events.fault := s.events.fault.setHead (BitVec.ofNat 32 w32) }
  else if off = 0x3020 then { s with events.ring := s.events.ring.setHead (BitVec.ofNat 32 w32) }
  else if 0x4000 ≤ off ∧ off < 0x5000 then
    let o := off - 0x4000
    if o % 16 = 0 then { s with host.msixTable := FMap.setRun 0 s.host.msixTable o (leBytes 8 v) }
    else
      let s1 := { s with host.msixTable := FMap.setRun 0 s.host.msixTable o (leBytes 4 v) }
      if bitOf v 32 then { s1 with events.masked := s1.events.masked ||| ((1 : BitVec 256) <<< (o / 16)) } else s1.unmask (o / 16)
  else if 0x100000 ≤ off ∧ off < 0x120000 then
    let p := (off - 0x100000) / 0x1000
    let o := off % 0x1000
    if p < s.power.part.ports ∧ 0x10 ≤ o ∧ o < 0x50 then
      s.updPort p fun x => { x with errCnt := modifyAt (fun _ => w32) x.errCnt ((o - 0x10) / 8) } else s
  else if 0x120000 ≤ off ∧ off < 0x130000 then
    let n := (off - 0x120000) / 0x1000
    let o := off % 0x1000
    if s.power.part.slices ≤ n then s
    else if 0x20 ≤ o ∧ o < 0x48 then s.updStk n fun k => { k with errCnt := modifyAt (fun _ => w32) k.errCnt ((o - 0x20) / 8) }
    else if o = 0x88 then s.updStk n fun k => { k with injAddr := BitVec.ofNat 64 v }
    else s
  else if 0x140000 ≤ off ∧ off < 0x180000 then
    let t := (off - 0x140000) / 0x40
    if off % 0x40 = 0 ∧ (s.tenant t).isSome then { s with sync.discards := s.sync.discards.set t w32 0 } else s
  else s

/-- The value that a write of four or eight bytes leaves in a read-write register. -/
def mergeWrite (old off size v : Nat) : Nat :=
  if size = 8 then v
  else if off % 8 = 0 then v % 2 ^ 32 + old / 2 ^ 32 * 2 ^ 32
  else old % 2 ^ 32 + v % 2 ^ 32 * 2 ^ 32

/-- The command that an aligned offset's register triggers by a write, if it is one (WO). -/
def State.writeCommand (s : State) (off : Nat) (w : HostWrite) : Option State :=
  if off = 0x1000 then some (s.commandWrite w off fun u => u.hostLock w.value.toNat)
  else if off = 0x1010 then some (s.jnySubmit w)
  else if off = 0x1020 then some (s.retireSubmit w)
  else if off = 0x1038 then some (s.retainSubmit w)
  else if off = 0x1140 then some (s.attSubmit w)
  else if off = 0x1300 then some (s.syncSubmit w)
  else if 0x3040 ≤ off ∧ off < 0x3060 then some (s.commandWrite w off fun u => u.rearmWord ((off - 0x3040) / 8) w.value.toNat)
  else if 0x120000 ≤ off ∧ off < 0x130000 ∧ off % 0x1000 = 0x80 then some (s.sliceInject ((off - 0x120000) / 0x1000) w)
  else if 0x3000000 ≤ off ∧ off < 0x3800000 ∧ off % 0x20 = 0x10 then some (s.windowAdd ((off - 0x3000000) / 0x20) w)
  else none

/-- A write to a register, of four or eight bytes at its aligned offset. A 4-byte write to a command register is
discarded and recorded (R670); the doorbell takes both sizes. -/
def State.writeReg (s : State) (off size : Nat) (v : W64) : State :=
  let base := off / 8 * 8
  if 0x2800000 ≤ off ∧ off < 0x2880000 then (if off % 8 = 0 then s.hostBell ((off - 0x2800000) / 8) ⟨size, v⟩ else s)
  else match s.writeCommand base ⟨size, v⟩ with
    | some u => u
    | none =>
      if base = 0x1380 then
        if off % 8 = 0 && bitOf v.toNat 31 then { s with host.errValid := false } else s
      else s.setReg base (mergeWrite (s.reg base) off size v.toNat)

/-- A write of BAR0, once it reaches the registers. -/
def State.writeServed (s : State) (off size : Nat) (v : W64) : State :=
  if !s.serves off then s
  else if inStaging off then
    { s with jny.staging := FMap.setRun 0 s.jny.staging (off - stagingBase) ((leBytes 8 v.toNat).take (min size (0x2000000 - off))) }
  else if !inRegisters off then s
  else if (size = 4 ∧ off % 4 = 0) ∨ (size = 8 ∧ off % 8 = 0) then s.writeReg off size v
  else s.hostErr errRegister .format off false

/-- A write of BAR0 by the host port, as the command `c` brings it. (DEDUCED, log 91.) -/
def State.bar0Write (s : State) (c : Instr) (off size : Nat) (v : W64) : State :=
  if size = 0 ∨ 8 < size then s else
  s.hostGate c fun u => if bar0Size < off + size then u.unsupported else u.writeServed off size v

/-- REGISTER_WRITE (R8): a register acts by its access code. (DEDUCED, log 91.) -/
def execRegisterWrite (offset size : Nat) (value : W64) (s : State) : Res := .next (s.bar0Write (.registerWrite offset size value) offset size value)

/-- HOST_ERRCAP_CLEAR (R673). -/
def execHostErrcapClear (w : HostWrite) (s : State) : Res := .next (s.bar0Write (.hostErrcapClear w) 0x1380 w.size w.value)

/-- FAULT_HEAD_WRITE (R359). -/
def execFaultHeadWrite (w : HostWrite) (s : State) : Res := .next (s.bar0Write (.faultHeadWrite w) 0x3008 w.size w.value)

/-- EVT_HEAD_WRITE (R676). -/
def execEvtHeadWrite (w : HostWrite) (s : State) : Res := .next (s.bar0Write (.evtHeadWrite w) 0x3020 w.size w.value)

/-- EVT_REARM (R680): word `index` holds the bits of 64 vectors. -/
def execEvtRearm (index : Fin 4) (w : HostWrite) (s : State) : Res :=
  .next (s.bar0Write (.evtRearm index w) (0x3040 + 8 * index.val) w.size w.value)

/-- MSIX_UNMASK (R679). -/
def execMsixUnmask (vector : Fin 256) (s : State) : Res := .next (s.hostGate (.msixUnmask vector) fun u => if u.serves 0x4000 then u.unmask vector.val else u)

/-- HOST_LOCK_ACQ (R675). -/
def execHostLockAcq (w : HostWrite) (s : State) : Res :=
  .next (s.bar0Write (.hostLockAcq w) 0x1000 w.size ((w.value ||| 0x100) &&& ~~~0x200))

/-- HOST_LOCK_REL (R647). -/
def execHostLockRel (w : HostWrite) (s : State) : Res :=
  .next (s.bar0Write (.hostLockRel w) 0x1000 w.size ((w.value ||| 0x200) &&& ~~~0x100))

/-- ATT_CTRL (R675). -/
def execAttCtrl (w : HostWrite) (s : State) : Res := .next (s.bar0Write (.attCtrl w) 0x1140 w.size w.value)

/-- The mailbox's command word with an operation in [1:0]. -/
def withOp (w : HostWrite) (op : W64) : HostWrite := { w with value := (w.value &&& ~~~3) ||| op }

/-- SYNC_CMD_ADD (R686). -/
def execSyncCmdAdd (w : HostWrite) (s : State) : Res := .next (s.bar0Write (.syncCmdAdd w) 0x1300 w.size (withOp w 0).value)
/-- SYNC_CMD_SET (R686). -/
def execSyncCmdSet (w : HostWrite) (s : State) : Res := .next (s.bar0Write (.syncCmdSet w) 0x1300 w.size (withOp w 1).value)
/-- SYNC_CMD_READ (R686). -/
def execSyncCmdRead (w : HostWrite) (s : State) : Res := .next (s.bar0Write (.syncCmdRead w) 0x1300 w.size (withOp w 2).value)
/-- SYNC_CMD_WAIT (R686). -/
def execSyncCmdWait (w : HostWrite) (s : State) : Res := .next (s.bar0Write (.syncCmdWait w) 0x1300 w.size (withOp w 3).value)

/-- COUNTER_WINDOW_ADD (R685). -/
def execCounterWindowAdd (c : BitVec 18) (w : HostWrite) (s : State) : Res :=
  .next (s.bar0Write (.counterWindowAdd c w) (0x3000000 + c.toNat * 0x20 + 0x10) w.size w.value)

/-- HOST_DOORBELL (R684). -/
def execHostDoorbell (q : BitVec 16) (w : HostWrite) (s : State) : Res :=
  .next (s.bar0Write (.hostDoorbell q w) (0x2800000 + q.toNat * 8) w.size w.value)

/-! ## BAR2 (R672, Table 20–3) -/

/-- The host-visible drawer whose window holds a BAR2 offset, and the offset in it (R159). -/
def State.window (s : State) (off : Nat) : Option (Nat × Nat) :=
  ((s.records (·.drawers)).find? fun r =>
    r.hostVisible && decide (r.bar2 * 65536 ≤ off) && decide (off < r.bar2 * 65536 + r.bytes)).map
    fun r => (r.id, off - r.bar2 * 65536)

/-- What BAR2 says of the part of a line at an offset before the line itself is met. -/
def State.windowCheck (s : State) (off : Nat) : (Nat × Nat) ⊕ Status :=
  match s.window off with
  | none => .inr .range
  | some (d, o) => if s.drawerFrozen d || s.sweeping d then .inr .held else .inl (d, o)

/-- What a BAR2 read has given so far: its bytes, whether its completion is poisoned, and what it records. -/
structure Bar2Read where
  data     : List Byte
  poisoned : Bool
  err      : Option Status
deriving DecidableEq, Repr

/-- Read one line's part. -/
def State.bar2Piece (s : State) (acc : Bar2Read) (p : Nat × Nat × Nat) : State × Bar2Read :=
  let note := fun (e : Status) => match acc.err with | none => some e | x => x
  match s.windowCheck (p.1 * 64 + p.2.1) with
  | .inr e => (s, { acc with data := acc.data ++ List.replicate p.2.2 0xFF, err := note e })
  | .inl (d, o) =>
    let r := s.readLine 0 d (o / 64)
    (r.1, { data := acc.data ++ sub r.2.data p.2.1 p.2.2, poisoned := acc.poisoned || r.2.poisoned
            err := if r.2.poisoned then note .poisoned else acc.err })

/-- BAR2_READ (R672). -/
def execBar2Read (offset length : Nat) (found : List Damage) (s : State) : Res :=
  if !s.barOpen || length = 0 || decide (4096 < length) then .next s
  else if s.hostHeld then .next (s.hostWait (.bar2Read offset length found))
  else if s.host.d3hot || decide (bar2Size < offset + length) then .next s.unsupported
  else if !s.isReady then
    .next (s.deliver (.bar2Read offset length found) fun u =>
      (u.complete_ (.hostRead 2 offset (List.replicate length 0xFF) false)).hostErr errBar2Read .notReady offset true)
  else .next (s.deliver (.bar2Read offset length found) fun u =>
    let r := (pieces offset length).foldl (fun acc p => State.bar2Piece acc.1 acc.2 p)
      (u.withFound found, ({ data := [], poisoned := false, err := none } : Bar2Read))
    let s1 := r.1.complete_ (.hostRead 2 offset r.2.data r.2.poisoned)
    (match r.2.err with | none => s1 | some e => s1.hostErr errBar2Read e offset true).settle)

/-- Write one line's part; one that needs a reserve block waits, and every later part behind it (R575, R671).
(DEDUCED, log 89.) -/
def State.bar2Store (s : State) (off : Nat) (data : List Byte) (err : Option Status) (p : Nat × Nat × Nat) : State × Option Status :=
  let note := fun (e : Status) => match err with | none => some e | x => x
  match s.windowCheck (p.1 * 64 + p.2.1) with
  | .inr e => (s, note e)
  | .inl (d, o) =>
    let part := sub data (p.1 * 64 + p.2.1 - off) p.2.2
    let wait := { s with fabric.parked := s.fabric.parked ++ [.hostWrite (d * 2 ^ 40 + o) part] }
    if s.writeHeld then (wait, err)
    else match s.hostStore d o part with
      | none => (wait, err)
      | some (u, bad) => (u, if bad then note .poisoned else err)

/-- BAR2_WRITE (R672). (DEDUCED, log 89.) -/
def execBar2Write (offset : Nat) (data : List Byte) (found : List Damage) (s : State) : Res :=
  if !s.barOpen || data.isEmpty then .next s
  else if !s.host.waiting.isEmpty then .next (s.hostWait (.bar2Write offset data found))
  else if s.host.d3hot || decide (bar2Size < offset + data.length) then .next s.unsupported
  else if !s.isReady then .next (s.deliver (.bar2Write offset data found) fun u => u.hostErr errBar2Write .notReady offset true)
  else .next (s.deliver (.bar2Write offset data found) fun u =>
    let r := (pieces offset data.length).foldl (fun acc p => State.bar2Store acc.1 offset data acc.2 p)
      (u.withFound found, (none : Option Status))
    (match r.2 with | none => r.1 | some e => r.1.hostErr errBar2Write e offset true).settle)

/-! ## Resets and link states (R664 to R666, R111) -/

/-- Whether a command is a read by the host port. -/
def isHostRead : Instr → Bool
  | .rcRead .host _ _ => true
  | .rsLowRead .host _ => true
  | .bar2Read _ _ _ => true
  | _ => false

/-- What PERST_N, a hot reset and a Function Level Reset do (R666): reads that wait, or whose completion does, are discarded.
(DEDUCED, log 93.) -/
def State.resetFunction (s : State) : State :=
  let s1 := { s with
    host := { s.host with
      d3hot := false, snaps := s.host.snaps.filter (fun e => e.1 != Interface.host)
      waiting := s.host.waiting.filter (!isHostRead ·) }
    bench := { s.bench with heldIn := s.bench.heldIn.filter (!isHostRead ·) }
    delayed := []
    events := { s.events with
      masked := BitVec.allOnes 256, pba := 0, armed := BitVec.allOnes 256
      ring := { s.events.ring with slots := [], head := s.events.ring.tail, overflow := 0 } }
    bureau.lock := if s.bureau.lock = Holder.host then Holder.free else s.bureau.lock }
  s1.releaseAll (fun w => w.owner == WaitOwner.host) .aborted

/-- PERST_N_ASSERT (R666, R47); in RETENTION it makes the host a wake source (Table 4–6). -/
def execPerstNAssert (s : State) : Res :=
  let s0 := (s.portInput .perstNAssert).resetFunction
  let s1 := { s0 with host := { s0.host with perstLow := true }.down }
  .next { s1 with power.retention := if s.isIn .retention then s1.power.retention.map fun r => { r with perstSeen := true } else s1.power.retention }

/-- PERST_N_DEASSERT (R111, R45): the link trains, once SEAL_BOOT has ended, at the width that the cables found on J1 and J2
and the other end allow. (DESIGN CHOICE, log 114.) -/
def execPerstNDeassert (s : State) : Res :=
  let found := Config.hostCabling s.time
  let up := !(s.isIn .off || s.isIn .sealBoot || s.isIn .retention) && !s.power.tripped
  let h := { s.host with perstLow := false, cableJ1 := found.1, cableJ2 := found.2.1, partner := found.2.2 }
  .next { s with host := if s.host.perstLow && up then h.train else if s.host.perstLow then h else s.host }

/-- HOT_RESET (R666). -/
def execHotReset (s : State) : Res := .next (if s.host.linkUp then (s.portInput .hotReset).resetFunction else s)

/-- FLR (R666). -/
def execFlr (s : State) : Res := .next (if s.host.linkUp then (s.portInput .flr).resetFunction else s)

/-- D3HOT_ENTRY (R665). (DEDUCED, log 93.) -/
def execD3hotEntry (s : State) : Res := .next (if s.host.linkUp then { s with host.d3hot := true } else s)

/-- HOST_UNSUPPORTED_REQUEST (R664). -/
def execHostUnsupportedRequest (_kind : HostRequestKind) (s : State) : Res := .next (if s.host.linkUp then s.unsupported else s)

end Sys2Proof.Machine
end

