-- ==== Sys2Proof/Machine/DebugOps.lean ====
section
/-! DEFINITION. The test access port, the DBG register and the debug commands (chapter 21). A debug command is loaded by the
DBG row and performed by the row of its own code. -/

namespace Sys2Proof

/-! ## What a debugger sees of a sieve context (R709) -/

/-- What a CTX selector names (R709). -/
inductive CtxSel where
  | reg (n : Nat)
  | sys (n : Nat)
  | pc
  | scratch (k : Nat)
  | tile (t w : Nat)
  | acc (a w : Nat)
  | none
deriving DecidableEq, Repr

/-- The selector of an address. -/
def ctxSel (a : Nat) : CtxSel :=
  if a < 32 then .reg a
  else if 0x100 ≤ a ∧ a < 0x100 + 17 then .sys (a - 0x100)
  else if a = 0x200 then .pc
  else if 0x400 ≤ a ∧ a < 0x600 then .scratch (a - 0x400)
  else if 0x10000 ≤ a ∧ a < 0x10000 + 0x200 * 16 then .tile ((a - 0x10000) / 0x200) ((a - 0x10000) % 0x200)
  else if 0x20000 ≤ a ∧ a < 0x20000 + 0x200 * 16 then .acc ((a - 0x20000) / 0x200) ((a - 0x20000) % 0x200)
  else .none

/-- Word `w` of a tile, where its shape reaches it. -/
def Tile.word (t : Tile) (w : Nat) : Option W64 :=
  if 8 * w + 8 ≤ t.data.length then some (BitVec.ofNat 64 (field t.data (8 * w) 8)) else none

/-- Word `w` of an accumulator: two of its entries. -/
def Accum.word (a : Accum) (w : Nat) : Option W64 :=
  match a.data[2 * w]?, a.data[2 * w + 1]? with
  | some x, some y => some (BitVec.ofNat 64 (x.toNat + 2 ^ 32 * y.toNat))
  | _, _ => none

/-- The value of a selector; none where nothing states one (an EMPTY tile or accumulator, or past a tile's shape). -/
def Ctx.inspect (key : Nat) (c : Ctx) : CtxSel → Option W64
  | .reg n => some (c.reg n)
  | .sys n => c.sysReg key n
  | .pc => some (c.pc.setWidth 64)
  | .scratch k => some (c.scratch64 0 (8 * k))
  | .tile t w => (c.tile t).bind (·.word w)
  | .acc a w => (c.acc a).bind (·.word w)
  | .none => Option.none

/-- Write a selector's value; none where the write is refused: an RO register, an EMPTY tile or accumulator. -/
def Ctx.poke (c : Ctx) (v : W64) : CtxSel → Option Ctx
  | .reg n => some (c.setReg n v)
  | .sys n => if [3, 4, 5, 10, 15, 16].contains n then Option.none else some (c.setSysReg n v)
  | .pc => some (if c.pc = (v.truncate 16 &&& 0xFFFC) then c else { c with pc := v.truncate 16 &&& 0xFFFC, long := Option.none })
  | .scratch k => some (c.setScratch64 (8 * k) v)
  | .tile t w => (c.tile t).map fun x =>
      if 8 * w + 8 ≤ x.data.length then c.setTile t (some { x with data := splice x.data (8 * w) (leBytes 8 v.toNat) }) else c
  | .acc a w => (c.acc a).map fun x =>
      c.setAcc a (some { x with data := (x.data.set (2 * w) (v.truncate 32)).set (2 * w + 1) ((v >>> 32).truncate 32) })
  | .none => Option.none

end Sys2Proof

namespace Sys2Proof.Machine

/-! ## Test access port (R690 to R692) -/

/-- TAP_RESET (R692): the TAP alone is reset. -/
def execTapReset (s : State) : Res := .next { s with dbg := { s.dbg with ir := .idcode, shift := [], driven := [] } }

/-- Bits on TDO, which is low with VIN absent (R53). -/
def State.tdo (s : State) (bs : List Bool) : State := s.emit (.tdo (if s.vinPresent then bs else bs.map fun _ => false))

/-- Select the bypass register: one bit, which captures 0. -/
def State.bypass (s : State) : State := { s with dbg := { s.dbg with ir := .bypass, driven := [] } }.tdo [false]

/-- EXTEST (R691): drives the pins in FAILED alone; elsewhere it acts as BYPASS. (DESIGN CHOICE, log 99.) -/
def execExtest (pins : List Bool) (s : State) : Res :=
  if s.isIn .failed then .next { s with dbg := { s.dbg with ir := .extest, shift := pins, driven := pins } } else .next s.bypass

/-- The 32 bits of IDCODE (Table 21–1): stepping letter, Device ID, 0x3A5, 1. -/
def State.idcode (s : State) : Nat :=
  1 + 2 * 0x3A5 + 2 ^ 12 * (0x5000 + (match s.power.part with | .sp1 => 0x01 | .sp4 => 0x04 | .sp16 => 0x16)) +
  2 ^ 28 * (s.sec.stepping.toNat / 16)

/-- IDCODE (R690). -/
def execIdcode (s : State) : Res :=
  .next ({ s with dbg := { s.dbg with ir := .idcode, driven := [] } }.tdo ((List.range 32).map fun i => bitOf s.idcode i))

/-- SAMPLE_PRELOAD (R690): the boundary-scan register takes the pins. (DESIGN CHOICE, log 99.) -/
def execSamplePreload (pins : List Bool) (s : State) : Res :=
  .next ({ s with dbg := { s.dbg with ir := .sample, shift := pins, driven := [] } }.tdo pins)

/-- Whether a code selects BYPASS: 0xFF, or one that Table 21–1 does not list. -/
def selectsBypass (code : BitVec 8) : Bool := !([0x00, 0x01, 0x02, 0x10] : List (BitVec 8)).contains code

/-- BYPASS (R690). -/
def execBypass (code : BitVec 8) (s : State) : Res := if selectsBypass code then .next s.bypass else .next s

/-! ## The DBG register (R693 to R696) -/

/-- The codes of Table 21–3. (DEDUCED, log 95.) -/
def debugCodes : List (BitVec 8) :=
  [0x01, 0x02, 0x03, 0x04, 0x05, 0x06, 0x07, 0x10, 0x11, 0x12, 0x13, 0x14, 0x20, 0x21, 0x22, 0x23, 0x24, 0x28, 0x29, 0x30, 0x31]

/-- The command is complete, with a status and data. -/
def State.dbgDone (s : State) (st : Status) (data : W64) : State := { s with dbg := { s.dbg with busy := false, status := st, data := data } }

/-- Whether debug commands complete with NOT_READY: in OFF, in RETENTION, and with no more than the wake island powered.
(DEDUCED, log 98.) -/
def State.dbgOff (s : State) : Bool := s.isIn .off || s.isIn .retention || s.power.tripped

/-- DBG (R693, R694): Capture-DR gives the earlier command; Update-DR submits the one shifted in, unless the earlier one is
busy. A code outside Table 21–3 completes with FORMAT. (DEDUCED, log 95.) -/
def execDbg (dr : BitVec 160) (s : State) : Res :=
  if !s.vinPresent then .next (s.tdo (List.replicate 160 false)) else
  let s1 := { s with dbg := { s.dbg with ir := .dbg, driven := [] } }.emit (.capture s.dbg.status s.dbg.busy s.dbg.data)
  if s.dbg.busy then .next s1 else
  let s2 := { s1 with dbg := { s1.dbg with
    cmd := dr.extractLsb' 0 8, target := dr.extractLsb' 32 16, addr := dr.extractLsb' 48 40, data := dr.extractLsb' 96 64
    status := .ok, busy := true } }
  .next (if s1.dbgOff then s2.dbgDone .notReady s2.dbg.data
    else if debugCodes.contains s2.dbg.cmd then s2 else s2.dbgDone .format s2.dbg.data)

/-- Perform the command of a code, if it is the one that waits: NOT_READY where debug is off, DENIED where it needs the
UNLOCKED state. It is an input of the benches (R695): during a retry or a kerf it stays busy, but for commands that say
otherwise. -/
def State.dbgRow (s : State) (a : Instr) (code : BitVec 8) (unlocked patient : Bool) (act : State → State) : Res :=
  if !s.dbg.busy || s.dbg.cmd != code then .next s
  else if s.dbgOff then .next (s.dbgDone .notReady s.dbg.data)
  else if patient && s.benchesRun && s.inputsWait then .next s
  else if unlocked && s.sec.debug != .unlocked then .next (s.dbgDone .denied s.dbg.data)
  else .next (act (s.portInput a))

/-- The inspected value of an 8-byte aligned BAR0 offset (R697): no read effect; outside the block 0 before READY. -/
def State.inspect (s : State) (off : Nat) : Nat :=
  if !(inBlock off || s.isReady) then 0
  else if inBuffer off then leNat ((List.range 8).map fun i => s.bufByte (off + i))
  else s.reg off

/-- REG_READ (R696, R697). -/
def execRegRead (s : State) : Res :=
  s.dbgRow .regRead 0x01 false true fun u =>
    let off := u.dbg.addr.toNat
    if off % 8 ≠ 0 then u.dbgDone .format 0
    else if bar0Size ≤ off then u.dbgDone .range 0
    else if u.sec.debug != .unlocked && !inBlock off then u.dbgDone .denied 0
    else u.dbgDone .ok (BitVec.ofNat 64 (u.inspect off))

/-- REG_WRITE (R698): a host port write of 8 bytes. -/
def execRegWrite (s : State) : Res :=
  s.dbgRow .regWrite 0x02 true true fun u =>
    let off := u.dbg.addr.toNat
    if off % 8 ≠ 0 then u.dbgDone .format u.dbg.data
    else if bar0Size ≤ off then u.dbgDone .range u.dbg.data
    else (u.writeServed off 8 u.dbg.data).dbgDone .ok u.dbg.data

/-! ## Challenge, token, relock (R619, R701 to R703) -/

/-- DBG_CHALLENGE (R701): 32 random bytes, which the operand gives. -/
def execDbgChallenge (random : List Byte) (s : State) : Res :=
  s.dbgRow (.dbgChallenge random) 0x03 false true fun u => { u with sec.challenge := some (sub random 0 32) }.dbgDone .ok u.dbg.data

/-- CHAL_READ (Table 21–3): with no valid challenge the bytes are free. (DEDUCED, log 95.) -/
def execChalRead (s : State) : Res :=
  s.dbgRow .chalRead 0x04 false true fun u =>
    let a := u.dbg.addr.toNat
    if a % 8 ≠ 0 ∨ 24 < a then u.dbgDone .format 0
    else match u.sec.challenge with
      | some c => u.dbgDone .ok (BitVec.ofNat 64 (field c a 8))
      | none => u.draw.dbgDone .ok (Config.freeWord u.fresh)

/-- TOKEN_LOAD (Table 21–3): the buffer has 1,024 bytes. -/
def execTokenLoad (s : State) : Res :=
  s.dbgRow .tokenLoad 0x05 false true fun u =>
    let a := u.dbg.addr.toNat
    if 1024 < a + 8 then u.dbgDone .range u.dbg.data
    else { u with dbg.buf := FMap.setRun 0 u.dbg.buf a (leBytes 8 u.dbg.data.toNat) }.dbgDone .ok u.dbg.data

/-- TOKEN_SUBMIT (R702): the buffer's first bytes as a token; `length` is the DATA of the debug command that waits. -/
def execTokenSubmit (length : BitVec 64) (s : State) : Res :=
  if s.dbg.data != length then .next s else
  s.dbgRow (.tokenSubmit length) 0x06 false true fun u =>
    let n := bits u.dbg.data.toNat 10 0
    let r :=
      if n = 0 ∧ u.sec.lifecycle = .manufacture then (if u.sec.debug = .unlocked then u.rejectToken else u.unlock)
      else if n = 0 then u.rejectToken
      else u.takeToken (FMap.getRun u.dbg.buf 0 0 (min n 1024))
    r.1.dbgDone r.2 u.dbg.data

/-- RELOCK (R618, R620, R621, R703). -/
def execRelock (s : State) : Res := s.dbgRow .relock 0x07 true true fun u => let r := u.relock; r.1.dbgDone r.2 u.dbg.data

/-! ## Steward cores (R330, R704 to R706) -/

/-- The bench that a target number names. -/
def benchTarget (n : Nat) : Option BenchId := match n with | 0 => some .A | 1 => some .B | 2 => some .C | _ => none

/-- Detach the spare: RETIRED, with BENCH_DETACHED and the claim unchanged (R330). -/
def State.detachSpare (s : State) (b : BenchId) : State :=
  let s1 := { s with bench := s.bench.setRole b .retired }.unthrottle
  (s1.raise .benchDetached .bench b.num retiredDetached (claims s.bench.claim s.bench.claim) 0xFF).settle

/-- Detach a bench, no locked sequence being under way (R330, R704). One that is out of service stays so. -/
def State.detachNow (s : State) (b : BenchId) : State :=
  let r := s.bench.role b
  if r = .rebuilding ∨ s.bench.dispute.isSome ∨ s.bench.kerf.isSome ∨ s.fullApplyOn then s.dbgDone .notReady s.dbg.data
  else if r = .active then
    if s.canPromote then (s.plannedPromotion b retiredDetached).dbgDone .ok s.dbg.data
    else s.dbgDone .debugActiveBench s.dbg.data
  else if r = .spare then (s.detachSpare b).dbgDone .ok s.dbg.data
  else s.dbgDone .ok s.dbg.data

/-- DETACH (R704, R705): deferred while a locked sequence runs. (DEDUCED, log 95 and 96.) -/
def execDetach (locked : Bool) (s : State) : Res :=
  s.dbgRow (.detach locked) 0x10 true false fun u =>
    match benchTarget u.dbg.target.toNat with
    | none => u.dbgDone .range u.dbg.data
    | some b => if locked then { u with bench.detach := some b } else { u with bench.detach := none }.detachNow b

/-- DETACH_DEFER_EXPIRY (R705). (DEDUCED, log 96.) -/
def execDetachDeferExpiry (s : State) : Res :=
  if s.bench.detach.isNone then .next s else
  s.dbgRow .detachDeferExpiry 0x10 true false fun u => { u with bench.detach := none }.dbgDone .notReady u.dbg.data

/-- LOCKED_SEQUENCE_END (R705): a deferred DETACH goes on. (DEDUCED, log 96.) -/
def execLockedSequenceEnd (s : State) : Res :=
  match s.bench.detach with
  | none => .next s
  | some b => s.dbgRow .lockedSequenceEnd 0x10 true false fun u => { u with bench.detach := none }.detachNow b

/-- Act on the core of the target, a bench out of service; DENIED for any other (R706). (DEDUCED, log 95.) -/
def State.coreRow (s : State) (a : Instr) (code : BitVec 8) (act : State → BenchId → Core → State) : Res :=
  s.dbgRow a code true true fun u =>
    match benchTarget u.dbg.target.toNat with
    | none => u.dbgDone .range u.dbg.data
    | some b => if u.bench.role b = .retired then act u b (u.bench.core b) else u.dbgDone .denied u.dbg.data

/-- The core after it has run: what the debugger wrote may have changed. -/
def Core.ran (c : Core) (running : Bool) : Core := { words := [], epoch := c.epoch + 1, running := running }

/-- CORE_STEP (R706). (DESIGN CHOICE, log 46.) -/
def execCoreStep (s : State) : Res :=
  s.coreRow .coreStep 0x11 fun u b c => { u with bench := u.bench.setCore b (c.ran false) }.dbgDone .ok u.dbg.data

/-- CORE_RUN (R706). (DESIGN CHOICE, log 46.) -/
def execCoreRun (s : State) : Res :=
  s.coreRow .coreRun 0x12 fun u b c => { u with bench := u.bench.setCore b (c.ran true) }.dbgDone .ok u.dbg.data

/-- Whether a selector names a word of a steward core: a general register, the PC, or a word of its local memory. -/
def coreSelector (a : Nat) : Bool := decide (a ≤ 0x20) || (decide (0x10000000 ≤ a) && decide (a < 2 ^ 32))

/-- CORE_READ (R706): a word that the debugger has not written since the core last ran is free. (DESIGN CHOICE, log 46.) -/
def execCoreRead (s : State) : Res :=
  s.coreRow .coreRead 0x13 fun u b c0 =>
    let c := if c0.running then c0.ran true else c0
    let a := u.dbg.addr.toNat
    if !coreSelector a then u.dbgDone .range 0
    else { u with bench := u.bench.setCore b c }.dbgDone .ok ((c.words.get a none).getD (Config.coreWord c.epoch b.num a))

/-- CORE_WRITE (R706). (DESIGN CHOICE, log 46.) -/
def execCoreWrite (s : State) : Res :=
  s.coreRow .coreWrite 0x14 fun u b c =>
    let a := u.dbg.addr.toNat
    if !coreSelector a then u.dbgDone .range u.dbg.data
    else { u with bench := u.bench.setCore b { c with words := c.words.set a (some u.dbg.data) none } }.dbgDone .ok u.dbg.data

/-! ## Sieve contexts (R707 to R710) -/

/-- The context that the target names: engine in [5:0], context in [10:8]. -/
def ctxTarget (t : Nat) : Nat := bits t 5 0 * 8 + bits t 10 8

/-- Act on the target context; RANGE where the part has no such engine. -/
def State.ctxRow (s : State) (a : Instr) (code : BitVec 8) (act : State → Nat → Ctx → State) : Res :=
  s.dbgRow a code true true fun u =>
    let key := ctxTarget u.dbg.target.toNat
    if u.power.part.sieves * 8 ≤ key then u.dbgDone .range 0 else act u key (u.ctx key)

/-- CTX_HALT (R707): taken at the first resume point after any window; until then the command is busy. (DEDUCED, log 97.) -/
def execCtxHalt (s : State) : Res :=
  s.ctxRow .ctxHalt 0x20 fun u key c =>
    if c.halted then u.dbgDone .ok u.dbg.data
    else if c.phase = .idle ∨ c.phase = .paused then (u.setCtx key { c with halted := true, haltReq := false }).dbgDone .ok u.dbg.data
    else ((u.setCtx key { c with haltReq := true }).boundary key)

/-- CTX_STEP (R708): a halted context runs to its next resume point; one without a program has nothing to run.
(DEDUCED, log 97.) -/
def execCtxStep (s : State) : Res :=
  s.ctxRow .ctxStep 0x21 fun u key c =>
    if c.stepReq || c.haltReq then u
    else if !c.halted then u.dbgDone .format u.dbg.data
    else if c.phase = .idle ∨ c.phase = .paused then u.dbgDone .ok u.dbg.data
    else (u.setCtx key { c with halted := false, stepReq := true }).reelect key

/-- CTX_RUN (R708). -/
def execCtxRun (s : State) : Res :=
  s.ctxRow .ctxRun 0x22 fun u key c =>
    ((u.setCtx key { c with halted := false, haltReq := false, stepReq := false }).reelect key).dbgDone .ok u.dbg.data

/-- CTX_READ (R709): what nothing states is a free value. (DEDUCED, log 97.) -/
def execCtxRead (s : State) : Res :=
  s.ctxRow .ctxRead 0x23 fun u key c =>
    match ctxSel u.dbg.addr.toNat with
    | .none => u.dbgDone .format 0
    | sel => match c.inspect key sel with
      | some v => u.dbgDone .ok v
      | none => u.draw.dbgDone .ok (Config.freeWord u.fresh)

/-- CTX_WRITE (R709): on a halted context alone. (DEDUCED, log 97.) -/
def execCtxWrite (s : State) : Res :=
  s.ctxRow .ctxWrite 0x24 fun u key c =>
    if !c.halted then u.dbgDone .format u.dbg.data
    else match c.poke u.dbg.data (ctxSel u.dbg.addr.toNat) with
      | none => u.dbgDone .format u.dbg.data
      | some x => (u.setCtx key x).dbgDone .ok u.dbg.data

/-! ## Engines and memory (R699, R711) -/

/-- The class and number of the engine that a target names: copy engine 0 to 31, or 0x40 + n for lexicon engine n. -/
def State.engTarget (s : State) : Option (Nat × Nat) :=
  let t := bits s.dbg.target.toNat 6 0
  if t < s.power.part.copies then some (0, t)
  else if 0x40 ≤ t ∧ t < 0x40 + s.power.part.lexicons then some (2, t - 0x40)
  else none

/-- Whether a command that has begun occupies an engine. -/
def State.engineWorks (s : State) (cls n : Nat) : Bool :=
  s.queues.any fun e => (optAny (s.range e.1) fun r => r.cls == cls) &&
    e.2.running.any fun c => c.engine == n && (c.phase == .running || c.phase == .waiting)

/-- ENG_HALT (R711): at once on an engine at rest, else at its next resume point. (DEDUCED, log 97.) -/
def execEngHalt (s : State) : Res :=
  s.dbgRow .engHalt 0x28 true true fun u =>
    match u.engTarget with
    | none => u.dbgDone .range u.dbg.data
    | some (cls, n) =>
      let k := engineCode cls n
      if u.dbg.engHalt.contains k then u.dbgDone .ok u.dbg.data
      else if u.engineWorks cls n then (if u.dbg.engReq.contains k then u else { u with dbg.engReq := u.dbg.engReq ++ [k] })
      else { u with dbg.engHalt := u.dbg.engHalt ++ [k], dbg.engReq := u.dbg.engReq.filter (· != k) }.dbgDone .ok u.dbg.data

/-- ENG_RUN (R711). -/
def execEngRun (s : State) : Res :=
  s.dbgRow .engRun 0x29 true true fun u =>
    match u.engTarget with
    | none => u.dbgDone .range u.dbg.data
    | some (cls, n) =>
      let k := engineCode cls n
      { u with dbg.engHalt := u.dbg.engHalt.filter (· != k), dbg.engReq := u.dbg.engReq.filter (· != k) }.dbgDone .ok u.dbg.data

/-- The checks of a debug access to memory (R699): aligned, configured, in range, not held. -/
def State.memCheck (s : State) : Option Status :=
  let a := s.dbg.addr.toNat
  match s.drawer s.dbg.target.toNat with
  | none => some .denied
  | some r =>
    if a % 8 ≠ 0 then some .format
    else if r.bytes < a + 8 then some .range
    else if s.drawerFrozen r.id || s.sweeping r.id then some .held
    else none

/-- MEM_READ (R699): POISONED with zero data. -/
def execMemRead (s : State) : Res :=
  s.dbgRow .memRead 0x30 true true fun u =>
    match u.memCheck with
    | some st => u.dbgDone st 0
    | none =>
      let r := u.readRange u.dbg.target.toNat u.dbg.addr.toNat 8
      if r.2.bad.isSome then r.1.dbgDone .poisoned 0 else r.1.dbgDone .ok (BitVec.ofNat 64 (leNat r.2.data))

/-- MEM_WRITE (R699): while no reserve block can be had it stays busy (R575). -/
def execMemWrite (s : State) : Res :=
  s.dbgRow .memWrite 0x31 true true fun u =>
    match u.memCheck with
    | some st => u.dbgDone st u.dbg.data
    | none =>
      match u.claimRange u.dbg.target.toNat u.dbg.addr.toNat 8 with
      | none => u
      | some v =>
        let r := v.writeRange u.dbg.target.toNat u.dbg.addr.toNat (leBytes 8 u.dbg.data.toNat)
        r.1.dbgDone (if r.2.isSome then .poisoned else .ok) u.dbg.data

end Sys2Proof.Machine
end

