-- ==== Sys2Proof/Machine/Dispatch.lean ====
section
/-! DEFINITION. The dispatch of commands to their meanings: one arm per constructor of Instr. -/

namespace Sys2Proof.Machine

/-- The effect of a command on everything but the queue of waiting commands. -/
def exec (i : Instr) (s : State) : Host.Outcome State Fault Refusal :=
  match i with
  | .vinApplied mv => Sys2Proof.Machine.execVinApplied mv s
  | .vinUndervolt mv => Sys2Proof.Machine.execVinUndervolt mv s
  | .vinOvervolt mv => Sys2Proof.Machine.execVinOvervolt mv s
  | .vinOvRecover mv => Sys2Proof.Machine.execVinOvRecover mv s
  | .vinHighExcursion mv => Sys2Proof.Machine.execVinHighExcursion mv s
  | .vinColdLoss => Sys2Proof.Machine.execVinColdLoss s
  | .resetNAssert => Sys2Proof.Machine.execResetNAssert s
  | .resetNRelease => Sys2Proof.Machine.execResetNRelease s
  | .powerWarnNAssert => Sys2Proof.Machine.execPowerWarnNAssert s
  | .presenceNRecognised => Sys2Proof.Machine.execPresenceNRecognised s
  | .presenceWindowExpiry => Sys2Proof.Machine.execPresenceWindowExpiry s
  | .sealBootDone romAndFusesOk avyanathOk => Sys2Proof.Machine.execSealBootDone romAndFusesOk avyanathOk s
  | .selfTestDone failed => Sys2Proof.Machine.execSelfTestDone failed s
  | .memoryTrainDone failed => Sys2Proof.Machine.execMemoryTrainDone failed s
  | .startUpBoundExpiry => Sys2Proof.Machine.execStartUpBoundExpiry s
  | .nodeResetRestart => Sys2Proof.Machine.execNodeResetRestart s
  | .thermalLimitReached unit temp => Sys2Proof.Machine.execThermalLimitReached unit temp s
  | .thermalTripTimer unit temp => Sys2Proof.Machine.execThermalTripTimer unit temp s
  | .thermalExcursionEnd d => Sys2Proof.Machine.execThermalExcursionEnd d s
  | .pacePeriod reports => Sys2Proof.Machine.execPacePeriod reports s
  | .paceCeilingTimer d => Sys2Proof.Machine.execPaceCeilingTimer d s
  | .paceCeilingClearTimer => Sys2Proof.Machine.execPaceCeilingClearTimer s
  | .dramCalibration st chan correction => Sys2Proof.Machine.execDramCalibration st chan correction s
  | .placementEvaluation reports drawer block copy dest phys => Sys2Proof.Machine.execPlacementEvaluation reports drawer block copy dest phys s
  | .blockMoveDone drawer block copy => Sys2Proof.Machine.execBlockMoveDone drawer block copy s
  | .retainCmd w => Sys2Proof.Machine.execRetainCmd w s
  | .retention m timer mask => Sys2Proof.Machine.execRetention m timer mask s
  | .retentionEntryDone => Sys2Proof.Machine.execRetentionEntryDone s
  | .wakeLight p => Sys2Proof.Machine.execWakeLight p s
  | .ambientCheckExpiry p pattern unmodulated => Sys2Proof.Machine.execAmbientCheckExpiry p pattern unmodulated s
  | .wakeTimerExpiry => Sys2Proof.Machine.execWakeTimerExpiry s
  | .wakeHost => Sys2Proof.Machine.execWakeHost s
  | .retentionExitDone checks failed => Sys2Proof.Machine.execRetentionExitDone checks failed s
  | .jnyCtrl w => Sys2Proof.Machine.execJnyCtrl w s
  | .joineryLoad m image => Sys2Proof.Machine.execJoineryLoad m image s
  | .imageCheckDone plan => Sys2Proof.Machine.execImageCheckDone plan s
  | .applyPoint => Sys2Proof.Machine.execApplyPoint s
  | .fullApplyDone => Sys2Proof.Machine.execFullApplyDone s
  | .configRequest => Sys2Proof.Machine.execConfigRequest s
  | .trainingStepDone p receives words => Sys2Proof.Machine.execTrainingStepDone p receives words s
  | .trainingStepTimeout p => Sys2Proof.Machine.execTrainingStepTimeout p s
  | .trainingRetryPauseExpiry p => Sys2Proof.Machine.execTrainingRetryPauseExpiry p s
  | .trainFailTimer p => Sys2Proof.Machine.execTrainFailTimer p s
  | .synthLockTimeout p => Sys2Proof.Machine.execSynthLockTimeout p s
  | .quietSlotStart p => Sys2Proof.Machine.execQuietSlotStart p s
  | .quietSlotEnd p => Sys2Proof.Machine.execQuietSlotEnd p s
  | .quietDeferralExpiry p => Sys2Proof.Machine.execQuietDeferralExpiry p s
  | .floodAssert p => Sys2Proof.Machine.execFloodAssert p s
  | .floodDebounceExpiry p => Sys2Proof.Machine.execFloodDebounceExpiry p s
  | .laneAlarmAssert p lane => Sys2Proof.Machine.execLaneAlarmAssert p lane s
  | .laneAlarmClear p lane => Sys2Proof.Machine.execLaneAlarmClear p lane s
  | .lossOfSignal p => Sys2Proof.Machine.execLossOfSignal p s
  | .resumeRetrainDone p => Sys2Proof.Machine.execResumeRetrainDone p s
  | .graceExpiry p => Sys2Proof.Machine.execGraceExpiry p s
  | .quiesceBoundExpiry p => Sys2Proof.Machine.execQuiesceBoundExpiry p s
  | .dozeExpiry p => Sys2Proof.Machine.execDozeExpiry p s
  | .darkDozeWake p => Sys2Proof.Machine.execDarkDozeWake p s
  | .dozeSearchExpiry p => Sys2Proof.Machine.execDozeSearchExpiry p s
  | .dozeLightWake p => Sys2Proof.Machine.execDozeLightWake p s
  | .dozeAmbientExpiry p trainingWord unmodulated => Sys2Proof.Machine.execDozeAmbientExpiry p trainingWord unmodulated s
  | .idleFlit p f => Sys2Proof.Machine.execIdleFlit p f s
  | .dataFlit p f => Sys2Proof.Machine.execDataFlit p f s
  | .nakFlit p f => Sys2Proof.Machine.execNakFlit p f s
  | .trainFlit p f => Sys2Proof.Machine.execTrainFlit p f s
  | .replayTimerExpiry p => Sys2Proof.Machine.execReplayTimerExpiry p s
  | .nakRepeatExpiry p => Sys2Proof.Machine.execNakRepeatExpiry p s
  | .creditReturnTimer p => Sys2Proof.Machine.execCreditReturnTimer p s
  | .errorSubwindow p => Sys2Proof.Machine.execErrorSubwindow p s
  | .creditInit p vc0 vc1 vc2 => Sys2Proof.Machine.execCreditInit p vc0 vc1 vc2 s
  | .quietReq p len start => Sys2Proof.Machine.execQuietReq p len start s
  | .quietAck p len start => Sys2Proof.Machine.execQuietAck p len start s
  | .dozeReq p kind d => Sys2Proof.Machine.execDozeReq p kind d s
  | .dozeAck p kind d => Sys2Proof.Machine.execDozeAck p kind d s
  | .dozeRefuse p reason => Sys2Proof.Machine.execDozeRefuse p reason s
  | .quiesceReq p => Sys2Proof.Machine.execQuiesceReq p s
  | .quiesceDone p => Sys2Proof.Machine.execQuiesceDone p s
  | .linkDownPlanned p reason => Sys2Proof.Machine.execLinkDownPlanned p reason s
  | .kaHello p fields => Sys2Proof.Machine.execKaHello p fields s
  | .kaCert p fields => Sys2Proof.Machine.execKaCert p fields s
  | .kaFinish p fields => Sys2Proof.Machine.execKaFinish p fields s
  | .kaBind p ep rest => Sys2Proof.Machine.execKaBind p ep rest s
  | .kaBindAck p ep status => Sys2Proof.Machine.execKaBindAck p ep status s
  | .kaFail p reason => Sys2Proof.Machine.execKaFail p reason s
  | .read r => Sys2Proof.Machine.execRead r s
  | .write r => Sys2Proof.Machine.execWrite r s
  | .fadd64 r => Sys2Proof.Machine.execFadd64 r s
  | .cas64 r => Sys2Proof.Machine.execCas64 r s
  | .cas128 r => Sys2Proof.Machine.execCas128 r s
  | .syncAdd r => Sys2Proof.Machine.execSyncAdd r s
  | .syncSet r => Sys2Proof.Machine.execSyncSet r s
  | .syncRead r => Sys2Proof.Machine.execSyncRead r s
  | .syncWait r => Sys2Proof.Machine.execSyncWait r s
  | .doorbell r => Sys2Proof.Machine.execDoorbell r s
  | .streamRead r => Sys2Proof.Machine.execStreamRead r s
  | .fabricTokenize r => Sys2Proof.Machine.execFabricTokenize r s
  | .fabricDetokenize r => Sys2Proof.Machine.execFabricDetokenize r s
  | .fabricMaskFetch r => Sys2Proof.Machine.execFabricMaskFetch r s
  | .fabricAdvance r => Sys2Proof.Machine.execFabricAdvance r s
  | .fabricAdvanceFetch r => Sys2Proof.Machine.execFabricAdvanceFetch r s
  | .xferAttest r => Sys2Proof.Machine.execXferAttest r s
  | .xferOffer r => Sys2Proof.Machine.execXferOffer r s
  | .xferChunk r => Sys2Proof.Machine.execXferChunk r s
  | .xferCommit r rendezvous => Sys2Proof.Machine.execXferCommit r rendezvous s
  | .xferAbort r => Sys2Proof.Machine.execXferAbort r s
  | .responseReceived p bytes => Sys2Proof.Machine.execResponseReceived p bytes s
  | .outboundTimeout port n => Sys2Proof.Machine.execOutboundTimeout port n s
  | .tagQuarantineExpiry p tag => Sys2Proof.Machine.execTagQuarantineExpiry p tag s
  | .notifyDelivery p wait => Sys2Proof.Machine.execNotifyDelivery p wait s
  | .doorbellNotifyDelivery wait => Sys2Proof.Machine.execDoorbellNotifyDelivery wait s
  | .memoryOpComplete gate => Sys2Proof.Machine.execMemoryOpComplete gate s
  | .gateOutput g o => Sys2Proof.Machine.execGateOutput g o s
  | .skewLimitExpiry g => Sys2Proof.Machine.execSkewLimitExpiry g s
  | .retryDone first second => Sys2Proof.Machine.execRetryDone first second s
  | .shadowArrival g o => Sys2Proof.Machine.execShadowArrival g o s
  | .firstNewClaimOutput => Sys2Proof.Machine.execFirstNewClaimOutput s
  | .shadowTimeout => Sys2Proof.Machine.execShadowTimeout s
  | .spareConsume input => Sys2Proof.Machine.execSpareConsume input s
  | .spareStallTimer => Sys2Proof.Machine.execSpareStallTimer s
  | .readmit m b => Sys2Proof.Machine.execReadmit m b s
  | .readmitSelftestDone passed => Sys2Proof.Machine.execReadmitSelftestDone passed s
  | .stateCopyDone digest1 digest2 copyDigest => Sys2Proof.Machine.execStateCopyDone digest1 digest2 copyDigest s
  | .journalCatchUp => Sys2Proof.Machine.execJournalCatchUp s
  | .patrolRead st found => Sys2Proof.Machine.execPatrolRead st found s
  | .lapOverdueTimer st => Sys2Proof.Machine.execLapOverdueTimer st s
  | .retire m st bank unit => Sys2Proof.Machine.execRetire m st bank unit s
  | .retireCmd w => Sys2Proof.Machine.execRetireCmd w s
  | .retireCopyDone index spares => Sys2Proof.Machine.execRetireCopyDone index spares s
  | .stackChannelLoss st => Sys2Proof.Machine.execStackChannelLoss st s
  | .channelRetrainTimeout st => Sys2Proof.Machine.execChannelRetrainTimeout st s
  | .stackSensorsFailed st => Sys2Proof.Machine.execStackSensorsFailed st s
  | .mirrorBuildDone drawer plan => Sys2Proof.Machine.execMirrorBuildDone drawer plan s
  | .zeroStampDone drawer block => Sys2Proof.Machine.execZeroStampDone drawer block s
  | .wrapSweepDone drawer => Sys2Proof.Machine.execWrapSweepDone drawer s
  | .inject m kind target => Sys2Proof.Machine.execInject m kind target s
  | .injectCancel m target => Sys2Proof.Machine.execInjectCancel m target s
  | .sliceInject st w => Sys2Proof.Machine.execSliceInject st w s
  | .sliceInjectCancel st w => Sys2Proof.Machine.execSliceInjectCancel st w s
  | .hostDoorbell q w => Sys2Proof.Machine.execHostDoorbell q w s
  | .commandDispatch q found => Sys2Proof.Machine.execCommandDispatch q found s
  | .commandComplete q index => Sys2Proof.Machine.execCommandComplete q index s
  | .quantumExpiry q index => Sys2Proof.Machine.execQuantumExpiry q index s
  | .copyResumePoint q index => Sys2Proof.Machine.execCopyResumePoint q index s
  | .copyNop q index => Sys2Proof.Machine.execCopyNop q index s
  | .copy q index => Sys2Proof.Machine.execCopy q index s
  | .fill q index => Sys2Proof.Machine.execFill q index s
  | .zero q index => Sys2Proof.Machine.execZero q index s
  | .convert q index => Sys2Proof.Machine.execConvert q index s
  | .gather q index => Sys2Proof.Machine.execGather q index s
  | .scatter q index => Sys2Proof.Machine.execScatter q index s
  | .digest q index => Sys2Proof.Machine.execDigest q index s
  | .sweep q index found => Sys2Proof.Machine.execSweep q index found s
  | .sieveNop q index => Sys2Proof.Machine.execSieveNop q index s
  | .pload q index => Sys2Proof.Machine.execPload q index s
  | .start q index => Sys2Proof.Machine.execStart q index s
  | .resetctx q index => Sys2Proof.Machine.execResetctx q index s
  | .sieveUnitDone c => Sys2Proof.Machine.execSieveUnitDone c s
  | .ttimerExpiry c => Sys2Proof.Machine.execTtimerExpiry c s
  | .overrunKillTimer c => Sys2Proof.Machine.execOverrunKillTimer c s
  | .swaitRelease c => Sys2Proof.Machine.execSwaitRelease c s
  | .aluAdd c => Sys2Proof.Machine.execAluAdd c s
  | .aluSub c => Sys2Proof.Machine.execAluSub c s
  | .aluAnd c => Sys2Proof.Machine.execAluAnd c s
  | .aluOr c => Sys2Proof.Machine.execAluOr c s
  | .aluXor c => Sys2Proof.Machine.execAluXor c s
  | .aluShl c => Sys2Proof.Machine.execAluShl c s
  | .aluShr c => Sys2Proof.Machine.execAluShr c s
  | .aluSar c => Sys2Proof.Machine.execAluSar c s
  | .aluMul c => Sys2Proof.Machine.execAluMul c s
  | .aluMulhu c => Sys2Proof.Machine.execAluMulhu c s
  | .aluSltu c => Sys2Proof.Machine.execAluSltu c s
  | .aluSlt c => Sys2Proof.Machine.execAluSlt c s
  | .aluMinu c => Sys2Proof.Machine.execAluMinu c s
  | .aluMaxu c => Sys2Proof.Machine.execAluMaxu c s
  | .aluPopcnt c => Sys2Proof.Machine.execAluPopcnt c s
  | .addi c => Sys2Proof.Machine.execAddi c s
  | .andi c => Sys2Proof.Machine.execAndi c s
  | .ori c => Sys2Proof.Machine.execOri c s
  | .xori c => Sys2Proof.Machine.execXori c s
  | .shiShl c => Sys2Proof.Machine.execShiShl c s
  | .shiShr c => Sys2Proof.Machine.execShiShr c s
  | .shiSar c => Sys2Proof.Machine.execShiSar c s
  | .ldi c => Sys2Proof.Machine.execLdi c s
  | .beq c => Sys2Proof.Machine.execBeq c s
  | .bne c => Sys2Proof.Machine.execBne c s
  | .bltu c => Sys2Proof.Machine.execBltu c s
  | .bgeu c => Sys2Proof.Machine.execBgeu c s
  | .blt c => Sys2Proof.Machine.execBlt c s
  | .bge c => Sys2Proof.Machine.execBge c s
  | .jal c => Sys2Proof.Machine.execJal c s
  | .jr c => Sys2Proof.Machine.execJr c s
  | .sld c => Sys2Proof.Machine.execSld c s
  | .sst c => Sys2Proof.Machine.execSst c s
  | .mfsr c => Sys2Proof.Machine.execMfsr c s
  | .mtsr c => Sys2Proof.Machine.execMtsr c s
  | .yield c => Sys2Proof.Machine.execYield c s
  | .window c => Sys2Proof.Machine.execWindow c s
  | .trap c => Sys2Proof.Machine.execTrap c s
  | .tret c => Sys2Proof.Machine.execTret c s
  | .halt c => Sys2Proof.Machine.execHalt c s
  | .pld c => Sys2Proof.Machine.execPld c s
  | .pst c => Sys2Proof.Machine.execPst c s
  | .tcfg c => Sys2Proof.Machine.execTcfg c s
  | .trelTiles c => Sys2Proof.Machine.execTrelTiles c s
  | .trelAccumulators c => Sys2Proof.Machine.execTrelAccumulators c s
  | .tld c => Sys2Proof.Machine.execTld c s
  | .tst c => Sys2Proof.Machine.execTst c s
  | .tscoreTile c => Sys2Proof.Machine.execTscoreTile c s
  | .tscoreContiguous c => Sys2Proof.Machine.execTscoreContiguous c s
  | .tscoreIndexed c => Sys2Proof.Machine.execTscoreIndexed c s
  | .ast c => Sys2Proof.Machine.execAst c s
  | .topkSelect c => Sys2Proof.Machine.execTopkSelect c s
  | .topkMerge c => Sys2Proof.Machine.execTopkMerge c s
  | .topkDrain c => Sys2Proof.Machine.execTopkDrain c s
  | .topkClear c => Sys2Proof.Machine.execTopkClear c s
  | .xmov c => Sys2Proof.Machine.execXmov c s
  | .sadd c => Sys2Proof.Machine.execSadd c s
  | .sset c => Sys2Proof.Machine.execSset c s
  | .sread c => Sys2Proof.Machine.execSread c s
  | .swait c => Sys2Proof.Machine.execSwait c s
  | .lexNop q index => Sys2Proof.Machine.execLexNop q index s
  | .dictLoad q index => Sys2Proof.Machine.execDictLoad q index s
  | .gramLoad q index => Sys2Proof.Machine.execGramLoad q index s
  | .unload q index => Sys2Proof.Machine.execUnload q index s
  | .streamOpen q index => Sys2Proof.Machine.execStreamOpen q index s
  | .streamClose q index => Sys2Proof.Machine.execStreamClose q index s
  | .tokenize q index => Sys2Proof.Machine.execTokenize q index s
  | .detokenize q index => Sys2Proof.Machine.execDetokenize q index s
  | .maskFetch q index => Sys2Proof.Machine.execMaskFetch q index s
  | .advance q index => Sys2Proof.Machine.execAdvance q index s
  | .advanceFetch q index => Sys2Proof.Machine.execAdvanceFetch q index s
  | .gramSet q index => Sys2Proof.Machine.execGramSet q index s
  | .holdNop q index => Sys2Proof.Machine.execHoldNop q index s
  | .hold q index => Sys2Proof.Machine.execHold q index s
  | .holdQuiesceExpiry q index => Sys2Proof.Machine.execHoldQuiesceExpiry q index s
  | .holdCapture q index => Sys2Proof.Machine.execHoldCapture q index s
  | .holdDigestDone snapshot => Sys2Proof.Machine.execHoldDigestDone snapshot s
  | .resume q index => Sys2Proof.Machine.execResume q index s
  | .drop q index => Sys2Proof.Machine.execDrop q index s
  | .exportParcel q index found => Sys2Proof.Machine.execExportParcel q index found s
  | .importParcel q index found => Sys2Proof.Machine.execImportParcel q index found s
  | .receive q index => Sys2Proof.Machine.execReceive q index s
  | .receiveIdleTimeout q index => Sys2Proof.Machine.execReceiveIdleTimeout q index s
  | .transfer q index => Sys2Proof.Machine.execTransfer q index s
  | .tcpConnect session => Sys2Proof.Machine.execTcpConnect session s
  | .tlsHandshakeDone session client => Sys2Proof.Machine.execTlsHandshakeDone session client s
  | .sessionIdleTimeout session => Sys2Proof.Machine.execSessionIdleTimeout session s
  | .sessionClose session => Sys2Proof.Machine.execSessionClose session s
  | .ipv4Frame => Sys2Proof.Machine.execIpv4Frame s
  | .neighborDiscovery target => Sys2Proof.Machine.execNeighborDiscovery target s
  | .routerAdvertisement networkId => Sys2Proof.Machine.execRouterAdvertisement networkId s
  | .icmpv6Echo payload => Sys2Proof.Machine.execIcmpv6Echo payload s
  | .health m => Sys2Proof.Machine.execHealth m s
  | .telemetry m => Sys2Proof.Machine.execTelemetry m s
  | .faultRead m start count => Sys2Proof.Machine.execFaultRead m start count s
  | .faultAck m head clear => Sys2Proof.Machine.execFaultAck m head clear s
  | .attest m nonce scope ids => Sys2Proof.Machine.execAttest m nonce scope ids s
  | .scrubStatus m => Sys2Proof.Machine.execScrubStatus m s
  | .shutdown m => Sys2Proof.Machine.execShutdown m s
  | .nodeReset m => Sys2Proof.Machine.execNodeReset m s
  | .lockRelease m => Sys2Proof.Machine.execLockRelease m s
  | .lockAcquire m => Sys2Proof.Machine.execLockAcquire m s
  | .lockAcquireForce m => Sys2Proof.Machine.execLockAcquireForce m s
  | .subscribe m on => Sys2Proof.Machine.execSubscribe m on s
  | .enroll m cert role => Sys2Proof.Machine.execEnroll m cert role s
  | .revoke m hash => Sys2Proof.Machine.execRevoke m hash s
  | .joineryKey m key => Sys2Proof.Machine.execJoineryKey m key s
  | .credReset m => Sys2Proof.Machine.execCredReset m s
  | .challenge m random => Sys2Proof.Machine.execChallenge m random s
  | .challengeExpiry => Sys2Proof.Machine.execChallengeExpiry s
  | .token m bytes => Sys2Proof.Machine.execToken m bytes s
  | .reportSigned signature => Sys2Proof.Machine.execReportSigned signature s
  | .perstNAssert => Sys2Proof.Machine.execPerstNAssert s
  | .perstNDeassert => Sys2Proof.Machine.execPerstNDeassert s
  | .hotReset => Sys2Proof.Machine.execHotReset s
  | .flr => Sys2Proof.Machine.execFlr s
  | .d3hotEntry => Sys2Proof.Machine.execD3hotEntry s
  | .bar2Read offset length found => Sys2Proof.Machine.execBar2Read offset length found s
  | .bar2Write offset data found => Sys2Proof.Machine.execBar2Write offset data found s
  | .rcRead via offset size => Sys2Proof.Machine.execRcRead via offset size s
  | .rsLowRead via offset => Sys2Proof.Machine.execRsLowRead via offset s
  | .registerWrite offset size value => Sys2Proof.Machine.execRegisterWrite offset size value s
  | .hostErrcapClear w => Sys2Proof.Machine.execHostErrcapClear w s
  | .faultHeadWrite w => Sys2Proof.Machine.execFaultHeadWrite w s
  | .evtHeadWrite w => Sys2Proof.Machine.execEvtHeadWrite w s
  | .evtRearm index w => Sys2Proof.Machine.execEvtRearm index w s
  | .msixUnmask vector => Sys2Proof.Machine.execMsixUnmask vector s
  | .hostLockAcq w => Sys2Proof.Machine.execHostLockAcq w s
  | .hostLockRel w => Sys2Proof.Machine.execHostLockRel w s
  | .attCtrl w => Sys2Proof.Machine.execAttCtrl w s
  | .syncCmdAdd w => Sys2Proof.Machine.execSyncCmdAdd w s
  | .syncCmdSet w => Sys2Proof.Machine.execSyncCmdSet w s
  | .syncCmdRead w => Sys2Proof.Machine.execSyncCmdRead w s
  | .syncCmdWait w => Sys2Proof.Machine.execSyncCmdWait w s
  | .counterWindowAdd c w => Sys2Proof.Machine.execCounterWindowAdd c w s
  | .tapReset => Sys2Proof.Machine.execTapReset s
  | .extest pins => Sys2Proof.Machine.execExtest pins s
  | .idcode => Sys2Proof.Machine.execIdcode s
  | .samplePreload pins => Sys2Proof.Machine.execSamplePreload pins s
  | .bypass code => Sys2Proof.Machine.execBypass code s
  | .dbg dr => Sys2Proof.Machine.execDbg dr s
  | .regRead => Sys2Proof.Machine.execRegRead s
  | .regWrite => Sys2Proof.Machine.execRegWrite s
  | .dbgChallenge random => Sys2Proof.Machine.execDbgChallenge random s
  | .chalRead => Sys2Proof.Machine.execChalRead s
  | .tokenLoad => Sys2Proof.Machine.execTokenLoad s
  | .tokenSubmit length => Sys2Proof.Machine.execTokenSubmit length s
  | .relock => Sys2Proof.Machine.execRelock s
  | .detach locked => Sys2Proof.Machine.execDetach locked s
  | .detachDeferExpiry => Sys2Proof.Machine.execDetachDeferExpiry s
  | .coreStep => Sys2Proof.Machine.execCoreStep s
  | .coreRun => Sys2Proof.Machine.execCoreRun s
  | .coreRead => Sys2Proof.Machine.execCoreRead s
  | .coreWrite => Sys2Proof.Machine.execCoreWrite s
  | .ctxHalt => Sys2Proof.Machine.execCtxHalt s
  | .ctxStep => Sys2Proof.Machine.execCtxStep s
  | .ctxRun => Sys2Proof.Machine.execCtxRun s
  | .ctxRead => Sys2Proof.Machine.execCtxRead s
  | .ctxWrite => Sys2Proof.Machine.execCtxWrite s
  | .engHalt => Sys2Proof.Machine.execEngHalt s
  | .engRun => Sys2Proof.Machine.execEngRun s
  | .memRead => Sys2Proof.Machine.execMemRead s
  | .memWrite => Sys2Proof.Machine.execMemWrite s
  | .sealBootEntry => Sys2Proof.Machine.execSealBootEntry s
  | .vinHighExcursionEnd mv => Sys2Proof.Machine.execVinHighExcursionEnd mv s
  | .quietSlotAnnounce p len start => Sys2Proof.Machine.execQuietSlotAnnounce p len start s
  | .replayRunDone p => Sys2Proof.Machine.execReplayRunDone p s
  | .unassignedOpcode r code => Sys2Proof.Machine.execUnassignedOpcode r code s
  | .hostUnsupportedRequest kind => Sys2Proof.Machine.execHostUnsupportedRequest kind s
  | .channelRetrainDone st => Sys2Proof.Machine.execChannelRetrainDone st s
  | .freeBlockSweepDone st count => Sys2Proof.Machine.execFreeBlockSweepDone st count s
  | .lexiconResumePoint q index => Sys2Proof.Machine.execLexiconResumePoint q index s
  | .unassignedInstruction c => Sys2Proof.Machine.execUnassignedInstruction c s
  | .lockedSequenceEnd => Sys2Proof.Machine.execLockedSequenceEnd s

end Sys2Proof.Machine
end

