-- ==== Sys2Proof/Machine/Tick.lean ====
section
/-! DEFINITION. What one count of the timebase brings where no command waits: engine time, trap timers, what the ports send of
themselves, events for sessions, and the inputs that waited for delivery (R76, Table 14–8, R214, R419, R649). -/

namespace Sys2Proof

/-- A trap timer counts down once a microsecond while its context runs, down to 1, which TTIMER_EXPIRY takes
to 0 (Table 14–8). (DESIGN CHOICE, log 3.) -/
def Ctx.timerTick (c : Ctx) : Ctx :=
  if c.phase = .running ∧ 1 < c.ttimer.toNat then { c with ttimer := c.ttimer - 1 } else c

end Sys2Proof

namespace Sys2Proof.Machine

/-- Whether the timebase runs: it starts at 0 at entry to SEAL_BOOT and counts through RETENTION (R77). -/
def State.timeRuns (s : State) : Bool := !s.isIn .off

/-- Whether a count completes a microsecond. -/
def microsecond (t : Nat) : Bool := timestampOf (t + 1) / 1000 != timestampOf t / 1000

/-- Deliver one event of a subscribed session's buffer (R649, R650). (DESIGN CHOICE, log 3.) -/
def State.pushEvents (s : State) : State :=
  s.bureau.sessions.foldl (fun u x =>
    match x.buffer with
    | [] => u
    | e :: rest =>
      { u with
        out := u.out ++ [.push x.id (eventItem e.1 e.2.1 e.2.2 x.dropped)]
        bureau.sessions := u.bureau.sessions.map fun y => if y.id = x.id then { y with buffer := rest, dropped := 0 } else y })
    s

/-! ## What the ports do of themselves -/

/-- Whether a port sends IDLE flits of its session now (R214): no replay run, no quiet slot. -/
def Port.idles (v : Port) : Bool :=
  v.hasSession && (v.isUp || v.mode == .training) && v.run.isNone && !v.mute && !v.closed

/-- Ask for a doze, where the node wishes one and has nothing to send (R207). (DESIGN CHOICE, log 127.) -/
def State.wishDoze (s : State) (p : Nat) : State :=
  let v := s.port p
  if !(v.mode == .up && v.doze.isNone && v.quiesce.isNone && v.txq.isEmpty && v.replayBuf.isEmpty) then s else
  match Config.dozeWish s.time p with
  | some (dark, d) =>
    if dozeRange d then (s.setPort p { v with doze := some { dark := dark, d := d, own := true } }).sendVc3 p 0x13 (dozeFields dark d)
    else s
  | none => s

/-- The reason of a LINK_DOWN_PLANNED that waits in a port's transmit queue. -/
def Port.plannedReason (v : Port) : Option Nat :=
  (v.txq.find? fun m => isVc3 0x18 (some m)).map fun m => match m.body with | .vc3 _ f => byteAt f 0 | _ => 0

/-- What port `p` does in one count: an IDLE flit in a free position, in clear in step 6 of training (R186, R214); credit that a
quota withheld goes back (R155, R285); work that waits goes on. A held port that was to send LINK_DOWN_PLANNED ends its session
as if it had (R253). (DESIGN CHOICE, log 3.) -/
def State.portTick (s : State) (p : Nat) : State :=
  let v := s.port p
  if v.mode = .hold then (match v.plannedReason with | none => s | some r => s.forcedDown p r)
  else if v.agreeing && !v.hasSession then (s.emit (.flit p (clearFlit 0 []))).updPort p fun w => { w with txPos := w.txPos + 1 }
  else if !v.idles then s
  else
    let s1 := (s.sendIdle p).updPort p fun w => w.releaseQuota fun t => !s.withholdsFor t
    ((s1.afterFlit p).dozeStep p).wishDoze p

/-- What every port does, and requests that wait for what has happened since. -/
def State.portsTick (s : State) : State :=
  let s1 := (List.range s.power.part.ports).foldl (fun u p => u.portTick p) s
  if s1.gatesHold then s1 else (if s1.fabric.parked.isEmpty then s1 else s1.retry).assignAll

/-- One count of the timebase. (DESIGN CHOICE, log 3.) -/
def State.tick (s : State) : State :=
  if !s.timeRuns then s else
  let s1 := if microsecond s.time then { s with ctxs := s.ctxs.mapVals Ctx.timerTick {} } else s
  ({ s1.chargeTime with time := s.time + 1 }.portsTick).pushEvents

/-! ## Inputs that waited for delivery (R306, R321) -/

/-- The first of the inputs that wait, once delivery goes on; with none, the first host access that waited behind a host write
(R671). (DESIGN CHOICE, log 105.) -/
def State.nextHeld (s : State) : Option Instr :=
  if s.gatesHold then none
  else match s.bench.heldIn with
    | c :: _ => some c
    | [] => if s.writeHeld then none else s.host.waiting.head?

/-- The state in which a waiting input is delivered: no other waits before it. -/
def State.noneHeld (s : State) : State :=
  { s with bench := { s.bench with heldIn := [] }, host := if s.bench.heldIn.isEmpty then { s.host with waiting := [] } else s.host }

/-- The inputs that still wait, after the first has been delivered. -/
def State.heldAfter (s : State) (t : State) : State :=
  { t with
    bench := { t.bench with heldIn := s.bench.heldIn.drop 1 ++ t.bench.heldIn }
    host := if s.bench.heldIn.isEmpty then { t.host with waiting := s.host.waiting.drop 1 ++ t.host.waiting } else t.host }

end Sys2Proof.Machine
end

