-- ==== Sys2Proof/Machine/Step.lean ====
section
/-! DEFINITION. One step of the block: the command at the front of the queue; where no command waits, an input whose delivery
was paused, or a tick of the timebase. -/

namespace Sys2Proof.Machine

/-- The state without the command at the front of its queue. -/
def State.rest (s : State) : State := { s with pending := s.pending.drop 1 }

/-- Deliver the input that has waited longest (R306, R321). (DESIGN CHOICE, log 105.) -/
def deliverHeld (c : Instr) (s : State) : Host.Outcome State Fault Refusal :=
  match exec c s.noneHeld with
  | .next t => .next (s.heldAfter t)
  | .fault f => .fault f
  | .refused r => .refused r

/-- Take the command at the front of the queue and run it on the state with the queue's rest; with an empty
queue, deliver an input that waited, or let one count of the timebase pass (R76). (DESIGN CHOICE, log 3, 8 and 105.) -/
def step (s : State) : Host.Outcome State Fault Refusal :=
  match s.pending with
  | [] => match s.nextHeld with
    | none => .next s.tick
    | some c => deliverHeld c s
  | c :: _ => exec c s.rest

/-- The state with the command that a table word spells at the front of its queue; the state itself where the
word spells none. (DESIGN CHOICE, log 7.) -/
def State.withFetchWord (s : State) (nbits w : Nat) : State :=
  match decodeTableWord nbits w with
  | none => s
  | some c => { s with pending := c :: s.pending }

end Sys2Proof.Machine
end

