-- ==== Sys2Proof/WellFormed.lean ====
section
/-! DEFINITION. Which commands are well formed: operands whose lengths and ranges the spec fixes have them. A command that
is not well formed stands for nothing that reaches the node; exec is total on it all the same. -/

namespace Sys2Proof

/-- A host write carries 1 to 8 bytes and a value that they hold. -/
def HostWrite.ok (w : HostWrite) : Bool :=
  decide (1 ≤ w.size) && decide (w.size ≤ 8) && decide (w.value.toNat < 2 ^ (8 * w.size))

/-- A flit is 256 bytes (R212). -/
def Flit.ok (f : Flit) : Bool := decide (f.raw.length = 256)

/-- A training word is 16 bytes (Table 6–2). -/
def wordsOk (words : List (Fin 8 × List Byte)) : Bool := words.all fun w => decide (w.2.length = 16)

/-- A request carries the operand slots that OPSLOTS counts, 16 bytes each, and at least its header's slot (Table 8–1). -/
def Req.ok (r : Req) : Bool := decide (r.ops.length = 16 * r.opslots.toNat) && decide (1 ≤ r.slots)

/-- A SHA-384 is 48 bytes. -/
def digestOk (h : List Byte) : Bool := decide (h.length = 48)

/-- A TLS client's certificate has bytes. -/
def TlsClient.ok : TlsClient → Bool
  | .noCertificate => true
  | .certificate der => !der.isEmpty

/-- Whether a command is well formed. -/
def Instr.wellFormed : Instr → Bool
  | .retainCmd w | .jnyCtrl w | .retireCmd w | .sliceInject _ w | .sliceInjectCancel _ w | .hostDoorbell _ w
  | .hostErrcapClear w | .faultHeadWrite w | .evtHeadWrite w | .evtRearm _ w | .hostLockAcq w | .hostLockRel w | .attCtrl w
  | .syncCmdAdd w | .syncCmdSet w | .syncCmdRead w | .syncCmdWait w | .counterWindowAdd _ w => w.ok
  | .idleFlit _ f | .dataFlit _ f | .nakFlit _ f | .trainFlit _ f => f.ok
  | .trainingStepDone _ _ words => wordsOk words
  | .read r | .write r | .fadd64 r | .cas64 r | .cas128 r | .syncAdd r | .syncSet r | .syncRead r | .syncWait r | .doorbell r
  | .streamRead r | .fabricTokenize r | .fabricDetokenize r | .fabricMaskFetch r | .fabricAdvance r | .fabricAdvanceFetch r
  | .xferAttest r | .xferOffer r | .xferChunk r | .xferCommit r _ | .xferAbort r | .unassignedOpcode r _ => r.ok
  | .challenge _ x | .dbgChallenge x => decide (x.length = 32)
  | .revoke _ h => digestOk h
  | .tlsHandshakeDone _ c => c.ok
  | .bar2Read _ n _ => decide (1 ≤ n)
  | .bar2Write _ data _ => decide (1 ≤ data.length)
  | .rcRead _ _ n | .registerWrite _ n _ => decide (1 ≤ n) && decide (n ≤ 8)
  | .neighborDiscovery a => decide (a.length = 16)
  | .pacePeriod reports => reports.all fun x => decide (x.lowest ≤ 28)
  | .vinApplied _ | .vinUndervolt _ | .vinOvervolt _ | .vinOvRecover _ | .vinHighExcursion _ | .vinHighExcursionEnd _
  | .vinColdLoss | .resetNAssert | .resetNRelease | .powerWarnNAssert | .presenceNRecognised | .presenceWindowExpiry
  | .sealBootEntry | .sealBootDone _ _ | .selfTestDone _ | .memoryTrainDone _ | .startUpBoundExpiry | .nodeResetRestart
  | .thermalLimitReached _ _ | .thermalTripTimer _ _ | .thermalExcursionEnd _ | .paceCeilingTimer _ | .paceCeilingClearTimer
  | .dramCalibration _ _ _ | .placementEvaluation _ _ _ _ _ _ | .blockMoveDone _ _ _ => true
  | .retention _ _ _ | .retentionEntryDone | .wakeLight _ | .ambientCheckExpiry _ _ _ | .wakeTimerExpiry | .wakeHost
  | .retentionExitDone _ _ | .joineryLoad _ _ | .imageCheckDone _ | .applyPoint | .fullApplyDone | .configRequest => true
  | .creditInit _ _ _ _ | .quietReq _ _ _ | .quietAck _ _ _ | .dozeReq _ _ _ | .dozeAck _ _ _ | .dozeRefuse _ _ | .quiesceReq _ | .quiesceDone _
  | .linkDownPlanned _ _ | .kaHello _ _ | .kaCert _ _ | .kaFinish _ _ | .kaBind _ _ _ | .kaBindAck _ _ _ | .kaFail _ _ => true
  | .trainingStepTimeout _ | .trainingRetryPauseExpiry _ | .trainFailTimer _ | .synthLockTimeout _
  | .quietSlotStart _ | .quietSlotEnd _ | .quietDeferralExpiry _ | .quietSlotAnnounce _ _ _ | .floodAssert _
  | .floodDebounceExpiry _ | .laneAlarmAssert _ _ | .laneAlarmClear _ _ | .lossOfSignal _ | .resumeRetrainDone _
  | .graceExpiry _ | .quiesceBoundExpiry _ | .dozeExpiry _ | .darkDozeWake _ | .dozeSearchExpiry _ | .dozeLightWake _
  | .dozeAmbientExpiry _ _ _ | .replayTimerExpiry _ | .nakRepeatExpiry _ | .creditReturnTimer _ | .errorSubwindow _
  | .replayRunDone _ => true
  | .responseReceived _ _ | .outboundTimeout _ _ | .tagQuarantineExpiry _ _ | .notifyDelivery _ _
  | .doorbellNotifyDelivery _ | .memoryOpComplete _ => true
  | .gateOutput _ _ | .skewLimitExpiry _ | .retryDone _ _ | .shadowArrival _ _ | .firstNewClaimOutput | .shadowTimeout
  | .spareConsume _ | .spareStallTimer | .readmit _ _ | .readmitSelftestDone _ | .stateCopyDone _ _ _ | .journalCatchUp => true
  | .patrolRead _ _ | .lapOverdueTimer _ | .retire _ _ _ _ | .retireCopyDone _ _ | .stackChannelLoss _
  | .channelRetrainTimeout _ | .channelRetrainDone _ | .stackSensorsFailed _ | .mirrorBuildDone _ _ | .zeroStampDone _ _
  | .wrapSweepDone _ | .freeBlockSweepDone _ _ | .inject _ _ _ | .injectCancel _ _ => true
  | .commandDispatch _ _ | .commandComplete _ _ | .quantumExpiry _ _ | .copyResumePoint _ _ | .copyNop _ _ | .copy _ _
  | .fill _ _ | .zero _ _ | .convert _ _ | .gather _ _ | .scatter _ _ | .digest _ _ | .sweep _ _ _ => true
  | .sieveNop _ _ | .pload _ _ | .start _ _ | .resetctx _ _ | .sieveUnitDone _ | .ttimerExpiry _ | .overrunKillTimer _
  | .swaitRelease _ | .unassignedInstruction _ => true
  | .aluAdd _ | .aluSub _ | .aluAnd _ | .aluOr _ | .aluXor _ | .aluShl _ | .aluShr _ | .aluSar _ | .aluMul _ | .aluMulhu _
  | .aluSltu _ | .aluSlt _ | .aluMinu _ | .aluMaxu _ | .aluPopcnt _ | .addi _ | .andi _ | .ori _ | .xori _ | .shiShl _
  | .shiShr _ | .shiSar _ | .ldi _ | .beq _ | .bne _ | .bltu _ | .bgeu _ | .blt _ | .bge _ | .jal _ | .jr _ | .sld _ | .sst _
  | .mfsr _ | .mtsr _ | .yield _ | .window _ | .trap _ | .tret _ | .halt _ | .pld _ | .pst _ | .tcfg _ | .trelTiles _
  | .trelAccumulators _ | .tld _ | .tst _ | .tscoreTile _ | .tscoreContiguous _ | .tscoreIndexed _ | .ast _ | .topkSelect _
  | .topkMerge _ | .topkDrain _ | .topkClear _ | .xmov _ | .sadd _ | .sset _ | .sread _ | .swait _ => true
  | .lexNop _ _ | .dictLoad _ _ | .gramLoad _ _ | .unload _ _ | .streamOpen _ _ | .streamClose _ _ | .tokenize _ _
  | .detokenize _ _ | .maskFetch _ _ | .advance _ _ | .advanceFetch _ _ | .gramSet _ _ | .lexiconResumePoint _ _ => true
  | .holdNop _ _ | .hold _ _ | .holdQuiesceExpiry _ _ | .holdCapture _ _ | .holdDigestDone _ | .resume _ _ | .drop _ _
  | .exportParcel _ _ _ | .importParcel _ _ _ | .receive _ _ | .receiveIdleTimeout _ _ | .transfer _ _ => true
  | .tcpConnect _ | .sessionIdleTimeout _ | .sessionClose _ | .ipv4Frame | .routerAdvertisement _ | .icmpv6Echo _ | .health _
  | .telemetry _ | .faultRead _ _ _ | .faultAck _ _ _ | .attest _ _ _ _ | .scrubStatus _ | .shutdown _ | .nodeReset _
  | .lockRelease _ | .lockAcquire _ | .lockAcquireForce _ | .subscribe _ _ | .enroll _ _ _ | .joineryKey _ _ | .credReset _
  | .challengeExpiry | .token _ _ => true
  | .reportSigned sig => decide (sig.length = 96)
  | .perstNAssert | .perstNDeassert | .hotReset | .flr | .d3hotEntry | .rsLowRead _ _ | .msixUnmask _
  | .hostUnsupportedRequest _ => true
  | .tapReset | .extest _ | .idcode | .samplePreload _ | .bypass _ | .dbg _ | .regRead | .regWrite | .chalRead | .tokenLoad
  | .tokenSubmit _ | .relock | .detach _ | .detachDeferExpiry | .lockedSequenceEnd | .coreStep | .coreRun | .coreRead
  | .coreWrite | .ctxHalt | .ctxStep | .ctxRun | .ctxRead | .ctxWrite | .engHalt | .engRun | .memRead | .memWrite => true

end Sys2Proof
end

