-- ==== Sys2Proof/Safety.lean ====
section
/-! DEFINITION. The terms that claims use: what it is for a command to complete, the invariants of a sound state, and
reads of the state that statements compare. -/

namespace Sys2Proof.Machine

/-- A command completes: it answers a next state, and that state is as `P` says. -/
def Completes (c : Instr) (s : State) (P : State → Prop) : Prop := ∃ t, exec c s = .next t ∧ P t

/-- A command has its effect on the state with no more said of it than that it ends in a next state. -/
def Answers (c : Instr) (s : State) : Prop := Completes c s fun _ => True

/-- One byte of a drawer as the memory holds it; an unlisted one is 0. -/
def State.byteOf (s : State) (d off : Nat) : Byte := FMap.get s.mem (addr d off) 0

/-- The code of the event-ring entry at an index, where one was written (Table 19–4). -/
def State.eventAt (s : State) (i : W32) : Option Nat := (s.events.ring.slots.get (i.toNat % 4096) none).map (·.code)

/-- Whether the event ring has room for one more entry (R678). -/
def State.ringRoom (s : State) : Bool := decide (s.events.ring.unread < 4096)

/-- The memory is in its canonical form. -/
def State.memCanonical (s : State) : Prop := Memory.wf s.mem = true

/-- A debug unlock leaves its mark in the stop record, for as long as the node shows it (R137, R618). -/
def State.unlockMarked (s : State) : Prop := s.sec.debug ≠ DebugState.locked → s.power.dbgFlag = true

/-- What every step keeps. -/
def State.Sound (s : State) : Prop := s.memCanonical ∧ s.unlockMarked

/-! ## Delivery of inputs to the benches (R298, R306, R321) -/

/-- Whether an input is delivered at once: no dispute and no kerf pauses delivery and no earlier input waits, or no bench runs.
(DESIGN CHOICE, log 105.) -/
def State.inputsGo (s : State) : Bool := !s.benchesRun || !s.inputsWait

/-- The state in which a delivered input takes its effect: both ACTIVE benches have consumed it and the journal holds it,
where benches run. (DESIGN CHOICE, log 105.) -/
def State.inputOf (s : State) (c : Instr) : State := if s.benchesRun then s.input c else s

/-- Whether a message is read at once: its session is served in role `r` and owes no reply, and it is delivered (R638). -/
def State.listens (s : State) (m : BureauMsg) (r : SessRole) : Bool :=
  s.mgmtUp && !s.owesReply m.session && s.inputsGo &&
  optAny (s.bureau.sessions.find? (·.id == m.session)) fun x => x.role == some r

/-- Whether a Bureau request reaches its own checks: it is read at once, and its bytes are a sound request of type `kind` whose body
says `v` (R637 to R640). -/
def State.hears {α : Type} [BEq α] (s : State) (m : BureauMsg) (r : SessRole) (kind : Nat) (parse : Body → Option α) (v : α) : Bool :=
  s.listens m r && m.read kind parse v == .asks

/-- Whether the host port serves an access of BAR0 at once: its link is up, the block is served, no write holds it up, not
D3hot, and no pause of delivery. -/
def State.hostServed (s : State) : Bool := s.host.linkUp && s.regsUp && !s.hostHeld && !s.host.d3hot && s.inputsGo

/-- Whether an interface's reads of BAR0 are served at once: the host port's, or the management port's while it serves
registers, whatever the host link does (R10, R665). -/
def State.readsServed (s : State) (via : Interface) : Bool :=
  match via with | .host => s.hostServed | .mgmt => s.mgmtUp && s.inputsGo

/-! ## Links -/

/-- Nothing is about to end a port's session in an orderly way: no QUIESCE, and no LINK_DOWN_PLANNED sent or waiting. -/
def Port.openEnded (v : Port) : Bool := v.quiesce.isNone && !v.closed && v.txq.all fun m => !isVc3 0x18 (some m)

/-- A flit passes checks 1 and 2 of Table 7–4 at a port that receives: no codeword under it is lost, and its CRC holds. -/
def State.landsWhole (s : State) (p : Nat) (f : Flit) : Bool :=
  (s.port p).receives && ((s.port p).badUnder f).isEmpty && f.crcOk

/-- The message `m` of DATA flits is the next VC3 message of port `p`, of type `kind`, its fields begin with those that a command
names, and the port receives. -/
def State.dataNext (s : State) (p kind : Nat) (fields : List Byte) (m : RxMsg) : Prop :=
  (s.port p).frontVc3 kind fields = some m ∧ m.train = false ∧ (s.port p).receives = true

/-- The message `m` of TRAIN flits is the next VC3 message of port `p`, of type `kind`, its fields begin with those that a
command names, and the port is in step 6. -/
def State.trainNext (s : State) (p kind : Nat) (fields : List Byte) (m : RxMsg) : Prop :=
  (s.port p).frontVc3 kind fields = some m ∧ m.train = true ∧ (s.port p).agreeing = true

/-! ## Fabric requests -/

/-- The state in which a request `r` of opcode `op`, the command `c`, meets its checks: it has been delivered, and its message
taken out of its port's buffer; the state before, where its message is not in front. -/
def State.arrived (s : State) (c : Instr) (op : Nat) (r : Req) : State :=
  match (s.inputOf c).frontReq op r with
  | none => s
  | some m => (s.inputOf c).takeReq op r m

/-- Whether a request passes what R263, R264 and Table 8–3 ask of it and nothing it waits for precedes it: its source is
bound, it names the node, its tag is free, its channel and format are right, and its lines hold no new damage. -/
def State.accepts (u : State) (op : Nat) (r : Req) : Bool :=
  !u.discards r && u.nodeId r.port.val == some r.dst.toNat && !u.mustQueue op r false true &&
  r.vc.val == channelOf op && !r.resv && (if op < 0x40 then reqFmt op r else xferFmt op r) && r.found.isEmpty

/-- No cell holds damage, and no injection is armed: every read finds what was written. -/
def State.undamaged (s : State) : Prop := s.dram.faults = [] ∧ ∀ n, (s.stk n).inject = none

/-- No read can cost the node the stack that it cannot run without (R373): it has more than one, or none is damaged. -/
def State.surviving (s : State) : Prop := s.power.part ≠ .sp1 ∨ s.undamaged

/-- Whether a request reaches what its opcode does from stage 4 on: its port delivers and its session is not about to end, its message
is in front, inputs are delivered, and the checks before pass. -/
def State.admits (s : State) (c : Instr) (op : Nat) (r : Req) : Bool :=
  s.delivers r.port.val && (s.frontReq op r).isSome && s.inputsGo && (s.arrived c op r).accepts op r &&
  (s.port r.port.val).openEnded

/-- The response of the node to a request. -/
def responseTo (op : Nat) (r : Req) (x : Reply) : Msg :=
  { vc := if r.vc = 2 then 2 else 1, slots := slotsOf (ceilDiv x.slot.length 16) x.data.length
    body := .response r.dst.toNat r.src.toNat (op + 128) r.tag.toNat r.drawer.toNat r.offset.toNat x.status x.word x.slot x.data }

/-- A message has left the node on a port, or waits in the port's queue for credit. -/
def State.sends (t : State) (p : Nat) (m : Msg) : Prop := m ∈ (t.port p).txq ∨ ∃ n, .message p n m ∈ t.out

/-- The reply of the node to a Bureau request, as the record of outputs holds it. -/
def State.replies (t : State) (m : BureauMsg) (kind : Nat) (st : Status) : Prop :=
  ∃ body, replyTo m.session m.reqId kind st body ∈ t.out

/-! ## Commands of the engine queues -/

/-- The copy command of opcode `op` that runs as (q, i) stands at its beginning, nothing waits for its resume point, and the
drawers that it names are of the tenants under which it was checked (R604). -/
def State.copyStarts (s : State) (q : Nat) (i : W32) (op : Nat) (c : RunCmd) : Prop :=
  s.actor q i clsCopy op = some c ∧ s.mustRest clsCopy c = false ∧ c.progress = 0 ∧ c.gens = []

/-- The command of a class and opcode runs as (q, i), and nothing waits for its resume point. -/
def State.acts (s : State) (q : Nat) (i : W32) (cls op : Nat) (c : RunCmd) : Prop :=
  s.actor q i cls op = some c ∧ s.mustRest cls c = false

/-- As `acts`, for a lexicon command whose drawers are of the tenants under which it was checked (R604). -/
def State.lexActs (s : State) (q : Nat) (i : W32) (op : Nat) (c : RunCmd) : Prop := s.acts q i clsLexicon op c ∧ c.gens = []

end Sys2Proof.Machine

/-! ## Sieve contexts -/

namespace Sys2Proof

/-- Nothing waits for a context's resume point: no stop, pause, halt, preemption or debugger's step, no long instruction
under way, no interrupt enabled and pending; and its count of retired instructions does not wrap. -/
def Ctx.calm (x : Ctx) : Bool :=
  x.long.isNone && x.stopReq.isNone && !x.pauseReq && !x.haltReq && !x.preemptReq && !x.stepReq &&
  !(x.te && x.timerPend) && !(x.xe && x.xmovPend) && decide (x.retired + 1 < 2 ^ 48)

/-- A context after one more instruction retired to an address. -/
def Ctx.retire (x : Ctx) (next : BitVec 16) : Ctx :=
  Ctx.unmask { x with pc := next, win := x.win - 1, retired := x.retired + 1, counted := x.counted + 1 }

/-- A context after a synchronous fault outside every trap, in basic trap mode (R511). -/
def Ctx.trapped (x : Ctx) (cause info : Nat) : Ctx :=
  { x with
    tra := (x.pc &&& 0xFFFC).zeroExtend 64, tstat := x.status, tcause := cause, tinfo := BitVec.ofNat 64 (info % 2 ^ 40)
    ie := false, depth := 1, win := 0, pc := x.trapEntry.truncate 16 &&& 0xFFFC, long := none, saved := x.long :: x.saved }

end Sys2Proof

namespace Sys2Proof.Machine

/-- The word at a context's PC. -/
def State.wordAt (s : State) (c : CtxId) : W32 := (s.ctx c.key).fetch (s.ctx c.key).pc

/-- Context `c` executes an instruction of kind `k` now, and nothing waits for its resume point. (DEDUCED, log 54.) -/
def State.stands (s : State) (c : CtxId) (k : SKind) : Bool :=
  s.executes c.key && kindOf (s.wordAt c) == some k && (s.ctx c.key).calm

/-- As `stands`, for an instruction that issues memory operations: its tenant's engines do not stall (Table 8–4). -/
def State.standsMem (s : State) (c : CtxId) (k : SKind) : Bool := s.stands c k && !s.stalls (s.ctx c.key).tenant

/-- No context of an engine waits for it. -/
def State.alone (s : State) (e : Nat) : Bool := (List.range 8).all fun n => !(s.ctx (e * 8 + n)).mayRun

/-- What an ALU instruction that computes `f` of its sources makes of the state: rd, and the retirement. -/
def State.alu (s : State) (c : CtxId) (f : W64 → W64 → W64) : State :=
  s.setCtx c.key (((s.ctx c.key).setReg (fA (s.wordAt c))
    (f ((s.ctx c.key).reg (fB (s.wordAt c))) ((s.ctx c.key).reg (fC (s.wordAt c))))).retire ((s.ctx c.key).pc + 4))

/-- What an instruction of the I format that computes `f` of ra makes of the state. -/
def State.imm (s : State) (c : CtxId) (f : W64 → W64) : State :=
  s.setCtx c.key (((s.ctx c.key).setReg (fA (s.wordAt c)) (f ((s.ctx c.key).reg (fB (s.wordAt c))))).retire ((s.ctx c.key).pc + 4))

/-- What a branch makes of the state: the PC alone, and the retirement. -/
def State.branch (s : State) (c : CtxId) (taken : W64 → W64 → Bool) : State :=
  s.setCtx c.key ((s.ctx c.key).retire
    (if taken ((s.ctx c.key).reg (fA (s.wordAt c))) ((s.ctx c.key).reg (fB (s.wordAt c))) = true then
      (s.ctx c.key).pc + BitVec.ofNat 16 (4 * fImm (s.wordAt c)) else (s.ctx c.key).pc + 4))

/-- The state with context `c` as `x` after its instruction has retired to the next address. -/
def State.retires (s : State) (c : CtxId) (x : Ctx) : State := s.setCtx c.key (x.retire (x.pc + 4))

/-- Health has been evaluated for the state as it stands (R654). (DEDUCED, log 102.) -/
def State.settled (s : State) : Prop := s.triggers = s.events.trig

/-- The debug command of a code waits, debug is served, and no pause of delivery holds it up (R695, R696). -/
def State.commands (s : State) (code : BitVec 8) : Bool := s.dbg.busy && s.dbg.cmd == code && !s.dbgOff && s.inputsGo

/-- The debug command of a code waits, is served, and debug is unlocked. -/
def State.obeys (s : State) (code : BitVec 8) : Bool := s.commands code && s.sec.debug == DebugState.unlocked

end Sys2Proof.Machine
end

