-- ==== Sys2Proof/Certificates/Slice0/Obligations.lean ====
section
/-! DEFINITION. The statements for the provers. A statement is a definition of a proposition; OBLIGATIONS.json lists them.
`Completes c s P` says that exec c s answers a next state and that P holds of it; an equation in P gives every field. -/

open Sys2Proof Sys2Proof.Machine

/-- VIN_APPLIED records VIN and, from OFF with RESET_N high and no overvoltage stop, begins the start-up sequence.
VIN_UNDERVOLT and, with VIN on, VIN_OVERVOLT take the node to OFF, from READY with their causes in the stop record;
VIN_OVERVOLT keeps INPUT_OV for the next start. VIN_OV_RECOVER ends an overvoltage stop and starts the node.
VIN_HIGH_EXCURSION changes no node state and raises INPUT_HIGH once; in OFF it raises nothing, and SEAL_BOOT_ENTRY within the
excursion does; its end re-arms it. VIN_COLD_LOSS clears the stop record and the retirement list. -/
def Obligations.SupplyCommandsMoveTheNode : Prop :=
  (∀ s mv, Completes (.vinApplied mv) s fun t => t.power.vinOn = true ∧ t.power.vinMv = mv ∧
    (s.power.node = .off → s.power.resetLow = false → s.power.ovStopped = false → t.power.starting = true)) ∧
  (∀ s mv, Completes (.vinUndervolt mv) s fun t => t.power.node = .off ∧ t.power.vinOn = false ∧
    (s.power.node = .ready → t.power.stopCause = causeUndervolt)) ∧
  (∀ s mv, s.power.vinOn = true → Completes (.vinOvervolt mv) s fun t => t.power.node = .off ∧ t.power.ovRecord = some mv ∧
    (s.power.node = .ready → t.power.stopCause = causeInputOv)) ∧
  (∀ s mv, s.power.ovStopped = true → Completes (.vinOvRecover mv) s fun t => t.power.ovStopped = false ∧
    t.power.vinMv = mv ∧ (s.power.node = .off → s.power.vinOn = true → s.power.resetLow = false → t.power.starting = true)) ∧
  (∀ s mv, s.power.highRaised = false → s.power.node ≠ .off → s.ringRoom = true → Completes (.vinHighExcursion mv) s fun t =>
    t.power.highExc = true ∧ t.power.highRaised = true ∧ t.power.node = s.power.node ∧
    t.eventAt s.events.ring.tail = some Ev.inputHigh.code) ∧
  (∀ s mv, s.power.highRaised = true ∨ s.power.node = .off → Completes (.vinHighExcursion mv) s fun t =>
    t = { s with power.vinMv := mv, power.highExc := true }) ∧
  (∀ s, s.power.starting = true → s.power.node = .off → s.power.highExc = true → s.power.highRaised = false →
    s.power.ovRecord = none → s.ringRoom = true → Completes .sealBootEntry s fun t =>
    t.power.highRaised = true ∧ t.eventAt s.events.ring.tail = some Ev.inputHigh.code) ∧
  (∀ s mv, Completes (.vinHighExcursionEnd mv) s fun t =>
    t = { s with power.vinMv := mv, power.highExc := false, power.highRaised := false }) ∧
  (∀ s, Completes .vinColdLoss s fun t => t.power.node = .off ∧ t.power.stopCause = 0 ∧ t.power.stopCode = 0 ∧
    t.power.dbgFlag = false ∧ t.power.maxSeq = 0 ∧ (∀ n, (t.stk n).retired = []) ∧ t.sec.lifecycle = s.sec.lifecycle)

/-- RESET_N_ASSERT takes the node to OFF, from READY with cause RESET_N; RESET_N_RELEASE starts it while VIN is in range.
POWER_WARN_N_ASSERT in READY raises POWER_WARN and changes no power state; in RETENTION it is recorded with its
timestamp. PRESENCE_N_RECOGNISED and PRESENCE_WINDOW_EXPIRY open and close the enroller window and change nothing
else. SEAL_BOOT_ENTRY enters SEAL_BOOT with the timestamp at 0, PWR_GOOD high, and the debug state that R618 gives.
NODE_RESET_RESTART starts the node again. -/
def Obligations.ShelfInputsAct : Prop :=
  (∀ s, Completes .resetNAssert s fun t => t.power.node = .off ∧ t.power.resetLow = true ∧
    (s.power.node = .ready → t.power.stopCause = causeResetN)) ∧
  (∀ s, s.power.resetLow = true → Completes .resetNRelease s fun t => t.power.resetLow = false ∧
    (s.power.node = .off → s.power.vinOn = true → s.power.ovStopped = false → t.power.starting = true)) ∧
  (∀ s, s.power.node = .ready → s.power.tripped = false → s.ringRoom = true → s.inputsGo = true →
    Completes .powerWarnNAssert s fun t => t.power = s.power ∧ t.mem = s.mem ∧ t.eventAt s.events.ring.tail = some Ev.powerWarn.code) ∧
  (∀ s r, s.power.node = .retention → s.power.tripped = false → s.power.retention = some r →
    Completes .powerWarnNAssert s fun t =>
      t = { s with power.retention := some { r with warnings := r.warnings ++ [s.ts] } }) ∧
  (∀ s, Completes .presenceNRecognised s fun t => t = { s with bureau.presence := true }) ∧
  (∀ s, Completes .presenceWindowExpiry s fun t => t = { s with bureau.presence := false }) ∧
  (∀ s, s.power.starting = true → s.power.node = .off → Completes .sealBootEntry s fun t =>
    t.power.node = .sealBoot ∧ t.time = 0 ∧ t.power.pwrGood = true ∧ t.power.starting = false ∧ t.power.ovRecord = none ∧
    t.sec.debug = (if s.power.dbgFlag then DebugState.unlockedSincePower else DebugState.locked)) ∧
  (∀ s, s.power.restartDue = true → Completes .nodeResetRestart s fun t => t.power.restartDue = false ∧
    (s.power.node = .off → s.power.vinOn = true → s.power.resetLow = false → s.power.ovStopped = false →
      t.power.starting = true))

/-- SEAL_BOOT_DONE makes a TLS key pair and its certificate, and takes SEAL_BOOT to SELF_TEST with the host link up at the
widest width the cables and the other end allow, unless PERST_N is low, or to FAILED with SEAL_BOOT_FAIL as the failing code. SELF_TEST_DONE with no failures, or with bench C alone failed, enters MEMORY_TRAIN
with A and B ACTIVE, the claim at 1 and no accepted claim, and C SPARE or RETIRED; with two failed benches it enters
FAILED. MEMORY_TRAIN_DONE with no failed stack enters AWAIT_JOINERY with every line zero under tag 0 and no poison.
START_UP_BOUND_EXPIRY takes a start-up state whose bound runs (log 120) to FAILED with BOOT_TIMEOUT. -/
def Obligations.StartUpStatesFollowTheTable : Prop :=
  (∀ s, s.power.node = .sealBoot → Completes (.sealBootDone true true) s fun t =>
    t.power.node = .selfTest ∧ t.host.linkUp = (!s.host.perstLow && s.host.widest != 0) ∧
    (t.host.linkUp = true → t.host.width = s.host.widest) ∧
    t.sec.tlsCert = Config.tlsCertificate t.sec.tlsPublic s.sec.serial) ∧
  (∀ s a b, s.power.node = .sealBoot → (a && b) = false → Completes (.sealBootDone a b) s fun t =>
    t.power.node = .failed ∧ t.power.failCode = Ev.sealBootFail.code) ∧
  (∀ s, s.power.node = .selfTest → s.inputsGo = true → Completes (.selfTestDone []) s fun t => t.power.node = .memoryTrain ∧
    t.bench.roleA = .active ∧ t.bench.roleB = .active ∧ t.bench.roleC = .spare ∧ t.bench.claim = 1 ∧ t.bench.accepted = []) ∧
  (∀ s, s.power.node = .selfTest → s.inputsGo = true → Completes (.selfTestDone [.bench .C]) s fun t =>
    t.power.node = .memoryTrain ∧ t.bench.roleA = .active ∧ t.bench.roleB = .active ∧ t.bench.roleC = .retired ∧
    t.bench.claim = 1) ∧
  (∀ s, s.power.node = .selfTest → s.inputsGo = true → Completes (.selfTestDone [.bench .A, .bench .B]) s fun t =>
    t.power.node = .failed ∧ t.power.failCode = Ev.selftestFail.code) ∧
  (∀ s, s.power.node = .memoryTrain → s.inputsGo = true → Completes (.memoryTrainDone []) s fun t =>
    t.power.node = .awaitJoinery ∧ t.mem = [] ∧ t.dram.tags = [] ∧ t.dram.poison = [] ∧ ∀ n, n < s.power.part.slices → (t.stk n).lost = false) ∧
  (∀ s, s.startUpBounded = true → Completes .startUpBoundExpiry s fun t =>
    t.power.node = .failed ∧ t.power.failCode = Ev.bootTimeout.code ∧ t.mem = [])

/-- PACE_PERIOD in READY leaves a reported domain with no fixed voltage, no thermal limiting and no backlog at the lowest
reported step, at most the ceiling, unless a retired bench holds it at the floor. THERMAL_LIMIT_REACHED lowers the
domain by one step (the model's amount, log 117) and raises THERMAL_LIMIT at the start of an excursion; at the floor, issue
into the domain of a junction is limited. THERMAL_EXCURSION_END ends the excursion of a domain that is held back by nothing,
and changes nothing of one that is. THERMAL_TRIP_TIMER enters FAILED with PWR_GOOD low and memory lost. PACE_CEILING_TIMER
sets the ceiling condition and PACE_CEILING_CLEAR_TIMER clears every one. DRAM_CALIBRATION adds its correction to the
channel of an unfrozen loop. -/
def Obligations.PaceAndThermalCommandsAct : Prop :=
  (∀ s (r : DomainReport), s.power.node = .ready → s.power.tripped = false → s.heldAtFloor r.dom.val = false →
    (s.dom r.dom.val).fixed = none → (s.dom r.dom.val).limiting = false → r.backlog = false → s.inputsGo = true →
    Completes (.pacePeriod [r]) s fun t => (t.dom r.dom.val).volt = min ceilVolt (stepVolt * r.lowest) ∧
      (t.dom r.dom.val).hc = r.hc ∧ (t.dom r.dom.val).junction = r.junction ∧ t.mem = s.mem ∧ t.ports = s.ports) ∧
  (∀ s u temp, s.power.node = .ready → s.power.tripped = false → (s.dom (ThermalUnit.num u)).limiting = false →
    s.ringRoom = true → s.inputsGo = true → Completes (.thermalLimitReached u temp) s fun t =>
      (t.dom u.num).volt = (s.dom u.num).volt - stepVolt ∧ (t.dom u.num).limiting = true ∧
      t.eventAt s.events.ring.tail = some Ev.thermalLimit.code) ∧
  (∀ s (d : Fin 24) temp, s.power.node = .ready → s.power.tripped = false → (s.dom d.val).volt = 0 → s.inputsGo = true →
    Completes (.thermalLimitReached (.domain d) temp) s fun t => (t.dom d.val).volt = 0 ∧ (t.dom d.val).issueLim = true) ∧
  (∀ s (d : Fin 24), (s.dom d.val).limiting = true → s.heldBack d.val = false → s.inputsGo = true →
    Completes (.thermalExcursionEnd d) s fun t => t.dom d.val = { s.dom d.val with limiting := false }) ∧
  (∀ s (d : Fin 24), s.heldBack d.val = true → Completes (.thermalExcursionEnd d) s fun t => t = s) ∧
  (∀ s u temp, s.power.node = .ready → s.power.tripped = false → s.inputsGo = true →
    Completes (.thermalTripTimer u temp) s fun t => t.power.node = .failed ∧ t.power.tripped = true ∧
    t.power.failCode = Ev.thermalTrip.code ∧ t.power.pwrGood = false ∧ t.mem = [] ∧ t.host.linkUp = false) ∧
  (∀ s (d : Fin 24), (s.dom d.val).ceilSince.isSome = true → s.inputsGo = true → Completes (.paceCeilingTimer d) s fun t =>
    t.dom d.val = { s.dom d.val with ceiling := true }) ∧
  (∀ s, (s.domains.any fun e => e.2.ceiling && e.2.ceilSince.isSome) = false → s.inputsGo = true →
    Completes .paceCeilingClearTimer s fun t => ∀ d, (t.dom d).ceiling = false) ∧
  (∀ s (n : Fin 16) (c : Fin 32) x, s.power.node = .ready → (s.stk n.val).lost = false →
    s.loops.dramFreeze.getLsbD n.val = false → s.inputsGo = true → Completes (.dramCalibration n c x) s fun t =>
      (t.stk n.val).calib.get c.val 0 = (s.stk n.val).calib.get c.val 0 + x)

/-- PLACEMENT_EVALUATION, where the measured stacks allow the move, takes one headroom block of the destination and adds
the move to those under way. BLOCK_MOVE_DONE for a move under way that R94 still allows removes it, and from then on the
translation table gives the block of that copy at the move destination; one that R94 no longer allows is abandoned, with the
block where it was. No byte of any drawer and no drawer tag or poison bit changes. -/
def Obligations.PlacementMovesAreBookedAndSwitched : Prop :=
  (∀ s reports d b c (n : Fin 16) p, (s.measure reports).moveAllowed reports d b c n.val p = true → s.inputsGo = true →
    Completes (.placementEvaluation reports d b c n p) s fun t =>
      t.dram.moves = s.dram.moves ++ [{ drawer := d, block := b, copy := c, stack := n.val, phys := p }] ∧
      (t.stk n.val).headroom = ((s.measure reports).stk n.val).headroom - 1 ∧ t.mem = s.mem) ∧
  (∀ s d b c m p, (s.dram.moves.find? fun x => x.drawer == d && x.block == b && x.copy == c) = some m →
    s.place d b c = some p → s.mayMove d b c m.stack = true → s.inputsGo = true →
    Completes (.blockMoveDone d b c) s fun t =>
      m ∉ t.dram.moves ∧ t.place d b c = some (m.stack, m.phys) ∧ t.mem = s.mem ∧ t.dram.tags = s.dram.tags ∧
      t.dram.poison = s.dram.poison) ∧
  (∀ s d b c m p, (s.dram.moves.find? fun x => x.drawer == d && x.block == b && x.copy == c) = some m →
    s.place d b c = some p → s.mayMove d b c m.stack = false → s.inputsGo = true →
    Completes (.blockMoveDone d b c) s fun t =>
      m ∉ t.dram.moves ∧ t.place d b c = some p ∧ t.mem = s.mem ∧ t.dram.tags = s.dram.tags ∧ t.dram.poison = s.dram.poison)

/-- An accepted RETAIN_CMD or RETENTION records the wake timer and the wake ports, and an accepted SHUTDOWN takes its
place. RETENTION_ENTRY_DONE releases the WAITs that ports own with LINK_LOST where work is at rest; on a drained READY
node whose ports have no session it enters RETENTION with the host link down, or OFF with cause SHUTDOWN; while a port still
has one, it waits for the ports' LINK_DOWN_PLANNED. A recognised wake source is recorded: WAKE_LIGHT starts the check of its port, AMBIENT_CHECK_EXPIRY ends it,
WAKE_TIMER_EXPIRY and WAKE_HOST wake at once. RETENTION_EXIT_DONE with every check good enters READY with the host
link up unless PERST_N is low; with the seal processor's ROM or the digest wrong it enters FAILED with SEAL_BOOT_FAIL or
RETAIN_RESTORE_FAIL. -/
def Obligations.RetentionIsEnteredAndLeftAsTheTablesSay : Prop :=
  (∀ s (w : HostWrite), s.hostServed = true → w.size = 8 → s.power.node = .ready → s.lockOpen .host = true →
    s.retentionBarred = false → Completes (.retainCmd w) s fun t =>
      t.power.retention = some { timer := bits w.value.toNat 31 0, mask := s.host.retainPorts } ∧ t.mem = s.mem) ∧
  (∀ s m timer mask, s.hears m .admin kindRetention retentionBody (timer, mask) = true → s.power.node = .ready → s.lockOpen (.session m.session m.reqId) = true →
    s.retentionBarred = false → Completes (.retention m timer mask) s fun t =>
      t.power.retention = some { timer := timer, mask := BitVec.ofNat 32 mask } ∧
      replyTo m.session m.reqId kindRetention .ok [] ∈ t.out) ∧
  (∀ s m, s.hears m .admin kindShutdown noBody () = true → s.inStates true true false = true → Completes (.shutdown m) s fun t =>
    t.power.shutdown = true ∧ t.power.retention = none ∧ replyTo m.session m.reqId kindShutdown .ok [] ∈ t.out) ∧
  (∀ s, s.workDone = true → s.drained = false → s.power.node = .ready → s.power.retention.isSome = true →
    s.inputsGo = true → Completes .retentionEntryDone s fun t =>
      t = (s.inputOf .retentionEntryDone).releaseAll portOwned .linkLost) ∧
  (∀ s r, s.drained = true → s.power.node = .ready → s.power.shutdown = false → s.power.retention = some r →
    s.anySession = false → s.inputsGo = true →
    Completes .retentionEntryDone s fun t => t.power.node = .retention ∧ t.host.linkUp = false ∧
      t.power.retention = some { r with entered := some s.ts } ∧ t.mem = s.mem) ∧
  (∀ s, s.drained = true → s.power.node = .ready → s.power.shutdown = true → s.anySession = false → s.inputsGo = true →
    Completes .retentionEntryDone s fun t => t.power.node = .off ∧ t.power.stopCause = causeShutdown) ∧
  (∀ s, s.drained = true → s.power.node = .ready → s.power.retention.isSome = true →
    (s.inputOf .retentionEntryDone).planLinks.anySession = true → s.inputsGo = true →
    Completes .retentionEntryDone s fun t => t = (s.inputOf .retentionEntryDone).planLinks) ∧
  (∀ s r (p : Fin 32), s.asleep = some r → p.val < s.power.part.ports → r.mask.getLsbD p.val = true →
    r.detectors.getLsbD p.val = false → r.checking = none → Completes (.wakeLight p) s fun t =>
      t = s.setRetention { r with checking := some p.val }) ∧
  (∀ s r (p : Fin 32) b, s.asleep = some r → r.checking = some p.val → Completes (.ambientCheckExpiry p true b) s fun t =>
    t = s.setRetention { r with checking := none, wake := some (.light p.val) }) ∧
  (∀ s r (p : Fin 32), s.asleep = some r → r.checking = some p.val → Completes (.ambientCheckExpiry p false true) s fun t =>
    t.power.node = s.power.node ∧
    t.power.retention = some { r with checking := none, detectors := r.detectors ||| ((1 : W32) <<< p.val) }) ∧
  (∀ s r, s.asleep = some r → r.timer ≠ 0 → Completes .wakeTimerExpiry s fun t =>
    t = s.setRetention { r with wake := some .timer, checking := none }) ∧
  (∀ s r, s.asleep = some r → r.perstSeen = true → Completes .wakeHost s fun t =>
    t = { s.setRetention { r with wake := some .host, checking := none } with host.perstLow := false }) ∧
  (∀ s r w, s.power.retention = some r → r.wake = some w → s.power.node = .retention →
    Completes (.retentionExitDone ⟨true, true⟩ []) s fun t => t.power.node = .ready ∧ t.power.retention = none ∧
      t.host.linkUp = (!s.host.perstLow && s.host.widest != 0) ∧ t.mem = s.mem) ∧
  (∀ s r w, s.power.retention = some r → r.wake = some w → s.power.node = .retention →
    Completes (.retentionExitDone ⟨true, false⟩ []) s fun t => t.power.node = .failed ∧
      t.power.failCode = Ev.retainRestoreFail.code ∧ t.mem = []) ∧
  (∀ s r w, s.power.retention = some r → r.wake = some w → s.power.node = .retention →
    Completes (.retentionExitDone ⟨false, true⟩ []) s fun t => t.power.node = .failed ∧
      t.power.failCode = Ev.sealBootFail.code ∧ t.mem = [])

/-- JNY_CTRL and JOINERY_LOAD, where an image may be submitted, take it for checking, and the node enters APPLYING from
AWAIT_JOINERY. IMAGE_CHECK_DONE on an image with a failing check ends the submission and leaves the joinery in force;
on an accepted one it records the sequence number and the apply begins; a full one accepted in READY takes the node to
APPLYING. APPLY_POINT puts the accepted joinery in force, a delta's once no request past stage 4 waits; a delta apply is then
over, a full apply waits for FULL_APPLY_DONE, which enters READY. CONFIG_REQUEST answers Request Retry Status in SELF_TEST and
is served later; its completion waits while the spare's lag delays completions. -/
def Obligations.JoineryImagesAreTakenCheckedAndApplied : Prop :=
  (∀ s (w : HostWrite), s.hostServed = true → w.size = 8 → s.jny.phase = .idle → s.takesImages = true →
    s.lockOpen .host = true → Completes (.jnyCtrl w) s fun t =>
      t.jny.phase = .checking (FMap.getRun s.jny.staging 0 0 (bits w.value.toNat 24 0)) .host ∧ t.jny.submit = .ok ∧
      (s.power.node = .awaitJoinery → t.power.node = .applying) ∧ t.jny.inForce = s.jny.inForce) ∧
  (∀ s m im, s.hears m .admin kindLoad (bytesBody fun _ => true) im = true → s.takesImages = true → s.lockOpen (.session m.session m.reqId) = true →
    s.jny.phase = .idle → Completes (.joineryLoad m im) s fun t => t.jny.phase = .checking im (.session m.session m.reqId) ∧
      (s.power.node = .awaitJoinery → t.power.node = .applying) ∧ t.jny.inForce = s.jny.inForce) ∧
  (∀ s plan im who r, s.jny.phase = .checking im who → s.closing = false → s.checkImage s.isReady im = some r →
    s.inputsGo = true → Completes (.imageCheckDone plan) s fun t => t.jny.phase = .idle ∧ t.jny.inForce = s.jny.inForce ∧
      t.power.maxSeq = s.power.maxSeq ∧ t.mem = s.mem ∧ (s.power.node = .applying → t.power.node = .awaitJoinery)) ∧
  (∀ s plan im who, s.jny.phase = .checking im who → s.closing = false → s.checkImage s.isReady im = none →
    s.planOk (joineryOf im (imageRecords im).1) plan = true → s.inputsGo = true →
    (s.power.node ≠ .ready ∨ (joineryOf im (imageRecords im).1).isDelta = true) →
    Completes (.imageCheckDone plan) s fun t =>
      t.jny.phase = .accepted im (joineryOf im (imageRecords im).1) plan
        (!(joineryOf im (imageRecords im).1).isDelta) who ∧ t.power.node = s.power.node ∧
      t.power.maxSeq = (joineryOf im (imageRecords im).1).seq ∧ t.jny.inForce = s.jny.inForce) ∧
  (∀ s plan im who, s.jny.phase = .checking im who → s.closing = false → s.checkImage s.isReady im = none →
    s.planOk (joineryOf im (imageRecords im).1) plan = true → s.inputsGo = true →
    s.power.node = .ready → (joineryOf im (imageRecords im).1).isDelta = false → s.ctxs = [] →
    (∀ p, (s.port p).isUp = false ∧ (s.port p).dozes = false) → Completes (.imageCheckDone plan) s fun t =>
      t.jny.phase = .accepted im (joineryOf im (imageRecords im).1) plan true who ∧ t.power.node = .applying ∧
      t.power.maxSeq = (joineryOf im (imageRecords im).1).seq ∧ t.jny.inForce = s.jny.inForce) ∧
  (∀ s im j plan full who, s.jny.phase = .accepted im j plan full who → s.closing = false → s.power.node ≠ .failed →
    (full = true ∨ s.finishParked.reqsWait = false) → s.inputsGo = true →
    Completes .applyPoint s fun t => t.jny.inForce = some j ∧ t.jny.phase = (if full then .applied who else .idle)) ∧
  (∀ s j who, s.jny.phase = .applied who → s.jny.inForce = some j → s.closing = false → s.power.node = .applying →
    s.inputsGo = true → Completes .fullApplyDone s fun t => t.power.node = .ready ∧ t.jny.phase = .idle ∧ t.jny.inForce = some j) ∧
  (∀ s, s.host.linkUp = true → s.power.tripped = false → s.power.node = .selfTest → s.bench.throttled = false →
    Completes .configRequest s fun t => t = s.emit (.hostStatus "CRS")) ∧
  (∀ s, s.host.linkUp = true → s.power.tripped = false → s.power.node = .ready → s.bench.throttled = false →
    Completes .configRequest s fun t => t = s.emit (.hostStatus "served")) ∧
  (∀ s, s.host.linkUp = true → s.power.tripped = false → s.power.node = .ready → s.bench.throttled = true →
    Completes .configRequest s fun t => t = { s with delayed := s.delayed ++ [.hostStatus "served"] })

/-- PATROL_READ on a live stack with no retired block moves its lap on by one line. LAP_OVERDUE_TIMER marks the lap and
raises LAP_OVERDUE once. RETIRE and RETIRE_CMD, accepted, add the retirement to those under way; RETIRE_COPY_DONE with
fitting spares ends it with the unit retired and status OK. STACK_CHANNEL_LOSS and CHANNEL_RETRAIN_DONE mark the
channel; CHANNEL_RETRAIN_TIMEOUT and STACK_SENSORS_FAILED lose the stack. -/
def Obligations.PatrolAndRetirementMaintainTheStacks : Prop :=
  (∀ s (n : Fin 16) found, n.val < s.power.part.slices → (s.stk n.val).lost = false → s.power.node = .ready →
    (s.stk n.val).retired = [] → (s.stk n.val).lapPos + 1 < stackLines → s.inputsGo = true → Completes (.patrolRead n found) s fun t =>
      (t.stk n.val).lapPos = (s.stk n.val).lapPos + 1) ∧
  (∀ s (n : Fin 16), (s.stk n.val).overdue = false → s.patrols n.val = true →
    s.ringRoom = true → s.inputsGo = true → Completes (.lapOverdueTimer n) s fun t => t.stk n.val = { s.stk n.val with overdue := true } ∧
      t.eventAt s.events.ring.tail = some Ev.lapOverdue.code ∧ t.mem = s.mem) ∧
  (∀ s m st b, s.hears m .admin 0x07 retireBody (st, false, b) = true → s.power.node = .ready → s.lockOpen (.session m.session m.reqId) = true →
    s.dram.jobs = [] → st < s.power.part.slices → (s.stk st).lost = false → b < 1048576 →
    (s.stk st).retired.contains b = false → 1 ≤ (s.stk st).spares → Completes (.retire m st false b) s fun t =>
      t.dram.jobs = [{ stack := st, bank := false, unit := b, need := 1, by_ := .session m.session m.reqId }]) ∧
  (∀ s (w : HostWrite), s.hostServed = true → w.size = 8 → s.power.node = .ready → s.lockOpen .host = true →
    s.dram.jobs = [] → bitOf w.value.toNat 4 = false → bits w.value.toNat 3 0 < s.power.part.slices →
    (s.stk (bits w.value.toNat 3 0)).lost = false → bits w.value.toNat 35 16 < 1048576 →
    (s.stk (bits w.value.toNat 3 0)).retired.contains (bits w.value.toNat 35 16) = false →
    1 ≤ (s.stk (bits w.value.toNat 3 0)).spares → Completes (.retireCmd w) s fun t =>
      t.dram.jobs = [{ stack := bits w.value.toNat 3 0, bank := false, unit := bits w.value.toNat 35 16, need := 1, by_ := .host }]) ∧
  (∀ s i j spares, s.dram.jobs[i]? = some j → (s.stk j.stack).sparesFit ((s.stk j.stack).unretired j.bank j.unit) spares = true →
    s.inputsGo = true → Completes (.retireCopyDone i spares) s fun t => j ∉ t.dram.jobs ∧
      (t.stk j.stack).retired = (s.stk j.stack).retired ++ (s.stk j.stack).unretired j.bank j.unit ∧
      t.dram.lastRetire.1 = .ok ∧ t.dram.lastRetire.2.1 = j.stack) ∧
  (∀ s (n : Fin 16), s.stackRuns n.val = true → s.inputsGo = true → Completes (.stackChannelLoss n) s fun t =>
    t.stk n.val = { s.stk n.val with channelOut := true } ∧ t.mem = s.mem) ∧
  (∀ s (n : Fin 16), s.inputsGo = true → Completes (.channelRetrainDone n) s fun t =>
    t.stk n.val = { s.stk n.val with channelOut := false } ∧ t.mem = s.mem) ∧
  (∀ s (n : Fin 16), s.stackRuns n.val = true → (s.stk n.val).channelOut = true → s.inputsGo = true →
    Completes (.channelRetrainTimeout n) s fun t => (t.stk n.val).lost = true) ∧
  (∀ s (n : Fin 16), s.stackRuns n.val = true → s.inputsGo = true →
    Completes (.stackSensorsFailed n) s fun t => (t.stk n.val).lost = true)

/-- WRAP_SWEEP_DONE of a drawer under sweep leaves every byte of that drawer 0 and every byte of every other drawer as it
was, and the drawer is swept no longer. ZERO_STAMP_DONE takes the block from those to stamp. FREE_BLOCK_SWEEP_DONE
lowers the count of blocks that await their sweep, and those that were swept may hold data again. MIRROR_BUILD_DONE with a fitting plan for a degraded drawer puts
the missing copy where the plan says, ends the degradation and changes no byte. -/
def Obligations.StampsSweepsAndMirrorsFinish : Prop :=
  (∀ s d at_, (s.drw d).sweeping = some at_ → s.inputsGo = true → Completes (.wrapSweepDone d) s fun t =>
    (∀ off, off < 2 ^ 40 → t.byteOf d off = 0) ∧ (∀ e off, e ≠ d → off < 2 ^ 40 → t.byteOf e off = s.byteOf e off) ∧
    (t.drw d).sweeping = none) ∧
  (∀ s d b, s.inputsGo = true → Completes (.zeroStampDone d b) s fun t =>
    t = (s.inputOf (.zeroStampDone d b)).setDrw d { s.drw d with unstamped := dropBlock b (s.drw d).unstamped }) ∧
  (∀ s (n : Fin 16) k, s.inputsGo = true → Completes (.freeBlockSweepDone n k) s fun t =>
    t.stk n.val = { s.stk n.val with
      awaiting := (s.stk n.val).awaiting - k, unswept := (s.stk n.val).unswept.drop k } ∧ t.mem = s.mem) ∧
  (∀ s d r plan, s.drawer d = some r → r.mirrored = true → (s.drw d).degraded = true → s.copyComplete r 0 = true →
    s.copyComplete r 1 = false → s.planFits r 1 plan = true → s.inputsGo = true → Completes (.mirrorBuildDone d plan) s fun t =>
      (t.drw d).degraded = false ∧ t.dram.dtt = plan ++ s.dram.dtt.filter (fun e => !(e.drawer == d && e.copy == 1)) ∧
      t.mem = s.mem)

/-- INJECT and SLICE_INJECT on a physical line that exists, with no injection armed on its stack, arm the kind asked for
on that line. INJECT_CANCEL and SLICE_INJECT_CANCEL leave none armed on the stack. -/
def Obligations.InjectionsAreArmedAndCancelled : Prop :=
  (∀ s m kind st l d off, s.hears m .admin 0x0A armBody (some (kind, .physical st l)) = true → s.power.node = .ready →
    s.lockOpen (.session m.session m.reqId) = true → s.aim (.physical st l) = some (st, l, d, off) →
    (s.stk st).inject = none → Completes (.inject m kind (.physical st l)) s fun t =>
      (t.stk st).inject = some (injectKindOf kind, l) ∧ t.mem = s.mem) ∧
  (∀ s m tgt st l d off, s.hears m .admin 0x0A cancelBody (some tgt) = true → s.power.node = .ready →
    s.lockOpen (.session m.session m.reqId) = true → s.aim tgt = some (st, l, d, off) →
    Completes (.injectCancel m tgt) s fun t => (t.stk st).inject = none ∧ t.mem = s.mem) ∧
  (∀ s (n : Fin 16) (w : HostWrite) d off, s.hostServed = true → w.size = 8 → s.power.node = .ready →
    s.lockOpen .host = true → n.val < s.power.part.slices → bitOf w.value.toNat 4 = false → bitOf w.value.toNat 5 = false →
    s.aim (.physical n.val ((s.stk n.val).injAddr.toNat % 2 ^ 30)) = some (n.val, (s.stk n.val).injAddr.toNat % 2 ^ 30, d, off) →
    (s.stk n.val).inject = none → Completes (.sliceInject n w) s fun t =>
      (t.stk n.val).inject = some (injectKindOf (bits w.value.toNat 1 0), (s.stk n.val).injAddr.toNat % 2 ^ 30) ∧
      (t.stk n.val).injStatus = .ok ∧ t.mem = s.mem) ∧
  (∀ s (n : Fin 16) (w : HostWrite), s.hostServed = true → w.size = 8 → s.power.node = .ready → s.lockOpen .host = true →
    n.val < s.power.part.slices → Completes (.sliceInjectCancel n w) s fun t =>
      (t.stk n.val).inject = none ∧ (t.stk n.val).injStatus = .ok ∧ t.mem = s.mem)

/-- GATE_OUTPUT of an input that the bench has consumed, under a claim below the accepted one, only counts a fenced output. One
that agrees with its waiting partner under the accepted claim, outside a dispute, is emitted once and opens no dispute; one
that differs opens a dispute in its retry, and the ACTIVE benches return to before the disputed input. SKEW_LIMIT_EXPIRY on an
active bench output that waits opens a dispute that charges its partner. MEMORY_OP_COMPLETE enters the benches as one more
input and changes nothing else; while delivery is paused it waits. -/
def Obligations.GatesCompareFenceAndDispute : Prop :=
  (∀ s (g : Fin 179) o, s.power.node = .ready → s.bench.made o = true → o.claim.toNat < (s.bench.acceptedAt g.val).toNat →
    Completes (.gateOutput g o) s fun t => t = { s with bench.fenced := satAdd 0xFFFFFFFF s.bench.fenced 1 }) ∧
  (∀ s (g : Fin 179) o m, s.power.node = .ready → s.bench.made o = true → s.bench.acceptedAt g.val = o.claim → s.bench.role o.bench = .active →
    s.bench.wasEmitted g.val o.input o.index = false → s.bench.dispute = none →
    (s.bench.waiting.find? fun x => x.1 == g.val && x.2.input == o.input && x.2.index == o.index && x.2.claim == o.claim &&
      x.2.bench != o.bench && s.bench.role x.2.bench == .active) = some m → m.2.content = o.content →
    Completes (.gateOutput g o) s fun t => t.out = s.out ++ [.emitted g.val o.input o.index o.content o.claim] ∧
      t.bench.wasEmitted g.val o.input o.index = true ∧ t.bench.dispute = none ∧ t.bench.claim = s.bench.claim ∧ t.mem = s.mem) ∧
  (∀ s (g : Fin 179) o m, s.power.node = .ready → s.bench.made o = true → s.bench.acceptedAt g.val = o.claim → s.bench.role o.bench = .active →
    s.bench.wasEmitted g.val o.input o.index = false → s.bench.dispute = none →
    (s.bench.waiting.find? fun x => x.1 == g.val && x.2.input == o.input && x.2.index == o.index && x.2.claim == o.claim &&
      x.2.bench != o.bench && s.bench.role x.2.bench == .active) = some m → m.2.content ≠ o.content →
    Completes (.gateOutput g o) s fun t => t.bench.dispute =
      some { gate := g.val, input := o.input, index := o.index, outA := some m.2, outB := some o, phase := .retry, late := none } ∧
      (s.bench.readmit = none → ∀ i, s.bench.role i = .active → t.bench.taken i = o.input - 1)) ∧
  (∀ s (g : Fin 179) x, s.bench.dispute = none →
    (s.bench.waiting.find? fun y => y.1 == g.val && s.bench.role y.2.bench == .active) = some x →
    Completes (.skewLimitExpiry g) s fun t => t.bench.dispute =
      some { gate := g.val, input := x.2.input, index := x.2.index, outA := some x.2, outB := none, phase := .retry,
             late := s.bench.partner x.2.bench }) ∧
  (∀ s (g : Fin 32), s.power.node = .ready → s.inputsGo = true → Completes (.memoryOpComplete g) s fun t =>
    t = s.input (.memoryOpComplete g)) ∧
  (∀ s (g : Fin 32), s.power.node = .ready → s.inputsGo = false → Completes (.memoryOpComplete g) s fun t =>
    t = { s with bench.heldIn := s.bench.heldIn ++ [.memoryOpComplete g] })

/-- RETRY_DONE with retries that match ends the dispute; with retries that differ and a spare whose shadow has not come,
the dispute waits for the shadow; without a spare the node is FAILED with BENCH_UNRESOLVED. SHADOW_ARRIVAL that agrees
with one side retires the other bench, makes the spare ACTIVE, issues the next claim and begins a kerf; one that
agrees with neither takes the node to FAILED with BENCH_THREEWAY. SHADOW_TIMEOUT takes it to FAILED with
BENCH_UNRESOLVED. FIRST_NEW_CLAIM_OUTPUT ends the kerf. -/
def Obligations.DisputesEndInOneOfTheirOutcomes : Prop :=
  (∀ s d first second, s.bench.dispute = some d → d.phase = .retry → s.bench.retryFits d first second = true →
    retryMatches first second = true → Completes (.retryDone first second) s fun t => t.bench.dispute = none ∧ t.mem = s.mem) ∧
  (∀ s d first second sp, s.bench.dispute = some d → d.phase = .retry → s.bench.retryFits d first second = true →
    retryMatches first second = false → s.bench.claim ≠ lastClaim → s.bench.spare = some sp →
    (s.bench.waiting.find? fun x => x.1 == d.gate && x.2.input == d.input && x.2.index == d.index && x.2.bench == sp) = none →
    Completes (.retryDone first second) s fun t => t = { s with bench.dispute := some { d with phase := .shadow } }) ∧
  (∀ s d first second, s.bench.dispute = some d → d.phase = .retry → s.bench.retryFits d first second = true →
    retryMatches first second = false → s.bench.claim ≠ lastClaim → s.bench.spare = none → Completes (.retryDone first second) s fun t =>
      t.power.node = .failed ∧ t.power.failCode = Ev.benchUnresolved.code) ∧
  (∀ s (g : Fin 179) o d a b, s.bench.spare = some o.bench → s.bench.dispute = some d → d.phase = .shadow →
    s.bench.made o = true → d.gate = g.val → d.input = o.input → d.index = o.index → d.outA = some a → d.outB = some b →
    o.content = a.content → b.bench ≠ o.bench → Completes (.shadowArrival g o) s fun t =>
      t.bench.role b.bench = .retired ∧ t.bench.role o.bench = .active ∧ t.bench.claim = s.bench.claim + 1 ∧
      t.bench.dispute = none ∧ t.bench.kerf = some (b.bench, retiredLasting, s.bench.claim, d.gate)) ∧
  (∀ s (g : Fin 179) o d a b, s.bench.spare = some o.bench → s.bench.dispute = some d → d.phase = .shadow →
    s.bench.made o = true → d.gate = g.val → d.input = o.input → d.index = o.index → d.outA = some a → d.outB = some b →
    o.content ≠ a.content → o.content ≠ b.content → Completes (.shadowArrival g o) s fun t =>
      t.power.node = .failed ∧ t.power.failCode = Ev.benchThreeway.code) ∧
  (∀ s d, s.bench.dispute = some d → d.phase = .shadow → Completes .shadowTimeout s fun t =>
    t.power.node = .failed ∧ t.power.failCode = Ev.benchUnresolved.code) ∧
  (∀ s k, s.bench.kerf = some k → Completes .firstNewClaimOutput s fun t => t.bench.kerf = none ∧
    t.bench.claim = s.bench.claim ∧ t.mem = s.mem)

/-- SPARE_CONSUME takes the next journal input; its lag, in hc from that input's delivery to now, throttles inputs from 1,024
on, and below 768 ends that, whereupon the host completions that waited go. SPARE_STALL_TIMER with inputs left retires the spare. READMIT of a RETIRED bench, accepted, makes it REBUILDING in the first stage;
READMIT_SELFTEST_DONE and STATE_COPY_DONE with equal digests carry it on; JOURNAL_CATCH_UP makes it the SPARE and ends
the re-admission. A failed self-test returns it to RETIRED. -/
def Obligations.TheSpareFollowsAndIsReadmitted : Prop :=
  (∀ s sp e, s.bench.spare = some sp → (s.bench.journal.find? fun x => x.seq == s.bench.taken sp + 1) = some e →
    1024 ≤ s.hcOf sp (s.time - e.at_) → s.bench.throttled = false → Completes (.spareConsume e.seq) s fun t =>
      t.bench = { s.bench.setTaken sp e.seq with lag := s.hcOf sp (s.time - e.at_), throttled := true } ∧ t.mem = s.mem) ∧
  (∀ s sp e, s.bench.spare = some sp → (s.bench.journal.find? fun x => x.seq == s.bench.taken sp + 1) = some e →
    768 ≤ s.hcOf sp (s.time - e.at_) → s.hcOf sp (s.time - e.at_) < 1024 → Completes (.spareConsume e.seq) s fun t =>
      t = { s with bench := { s.bench.setTaken sp e.seq with lag := s.hcOf sp (s.time - e.at_) } }) ∧
  (∀ s sp e, s.bench.spare = some sp → (s.bench.journal.find? fun x => x.seq == s.bench.taken sp + 1) = some e →
    s.hcOf sp (s.time - e.at_) < 768 → Completes (.spareConsume e.seq) s fun t =>
      t.bench = { s.bench.setTaken sp e.seq with lag := s.hcOf sp (s.time - e.at_), throttled := false } ∧
      t.out = s.out ++ s.delayed ∧ t.delayed = [] ∧ t.mem = s.mem) ∧
  (∀ s sp, s.bench.spare = some sp → s.bench.taken sp < s.bench.inputs → Completes .spareStallTimer s fun t =>
    t.bench.role sp = .retired ∧ t.bench.claim = s.bench.claim ∧ t.mem = s.mem) ∧
  (∀ s m b, s.hears m .admin kindReadmit (uintBody (· < 3)) b.num = true → s.power.node = .ready → s.bench.role b = .retired →
    s.benchesBusy = false → s.lockOpen (.session m.session m.reqId) = true →
    Completes (.readmit m b) s fun t => t.bench.role b = .rebuilding ∧
      t.bench.readmit = some { bench := b, stage := 1, session := m.session, reqId := m.reqId }) ∧
  (∀ s r, s.bench.readmit = some r → r.stage = 1 → s.inputsGo = true → Completes (.readmitSelftestDone true) s fun t =>
    t.bench.readmit = some { r with stage := 2 }) ∧
  (∀ s r, s.bench.readmit = some r → r.stage = 1 → s.inputsGo = true → Completes (.readmitSelftestDone false) s fun t =>
    t.bench.readmit = none ∧ t.bench.role r.bench = .retired) ∧
  (∀ s r x, s.bench.readmit = some r → r.stage = 2 → s.inputsGo = true → Completes (.stateCopyDone x x x) s fun t =>
    t.bench.readmit = some { r with stage := 3 }) ∧
  (∀ s r, s.bench.readmit = some r → r.stage = 3 → s.inputsGo = true → Completes .journalCatchUp s fun t =>
    t.bench.readmit = none ∧ t.bench.role r.bench = .spare ∧ t.bench.claim = s.bench.claim)

/-- TRAINING_STEP_DONE ends steps 1 and 2, keeps in step 3 the lanes that its receivers and the peer's mask pass without an
alarm, chooses the width in step 4, begins key agreement in step 5, opens the session with CREDIT_INIT in step 6, and in
step 7 with the credits known brings the port up. TRAINING_STEP_TIMEOUT ends the attempt with the short pause;
TRAINING_RETRY_PAUSE_EXPIRY starts a new attempt on an enabled port without flood. TRAIN_FAIL_TIMER raises TRAIN_FAIL
once. SYNTH_LOCK_TIMEOUT counts the failure and ends a training attempt, or takes an up port to hold. -/
def Obligations.PortTrainingRunsThroughItsSteps : Prop :=
  (∀ s (p : Fin 32) a b, (s.port p.val).mode = .training → (s.port p.val).step = 1 →
    Completes (.trainingStepDone p a b) s fun t =>
      t = (s.setPort p.val { s.port p.val with step := 2, synthFails := 0 }).sendWords p.val 0 0) ∧
  (∀ s (p : Fin 32) a b, (s.port p.val).mode = .training → (s.port p.val).step = 2 →
    Completes (.trainingStepDone p a b) s fun t =>
      t = (s.setPort p.val { s.port p.val with step := 3 }).sendWords p.val (a &&& ~~~(s.port p.val).alarms) 1) ∧
  (∀ s (p : Fin 32) a b, (s.port p.val).mode = .training → (s.port p.val).step = 3 →
    Completes (.trainingStepDone p a b) s fun t => t.port p.val = { s.port p.val with
      step := 4
      passTx := peerMask (heardWords b) &&& ~~~(s.port p.val).alarms
      passRx := a &&& numberedLanes (optAny (s.groupOf p.val) (·.half)) (heardWords b) &&& ~~~(s.port p.val).alarms } ∧
      t.mem = s.mem) ∧
  (∀ s (p : Fin 32) a b g w, (s.port p.val).mode = .training → (s.port p.val).step = 4 → s.groupOf p.val = some g →
    chooseWidth g.fallback g.minWidth ((s.port p.val).passTx &&& (s.port p.val).passRx) = some w →
    Completes (.trainingStepDone p a b) s fun t =>
      t = (s.setPort p.val { s.port p.val with step := 5, width := w.1, lane0 := w.2, half := g.half }).sendWords p.val
        (s.port p.val).passRx 2) ∧
  (∀ s (p : Fin 32) a b, (s.port p.val).mode = .training → (s.port p.val).step = 5 →
    Completes (.trainingStepDone p a b) s fun t => (t.port p.val).step = 6 ∧
      (∃ k, (t.port p.val).ka = some k ∧ k.finished = false ∧ k.finishSent = false) ∧ t.mem = s.mem) ∧
  (∀ s (p : Fin 32) a b k, (s.port p.val).mode = .training → (s.port p.val).step = 6 → (s.port p.val).ka = some k →
    k.finished = true → k.finishSent = true → optAny (s.port p.val).cert (s.identityClash p.val) = false →
    Completes (.trainingStepDone p a b) s fun t => (t.port p.val).step = 7 ∧ (t.port p.val).hasSession = true ∧
      (∃ n, .message p.val n (vc3Msg 0x10 creditInitFields) ∈ t.out) ∧ t.mem = s.mem) ∧
  (∀ s (p : Fin 32) a b, (s.port p.val).mode = .training → (s.port p.val).step = 7 → (s.port p.val).creditInit = true →
    (s.port p.val).txq = [] → (s.port p.val).closed = false → (s.port p.val).quiesce = none →
    Completes (.trainingStepDone p a b) s fun t => (t.port p.val).mode = .up ∧ (t.port p.val).everUp = true ∧
      (t.port p.val).hasSession = (s.port p.val).hasSession ∧ t.mem = s.mem) ∧
  (∀ s (p : Fin 32), (s.port p.val).mode = .training → (s.port p.val).step ≠ 0 → Completes (.trainingStepTimeout p) s fun t =>
    (t.port p.val).mode = .training ∧ (t.port p.val).step = 0 ∧ (t.port p.val).pauseLong = some false ∧
    (t.port p.val).hasSession = false) ∧
  (∀ s (p : Fin 32), (s.port p.val).mode = .training → (s.port p.val).pauseLong.isSome = true →
    (s.port p.val).enabled = true → (s.port p.val).loopFail = false → (s.port p.val).flood = false →
    (s.port p.val).waitFlood = false → Completes (.trainingRetryPauseExpiry p) s fun t =>
      t = s.setPort p.val { s.port p.val with pauseLong := none, step := 1, laser := true, frozen := false }) ∧
  (∀ s (p : Fin 32), (s.port p.val).enabled = true → (s.port p.val).mode = .training → (s.port p.val).everUp = false →
    (s.port p.val).failRaised = false → s.ringRoom = true → Completes (.trainFailTimer p) s fun t =>
      (t.port p.val).failRaised = true ∧ t.eventAt s.events.ring.tail = some Ev.trainFail.code) ∧
  (∀ s (p : Fin 32), (s.port p.val).mode = .training → (s.port p.val).step ≠ 0 → Completes (.synthLockTimeout p) s fun t =>
    (t.port p.val).synthFails = (s.port p.val).synthFails + 1 ∧ (t.port p.val).pauseLong = some false) ∧
  (∀ s (p : Fin 32), (s.port p.val).mode = .up → (s.port p.val).hasSession = true → Completes (.synthLockTimeout p) s fun t =>
    (t.port p.val).synthFails = (s.port p.val).synthFails + 1 ∧ (t.port p.val).mode = .hold)

/-- FLOOD_ASSERT, LANE_ALARM_ASSERT on an active lane and LOSS_OF_SIGNAL take an up port with a session to hold, keeping
its session and replay buffer; FLOOD_DEBOUNCE_EXPIRY starts a training that waited for the light; LANE_ALARM_CLEAR
clears the lane. RESUME_RETRAIN_DONE within grace brings the port up with its session. GRACE_EXPIRY and
QUIESCE_BOUND_EXPIRY end the session. -/
def Obligations.LightAndLanesTakePortsDownAndBack : Prop :=
  (∀ s (p : Fin 32), (s.port p.val).mode = .up → (s.port p.val).hasSession = true → Completes (.floodAssert p) s fun t =>
    (t.port p.val).mode = .hold ∧ (t.port p.val).flood = true ∧ (t.port p.val).hasSession = true ∧
    (t.port p.val).replayBuf = (s.port p.val).replayBuf) ∧
  (∀ s (p : Fin 32), (s.port p.val).waitFlood = true → (s.port p.val).mode = .training → (s.port p.val).enabled = true →
    (s.port p.val).loopFail = false → Completes (.floodDebounceExpiry p) s fun t =>
      t = s.setPort p.val { s.port p.val with flood := false, waitFlood := false, step := 1, laser := true, frozen := false }) ∧
  (∀ s (p : Fin 32), (s.port p.val).waitFlood = false → Completes (.floodDebounceExpiry p) s fun t =>
    t = s.setPort p.val { s.port p.val with flood := false, waitFlood := false }) ∧
  (∀ s (p : Fin 32) (l : Fin 8), (s.port p.val).mode = .up → (s.port p.val).hasSession = true →
    (s.port p.val).activeLanes.getLsbD l.val = true → Completes (.laneAlarmAssert p l) s fun t =>
      (t.port p.val).mode = .hold ∧ (t.port p.val).alarms.getLsbD l.val = true ∧
      (t.port p.val).replayBuf = (s.port p.val).replayBuf) ∧
  (∀ s (p : Fin 32) (l : Fin 8), Completes (.laneAlarmClear p l) s fun t =>
    (t.port p.val).alarms.getLsbD l.val = false ∧ (t.port p.val).mode = (s.port p.val).mode) ∧
  (∀ s (p : Fin 32), (s.port p.val).mode = .up → (s.port p.val).hasSession = true → Completes (.lossOfSignal p) s fun t =>
    (t.port p.val).mode = .hold ∧ (t.port p.val).grace = true ∧ (t.port p.val).replayBuf = (s.port p.val).replayBuf) ∧
  (∀ s (p : Fin 32), (s.port p.val).mode = .hold → (s.port p.val).grace = true → (s.port p.val).flood = false →
    (s.port p.val).alarms &&& (s.port p.val).activeLanes = 0 → (s.port p.val).quiesce = none →
    Completes (.resumeRetrainDone p) s fun t => (t.port p.val).mode = .up ∧ (t.port p.val).awaitNak = true ∧
      (t.port p.val).session = (s.port p.val).session ∧ (t.port p.val).replayBuf = (s.port p.val).replayBuf) ∧
  (∀ s (p : Fin 32), (s.port p.val).grace = true → Completes (.graceExpiry p) s fun t =>
    (t.port p.val).hasSession = false ∧ (t.port p.val).replayBuf = [] ∧ (t.port p.val).grace = false) ∧
  (∀ s (p : Fin 32) z, (s.port p.val).quiesce = some z → z.own = true → Completes (.quiesceBoundExpiry p) s fun t =>
    (t.port p.val).hasSession = false ∧ (t.port p.val).quiesce = none)

/-- QUIET_SLOT_ANNOUNCE within its limits keeps the slot and sends QUIET_REQ; QUIET_SLOT_START starts an acknowledged
slot, and the partner's, once the announced count of flits is reached and not before; QUIET_DEFERRAL_EXPIRY takes an unacknowledged one; QUIET_SLOT_END ends the one that runs. DOZE_EXPIRY of the
side that asked, DARK_DOZE_WAKE and DOZE_LIGHT_WAKE turn the laser on; DOZE_SEARCH_EXPIRY takes the port to hold;
DOZE_AMBIENT_EXPIRY of unmodulated light puts it into dark doze. -/
def Obligations.QuietSlotsAndDozesFollowTheirRules : Prop :=
  (∀ s (p : Fin 32) len start, (s.port p.val).mode = .up → (s.port p.val).quiet = none → (s.port p.val).lastQuiet = none →
    1 ≤ len → len ≤ 8000 → 1024 ≤ start → start ≤ 65535 → Completes (.quietSlotAnnounce p len start) s fun t =>
      (∃ at_, (t.port p.val).quiet = some { len := len, start := start, at_ := at_ }) ∧
      t.sends p.val (vc3Msg 0x11 (leBytes 2 len ++ leBytes 2 start)) ∧ t.mem = s.mem) ∧
  (∀ s (p : Fin 32) q, (s.port p.val).quiet = some q → q.acked = true → q.active = false →
    q.reached (s.port p.val).txPos = true → Completes (.quietSlotStart p) s fun t =>
      t = s.setPort p.val { s.port p.val with quiet := some { q with active := true }, lastQuiet := some s.ts }) ∧
  (∀ s (p : Fin 32) q, (s.port p.val).quiet = some q → q.reached (s.port p.val).txPos = false →
    (s.port p.val).peerQuiet = none → Completes (.quietSlotStart p) s fun t => t = s) ∧
  (∀ s (p : Fin 32) x, (s.port p.val).quiet = none → (s.port p.val).peerQuiet = some x → x.active = false →
    x.reached (s.port p.val).rxPos = true → Completes (.quietSlotStart p) s fun t =>
      t = s.setPort p.val { s.port p.val with peerQuiet := some { x with active := true } }) ∧
  (∀ s (p : Fin 32) q, (s.port p.val).quiet = some q → q.active = true → Completes (.quietSlotEnd p) s fun t =>
    (t.port p.val).quiet = none) ∧
  (∀ s (p : Fin 32) q, (s.port p.val).quiet = some q → q.active = true → (s.port p.val).txq = [] →
    (s.port p.val).closed = false → (s.port p.val).quiesce = none → Completes (.quietSlotEnd p) s fun t => t.mem = s.mem) ∧
  (∀ s (p : Fin 32) q, (s.port p.val).quiet = some q → q.acked = false → q.active = false →
    Completes (.quietDeferralExpiry p) s fun t =>
      t = s.setPort p.val { s.port p.val with quiet := some { q with active := true }, lastQuiet := some s.ts }) ∧
  (∀ s (p : Fin 32) d, (s.port p.val).mode = .doze → (s.port p.val).doze = some d → d.own = true →
    Completes (.dozeExpiry p) s fun t =>
      t = s.setPort p.val { s.port p.val with laser := true, doze := some { d with woken := true } }) ∧
  (∀ s (p : Fin 32) d, (s.port p.val).mode = .darkDoze → (s.port p.val).doze = some d → Completes (.darkDozeWake p) s fun t =>
    t = s.setPort p.val { s.port p.val with laser := true, doze := some { d with woken := true, search := true } }) ∧
  (∀ s (p : Fin 32) d, (s.port p.val).mode = .darkDoze → (s.port p.val).doze = some d → d.search = true →
    (s.port p.val).hasSession = true → Completes (.dozeSearchExpiry p) s fun t => (t.port p.val).mode = .hold) ∧
  (∀ s (p : Fin 32) d, (s.port p.val).mode = .doze → (s.port p.val).doze = some d → Completes (.dozeLightWake p) s fun t =>
    t = s.setPort p.val { s.port p.val with laser := true, doze := some { d with woken := true, lit := true } }) ∧
  (∀ s (p : Fin 32) d, (s.port p.val).mode = .doze → (s.port p.val).doze = some d → d.lit = true →
    Completes (.dozeAmbientExpiry p false true) s fun t => (t.port p.val).mode = .darkDoze ∧ (t.port p.val).laser = false)

/-- On a port whose session is not about to end: an IDLE flit that passes every check records its control counter. A DATA flit
in sequence that its key opens advances the expected number by one, clears the NAK and takes in its slots and messages. A NAK
flit for the oldest unacked flit starts a replay run and ends grace; REPLAY_RUN_DONE ends it. REPLAY_TIMER_EXPIRY starts a
run, and the eighth in a row takes the port to hold. NAK_REPEAT_EXPIRY sends a further NAK. CREDIT_RETURN_TIMER sends a
credit-only flit. ERROR_SUBWINDOW slides the window. A TRAIN flit in step 5 or 6 enters the training buffer. -/
def Obligations.FlitsAreCheckedSequencedAndReplayed : Prop :=
  (∀ s (p : Fin 32) f, s.landsWhole p.val f = true → (s.port p.val).openEnded = true → (s.port p.val).ctrlOk f = true →
    (s.port p.val).rxCtrl < f.ctrl → f.plainCtrl 0 = true →
    Completes (.idleFlit p f) s fun t => (t.port p.val).rxCtrl = f.ctrl ∧ (t.port p.val).expected = (s.port p.val).expected ∧
      t.mem = s.mem) ∧
  (∀ s (p : Fin 32) f plain x, s.landsWhole p.val f = true → (s.port p.val).openEnded = true →
    f.seq = (s.port p.val).expected % 4096 → (s.port p.val).opens f = some plain → f.clean = true → f.typ = 1 →
    (s.port p.val).expected < (s.port p.val).ackSent + 1024 →
    frame ((s.arrives p.val f).port p.val).frameRule (slotsIn plain)
      { part := (s.port p.val).partialMsg, held := (s.port p.val).held, done := [] } = some x →
    Completes (.dataFlit p f) s fun t => (t.port p.val).expected = (s.port p.val).expected + 1 ∧
      (t.port p.val).nak = none ∧ (t.port p.val).partialMsg = x.part ∧ (t.port p.val).held = x.held ∧
      (t.port p.val).rx = (s.port p.val).rx ++ x.done ∧ t.mem = s.mem) ∧
  (∀ s (p : Fin 32) f, s.landsWhole p.val f = true → (s.port p.val).openEnded = true → (s.port p.val).mode = .up →
    (s.port p.val).mute = false → (s.port p.val).ctrlOk f = true → (s.port p.val).rxCtrl < f.ctrl → f.plainCtrl 2 = true →
    (f.ack + 1 + 4096 - ((s.port p.val).nextSeq - (s.port p.val).unacked) % 4096) % 4096 = 0 →
    (s.port p.val).replayBuf ≠ [] → (s.port p.val).run ≠ some (some f.ack) → Completes (.nakFlit p f) s fun t =>
      (t.port p.val).mode = .replay ∧ (t.port p.val).run = some (some f.ack) ∧ (t.port p.val).grace = false) ∧
  (∀ s (p : Fin 32), (s.port p.val).run.isSome = true → (s.port p.val).mode = .replay → (s.port p.val).openEnded = true →
    Completes (.replayRunDone p) s fun t => (t.port p.val).run = none ∧ (t.port p.val).mode = .up) ∧
  (∀ s (p : Fin 32), (s.port p.val).mode = .up → (s.port p.val).mute = false → (s.port p.val).replayBuf ≠ [] →
    (s.port p.val).timeouts < 7 → Completes (.replayTimerExpiry p) s fun t => (t.port p.val).mode = .replay ∧
      (t.port p.val).run = some none ∧ (t.port p.val).timeouts = (s.port p.val).timeouts + 1) ∧
  (∀ s (p : Fin 32), (s.port p.val).mode = .up → (s.port p.val).replayBuf ≠ [] → 7 ≤ (s.port p.val).timeouts →
    (s.port p.val).hasSession = true → Completes (.replayTimerExpiry p) s fun t => (t.port p.val).mode = .hold) ∧
  (∀ s (p : Fin 32), (s.port p.val).receives = true → (s.port p.val).mute = false → (s.port p.val).nak = some true →
    Completes (.nakRepeatExpiry p) s fun t => (t.port p.val).txCtrl = (s.port p.val).txCtrl + 1 ∧
      t.out = s.out ++ [.flit p.val (ctrlFlit ((s.port p.val).keys.getD noKeys) 2 (s.port p.val).txCtrl
        ((s.port p.val).expected + 4095))]) ∧
  (∀ s (p : Fin 32), (s.port p.val).maySend = true → s.withholds p.val 0 = false →
    (s.port p.val).owed = [5, 0, 0, 0] → (s.port p.val).unacked < 1024 → Completes (.creditReturnTimer p) s fun t =>
      (t.port p.val).owed = [0, 0, 0, 0] ∧ (t.port p.val).nextSeq = (s.port p.val).nextSeq + 1) ∧
  (∀ s (p : Fin 32), (s.port p.val).mode = .up → Completes (.errorSubwindow p) s fun t =>
    t = s.setPort p.val { s.port p.val with errWin := (0 :: (s.port p.val).errWin).take 16 }) ∧
  (∀ s (p : Fin 32) f x, (s.port p.val).mode = .training → (s.port p.val).step = 6 →
    ((s.port p.val).badUnder f).isEmpty = true → f.crcOk = true → f.typ = 3 → f.plainTrain = true →
    frame ((s.arrives p.val f).port p.val).trainRule f.clearSlots
      { part := (s.port p.val).partialMsg, held := [0, 0, 0, (s.port p.val).trainSlots], done := [] } = some x →
    x.held.take 3 = [0, 0, 0] → Completes (.trainFlit p f) s fun t =>
      (t.port p.val).partialMsg = x.part ∧ (t.port p.val).trainSlots = x.held.getD 3 0 ∧
      (t.port p.val).rx = (s.port p.val).rx ++ x.done)

/-- With the message that the command's operands name next in a port that receives: CREDIT_INIT with large enough buffers sets the credits; QUIET_REQ in range is
granted and kept, QUIET_ACK acknowledges the slot it names; DOZE_REQ on an idle port is accepted, DOZE_ACK starts the doze
that the node asked for, DOZE_REFUSE drops the request; QUIESCE_REQ puts the port in QUIESCE and QUIESCE_DONE records that
the peer is done; LINK_DOWN_PLANNED ends the session. With no VC3 message in front each of them changes nothing. -/
def Obligations.LinkMessagesAreTaken : Prop :=
  (∀ s (p : Fin 32) (vc0 vc1 vc2 : BitVec 16) m,
    s.dataNext p.val 0x10 (leBytes 2 vc0.toNat ++ leBytes 2 vc1.toNat ++ leBytes 2 vc2.toNat) m → (s.port p.val).creditInit = false → 272 ≤ field m.fields 0 2 →
    272 ≤ field m.fields 2 2 → 16 ≤ field m.fields 4 2 → Completes (.creditInit p vc0 vc1 vc2) s fun t =>
      (t.port p.val).creditInit = true ∧ (t.port p.val).credits =
        [field m.fields 0 2, field m.fields 2 2, field m.fields 4 2, (s.port p.val).credits.getD 3 0]) ∧
  (∀ s (p : Fin 32) (len start : BitVec 16) m, s.dataNext p.val 0x11 (slotFields len start) m → 1 ≤ field m.fields 0 2 → field m.fields 0 2 ≤ 8000 →
    1024 ≤ field m.fields 2 2 → Completes (.quietReq p len start) s fun t => (t.port p.val).peerQuiet =
      some { len := field m.fields 0 2, start := field m.fields 2 2, at_ := some (m.pos + field m.fields 2 2), acked := true } ∧
      t.sends p.val (vc3Msg 0x12 (sub m.fields 0 4))) ∧
  (∀ s (p : Fin 32) (len start : BitVec 16) m q, s.dataNext p.val 0x12 (slotFields len start) m → (s.port p.val).openEnded = true → (s.port p.val).quiet = some q →
    q.len = field m.fields 0 2 → q.start = field m.fields 2 2 → Completes (.quietAck p len start) s fun t =>
      ∃ at_, (t.port p.val).quiet = some { q with acked := true, at_ := at_ }) ∧
  (∀ s (p : Fin 32) (kind : BitVec 8) (d : BitVec 32) m, s.dataNext p.val 0x13 (dozeSpelt kind d) m → byteAt m.fields 0 ≤ 1 → (s.port p.val).replayBuf = [] →
    (s.port p.val).txq = [] → dozeRange (field m.fields 2 4) = true → Completes (.dozeReq p kind d) s fun t =>
      (t.port p.val).doze = some { dark := byteAt m.fields 0 == 1, d := field m.fields 2 4, own := false } ∧
      t.sends p.val (vc3Msg 0x14 (dozeFields (byteAt m.fields 0 == 1) (field m.fields 2 4)))) ∧
  (∀ s (p : Fin 32) (kind : BitVec 8) (dur : BitVec 32) m d, s.dataNext p.val 0x14 (dozeSpelt kind dur) m → (s.port p.val).mode = .up → (s.port p.val).mute = false →
    (s.port p.val).txq = [] → (s.port p.val).doze = some d → d.own = true → d.begun = false →
    d.dark = (byteAt m.fields 0 == 1) → d.d = field m.fields 2 4 →
    Completes (.dozeAck p kind dur) s fun t => (t.port p.val).dozes = true ∧ (t.port p.val).laser = false) ∧
  (∀ s (p : Fin 32) (reason : BitVec 8) m d, s.dataNext p.val 0x15 [reason] m → (s.port p.val).openEnded = true → (s.port p.val).doze = some d →
    d.own = true → d.begun = false → Completes (.dozeRefuse p reason) s fun t => (t.port p.val).doze = none) ∧
  (∀ s (p : Fin 32) m, s.dataNext p.val 0x16 [] m → (s.port p.val).mode = .up → (s.port p.val).openEnded = true →
    Completes (.quiesceReq p) s fun t => (t.port p.val).mode = .quiesce ∧ (t.port p.val).quiesce.isSome = true) ∧
  (∀ s (p : Fin 32) m z, s.dataNext p.val 0x17 [] m → (s.port p.val).quiesce = some z → z.own = false →
    { s.port p.val with quiesce := none }.openEnded = true → Completes (.quiesceDone p) s fun t =>
      ((t.port p.val).quiesce.bind fun y => y.peerDone) = some (s.port p.val).expected) ∧
  (∀ s (p : Fin 32) (reason : BitVec 8) m, s.dataNext p.val 0x18 [reason] m → Completes (.linkDownPlanned p reason) s fun t =>
    (t.port p.val).hasSession = false ∧ (t.port p.val).replayBuf = []) ∧
  (∀ s (p : Fin 32) (v w x : BitVec 16) (k : BitVec 8) (d : BitVec 32) c, c ∈ [.creditInit p v w x, .quietReq p v w,
      .quietAck p v w, .dozeReq p k d, .dozeAck p k d, .dozeRefuse p k, .quiesceReq p, .quiesceDone p, .linkDownPlanned p k] →
    ((s.port p.val).rx.find? (·.vc == 3)) = none → Completes c s fun t => t = s)

/-- With the message that the command's operands name next in step 6: a sound KA_HELLO with unlike nonces is kept; a KA_CERT whose chain is listed, whose
signature verifies and whose certificate the group allows gives the session's identity, its keys and the node's own KA_FINISH;
a KA_FINISH with the right HMAC finishes; a KA_FAIL ends the attempt with the pause of its reason. In a session, KA_BIND of an
acceptable endpoint of a switched group binds it to the certificate, and KA_BIND_ACK leaves every binding as it is. -/
def Obligations.KeyAgreementMessagesAreTaken : Prop :=
  (∀ s (p : Fin 32) fields m k, s.trainNext p.val 0x01 fields m → (s.port p.val).ka = some k → byteAt m.fields 0 = 1 →
    spelt m.fields 130 = true → k.peerHello = none → sub m.fields 1 32 ≠ k.nonce → Completes (.kaHello p fields) s fun t =>
      (t.port p.val).ka = some { k with peerHello := some (vc3Bytes 0x01 (sub m.fields 0 130)) } ∧
      (t.port p.val).rx = (s.port p.val).rx.erase m ∧ t.mem = s.mem) ∧
  (∀ s (p : Fin 32) fields m k h chain rest, s.trainNext p.val 0x02 fields m → (s.port p.val).ka = some k → k.peerHello = some h →
    chainField m.fields = some (chain, rest) → k.peerCert = none → spelt rest 193 = true →
    (anchors (s.records (·.cas)) chain).isEmpty = false → signedBy (chain.headD []) (sub rest 0 97) (sub rest 97 96) = true →
    s.identityClash p.val (leafHash chain) = false → Completes (.kaCert p fields) s fun t =>
      (t.port p.val).cert = some (leafHash chain) ∧ (t.port p.val).chain = chain ∧ (t.port p.val).keys.isSome = true ∧
      (∃ k1, (t.port p.val).ka = some k1 ∧ k1.finishSent = true ∧ k1.peerCert.isSome = true) ∧ t.mem = s.mem) ∧
  (∀ s (p : Fin 32) fields m k keys, s.trainNext p.val 0x03 fields m → (s.port p.val).ka = some k → (s.port p.val).keys = some keys →
    spelt m.fields 48 = true → k.finished = false →
    sub m.fields 0 48 = sub (hmac384 keys.confirm ((k.transcript).getD [])) 0 48 → Completes (.kaFinish p fields) s fun t =>
      (t.port p.val).ka = some { k with finished := true } ∧ t.mem = s.mem) ∧
  (∀ s (p : Fin 32) (reason : BitVec 8) m, s.trainNext p.val 0x0F [reason] m → Completes (.kaFail p reason) s fun t =>
    (t.port p.val).mode = .training ∧ (t.port p.val).step = 0 ∧
    (t.port p.val).pauseLong = some (authReason (failReason m.fields))) ∧
  (∀ s (p : Fin 32) (e : BitVec 16) rest m ep chain sig, s.dataNext p.val 0x04 (leBytes 2 e.toNat ++ rest) m →
    bindFields m.fields = some (ep, chain, sig) →
    s.mayBind p.val ep chain sig = true → Completes (.kaBind p e rest) s fun t =>
      t.boundCert ep = some (leafHash chain) ∧ t.boundOn ep p.val = true) ∧
  (∀ s (p : Fin 32) (e : BitVec 16) (status : BitVec 8) m, s.dataNext p.val 0x05 (leBytes 2 e.toNat ++ [status]) m → (s.port p.val).openEnded = true →
    Completes (.kaBindAck p e status) s fun t => t.fabric.bindings = s.fabric.bindings ∧
      (t.port p.val).hasSession = (s.port p.val).hasSession ∧ t.mem = s.mem)

/-- For an accepted request that its access checks let through (and, where it writes, whose blocks are writable): READ
changes no byte but what its line checks change and answers what the range holds; WRITE stores its data over the range
and answers OK or POISONED; FADD64 stores old plus WORD modulo 2^64 and answers the old value; CAS64 and CAS128 store
the new operand where the old equals the compared one, nothing else otherwise, and answer the old value. The memory
after is that of the range operations applied to the arrival state. -/
def Obligations.FabricReadsAndWritesMoveBytes : Prop :=
  (∀ s r u, u = s.arrived (.read r) 0x01 r → s.admits (.read r) 0x01 r = true →
    u.access r false r.length.toNat = none →
    s.surviving →
    Completes (.read r) s fun t =>
      t.mem = (u.readRange r.drawer.toNat r.offset.toNat r.length.toNat).1.mem ∧
      t.sends r.port.val (responseTo 0x01 r (u.readRange r.drawer.toNat r.offset.toNat r.length.toNat).2.reply)) ∧
  (∀ s r u v, u = s.arrived (.write r) 0x02 r → s.admits (.write r) 0x02 r = true →
    u.access r true r.length.toNat = none → u.claimRange r.drawer.toNat r.offset.toNat r.length.toNat = some v →
    s.surviving →
    Completes (.write r) s fun t =>
      t.mem = (v.writeRange r.drawer.toNat r.offset.toNat (sub r.data 0 r.length.toNat)).1.mem ∧
      t.sends r.port.val (responseTo 0x02 r
        { status := if (v.writeRange r.drawer.toNat r.offset.toNat (sub r.data 0 r.length.toNat)).2.isSome then .poisoned else .ok })) ∧
  (∀ s r u v x, u = s.arrived (.fadd64 r) 0x03 r → s.admits (.fadd64 r) 0x03 r = true →
    u.access r true 8 = none → u.claimRange r.drawer.toNat r.offset.toNat 8 = some v →
    v.readRange r.drawer.toNat r.offset.toNat 8 = x → x.2.bad = none → s.surviving → Completes (.fadd64 r) s fun t =>
      t.mem = (x.1.writeRange r.drawer.toNat r.offset.toNat (leBytes 8 (leNat x.2.data + r.word.toNat))).1.mem ∧
      t.sends r.port.val (responseTo 0x03 r { status := .ok, word := BitVec.ofNat 64 (leNat x.2.data) })) ∧
  (∀ s r u v x, u = s.arrived (.cas64 r) 0x04 r → s.admits (.cas64 r) 0x04 r = true →
    u.access r true 8 = none → u.claimRange r.drawer.toNat r.offset.toNat 8 = some v →
    v.readRange r.drawer.toNat r.offset.toNat 8 = x → x.2.bad = none → s.surviving → Completes (.cas64 r) s fun t =>
      t.mem = (if leNat x.2.data = r.word.toNat then
        (x.1.writeRange r.drawer.toNat r.offset.toNat (sub r.ops 0 8)).1.mem else x.1.mem) ∧
      t.sends r.port.val (responseTo 0x04 r { status := .ok, word := BitVec.ofNat 64 (leNat x.2.data) })) ∧
  (∀ s r u v x, u = s.arrived (.cas128 r) 0x05 r → s.admits (.cas128 r) 0x05 r = true →
    u.access r true 16 = none → u.claimRange r.drawer.toNat r.offset.toNat 16 = some v →
    v.readRange r.drawer.toNat r.offset.toNat 16 = x → x.2.bad = none → s.surviving → Completes (.cas128 r) s fun t =>
      t.mem = (if x.2.data = sub r.ops 0 16 then
        (x.1.writeRange r.drawer.toNat r.offset.toNat (sub r.ops 16 16)).1.mem else x.1.mem) ∧
      t.sends r.port.val (responseTo 0x05 r { status := .ok, data := x.2.data }))

/-- For an accepted WRITE of 64 bytes at a line boundary of a drawer with a live place for the line and no snapshot that
shares its block, every byte of the line reads after as the data, and every byte of every drawer outside the line
reads as before. -/
def Obligations.WholeLineWriteStoresExactlyItsLine : Prop :=
  ∀ s r u, u = s.arrived (.write r) 0x02 r → s.admits (.write r) 0x02 r = true →
    u.access r true r.length.toNat = none → r.length = 64 → r.data.length = 64 → r.offset.toNat % 64 = 0 →
    u.claimRange r.drawer.toNat r.offset.toNat 64 = some u →
    u.livePlaces r.drawer.toNat (r.offset.toNat / 65536) ≠ [] → Completes (.write r) s fun t =>
      (∀ i, i < 64 → t.byteOf r.drawer.toNat (r.offset.toNat + i) = r.data.getD i 0) ∧
      (∀ d off, off < 2 ^ 40 → ¬ (d = r.drawer.toNat ∧ r.offset.toNat ≤ off ∧ off < r.offset.toNat + 64) →
        t.byteOf d off = s.byteOf d off)

/-- In a state whose health is evaluated: for an accepted request on a counter that the source may use and that no set
freezes: SYNC_ADD below saturation adds WORD, SYNC_SET stores it, SYNC_READ changes no counter or wait, and each
answers OK; SYNC_WAIT above the value registers a wait of the arrival port. An accepted DOORBELL that its source may
ring advances the tail to WORD where the ring has room. An unassigned request opcode is answered FORMAT and changes no
stored byte or counter; an unassigned response opcode is counted as a transport error. -/
def Obligations.FabricCountersAndDoorbellsAct : Prop :=
  (∀ s r u tn, u = s.arrived (.syncAdd r) 0x10 r → s.settled → s.admits (.syncAdd r) 0x10 r = true →
    s.counterTenant r.offset.toNat = some tn → (optAny (s.boundCert r.src.toNat) fun c => s.admitted c tn true) = true →
    s.counterFrozen r.offset.toNat = false → (s.counter r.offset.toNat).sat = false →
    (s.counter r.offset.toNat).value.toNat + r.word.toNat < 2 ^ 64 → Completes (.syncAdd r) s fun t =>
      t.counter r.offset.toNat = { value := (s.counter r.offset.toNat).value + r.word, sat := false } ∧ t.mem = s.mem ∧
      ∃ x, x.status = Status.ok ∧ t.sends r.port.val (responseTo 0x10 r x)) ∧
  (∀ s r u tn, u = s.arrived (.syncSet r) 0x11 r → s.settled → s.admits (.syncSet r) 0x11 r = true →
    s.counterTenant r.offset.toNat = some tn → (optAny (s.boundCert r.src.toNat) fun c => s.admitted c tn true) = true →
    s.counterFrozen r.offset.toNat = false → Completes (.syncSet r) s fun t =>
      t.counter r.offset.toNat = { value := r.word, sat := false } ∧ t.mem = s.mem ∧
      ∃ x, x.status = Status.ok ∧ t.sends r.port.val (responseTo 0x11 r x)) ∧
  (∀ s r u tn, u = s.arrived (.syncRead r) 0x12 r → s.settled → s.admits (.syncRead r) 0x12 r = true →
    s.counterTenant r.offset.toNat = some tn → (optAny (s.boundCert r.src.toNat) fun c => s.admitted c tn false) = true →
    Completes (.syncRead r) s fun t => t.sync = s.sync ∧ t.mem = s.mem ∧
      ∃ x, x.status = Status.ok ∧ x.word = (s.counter r.offset.toNat).value ∧ t.sends r.port.val (responseTo 0x12 r x)) ∧
  (∀ s r u tn, u = s.arrived (.syncWait r) 0x13 r → s.settled → s.admits (.syncWait r) 0x13 r = true →
    s.counterTenant r.offset.toNat = some tn → (optAny (s.boundCert r.src.toNat) fun c => s.admitted c tn false) = true →
    s.counterFrozen r.offset.toNat = false → (s.counter r.offset.toNat).sat = false →
    (s.counter r.offset.toNat).value.toNat < r.word.toNat →
    (match targetOf (sub r.ops 0 16) with | none => true | some x => s.targetOk tn x) = true → s.waitsFree tn 1 = true →
    Completes (.syncWait r) s fun t => t.sync.waits = s.sync.waits ++ [⟨s.sync.nextWait, r.offset.toNat, r.word,
      .port r.port.val, targetOf (sub r.ops 0 16), tn, .waiting, none⟩]) ∧
  (∀ s r u x, u = s.arrived (.doorbell r) 0x18 r → s.admits (.doorbell r) 0x18 r = true →
    s.power.node = .ready → s.range r.offset.toNat = some x → x.ring = r.drawer.toNat →
    (optAny (s.drawer x.ring) fun d => optAny ((s.boundCert r.src.toNat).bind d.entry) id) = true →
    s.queueFrozen r.offset.toNat = false →
    ((r.word.truncate 32 : W32) - (s.queue r.offset.toNat).tail).toNat ≤
      x.depth - ((s.queue r.offset.toNat).tail - (s.queue r.offset.toNat).head).toNat → Completes (.doorbell r) s fun t =>
      (t.queue r.offset.toNat).tail = r.word.truncate 32 ∧ (t.queue r.offset.toNat).head = (s.queue r.offset.toNat).head ∧
      t.sends r.port.val (responseTo 0x18 r { status := .ok })) ∧
  (∀ s r u (code : BitVec 8), u = s.arrived (.unassignedOpcode r code) code.toNat r → s.settled →
    s.delivers r.port.val = true → code.getLsbD 7 = false → (s.frontReq code.toNat r).isSome = true → s.inputsGo = true →
    u.discards r = false → u.mustQueue code.toNat r true true = false → (s.port r.port.val).openEnded = true →
    Completes (.unassignedOpcode r code) s fun t => t.mem = s.mem ∧ t.sync = s.sync ∧
      t.sends r.port.val (responseTo code.toNat r (failReply code.toNat .format))) ∧
  (∀ s r m (code : BitVec 8), s.delivers r.port.val = true → code.getLsbD 7 = true →
    (s.port r.port.val).frontResp = some m → m.opcode = code.toNat → m.request r.port = { r with found := [] } →
    s.inputsGo = true → Completes (.unassignedOpcode r code) s fun t =>
    (t.port r.port.val).errCnt = ((s.port r.port.val).countErr 7).errCnt ∧ t.mem = s.mem)

/-- RESPONSE_RECEIVED that answers an abandoned request of the node ends that request; OUTBOUND_TIMEOUT of one that no
suspension covers quarantines its tag, and ends one that waits for a node ID; TAG_QUARANTINE_EXPIRY frees the tag.
NOTIFY_DELIVERY on a member port that may send gives the endpoint the notification with the value of the counter and marks
the wait as passed; on a dozing port it wakes it. DOORBELL_NOTIFY_DELIVERY rings the queue and frees the wait. -/
def Obligations.OutboundRequestsAndNotificationsEnd : Prop :=
  (∀ s (p : Fin 32) m o, s.delivers p.val = true → (s.port p.val).frontResp = some m → s.inputsGo = true →
    s.answeredBy p.val m = some o → (respFields m.bytes).isSome = true → o.issuer = .abandoned →
    (s.port p.val).openEnded = true → (∀ x ∈ s.fabric.stalled, x.id ≠ o.id) → Completes (.responseReceived p m.bytes) s fun t =>
      (∀ x ∈ t.fabric.outbound, x.id ≠ o.id) ∧ t.mem = s.mem) ∧
  (∀ s (p : Fin 32) (tag : BitVec 12) o, (s.fabric.outbound.find? fun x => x.port == some p.val && x.tag == tag.toNat && x.sent &&
      (s.port p.val).mode != .replay && (s.port p.val).mode != .hold) = some o →
    s.inputsGo = true → o.issuer = .abandoned → (∀ x ∈ s.fabric.stalled, x.id ≠ o.id) →
    Completes (.outboundTimeout (some p) tag.toNat) s fun t =>
      (p.val, tag.toNat, s.ts) ∈ t.fabric.quarantine ∧ (∀ x ∈ t.fabric.outbound, x.id ≠ o.id)) ∧
  (∀ s (id : Nat) o, (s.fabric.outbound.find? fun x => x.id == id && s.awaitsId x) = some o →
    s.inputsGo = true → o.issuer = .abandoned → (∀ x ∈ s.fabric.stalled, x.id ≠ o.id) →
    Completes (.outboundTimeout none id) s fun t =>
      t.fabric.quarantine = s.fabric.quarantine ∧ (∀ x ∈ t.fabric.outbound, x.id ≠ o.id)) ∧
  (∀ s (p : Fin 32) (tag : BitVec 12), Completes (.tagQuarantineExpiry p tag) s fun t =>
    ∀ x ∈ t.fabric.quarantine, ¬ (x.1 = p.val ∧ x.2.1 = tag.toNat)) ∧
  (∀ s (p : Fin 32) id w ep cookie a st, (s.sync.waits.find? (·.id == id)) = some w → w.target = some (.endpoint ep cookie a) →
    w.phase = .pending st → s.boundOn ep p.val = true → s.mayAddress p.val = true → (s.port p.val).hasSession = true →
    (s.port p.val).maySend = true → (s.port p.val).openEnded = true → s.inputsGo = true →
    (s.port p.val).room ⟨2, 3, .notify id ((s.nodeId p.val).getD 0x3FFF) ep w.counter (w.fixed.getD (s.counter w.counter)).value
      (notifySlot a cookie st (w.fixed.getD (s.counter w.counter)).sat)⟩ = true →
    Completes (.notifyDelivery p id) s fun t =>
      .message p.val (s.port p.val).nextSeq ⟨2, 3, .notify id ((s.nodeId p.val).getD 0x3FFF) ep w.counter
        (w.fixed.getD (s.counter w.counter)).value
        (leBytes 8 a.toNat ++ leBytes 4 cookie.toNat ++ leBytes 1 st.code ++
          leBytes 1 (b2n (w.fixed.getD (s.counter w.counter)).sat) ++ leBytes 2 0)⟩ ∈ t.out ∧
      ∃ y ∈ t.sync.waits, y.id = id ∧ y.phase = .passed st p.val (s.port p.val).nextSeq) ∧
  (∀ s (p : Fin 32) id w ep cookie a st, (s.sync.waits.find? (·.id == id)) = some w → w.target = some (.endpoint ep cookie a) →
    w.phase = .pending st → s.boundOn ep p.val = true → s.mayAddress p.val = true → (s.port p.val).hasSession = true →
    (s.port p.val).mode = .doze → Completes (.notifyDelivery p id) s fun t =>
      t = s.setPort p.val (s.port p.val).wakeForWork ∧ (t.port p.val).laser = true ∧ t.sync = s.sync) ∧
  (∀ s id w q tail st x, (s.sync.waits.find? (·.id == id)) = some w → w.target = some (.doorbell q tail) →
    w.phase = .pending st → s.inputsGo = true → s.range q = some x → Completes (.doorbellNotifyDelivery id) s fun t =>
      t.queue q = (if s.queueFrozen q = true then s.queue q else ((s.queue q).bell x.depth tail).1) ∧
      (∀ y ∈ t.sync.waits, y.id ≠ id) ∧ t.mem = s.mem)

/-- HOST_DOORBELL in range of the ring of a host-visible queue moves the tail and nothing else but what the delivery of the
input changes. COMMAND_DISPATCH, at its queue's turn, of a one-slot command that every check lets through puts it on the
engine chosen, moves the dispatch index and the tenant's rotation; one that fails a check ends at once with that check's
status. COMMAND_COMPLETE writes the completion record over the command's slot, performs its ADD, and takes the command off
the queue. QUANTUM_EXPIRY marks a command that runs, where its tenant's class owes time, and a sieve context, and begins a new
quantum; COPY_RESUME_POINT then pauses the marked command with PREEMPTED, and does one unit of a command that nothing
waits for. -/
def Obligations.QueuesRingDispatchAndComplete : Prop :=
  (∀ s (q : BitVec 16) (w : HostWrite) r, s.hostServed = true → s.power.node = .ready → w.size = 4 ∨ w.size = 8 →
    s.range q.toNat = some r → s.hostSees r.ring = true → s.queueFrozen q.toNat = false →
    ((s.queue q.toNat).bell r.depth (w.value.truncate 32)).2 = .ok → Completes (.hostDoorbell q w) s fun t =>
      t = (s.inputOf (.hostDoorbell q w)).setQueue q.toNat ((s.queue q.toNat).bell r.depth (w.value.truncate 32)).1) ∧
  (∀ s (q : BitVec 16) found v r x e, v = (s.inputOf (.commandDispatch q found)).withFound found → s.inputsGo = true →
    v.range q.toNat = some r → v.isDraining = false → v.myTurn q.toNat r = true →
    ((v.queue q.toNat).running.find? fun c => c.phase == .paused && !c.pauseReq) = none →
    x = v.readRange r.ring (r.slotAt q.toNat (v.queue q.toNat).dispatch) 64 → x.2.bad = none → takenSlots x.2.data = 1 →
    v.dispatchable q.toNat x.2.data 1 = true →
    x.1.dispatchCheck r.cls r.tenant x.2.data (x.1.dynLength r.cls r.tenant x.2.data) = none →
    x.1.mustWait r.cls x.2.data = false → x.1.pickEngine r.cls x.2.data = some e →
    Completes (.commandDispatch q found) s fun t => t = ((x.1.served q.toNat r e).addRun q.toNat
      { index := (v.queue q.toNat).dispatch, bytes := x.2.data, slots := 1, engine := e, started := s.ts }).settle) ∧
  (∀ s (q : BitVec 16) found v r x st, v = (s.inputOf (.commandDispatch q found)).withFound found → s.inputsGo = true →
    v.range q.toNat = some r → v.isDraining = false → v.myTurn q.toNat r = true →
    ((v.queue q.toNat).running.find? fun c => c.phase == .paused && !c.pauseReq) = none →
    x = v.readRange r.ring (r.slotAt q.toNat (v.queue q.toNat).dispatch) 64 → x.2.bad = none → takenSlots x.2.data = 1 →
    v.dispatchable q.toNat x.2.data 1 = true →
    x.1.dispatchCheck r.cls r.tenant x.2.data (x.1.dynLength r.cls r.tenant x.2.data) = some st →
    Completes (.commandDispatch q found) s fun t => t = (x.1.addRun q.toNat
      { index := (v.queue q.toNat).dispatch, bytes := x.2.data, slots := 1, engine := 0, phase := .ended, status := st,
        refused := true, started := s.ts }).settle) ∧
  (∀ s (q : BitVec 16) i r c, s.runOf q.toNat i = some c → c.phase = .ended → s.range q.toNat = some r → s.inputsGo = true →
    s.counterFrozen (cmdCounter c.bytes) = false → s.livePlaces r.ring (r.slotAt q.toNat c.index / 65536) ≠ [] →
    r.slotAt q.toNat c.index < 2 ^ 40 → r.ring < 2 ^ 16 → Completes (.commandComplete q i) s fun t =>
      t.runOf q.toNat i = none ∧
      (∀ k, k < 64 → t.byteOf r.ring (r.slotAt q.toNat c.index + k) = (c.record r.depth false s.ts).getD k 0) ∧
      ∃ u : State, t = u.settle ∧ ((cmdNotify c.bytes && !c.refused) = true → s.counterTenant (cmdCounter c.bytes) = some r.tenant →
        (s.counter (cmdCounter c.bytes)).sat = false →
        (s.counter (cmdCounter c.bytes)).value.toNat + cmdAddend c.bytes < 2 ^ 64 →
        (u.counter (cmdCounter c.bytes)).value = (s.counter (cmdCounter c.bytes)).value + BitVec.ofNat 64 (cmdAddend c.bytes))) ∧
  (∀ s (q : BitVec 16) i r c u, u = s.inputOf (.quantumExpiry q i) → s.inputsGo = true → s.range q.toNat = some r →
    s.runOf q.toNat i = some c → r.cls ≠ clsSieve → c.phase = .running → u.owed r.cls r.tenant = true →
    Completes (.quantumExpiry q i) s fun t =>
      t = (u.beginQuantum r.cls c.engine).updRun q.toNat i fun x => { x with preemptReq := true }) ∧
  (∀ s (q : BitVec 16) i r c u x, u = s.inputOf (.quantumExpiry q i) → s.inputsGo = true → s.range q.toNat = some r →
    s.runOf q.toNat i = some c → r.cls = clsSieve →
    x = s.ctx (cmdCtx c.bytes) → x.phase = .running → x.start = some (q.toNat, i) → x.win ≠ 0 →
    Completes (.quantumExpiry q i) s fun t => t = ((u.beginQuantum 1 c.engine).setCtx (cmdCtx c.bytes)
      { x with overrun := true, preemptReq := x.preemptReq || s.sieveOwed (cmdCtx c.bytes) }).boundary (cmdCtx c.bytes)) ∧
  (∀ s (q : BitVec 16) i c u, s.copies q.toNat i = some c → s.mustRest clsCopy c = false →
    s.copyWork q.toNat i c = some u → Completes (.copyResumePoint q i) s fun t => t = (u.resumePoint q.toNat i).settle) ∧
  (∀ s (q : BitVec 16) i c, s.copies q.toNat i = some c → c.stop = none → c.pauseReq = false → c.preemptReq = true →
    s.dbg.engReq = [] → Completes (.copyResumePoint q i) s fun t =>
      t = (s.updRun q.toNat i fun x => { x with phase := .paused, preempted := true, preemptReq := false }).settle)

/-- Of a copy command at its beginning, with nothing waiting for its resume point: COPY_NOP ends OK. COPY within the node,
FILL and ZERO of one page write what they read, the pattern, or zeros over the destination and end with their length
as progress; a remote COPY of one page issues one WRITE and waits. CONVERT of one run writes the converted elements;
GATHER and SCATTER of one element move it through its index; DIGEST of at most 4 KiB writes the SHA-384 of what it
read; SWEEP of one line counts its reads and writes the summary. Poison that a read met marks the command. -/
def Obligations.CopyCommandsDoTheirUnits : Prop :=
  (∀ s (q : BitVec 16) i c, s.copyStarts q.toNat i 0x00 c → Completes (.copyNop q i) s fun t =>
    t = (s.endRun q.toNat i .ok 0 0).settle) ∧
  (∀ s (q : BitVec 16) i c u r x, s.copyStarts q.toNat i 0x01 c → copyRemote c.bytes = false → c.acc = [] →
    0 < lengthAt c.bytes 40 → poolOffset c.bytes 24 % 4096 + lengthAt c.bytes 40 ≤ 4096 →
    s.claimRange (poolDrawer c.bytes 24) (poolOffset c.bytes 24) (lengthAt c.bytes 40) = some u →
    r = u.readRange (poolDrawer c.bytes 16) (poolOffset c.bytes 16) (lengthAt c.bytes 40) →
    x = r.1.writeMasked (poolDrawer c.bytes 24) (poolOffset c.bytes 24) r.2.data r.2.mask →
    Completes (.copy q i) s fun t => t = (x.1.advance q.toNat i (c.note false r.2.bad) (lengthAt c.bytes 40)
      (lengthAt c.bytes 40) (r.2.bad.isSome || x.2) (c.note false r.2.bad).result).settle) ∧
  (∀ s (q : BitVec 16) i c r, s.copyStarts q.toNat i 0x01 c → copyRemote c.bytes = true → c.failed = none → c.sent = 0 →
    0 < lengthAt c.bytes 40 → poolOffset c.bytes 24 % 4096 + lengthAt c.bytes 40 ≤ 4096 →
    s.outRoom (lengthAt c.bytes 40) = true →
    r = s.readRange (poolDrawer c.bytes 16) (poolOffset c.bytes 16) (lengthAt c.bytes 40) → r.2.bad = none →
    Completes (.copy q i) s fun t => t = (((r.1.updRun q.toNat i fun _ =>
      { c with phase := .waiting, progress := 0, sent := lengthAt c.bytes 40 }).issue (.command q.toNat i) 0x02
        (copyEndpoint c.bytes) (poolDrawer c.bytes 24) (poolOffset c.bytes 24) 0 r.2.data 0)).settle) ∧
  (∀ s (q : BitVec 16) i c u x, s.copyStarts q.toNat i 0x02 c → 0 < lengthAt c.bytes 40 →
    poolOffset c.bytes 16 % 4096 + lengthAt c.bytes 40 ≤ 4096 →
    s.claimRange (poolDrawer c.bytes 16) (poolOffset c.bytes 16) (lengthAt c.bytes 40) = some u →
    x = u.writeRange (poolDrawer c.bytes 16) (poolOffset c.bytes 16)
      ((List.range (lengthAt c.bytes 40)).map fun k => (sub c.bytes 24 8).getD (k % 8) 0) →
    Completes (.fill q i) s fun t =>
      t = (x.1.advance q.toNat i c (lengthAt c.bytes 40) (lengthAt c.bytes 40) x.2.isSome 0).settle) ∧
  (∀ s (q : BitVec 16) i c u x, s.copyStarts q.toNat i 0x03 c → 0 < lengthAt c.bytes 40 →
    poolOffset c.bytes 16 % 4096 + lengthAt c.bytes 40 ≤ 4096 →
    s.claimRange (poolDrawer c.bytes 16) (poolOffset c.bytes 16) (lengthAt c.bytes 40) = some u →
    x = u.writeRange (poolDrawer c.bytes 16) (poolOffset c.bytes 16) (List.replicate (lengthAt c.bytes 40) 0) →
    Completes (.zero q i) s fun t =>
      t = (x.1.advance q.toNat i c (lengthAt c.bytes 40) (lengthAt c.bytes 40) x.2.isSome 0).settle) ∧
  (∀ s (q : BitVec 16) i c u r xs out x, s.copyStarts q.toNat i 0x04 c → c.acc = [] → c.result = 0 →
    convSrcMx c.bytes = false → convDstMx c.bytes = false →
    0 < lengthAt c.bytes 40 → lengthAt c.bytes 40 ≤ convertChunk (convDst c.bytes) →
    s.claimRange (poolDrawer c.bytes 24) (poolOffset c.bytes 24) (elemBytes (convDst c.bytes) (lengthAt c.bytes 40)) = some u →
    r = u.readRange (poolDrawer c.bytes 16) (poolOffset c.bytes 16) (elemBytes (convSrc c.bytes) (lengthAt c.bytes 40)) →
    r.2.bad = none → xs = sourceNums (convSrc c.bytes) (lengthAt c.bytes 40) false r.2.data [] →
    out = convertNums (convDst c.bytes) false (convRz c.bytes) xs →
    x = r.1.writeMasked (poolDrawer c.bytes 24) (poolOffset c.bytes 24) out.1
      (List.replicate (elemBytes (convDst c.bytes) (lengthAt c.bytes 40)) false) →
    Completes (.convert q i) s fun t => t = (x.1.advance q.toNat i
      { c with result := BitVec.ofNat 64 (min (2 ^ 32 - 1) out.2.2.1 + 2 ^ 32 * min (2 ^ 32 - 1) out.2.2.2) }
      (lengthAt c.bytes 40) (lengthAt c.bytes 40) x.2
      (BitVec.ofNat 64 (min (2 ^ 32 - 1) out.2.2.1 + 2 ^ 32 * min (2 ^ 32 - 1) out.2.2.2))).settle) ∧
  (∀ s (q : BitVec 16) i c u v ix bad r x, s.copyStarts q.toNat i 0x05 c → c.acc = [] → lengthAt c.bytes 40 = 1 →
    s.claimRange (poolDrawer c.bytes 24) (poolOffset c.bytes 24) (elemSize c.bytes) = some u →
    u.readIndex c.bytes 0 = (v, some ix, bad) →
    v.within (poolDrawer c.bytes 16, poolOffset c.bytes 16 + ix * elemSize c.bytes, elemSize c.bytes) = true →
    r = v.readRange (poolDrawer c.bytes 16) (poolOffset c.bytes 16 + ix * elemSize c.bytes) (elemSize c.bytes) →
    x = r.1.writeMasked (poolDrawer c.bytes 24) (poolOffset c.bytes 24) r.2.data r.2.mask →
    Completes (.gather q i) s fun t => t = (x.1.advance q.toNat i (c.note false r.2.bad) 1 1 (r.2.bad.isSome || x.2)
      (c.note false r.2.bad).result).settle) ∧
  (∀ s (q : BitVec 16) i c u v ix bad r x, s.copyStarts q.toNat i 0x06 c → lengthAt c.bytes 40 = 1 →
    s.readIndex c.bytes 0 = (v, some ix, bad) →
    v.within (poolDrawer c.bytes 24, poolOffset c.bytes 24 + ix * elemSize c.bytes, elemSize c.bytes) = true →
    v.claimRange (poolDrawer c.bytes 24) (poolOffset c.bytes 24 + ix * elemSize c.bytes) (elemSize c.bytes) = some u →
    r = u.readRange (poolDrawer c.bytes 16) (poolOffset c.bytes 16) (elemSize c.bytes) →
    x = r.1.writeMasked (poolDrawer c.bytes 24) (poolOffset c.bytes 24 + ix * elemSize c.bytes) r.2.data r.2.mask →
    Completes (.scatter q i) s fun t =>
      t = (x.1.advance q.toNat i c 1 1 (r.2.bad.isSome || x.2) c.result).settle) ∧
  (∀ s (q : BitVec 16) i c u r x, s.copyStarts q.toNat i 0x07 c → c.acc = [] → 0 < lengthAt c.bytes 40 →
    lengthAt c.bytes 40 ≤ 4096 → s.claimRange (poolDrawer c.bytes 24) (poolOffset c.bytes 24) 48 = some u →
    r = u.readRange (poolDrawer c.bytes 16) (poolOffset c.bytes 16) (lengthAt c.bytes 40) → r.2.bad = none →
    x = r.1.writeRange (poolDrawer c.bytes 24) (poolOffset c.bytes 24) (Config.sha384 r.2.data) →
    Completes (.digest q i) s fun t => t = (x.1.advance q.toNat i { c with acc := r.2.data } (lengthAt c.bytes 40)
      (lengthAt c.bytes 40) x.2.isSome c.result).settle) ∧
  (∀ s (q : BitVec 16) i c found u r x, (s.withFound found).copyStarts q.toNat i 0x08 c → c.acc = [] →
    lengthAt c.bytes 40 = 64 → (s.withFound found).claimRange (poolDrawer c.bytes 24) (poolOffset c.bytes 24) 64 = some u →
    r = u.sweepLine (poolDrawer c.bytes 16) (poolOffset c.bytes 16 / 64) (sweepOf [] s.ts) →
    x = r.1.writeRange (poolDrawer c.bytes 24) (poolOffset c.bytes 24) (r.2.bytes.take 48 ++ leBytes 8 0 ++ leBytes 8 0) →
    Completes (.sweep q i found) s fun t =>
      t = (x.1.advance q.toNat i { c with acc := r.2.bytes } 64 64 false 0).settle)

/-- For a FILL at its beginning whose range is whole lines of one drawer, with a live place for every block and no
snapshot, and nothing waiting for its resume point: the command ends OK with its length as progress; byte k of the
range is byte k mod 8 of the pattern; every byte of every drawer outside the range is as before. -/
def Obligations.FillWritesItsPatternOverTheWholeRange : Prop :=
  ∀ s (q : BitVec 16) i c, s.copyStarts q.toNat i 0x02 c → c.status = .ok → s.hold.snapshots = [] →
    poolOffset c.bytes 16 % 64 = 0 → lengthAt c.bytes 40 % 64 = 0 →
    poolOffset c.bytes 16 + lengthAt c.bytes 40 ≤ 2 ^ 40 →
    (∀ b, b * 65536 < poolOffset c.bytes 16 + lengthAt c.bytes 40 → poolOffset c.bytes 16 < (b + 1) * 65536 →
      s.livePlaces (poolDrawer c.bytes 16) b ≠ []) →
    Completes (.fill q i) s fun t =>
      (∃ d, t.runOf q.toNat i = some d ∧ d.phase = .ended ∧ d.status = .ok ∧
        d.progress = BitVec.ofNat 64 (lengthAt c.bytes 40)) ∧
      (∀ k, k < lengthAt c.bytes 40 → t.byteOf (poolDrawer c.bytes 16) (poolOffset c.bytes 16 + k) =
        (sub c.bytes 24 8).getD (k % 8) 0) ∧
      (∀ d off, off < 2 ^ 40 → ¬ (d = poolDrawer c.bytes 16 ∧ poolOffset c.bytes 16 ≤ off ∧
        off < poolOffset c.bytes 16 + lengthAt c.bytes 40) → t.byteOf d off = s.byteOf d off)

/-- In a context that executes it with nothing waiting for its resume point, each ALU instruction writes to rd (s0
discards it) the function of ra and rb that Table 14–5 gives, moves the PC by 4, counts one more retired instruction
and one less of its window; every other field of the state, memory, every other context and every other register is as
before. -/
def Obligations.AluInstructionsWriteTheirResult : Prop :=
  (∀ s c, s.stands c .aluAdd = true → Completes (.aluAdd c) s fun t => t = s.alu c (fun a b => a + b)) ∧
  (∀ s c, s.stands c .aluSub = true → Completes (.aluSub c) s fun t => t = s.alu c (fun a b => a - b)) ∧
  (∀ s c, s.stands c .aluAnd = true → Completes (.aluAnd c) s fun t => t = s.alu c (fun a b => a &&& b)) ∧
  (∀ s c, s.stands c .aluOr = true → Completes (.aluOr c) s fun t => t = s.alu c (fun a b => a ||| b)) ∧
  (∀ s c, s.stands c .aluXor = true → Completes (.aluXor c) s fun t => t = s.alu c (fun a b => a ^^^ b)) ∧
  (∀ s c, s.stands c .aluShl = true → Completes (.aluShl c) s fun t => t = s.alu c (fun a b => a <<< (b.toNat % 64))) ∧
  (∀ s c, s.stands c .aluShr = true → Completes (.aluShr c) s fun t => t = s.alu c (fun a b => a >>> (b.toNat % 64))) ∧
  (∀ s c, s.stands c .aluSar = true → Completes (.aluSar c) s fun t => t = s.alu c (fun a b => a.sshiftRight (b.toNat % 64))) ∧
  (∀ s c, s.stands c .aluMul = true → Completes (.aluMul c) s fun t => t = s.alu c (fun a b => a * b)) ∧
  (∀ s c, s.stands c .aluMulhu = true → Completes (.aluMulhu c) s fun t => t = s.alu c (fun a b => BitVec.ofNat 64 (a.toNat * b.toNat / 2 ^ 64))) ∧
  (∀ s c, s.stands c .aluSltu = true → Completes (.aluSltu c) s fun t => t = s.alu c (fun a b => if a.toNat < b.toNat then 1 else 0)) ∧
  (∀ s c, s.stands c .aluSlt = true → Completes (.aluSlt c) s fun t => t = s.alu c (fun a b => if a.toInt < b.toInt then 1 else 0)) ∧
  (∀ s c, s.stands c .aluMinu = true → Completes (.aluMinu c) s fun t => t = s.alu c (fun a b => if a.toNat < b.toNat then a else b)) ∧
  (∀ s c, s.stands c .aluMaxu = true → Completes (.aluMaxu c) s fun t => t = s.alu c (fun a b => if a.toNat < b.toNat then b else a)) ∧
  (∀ s c, s.stands c .aluPopcnt = true → fC (s.wordAt c) = 0 → Completes (.aluPopcnt c) s fun t =>
    t = s.alu c fun a _ => BitVec.ofNat 64 ((List.range 64).filter fun i => a.getLsbD i).length)

/-- In a context that executes it with nothing waiting for its resume point: ADDI adds the sign-extended immediate, ANDI,
ORI and XORI combine the zero-extended one, SHI shifts by imm[5:0], LDI replaces one quarter of rd. A branch whose
condition holds goes to PC + 4 × imm modulo 65,536, otherwise to PC + 4; JAL writes the return address and jumps; JR
goes to ra. Nothing else changes but the retirement counts. -/
def Obligations.ImmediatesBranchesAndJumpsAct : Prop :=
  (∀ s c, s.stands c .addi = true → Completes (.addi c) s fun t => t = s.imm c (· + (BitVec.ofNat 16 (fImm (s.wordAt c))).signExtend 64)) ∧
  (∀ s c, s.stands c .andi = true → Completes (.andi c) s fun t => t = s.imm c (· &&& BitVec.ofNat 64 (fImm (s.wordAt c)))) ∧
  (∀ s c, s.stands c .ori = true → Completes (.ori c) s fun t => t = s.imm c (· ||| BitVec.ofNat 64 (fImm (s.wordAt c)))) ∧
  (∀ s c, s.stands c .xori = true → Completes (.xori c) s fun t => t = s.imm c (· ^^^ BitVec.ofNat 64 (fImm (s.wordAt c)))) ∧
  (∀ s c, s.stands c .shiShl = true → wf (s.wordAt c) 15 8 = 0 → Completes (.shiShl c) s fun t => t = s.imm c (· <<< wf (s.wordAt c) 5 0)) ∧
  (∀ s c, s.stands c .shiShr = true → wf (s.wordAt c) 15 8 = 0 → Completes (.shiShr c) s fun t => t = s.imm c (· >>> wf (s.wordAt c) 5 0)) ∧
  (∀ s c, s.stands c .shiSar = true → wf (s.wordAt c) 15 8 = 0 → Completes (.shiSar c) s fun t => t = s.imm c (·.sshiftRight (wf (s.wordAt c) 5 0))) ∧
  (∀ s c, s.stands c .ldi = true → fB (s.wordAt c) < 4 → Completes (.ldi c) s fun t =>
    t = s.retires c ((s.ctx c.key).setReg (fA (s.wordAt c))
      (((s.ctx c.key).reg (fA (s.wordAt c)) &&& ~~~((0xFFFF : W64) <<< (16 * fB (s.wordAt c)))) |||
        (BitVec.ofNat 64 (fImm (s.wordAt c)) <<< (16 * fB (s.wordAt c)))))) ∧
  (∀ s c, s.stands c .beq = true → Completes (.beq c) s fun t => t = s.branch c (fun a b => a == b)) ∧
  (∀ s c, s.stands c .bne = true → Completes (.bne c) s fun t => t = s.branch c (fun a b => a != b)) ∧
  (∀ s c, s.stands c .bltu = true → Completes (.bltu c) s fun t => t = s.branch c (fun a b => decide (a.toNat < b.toNat))) ∧
  (∀ s c, s.stands c .bgeu = true → Completes (.bgeu c) s fun t => t = s.branch c (fun a b => decide (b.toNat ≤ a.toNat))) ∧
  (∀ s c, s.stands c .blt = true → Completes (.blt c) s fun t => t = s.branch c (fun a b => decide (a.toInt < b.toInt))) ∧
  (∀ s c, s.stands c .bge = true → Completes (.bge c) s fun t => t = s.branch c (fun a b => decide (b.toInt ≤ a.toInt))) ∧
  (∀ s c, s.stands c .jal = true → fB (s.wordAt c) = 0 → Completes (.jal c) s fun t =>
    t = s.setCtx c.key (((s.ctx c.key).setReg (fA (s.wordAt c)) (((s.ctx c.key).pc + 4).zeroExtend 64)).retire
      ((s.ctx c.key).pc + BitVec.ofNat 16 (4 * fImm (s.wordAt c))))) ∧
  (∀ s c, s.stands c .jr = true → fA (s.wordAt c) = 0 → fImm (s.wordAt c) = 0 →
    (s.ctx c.key).reg (fB (s.wordAt c)) &&& ~~~(0xFFFC : W64) = 0 → Completes (.jr c) s fun t =>
      t = s.setCtx c.key ((s.ctx c.key).retire (((s.ctx c.key).reg (fB (s.wordAt c))).truncate 16)))

/-- In a context that executes it with nothing waiting for its resume point: SLD and SST at an aligned offset below 4,096
move 8 bytes between rd and scratch; MFSR reads the system register that its number names, MTSR writes it; YIELD with
no other work, or in a window, only retires; WINDOW of 1 to 256 opens a window of that many instructions, of 0 only
retires; TRET in a handler takes STATUS and the PC back; HALT ends the START that runs with OK or ABORTED, its result
ra, its progress the instructions retired, and leaves the context idle. -/
def Obligations.ScratchSystemRegistersAndControlAct : Prop :=
  (∀ s c off, s.stands c .sld = true → off = ((s.ctx c.key).reg (fB (s.wordAt c)) + fSimm (s.wordAt c)).toNat → off % 8 = 0 →
    off < 4096 → Completes (.sld c) s fun t => t = s.retires c ((s.ctx c.key).setReg (fA (s.wordAt c))
      (BitVec.ofNat 64 (leNat (FMap.getRun (s.ctx c.key).scratch 0 off 8))))) ∧
  (∀ s c off, s.stands c .sst = true → off = ((s.ctx c.key).reg (fB (s.wordAt c)) + fSimm (s.wordAt c)).toNat → off % 8 = 0 →
    off < 4096 → Completes (.sst c) s fun t => t = s.retires c { s.ctx c.key with
      scratch := FMap.setRun 0 (s.ctx c.key).scratch off (leBytes 8 ((s.ctx c.key).reg (fA (s.wordAt c))).toNat) }) ∧
  (∀ s c v, s.stands c .mfsr = true → Ctx.sysReg c.key (s.ctx c.key) (fImm (s.wordAt c)) = some v → fB (s.wordAt c) = 0 →
    Completes (.mfsr c) s fun t => t = s.retires c ((s.ctx c.key).setReg (fA (s.wordAt c)) v)) ∧
  (∀ s c, s.stands c .mtsr = true → (Ctx.sysReg c.key (s.ctx c.key) (fImm (s.wordAt c))).isSome = true → fA (s.wordAt c) = 0 →
    ((s.ctx c.key).setSysReg (fImm (s.wordAt c)) ((s.ctx c.key).reg (fB (s.wordAt c)))).calm = true →
    Completes (.mtsr c) s fun t =>
      t = s.retires c ((s.ctx c.key).setSysReg (fImm (s.wordAt c)) ((s.ctx c.key).reg (fB (s.wordAt c))))) ∧
  (∀ s c, s.stands c .yieldOp = true → wf (s.wordAt c) 25 0 = 0 → (s.ctx c.key).win ≠ 0 ∨ s.sieveOwed c.key = false →
    Completes (.yield c) s fun t => t = s.retires c (s.ctx c.key)) ∧
  (∀ s c n, s.stands c .yieldOp = true → wf (s.wordAt c) 25 0 = 0 → (s.ctx c.key).win = 0 → n < 8 → n ≠ c.key % 8 →
    (s.ctx (c.engine.val * 8 + n)).mayRun = true → s.vtime 1 (s.ctx (c.engine.val * 8 + n)).tenant ≤ s.vtime 1 (s.ctx c.key).tenant →
    (∀ n, (s.ctx n).dueInterrupt = none) → Completes (.yield c) s fun t =>
      t.ctx c.key = { (s.ctx c.key).retire ((s.ctx c.key).pc + 4) with phase := .ready } ∧ t.mem = s.mem) ∧
  (∀ s c, s.stands c .window = true → wf (s.wordAt c) 25 9 = 0 → 1 ≤ wf (s.wordAt c) 8 0 → wf (s.wordAt c) 8 0 ≤ 256 →
    (s.ctx c.key).win = 0 → Completes (.window c) s fun t =>
      t = s.retires c { s.ctx c.key with win := wf (s.wordAt c) 8 0 + 1 }) ∧
  (∀ s c, s.stands c .window = true → wf (s.wordAt c) 25 0 = 0 → (s.ctx c.key).win = 0 → Completes (.window c) s fun t =>
    t = s.retires c (s.ctx c.key)) ∧
  (∀ s c y, s.stands c .tret = true → wf (s.wordAt c) 25 0 = 0 → (s.ctx c.key).depth ≠ 0 → (s.ctx c.key).tm = false →
    (s.ctx c.key).saved.head?.join = none → y = { (s.ctx c.key).setStatus (s.ctx c.key).tstat with
      pc := (s.ctx c.key).tra.truncate 16, saved := (s.ctx c.key).saved.drop 1 } → y.calm = true →
    Completes (.tret c) s fun t => t = s.draw.setCtx c.key (y.retire y.pc)) ∧
  (∀ s c q i r, s.stands c .halt = true → wf (s.wordAt c) 20 1 = 0 → (s.ctx c.key).start = some (q, i) → s.runOf q i = some r →
    s.alone c.engine.val = true → Completes (.halt c) s fun t => (t.ctx c.key).phase = .idle ∧ t.runOf q i =
      some (r.finish (if bitOf (s.wordAt c).toNat 0 then .aborted else .ok) (BitVec.ofNat 64 ((s.ctx c.key).counted + 1))
        ((s.ctx c.key).reg (fA (s.wordAt c)))) ∧ t.mem = s.mem)

/-- In basic trap mode at depth 0, TRAP raises BREAK with its code, UNASSIGNED_INSTRUCTION raises ILLEGAL with the word,
and SLD or SST outside scratch raises SCRATCH with the offset: TRA, TSTAT, TCAUSE and TINFO are written, IE clears,
the depth is 1 and the PC is TRAPENTRY. In full mode with room on the trap stack, TRAP lowers TSP by 64, raises the
depth by one and goes to 0x100 + 16 × cause. A trap in a handler of basic mode ends the START with ABORTED. -/
def Obligations.TrapsEnterTheHandlerOrEndTheProgram : Prop :=
  (∀ s c, s.stands c .trap = true → wf (s.wordAt c) 25 16 = 0 → (s.ctx c.key).tm = false → (s.ctx c.key).depth = 0 →
    Completes (.trap c) s fun t => t = s.setCtx c.key ((s.ctx c.key).trapped causeBreak (wf (s.wordAt c) 15 0))) ∧
  (∀ s c, s.executes c.key = true → kindOf (s.wordAt c) = none → (s.ctx c.key).calm = true → (s.ctx c.key).tm = false →
    (s.ctx c.key).depth = 0 → Completes (.unassignedInstruction c) s fun t =>
      t = s.setCtx c.key ((s.ctx c.key).trapped causeIllegal (s.wordAt c).toNat)) ∧
  (∀ s c off, off = ((s.ctx c.key).reg (fB (s.wordAt c)) + fSimm (s.wordAt c)).toNat → off % 8 ≠ 0 ∨ 4096 ≤ off →
    (s.ctx c.key).tm = false → (s.ctx c.key).depth = 0 →
    (s.stands c .sld = true → Completes (.sld c) s fun t => t = s.setCtx c.key ((s.ctx c.key).trapped causeScratch off)) ∧
    (s.stands c .sst = true → Completes (.sst c) s fun t => t = s.setCtx c.key ((s.ctx c.key).trapped causeScratch off))) ∧
  (∀ s c, s.stands c .trap = true → wf (s.wordAt c) 25 16 = 0 → (s.ctx c.key).tm = true → (s.ctx c.key).depth < 8 →
    64 ≤ (s.ctx c.key).tsp.toNat → Completes (.trap c) s fun t =>
      (t.ctx c.key).tsp = BitVec.ofNat 64 ((s.ctx c.key).tsp.toNat - 64) ∧ (t.ctx c.key).depth = (s.ctx c.key).depth + 1 ∧
      (t.ctx c.key).ie = false ∧ (t.ctx c.key).pc = 0x100 + BitVec.ofNat 16 (16 * causeBreak) ∧
      (t.ctx c.key).tcause = causeBreak ∧ t.mem = s.mem) ∧
  (∀ s c q i r, s.stands c .trap = true → wf (s.wordAt c) 25 16 = 0 → (s.ctx c.key).tm = false → 1 ≤ (s.ctx c.key).depth →
    (s.ctx c.key).start = some (q, i) → s.runOf q i = some r → s.alone c.engine.val = true → Completes (.trap c) s fun t =>
      (t.ctx c.key).phase = .idle ∧ t.runOf q i = some (r.finish .aborted (BitVec.ofNat 64 (s.ctx c.key).counted)
        (BitVec.ofNat 64 ((s.ctx c.key).tcause + 16 * causeBreak + 65536 * (s.ctx c.key).pc.toNat))))

/-- In a context that executes it with nothing waiting for its resume point and, where it accesses memory, with the
tenant's own range not held: PLD reads 8 bytes into rd, or a free value where the line is poisoned, which it counts;
PST writes rd; TCFG configures a span of tiles with zeros, TREL empties tiles or accumulators; TLD of a one-tile span
fills the tile from its range and TST of one writes the tile to its range. -/
def Obligations.PoolAccessesAndTilesAct : Prop :=
  (∀ s c d o off r, s.standsMem c .pld = true → poolOf ((s.ctx c.key).reg (fB (s.wordAt c))) = some (d, o) →
    off = (o + (fSimm (s.wordAt c)).toNat) % 2 ^ 40 → off % 8 = 0 → s.memFault (s.ctx c.key).tenant d off 8 = none →
    r = s.readRange d off 8 → r.2.bad = none → Completes (.pld c) s fun t =>
      t = (r.1.retires c ((s.ctx c.key).setReg (fA (s.wordAt c)) (BitVec.ofNat 64 (leNat r.2.data)))).settle) ∧
  (∀ s c d o off r, s.standsMem c .pld = true → poolOf ((s.ctx c.key).reg (fB (s.wordAt c))) = some (d, o) →
    off = (o + (fSimm (s.wordAt c)).toNat) % 2 ^ 40 → off % 8 = 0 → s.memFault (s.ctx c.key).tenant d off 8 = none →
    r = s.readRange d off 8 → r.2.bad.isSome = true → Completes (.pld c) s fun t =>
      t = (r.1.draw.retires c (((s.ctx c.key).meetPoison (badLines off r.2.mask)).setReg (fA (s.wordAt c))
        (Config.freeWord r.1.fresh))).settle) ∧
  (∀ s c d o off u, s.standsMem c .pst = true → poolOf ((s.ctx c.key).reg (fB (s.wordAt c))) = some (d, o) →
    off = (o + (fSimm (s.wordAt c)).toNat) % 2 ^ 40 → off % 8 = 0 → s.memFault (s.ctx c.key).tenant d off 8 = none →
    s.claimRange d off 8 = some u → Completes (.pst c) s fun t =>
      t = ((u.writeRange d off (leBytes 8 ((s.ctx c.key).reg (fA (s.wordAt c))).toNat)).1.retires c (s.ctx c.key)).settle) ∧
  (∀ s c, s.stands c .tcfg = true → tClean (s.wordAt c) true true true 0 = true → fTa (s.wordAt c) + fTn (s.wordAt c) ≤ 16 →
    (s.ctx c.key).reg (fTr (s.wordAt c)) &&& ~~~tcfgMask = 0 →
    (shapeOf ((s.ctx c.key).reg (fTr (s.wordAt c)))).fault = none → Completes (.tcfg c) s fun t =>
      t = s.retires c ((List.range (fTn (s.wordAt c))).foldl (fun (y : Ctx) i => y.setTile (fTa (s.wordAt c) + i)
        (some ⟨shapeOf ((s.ctx c.key).reg (fTr (s.wordAt c))),
          List.replicate (shapeOf ((s.ctx c.key).reg (fTr (s.wordAt c)))).size 0⟩))
        ((s.ctx c.key).breakTiles (fTa (s.wordAt c)) (fTn (s.wordAt c))))) ∧
  (∀ s c, s.stands c .trelTiles = true → tClean (s.wordAt c) true true false 1 = true →
    fTa (s.wordAt c) + fTn (s.wordAt c) ≤ 16 → Completes (.trelTiles c) s fun t =>
      t = s.retires c ((List.range (fTn (s.wordAt c))).foldl (fun (y : Ctx) i => y.setTile (fTa (s.wordAt c) + i) none)
        ((s.ctx c.key).breakTiles (fTa (s.wordAt c)) (fTn (s.wordAt c))))) ∧
  (∀ s c, s.stands c .trelAccumulators = true → tClean (s.wordAt c) true true false 1 = true →
    fTa (s.wordAt c) + fTn (s.wordAt c) ≤ 16 → Completes (.trelAccumulators c) s fun t =>
      t = s.retires c ((List.range (fTn (s.wordAt c))).foldl (fun (y : Ctx) i => y.setAcc (fTa (s.wordAt c) + i) none)
        ((s.ctx c.key).breakAccs (fTa (s.wordAt c)) (fTn (s.wordAt c))))) ∧
  (∀ s c d o x r, s.standsMem c .tld = true → tClean (s.wordAt c) true true true 0 = true → fTn (s.wordAt c) = 1 →
    poolOf ((s.ctx c.key).reg (fTr (s.wordAt c))) = some (d, o) → (s.ctx c.key).tile (fTa (s.wordAt c)) = some x →
    s.memFault (s.ctx c.key).tenant d o x.shape.size = none → r = s.readRange d o x.shape.size →
    Completes (.tld c) s fun t => t = (r.1.retires c (((s.ctx c.key).meetPoison (badLines o r.2.mask)).setTile
      (fTa (s.wordAt c)) (some { x with data := r.2.data }))).settle) ∧
  (∀ s c d o x u, s.standsMem c .tst = true → tClean (s.wordAt c) true true true 0 = true → fTn (s.wordAt c) = 1 →
    poolOf ((s.ctx c.key).reg (fTr (s.wordAt c))) = some (d, o) → (s.ctx c.key).tile (fTa (s.wordAt c)) = some x →
    s.memFault (s.ctx c.key).tenant d o x.shape.size = none → s.claimRange d o x.shape.size = some u →
    Completes (.tst c) s fun t =>
      t = ((u.writeRange d o (sub x.data 0 x.shape.size)).1.retires c (s.ctx c.key)).settle)

/-- In a context that executes it with nothing waiting for its resume point, checks passed: TSCORE tile of at most 64 key
rows writes, for every query and key row, their score into the accumulator span; TSCORE contiguous and indexed of one
key offer its scores to the list under its key ID; AST of at most 4 KiB writes the span's entries; TOPK select of at
most 64 columns offers them; TOPK merge of one entry enters it; TOPK drain of at most 4 KiB writes the list's bytes,
and clears it where asked; TOPK clear empties the list. -/
def Obligations.ScoringFillsAccumulatorsAndLists : Prop :=
  (∀ s c v ts t0 key qs, s.stands c .tscoreTile = true → v = ((s.ctx c.key).reg (fTr (s.wordAt c))).toNat → v < 65536 →
    bits v 7 4 = 0 → tClean (s.wordAt c) true true true 15 = true → bitOf (fTf (s.wordAt c)) 2 = false →
    fTa (s.wordAt c) + fTn (s.wordAt c) ≤ 16 → bits v 11 8 + (bits v 15 12 + 1) ≤ 16 →
    (s.ctx c.key).span (fTa (s.wordAt c)) (fTn (s.wordAt c)) = some ts → ts.head? = some t0 →
    (s.ctx c.key).tile (bits v 3 0) = some key → t0.shape.fmt = key.shape.fmt → t0.shape.mx = key.shape.mx →
    t0.shape.elems = key.shape.elems → qs = queryRows ts → qs.length ≤ 512 →
    qs.length * key.shape.rows ≤ (bits v 15 12 + 1) * 1024 → key.shape.rows ≤ 64 →
    Completes (.tscoreTile c) s fun t => ∃ data : List W32, data.length = (bits v 15 12 + 1) * 1024 ∧
      (∀ i j, i < qs.length → j < key.shape.rows → data.getD (i * key.shape.rows + j) 0 =
        score t0.shape.fmt t0.shape.mx (qs.getD i ⟨[], []⟩) (key.row j)) ∧
      t = (s.retires c { (s.ctx c.key).setAccSpan (bits v 11 8) (bits v 15 12 + 1) (accumFp t0.shape.fmt t0.shape.mx) qs.length
        key.shape.rows data with resident := some (fTa (s.wordAt c), fTn (s.wordAt c)) }).settle) ∧
  (∀ s c (p : Nat → Nat) k ts t0 qs tk r, s.standsMem c .tscoreContiguous = true →
    (∀ i, p i = ((s.ctx c.key).reg (fTr (s.wordAt c) + i)).toNat) → k = bits (p 3) 42 32 →
    tClean (s.wordAt c) true true true 15 = true → fTa (s.wordAt c) + fTn (s.wordAt c) ≤ 16 → fTr (s.wordAt c) + 3 ≤ 31 →
    p 0 < 2 ^ 56 → p 3 < 2 ^ 43 → 1 ≤ k → k ≤ 1024 →
    (s.ctx c.key).span (fTa (s.wordAt c)) (fTn (s.wordAt c)) = some ts → ts.head? = some t0 → qs = queryRows ts →
    qs.length = t0.shape.rows * fTn (s.wordAt c) → qs.length ≤ 512 → p 1 % 16 = 0 → t0.shape.record ≤ p 1 →
    qs.length * k ≤ 65536 → (s.ctx c.key).listFor (accumFp t0.shape.fmt t0.shape.mx) qs.length k = some tk → p 2 = 1 →
    s.memFault (s.ctx c.key).tenant (bits (p 0) 15 0) (bits (p 0) 55 16) t0.shape.record = none →
    r = s.readRange (bits (p 0) 15 0) (bits (p 0) 55 16) t0.shape.record → r.2.bad = none →
    Completes (.tscoreContiguous c) s fun t => t = (r.1.retires c
      { scoreRecord t0.shape qs (s.ctx c.key) tk (BitVec.ofNat 32 (bits (p 3) 31 0)) r.2.data with
        resident := some (fTa (s.wordAt c), fTn (s.wordAt c)) }).settle) ∧
  (∀ s c (p : Nat → Nat) k ts t0 qs tk a r, s.standsMem c .tscoreIndexed = true →
    (∀ i, p i = ((s.ctx c.key).reg (fTr (s.wordAt c) + i)).toNat) → k = bits (p 3) 42 32 →
    tClean (s.wordAt c) true true true 15 = true → fTa (s.wordAt c) + fTn (s.wordAt c) ≤ 16 → fTr (s.wordAt c) + 4 ≤ 31 →
    p 0 < 2 ^ 56 → p 4 < 2 ^ 56 → p 3 = 2 ^ 32 * k → 1 ≤ k → k ≤ 1024 → bitOf (fTf (s.wordAt c)) 3 = false →
    (s.ctx c.key).span (fTa (s.wordAt c)) (fTn (s.wordAt c)) = some ts → ts.head? = some t0 → qs = queryRows ts →
    qs.length = t0.shape.rows * fTn (s.wordAt c) → qs.length ≤ 512 → p 1 % 16 = 0 → t0.shape.record ≤ p 1 →
    qs.length * k ≤ 65536 → (s.ctx c.key).listFor (accumFp t0.shape.fmt t0.shape.mx) qs.length k = some tk → p 2 = 1 →
    s.memFault (s.ctx c.key).tenant (bits (p 0) 15 0) (bits (p 0) 55 16) 4 = none →
    a = s.readRange (bits (p 0) 15 0) (bits (p 0) 55 16) 4 → a.2.bad = none →
    a.1.memFault (s.ctx c.key).tenant (bits (p 4) 15 0) (bits (p 4) 55 16 + leNat a.2.data * p 1) t0.shape.record = none →
    r = a.1.readRange (bits (p 4) 15 0) (bits (p 4) 55 16 + leNat a.2.data * p 1) t0.shape.record → r.2.bad = none →
    Completes (.tscoreIndexed c) s fun t => t = (r.1.retires c
      { scoreRecord t0.shape qs (s.ctx c.key) tk (BitVec.ofNat 32 (leNat a.2.data)) r.2.data with
        resident := some (fTa (s.wordAt c), fTn (s.wordAt c)) }).settle) ∧
  (∀ s c d o h data out u, s.standsMem c .ast = true → tClean (s.wordAt c) true true true 0 = true →
    fTa (s.wordAt c) + fTn (s.wordAt c) ≤ 16 → poolOf ((s.ctx c.key).reg (fTr (s.wordAt c))) = some (d, o) →
    (s.ctx c.key).accSpan (fTa (s.wordAt c)) (fTn (s.wordAt c)) = some (h, data) →
    out = (data.take (h.q * h.k)).flatMap (fun x => leBytes 4 x.toNat) → out.length ≤ 4096 →
    s.memFault (s.ctx c.key).tenant d o out.length = none → s.claimRange d o out.length = some u →
    Completes (.ast c) s fun t => t = ((u.writeRange d o out).1.retires c (s.ctx c.key)).settle) ∧
  (∀ s c v h data tk r, s.stands c .topkSelect = true → tClean (s.wordAt c) true true true 7 = true →
    v = ((s.ctx c.key).reg (fTr (s.wordAt c))).toNat → v < 2 ^ 43 → 1 ≤ bits v 42 32 → bits v 42 32 ≤ 1024 →
    fTa (s.wordAt c) + fTn (s.wordAt c) ≤ 16 →
    (s.ctx c.key).accSpan (fTa (s.wordAt c)) (fTn (s.wordAt c)) = some (h, data) → h.q * bits v 42 32 ≤ 65536 →
    (s.ctx c.key).listFor h.fp h.q (bits v 42 32) = some tk → h.k ≤ 64 →
    r = (List.range h.k).foldl (fun (a : TopK × Nat) j =>
      ((a.1.offer (BitVec.ofNat 32 (bits v 31 0 + j)) ((List.range h.q).map fun i => data.getD (i * h.k + j) 0)).1,
        a.2 + (a.1.offer (BitVec.ofNat 32 (bits v 31 0 + j)) ((List.range h.q).map fun i => data.getD (i * h.k + j) 0)).2)) (tk, 0) →
    Completes (.topkSelect c) s fun t => t = (s.retires c { (s.ctx c.key).meetNan r.2 with topk := some r.1 }).settle) ∧
  (∀ s c (p : Nat → Nat) k tk r, s.standsMem c .topkMerge = true → tClean (s.wordAt c) false false true 7 = true →
    (∀ i, p i = ((s.ctx c.key).reg (fTr (s.wordAt c) + i)).toNat) → fTr (s.wordAt c) + 2 ≤ 31 → p 0 < 2 ^ 56 → p 2 = 1 →
    1 ≤ k → k ≤ 1024 → p 1 = 1 + 65536 + 2 ^ 32 * k →
    (s.ctx c.key).listFor ((Config.freeWord s.fresh).getLsbD 0) 1 k = some tk →
    s.memFault (s.ctx c.key).tenant (bits (p 0) 15 0) (bits (p 0) 55 16) 8 = none →
    r = s.draw.mergeEntry (s.ctx c.key) tk (bits (p 0) 15 0) (bits (p 0) 55 16) 0 →
    Completes (.topkMerge c) s fun t => t = (r.1.retires c { r.2.1 with topk := some r.2.2 }).settle) ∧
  (∀ s c d o tk u, s.standsMem c .topkDrain = true → tClean (s.wordAt c) false false true 7 = true →
    poolOf ((s.ctx c.key).reg (fTr (s.wordAt c))) = some (d, o) → (s.ctx c.key).topk = some tk → tk.drain.length ≤ 4096 →
    s.memFault (s.ctx c.key).tenant d o tk.drain.length = none → s.claimRange d o tk.drain.length = some u →
    Completes (.topkDrain c) s fun t => t = ((u.writeRange d o tk.drain).1.retires c
      { s.ctx c.key with topk := if bitOf (fTf (s.wordAt c)) 2 then none else some tk }).settle) ∧
  (∀ s c, s.stands c .topkClear = true → tClean (s.wordAt c) false false false 7 = true → Completes (.topkClear c) s fun t =>
    t = s.retires c { s.ctx c.key with topk := none })

/-- XMOV to a context of the same tenant on another engine of the slice copies the tile and makes XMOV_IN pending there.
SADD, SSET, SREAD, and an SWAIT that its counter satisfies, while inputs are delivered, act on a counter as Table 11–3 says and
give its value and SYNCSTAT; an SWAIT that registers blocks the context, and SWAIT_RELEASE takes the released value and frees the record.
SIEVE_UNIT_DONE commits one unit of a long instruction. TTIMER_EXPIRY makes TIMER pending; OVERRUN_KILL_TIMER ends a
masked overrun with QUANTUM_OVERRUN. -/
def Obligations.CountersMovesAndContextRowsAct : Prop :=
  (∀ s c e dst tn x y, s.stands c .xmov = true → tClean (s.wordAt c) true false true 0 = true →
    ((s.ctx c.key).reg (fTr (s.wordAt c))).toNat = e + 256 * (dst - e * 8) + 65536 * tn → e < 64 → e * 8 ≤ dst → dst < e * 8 + 8 →
    tn < 16 → e / 4 = c.engine.val / 4 → e ≠ c.engine.val → y = s.ctx dst → y.tenant = (s.ctx c.key).tenant →
    (s.ctx c.key).tile (fTa (s.wordAt c)) = some x → optAny (y.tile tn) (·.shape != x.shape) = false →
    s.ctxFrozen dst = false → y.halted = false → y.usesTile tn = false →
    ({ y with xmovPend := true } : Ctx).calm = true → Completes (.xmov c) s fun t =>
      t = (s.setCtx dst { y.setTile tn (some x) with
        xmovPend := true, xmovInfo := BitVec.ofNat 64 (tn + 256 * c.engine.val) }).retires c (s.ctx c.key)) ∧
  (∀ s c r, s.stands c .sadd = true → fFunc (s.wordAt c) = 0 →
    s.inputsGo = true → r = (s.inputOf (.sadd c)).counterOp ((s.ctx c.key).reg (fB (s.wordAt c))).toNat (· == (s.ctx c.key).tenant)
      (.add ((s.ctx c.key).reg (fC (s.wordAt c)))) → Completes (.sadd c) s fun t =>
      t = r.1.retires c { (s.ctx c.key).setReg (fA (s.wordAt c)) r.2.after with syncstat := syncWord r.2 }) ∧
  (∀ s c r, s.stands c .sset = true → fFunc (s.wordAt c) = 0 →
    s.inputsGo = true → r = (s.inputOf (.sset c)).counterOp ((s.ctx c.key).reg (fB (s.wordAt c))).toNat (· == (s.ctx c.key).tenant)
      (.set ((s.ctx c.key).reg (fC (s.wordAt c)))) → Completes (.sset c) s fun t =>
      t = r.1.retires c { (s.ctx c.key).setReg (fA (s.wordAt c)) r.2.after with syncstat := syncWord r.2 }) ∧
  (∀ s c r, s.stands c .sread = true → fFunc (s.wordAt c) = 0 → fC (s.wordAt c) = 0 →
    s.inputsGo = true → r = (s.inputOf (.sread c)).counterOp ((s.ctx c.key).reg (fB (s.wordAt c))).toNat (· == (s.ctx c.key).tenant) .read →
    Completes (.sread c) s fun t =>
      t = (s.inputOf (.sread c)).retires c { (s.ctx c.key).setReg (fA (s.wordAt c)) r.2.after with syncstat := syncWord r.2 }) ∧
  (∀ s c r, s.stands c .swait = true → fFunc (s.wordAt c) = 0 →
    s.inputsGo = true → r = (s.inputOf (.swait c)).counterOp ((s.ctx c.key).reg (fB (s.wordAt c))).toNat (· == (s.ctx c.key).tenant)
      (.wait ((s.ctx c.key).reg (fC (s.wordAt c))) none (.context c.key)) → r.2.registered = false →
    Completes (.swait c) s fun t =>
      t = r.1.retires c { (s.ctx c.key).setReg (fA (s.wordAt c)) r.2.after with syncstat := syncWord r.2 }) ∧
  (∀ s c r, s.stands c .swait = true → fFunc (s.wordAt c) = 0 →
    s.inputsGo = true → r = (s.inputOf (.swait c)).counterOp ((s.ctx c.key).reg (fB (s.wordAt c))).toNat (· == (s.ctx c.key).tenant)
      (.wait ((s.ctx c.key).reg (fC (s.wordAt c))) none (.context c.key)) → r.2.registered = true →
    s.alone c.engine.val = true → Completes (.swait c) s fun t =>
      t = r.1.setCtx c.key { s.ctx c.key with syncstat := syncWord r.2, phase := .blocked, overrun := false
                                              long := some { pc := (s.ctx c.key).pc, wait := some s.sync.nextWait } }) ∧
  (∀ s c x id w st, x = s.ctx c.key → x.long.bind (·.wait) = some id → (s.sync.waits.find? (·.id == id)) = some w →
    w.phase = .pending st → x.phase = .blocked → x.halted = false → s.gatesHold = false → ({ x with long := none } : Ctx).calm = true →
    s.engineRuns c.engine.val = true → Completes (.swaitRelease c) s fun t =>
      t = (s.freeWait id).retires c { x.setReg (fA (s.wordAt c)) (s.counter w.counter).value with
        syncstat := BitVec.ofNat 64 (st.code + 256 * b2n (s.counter w.counter).sat + 1024), phase := .ready, long := none }) ∧
  (∀ s c k f u y, s.executes c.key = true → kindOf (s.wordAt c) = some k → unitStep k = some f →
    (k.usesPool && s.stalls (s.ctx c.key).tenant) = false →
    optAny (s.ctx c.key).long (·.pc != (s.ctx c.key).pc) = false → f s (s.ctx c.key) (s.wordAt c) = .unit u y →
    y.phase = .running → ({ y with long := none } : Ctx).calm = true → Completes (.sieveUnitDone c) s fun t =>
      t = (u.setCtx c.key y).settle) ∧
  (∀ s c, (s.ctx c.key).phase = .running → (s.ctx c.key).ttimer = 1 → (s.ctx c.key).te = false →
    (s.ctx c.key).calm = true → Completes (.ttimerExpiry c) s fun t =>
      t = s.setCtx c.key { s.ctx c.key with ttimer := 0, timerPend := true }) ∧
  (∀ s c q i r, (s.ctx c.key).phase = .running → (s.ctx c.key).overrun = true → (s.ctx c.key).ie = false →
    (s.ctx c.key).start = some (q, i) → s.runOf q i = some r → s.alone c.engine.val = true →
    Completes (.overrunKillTimer c) s fun t => (t.ctx c.key).phase = .idle ∧
      t.runOf q i = some (r.finish .quantumOverrun (BitVec.ofNat 64 (s.ctx c.key).counted) 0) ∧ t.mem = s.mem)

/-- A sieve command that runs with nothing waiting for it: SIEVE_NOP ends OK. PLOAD copies its bytes into the program
region of its context and ends with their count, POISONED where a line was. START readies its context with the
registers of slot 1 and system registers at reset, and its tiles, lists and scratch as they were, and runs it where
its engine is free and no other context is ready. RESETCTX empties the context and frees its waits. -/
def Obligations.SieveCommandsLoadStartAndReset : Prop :=
  (∀ s (q : BitVec 16) i c, s.acts q.toNat i clsSieve 0x00 c → Completes (.sieveNop q i) s fun t =>
    t = s.endRun q.toNat i .ok 0 0) ∧
  (∀ s (q : BitVec 16) i c x, s.acts q.toNat i clsSieve 0x01 c →
    x = s.readRange (poolDrawer c.bytes 24) (poolOffset c.bytes 24) (lengthAt c.bytes 32) →
    Completes (.pload q i) s fun t => t = ((x.1.setCtx (cmdCtx c.bytes) { x.1.ctx (cmdCtx c.bytes) with
      region := FMap.setRun 0 (x.1.ctx (cmdCtx c.bytes)).region (field c.bytes 40 2) x.2.data }).endRun q.toNat i
        (if x.2.bad.isSome then .poisoned else .ok) (BitVec.ofNat 64 (lengthAt c.bytes 32)) 0).settle) ∧
  (∀ s (q : BitVec 16) i c, s.acts q.toNat i clsSieve 0x02 c → c.phase = .dispatched →
    s.engineRuns (cmdCtx c.bytes / 8) = true → (s.ctx (cmdCtx c.bytes)).phase ≠ .running → Completes (.start q i) s fun t =>
      t = (s.setCtx (cmdCtx c.bytes) ((s.ctx (cmdCtx c.bytes)).started q.toNat i c.bytes)).updRun q.toNat i
        fun x => { x with phase := .running }) ∧
  (∀ s (q : BitVec 16) i c, s.acts q.toNat i clsSieve 0x02 c → c.phase = .dispatched →
    s.engineRuns (cmdCtx c.bytes / 8) = false → s.dbg.engHalt = [] → (s.ctx (cmdCtx c.bytes)).halted = false →
    (∀ n, n < 8 → cmdCtx c.bytes / 8 * 8 + n ≠ cmdCtx c.bytes → (s.ctx (cmdCtx c.bytes / 8 * 8 + n)).mayRun = false) →
    Completes (.start q i) s fun t => t.ctx (cmdCtx c.bytes) =
      { (s.ctx (cmdCtx c.bytes)).started q.toNat i c.bytes with phase := .running } ∧ t.mem = s.mem) ∧
  (∀ s (q : BitVec 16) i c, s.acts q.toNat i clsSieve 0x03 c → Completes (.resetctx q i) s fun t =>
    t = ((s.freeCtxWaits (cmdCtx c.bytes)).setCtx (cmdCtx c.bytes) (s.ctx (cmdCtx c.bytes)).emptied).endRun q.toNat i .ok 0 0)

/-- A lexicon command at its beginning that nothing stops: LEX_NOP ends OK. DICT_LOAD and GRAM_LOAD of an image that
passes its checks into a free slot load it with its digest, and one that fails ends FORMAT with the check's code;
UNLOAD of a slot that no open stream names empties it. STREAM_OPEN opens the stream with its dictionary, position and
channels, STREAM_CLOSE without flush closes it, GRAM_SET takes or drops a grammar position. MASK_FETCH writes the mask
of the state; ADVANCE moves a stream's position; ADVANCE_FETCH does both. LEXICON_RESUME_POINT does one unit. -/
def Obligations.LexiconCommandsLoadOpenAndMove : Prop :=
  (∀ s (q : BitVec 16) i c, s.lexActs q.toNat i 0x00 c → Completes (.lexNop q i) s fun t =>
    t = (s.endRun q.toNat i .ok 0 0).retry.settle) ∧
  (∀ s (q : BitVec 16) i c r, s.lexActs q.toNat i 0x01 c →
    r = s.readRange (poolDrawer c.bytes 24) (poolOffset c.bytes 24) (lengthAt c.bytes 40) → r.2.bad = none →
    dictCheck r.2.data (lengthAt c.bytes 40) = 0 →
    r.1.images.get (imageKey (s.queueTenant q.toNat) false (byteAt c.bytes 16)) none = none → Completes (.dictLoad q i) s fun t =>
      t = ({ r.1 with images := r.1.images.set (imageKey (s.queueTenant q.toNat) false (byteAt c.bytes 16)) (some
        ⟨poolDrawer c.bytes 24, poolOffset c.bytes 24, lengthAt c.bytes 40, Config.sha384 r.2.data⟩) none }.endRun
          q.toNat i .ok (BitVec.ofNat 64 (lengthAt c.bytes 40)) 0).retry.settle) ∧
  (∀ s (q : BitVec 16) i c r, s.lexActs q.toNat i 0x02 c →
    r = s.readRange (poolDrawer c.bytes 24) (poolOffset c.bytes 24) (lengthAt c.bytes 40) → r.2.bad = none →
    gramCheck r.2.data (lengthAt c.bytes 40) = 0 →
    r.1.images.get (imageKey (s.queueTenant q.toNat) true (byteAt c.bytes 16)) none = none → Completes (.gramLoad q i) s fun t =>
      t = ({ r.1 with images := r.1.images.set (imageKey (s.queueTenant q.toNat) true (byteAt c.bytes 16)) (some
        ⟨poolDrawer c.bytes 24, poolOffset c.bytes 24, lengthAt c.bytes 40, Config.sha384 r.2.data⟩) none }.endRun
          q.toNat i .ok (BitVec.ofNat 64 (lengthAt c.bytes 40)) 0).retry.settle) ∧
  (∀ s (q : BitVec 16) i c r, s.lexActs q.toNat i 0x01 c →
    r = s.readRange (poolDrawer c.bytes 24) (poolOffset c.bytes 24) (lengthAt c.bytes 40) → r.2.bad = none →
    dictCheck r.2.data (lengthAt c.bytes 40) ≠ 0 → Completes (.dictLoad q i) s fun t => t = (r.1.endRun q.toNat i .format 0
      (BitVec.ofNat 64 (dictCheck r.2.data (lengthAt c.bytes 40)))).retry.settle) ∧
  (∀ s (q : BitVec 16) i c, s.lexActs q.toNat i 0x03 c → (s.streams.any fun e =>
      s.streamTenant e.1 == some (s.queueTenant q.toNat) && e.2.isOpen && (if bitOf (byteAt c.bytes 17) 0 then
        optAny e.2.gram (·.1 == byteAt c.bytes 16) else e.2.dict == byteAt c.bytes 16)) = false →
    Completes (.unload q i) s fun t => t = ({ s with images := s.images.set (imageKey (s.queueTenant q.toNat)
      (bitOf (byteAt c.bytes 17) 0) (byteAt c.bytes 16)) none none }.endRun q.toNat i .ok 0 0).retry.settle) ∧
  (∀ s (q : BitVec 16) i c im chans v, s.lexActs q.toNat i 0x04 c → s.streamFrozen (cmdStream c.bytes) = false →
    s.dict (s.queueTenant q.toNat) (byteAt c.bytes 18) = some im → byteAt c.bytes 19 = 0xFF →
    chans = (List.range (byteAt c.bytes 24)).map (fun k => (⟨byteAt c.bytes (64 + 16 * k) == 1, byteAt c.bytes (65 + 16 * k),
      BitVec.ofNat 64 (field c.bytes (72 + 16 * k) 8), [], 0, 0, 0⟩ : Channel)) →
    chans.foldl (fun (a : Option State) ch => a.bind fun x => x.windowHeader ch) (some s) = some v →
    Completes (.streamOpen q i) s fun t => t = ((v.setStream (cmdStream c.bytes)
      { isOpen := true, dict := byteAt c.bytes 18, gram := none, chans := chans }).endRun q.toNat i .ok 0
        (BitVec.ofNat 64 (b2n (s.stream (cmdStream c.bytes)).isOpen))).retry.settle) ∧
  (∀ s (q : BitVec 16) i c, s.lexActs q.toNat i 0x05 c → (s.stream (cmdStream c.bytes)).isOpen = true →
    s.streamFrozen (cmdStream c.bytes) = false → bitOf (byteAt c.bytes 18) 0 = false → Completes (.streamClose q i) s fun t =>
      t = ((s.setStream (cmdStream c.bytes) {}).endRun q.toNat i .ok 0 0).retry.settle) ∧
  (∀ s (q : BitVec 16) i c im u x v, s.lexActs q.toNat i 0x08 c → s.lexStop (s.queueTenant q.toNat) c.bytes = none →
    s.cmdGrammar (s.queueTenant q.toNat) c.bytes = some im → c.progress = 0 →
    ((s.lookGram im).andThen fun u h => u.maskOf im h (s.cmdState c.bytes)) = (u, .ok x) → x.1.length ≤ 4096 →
    u.claimRange (poolDrawer c.bytes 32) (poolOffset c.bytes 32) x.1.length = some v → Completes (.maskFetch q i) s fun t =>
      t = (((v.writeRange (poolDrawer c.bytes 32) (poolOffset c.bytes 32) (sub x.1 0 x.1.length)).1.updRun q.toNat i fun _ =>
        { c with phase := .running, progress := BitVec.ofNat 64 x.1.length }).endRun q.toNat i .ok
          (BitVec.ofNat 64 x.1.length) x.2).retry.settle) ∧
  (∀ s (q : BitVec 16) i c im u h next word, s.lexActs q.toNat i 0x09 c →
    s.lexStop (s.queueTenant q.toNat) c.bytes = none → s.cmdGrammar (s.queueTenant q.toNat) c.bytes = some im →
    ((s.lookGram im).andThen fun u h => (u.advanceGram im h (s.cmdState c.bytes) (field c.bytes 24 4)).andThen
      fun v x => (v, .ok (h, x))) = (u, .ok (h, .ok, next, word)) → Completes (.advance q i) s fun t =>
      t = ((if cmdStreamForm c.bytes = true then u.moveGram (cmdStream c.bytes) next else u).endRun q.toNat i .ok
        c.progress word).retry.settle) ∧
  (∀ s (q : BitVec 16) i c im u h next word v w x, s.lexActs q.toNat i 0x0A c →
    s.lexStop (s.queueTenant q.toNat) c.bytes = none → s.cmdGrammar (s.queueTenant q.toNat) c.bytes = some im → c.progress = 0 →
    ((s.lookGram im).andThen fun u h => (u.advanceGram im h (s.cmdState c.bytes) (field c.bytes 24 4)).andThen
      fun v x => (v, .ok (h, x))) = (u, .ok (h, .ok, next, word)) → u.maskOf im h next = (v, .ok x) → x.1.length ≤ 4096 →
    v.claimRange (poolDrawer c.bytes 32) (poolOffset c.bytes 32) x.1.length = some w → Completes (.advanceFetch q i) s fun t =>
      ∃ y, y = ((w.writeRange (poolDrawer c.bytes 32) (poolOffset c.bytes 32) (sub x.1 0 x.1.length)).1.updRun q.toNat i fun _ =>
          { c with phase := .running, progress := BitVec.ofNat 64 x.1.length }) ∧
      t = ((if cmdStreamForm c.bytes = true then y.moveGram (cmdStream c.bytes) next else y).endRun q.toNat i .ok
        (BitVec.ofNat 64 x.1.length) word).retry.settle) ∧
  (∀ s (q : BitVec 16) i c, s.lexActs q.toNat i 0x0B c → (s.stream (cmdStream c.bytes)).isOpen = true →
    s.streamFrozen (cmdStream c.bytes) = false → byteAt c.bytes 19 = 0xFF → Completes (.gramSet q i) s fun t =>
      t = ((s.setStream (cmdStream c.bytes) { s.stream (cmdStream c.bytes) with gram := none }).endRun q.toNat i .ok 0 0).retry.settle) ∧
  (∀ s (q : BitVec 16) i n c u, s.lexes q.toNat i = some (n, c) → s.mustRest clsLexicon c = false →
    s.lexWork q.toNat i n c = some u → Completes (.lexiconResumePoint q i) s fun t =>
      t = (u.lexRest q.toNat i).retry.settle)

/-- TOKENIZE at its beginning, over an input with no poisoned line, whose tokens fit one unit and the destination, writes
the tokens that the dictionary's walk emits from the carry and the input, keeps in the carry what is left, and ends OK
with the input's length and the count of ill-formed bytes. DETOKENIZE of at most 64 tokens gives the channels the
tokens' bytes and ends OK with their number and the substitutions. -/
def Obligations.TokensAreMadeAndUnmade : Prop :=
  (∀ s (q : BitVec 16) i c x im inp u h cells e v, s.lexActs q.toNat i 0x06 c →
    s.lexStop (s.queueTenant q.toNat) c.bytes = none → c.progress = 0 → c.status = .ok → x = s.stream (cmdStream c.bytes) →
    lengthAt c.bytes 40 ≠ 0 → s.dict (s.queueTenant q.toNat) x.dict = some im →
    inp = s.readRange (poolDrawer c.bytes 24) (poolOffset c.bytes 24) (lengthAt c.bytes 40) →
    inp.2.mask.findIdx? id = none → inp.1.lookDict im = (u, .ok h) →
    cells = cellsOf x.carry inp.2.data (bitOf (byteAt c.bytes 18) 0) (bitOf (byteAt c.bytes 18) 1) →
    e = State.emitTokens im h (bitOf (byteAt c.bytes 18) 0) (min 64 (lengthAt c.bytes 48)) (cellsFrom 0 cells.1) u →
    e.2.st = .ok → e.2.more = false →
    e.1.claimRange (poolDrawer c.bytes 32) (poolOffset c.bytes 32) (4 * e.2.out.length) = some v →
    (v.writeRange (poolDrawer c.bytes 32) (poolOffset c.bytes 32) (e.2.out.flatMap fun k => leBytes 4 k.1)).2 = none →
    s.fabric.parked = [] → Completes (.tokenize q i) s fun t =>
      t.mem = (v.writeRange (poolDrawer c.bytes 32) (poolOffset c.bytes 32) (e.2.out.flatMap fun k => leBytes 4 k.1)).1.mem ∧
      t.stream (cmdStream c.bytes) = { x with
        carry := if bitOf (byteAt c.bytes 18) 0 = true then [] else e.2.left.map (·.byte) ++ cells.2.2 } ∧
      (s.surviving → (t.runOf q.toNat i).map (fun y => (y.phase, y.status, y.result)) =
        some (.ended, .ok, tokWord (lengthAt c.bytes 40) cells.2.1.length false))) ∧
  (∀ s (q : BitVec 16) i c x im inp u h v k subs, s.lexActs q.toNat i 0x07 c →
    s.lexStop (s.queueTenant q.toNat) c.bytes = none → c.progress = 0 → c.status = .ok → c.result = 0 →
    x = s.stream (cmdStream c.bytes) → lengthAt c.bytes 40 ≠ 0 → lengthAt c.bytes 40 ≤ 64 →
    s.dict (s.queueTenant q.toNat) x.dict = some im → s.windowsFault (s.queueTenant q.toNat) x.chans = none →
    inp = s.readRange (poolDrawer c.bytes 24) (poolOffset c.bytes 24) (4 * lengthAt c.bytes 40) →
    inp.2.mask.findIdx? id = none → inp.1.lookDict im = (u, .ok h) →
    u.detokenize (cmdStream c.bytes) im h ((List.range (lengthAt c.bytes 40)).map fun j => field inp.2.data (4 * j) 4)
      (bitOf (byteAt c.bytes 18) 0) = some (v, k, subs, false, .ok) → Completes (.detokenize q i) s fun t =>
      t = ((v.updRun q.toNat i fun _ => { c with phase := .running, progress := BitVec.ofNat 64 k, result := detokWord subs true }).endRun
        q.toNat i .ok (BitVec.ofNat 64 k) (detokWord subs false)).retry.settle)

/-- For an admitted request of a source with the right, on an open stream that no queue command uses and nothing freezes:
TOKENIZE, DETOKENIZE and a stream-form ADVANCE with the stream's sequence are performed, stored with their response,
and raise the sequence; with the sequence before it, they are answered from the store and the streams stay as they
were. MASK_FETCH and ADVANCE_FETCH send the mask by outbound WRITEs and wait for them. STREAM_READ of length 0 answers
the channel's write position and reads nothing. -/
def Obligations.FabricStreamRequestsAreSequenced : Prop :=
  (∀ s r u n im v y, u = s.arrived (.fabricTokenize r) 0x20 r → s.admits (.fabricTokenize r) 0x20 r = true →
    State.lexRight true u r = none → n = (u.streamTenant r.stream).getD 0 → u.streamBusy r.stream = false →
    u.lexReady r.stream (fun x => u.dict n x.dict) = .ok im → r.seq = (u.stream r.stream).seq →
    u.tokenizeNow r im = (v, some y) → s.surviving → Completes (.fabricTokenize r) s fun t =>
      t.stream r.stream = { v.stream r.stream with seq := r.seq + 1, stored := some ⟨y.status, y.word, y.data⟩ } ∧
      t.mem = v.mem ∧ t.sends r.port.val (responseTo 0x20 r y)) ∧
  (∀ s r u n im z, u = s.arrived (.fabricTokenize r) 0x20 r → s.admits (.fabricTokenize r) 0x20 r = true →
    State.lexRight true u r = none → n = (u.streamTenant r.stream).getD 0 → u.streamBusy r.stream = false →
    u.lexReady r.stream (fun x => u.dict n x.dict) = .ok im → r.seq = (u.stream r.stream).seq - 1 →
    (u.stream r.stream).stored = some z → Completes (.fabricTokenize r) s fun t =>
      t.streams = s.streams ∧ t.mem = s.mem ∧
      t.sends r.port.val (responseTo 0x20 r { status := z.status, word := z.word, data := z.data })) ∧
  (∀ s r u n im v y, u = s.arrived (.fabricDetokenize r) 0x21 r → s.admits (.fabricDetokenize r) 0x21 r = true →
    State.lexRight true u r = none → n = (u.streamTenant r.stream).getD 0 → u.streamBusy r.stream = false →
    u.lexReady r.stream (fun x => u.dict n x.dict) = .ok im → r.seq = (u.stream r.stream).seq →
    u.detokenizeNow r n im = (v, some y) → s.surviving → Completes (.fabricDetokenize r) s fun t =>
      t.stream r.stream = { v.stream r.stream with seq := r.seq + 1, stored := some ⟨y.status, y.word, y.data⟩ } ∧
      t.mem = v.mem ∧ t.sends r.port.val (responseTo 0x21 r y)) ∧
  (∀ s r u n im v y, u = s.arrived (.fabricAdvance r) 0x23 r → s.admits (.fabricAdvance r) 0x23 r = true →
    State.lexRight true u r = none → n = (u.streamTenant r.stream).getD 0 → u.streamBusy r.stream = false →
    u.lexReady r.stream (u.reqGram r n) = .ok im → Req.streamForm r = true → r.seq = (u.stream r.stream).seq →
    u.advanceNow r im false = (v, some y) → s.surviving → Completes (.fabricAdvance r) s fun t =>
      t.stream r.stream = { v.stream r.stream with seq := r.seq + 1, stored := some ⟨y.status, y.word, y.data⟩ } ∧
      t.mem = v.mem ∧ t.sends r.port.val (responseTo 0x23 r y)) ∧
  (∀ s r u n im v x, u = s.arrived (.fabricMaskFetch r) 0x22 r → s.admits (.fabricMaskFetch r) 0x22 r = true →
    u.checkGrammar r = none → n = (u.streamTenant r.stream).getD 0 → (Req.streamForm r && u.streamBusy r.stream) = false →
    u.lexReady r.stream (u.reqGram r n) = .ok im →
    ((u.lookGram im).andThen fun w h => w.maskOf im h (u.reqState r)) = (v, .ok x) → s.surviving →
    Completes (.fabricMaskFetch r) s fun t =>
      (∃ key n word, .mask 0x22 { r with found := [] } key n none word true ∈ t.fabric.parked) ∧ t.mem = v.mem ∧
      ∀ b ∈ chunks 4096 (x.1.length + 1) x.1, ∃ o ∈ t.fabric.outbound ++ t.fabric.stalled,
        o.opcode = 0x02 ∧ o.dst = r.src.toNat ∧ o.data = b) ∧
  (∀ s r u n im v h next word w x, u = s.arrived (.fabricAdvanceFetch r) 0x24 r → s.admits (.fabricAdvanceFetch r) 0x24 r = true →
    u.checkGrammar r = none → n = (u.streamTenant r.stream).getD 0 → Req.streamForm r = false →
    u.lexReady r.stream (u.reqGram r n) = .ok im →
    ((u.lookGram im).andThen fun w h => (w.advanceGram im h (u.reqState r) (field r.ops 8 4)).andThen
      fun z x => (z, .ok (h, x))) = (v, .ok (h, .ok, next, word)) → v.maskOf im h next = (w, .ok x) → s.surviving →
    Completes (.fabricAdvanceFetch r) s fun t =>
      (∃ key n, .mask 0x24 { r with found := [] } key n none word true ∈ t.fabric.parked) ∧ t.mem = w.mem ∧
      ∀ b ∈ chunks 4096 (x.1.length + 1) x.1, ∃ o ∈ t.fabric.outbound ++ t.fabric.stalled,
        o.opcode = 0x02 ∧ o.dst = r.src.toNat ∧ o.data = b) ∧
  (∀ s r u c, u = s.arrived (.streamRead r) 0x28 r → s.admits (.streamRead r) 0x28 r = true →
    (u.stream (bits r.word.toNat 15 0)).isOpen = true →
    (u.stream (bits r.word.toNat 15 0)).chans[bits r.word.toNat 17 16]? = some c → c.drawer = r.drawer.toNat →
    u.access { r with offset := 0 } false 0 = none → r.length = 0 → Completes (.streamRead r) s fun t =>
      t.mem = s.mem ∧ t.streams = s.streams ∧
      t.sends r.port.val (responseTo 0x28 r { status := .ok, word := BitVec.ofNat 64 c.wpos }))

/-- A hold command that runs with nothing waiting for it: HOLD_NOP ends OK; HOLD of a set that passes its checks freezes
every element of it and waits. HOLD_QUIESCE_EXPIRY leaves no outbound request of the set's commands and no context of
the set running. HOLD_CAPTURE of a set at rest adds a snapshot of its counters, contexts and drawers and ends the HOLD
with its ID; HOLD_DIGEST_DONE gives it its digest. RESUME with its checks passed restores the snapshot and thaws the
set; DROP discards a snapshot that may go. -/
def Obligations.HoldsFreezeCaptureAndRestore : Prop :=
  (∀ s (q : BitVec 16) i c, s.acts q.toNat i clsHold 0x00 c → c.phase = .dispatched → s.inputsGo = true →
    Completes (.holdNop q i) s fun t => t = ((s.inputOf (.holdNop q i)).endRun q.toNat i .ok 0 0).settle) ∧
  (∀ s (q : BitVec 16) i c u h r x, u = s.inputOf (.hold q i) → s.inputsGo = true → s.acts q.toNat i clsHold 0x01 c →
    c.phase = .dispatched →
    h = u.readRange (poolDrawer c.bytes 24) (poolOffset c.bytes 24) 16 → h.2.bad = none →
    r = h.1.readRange (poolDrawer c.bytes 24) (poolOffset c.bytes 24) (descLength h.2.data) → r.2.bad = none →
    holdSetOf r.2.data = some x → r.1.holdCheck (s.queueTenant q.toNat) x = none → x.isEmpty = false →
    Completes (.hold q i) s fun t => (∀ d ∈ x.drawers, t.drawerFrozen d = true) ∧
      (∀ n ∈ x.counters, 0 < n.2 → t.counterFrozen n.1 = true) ∧ (∀ n ∈ x.queues, t.queueFrozen n = true) ∧
      (∀ n ∈ x.streams, t.streamFrozen n = true) ∧ (∀ k ∈ x.contexts, t.ctxFrozen k = true) ∧ t.mem = r.1.mem) ∧
  (∀ s (q : BitVec 16) i f, s.holding q.toNat i = some f → s.inputsGo = true → FMap.wf s.ctxs {} = true →
    Completes (.holdQuiesceExpiry q i) s fun t => t.setOutbound f.set = [] ∧
      ∀ k ∈ f.set.contexts, (t.ctx k).phase ≠ .running ∧ (t.ctx k).phase ≠ .blocked) ∧
  (∀ s (q : BitVec 16) i f c u, s.holding q.toNat i = some f → s.inputsGo = true → s.runOf q.toNat i = some c →
    s.setQuiet f = true → (s.report (poolDrawer c.bytes 32) (poolOffset c.bytes 32) f.report).isSome = true →
    (s.inputOf (.holdCapture q i)).report (poolDrawer c.bytes 32) (poolOffset c.bytes 32) f.report = some u →
    Completes (.holdCapture q i) s fun t =>
      ∃ x, t.hold.snapshots = u.hold.snapshots ++ [x] ∧ x.id = u.hold.nextSnap ∧ x.set = f.set ∧ x.tenant = f.tenant ∧
        x.counters = u.sync.counters.filter (fun e => f.set.hasCounter e.1) ∧
        x.contexts = f.set.contexts.map (fun k => (k, u.ctx k)) ∧
        x.drawers = f.set.drawers.map u.imageOf ∧ t.hold.nextSnap = u.hold.nextSnap + 1 ∧
        (s.surviving → (t.runOf q.toNat i).map (fun y => (y.phase, y.status, y.result)) =
          some (.ended, .ok, BitVec.ofNat 64 u.hold.nextSnap))) ∧
  (∀ s (n : BitVec 32) x, (s.hold.snapshots.find? fun x => x.id == n.toNat && x.digest.isEmpty) = some x → x.report = none →
    s.inputsGo = true →
    Completes (.holdDigestDone n) s fun t => t.hold.snapshots = s.hold.snapshots.map (fun (y : Snapshot) =>
      if y.id = x.id then { y with digest := sub x.bodyDigest 0 48 } else y) ∧ t.mem = s.mem) ∧
  (∀ s (q : BitVec 16) i c u x f, u = s.inputOf (.resume q i) → s.inputsGo = true → s.acts q.toNat i clsHold 0x02 c →
    c.phase = .dispatched →
    s.snapshot (s.queueTenant q.toNat) (field c.bytes 16 4) = some x → u.resumeCheck (s.queueTenant q.toNat) x = none →
    s.frozenFor x = some f → bitOf (byteAt c.bytes 20) 0 = false → Completes (.resume q i) s fun t =>
      t = (((u.restore x).thaw f).endRun q.toNat i (if x.drawers.any (fun im => !im.lost.isEmpty) = true then .poisoned else .ok)
        0 0).settle) ∧
  (∀ s (q : BitVec 16) i c x, s.acts q.toNat i clsHold 0x03 c → c.phase = .dispatched → s.inputsGo = true →
    s.snapshot (s.queueTenant q.toNat) (field c.bytes 16 4) = some x → s.evictable x = true → Completes (.drop q i) s fun t =>
      t = (((s.inputOf (.drop q i)).dropSnapshot x.id).retry.endRun q.toNat i .ok 0 0).settle)

/-- A hold command that runs with nothing waiting for it: EXPORT of a snapshot, in clear or sealed to the node itself, that no
check refuses writes header and body at its destination and ends with their length. IMPORT of a parcel whose header,
target, checks, tags and digest hold commits it as a new snapshot that freezes the set, ending with its ID. RECEIVE of a
tenant's snapshot waits for its source and rendezvous; RECEIVE_IDLE_TIMEOUT ends one that has begun with TIMEOUT. TRANSFER
marks the snapshot and asks the destination for an attestation with a fresh nonce. RECEIVE and TRANSFER are DENIED while
UNLOCKED. -/
def Obligations.ParcelsLeaveAndArrive : Prop :=
  (∀ s (q : BitVec 16) i found c w flags x p u, w = (s.inputOf (.exportParcel q i found)).withFound found → s.inputsGo = true →
    s.acts q.toNat i clsHold 0x04 c → c.phase = .dispatched →
    s.snapshot (s.queueTenant q.toNat) (field c.bytes 16 4) = some x → flags = byteAt c.bytes 20 % 4 → bitOf flags 1 = false →
    w.exportCheck x flags (poolDrawer c.bytes 24) (exportChain []) = none →
    p = w.parcel x flags ((exportChain []).getD []) → (p.2.1 ++ p.2.2).length ≤ lengthAt c.bytes 40 →
    p.1.claimRange (poolDrawer c.bytes 24) (poolOffset c.bytes 24) (p.2.1 ++ p.2.2).length = some u →
    Completes (.exportParcel q i found) s fun t =>
      t.mem = (u.writeRange (poolDrawer c.bytes 24) (poolOffset c.bytes 24) (p.2.1 ++ p.2.2)).1.mem ∧
      (flags = 0 → p.2.2 = x.body) ∧ (s.surviving → (t.runOf q.toNat i).map (fun y => (y.phase, y.result)) =
        some (.ended, BitVec.ofNat 64 (p.2.1 ++ p.2.2).length))) ∧
  (∀ s (q : BitVec 16) i found c r f y z, s.inputsGo = true → s.acts q.toNat i clsHold 0x05 c → c.phase = .dispatched →
    (s.snapshot (s.queueTenant q.toNat) (field c.bytes 16 4)).isSome = true →
    r = ((s.inputOf (.importParcel q i found)).withFound found).readRange (poolDrawer c.bytes 24) (poolOffset c.bytes 24) (lengthAt c.bytes 40) →
    r.2.bad = none → 256 ≤ lengthAt c.bytes 40 → headerOk (sub r.2.data 0 256) (lengthAt c.bytes 40 - 256) = true →
    r.1.mayTake (sub r.2.data 0 256) = true → r.1.target (s.queueTenant q.toNat) (field c.bytes 16 4) = some f →
    r.1.importCheck f (sub r.2.data 0 256) (r.2.data.drop 256) = .ok y →
    z = r.1.commitImport f y q.toNat (sub (sub r.2.data 0 256) 0x30 48) →
    Completes (.importParcel q i found) s fun t => t = ((z.1.retry).endRun q.toNat i .ok 0 (BitVec.ofNat 64 z.2)).settle) ∧
  (∀ s (q : BitVec 16) i c, s.inputsGo = true → s.acts q.toNat i clsHold 0x06 c → c.phase = .dispatched →
    (s.snapshot (s.queueTenant q.toNat) (field c.bytes 16 4)).isSome = true → s.sec.debug ≠ .unlocked →
    Completes (.receive q i) s fun t => t.hold.receives = s.hold.receives ++ [⟨q.toNat, i, field c.bytes 16 4,
      field c.bytes 20 2 % 16384, BitVec.ofNat 64 (field c.bytes 24 8), none, 0, [], false⟩] ∧
      (t.runOf q.toNat i).map (·.phase) = some .waiting ∧ t.mem = s.mem) ∧
  (∀ s (q : BitVec 16) i c, s.inputsGo = true → s.acts q.toNat i clsHold 0x06 c → c.phase = .dispatched →
    (s.snapshot (s.queueTenant q.toNat) (field c.bytes 16 4)).isSome = true → s.sec.debug = .unlocked →
    Completes (.receive q i) s fun t => t = ((s.inputOf (.receive q i)).endRun q.toNat i .denied 0 0).settle) ∧
  (∀ s (q : BitVec 16) i x, s.inputsGo = true →
    (s.hold.receives.find? fun x => x.q == q.toNat && x.index == i && x.header.isSome) = some x →
    Completes (.receiveIdleTimeout q i) s fun t => t = ((s.inputOf (.receiveIdleTimeout q i)).endReceive x .timeout 0).settle) ∧
  (∀ s (q : BitVec 16) i c x, s.inputsGo = true → s.acts q.toNat i clsHold 0x07 c → c.phase = .dispatched →
    s.snapshot (s.queueTenant q.toNat) (field c.bytes 16 4) = some x → s.sec.debug ≠ .unlocked → s.outRoom 32 = true →
    Completes (.transfer q i) s fun t => t.hold.transfers = s.hold.transfers ++ [⟨q.toNat, i, x.id, [], [], 0⟩] ∧
      (∃ o ∈ t.fabric.outbound, o.issuer = .transfer q.toNat i ∧ o.opcode = 0x40 ∧ o.dst = field c.bytes 20 2 % 16384 ∧
        o.word = BitVec.ofNat 64 (field c.bytes 24 8) ∧ o.data = sub (Config.freeBytes s.fresh 32) 0 32) ∧
      (∀ y ∈ t.hold.snapshots, y.id = x.id → y.busy = true) ∧ t.mem = s.mem) ∧
  (∀ s (q : BitVec 16) i c, s.inputsGo = true → s.acts q.toNat i clsHold 0x07 c → c.phase = .dispatched →
    (s.snapshot (s.queueTenant q.toNat) (field c.bytes 16 4)).isSome = true → s.sec.debug = .unlocked →
    Completes (.transfer q i) s fun t => t = ((s.inputOf (.transfer q i)).endRun q.toNat i .denied 0 0).settle)

/-- For an admitted transfer message: XFER_ATTEST queues a report request and its response waits for it. XFER_OFFER for a
pending RECEIVE, with a header that holds, records the header and is answered OK; XFER_CHUNK within the body is kept;
XFER_COMMIT of a whole parcel whose checks hold commits it, ends the RECEIVE OK with the snapshot's ID and is answered
OK; XFER_ABORT ends the RECEIVE with ABORTED. One that names no pending RECEIVE and no committed rendezvous is DENIED. -/
def Obligations.TransferMessagesAreTaken : Prop :=
  (∀ s r, s.admits (.xferAttest r) 0x40 r = true → Completes (.xferAttest r) s fun t =>
    t.sec.reports = s.sec.reports ++ [⟨.fabric r, sub r.ops 0 32, if r.opslots = 2 then 0 else 2, attestIds r⟩] ∧
    .attest r true ∈ t.fabric.parked ∧ t.mem = s.mem) ∧
  (∀ s r u x, u = s.arrived (.xferOffer r) 0x41 r → s.admits (.xferOffer r) 0x41 r = true → u.committed r = false →
    u.receiveFor r = some x →
    headerOk (sub r.data 0 256) (hdrLength (sub r.data 0 256)) = true → hdrDest (sub r.data 0 256) = true →
    u.mayTake (sub r.data 0 256) = true → Completes (.xferOffer r) s fun t =>
      t.hold = (u.updReceive x fun y => { y with header := some (sub r.data 0 256), got := 0, chunks := [] }).hold ∧
      t.mem = s.mem ∧ t.sends r.port.val (responseTo 0x41 r { status := .ok })) ∧
  (∀ s r u x h, u = s.arrived (.xferChunk r) 0x42 r → s.admits (.xferChunk r) 0x42 r = true → u.receiveFor r = some x →
    x.header = some h → r.offset.toNat + r.length.toNat ≤ hdrLength h → Completes (.xferChunk r) s fun t =>
      t.hold = (u.updReceive x fun y => { y with
        got := y.got + r.length.toNat, chunks := y.chunks ++ [(r.offset.toNat, sub r.data 0 r.length.toNat)] }).hold ∧
      t.mem = s.mem ∧ t.sends r.port.val (responseTo 0x42 r { status := .ok })) ∧
  (∀ s r u x h body f y z, u = s.arrived (.xferCommit r r.word) 0x43 r → s.admits (.xferCommit r r.word) 0x43 r = true →
    u.committed r = false → u.receiveFor r = some x → x.header = some h → x.got = hdrLength h → joined x.chunks = some body →
    u.target (u.queueTenant x.q) x.target = some f → u.importCheck f h body = .ok y →
    z = u.commitImport f y x.q (sub h 0x30 48) → s.fabric.parked = [] → Completes (.xferCommit r r.word) s fun t =>
      t.hold = (z.1.endReceive x .ok (BitVec.ofNat 64 z.2)).hold ∧ t.queues = (z.1.endReceive x .ok (BitVec.ofNat 64 z.2)).queues ∧
      t.sends r.port.val (responseTo 0x43 r { status := .ok })) ∧
  (∀ s r u x, u = s.arrived (.xferAbort r) 0x44 r → s.admits (.xferAbort r) 0x44 r = true → u.receiveFor r = some x →
    Completes (.xferAbort r) s fun t =>
    t.hold = (u.endReceive x .aborted 0).hold ∧ t.queues = (u.endReceive x .aborted 0).queues ∧ t.mem = s.mem ∧
    t.sends r.port.val (responseTo 0x44 r { status := .ok })) ∧
  (∀ s r, (s.receiveFor r).isNone = true → s.committed r = false →
    (s.admits (.xferOffer r) 0x41 r = true → Completes (.xferOffer r) s fun t => t.hold = s.hold ∧
      t.sends r.port.val (responseTo 0x41 r { status := .denied })) ∧
    (s.admits (.xferAbort r) 0x44 r = true → Completes (.xferAbort r) s fun t => t.hold = s.hold ∧
      t.sends r.port.val (responseTo 0x44 r { status := .denied })))

/-- While sessions are served, TCP_CONNECT opens a session in no role while fewer than four are open and answers a fifth
with a reset. TLS_HANDSHAKE_DONE gives the role of R632, or ends the session with certificate_required or
access_denied. SESSION_IDLE_TIMEOUT and SESSION_CLOSE remove the session, free the lock if it held it, and let its own
REVOKE take effect. An IPv4 frame changes nothing; a solicitation of an own address and an echo are answered; a Router
Advertisement forms one more address. Memory and the power state do not change. -/
def Obligations.SessionsOpenAndCloseAndTheNetworkIsAnswered : Prop :=
  (∀ s n, s.mgmtUp = true → (s.bureau.sessions.any (·.id == n)) = false → s.bureau.sessions.length < 4 →
    Completes (.tcpConnect n) s fun t => t = { s with bureau.sessions := s.bureau.sessions ++
      [{ id := n, role := none, cert := [], on := false, buffer := [], dropped := 0 }] }) ∧
  (∀ s n, s.mgmtUp = true → (s.bureau.sessions.any (·.id == n)) = false → 4 ≤ s.bureau.sessions.length →
    Completes (.tcpConnect n) s fun t => t = s.emit (.closed n "reset")) ∧
  (∀ s n der r x, s.bureau.sessions.find? (fun y => y.id == n && y.role.isNone) = some x →
    ((Config.x509 der).bind (·.p384)).isSome = true → s.roleFor (Config.sha384 der) = some r →
    Completes (.tlsHandshakeDone n (.certificate der)) s fun t => t.mem = s.mem ∧ t.power = s.power ∧
      t.bureau.creds = s.bureau.creds ∧ t.bureau.sessions = s.bureau.sessions.map fun (y : Session) =>
        if y.id = n then { y with role := some r, cert := Config.sha384 der } else y) ∧
  (∀ s n der x, s.bureau.sessions.find? (fun y => y.id == n && y.role.isNone) = some x →
    ((Config.x509 der).bind (·.p384)).isSome = true → s.roleFor (Config.sha384 der) = none →
    Completes (.tlsHandshakeDone n (.certificate der)) s fun t => (t.bureau.sessions.any (·.id == n)) = false ∧
      .closed n "access_denied" ∈ t.out) ∧
  (∀ s n der x, s.bureau.sessions.find? (fun y => y.id == n && y.role.isNone) = some x →
    ((Config.x509 der).bind (·.p384)).isSome = false →
    Completes (.tlsHandshakeDone n (.certificate der)) s fun t => (t.bureau.sessions.any (·.id == n)) = false ∧
      .closed n "certificate_required" ∈ t.out) ∧
  (∀ s n x, s.bureau.sessions.find? (fun y => y.id == n && y.role.isNone) = some x →
    Completes (.tlsHandshakeDone n .noCertificate) s fun t => (t.bureau.sessions.any (·.id == n)) = false ∧
      .closed n "certificate_required" ∈ t.out) ∧
  (∀ (s : State) h c, s.bureau.creds.find? (·.1 == h) = some c → s.roleFor h = some (if c.2 = 0 then .admin else .observer)) ∧
  (∀ (s : State) h, s.bureau.creds.find? (·.1 == h) = none → (s.roleFor h = some .enroller ↔
    (s.bureau.creds.any (·.2 == 0)) = false ∨ s.sec.lifecycle = .returned ∨ s.bureau.presence = true)) ∧
  (∀ s n, (s.bureau.sessions.any (·.id == n)) = true →
    (∀ c, c = .sessionIdleTimeout n ∨ c = .sessionClose n → Completes c s fun t =>
      (t.bureau.sessions.any (·.id == n)) = false ∧ t.bureau.lock ≠ .session n ∧ t.mem = s.mem ∧ t.power = s.power ∧
      ∀ h, (n, h) ∈ s.bureau.revoked → ∀ r, (h, r) ∉ t.bureau.creds)) ∧
  (∀ s, Completes .ipv4Frame s fun t => t = s) ∧
  (∀ s a, s.mgmtLink = true → s.addresses.contains a = true → Completes (.neighborDiscovery a) s fun t =>
    t = s.emit (.net "advertisement" (a ++ s.bureau.mac))) ∧
  (∀ s net, s.mgmtLink = true → s.bureau.addresses.contains (sub net 0 8 ++ eui64 s.bureau.mac) = false →
    Completes (.routerAdvertisement net) s fun t =>
      t = { s with bureau.addresses := s.bureau.addresses ++ [sub net 0 8 ++ eui64 s.bureau.mac] }) ∧
  (∀ s p, s.mgmtLink = true → Completes (.icmpv6Echo p) s fun t => t = s.emit (.net "echo" p))

/-- From a served session in an allowed role and state, HEALTH replies with the CBOR map of the node state, health, triggers,
claim, roles, spares, ports up, stop cause and MAC address; TELEMETRY and SCRUB_STATUS reply OK, each with its keys; none of
them changes anything but the record of replies and the input count. SUBSCRIBE also sets the session on or off. From a session
of a role that may not send it, TELEMETRY gets DENIED; outside READY it gets NOT_READY; a request whose envelope or body is
wrong, or whose type Table 18–1 lacks, gets FORMAT under the type that it names; none has any other effect. A message that is
not CBOR closes the session. -/
def Obligations.BureauReadsReplyAndChangeNothingElse : Prop :=
  (∀ s m r, s.hears m r 0x01 noBody () = true → s.inStates true true true = true → Completes (.health m) s fun t =>
    t = (s.inputOf (.health m)).emit (replyTo m.session m.reqId 0x01 .ok [(1, cborText s.power.node.name),
      (2, cborText s.healthNow.name), (3, cborArray (s.activeTriggers.map cborText)),
      (4, cborArray [cborUint s.bench.claim.toNat, cborText s.bench.roleA.name, cborText s.bench.roleB.name, cborText s.bench.roleC.name]),
      (5, cborArray ((List.range s.power.part.slices).map fun n => cborUint (s.stk n).spares)), (6, cborUint s.portsUp),
      (7, cborBytes (leBytes 8 s.stopCauseWord ++ leBytes 8 s.power.maxSeq)), (8, cborBytes s.bureau.mac)])) ∧
  (∀ s m r, s.hears m r 0x02 noBody () = true → r ≠ .enroller → s.power.node = .ready → Completes (.telemetry m) s fun t => ∃ body,
    body.map (·.1) = [1, 2, 3, 4, 5] ∧ body.item 3 = some (cborUint s.power.vinMv) ∧
    t = (s.inputOf (.telemetry m)).emit (replyTo m.session m.reqId 0x02 .ok body)) ∧
  (∀ s m r, s.hears m r 0x08 noBody () = true → r ≠ .enroller → s.power.node = .ready → Completes (.scrubStatus m) s fun t => ∃ body,
    body.map (·.1) = [1, 2, 3] ∧ t = (s.inputOf (.scrubStatus m)).emit (replyTo m.session m.reqId 0x08 .ok body)) ∧
  (∀ s m r on, s.hears m r 0x0F boolBody on = true → r ≠ .enroller → s.inStates true true true = true → Completes (.subscribe m on) s fun t =>
    t = { s.inputOf (.subscribe m on) with bureau.sessions := s.bureau.sessions.map fun (x : Session) =>
      if x.id = m.session then { x with on := on } else x }.emit (replyTo m.session m.reqId 0x0F .ok [])) ∧
  (∀ s m, s.hears m .enroller 0x02 noBody () = true → Completes (.telemetry m) s fun t =>
    t = (s.inputOf (.telemetry m)).emit (replyTo m.session m.reqId 0x02 .denied [])) ∧
  (∀ s m r, s.hears m r 0x02 noBody () = true → r ≠ .enroller → s.power.node ≠ .ready → Completes (.telemetry m) s fun t =>
    t = (s.inputOf (.telemetry m)).emit (replyTo m.session m.reqId 0x02 .notReady [])) ∧
  (∀ s m r, s.listens m r = true → m.read 0x02 noBody () = .bad → Completes (.telemetry m) s fun t =>
    t = (s.inputOf (.telemetry m)).emit (replyTo m.session m.reqId m.typ .format [])) ∧
  (∀ s m r, s.listens m r = true → m.read 0x02 noBody () = .notCbor → Completes (.telemetry m) s fun t =>
    t = (s.inputOf (.telemetry m)).closeSession m.session "decode_error")

/-- FAULT_READ replies with the entries from its start index, the head, tail and overflow count, and changes nothing else.
FAULT_ACK with a head between the current one and the tail sets FAULT_HEAD, any other leaves it, and its clear flag
clears the overflow count; nothing else but the reply changes. NODE_RESET replies OK, enters OFF with cause NODE_RESET
and is due to start again, with memory lost. LOCK release frees the session's own lock and leaves any other holder;
acquire takes a free lock or keeps its own; acquire by force also takes the host port's, with CONFIG_LOCK_BROKEN;
another holder keeps it and the reply is NOT_READY. -/
def Obligations.LogsResetsAndTheLockFollowTheBureau : Prop :=
  (∀ s m r start n, s.hears m r 0x03 faultReadBody (start, n) = true → r ≠ .enroller → s.inStates true true true = true →
    Completes (.faultRead m start n) s fun t => t = (s.inputOf (.faultRead m start n)).emit (replyTo m.session m.reqId 0x03 .ok
      [(1, cborArray ((List.range n).filterMap fun k =>
          (s.events.fault.entryAt (BitVec.ofNat 32 start + BitVec.ofNat 32 k)).map fun e => cborBytes e.bytes)),
        (2, cborUint s.events.fault.head.toNat), (3, cborUint s.events.fault.tail.toNat), (4, cborUint s.events.fault.overflow)])) ∧
  (∀ s m (h : W32) clear, s.hears m .admin 0x04 faultAckBody (h.toNat, clear) = true → s.inStates true true true = true → Completes (.faultAck m h.toNat clear) s fun t =>
    t.events.fault.head = (if (h - s.events.fault.head).toNat ≤ (s.events.fault.tail - s.events.fault.head).toNat then h
      else s.events.fault.head) ∧ t.events.fault.overflow = (if clear then 0 else s.events.fault.overflow) ∧
    t.events.fault.tail = s.events.fault.tail ∧ t.events.fault.slots = s.events.fault.slots ∧
    { t with out := s.out, events := s.events } = s.inputOf (.faultAck m h.toNat clear) ∧ { t.events with fault := s.events.fault } = s.events ∧
    t.replies m 0x04 .ok) ∧
  (∀ s m, s.hears m .admin 0x0D noBody () = true → s.inStates true true true = true → Completes (.nodeReset m) s fun t =>
    t.power.node = .off ∧ t.power.restartDue = true ∧ t.mem = [] ∧ t.replies m 0x0D .ok ∧
    (s.power.node ≠ .failed → t.power.stopCause = causeNodeReset)) ∧
  (∀ s m, s.hears m .admin 0x0E (uintBody (· < 3)) 0 = true → s.inStates true true false = true → Completes (.lockRelease m) s fun t =>
    t.bureau.lock = (if s.bureau.lock = .session m.session then .free else s.bureau.lock) ∧ t.replies m 0x0E .ok ∧ t.mem = s.mem) ∧
  (∀ s m c a, (c = .lockAcquire m ∧ a = 1) ∨ (c = .lockAcquireForce m ∧ a = 2) → s.hears m .admin 0x0E (uintBody (· < 3)) a = true →
    s.inStates true true false = true → s.bureau.lock = .free ∨ s.bureau.lock = .session m.session → Completes c s fun t =>
      t = { s.inputOf c with bureau.lock := .session m.session }.emit (replyTo m.session m.reqId 0x0E .ok [(1, cborUint 2)])) ∧
  (∀ s m c a i, (c = .lockAcquire m ∧ a = 1) ∨ (c = .lockAcquireForce m ∧ a = 2) → s.hears m .admin 0x0E (uintBody (· < 3)) a = true →
    s.inStates true true false = true → s.bureau.lock = .session i → i ≠ m.session → Completes c s fun t =>
      t = (s.inputOf c).emit (replyTo m.session m.reqId 0x0E .notReady [(1, cborUint 3)])) ∧
  (∀ s m, s.hears m .admin 0x0E (uintBody (· < 3)) 1 = true → s.inStates true true false = true → s.bureau.lock = .host →
    Completes (.lockAcquire m) s fun t => t = (s.inputOf (.lockAcquire m)).emit (replyTo m.session m.reqId 0x0E .notReady [(1, cborUint 1)])) ∧
  (∀ s m, s.hears m .admin 0x0E (uintBody (· < 3)) 2 = true → s.inStates true true false = true → s.bureau.lock = .host → s.ringRoom = true →
    Completes (.lockAcquireForce m) s fun t => t.bureau.lock = .session m.session ∧ t.mem = s.mem ∧
      t.eventAt s.events.ring.tail = some Ev.configLockBroken.code ∧ t.replies m 0x0E .ok)

/-- ENROLL of an admin adds a new entry while there are fewer than 16, replaces the role of an enrolled one, and fails
with RANGE at 16; of an enroller it is DENIED once an admin entry is stored. REVOKE removes an entry, is DENIED for
the last admin entry, and of the session's own entry waits for the session to close. JOINERY_KEY in AWAIT_JOINERY
before any accepted image programs the next of eight slots with the key's SHA-384 and raises JOINERY_KEY_ENROLLED.
CRED_RESET of an enroller empties the store, closes every other session and keeps the key bank. -/
def Obligations.CredentialsAndJoineryKeysAreManaged : Prop :=
  (∀ s m cert role, s.hears m .admin 0x10 enrollBody (cert, role) = true → s.inStates true true false = true →
    (s.bureau.creds.any (·.1 == Config.sha384 cert)) = false → s.bureau.creds.length < 16 → Completes (.enroll m cert role) s fun t =>
      t = { s.inputOf (.enroll m cert role) with bureau.creds := s.bureau.creds ++ [(Config.sha384 cert, role)] }.emit
        (replyTo m.session m.reqId 0x10 .ok [(1, cborUint (s.bureau.creds.length + 1))])) ∧
  (∀ s m cert role, s.hears m .admin 0x10 enrollBody (cert, role) = true → s.inStates true true false = true →
    (s.bureau.creds.any (·.1 == Config.sha384 cert)) = true → Completes (.enroll m cert role) s fun t =>
      (∀ c ∈ t.bureau.creds, c.1 = Config.sha384 cert → c.2 = role) ∧ t.bureau.creds.length = s.bureau.creds.length ∧
      t.bureau.creds.filter (·.1 != Config.sha384 cert) = s.bureau.creds.filter (·.1 != Config.sha384 cert) ∧ t.replies m 0x10 .ok) ∧
  (∀ s m cert role, s.hears m .admin 0x10 enrollBody (cert, role) = true → s.inStates true true false = true →
    (s.bureau.creds.any (·.1 == Config.sha384 cert)) = false → 16 ≤ s.bureau.creds.length → Completes (.enroll m cert role) s fun t =>
      t = (s.inputOf (.enroll m cert role)).emit (replyTo m.session m.reqId 0x10 .range [])) ∧
  (∀ s m cert role, s.hears m .enroller 0x10 enrollBody (cert, role) = true → s.inStates true true false = true →
    (s.bureau.creds.any (·.2 == 0)) = true → Completes (.enroll m cert role) s fun t =>
      t = (s.inputOf (.enroll m cert role)).emit (replyTo m.session m.reqId 0x10 .denied [])) ∧
  (∀ s m (h : List Byte), s.hears m .admin 0x11 (bytesBody (·.length == 48)) h = true → s.inStates true true false = true →
    ((s.bureau.creds.filter (·.1 != h)).any (·.2 == 0)) = true →
    (s.bureau.sessions.any fun x => x.id == m.session && x.cert == h) = false → Completes (.revoke m h) s fun t =>
      t = { s.inputOf (.revoke m h) with bureau.creds := s.bureau.creds.filter (·.1 != h) }.emit
        (replyTo m.session m.reqId 0x11 .ok [(1, cborUint (s.bureau.creds.filter fun (c : List Byte × Nat) => c.1 != h).length)])) ∧
  (∀ s m (h : List Byte), s.hears m .admin 0x11 (bytesBody (·.length == 48)) h = true → s.inStates true true false = true →
    (h, 0) ∈ s.bureau.creds → ((s.bureau.creds.filter (·.1 != h)).any (·.2 == 0)) = false → Completes (.revoke m h) s fun t =>
      t = (s.inputOf (.revoke m h)).emit (replyTo m.session m.reqId 0x11 .denied [])) ∧
  (∀ s m (h : List Byte), s.hears m .admin 0x11 (bytesBody (·.length == 48)) h = true → s.inStates true true false = true →
    ((s.bureau.creds.filter (·.1 != h)).any (·.2 == 0)) = true →
    (s.bureau.sessions.any fun x => x.id == m.session && x.cert == h) = true → Completes (.revoke m h) s fun t =>
      t.bureau.creds = s.bureau.creds ∧ (m.session, h) ∈ t.bureau.revoked ∧ t.replies m 0x11 .ok) ∧
  (∀ s m key, s.hears m .admin 0x12 (bytesBody (·.length == 97)) key = true → s.power.node = .awaitJoinery → s.jny.everOk = false →
    s.sec.keys.length < 8 → s.ringRoom = true → Completes (.joineryKey m key) s fun t =>
      t.sec = { s.sec with keys := s.sec.keys ++ [Config.sha384 key] } ∧ t.replies m 0x12 .ok ∧ t.mem = s.mem ∧
      t.eventAt s.events.ring.tail = some Ev.joineryKeyEnrolled.code) ∧
  (∀ s m, s.hears m .enroller 0x13 noBody () = true → s.inStates true true false = true → s.ringRoom = true → Completes (.credReset m) s fun t =>
    t.bureau.creds = [] ∧ (∀ x ∈ t.bureau.sessions, x.id = m.session) ∧ t.sec = s.sec ∧ t.mem = s.mem ∧
    (∀ i, s.bureau.lock = .session i → i ≠ m.session → (s.bureau.sessions.any (·.id == i)) = true → t.bureau.lock = .free) ∧
    t.replies m 0x13 .ok ∧
    t.eventAt s.events.ring.tail = some Ev.credentialsReset.code)

/-- CHALLENGE makes its 32 bytes the one valid challenge and replies with them; CHALLENGE_EXPIRY ends it. ATTEST queues
its request. REPORT_SIGNED completes the oldest one toward the host port, the session or the endpoint that asked. A TOKEN that
is none, does not verify, or names another serial or challenge, is DENIED, raises TOKEN_REJECTED and changes no lifecycle,
debug state or memory. A good token of action 2 in MANUFACTURE enters DEPLOYED, of action 3 in AWAIT_JOINERY enters RETURNED
from DEPLOYED. One of action 1, outside MANUFACTURE and while the debug state is not UNLOCKED, unlocks debug with the flag of
the stop record set; while R620 bars it, NOT_READY and no effect. -/
def Obligations.ChallengesTokensAndReportsAreServed : Prop :=
  (∀ s m random, s.hears m .admin 0x14 noBody () = true → s.inStates true true false = true → Completes (.challenge m random) s fun t =>
    t = { s.inputOf (.challenge m random) with sec.challenge := some (sub random 0 32) }.emit
      (replyTo m.session m.reqId 0x14 .ok [(1, cborBytes (sub random 0 32))])) ∧
  (∀ s, s.inputsGo = true → Completes .challengeExpiry s fun t => t = { s.inputOf .challengeExpiry with sec.challenge := none }) ∧
  (∀ s m r nonce scope ids, s.hears m r 0x05 attestBody (nonce, scope, ids) = true → s.inStates true true true = true →
    Completes (.attest m nonce scope ids) s fun t => t = { s.inputOf (.attest m nonce scope ids) with
      sec.reports := s.sec.reports ++ [{ by_ := .session m.session m.reqId, nonce := nonce, scope := scope, ids := ids }] }) ∧
  (∀ s sig r rest b, s.sec.reports = r :: rest → s.mayReport = true → s.inputsGo = true →
    b = ({ s.inputOf (.reportSigned sig) with sec.reports := rest } : State).signedReport r sig →
    (∀ q, r.by_ = .fabric q → (s.port q.port.val).openEnded = true) → Completes (.reportSigned sig) s fun t =>
    t.sec.reports = rest ∧ t.mem = s.mem ∧ (r.by_ = .host → t.host.attBusy = false ∧ t.host.report = b) ∧
    (∀ i q, r.by_ = .session i q → (s.bureau.sessions.any (·.id == i)) = true → replyTo i q 0x05 .ok [(1, cborBytes b)] ∈ t.out) ∧
    (∀ q, r.by_ = .fabric q → .attest q true ∈ s.fabric.parked → (s.port q.port.val).hasSession = true →
      t.sends q.port.val (responseTo 0x40 q { status := .ok, data := b }))) ∧
  (∀ s m bytes, s.hears m .admin 0x15 (bytesBody fun _ => true) bytes = true → s.inStates true true false = true → s.ringRoom = true →
    (∀ k, Config.coseToken bytes = some k → coseVerifies Config.serviceKeyDigest k.signed k.sig = false ∨
      k.serial ≠ s.sec.serial ∨ some k.challenge ≠ s.sec.challenge) → Completes (.token m bytes) s fun t =>
      t.sec = s.sec ∧ t.mem = s.mem ∧ t.power = s.power ∧ t.replies m 0x15 .denied ∧
      t.eventAt s.events.ring.tail = some Ev.tokenRejected.code) ∧
  (∀ s m bytes k, s.hears m .admin 0x15 (bytesBody fun _ => true) bytes = true → s.inStates true true false = true → s.ringRoom = true →
    Config.coseToken bytes = some k → coseVerifies Config.serviceKeyDigest k.signed k.sig = true →
    k.serial = s.sec.serial → some k.challenge = s.sec.challenge →
    (k.action = 2 → s.sec.lifecycle = .manufacture → Completes (.token m bytes) s fun t =>
      t.sec = { s.sec with lifecycle := .deployed } ∧ t.replies m 0x15 .ok ∧ t.mem = s.mem ∧
      t.eventAt s.events.ring.tail = some Ev.lifecycleChanged.code) ∧
    (k.action = 3 → s.sec.lifecycle = .deployed → s.power.node = .awaitJoinery → Completes (.token m bytes) s fun t =>
      t.sec = { s.sec with lifecycle := .returned } ∧ t.replies m 0x15 .ok ∧ t.mem = s.mem) ∧
    (k.action = 1 → s.sec.lifecycle ≠ .manufacture → s.sec.debug ≠ .unlocked → s.debugBarred = false →
      Completes (.token m bytes) s fun t => t.sec.debug = .unlocked ∧ t.power.dbgFlag = true ∧
        t.sec.lifecycle = s.sec.lifecycle ∧ t.replies m 0x15 .ok) ∧
    (k.action = 1 → s.sec.lifecycle ≠ .manufacture → s.sec.debug ≠ .unlocked → s.debugBarred = true →
      Completes (.token m bytes) s fun t => t = (s.inputOf (.token m bytes)).emit (replyTo m.session m.reqId 0x15 .notReady [])))

/-- An 8-byte read of a served register that is not an RC field gives its value to the interface that asked and changes nothing
else but what the delivery of the input changes; one of FAULT_OVERFLOW or EVT_OVERFLOW also clears that count. RS_LOW_READ
gives the low word of an RS register and leaves the reading interface a snapshot of the high word; its next 4-byte read of the
high word gives the snapshot and gives it up. A 2-byte read of a register gives all ones and is recorded as FORMAT. The
management port is served so whatever the host link does. In D3hot every read of BAR0 by the host port is an Unsupported
Request. -/
def Obligations.RegistersAreReadByTheirAccessCode : Prop :=
  (∀ s via off u, u = s.inputOf (.rcRead via off 8) → s.readsServed via = true → inRegisters off = true → off % 8 = 0 →
    s.serves off = true → off ≠ 0x3010 → off ≠ 0x3028 →
    Completes (.rcRead via off 8) s fun t => t = u.giveRead via off (leBytes 8 (u.reg off))) ∧
  (∀ s via, s.readsServed via = true →
    (Completes (.rcRead via 0x3010 8) s fun t => t = { s.inputOf (.rcRead via 0x3010 8) with events.fault.overflow := 0 }.giveRead
      via 0x3010 (leBytes 8 s.events.fault.overflow)) ∧
    (Completes (.rcRead via 0x3028 8) s fun t => t = { s.inputOf (.rcRead via 0x3028 8) with events.ring.overflow := 0 }.giveRead
      via 0x3028 (leBytes 8 s.events.ring.overflow))) ∧
  (∀ s via off u, u = s.inputOf (.rsLowRead via off) → s.readsServed via = true → isRs off = true → s.serves off = true →
    Completes (.rsLowRead via off) s fun t =>
      t.host.snapOf via (off + 4) = some (BitVec.ofNat 32 (u.reg off / 2 ^ 32)) ∧
      { t with host := s.host } = u.giveRead via off (leBytes 4 (u.reg off % 2 ^ 32))) ∧
  (∀ s via off v u, u = s.inputOf (.rcRead via (off + 4) 4) → s.readsServed via = true → isRs off = true → s.serves off = true →
    s.host.snapOf via (off + 4) = some v → Completes (.rcRead via (off + 4) 4) s fun t =>
      t.host.snapOf via (off + 4) = none ∧ { t with host := s.host } = u.giveRead via (off + 4) (leBytes 4 v.toNat)) ∧
  (∀ s via, s.readsServed via = true → Completes (.rcRead via 0x18 2) s fun t =>
    t = ((s.inputOf (.rcRead via 0x18 2)).giveRead via 0x18 [0xFF, 0xFF]).hostErr errRegister .format 0x18 false) ∧
  (∀ s off n, s.host.linkUp = true → s.regsUp = true → s.hostHeld = false → s.inputsGo = true → s.host.d3hot = true →
    1 ≤ n → n ≤ 4096 → Completes (.rcRead .host off n) s fun t =>
      t = (s.inputOf (.rcRead .host off n)).complete_ (.hostStatus "UR"))

/-- An 8-byte write to SYNC_OPERAND sets it and a 4-byte one only its half; a write to NODE_STATE is ignored; one into
Staging sets those bytes; a 4-byte write to SYNC_CMD or a 2-byte write to a register is discarded and recorded as
FORMAT. HOST_ERRCAP_CLEAR with bit 31 set clears VALID. FAULT_HEAD_WRITE and EVT_HEAD_WRITE set a head that lies from
the current one to the tail, and ignore any other. EVT_REARM arms the vectors of its set bits, save vector 3; with an
unconsumed entry of it, a vector is disarmed again. MSIX_UNMASK sends a held message. -/
def Obligations.RegistersAreWrittenByTheirAccessCode : Prop :=
  (∀ s v, s.hostServed = true →
    (Completes (.registerWrite 0x1308 8 v) s fun t => t = { s.inputOf (.registerWrite 0x1308 8 v) with host.operand := v }) ∧
    (Completes (.registerWrite 0x130C 4 v) s fun t => t = { s.inputOf (.registerWrite 0x130C 4 v) with
      host.operand := BitVec.ofNat 64 (s.host.operand.toNat % 2 ^ 32 + v.toNat % 2 ^ 32 * 2 ^ 32) }) ∧
    (Completes (.registerWrite 0x18 8 v) s fun t => t = s.inputOf (.registerWrite 0x18 8 v)) ∧
    (Completes (.registerWrite 0x1300 4 v) s fun t =>
      t = (s.inputOf (.registerWrite 0x1300 4 v)).hostErr errRegister .format 0x1300 false) ∧
    (Completes (.registerWrite 0x1308 2 v) s fun t =>
      t = (s.inputOf (.registerWrite 0x1308 2 v)).hostErr errRegister .format 0x1308 false)) ∧
  (∀ s i n v, s.hostServed = true → 1 ≤ n → n ≤ 8 → i + n ≤ 0x1000000 → Completes (.registerWrite (0x1000000 + i) n v) s fun t =>
    t = { s.inputOf (.registerWrite (0x1000000 + i) n v) with jny.staging := FMap.setRun 0 s.jny.staging i ((leBytes 8 v.toNat).take n) }) ∧
  (∀ s (w : HostWrite), s.hostServed = true → w.size = 4 ∨ w.size = 8 → bitOf w.value.toNat 31 = true →
    Completes (.hostErrcapClear w) s fun t => t = { s.inputOf (.hostErrcapClear w) with host.errValid := false }) ∧
  (∀ s (w : HostWrite) (h : W32), s.hostServed = true → w.size = 8 → h = w.value.truncate 32 →
    (Completes (.faultHeadWrite w) s fun t => t = { s.inputOf (.faultHeadWrite w) with events.fault.head :=
      if (h - s.events.fault.head).toNat ≤ (s.events.fault.tail - s.events.fault.head).toNat then h else s.events.fault.head }) ∧
    (Completes (.evtHeadWrite w) s fun t => t = { s.inputOf (.evtHeadWrite w) with events.ring.head :=
      if (h - s.events.ring.head).toNat ≤ (s.events.ring.tail - s.events.ring.head).toNat then h else s.events.ring.head })) ∧
  (∀ s (i : Fin 4) (w : HostWrite) v, s.hostServed = true → w.size = 8 → v < 256 → v / 64 = i.val → v ≠ 3 →
    Completes (.evtRearm i w) s fun t => t.events.ring = s.events.ring ∧ t.mem = s.mem ∧ t.events.armed.getLsbD v =
      (if bitOf w.value.toNat (v % 64) then !s.events.ring.holds v else s.events.armed.getLsbD v)) ∧
  (∀ s (v : Fin 256), s.hostServed = true → Completes (.msixUnmask v) s fun t =>
    t.events.masked.getLsbD v.val = false ∧ t.events.pba.getLsbD v.val = false ∧ t.mem = s.mem ∧
    t.out = s.out ++ (if s.events.pba.getLsbD v.val then [.msix v.val] else []))

/-- HOST_LOCK_ACQ takes a free lock and leaves a session's; HOST_LOCK_REL frees the host port's. ATT_CTRL with a legal
length, scope and count queues a report request and is busy; while busy it is refused with NOT_READY. The mailbox ADD,
SET, READ and WAIT on a counter that the host reaches and no set freezes write SYNC_RESULT, SYNC_VALUE and SYNC_BEFORE
with the operation's outcome, and the counter or wait with its effect; an unconfigured counter gives DENIED and zeros.
COUNTER_WINDOW_ADD adds. HOST_UNSUPPORTED_REQUEST is answered UR and changes nothing else. -/
def Obligations.HostCommandRegistersAct : Prop :=
  (∀ s (w : HostWrite), s.hostServed = true → w.size = 8 → s.inStates true true false = true →
    (s.bureau.lock = .free → Completes (.hostLockAcq w) s fun t => t = { s.inputOf (.hostLockAcq w) with bureau.lock := .host }) ∧
    (∀ i, s.bureau.lock = .session i → Completes (.hostLockAcq w) s fun t => t = s.inputOf (.hostLockAcq w)) ∧
    (s.bureau.lock = .host → Completes (.hostLockRel w) s fun t => t = { s.inputOf (.hostLockRel w) with bureau.lock := .free })) ∧
  (∀ s (w : HostWrite), s.hostServed = true → w.size = 8 → s.mayReport = true → s.host.attBusy = false →
    1 ≤ bits w.value.toNat 6 0 → bits w.value.toNat 6 0 ≤ 64 → bits w.value.toNat 9 8 < 3 → bits w.value.toNat 22 16 ≤ 64 →
    Completes (.attCtrl w) s fun t => t.host.attBusy = true ∧ t.mem = s.mem ∧ ∃ r, t.sec.reports = s.sec.reports ++ [r] ∧
      r.by_ = .host ∧ r.nonce = FMap.getRun s.host.attNonce 0 0 (bits w.value.toNat 6 0) ∧ r.scope = bits w.value.toNat 9 8 ∧
      r.ids.length = bits w.value.toNat 22 16) ∧
  (∀ s (w : HostWrite), s.hostServed = true → w.size = 8 → s.host.attBusy = true → Completes (.attCtrl w) s fun t =>
    t = { s.inputOf (.attCtrl w) with host.attStatus := Status.notReady.code }.hostErr errCommand .notReady 0x1140 false) ∧
  (∀ s (w : HostWrite) n tn, s.hostServed = true → w.size = 8 → s.power.node = .ready → n = bits w.value.toNat 49 32 →
    s.counterTenant n = some tn → s.hostReaches tn = true → s.counterFrozen n = false →
    ((s.counter n).sat = false → (s.counter n).value.toNat + s.host.operand.toNat < 2 ^ 64 → Completes (.syncCmdAdd w) s fun t =>
      t.host.syncStatus = Status.ok.code ∧ t.host.syncValue = (s.counter n).value + s.host.operand ∧
      t.host.syncBefore = (s.counter n).value ∧ t.mem = s.mem ∧
      (s.settled → t.counter n = { value := (s.counter n).value + s.host.operand, sat := false })) ∧
    (Completes (.syncCmdSet w) s fun t => t.host.syncStatus = Status.ok.code ∧ t.host.syncValue = s.host.operand ∧
      t.host.syncBefore = (s.counter n).value ∧ t.mem = s.mem ∧
      (s.settled → t.counter n = { value := s.host.operand, sat := false })) ∧
    (Completes (.syncCmdRead w) s fun t => t.host.syncStatus = Status.ok.code ∧ t.host.syncValue = (s.counter n).value ∧
      t.host.syncBefore = (s.counter n).value ∧ t.host.syncFlags = b2n (s.counter n).sat ∧ t.mem = s.mem ∧
      (s.settled → t.sync = s.sync)) ∧
    (∀ tg, targetOf (FMap.getRun s.host.target 0 0 16) = some tg → (s.counter n).sat = false →
      (s.counter n).value.toNat < s.host.operand.toNat → s.targetOk tn tg = true → s.waitsFree tn 1 = true →
      Completes (.syncCmdWait w) s fun t => t.host.syncStatus = Status.ok.code ∧ t.host.syncFlags = 4 ∧ t.mem = s.mem ∧
        (s.settled → t.sync.waits = s.sync.waits ++ [
          { id := s.sync.nextWait, counter := n, threshold := s.host.operand
            owner := .host, target := some tg, tenant := tn, phase := .waiting }]))) ∧
  (∀ s (w : HostWrite), s.hostServed = true → w.size = 8 → s.power.node = .ready →
    s.counterTenant (bits w.value.toNat 49 32) = none →
    ∀ c, c = .syncCmdAdd w ∨ c = .syncCmdSet w ∨ c = .syncCmdRead w → Completes c s fun t =>
      t.host.syncStatus = Status.denied.code ∧ t.host.syncValue = 0 ∧ t.host.syncBefore = 0 ∧ t.host.syncFlags = 0) ∧
  (∀ s (n : BitVec 18) (w : HostWrite) tn, s.hostServed = true → w.size = 8 → s.power.node = .ready →
    s.counterTenant n.toNat = some tn → s.hostReaches tn = true → s.counterFrozen n.toNat = false →
    (s.counter n.toNat).sat = false → (s.counter n.toNat).value.toNat + w.value.toNat < 2 ^ 64 →
    Completes (.counterWindowAdd n w) s fun t => t.host = s.host ∧ t.mem = s.mem ∧
      (s.settled → t.counter n.toNat = { value := (s.counter n.toNat).value + w.value, sat := false })) ∧
  (∀ s k, s.host.linkUp = true → Completes (.hostUnsupportedRequest k) s fun t => t = s.complete_ (.hostStatus "UR"))

/-- A BAR2 read inside one clean line of a host-visible drawer answers its bytes and changes no memory; outside every
window it answers ones and is recorded as RANGE; before READY it answers ones and is recorded as NOT_READY. A BAR2
write of a whole line stores it and changes no other byte. PERST_N, a hot reset and FLR mask and arm every vector,
empty the event ring, free the host's lock, leave no host-owned wait waiting, and keep the fault log, the memory and
the node state; no completion of a read waits any more. A BAR2 read behind a host write that waits for a reserve block waits
in its turn. PERST_N_DEASSERT trains the link once SEAL_BOOT is over: at ×16 with both cables, at ×8 or narrower with J1
alone, not at all without J1. D3HOT_ENTRY changes one bit. -/
def Obligations.Bar2AndFunctionResetsAct : Prop :=
  (∀ s off n d o, s.barOpen = true → s.hostHeld = false → s.host.d3hot = false → s.power.node = .ready → s.inputsGo = true →
    s.bench.throttled = false → 1 ≤ n → off % 64 + n ≤ 64 → off + n ≤ bar2Size → s.window off = some (d, o) →
    s.drawerFrozen d = false → s.sweeping d = false → s.undamaged → s.tagOk d (o / 64) = true → s.poisonBit d (o / 64) = false →
    s.livePlaces d (o / 64 / 1024) ≠ [] → Completes (.bar2Read off n []) s fun t =>
      .hostRead 2 off (sub (s.lineBytes d (o / 64)) (off % 64) n) false ∈ t.out ∧ t.mem = s.mem ∧ t.host = s.host) ∧
  (∀ s off n, s.barOpen = true → s.hostHeld = false → s.host.d3hot = false → s.power.node = .ready → s.inputsGo = true →
    s.bench.throttled = false → 1 ≤ n → off % 64 + n ≤ 64 → off + n ≤ bar2Size → s.window off = none → s.host.errValid = false →
    Completes (.bar2Read off n []) s fun t => .hostRead 2 off (List.replicate n 0xFF) false ∈ t.out ∧ t.mem = s.mem ∧
      t.host.errValid = true ∧ t.host.errKind = errBar2Read ∧ t.host.errStatus = Status.range.code) ∧
  (∀ s off n found, s.barOpen = true → s.hostHeld = false → s.host.d3hot = false → s.power.node ≠ .ready → s.inputsGo = true →
    1 ≤ n → n ≤ 4096 → off + n ≤ bar2Size → Completes (.bar2Read off n found) s fun t =>
      t = ((s.inputOf (.bar2Read off n found)).complete_ (.hostRead 2 off (List.replicate n 0xFF) false)).hostErr
        errBar2Read .notReady off true) ∧
  (∀ s off data d o u, s.barOpen = true → s.hostHeld = false → s.host.d3hot = false → s.power.node = .ready → s.inputsGo = true →
    data.length = 64 → off % 64 = 0 → off + 64 ≤ bar2Size → s.window off = some (d, o) → s.drawerFrozen d = false →
    s.sweeping d = false → u = (s.inputOf (.bar2Write off data [])).withFound [] → u.claimRange d o 64 = some u →
    s.livePlaces d (o / 64 / 1024) ≠ [] →
    Completes (.bar2Write off data []) s fun t => (∀ i, i < 64 → t.byteOf d (o + i) = data.getD i 0) ∧ t.host = s.host ∧
      ∀ e x, x < 2 ^ 40 → ¬ (e = d ∧ o ≤ x ∧ x < o + 64) → t.byteOf e x = s.byteOf e x) ∧
  (∀ s c, c = .perstNAssert ∨ (s.host.linkUp = true ∧ (c = .hotReset ∨ c = .flr)) → Completes c s fun t =>
    t.events.masked = BitVec.allOnes 256 ∧ t.events.armed = BitVec.allOnes 256 ∧ t.events.ring.unread = 0 ∧
    t.events.ring.overflow = 0 ∧ t.events.fault = s.events.fault ∧ t.host.d3hot = false ∧
    t.bureau.lock = (if s.bureau.lock = .host then .free else s.bureau.lock) ∧
    (∀ w ∈ t.sync.waits, w.owner = .host → w.isWaiting = false) ∧ t.mem = s.mem ∧ t.power.node = s.power.node ∧
    t.jny = s.jny ∧ t.sec = s.sec ∧ t.ports = s.ports ∧ (c = .perstNAssert → t.host.linkUp = false ∧ t.host.perstLow = true) ∧
    t.delayed = [] ∧ t.host.waiting = s.host.waiting.filter (!isHostRead ·)) ∧
  (∀ s off n found, s.barOpen = true → s.hostHeld = true → 1 ≤ n → n ≤ 4096 → Completes (.bar2Read off n found) s fun t =>
    t = { s with host.waiting := s.host.waiting ++ [.bar2Read off n found] }) ∧
  (∀ s j1 j2 partner, Config.hostCabling s.time = (j1, j2, partner) → s.host.perstLow = true → s.power.tripped = false →
    s.power.node ≠ .off → s.power.node ≠ .sealBoot →
    s.power.node ≠ .retention → Completes .perstNDeassert s fun t =>
      { t with host := s.host } = s ∧ t.host.perstLow = false ∧ t.host.linkUp = decide (t.host.width ≠ 0) ∧
      (j1 = false → t.host.width = 0) ∧ (j1 = true → 16 ≤ partner → t.host.width = if j2 then 16 else 8) ∧
      t.host.width ≤ partner) ∧
  (∀ s, s.host.linkUp = true → Completes .d3hotEntry s fun t => t = { s with host.d3hot := true })

/-- TAP_RESET resets the TAP alone. EXTEST drives the pins in FAILED and selects BYPASS elsewhere. IDCODE shifts out 1,
0x3A5, the Device ID and the stepping. SAMPLE_PRELOAD captures the pins. A code that Table 21–1 does not list selects
BYPASS. DBG captures the status, busy flag and data of the earlier command; while that one is busy the new one is
discarded; otherwise a listed command waits as busy, an unlisted one completes with FORMAT, and in OFF or RETENTION
any completes with NOT_READY. With VIN absent TDO is low and DBG loads nothing. -/
def Obligations.TheTestAccessPortFollowsItsTable : Prop :=
  (∀ s, Completes .tapReset s fun t => t = { s with dbg.ir := .idcode, dbg.shift := [], dbg.driven := [] }) ∧
  (∀ s pins, s.power.node = .failed → Completes (.extest pins) s fun t =>
    t = { s with dbg.ir := .extest, dbg.shift := pins, dbg.driven := pins }) ∧
  (∀ s pins, s.power.node ≠ .failed → Completes (.extest pins) s fun t =>
    t = { s with dbg.ir := .bypass, dbg.driven := [] }.emit (.tdo [false])) ∧
  (∀ s, s.power.part = .sp16 → s.vinPresent = true → Completes .idcode s fun t => t.dbg.ir = .idcode ∧ t.mem = s.mem ∧
    .tdo ((List.range 32).map fun i => bitOf (1 + 2 * 0x3A5 + 2 ^ 12 * 0x5016 + 2 ^ 28 * (s.sec.stepping.toNat / 16)) i) ∈ t.out) ∧
  (∀ s, s.vinPresent = false → Completes .idcode s fun t => t.dbg.ir = .idcode ∧ t.out = s.out ++ [.tdo (List.replicate 32 false)]) ∧
  (∀ s pins, Completes (.samplePreload pins) s fun t =>
    t = { s with dbg.ir := .sample, dbg.shift := pins, dbg.driven := [] }.emit
      (.tdo (if s.vinPresent = true then pins else List.replicate pins.length false))) ∧
  (∀ s (code : BitVec 8), code ≠ 0x00 → code ≠ 0x01 → code ≠ 0x02 → code ≠ 0x10 → Completes (.bypass code) s fun t =>
    t = { s with dbg.ir := .bypass, dbg.driven := [] }.emit (.tdo [false])) ∧
  (∀ s dr, s.vinPresent = false → Completes (.dbg dr) s fun t => t = s.emit (.tdo (List.replicate 160 false))) ∧
  (∀ s dr, s.vinPresent = true → s.dbg.busy = true → Completes (.dbg dr) s fun t =>
    t = { s with dbg.ir := .dbg, dbg.driven := [] }.emit (.capture s.dbg.status true s.dbg.data)) ∧
  (∀ s (dr : BitVec 160), s.vinPresent = true → s.dbg.busy = false → s.dbgOff = false → dr.extractLsb' 0 8 ∈ debugCodes →
    Completes (.dbg dr) s fun t => t = { s with dbg := { s.dbg with
      ir := .dbg, driven := [], cmd := dr.extractLsb' 0 8, target := dr.extractLsb' 32 16, addr := dr.extractLsb' 48 40
      data := dr.extractLsb' 96 64, status := .ok, busy := true } }.emit (.capture s.dbg.status false s.dbg.data)) ∧
  (∀ s (dr : BitVec 160), s.vinPresent = true → s.dbg.busy = false → s.dbgOff = false → dr.extractLsb' 0 8 ∉ debugCodes →
    Completes (.dbg dr) s fun t => t.dbg.busy = false ∧ t.dbg.status = .format ∧ t.mem = s.mem) ∧
  (∀ s dr, s.vinPresent = true → s.dbg.busy = false → s.power.node = .off ∨ s.power.node = .retention →
    Completes (.dbg dr) s fun t => t.dbg.busy = false ∧ t.dbg.status = .notReady ∧ t.mem = s.mem ∧ t.sec = s.sec)

/-- While debug is served, no retry or kerf runs and the debug state is not UNLOCKED, REG_WRITE, RELOCK, DETACH and every
CORE, CTX, ENG and MEM command complete with DENIED and change nothing else; REG_READ of an offset outside the node
status and identification block completes with DENIED and zero data. -/
def Obligations.DebugIsDeniedUnlessUnlocked : Prop :=
  (∀ s c code, (c, code) ∈ ([(.regWrite, 0x02), (.relock, 0x07), (.detach false, 0x10), (.detach true, 0x10), (.coreStep, 0x11),
      (.coreRun, 0x12), (.coreRead, 0x13), (.coreWrite, 0x14), (.ctxHalt, 0x20), (.ctxStep, 0x21), (.ctxRun, 0x22), (.ctxRead, 0x23),
      (.ctxWrite, 0x24), (.engHalt, 0x28), (.engRun, 0x29), (.memRead, 0x30), (.memWrite, 0x31)] : List (Instr × BitVec 8)) →
    s.commands code = true → s.sec.debug ≠ .unlocked → Completes c s fun t =>
      t = { s with dbg.busy := false, dbg.status := .denied }) ∧
  (∀ s, s.commands 0x01 = true → s.sec.debug ≠ .unlocked → s.dbg.addr.toNat % 8 = 0 → s.dbg.addr.toNat < bar0Size →
    inBlock s.dbg.addr.toNat = false → Completes .regRead s fun t =>
      t = { s.inputOf .regRead with dbg.busy := false, dbg.status := .denied, dbg.data := 0 })

/-- REG_READ answers the inspected value and has no read effect. REG_WRITE of SYNC_OPERAND sets it. CHALLENGE makes its 32
bytes the valid challenge and CHAL_READ answers eight of them. TOKEN_LOAD writes eight bytes of the buffer.
TOKEN_SUBMIT of a token that does not verify completes with DENIED and changes no lifecycle or debug state; of length
0 in MANUFACTURE, or of a good token of action 1, it unlocks debug while R620 does not bar it. RELOCK sets
UNLOCKED_SINCE_POWER and releases every halt; while barred it completes with NOT_READY and nothing else changes. -/
def Obligations.DebugRegistersTokensAndRelockAct : Prop :=
  (∀ s a, s.commands 0x01 = true → a = s.dbg.addr.toNat → a % 8 = 0 → a < bar0Size → s.sec.debug = .unlocked ∨ inBlock a = true →
    Completes .regRead s fun t =>
      t = { s.inputOf .regRead with dbg.busy := false, dbg.status := .ok, dbg.data := BitVec.ofNat 64 ((s.inputOf .regRead).inspect a) }) ∧
  (∀ s, s.obeys 0x02 = true → s.dbg.addr = 0x1308 → s.regsUp = true → Completes .regWrite s fun t =>
    t = { s.inputOf .regWrite with host.operand := s.dbg.data, dbg.busy := false, dbg.status := .ok }) ∧
  (∀ s random, s.commands 0x03 = true → Completes (.dbgChallenge random) s fun t =>
    t = { s.inputOf (.dbgChallenge random) with sec.challenge := some (sub random 0 32), dbg.busy := false, dbg.status := .ok }) ∧
  (∀ s c, s.commands 0x04 = true → s.dbg.addr.toNat % 8 = 0 → s.dbg.addr.toNat ≤ 24 → s.sec.challenge = some c →
    Completes .chalRead s fun t => t = { s.inputOf .chalRead with
      dbg.busy := false, dbg.status := .ok, dbg.data := BitVec.ofNat 64 (field c s.dbg.addr.toNat 8) }) ∧
  (∀ s, s.commands 0x05 = true → s.dbg.addr.toNat + 8 ≤ 1024 → Completes .tokenLoad s fun t => t = { s.inputOf .tokenLoad with
    dbg.buf := FMap.setRun 0 s.dbg.buf s.dbg.addr.toNat (leBytes 8 s.dbg.data.toNat), dbg.busy := false, dbg.status := .ok }) ∧
  (∀ s bytes, s.commands 0x06 = true → bits s.dbg.data.toNat 10 0 ≠ 0 →
    bytes = FMap.getRun s.dbg.buf 0 0 (min (bits s.dbg.data.toNat 10 0) 1024) →
    (∀ k, Config.coseToken bytes = some k → coseVerifies Config.serviceKeyDigest k.signed k.sig = false ∨
      k.serial ≠ s.sec.serial ∨ some k.challenge ≠ s.sec.challenge) → Completes (.tokenSubmit s.dbg.data) s fun t =>
    t.dbg.busy = false ∧ t.dbg.status = .denied ∧ t.sec = s.sec ∧ t.mem = s.mem) ∧
  (∀ s, s.commands 0x06 = true → bits s.dbg.data.toNat 10 0 = 0 → s.sec.lifecycle = .manufacture → s.sec.debug ≠ .unlocked →
    s.debugBarred = false → Completes (.tokenSubmit s.dbg.data) s fun t => t.dbg.busy = false ∧ t.dbg.status = .ok ∧
      t.sec = { s.sec with debug := .unlocked } ∧ t.power.dbgFlag = true) ∧
  (∀ s bytes k, s.commands 0x06 = true → bits s.dbg.data.toNat 10 0 ≠ 0 →
    bytes = FMap.getRun s.dbg.buf 0 0 (min (bits s.dbg.data.toNat 10 0) 1024) → Config.coseToken bytes = some k →
    coseVerifies Config.serviceKeyDigest k.signed k.sig = true → k.serial = s.sec.serial →
    some k.challenge = s.sec.challenge → k.action = 1 → s.sec.lifecycle ≠ .manufacture → s.sec.debug ≠ .unlocked →
    s.debugBarred = false → Completes (.tokenSubmit s.dbg.data) s fun t => t.dbg.busy = false ∧ t.dbg.status = .ok ∧
      t.sec = { s.sec with debug := .unlocked } ∧ t.power.dbgFlag = true) ∧
  (∀ s, s.obeys 0x07 = true → s.debugBarred = false → Completes .relock s fun t =>
    t.sec = { s.sec with debug := .unlockedSincePower } ∧ t.dbg.busy = false ∧ t.dbg.status = .ok ∧ t.dbg.engHalt = [] ∧
    t.dbg.engReq = [] ∧ ∀ n, (t.ctx n).halted = false) ∧
  (∀ s, s.obeys 0x07 = true → s.debugBarred = true → Completes .relock s fun t =>
    t = { s.inputOf .relock with dbg.busy := false, dbg.status := .notReady })

/-- DETACH of an ACTIVE bench with a spare and a claim left makes it RETIRED, its spare ACTIVE and the claim one higher;
without a spare it completes with DEBUG_ACTIVE_BENCH and changes no role; of the spare it makes it RETIRED with the
claim unchanged. In a locked sequence it stays busy until LOCKED_SEQUENCE_END lets it go on or DETACH_DEFER_EXPIRY
ends it with NOT_READY. CORE_STEP, CORE_RUN, CORE_READ and CORE_WRITE act on a RETIRED bench's core alone; CORE_READ
answers what CORE_WRITE last wrote while the core has not run. -/
def Obligations.DebugOfBenchesAndCoresActs : Prop :=
  (∀ s b, s.obeys 0x10 = true → benchTarget s.dbg.target.toNat = some b → s.bench.role b = .active → s.gatesHold = false →
    s.fullApplyOn = false →
    (∀ sp, s.bench.spare = some sp → s.bench.claim ≠ lastClaim →
      ∀ c, c = .detach false ∨ (c = .lockedSequenceEnd ∧ s.bench.detach = some b) → Completes c s fun t =>
        t.bench.role b = .retired ∧ t.bench.role sp = .active ∧ t.bench.claim = s.bench.claim + 1 ∧ t.bench.detach = none ∧
        t.dbg.busy = false ∧ t.dbg.status = .ok ∧ t.mem = s.mem) ∧
    (s.bench.spare = none → Completes (.detach false) s fun t =>
      t = { s.inputOf (.detach false) with bench.detach := none, dbg.busy := false, dbg.status := .debugActiveBench })) ∧
  (∀ s b, s.obeys 0x10 = true → benchTarget s.dbg.target.toNat = some b → s.bench.role b = .spare → s.gatesHold = false →
    s.fullApplyOn = false → s.ringRoom = true → Completes (.detach false) s fun t => t.bench.role b = .retired ∧ t.bench.claim = s.bench.claim ∧
      t.dbg.status = .ok ∧ t.eventAt s.events.ring.tail = some Ev.benchDetached.code) ∧
  (∀ s b, s.obeys 0x10 = true → benchTarget s.dbg.target.toNat = some b → Completes (.detach true) s fun t =>
    t = { s.inputOf (.detach true) with bench.detach := some b }) ∧
  (∀ s b, s.obeys 0x10 = true → s.bench.detach = some b → Completes .detachDeferExpiry s fun t =>
    t = { s.inputOf .detachDeferExpiry with bench.detach := none, dbg.busy := false, dbg.status := .notReady }) ∧
  (∀ s b k, benchTarget s.dbg.target.toNat = some b → s.bench.role b = .retired → k = s.bench.core b →
    (s.obeys 0x11 = true → Completes .coreStep s fun t => t.bench.core b = { epoch := k.epoch + 1 } ∧ t.dbg.status = .ok ∧ t.mem = s.mem) ∧
    (s.obeys 0x12 = true → Completes .coreRun s fun t => t.bench.core b = { epoch := k.epoch + 1, running := true } ∧
      t.dbg.status = .ok ∧ t.mem = s.mem) ∧
    (∀ v, s.obeys 0x13 = true → coreSelector s.dbg.addr.toNat = true → k.running = false →
      k.words.get s.dbg.addr.toNat none = some v → Completes .coreRead s fun t => t.dbg.data = v ∧ t.dbg.status = .ok ∧
        t.dbg.busy = false ∧ t.bench.core b = k ∧ t.mem = s.mem) ∧
    (s.obeys 0x14 = true → coreSelector s.dbg.addr.toNat = true → Completes .coreWrite s fun t =>
      (t.bench.core b).words.get s.dbg.addr.toNat none = some s.dbg.data ∧ (t.bench.core b).running = k.running ∧
      t.dbg.status = .ok ∧ t.mem = s.mem)) ∧
  (∀ s b, s.obeys 0x14 = true → benchTarget s.dbg.target.toNat = some b → s.bench.role b ≠ .retired → Completes .coreWrite s fun t =>
    t = { s.inputOf .coreWrite with dbg.busy := false, dbg.status := .denied })

/-- CTX_HALT halts an idle or halted context at once, a running one outside a window at its resume point, and waits in a
window. CTX_STEP lets a halted context run to its next resume point; CTX_RUN releases it. CTX_READ answers what the
selector names; CTX_WRITE sets it on a halted context and completes with FORMAT on any other. ENG_HALT halts an engine
at rest at once and waits for a working one; ENG_RUN releases it. MEM_READ answers eight bytes of a drawer, or
POISONED with zeros; MEM_WRITE stores them. Each completes with OK. -/
def Obligations.DebugOfContextsEnginesAndMemoryActs : Prop :=
  (∀ s k, s.obeys 0x20 = true → k = ctxTarget s.dbg.target.toNat → k < s.power.part.sieves * 8 →
    ((s.ctx k).phase = .idle → (s.ctx k).halted = false → Completes .ctxHalt s fun t =>
      t = { (s.inputOf .ctxHalt).setCtx k { s.ctx k with halted := true, haltReq := false } with dbg.busy := false, dbg.status := .ok }) ∧
    ((s.ctx k).phase = .running → (s.ctx k).win = 0 → (s.ctx k).stopReq = none → (s.ctx k).pauseReq = false →
      (s.ctx k).halted = false → Completes .ctxHalt s fun t => t.ctx k = { s.ctx k with halted := true, haltReq := false, phase := .ready } ∧
        t.dbg.busy = false ∧ t.dbg.status = .ok ∧ t.mem = s.mem) ∧
    ((s.ctx k).phase = .running → (s.ctx k).win ≠ 0 → (s.ctx k).halted = false → Completes .ctxHalt s fun t =>
      t = (s.inputOf .ctxHalt).setCtx k { s.ctx k with haltReq := true })) ∧
  (∀ s k, k = ctxTarget s.dbg.target.toNat → k < s.power.part.sieves * 8 → (s.ctx k).halted = true → (s.ctx k).phase = .ready →
    (s.obeys 0x21 = true → (s.ctx k).dueInterrupt = none → (s.ctx k).stepReq = false → (s.ctx k).haltReq = false → Completes .ctxStep s fun t =>
      (t.ctx k).halted = false ∧ (t.ctx k).stepReq = true ∧ t.dbg.busy = true ∧ t.mem = s.mem) ∧
    (s.obeys 0x22 = true → Completes .ctxRun s fun t => (t.ctx k).halted = false ∧ (t.ctx k).stepReq = false ∧
      t.dbg.busy = false ∧ t.dbg.status = .ok ∧ t.mem = s.mem)) ∧
  (∀ s k v, s.obeys 0x23 = true → k = ctxTarget s.dbg.target.toNat → k < s.power.part.sieves * 8 →
    ctxSel s.dbg.addr.toNat ≠ .none → (s.ctx k).inspect k (ctxSel s.dbg.addr.toNat) = some v → Completes .ctxRead s fun t =>
      t = { s.inputOf .ctxRead with dbg.busy := false, dbg.status := .ok, dbg.data := v }) ∧
  (∀ s k, s.obeys 0x24 = true → k = ctxTarget s.dbg.target.toNat → k < s.power.part.sieves * 8 →
    (∀ x, (s.ctx k).halted = true → (s.ctx k).poke s.dbg.data (ctxSel s.dbg.addr.toNat) = some x → Completes .ctxWrite s fun t =>
      t = { (s.inputOf .ctxWrite).setCtx k x with dbg.busy := false, dbg.status := .ok }) ∧
    ((s.ctx k).halted = false → Completes .ctxWrite s fun t => t = { s.inputOf .ctxWrite with dbg.busy := false, dbg.status := .format })) ∧
  (∀ s cls n, s.engTarget = some (cls, n) →
    (s.obeys 0x28 = true → s.engineWorks cls n = false → Completes .engHalt s fun t =>
      t.dbg.engHalt.contains (engineCode cls n) = true ∧ t.dbg.busy = false ∧ t.dbg.status = .ok ∧ t.queues = s.queues ∧ t.mem = s.mem) ∧
    (s.obeys 0x28 = true → s.engineWorks cls n = true → s.dbg.engHalt.contains (engineCode cls n) = false →
      Completes .engHalt s fun t => t.dbg.engReq.contains (engineCode cls n) = true ∧ t.dbg.busy = true ∧ t.queues = s.queues) ∧
    (s.obeys 0x29 = true → Completes .engRun s fun t => t.dbg.engHalt.contains (engineCode cls n) = false ∧
      t.dbg.engReq.contains (engineCode cls n) = false ∧ t.dbg.busy = false ∧ t.dbg.status = .ok ∧ t.queues = s.queues)) ∧
  (∀ s x, s.obeys 0x30 = true → s.memCheck = none → x = (s.inputOf .memRead).readRange s.dbg.target.toNat s.dbg.addr.toNat 8 →
    Completes .memRead s fun t => t = { x.1 with
      dbg.busy := false, dbg.status := if x.2.bad.isSome then .poisoned else .ok
      dbg.data := if x.2.bad.isSome then 0 else BitVec.ofNat 64 (leNat x.2.data) }) ∧
  (∀ s v x, s.obeys 0x31 = true → s.memCheck = none →
    (s.inputOf .memWrite).claimRange s.dbg.target.toNat s.dbg.addr.toNat 8 = some v →
    x = v.writeRange s.dbg.target.toNat s.dbg.addr.toNat (leBytes 8 s.dbg.data.toNat) → Completes .memWrite s fun t =>
      t = { x.1 with dbg.busy := false, dbg.status := if x.2.isSome then .poisoned else .ok, dbg.data := s.dbg.data })

/-- With d the distance modulo 2^32 from the tail to the new tail and f the free slots of a queue of fewer than 2^31: d =
0 changes nothing and is OK; 1 ≤ d ≤ f sets the tail and is OK; f < d < 2^31 changes nothing and is RANGE; d ≥ 2^31
changes nothing and is OK. HOST_DOORBELL on a queue whose ring the host sees and no set freezes leaves the queue as
the rule says, and records a RANGE as a failed doorbell and nothing else. -/
def Obligations.TheDoorbellRuleHolds : Prop :=
  (∀ (q : Queue) depth (t : W32), depth < 2 ^ 31 →
    ((t - q.tail).toNat = 0 → q.bell depth t = (q, .ok)) ∧
    (1 ≤ (t - q.tail).toNat → (t - q.tail).toNat ≤ depth - (q.tail - q.head).toNat → q.bell depth t = ({ q with tail := t }, .ok)) ∧
    (depth - (q.tail - q.head).toNat < (t - q.tail).toNat → (t - q.tail).toNat < 2 ^ 31 → q.bell depth t = (q, .range)) ∧
    (2 ^ 31 ≤ (t - q.tail).toNat → q.bell depth t = (q, .ok))) ∧
  (∀ s (q : BitVec 16) (w : HostWrite) r y, s.hostServed = true → s.power.node = .ready → w.size = 4 ∨ w.size = 8 →
    s.range q.toNat = some r → s.hostSees r.ring = true → s.queueFrozen q.toNat = false →
    y = (s.queue q.toNat).bell r.depth (w.value.truncate 32) → Completes (.hostDoorbell q w) s fun t =>
      t.queue q.toNat = y.1 ∧ (∀ n, n ≠ q.toNat → t.queue n = s.queue n) ∧ t.mem = s.mem ∧
      (y.2 = .ok → t.host = s.host) ∧
      (y.2 ≠ .ok → t = (s.inputOf (.hostDoorbell q w)).hostErr errDoorbell .range (0x2800000 + q.toNat * 8) false))

/-- For every state with command c at the front of its queue, step is exec of c on the state with the rest of the queue.
With an empty queue (the model's choices of assumptions 3 and 105): the input that has waited longest is delivered, once
delivery goes on; with none, in OFF nothing changes, and in any other node state the timebase counts once, which, where no
request waits, leaves memory, power state, security and joinery as they were. -/
def Obligations.AStepRunsTheFrontCommand : Prop :=
  (∀ s c q, s.pending = c :: q → step s = exec c { s with pending := q }) ∧
  (∀ s c, s.pending = [] → s.nextHeld = some c → step s = deliverHeld c s) ∧
  (∀ s, s.pending = [] → s.nextHeld = none → s.power.node = .off → step s = .next s) ∧
  (∀ s, s.pending = [] → s.nextHeld = none → s.power.node ≠ .off → ∃ t, step s = .next t ∧ t.time = s.time + 1 ∧ t.pending = [] ∧
    (s.fabric.parked = [] → t.mem = s.mem ∧ t.power = s.power ∧ t.sec = s.sec ∧ t.jny = s.jny))

/-- The reset state is in OFF with VIN off, no command pending, no stored byte, no joinery in force, no session and a free
lock, empty rings with every vector armed and masked, debug LOCKED, no counter above 0 and no queue in use; and it
meets the invariant that every step keeps. The values of registers to which the spec gives no reset value are the
model's (assumption 2). -/
def Obligations.ResetIsOffSoundAndEmpty : Prop :=
  State.reset.power.node = .off ∧ State.reset.power.vinOn = false ∧ State.reset.pending = [] ∧ State.reset.mem = [] ∧
  State.reset.jny.inForce = none ∧ State.reset.bureau.sessions = [] ∧ State.reset.bureau.lock = .free ∧
  State.reset.events.ring.unread = 0 ∧ State.reset.events.fault.unread = 0 ∧ State.reset.events.armed = BitVec.allOnes 256 ∧
  State.reset.events.masked = BitVec.allOnes 256 ∧ State.reset.sec.debug = .locked ∧
  (∀ n, (State.reset.counter n).value = 0 ∧ (State.reset.counter n).sat = false) ∧
  (∀ q, (State.reset.queue q).head = 0 ∧ (State.reset.queue q).tail = 0) ∧ State.reset.Sound

/-- From every state in which the memory lists its bytes in strictly rising addresses with no zero byte, and in which a
debug state other than LOCKED has its flag in the stop record, every step, whatever the command, answers a state of
which the same holds: no write, fill, stamp, sweep, restore, import or loss leaves a duplicate or a stale zero, and no
command hides that debug has been unlocked since VIN was applied. -/
def Obligations.EveryStepKeepsSoundness : Prop :=
  ∀ s t, s.Sound → step s = .next t → t.Sound

/-- For every command and every state, exec answers a next state: no command of the table ends in a fault or a refusal.
That state has the same queue of waiting commands, the same part, serial number, stepping, secure version and MAC
address. -/
def Obligations.EveryCommandAnswersAndKeepsTheBoard : Prop :=
  ∀ c s, Completes c s fun t => t.pending = s.pending ∧ t.power.part = s.power.part ∧ t.sec.serial = s.sec.serial ∧
    t.sec.stepping = s.sec.stepping ∧ t.sec.secver = s.sec.secver ∧ t.bureau.mac = s.bureau.mac

/-- For every command and state, when the next state has another lifecycle than before, the command is TOKEN or TOKEN_SUBMIT,
with a token that verifies against the service key and names the node's serial number and valid challenge. When it has
another bank of joinery keys than before, the command is JOINERY_KEY and the bank has one digest more at its end. -/
def Obligations.OnlyTokensChangeTheLifecycle : Prop :=
  (∀ c s t, exec c s = .next t → t.sec.lifecycle ≠ s.sec.lifecycle → ∃ bytes k,
    ((∃ m, c = .token m bytes) ∨
      (c = .tokenSubmit s.dbg.data ∧ bytes = FMap.getRun s.dbg.buf 0 0 (min (bits s.dbg.data.toNat 10 0) 1024))) ∧
    Config.coseToken bytes = some k ∧ coseVerifies Config.serviceKeyDigest k.signed k.sig = true ∧
    k.serial = s.sec.serial ∧ some k.challenge = s.sec.challenge) ∧
  (∀ c s t, exec c s = .next t → t.sec.keys ≠ s.sec.keys →
    ∃ m key, c = .joineryKey m key ∧ t.sec.keys = s.sec.keys ++ [Config.sha384 key])
end

