-- ==== Sys2Proof/Laws/Maps.lean ====
section
/-! SUPPORT. Sparse tables and byte strings: a read after a write, the canonical form that every write keeps, and the
little-endian fields of what was put together. -/

namespace Sys2Proof

/-! ## Sparse tables -/

variable {α : Type}

theorem FMap.get_insert_self (m : FMap α) (k : Nat) (v d : α) : (m.insert k v).get k d = v := by
  induction m with
  | nil => simp [FMap.insert, FMap.get]
  | cons e m ih =>
    obtain ⟨j, w⟩ := e
    simp only [FMap.insert]
    split
    · simp [FMap.get]
    · split
      · simp [FMap.get]
      · simp [FMap.get, *]

theorem FMap.get_insert_ne (m : FMap α) {k i : Nat} (v d : α) (h : i ≠ k) : (m.insert k v).get i d = m.get i d := by
  induction m with
  | nil => simp [FMap.insert, FMap.get, Ne.symm h]
  | cons e m ih =>
    obtain ⟨j, w⟩ := e
    simp only [FMap.insert]
    split
    · simp [FMap.get, Ne.symm h]
    · split
      · subst_vars; simp [FMap.get, Ne.symm h]
      · simp [FMap.get, ih]

theorem FMap.get_erase_self (m : FMap α) (k : Nat) (d : α) : (m.erase k).get k d = d := by
  induction m with
  | nil => rfl
  | cons e m ih =>
    obtain ⟨j, w⟩ := e
    simp only [FMap.erase]
    split
    · exact ih
    · simp [FMap.get, *]

theorem FMap.get_erase_ne (m : FMap α) {k i : Nat} (d : α) (h : i ≠ k) : (m.erase k).get i d = m.get i d := by
  induction m with
  | nil => rfl
  | cons e m ih =>
    obtain ⟨j, w⟩ := e
    simp only [FMap.erase]
    split
    · subst_vars; simp [FMap.get, Ne.symm h, ih]
    · simp [FMap.get, ih]

/-- A read after a write to the same key gives the value written. -/
@[simp] theorem FMap.get_set_self [DecidableEq α] (m : FMap α) (k : Nat) (v d : α) : (m.set k v d).get k d = v := by
  unfold FMap.set
  split
  · rename_i h; rw [h]; exact m.get_erase_self k d
  · exact m.get_insert_self k v d

/-- A write leaves every other key alone. -/
theorem FMap.get_set_ne [DecidableEq α] (m : FMap α) {k i : Nat} (v d : α) (h : i ≠ k) : (m.set k v d).get i d = m.get i d := by
  unfold FMap.set
  split
  · exact m.get_erase_ne d h
  · exact m.get_insert_ne v d h

/-- A lower bound on the keys of a table in canonical form may be dropped. -/
theorem FMap.wfAbove_weaken [DecidableEq α] {d : α} {m : FMap α} {b c : Option Nat}
    (hbc : ∀ i, c = some i → ∃ j, b = some j ∧ i ≤ j) (h : FMap.wfAbove d b m = true) : FMap.wfAbove d c m = true := by
  cases m with
  | nil => rfl
  | cons e m =>
    obtain ⟨j, w⟩ := e
    simp only [FMap.wfAbove, Bool.and_eq_true] at h ⊢
    refine ⟨⟨?_, h.1.2⟩, h.2⟩
    cases c with
    | none => rfl
    | some i =>
      obtain ⟨j', rfl, hij⟩ := hbc i rfl
      have := h.1.1
      simp only [decide_eq_true_eq] at this ⊢
      omega

theorem FMap.wfAbove_insert [DecidableEq α] {d v : α} (hv : v ≠ d) (m : FMap α) (k : Nat) :
    ∀ b : Option Nat, (∀ i, b = some i → i < k) → FMap.wfAbove d b m = true → FMap.wfAbove d b (m.insert k v) = true := by
  induction m with
  | nil =>
    intro b hb _
    cases b with
    | none => simp [FMap.insert, FMap.wfAbove, hv]
    | some i => simp [FMap.insert, FMap.wfAbove, hv, hb i rfl]
  | cons e m ih =>
    obtain ⟨j, w⟩ := e
    intro b hb h
    have h' := h
    simp only [FMap.wfAbove, Bool.and_eq_true] at h'
    simp only [FMap.insert]
    split
    · rename_i hk
      simp only [FMap.wfAbove, Bool.and_eq_true]
      refine ⟨⟨?_, by simp [hv]⟩, ⟨by simp [hk], h'.1.2⟩, h'.2⟩
      cases b with
      | none => rfl
      | some i => simp [hb i rfl]
    · split
      · subst_vars
        simp only [FMap.wfAbove, Bool.and_eq_true]
        refine ⟨⟨?_, by simp [hv]⟩, h'.2⟩
        cases b with
        | none => rfl
        | some i => simp [hb i rfl]
      · simp only [FMap.wfAbove, Bool.and_eq_true]
        refine ⟨h'.1, ih (some j) ?_ h'.2⟩
        rintro i ⟨⟩; omega

theorem FMap.wfAbove_erase [DecidableEq α] {d : α} (m : FMap α) (k : Nat) :
    ∀ b : Option Nat, FMap.wfAbove d b m = true → FMap.wfAbove d b (m.erase k) = true := by
  induction m with
  | nil => intro b _; rfl
  | cons e m ih =>
    obtain ⟨j, w⟩ := e
    intro b h
    have h' := h
    simp only [FMap.wfAbove, Bool.and_eq_true] at h'
    simp only [FMap.erase]
    split
    · refine ih b (FMap.wfAbove_weaken ?_ h'.2)
      rintro i rfl
      have := h'.1.1
      simp only [decide_eq_true_eq] at this
      exact ⟨j, rfl, this.le⟩
    · simp only [FMap.wfAbove, Bool.and_eq_true]
      exact ⟨h'.1, ih _ h'.2⟩

/-- A write keeps the canonical form. -/
theorem FMap.wf_set [DecidableEq α] {m : FMap α} {d : α} (k : Nat) (v : α) (h : FMap.wf m d = true) :
    FMap.wf (m.set k v d) d = true := by
  unfold FMap.set
  split
  · exact FMap.wfAbove_erase m k none h
  · rename_i hv; exact FMap.wfAbove_insert hv m k none (by simp) h

/-- A run of writes keeps the canonical form. -/
theorem FMap.wf_setRun [DecidableEq α] {d : α} (vs : List α) : ∀ {m : FMap α} (k : Nat), FMap.wf m d = true →
    FMap.wf (FMap.setRun d m k vs) d = true := by
  induction vs with
  | nil => intro m k h; exact h
  | cons v vs ih => intro m k h; exact ih (k + 1) (FMap.wf_set k v h)

/-- A run of writes leaves the keys outside it alone. -/
theorem FMap.get_setRun_out [DecidableEq α] {d : α} (vs : List α) : ∀ (m : FMap α) (k i : Nat),
    i < k ∨ k + vs.length ≤ i → (FMap.setRun d m k vs).get i d = m.get i d := by
  induction vs with
  | nil => intro m k i _; rfl
  | cons v vs ih =>
    intro m k i h
    simp only [List.length_cons] at h
    simp only [FMap.setRun]
    rw [ih _ _ _ (by omega), FMap.get_set_ne _ _ _ (by omega)]

/-- A run of writes gives each of its keys the value written. -/
theorem FMap.get_setRun_in [DecidableEq α] {d : α} (vs : List α) : ∀ (m : FMap α) (k i : Nat) (h : i < vs.length),
    (FMap.setRun d m k vs).get (k + i) d = vs[i] := by
  induction vs with
  | nil => intro m k i h; simp at h
  | cons v vs ih =>
    intro m k i h
    simp only [FMap.setRun]
    cases i with
    | zero => rw [FMap.get_setRun_out _ _ _ _ (by omega)]; simp
    | succ i =>
      have := ih (m.set k v d) (k + 1) i (by simpa using h)
      simpa [Nat.add_comm, Nat.add_left_comm, Nat.add_assoc] using this

/-- Reading a run takes as many values as it names. -/
@[simp] theorem FMap.length_getRun (m : FMap α) (d : α) : ∀ (n k : Nat), (FMap.getRun m d k n).length = n
  | 0, _ => rfl
  | n + 1, k => by simp [FMap.getRun, FMap.length_getRun m d n (k + 1)]

/-- Filtering keeps the canonical form. -/
theorem FMap.wfAbove_filter [DecidableEq α] {d : α} (p : Nat × α → Bool) (m : FMap α) :
    ∀ b : Option Nat, FMap.wfAbove d b m = true → FMap.wfAbove d b (m.filter p) = true := by
  induction m with
  | nil => intro b _; rfl
  | cons e m ih =>
    obtain ⟨j, w⟩ := e
    intro b h
    have h' := h
    simp only [FMap.wfAbove, Bool.and_eq_true] at h'
    simp only [List.filter]
    split
    · simp only [FMap.wfAbove, Bool.and_eq_true]
      exact ⟨h'.1, ih _ h'.2⟩
    · refine ih b (FMap.wfAbove_weaken ?_ h'.2)
      rintro i rfl
      have := h'.1.1
      simp only [decide_eq_true_eq] at this
      exact ⟨j, rfl, this.le⟩

/-- Keeping the entries of some keys keeps the canonical form. -/
theorem FMap.wf_keep [DecidableEq α] {d : α} {m : FMap α} (p : Nat → Bool) (h : FMap.wf m d = true) :
    FMap.wf (m.keep p) d = true := FMap.wfAbove_filter _ m none h

/-- What keeping the entries of some keys reads as. -/
theorem FMap.get_keep (m : FMap α) (p : Nat → Bool) (k : Nat) (d : α) : (m.keep p).get k d = if p k then m.get k d else d := by
  induction m with
  | nil => simp [FMap.keep, FMap.get]
  | cons e m ih =>
    obtain ⟨j, w⟩ := e
    simp only [FMap.keep, List.filter] at ih ⊢
    by_cases hj : j = k
    · subst hj
      cases hp : p j with
      | true => simp [FMap.get]
      | false => simpa [hp] using ih
    · cases hp : p j with
      | true => simpa [FMap.get, hj] using ih
      | false => simpa [FMap.get, hj] using ih

/-- What holds of every entry and of the unlisted keys' value holds of every read. -/
theorem FMap.get_of_forall {P : α → Prop} {m : FMap α} {d : α} (hm : ∀ e ∈ m, P e.2) (hd : P d) (k : Nat) : P (m.get k d) := by
  induction m with
  | nil => exact hd
  | cons e m ih =>
    obtain ⟨j, w⟩ := e
    simp only [FMap.get]
    split
    · exact hm _ (List.mem_cons_self ..)
    · exact ih fun e he => hm e (List.mem_cons_of_mem _ he)

/-! ## Byte strings -/

@[simp] theorem length_leBytes (n v : Nat) : (leBytes n v).length = n := by
  induction n generalizing v with
  | zero => rfl
  | succ n ih => simp [leBytes, ih]

@[simp] theorem length_sub (bs : List Byte) (i n : Nat) : (sub bs i n).length = n := by
  simp [sub]; omega

/-- A little-endian field gives back the number that fits it. -/
theorem leNat_leBytes (n v : Nat) (h : v < 256 ^ n) : leNat (leBytes n v) = v := by
  induction n generalizing v with
  | zero => simp at h; simp [leBytes, leNat, h]
  | succ n ih =>
    have : v / 256 < 256 ^ n := by
      rw [Nat.div_lt_iff_lt_mul (by decide)]; rw [pow_succ] at h; exact h
    simp only [leBytes, leNat, ih _ this, BitVec.toNat_ofNat]
    omega

theorem leNat_lt (bs : List Byte) : leNat bs < 256 ^ bs.length := by
  induction bs with
  | nil => simp [leNat]
  | cons b bs ih =>
    simp only [leNat, List.length_cons, pow_succ]
    have := b.isLt
    omega

theorem field_lt (bs : List Byte) (i n : Nat) : field bs i n < 256 ^ n := by
  simpa [field] using leNat_lt (sub bs i n)

/-- The first bytes of a string put together of two. -/
theorem sub_append_left (a b : List Byte) (n : Nat) (h : a.length = n) : sub (a ++ b) 0 n = a := by
  subst h; simp [sub]

/-- The second of two strings put together. -/
theorem sub_append_right (a b : List Byte) (i n : Nat) (ha : a.length = i) (hb : b.length = n) : sub (a ++ b) i n = b := by
  subst ha hb; simp [sub]

end Sys2Proof
end

