-- ==== Sys2Proof/Laws/State.lean ====
section
/-! SUPPORT. The fields of the state after each of its plain updates: one lemma per field and update, and what reading a
table gives after its own write. -/

namespace Sys2Proof.Machine

/-! ## State.setPort -/

@[simp] theorem State.setPort_power (s : State) (p : Nat) (v : Port) : (s.setPort p v).power = s.power := rfl
@[simp] theorem State.setPort_time (s : State) (p : Nat) (v : Port) : (s.setPort p v).time = s.time := rfl
@[simp] theorem State.setPort_domains (s : State) (p : Nat) (v : Port) : (s.setPort p v).domains = s.domains := rfl
@[simp] theorem State.setPort_fabric (s : State) (p : Nat) (v : Port) : (s.setPort p v).fabric = s.fabric := rfl
@[simp] theorem State.setPort_bench (s : State) (p : Nat) (v : Port) : (s.setPort p v).bench = s.bench := rfl
@[simp] theorem State.setPort_jny (s : State) (p : Nat) (v : Port) : (s.setPort p v).jny = s.jny := rfl
@[simp] theorem State.setPort_mem (s : State) (p : Nat) (v : Port) : (s.setPort p v).mem = s.mem := rfl
@[simp] theorem State.setPort_dram (s : State) (p : Nat) (v : Port) : (s.setPort p v).dram = s.dram := rfl
@[simp] theorem State.setPort_sync (s : State) (p : Nat) (v : Port) : (s.setPort p v).sync = s.sync := rfl
@[simp] theorem State.setPort_queues (s : State) (p : Nat) (v : Port) : (s.setPort p v).queues = s.queues := rfl
@[simp] theorem State.setPort_shares (s : State) (p : Nat) (v : Port) : (s.setPort p v).shares = s.shares := rfl
@[simp] theorem State.setPort_ctxs (s : State) (p : Nat) (v : Port) : (s.setPort p v).ctxs = s.ctxs := rfl
@[simp] theorem State.setPort_streams (s : State) (p : Nat) (v : Port) : (s.setPort p v).streams = s.streams := rfl
@[simp] theorem State.setPort_images (s : State) (p : Nat) (v : Port) : (s.setPort p v).images = s.images := rfl
@[simp] theorem State.setPort_hold (s : State) (p : Nat) (v : Port) : (s.setPort p v).hold = s.hold := rfl
@[simp] theorem State.setPort_sec (s : State) (p : Nat) (v : Port) : (s.setPort p v).sec = s.sec := rfl
@[simp] theorem State.setPort_bureau (s : State) (p : Nat) (v : Port) : (s.setPort p v).bureau = s.bureau := rfl
@[simp] theorem State.setPort_events (s : State) (p : Nat) (v : Port) : (s.setPort p v).events = s.events := rfl
@[simp] theorem State.setPort_host (s : State) (p : Nat) (v : Port) : (s.setPort p v).host = s.host := rfl
@[simp] theorem State.setPort_dbg (s : State) (p : Nat) (v : Port) : (s.setPort p v).dbg = s.dbg := rfl
@[simp] theorem State.setPort_out (s : State) (p : Nat) (v : Port) : (s.setPort p v).out = s.out := rfl
@[simp] theorem State.setPort_delayed (s : State) (p : Nat) (v : Port) : (s.setPort p v).delayed = s.delayed := rfl
@[simp] theorem State.setPort_fresh (s : State) (p : Nat) (v : Port) : (s.setPort p v).fresh = s.fresh := rfl
@[simp] theorem State.setPort_pending (s : State) (p : Nat) (v : Port) : (s.setPort p v).pending = s.pending := rfl

/-! ## State.updPort -/

@[simp] theorem State.updPort_power (s : State) (p : Nat) (f : Port → Port) : (s.updPort p f).power = s.power := rfl
@[simp] theorem State.updPort_time (s : State) (p : Nat) (f : Port → Port) : (s.updPort p f).time = s.time := rfl
@[simp] theorem State.updPort_domains (s : State) (p : Nat) (f : Port → Port) : (s.updPort p f).domains = s.domains := rfl
@[simp] theorem State.updPort_fabric (s : State) (p : Nat) (f : Port → Port) : (s.updPort p f).fabric = s.fabric := rfl
@[simp] theorem State.updPort_bench (s : State) (p : Nat) (f : Port → Port) : (s.updPort p f).bench = s.bench := rfl
@[simp] theorem State.updPort_jny (s : State) (p : Nat) (f : Port → Port) : (s.updPort p f).jny = s.jny := rfl
@[simp] theorem State.updPort_mem (s : State) (p : Nat) (f : Port → Port) : (s.updPort p f).mem = s.mem := rfl
@[simp] theorem State.updPort_dram (s : State) (p : Nat) (f : Port → Port) : (s.updPort p f).dram = s.dram := rfl
@[simp] theorem State.updPort_sync (s : State) (p : Nat) (f : Port → Port) : (s.updPort p f).sync = s.sync := rfl
@[simp] theorem State.updPort_queues (s : State) (p : Nat) (f : Port → Port) : (s.updPort p f).queues = s.queues := rfl
@[simp] theorem State.updPort_shares (s : State) (p : Nat) (f : Port → Port) : (s.updPort p f).shares = s.shares := rfl
@[simp] theorem State.updPort_ctxs (s : State) (p : Nat) (f : Port → Port) : (s.updPort p f).ctxs = s.ctxs := rfl
@[simp] theorem State.updPort_streams (s : State) (p : Nat) (f : Port → Port) : (s.updPort p f).streams = s.streams := rfl
@[simp] theorem State.updPort_images (s : State) (p : Nat) (f : Port → Port) : (s.updPort p f).images = s.images := rfl
@[simp] theorem State.updPort_hold (s : State) (p : Nat) (f : Port → Port) : (s.updPort p f).hold = s.hold := rfl
@[simp] theorem State.updPort_sec (s : State) (p : Nat) (f : Port → Port) : (s.updPort p f).sec = s.sec := rfl
@[simp] theorem State.updPort_bureau (s : State) (p : Nat) (f : Port → Port) : (s.updPort p f).bureau = s.bureau := rfl
@[simp] theorem State.updPort_events (s : State) (p : Nat) (f : Port → Port) : (s.updPort p f).events = s.events := rfl
@[simp] theorem State.updPort_host (s : State) (p : Nat) (f : Port → Port) : (s.updPort p f).host = s.host := rfl
@[simp] theorem State.updPort_dbg (s : State) (p : Nat) (f : Port → Port) : (s.updPort p f).dbg = s.dbg := rfl
@[simp] theorem State.updPort_out (s : State) (p : Nat) (f : Port → Port) : (s.updPort p f).out = s.out := rfl
@[simp] theorem State.updPort_delayed (s : State) (p : Nat) (f : Port → Port) : (s.updPort p f).delayed = s.delayed := rfl
@[simp] theorem State.updPort_fresh (s : State) (p : Nat) (f : Port → Port) : (s.updPort p f).fresh = s.fresh := rfl
@[simp] theorem State.updPort_pending (s : State) (p : Nat) (f : Port → Port) : (s.updPort p f).pending = s.pending := rfl

/-! ## State.setStk -/

@[simp] theorem State.setStk_power (s : State) (n : Nat) (v : Stack) : (s.setStk n v).power = s.power := rfl
@[simp] theorem State.setStk_time (s : State) (n : Nat) (v : Stack) : (s.setStk n v).time = s.time := rfl
@[simp] theorem State.setStk_domains (s : State) (n : Nat) (v : Stack) : (s.setStk n v).domains = s.domains := rfl
@[simp] theorem State.setStk_ports (s : State) (n : Nat) (v : Stack) : (s.setStk n v).ports = s.ports := rfl
@[simp] theorem State.setStk_fabric (s : State) (n : Nat) (v : Stack) : (s.setStk n v).fabric = s.fabric := rfl
@[simp] theorem State.setStk_bench (s : State) (n : Nat) (v : Stack) : (s.setStk n v).bench = s.bench := rfl
@[simp] theorem State.setStk_jny (s : State) (n : Nat) (v : Stack) : (s.setStk n v).jny = s.jny := rfl
@[simp] theorem State.setStk_mem (s : State) (n : Nat) (v : Stack) : (s.setStk n v).mem = s.mem := rfl
@[simp] theorem State.setStk_sync (s : State) (n : Nat) (v : Stack) : (s.setStk n v).sync = s.sync := rfl
@[simp] theorem State.setStk_queues (s : State) (n : Nat) (v : Stack) : (s.setStk n v).queues = s.queues := rfl
@[simp] theorem State.setStk_shares (s : State) (n : Nat) (v : Stack) : (s.setStk n v).shares = s.shares := rfl
@[simp] theorem State.setStk_ctxs (s : State) (n : Nat) (v : Stack) : (s.setStk n v).ctxs = s.ctxs := rfl
@[simp] theorem State.setStk_streams (s : State) (n : Nat) (v : Stack) : (s.setStk n v).streams = s.streams := rfl
@[simp] theorem State.setStk_images (s : State) (n : Nat) (v : Stack) : (s.setStk n v).images = s.images := rfl
@[simp] theorem State.setStk_hold (s : State) (n : Nat) (v : Stack) : (s.setStk n v).hold = s.hold := rfl
@[simp] theorem State.setStk_sec (s : State) (n : Nat) (v : Stack) : (s.setStk n v).sec = s.sec := rfl
@[simp] theorem State.setStk_bureau (s : State) (n : Nat) (v : Stack) : (s.setStk n v).bureau = s.bureau := rfl
@[simp] theorem State.setStk_events (s : State) (n : Nat) (v : Stack) : (s.setStk n v).events = s.events := rfl
@[simp] theorem State.setStk_host (s : State) (n : Nat) (v : Stack) : (s.setStk n v).host = s.host := rfl
@[simp] theorem State.setStk_dbg (s : State) (n : Nat) (v : Stack) : (s.setStk n v).dbg = s.dbg := rfl
@[simp] theorem State.setStk_out (s : State) (n : Nat) (v : Stack) : (s.setStk n v).out = s.out := rfl
@[simp] theorem State.setStk_delayed (s : State) (n : Nat) (v : Stack) : (s.setStk n v).delayed = s.delayed := rfl
@[simp] theorem State.setStk_fresh (s : State) (n : Nat) (v : Stack) : (s.setStk n v).fresh = s.fresh := rfl
@[simp] theorem State.setStk_pending (s : State) (n : Nat) (v : Stack) : (s.setStk n v).pending = s.pending := rfl

/-! ## State.updStk -/

@[simp] theorem State.updStk_power (s : State) (n : Nat) (f : Stack → Stack) : (s.updStk n f).power = s.power := rfl
@[simp] theorem State.updStk_time (s : State) (n : Nat) (f : Stack → Stack) : (s.updStk n f).time = s.time := rfl
@[simp] theorem State.updStk_domains (s : State) (n : Nat) (f : Stack → Stack) : (s.updStk n f).domains = s.domains := rfl
@[simp] theorem State.updStk_ports (s : State) (n : Nat) (f : Stack → Stack) : (s.updStk n f).ports = s.ports := rfl
@[simp] theorem State.updStk_fabric (s : State) (n : Nat) (f : Stack → Stack) : (s.updStk n f).fabric = s.fabric := rfl
@[simp] theorem State.updStk_bench (s : State) (n : Nat) (f : Stack → Stack) : (s.updStk n f).bench = s.bench := rfl
@[simp] theorem State.updStk_jny (s : State) (n : Nat) (f : Stack → Stack) : (s.updStk n f).jny = s.jny := rfl
@[simp] theorem State.updStk_mem (s : State) (n : Nat) (f : Stack → Stack) : (s.updStk n f).mem = s.mem := rfl
@[simp] theorem State.updStk_sync (s : State) (n : Nat) (f : Stack → Stack) : (s.updStk n f).sync = s.sync := rfl
@[simp] theorem State.updStk_queues (s : State) (n : Nat) (f : Stack → Stack) : (s.updStk n f).queues = s.queues := rfl
@[simp] theorem State.updStk_shares (s : State) (n : Nat) (f : Stack → Stack) : (s.updStk n f).shares = s.shares := rfl
@[simp] theorem State.updStk_ctxs (s : State) (n : Nat) (f : Stack → Stack) : (s.updStk n f).ctxs = s.ctxs := rfl
@[simp] theorem State.updStk_streams (s : State) (n : Nat) (f : Stack → Stack) : (s.updStk n f).streams = s.streams := rfl
@[simp] theorem State.updStk_images (s : State) (n : Nat) (f : Stack → Stack) : (s.updStk n f).images = s.images := rfl
@[simp] theorem State.updStk_hold (s : State) (n : Nat) (f : Stack → Stack) : (s.updStk n f).hold = s.hold := rfl
@[simp] theorem State.updStk_sec (s : State) (n : Nat) (f : Stack → Stack) : (s.updStk n f).sec = s.sec := rfl
@[simp] theorem State.updStk_bureau (s : State) (n : Nat) (f : Stack → Stack) : (s.updStk n f).bureau = s.bureau := rfl
@[simp] theorem State.updStk_events (s : State) (n : Nat) (f : Stack → Stack) : (s.updStk n f).events = s.events := rfl
@[simp] theorem State.updStk_host (s : State) (n : Nat) (f : Stack → Stack) : (s.updStk n f).host = s.host := rfl
@[simp] theorem State.updStk_dbg (s : State) (n : Nat) (f : Stack → Stack) : (s.updStk n f).dbg = s.dbg := rfl
@[simp] theorem State.updStk_out (s : State) (n : Nat) (f : Stack → Stack) : (s.updStk n f).out = s.out := rfl
@[simp] theorem State.updStk_delayed (s : State) (n : Nat) (f : Stack → Stack) : (s.updStk n f).delayed = s.delayed := rfl
@[simp] theorem State.updStk_fresh (s : State) (n : Nat) (f : Stack → Stack) : (s.updStk n f).fresh = s.fresh := rfl
@[simp] theorem State.updStk_pending (s : State) (n : Nat) (f : Stack → Stack) : (s.updStk n f).pending = s.pending := rfl

/-! ## State.setDom -/

@[simp] theorem State.setDom_power (s : State) (d : Nat) (v : Domain) : (s.setDom d v).power = s.power := rfl
@[simp] theorem State.setDom_time (s : State) (d : Nat) (v : Domain) : (s.setDom d v).time = s.time := rfl
@[simp] theorem State.setDom_ports (s : State) (d : Nat) (v : Domain) : (s.setDom d v).ports = s.ports := rfl
@[simp] theorem State.setDom_fabric (s : State) (d : Nat) (v : Domain) : (s.setDom d v).fabric = s.fabric := rfl
@[simp] theorem State.setDom_bench (s : State) (d : Nat) (v : Domain) : (s.setDom d v).bench = s.bench := rfl
@[simp] theorem State.setDom_jny (s : State) (d : Nat) (v : Domain) : (s.setDom d v).jny = s.jny := rfl
@[simp] theorem State.setDom_mem (s : State) (d : Nat) (v : Domain) : (s.setDom d v).mem = s.mem := rfl
@[simp] theorem State.setDom_dram (s : State) (d : Nat) (v : Domain) : (s.setDom d v).dram = s.dram := rfl
@[simp] theorem State.setDom_sync (s : State) (d : Nat) (v : Domain) : (s.setDom d v).sync = s.sync := rfl
@[simp] theorem State.setDom_queues (s : State) (d : Nat) (v : Domain) : (s.setDom d v).queues = s.queues := rfl
@[simp] theorem State.setDom_shares (s : State) (d : Nat) (v : Domain) : (s.setDom d v).shares = s.shares := rfl
@[simp] theorem State.setDom_ctxs (s : State) (d : Nat) (v : Domain) : (s.setDom d v).ctxs = s.ctxs := rfl
@[simp] theorem State.setDom_streams (s : State) (d : Nat) (v : Domain) : (s.setDom d v).streams = s.streams := rfl
@[simp] theorem State.setDom_images (s : State) (d : Nat) (v : Domain) : (s.setDom d v).images = s.images := rfl
@[simp] theorem State.setDom_hold (s : State) (d : Nat) (v : Domain) : (s.setDom d v).hold = s.hold := rfl
@[simp] theorem State.setDom_sec (s : State) (d : Nat) (v : Domain) : (s.setDom d v).sec = s.sec := rfl
@[simp] theorem State.setDom_bureau (s : State) (d : Nat) (v : Domain) : (s.setDom d v).bureau = s.bureau := rfl
@[simp] theorem State.setDom_events (s : State) (d : Nat) (v : Domain) : (s.setDom d v).events = s.events := rfl
@[simp] theorem State.setDom_host (s : State) (d : Nat) (v : Domain) : (s.setDom d v).host = s.host := rfl
@[simp] theorem State.setDom_dbg (s : State) (d : Nat) (v : Domain) : (s.setDom d v).dbg = s.dbg := rfl
@[simp] theorem State.setDom_out (s : State) (d : Nat) (v : Domain) : (s.setDom d v).out = s.out := rfl
@[simp] theorem State.setDom_delayed (s : State) (d : Nat) (v : Domain) : (s.setDom d v).delayed = s.delayed := rfl
@[simp] theorem State.setDom_fresh (s : State) (d : Nat) (v : Domain) : (s.setDom d v).fresh = s.fresh := rfl
@[simp] theorem State.setDom_pending (s : State) (d : Nat) (v : Domain) : (s.setDom d v).pending = s.pending := rfl

/-! ## State.setDrw -/

@[simp] theorem State.setDrw_power (s : State) (d : Nat) (v : DrawerState) : (s.setDrw d v).power = s.power := rfl
@[simp] theorem State.setDrw_time (s : State) (d : Nat) (v : DrawerState) : (s.setDrw d v).time = s.time := rfl
@[simp] theorem State.setDrw_domains (s : State) (d : Nat) (v : DrawerState) : (s.setDrw d v).domains = s.domains := rfl
@[simp] theorem State.setDrw_ports (s : State) (d : Nat) (v : DrawerState) : (s.setDrw d v).ports = s.ports := rfl
@[simp] theorem State.setDrw_fabric (s : State) (d : Nat) (v : DrawerState) : (s.setDrw d v).fabric = s.fabric := rfl
@[simp] theorem State.setDrw_bench (s : State) (d : Nat) (v : DrawerState) : (s.setDrw d v).bench = s.bench := rfl
@[simp] theorem State.setDrw_jny (s : State) (d : Nat) (v : DrawerState) : (s.setDrw d v).jny = s.jny := rfl
@[simp] theorem State.setDrw_mem (s : State) (d : Nat) (v : DrawerState) : (s.setDrw d v).mem = s.mem := rfl
@[simp] theorem State.setDrw_sync (s : State) (d : Nat) (v : DrawerState) : (s.setDrw d v).sync = s.sync := rfl
@[simp] theorem State.setDrw_queues (s : State) (d : Nat) (v : DrawerState) : (s.setDrw d v).queues = s.queues := rfl
@[simp] theorem State.setDrw_shares (s : State) (d : Nat) (v : DrawerState) : (s.setDrw d v).shares = s.shares := rfl
@[simp] theorem State.setDrw_ctxs (s : State) (d : Nat) (v : DrawerState) : (s.setDrw d v).ctxs = s.ctxs := rfl
@[simp] theorem State.setDrw_streams (s : State) (d : Nat) (v : DrawerState) : (s.setDrw d v).streams = s.streams := rfl
@[simp] theorem State.setDrw_images (s : State) (d : Nat) (v : DrawerState) : (s.setDrw d v).images = s.images := rfl
@[simp] theorem State.setDrw_hold (s : State) (d : Nat) (v : DrawerState) : (s.setDrw d v).hold = s.hold := rfl
@[simp] theorem State.setDrw_sec (s : State) (d : Nat) (v : DrawerState) : (s.setDrw d v).sec = s.sec := rfl
@[simp] theorem State.setDrw_bureau (s : State) (d : Nat) (v : DrawerState) : (s.setDrw d v).bureau = s.bureau := rfl
@[simp] theorem State.setDrw_events (s : State) (d : Nat) (v : DrawerState) : (s.setDrw d v).events = s.events := rfl
@[simp] theorem State.setDrw_host (s : State) (d : Nat) (v : DrawerState) : (s.setDrw d v).host = s.host := rfl
@[simp] theorem State.setDrw_dbg (s : State) (d : Nat) (v : DrawerState) : (s.setDrw d v).dbg = s.dbg := rfl
@[simp] theorem State.setDrw_out (s : State) (d : Nat) (v : DrawerState) : (s.setDrw d v).out = s.out := rfl
@[simp] theorem State.setDrw_delayed (s : State) (d : Nat) (v : DrawerState) : (s.setDrw d v).delayed = s.delayed := rfl
@[simp] theorem State.setDrw_fresh (s : State) (d : Nat) (v : DrawerState) : (s.setDrw d v).fresh = s.fresh := rfl
@[simp] theorem State.setDrw_pending (s : State) (d : Nat) (v : DrawerState) : (s.setDrw d v).pending = s.pending := rfl

/-! ## State.setQueue -/

@[simp] theorem State.setQueue_power (s : State) (q : Nat) (v : Queue) : (s.setQueue q v).power = s.power := rfl
@[simp] theorem State.setQueue_time (s : State) (q : Nat) (v : Queue) : (s.setQueue q v).time = s.time := rfl
@[simp] theorem State.setQueue_domains (s : State) (q : Nat) (v : Queue) : (s.setQueue q v).domains = s.domains := rfl
@[simp] theorem State.setQueue_ports (s : State) (q : Nat) (v : Queue) : (s.setQueue q v).ports = s.ports := rfl
@[simp] theorem State.setQueue_fabric (s : State) (q : Nat) (v : Queue) : (s.setQueue q v).fabric = s.fabric := rfl
@[simp] theorem State.setQueue_bench (s : State) (q : Nat) (v : Queue) : (s.setQueue q v).bench = s.bench := rfl
@[simp] theorem State.setQueue_jny (s : State) (q : Nat) (v : Queue) : (s.setQueue q v).jny = s.jny := rfl
@[simp] theorem State.setQueue_mem (s : State) (q : Nat) (v : Queue) : (s.setQueue q v).mem = s.mem := rfl
@[simp] theorem State.setQueue_dram (s : State) (q : Nat) (v : Queue) : (s.setQueue q v).dram = s.dram := rfl
@[simp] theorem State.setQueue_sync (s : State) (q : Nat) (v : Queue) : (s.setQueue q v).sync = s.sync := rfl
@[simp] theorem State.setQueue_shares (s : State) (q : Nat) (v : Queue) : (s.setQueue q v).shares = s.shares := rfl
@[simp] theorem State.setQueue_ctxs (s : State) (q : Nat) (v : Queue) : (s.setQueue q v).ctxs = s.ctxs := rfl
@[simp] theorem State.setQueue_streams (s : State) (q : Nat) (v : Queue) : (s.setQueue q v).streams = s.streams := rfl
@[simp] theorem State.setQueue_images (s : State) (q : Nat) (v : Queue) : (s.setQueue q v).images = s.images := rfl
@[simp] theorem State.setQueue_hold (s : State) (q : Nat) (v : Queue) : (s.setQueue q v).hold = s.hold := rfl
@[simp] theorem State.setQueue_sec (s : State) (q : Nat) (v : Queue) : (s.setQueue q v).sec = s.sec := rfl
@[simp] theorem State.setQueue_bureau (s : State) (q : Nat) (v : Queue) : (s.setQueue q v).bureau = s.bureau := rfl
@[simp] theorem State.setQueue_events (s : State) (q : Nat) (v : Queue) : (s.setQueue q v).events = s.events := rfl
@[simp] theorem State.setQueue_host (s : State) (q : Nat) (v : Queue) : (s.setQueue q v).host = s.host := rfl
@[simp] theorem State.setQueue_dbg (s : State) (q : Nat) (v : Queue) : (s.setQueue q v).dbg = s.dbg := rfl
@[simp] theorem State.setQueue_out (s : State) (q : Nat) (v : Queue) : (s.setQueue q v).out = s.out := rfl
@[simp] theorem State.setQueue_delayed (s : State) (q : Nat) (v : Queue) : (s.setQueue q v).delayed = s.delayed := rfl
@[simp] theorem State.setQueue_fresh (s : State) (q : Nat) (v : Queue) : (s.setQueue q v).fresh = s.fresh := rfl
@[simp] theorem State.setQueue_pending (s : State) (q : Nat) (v : Queue) : (s.setQueue q v).pending = s.pending := rfl

/-! ## State.setCtx -/

@[simp] theorem State.setCtx_power (s : State) (k : Nat) (v : Ctx) : (s.setCtx k v).power = s.power := rfl
@[simp] theorem State.setCtx_time (s : State) (k : Nat) (v : Ctx) : (s.setCtx k v).time = s.time := rfl
@[simp] theorem State.setCtx_domains (s : State) (k : Nat) (v : Ctx) : (s.setCtx k v).domains = s.domains := rfl
@[simp] theorem State.setCtx_ports (s : State) (k : Nat) (v : Ctx) : (s.setCtx k v).ports = s.ports := rfl
@[simp] theorem State.setCtx_fabric (s : State) (k : Nat) (v : Ctx) : (s.setCtx k v).fabric = s.fabric := rfl
@[simp] theorem State.setCtx_bench (s : State) (k : Nat) (v : Ctx) : (s.setCtx k v).bench = s.bench := rfl
@[simp] theorem State.setCtx_jny (s : State) (k : Nat) (v : Ctx) : (s.setCtx k v).jny = s.jny := rfl
@[simp] theorem State.setCtx_mem (s : State) (k : Nat) (v : Ctx) : (s.setCtx k v).mem = s.mem := rfl
@[simp] theorem State.setCtx_dram (s : State) (k : Nat) (v : Ctx) : (s.setCtx k v).dram = s.dram := rfl
@[simp] theorem State.setCtx_sync (s : State) (k : Nat) (v : Ctx) : (s.setCtx k v).sync = s.sync := rfl
@[simp] theorem State.setCtx_queues (s : State) (k : Nat) (v : Ctx) : (s.setCtx k v).queues = s.queues := rfl
@[simp] theorem State.setCtx_shares (s : State) (k : Nat) (v : Ctx) : (s.setCtx k v).shares = s.shares := rfl
@[simp] theorem State.setCtx_streams (s : State) (k : Nat) (v : Ctx) : (s.setCtx k v).streams = s.streams := rfl
@[simp] theorem State.setCtx_images (s : State) (k : Nat) (v : Ctx) : (s.setCtx k v).images = s.images := rfl
@[simp] theorem State.setCtx_hold (s : State) (k : Nat) (v : Ctx) : (s.setCtx k v).hold = s.hold := rfl
@[simp] theorem State.setCtx_sec (s : State) (k : Nat) (v : Ctx) : (s.setCtx k v).sec = s.sec := rfl
@[simp] theorem State.setCtx_bureau (s : State) (k : Nat) (v : Ctx) : (s.setCtx k v).bureau = s.bureau := rfl
@[simp] theorem State.setCtx_events (s : State) (k : Nat) (v : Ctx) : (s.setCtx k v).events = s.events := rfl
@[simp] theorem State.setCtx_host (s : State) (k : Nat) (v : Ctx) : (s.setCtx k v).host = s.host := rfl
@[simp] theorem State.setCtx_dbg (s : State) (k : Nat) (v : Ctx) : (s.setCtx k v).dbg = s.dbg := rfl
@[simp] theorem State.setCtx_out (s : State) (k : Nat) (v : Ctx) : (s.setCtx k v).out = s.out := rfl
@[simp] theorem State.setCtx_delayed (s : State) (k : Nat) (v : Ctx) : (s.setCtx k v).delayed = s.delayed := rfl
@[simp] theorem State.setCtx_fresh (s : State) (k : Nat) (v : Ctx) : (s.setCtx k v).fresh = s.fresh := rfl
@[simp] theorem State.setCtx_pending (s : State) (k : Nat) (v : Ctx) : (s.setCtx k v).pending = s.pending := rfl

/-! ## State.setStream -/

@[simp] theorem State.setStream_power (s : State) (n : Nat) (v : Stream) : (s.setStream n v).power = s.power := rfl
@[simp] theorem State.setStream_time (s : State) (n : Nat) (v : Stream) : (s.setStream n v).time = s.time := rfl
@[simp] theorem State.setStream_domains (s : State) (n : Nat) (v : Stream) : (s.setStream n v).domains = s.domains := rfl
@[simp] theorem State.setStream_ports (s : State) (n : Nat) (v : Stream) : (s.setStream n v).ports = s.ports := rfl
@[simp] theorem State.setStream_fabric (s : State) (n : Nat) (v : Stream) : (s.setStream n v).fabric = s.fabric := rfl
@[simp] theorem State.setStream_bench (s : State) (n : Nat) (v : Stream) : (s.setStream n v).bench = s.bench := rfl
@[simp] theorem State.setStream_jny (s : State) (n : Nat) (v : Stream) : (s.setStream n v).jny = s.jny := rfl
@[simp] theorem State.setStream_mem (s : State) (n : Nat) (v : Stream) : (s.setStream n v).mem = s.mem := rfl
@[simp] theorem State.setStream_dram (s : State) (n : Nat) (v : Stream) : (s.setStream n v).dram = s.dram := rfl
@[simp] theorem State.setStream_sync (s : State) (n : Nat) (v : Stream) : (s.setStream n v).sync = s.sync := rfl
@[simp] theorem State.setStream_queues (s : State) (n : Nat) (v : Stream) : (s.setStream n v).queues = s.queues := rfl
@[simp] theorem State.setStream_shares (s : State) (n : Nat) (v : Stream) : (s.setStream n v).shares = s.shares := rfl
@[simp] theorem State.setStream_ctxs (s : State) (n : Nat) (v : Stream) : (s.setStream n v).ctxs = s.ctxs := rfl
@[simp] theorem State.setStream_images (s : State) (n : Nat) (v : Stream) : (s.setStream n v).images = s.images := rfl
@[simp] theorem State.setStream_hold (s : State) (n : Nat) (v : Stream) : (s.setStream n v).hold = s.hold := rfl
@[simp] theorem State.setStream_sec (s : State) (n : Nat) (v : Stream) : (s.setStream n v).sec = s.sec := rfl
@[simp] theorem State.setStream_bureau (s : State) (n : Nat) (v : Stream) : (s.setStream n v).bureau = s.bureau := rfl
@[simp] theorem State.setStream_events (s : State) (n : Nat) (v : Stream) : (s.setStream n v).events = s.events := rfl
@[simp] theorem State.setStream_host (s : State) (n : Nat) (v : Stream) : (s.setStream n v).host = s.host := rfl
@[simp] theorem State.setStream_dbg (s : State) (n : Nat) (v : Stream) : (s.setStream n v).dbg = s.dbg := rfl
@[simp] theorem State.setStream_out (s : State) (n : Nat) (v : Stream) : (s.setStream n v).out = s.out := rfl
@[simp] theorem State.setStream_delayed (s : State) (n : Nat) (v : Stream) : (s.setStream n v).delayed = s.delayed := rfl
@[simp] theorem State.setStream_fresh (s : State) (n : Nat) (v : Stream) : (s.setStream n v).fresh = s.fresh := rfl
@[simp] theorem State.setStream_pending (s : State) (n : Nat) (v : Stream) : (s.setStream n v).pending = s.pending := rfl

/-! ## State.setCounter -/

@[simp] theorem State.setCounter_power (s : State) (c : Nat) (v : Counter) : (s.setCounter c v).power = s.power := rfl
@[simp] theorem State.setCounter_time (s : State) (c : Nat) (v : Counter) : (s.setCounter c v).time = s.time := rfl
@[simp] theorem State.setCounter_domains (s : State) (c : Nat) (v : Counter) : (s.setCounter c v).domains = s.domains := rfl
@[simp] theorem State.setCounter_ports (s : State) (c : Nat) (v : Counter) : (s.setCounter c v).ports = s.ports := rfl
@[simp] theorem State.setCounter_fabric (s : State) (c : Nat) (v : Counter) : (s.setCounter c v).fabric = s.fabric := rfl
@[simp] theorem State.setCounter_bench (s : State) (c : Nat) (v : Counter) : (s.setCounter c v).bench = s.bench := rfl
@[simp] theorem State.setCounter_jny (s : State) (c : Nat) (v : Counter) : (s.setCounter c v).jny = s.jny := rfl
@[simp] theorem State.setCounter_mem (s : State) (c : Nat) (v : Counter) : (s.setCounter c v).mem = s.mem := rfl
@[simp] theorem State.setCounter_dram (s : State) (c : Nat) (v : Counter) : (s.setCounter c v).dram = s.dram := rfl
@[simp] theorem State.setCounter_queues (s : State) (c : Nat) (v : Counter) : (s.setCounter c v).queues = s.queues := rfl
@[simp] theorem State.setCounter_shares (s : State) (c : Nat) (v : Counter) : (s.setCounter c v).shares = s.shares := rfl
@[simp] theorem State.setCounter_ctxs (s : State) (c : Nat) (v : Counter) : (s.setCounter c v).ctxs = s.ctxs := rfl
@[simp] theorem State.setCounter_streams (s : State) (c : Nat) (v : Counter) : (s.setCounter c v).streams = s.streams := rfl
@[simp] theorem State.setCounter_images (s : State) (c : Nat) (v : Counter) : (s.setCounter c v).images = s.images := rfl
@[simp] theorem State.setCounter_hold (s : State) (c : Nat) (v : Counter) : (s.setCounter c v).hold = s.hold := rfl
@[simp] theorem State.setCounter_sec (s : State) (c : Nat) (v : Counter) : (s.setCounter c v).sec = s.sec := rfl
@[simp] theorem State.setCounter_bureau (s : State) (c : Nat) (v : Counter) : (s.setCounter c v).bureau = s.bureau := rfl
@[simp] theorem State.setCounter_events (s : State) (c : Nat) (v : Counter) : (s.setCounter c v).events = s.events := rfl
@[simp] theorem State.setCounter_host (s : State) (c : Nat) (v : Counter) : (s.setCounter c v).host = s.host := rfl
@[simp] theorem State.setCounter_dbg (s : State) (c : Nat) (v : Counter) : (s.setCounter c v).dbg = s.dbg := rfl
@[simp] theorem State.setCounter_out (s : State) (c : Nat) (v : Counter) : (s.setCounter c v).out = s.out := rfl
@[simp] theorem State.setCounter_delayed (s : State) (c : Nat) (v : Counter) : (s.setCounter c v).delayed = s.delayed := rfl
@[simp] theorem State.setCounter_fresh (s : State) (c : Nat) (v : Counter) : (s.setCounter c v).fresh = s.fresh := rfl
@[simp] theorem State.setCounter_pending (s : State) (c : Nat) (v : Counter) : (s.setCounter c v).pending = s.pending := rfl

/-! ## State.setWaits -/

@[simp] theorem State.setWaits_power (s : State) (ws : List Wait) : (s.setWaits ws).power = s.power := rfl
@[simp] theorem State.setWaits_time (s : State) (ws : List Wait) : (s.setWaits ws).time = s.time := rfl
@[simp] theorem State.setWaits_domains (s : State) (ws : List Wait) : (s.setWaits ws).domains = s.domains := rfl
@[simp] theorem State.setWaits_ports (s : State) (ws : List Wait) : (s.setWaits ws).ports = s.ports := rfl
@[simp] theorem State.setWaits_fabric (s : State) (ws : List Wait) : (s.setWaits ws).fabric = s.fabric := rfl
@[simp] theorem State.setWaits_bench (s : State) (ws : List Wait) : (s.setWaits ws).bench = s.bench := rfl
@[simp] theorem State.setWaits_jny (s : State) (ws : List Wait) : (s.setWaits ws).jny = s.jny := rfl
@[simp] theorem State.setWaits_mem (s : State) (ws : List Wait) : (s.setWaits ws).mem = s.mem := rfl
@[simp] theorem State.setWaits_dram (s : State) (ws : List Wait) : (s.setWaits ws).dram = s.dram := rfl
@[simp] theorem State.setWaits_queues (s : State) (ws : List Wait) : (s.setWaits ws).queues = s.queues := rfl
@[simp] theorem State.setWaits_shares (s : State) (ws : List Wait) : (s.setWaits ws).shares = s.shares := rfl
@[simp] theorem State.setWaits_ctxs (s : State) (ws : List Wait) : (s.setWaits ws).ctxs = s.ctxs := rfl
@[simp] theorem State.setWaits_streams (s : State) (ws : List Wait) : (s.setWaits ws).streams = s.streams := rfl
@[simp] theorem State.setWaits_images (s : State) (ws : List Wait) : (s.setWaits ws).images = s.images := rfl
@[simp] theorem State.setWaits_hold (s : State) (ws : List Wait) : (s.setWaits ws).hold = s.hold := rfl
@[simp] theorem State.setWaits_sec (s : State) (ws : List Wait) : (s.setWaits ws).sec = s.sec := rfl
@[simp] theorem State.setWaits_bureau (s : State) (ws : List Wait) : (s.setWaits ws).bureau = s.bureau := rfl
@[simp] theorem State.setWaits_events (s : State) (ws : List Wait) : (s.setWaits ws).events = s.events := rfl
@[simp] theorem State.setWaits_host (s : State) (ws : List Wait) : (s.setWaits ws).host = s.host := rfl
@[simp] theorem State.setWaits_dbg (s : State) (ws : List Wait) : (s.setWaits ws).dbg = s.dbg := rfl
@[simp] theorem State.setWaits_out (s : State) (ws : List Wait) : (s.setWaits ws).out = s.out := rfl
@[simp] theorem State.setWaits_delayed (s : State) (ws : List Wait) : (s.setWaits ws).delayed = s.delayed := rfl
@[simp] theorem State.setWaits_fresh (s : State) (ws : List Wait) : (s.setWaits ws).fresh = s.fresh := rfl
@[simp] theorem State.setWaits_pending (s : State) (ws : List Wait) : (s.setWaits ws).pending = s.pending := rfl

/-! ## State.setRetention -/

@[simp] theorem State.setRetention_time (s : State) (r : Retention) : (s.setRetention r).time = s.time := rfl
@[simp] theorem State.setRetention_domains (s : State) (r : Retention) : (s.setRetention r).domains = s.domains := rfl
@[simp] theorem State.setRetention_ports (s : State) (r : Retention) : (s.setRetention r).ports = s.ports := rfl
@[simp] theorem State.setRetention_fabric (s : State) (r : Retention) : (s.setRetention r).fabric = s.fabric := rfl
@[simp] theorem State.setRetention_bench (s : State) (r : Retention) : (s.setRetention r).bench = s.bench := rfl
@[simp] theorem State.setRetention_jny (s : State) (r : Retention) : (s.setRetention r).jny = s.jny := rfl
@[simp] theorem State.setRetention_mem (s : State) (r : Retention) : (s.setRetention r).mem = s.mem := rfl
@[simp] theorem State.setRetention_dram (s : State) (r : Retention) : (s.setRetention r).dram = s.dram := rfl
@[simp] theorem State.setRetention_sync (s : State) (r : Retention) : (s.setRetention r).sync = s.sync := rfl
@[simp] theorem State.setRetention_queues (s : State) (r : Retention) : (s.setRetention r).queues = s.queues := rfl
@[simp] theorem State.setRetention_shares (s : State) (r : Retention) : (s.setRetention r).shares = s.shares := rfl
@[simp] theorem State.setRetention_ctxs (s : State) (r : Retention) : (s.setRetention r).ctxs = s.ctxs := rfl
@[simp] theorem State.setRetention_streams (s : State) (r : Retention) : (s.setRetention r).streams = s.streams := rfl
@[simp] theorem State.setRetention_images (s : State) (r : Retention) : (s.setRetention r).images = s.images := rfl
@[simp] theorem State.setRetention_hold (s : State) (r : Retention) : (s.setRetention r).hold = s.hold := rfl
@[simp] theorem State.setRetention_sec (s : State) (r : Retention) : (s.setRetention r).sec = s.sec := rfl
@[simp] theorem State.setRetention_bureau (s : State) (r : Retention) : (s.setRetention r).bureau = s.bureau := rfl
@[simp] theorem State.setRetention_events (s : State) (r : Retention) : (s.setRetention r).events = s.events := rfl
@[simp] theorem State.setRetention_host (s : State) (r : Retention) : (s.setRetention r).host = s.host := rfl
@[simp] theorem State.setRetention_dbg (s : State) (r : Retention) : (s.setRetention r).dbg = s.dbg := rfl
@[simp] theorem State.setRetention_out (s : State) (r : Retention) : (s.setRetention r).out = s.out := rfl
@[simp] theorem State.setRetention_delayed (s : State) (r : Retention) : (s.setRetention r).delayed = s.delayed := rfl
@[simp] theorem State.setRetention_fresh (s : State) (r : Retention) : (s.setRetention r).fresh = s.fresh := rfl
@[simp] theorem State.setRetention_pending (s : State) (r : Retention) : (s.setRetention r).pending = s.pending := rfl

/-! ## State.emit -/

@[simp] theorem State.emit_power (s : State) (o : Out) : (s.emit o).power = s.power := rfl
@[simp] theorem State.emit_time (s : State) (o : Out) : (s.emit o).time = s.time := rfl
@[simp] theorem State.emit_domains (s : State) (o : Out) : (s.emit o).domains = s.domains := rfl
@[simp] theorem State.emit_ports (s : State) (o : Out) : (s.emit o).ports = s.ports := rfl
@[simp] theorem State.emit_fabric (s : State) (o : Out) : (s.emit o).fabric = s.fabric := rfl
@[simp] theorem State.emit_bench (s : State) (o : Out) : (s.emit o).bench = s.bench := rfl
@[simp] theorem State.emit_jny (s : State) (o : Out) : (s.emit o).jny = s.jny := rfl
@[simp] theorem State.emit_mem (s : State) (o : Out) : (s.emit o).mem = s.mem := rfl
@[simp] theorem State.emit_dram (s : State) (o : Out) : (s.emit o).dram = s.dram := rfl
@[simp] theorem State.emit_sync (s : State) (o : Out) : (s.emit o).sync = s.sync := rfl
@[simp] theorem State.emit_queues (s : State) (o : Out) : (s.emit o).queues = s.queues := rfl
@[simp] theorem State.emit_shares (s : State) (o : Out) : (s.emit o).shares = s.shares := rfl
@[simp] theorem State.emit_ctxs (s : State) (o : Out) : (s.emit o).ctxs = s.ctxs := rfl
@[simp] theorem State.emit_streams (s : State) (o : Out) : (s.emit o).streams = s.streams := rfl
@[simp] theorem State.emit_images (s : State) (o : Out) : (s.emit o).images = s.images := rfl
@[simp] theorem State.emit_hold (s : State) (o : Out) : (s.emit o).hold = s.hold := rfl
@[simp] theorem State.emit_sec (s : State) (o : Out) : (s.emit o).sec = s.sec := rfl
@[simp] theorem State.emit_bureau (s : State) (o : Out) : (s.emit o).bureau = s.bureau := rfl
@[simp] theorem State.emit_events (s : State) (o : Out) : (s.emit o).events = s.events := rfl
@[simp] theorem State.emit_host (s : State) (o : Out) : (s.emit o).host = s.host := rfl
@[simp] theorem State.emit_dbg (s : State) (o : Out) : (s.emit o).dbg = s.dbg := rfl
@[simp] theorem State.emit_delayed (s : State) (o : Out) : (s.emit o).delayed = s.delayed := rfl
@[simp] theorem State.emit_fresh (s : State) (o : Out) : (s.emit o).fresh = s.fresh := rfl
@[simp] theorem State.emit_pending (s : State) (o : Out) : (s.emit o).pending = s.pending := rfl

/-! ## State.draw -/

@[simp] theorem State.draw_power (s : State) : (s.draw).power = s.power := rfl
@[simp] theorem State.draw_time (s : State) : (s.draw).time = s.time := rfl
@[simp] theorem State.draw_domains (s : State) : (s.draw).domains = s.domains := rfl
@[simp] theorem State.draw_ports (s : State) : (s.draw).ports = s.ports := rfl
@[simp] theorem State.draw_fabric (s : State) : (s.draw).fabric = s.fabric := rfl
@[simp] theorem State.draw_bench (s : State) : (s.draw).bench = s.bench := rfl
@[simp] theorem State.draw_jny (s : State) : (s.draw).jny = s.jny := rfl
@[simp] theorem State.draw_mem (s : State) : (s.draw).mem = s.mem := rfl
@[simp] theorem State.draw_dram (s : State) : (s.draw).dram = s.dram := rfl
@[simp] theorem State.draw_sync (s : State) : (s.draw).sync = s.sync := rfl
@[simp] theorem State.draw_queues (s : State) : (s.draw).queues = s.queues := rfl
@[simp] theorem State.draw_shares (s : State) : (s.draw).shares = s.shares := rfl
@[simp] theorem State.draw_ctxs (s : State) : (s.draw).ctxs = s.ctxs := rfl
@[simp] theorem State.draw_streams (s : State) : (s.draw).streams = s.streams := rfl
@[simp] theorem State.draw_images (s : State) : (s.draw).images = s.images := rfl
@[simp] theorem State.draw_hold (s : State) : (s.draw).hold = s.hold := rfl
@[simp] theorem State.draw_sec (s : State) : (s.draw).sec = s.sec := rfl
@[simp] theorem State.draw_bureau (s : State) : (s.draw).bureau = s.bureau := rfl
@[simp] theorem State.draw_events (s : State) : (s.draw).events = s.events := rfl
@[simp] theorem State.draw_host (s : State) : (s.draw).host = s.host := rfl
@[simp] theorem State.draw_dbg (s : State) : (s.draw).dbg = s.dbg := rfl
@[simp] theorem State.draw_out (s : State) : (s.draw).out = s.out := rfl
@[simp] theorem State.draw_delayed (s : State) : (s.draw).delayed = s.delayed := rfl
@[simp] theorem State.draw_pending (s : State) : (s.draw).pending = s.pending := rfl

/-! ## State.input -/

@[simp] theorem State.input_power (s : State) (c : Instr) : (s.input c).power = s.power := rfl
@[simp] theorem State.input_time (s : State) (c : Instr) : (s.input c).time = s.time := rfl
@[simp] theorem State.input_domains (s : State) (c : Instr) : (s.input c).domains = s.domains := rfl
@[simp] theorem State.input_ports (s : State) (c : Instr) : (s.input c).ports = s.ports := rfl
@[simp] theorem State.input_fabric (s : State) (c : Instr) : (s.input c).fabric = s.fabric := rfl
@[simp] theorem State.input_jny (s : State) (c : Instr) : (s.input c).jny = s.jny := rfl
@[simp] theorem State.input_mem (s : State) (c : Instr) : (s.input c).mem = s.mem := rfl
@[simp] theorem State.input_dram (s : State) (c : Instr) : (s.input c).dram = s.dram := rfl
@[simp] theorem State.input_sync (s : State) (c : Instr) : (s.input c).sync = s.sync := rfl
@[simp] theorem State.input_queues (s : State) (c : Instr) : (s.input c).queues = s.queues := rfl
@[simp] theorem State.input_shares (s : State) (c : Instr) : (s.input c).shares = s.shares := rfl
@[simp] theorem State.input_ctxs (s : State) (c : Instr) : (s.input c).ctxs = s.ctxs := rfl
@[simp] theorem State.input_streams (s : State) (c : Instr) : (s.input c).streams = s.streams := rfl
@[simp] theorem State.input_images (s : State) (c : Instr) : (s.input c).images = s.images := rfl
@[simp] theorem State.input_hold (s : State) (c : Instr) : (s.input c).hold = s.hold := rfl
@[simp] theorem State.input_sec (s : State) (c : Instr) : (s.input c).sec = s.sec := rfl
@[simp] theorem State.input_bureau (s : State) (c : Instr) : (s.input c).bureau = s.bureau := rfl
@[simp] theorem State.input_events (s : State) (c : Instr) : (s.input c).events = s.events := rfl
@[simp] theorem State.input_host (s : State) (c : Instr) : (s.input c).host = s.host := rfl
@[simp] theorem State.input_dbg (s : State) (c : Instr) : (s.input c).dbg = s.dbg := rfl
@[simp] theorem State.input_out (s : State) (c : Instr) : (s.input c).out = s.out := rfl
@[simp] theorem State.input_delayed (s : State) (c : Instr) : (s.input c).delayed = s.delayed := rfl
@[simp] theorem State.input_fresh (s : State) (c : Instr) : (s.input c).fresh = s.fresh := rfl
@[simp] theorem State.input_pending (s : State) (c : Instr) : (s.input c).pending = s.pending := rfl

/-! ## State.rest -/

@[simp] theorem State.rest_power (s : State) : (s.rest).power = s.power := rfl
@[simp] theorem State.rest_time (s : State) : (s.rest).time = s.time := rfl
@[simp] theorem State.rest_domains (s : State) : (s.rest).domains = s.domains := rfl
@[simp] theorem State.rest_ports (s : State) : (s.rest).ports = s.ports := rfl
@[simp] theorem State.rest_fabric (s : State) : (s.rest).fabric = s.fabric := rfl
@[simp] theorem State.rest_bench (s : State) : (s.rest).bench = s.bench := rfl
@[simp] theorem State.rest_jny (s : State) : (s.rest).jny = s.jny := rfl
@[simp] theorem State.rest_mem (s : State) : (s.rest).mem = s.mem := rfl
@[simp] theorem State.rest_dram (s : State) : (s.rest).dram = s.dram := rfl
@[simp] theorem State.rest_sync (s : State) : (s.rest).sync = s.sync := rfl
@[simp] theorem State.rest_queues (s : State) : (s.rest).queues = s.queues := rfl
@[simp] theorem State.rest_shares (s : State) : (s.rest).shares = s.shares := rfl
@[simp] theorem State.rest_ctxs (s : State) : (s.rest).ctxs = s.ctxs := rfl
@[simp] theorem State.rest_streams (s : State) : (s.rest).streams = s.streams := rfl
@[simp] theorem State.rest_images (s : State) : (s.rest).images = s.images := rfl
@[simp] theorem State.rest_hold (s : State) : (s.rest).hold = s.hold := rfl
@[simp] theorem State.rest_sec (s : State) : (s.rest).sec = s.sec := rfl
@[simp] theorem State.rest_bureau (s : State) : (s.rest).bureau = s.bureau := rfl
@[simp] theorem State.rest_events (s : State) : (s.rest).events = s.events := rfl
@[simp] theorem State.rest_host (s : State) : (s.rest).host = s.host := rfl
@[simp] theorem State.rest_dbg (s : State) : (s.rest).dbg = s.dbg := rfl
@[simp] theorem State.rest_out (s : State) : (s.rest).out = s.out := rfl
@[simp] theorem State.rest_delayed (s : State) : (s.rest).delayed = s.delayed := rfl
@[simp] theorem State.rest_fresh (s : State) : (s.rest).fresh = s.fresh := rfl

/-! ## State.beginQuantum -/

@[simp] theorem State.beginQuantum_power (s : State) (cls n : Nat) : (s.beginQuantum cls n).power = s.power := rfl
@[simp] theorem State.beginQuantum_time (s : State) (cls n : Nat) : (s.beginQuantum cls n).time = s.time := rfl
@[simp] theorem State.beginQuantum_domains (s : State) (cls n : Nat) : (s.beginQuantum cls n).domains = s.domains := rfl
@[simp] theorem State.beginQuantum_ports (s : State) (cls n : Nat) : (s.beginQuantum cls n).ports = s.ports := rfl
@[simp] theorem State.beginQuantum_fabric (s : State) (cls n : Nat) : (s.beginQuantum cls n).fabric = s.fabric := rfl
@[simp] theorem State.beginQuantum_bench (s : State) (cls n : Nat) : (s.beginQuantum cls n).bench = s.bench := rfl
@[simp] theorem State.beginQuantum_jny (s : State) (cls n : Nat) : (s.beginQuantum cls n).jny = s.jny := rfl
@[simp] theorem State.beginQuantum_mem (s : State) (cls n : Nat) : (s.beginQuantum cls n).mem = s.mem := rfl
@[simp] theorem State.beginQuantum_dram (s : State) (cls n : Nat) : (s.beginQuantum cls n).dram = s.dram := rfl
@[simp] theorem State.beginQuantum_sync (s : State) (cls n : Nat) : (s.beginQuantum cls n).sync = s.sync := rfl
@[simp] theorem State.beginQuantum_queues (s : State) (cls n : Nat) : (s.beginQuantum cls n).queues = s.queues := rfl
@[simp] theorem State.beginQuantum_ctxs (s : State) (cls n : Nat) : (s.beginQuantum cls n).ctxs = s.ctxs := rfl
@[simp] theorem State.beginQuantum_streams (s : State) (cls n : Nat) : (s.beginQuantum cls n).streams = s.streams := rfl
@[simp] theorem State.beginQuantum_images (s : State) (cls n : Nat) : (s.beginQuantum cls n).images = s.images := rfl
@[simp] theorem State.beginQuantum_hold (s : State) (cls n : Nat) : (s.beginQuantum cls n).hold = s.hold := rfl
@[simp] theorem State.beginQuantum_sec (s : State) (cls n : Nat) : (s.beginQuantum cls n).sec = s.sec := rfl
@[simp] theorem State.beginQuantum_bureau (s : State) (cls n : Nat) : (s.beginQuantum cls n).bureau = s.bureau := rfl
@[simp] theorem State.beginQuantum_events (s : State) (cls n : Nat) : (s.beginQuantum cls n).events = s.events := rfl
@[simp] theorem State.beginQuantum_host (s : State) (cls n : Nat) : (s.beginQuantum cls n).host = s.host := rfl
@[simp] theorem State.beginQuantum_dbg (s : State) (cls n : Nat) : (s.beginQuantum cls n).dbg = s.dbg := rfl
@[simp] theorem State.beginQuantum_out (s : State) (cls n : Nat) : (s.beginQuantum cls n).out = s.out := rfl
@[simp] theorem State.beginQuantum_delayed (s : State) (cls n : Nat) : (s.beginQuantum cls n).delayed = s.delayed := rfl
@[simp] theorem State.beginQuantum_fresh (s : State) (cls n : Nat) : (s.beginQuantum cls n).fresh = s.fresh := rfl
@[simp] theorem State.beginQuantum_pending (s : State) (cls n : Nat) : (s.beginQuantum cls n).pending = s.pending := rfl

/-! ## State.noneHeld -/

@[simp] theorem State.noneHeld_power (s : State) : (s.noneHeld).power = s.power := rfl
@[simp] theorem State.noneHeld_time (s : State) : (s.noneHeld).time = s.time := rfl
@[simp] theorem State.noneHeld_domains (s : State) : (s.noneHeld).domains = s.domains := rfl
@[simp] theorem State.noneHeld_ports (s : State) : (s.noneHeld).ports = s.ports := rfl
@[simp] theorem State.noneHeld_fabric (s : State) : (s.noneHeld).fabric = s.fabric := rfl
@[simp] theorem State.noneHeld_jny (s : State) : (s.noneHeld).jny = s.jny := rfl
@[simp] theorem State.noneHeld_mem (s : State) : (s.noneHeld).mem = s.mem := rfl
@[simp] theorem State.noneHeld_dram (s : State) : (s.noneHeld).dram = s.dram := rfl
@[simp] theorem State.noneHeld_sync (s : State) : (s.noneHeld).sync = s.sync := rfl
@[simp] theorem State.noneHeld_queues (s : State) : (s.noneHeld).queues = s.queues := rfl
@[simp] theorem State.noneHeld_shares (s : State) : (s.noneHeld).shares = s.shares := rfl
@[simp] theorem State.noneHeld_ctxs (s : State) : (s.noneHeld).ctxs = s.ctxs := rfl
@[simp] theorem State.noneHeld_streams (s : State) : (s.noneHeld).streams = s.streams := rfl
@[simp] theorem State.noneHeld_images (s : State) : (s.noneHeld).images = s.images := rfl
@[simp] theorem State.noneHeld_hold (s : State) : (s.noneHeld).hold = s.hold := rfl
@[simp] theorem State.noneHeld_sec (s : State) : (s.noneHeld).sec = s.sec := rfl
@[simp] theorem State.noneHeld_bureau (s : State) : (s.noneHeld).bureau = s.bureau := rfl
@[simp] theorem State.noneHeld_events (s : State) : (s.noneHeld).events = s.events := rfl
@[simp] theorem State.noneHeld_dbg (s : State) : (s.noneHeld).dbg = s.dbg := rfl
@[simp] theorem State.noneHeld_out (s : State) : (s.noneHeld).out = s.out := rfl
@[simp] theorem State.noneHeld_delayed (s : State) : (s.noneHeld).delayed = s.delayed := rfl
@[simp] theorem State.noneHeld_fresh (s : State) : (s.noneHeld).fresh = s.fresh := rfl
@[simp] theorem State.noneHeld_pending (s : State) : (s.noneHeld).pending = s.pending := rfl

/-! ## Reading a table after its own write -/

@[simp] theorem State.port_setPort_self (s : State) (p : Nat) (v : Port) : (s.setPort p v).port p = v := FMap.get_set_self _ _ _ _
theorem State.port_setPort_ne (s : State) {p i : Nat} (v : Port) (h : i ≠ p) : (s.setPort p v).port i = s.port i :=
  FMap.get_set_ne _ _ _ h
@[simp] theorem State.stk_setStk_self (s : State) (n : Nat) (v : Stack) : (s.setStk n v).stk n = v := FMap.get_set_self _ _ _ _
theorem State.stk_setStk_ne (s : State) {n i : Nat} (v : Stack) (h : i ≠ n) : (s.setStk n v).stk i = s.stk i :=
  FMap.get_set_ne _ _ _ h
@[simp] theorem State.dom_setDom_self (s : State) (d : Nat) (v : Domain) : (s.setDom d v).dom d = v := FMap.get_set_self _ _ _ _
theorem State.dom_setDom_ne (s : State) {d i : Nat} (v : Domain) (h : i ≠ d) : (s.setDom d v).dom i = s.dom i :=
  FMap.get_set_ne _ _ _ h
@[simp] theorem State.drw_setDrw_self (s : State) (d : Nat) (v : DrawerState) : (s.setDrw d v).drw d = v := FMap.get_set_self _ _ _ _
theorem State.drw_setDrw_ne (s : State) {d i : Nat} (v : DrawerState) (h : i ≠ d) : (s.setDrw d v).drw i = s.drw i :=
  FMap.get_set_ne _ _ _ h
@[simp] theorem State.queue_setQueue_self (s : State) (q : Nat) (v : Queue) : (s.setQueue q v).queue q = v := FMap.get_set_self _ _ _ _
theorem State.queue_setQueue_ne (s : State) {q i : Nat} (v : Queue) (h : i ≠ q) : (s.setQueue q v).queue i = s.queue i :=
  FMap.get_set_ne _ _ _ h
@[simp] theorem State.ctx_setCtx_self (s : State) (k : Nat) (v : Ctx) : (s.setCtx k v).ctx k = v := FMap.get_set_self _ _ _ _
theorem State.ctx_setCtx_ne (s : State) {k i : Nat} (v : Ctx) (h : i ≠ k) : (s.setCtx k v).ctx i = s.ctx i :=
  FMap.get_set_ne _ _ _ h
@[simp] theorem State.stream_setStream_self (s : State) (n : Nat) (v : Stream) : (s.setStream n v).stream n = v := FMap.get_set_self _ _ _ _
theorem State.stream_setStream_ne (s : State) {n i : Nat} (v : Stream) (h : i ≠ n) : (s.setStream n v).stream i = s.stream i :=
  FMap.get_set_ne _ _ _ h
@[simp] theorem State.counter_setCounter_self (s : State) (c : Nat) (v : Counter) : (s.setCounter c v).counter c = v := FMap.get_set_self _ _ _ _
theorem State.counter_setCounter_ne (s : State) {c i : Nat} (v : Counter) (h : i ≠ c) : (s.setCounter c v).counter i = s.counter i :=
  FMap.get_set_ne _ _ _ h
@[simp] theorem State.port_updPort_self (s : State) (p : Nat) (f : Port → Port) : (s.updPort p f).port p = f (s.port p) := FMap.get_set_self _ _ _ _
theorem State.port_updPort_ne (s : State) {p i : Nat} (f : Port → Port) (h : i ≠ p) : (s.updPort p f).port i = s.port i :=
  FMap.get_set_ne _ _ _ h
@[simp] theorem State.stk_updStk_self (s : State) (n : Nat) (f : Stack → Stack) : (s.updStk n f).stk n = f (s.stk n) := FMap.get_set_self _ _ _ _
theorem State.stk_updStk_ne (s : State) {n i : Nat} (f : Stack → Stack) (h : i ≠ n) : (s.updStk n f).stk i = s.stk i :=
  FMap.get_set_ne _ _ _ h

/-! ## A table of the state read through another's write -/

@[simp] theorem State.stk_setPort (s : State) (p i : Nat) (v : Port) : (s.setPort p v).stk i = s.stk i := rfl
@[simp] theorem State.dom_setPort (s : State) (p i : Nat) (v : Port) : (s.setPort p v).dom i = s.dom i := rfl
@[simp] theorem State.drw_setPort (s : State) (p i : Nat) (v : Port) : (s.setPort p v).drw i = s.drw i := rfl
@[simp] theorem State.queue_setPort (s : State) (p i : Nat) (v : Port) : (s.setPort p v).queue i = s.queue i := rfl
@[simp] theorem State.ctx_setPort (s : State) (p i : Nat) (v : Port) : (s.setPort p v).ctx i = s.ctx i := rfl
@[simp] theorem State.stream_setPort (s : State) (p i : Nat) (v : Port) : (s.setPort p v).stream i = s.stream i := rfl
@[simp] theorem State.counter_setPort (s : State) (p i : Nat) (v : Port) : (s.setPort p v).counter i = s.counter i := rfl
@[simp] theorem State.port_setStk (s : State) (n i : Nat) (v : Stack) : (s.setStk n v).port i = s.port i := rfl
@[simp] theorem State.dom_setStk (s : State) (n i : Nat) (v : Stack) : (s.setStk n v).dom i = s.dom i := rfl
@[simp] theorem State.drw_setStk (s : State) (n i : Nat) (v : Stack) : (s.setStk n v).drw i = s.drw i := rfl
@[simp] theorem State.queue_setStk (s : State) (n i : Nat) (v : Stack) : (s.setStk n v).queue i = s.queue i := rfl
@[simp] theorem State.ctx_setStk (s : State) (n i : Nat) (v : Stack) : (s.setStk n v).ctx i = s.ctx i := rfl
@[simp] theorem State.stream_setStk (s : State) (n i : Nat) (v : Stack) : (s.setStk n v).stream i = s.stream i := rfl
@[simp] theorem State.counter_setStk (s : State) (n i : Nat) (v : Stack) : (s.setStk n v).counter i = s.counter i := rfl
@[simp] theorem State.port_setDom (s : State) (d i : Nat) (v : Domain) : (s.setDom d v).port i = s.port i := rfl
@[simp] theorem State.stk_setDom (s : State) (d i : Nat) (v : Domain) : (s.setDom d v).stk i = s.stk i := rfl
@[simp] theorem State.drw_setDom (s : State) (d i : Nat) (v : Domain) : (s.setDom d v).drw i = s.drw i := rfl
@[simp] theorem State.queue_setDom (s : State) (d i : Nat) (v : Domain) : (s.setDom d v).queue i = s.queue i := rfl
@[simp] theorem State.ctx_setDom (s : State) (d i : Nat) (v : Domain) : (s.setDom d v).ctx i = s.ctx i := rfl
@[simp] theorem State.stream_setDom (s : State) (d i : Nat) (v : Domain) : (s.setDom d v).stream i = s.stream i := rfl
@[simp] theorem State.counter_setDom (s : State) (d i : Nat) (v : Domain) : (s.setDom d v).counter i = s.counter i := rfl
@[simp] theorem State.port_setDrw (s : State) (d i : Nat) (v : DrawerState) : (s.setDrw d v).port i = s.port i := rfl
@[simp] theorem State.stk_setDrw (s : State) (d i : Nat) (v : DrawerState) : (s.setDrw d v).stk i = s.stk i := rfl
@[simp] theorem State.dom_setDrw (s : State) (d i : Nat) (v : DrawerState) : (s.setDrw d v).dom i = s.dom i := rfl
@[simp] theorem State.queue_setDrw (s : State) (d i : Nat) (v : DrawerState) : (s.setDrw d v).queue i = s.queue i := rfl
@[simp] theorem State.ctx_setDrw (s : State) (d i : Nat) (v : DrawerState) : (s.setDrw d v).ctx i = s.ctx i := rfl
@[simp] theorem State.stream_setDrw (s : State) (d i : Nat) (v : DrawerState) : (s.setDrw d v).stream i = s.stream i := rfl
@[simp] theorem State.counter_setDrw (s : State) (d i : Nat) (v : DrawerState) : (s.setDrw d v).counter i = s.counter i := rfl
@[simp] theorem State.port_setQueue (s : State) (q i : Nat) (v : Queue) : (s.setQueue q v).port i = s.port i := rfl
@[simp] theorem State.stk_setQueue (s : State) (q i : Nat) (v : Queue) : (s.setQueue q v).stk i = s.stk i := rfl
@[simp] theorem State.dom_setQueue (s : State) (q i : Nat) (v : Queue) : (s.setQueue q v).dom i = s.dom i := rfl
@[simp] theorem State.drw_setQueue (s : State) (q i : Nat) (v : Queue) : (s.setQueue q v).drw i = s.drw i := rfl
@[simp] theorem State.ctx_setQueue (s : State) (q i : Nat) (v : Queue) : (s.setQueue q v).ctx i = s.ctx i := rfl
@[simp] theorem State.stream_setQueue (s : State) (q i : Nat) (v : Queue) : (s.setQueue q v).stream i = s.stream i := rfl
@[simp] theorem State.counter_setQueue (s : State) (q i : Nat) (v : Queue) : (s.setQueue q v).counter i = s.counter i := rfl
@[simp] theorem State.port_setCtx (s : State) (k i : Nat) (v : Ctx) : (s.setCtx k v).port i = s.port i := rfl
@[simp] theorem State.stk_setCtx (s : State) (k i : Nat) (v : Ctx) : (s.setCtx k v).stk i = s.stk i := rfl
@[simp] theorem State.dom_setCtx (s : State) (k i : Nat) (v : Ctx) : (s.setCtx k v).dom i = s.dom i := rfl
@[simp] theorem State.drw_setCtx (s : State) (k i : Nat) (v : Ctx) : (s.setCtx k v).drw i = s.drw i := rfl
@[simp] theorem State.queue_setCtx (s : State) (k i : Nat) (v : Ctx) : (s.setCtx k v).queue i = s.queue i := rfl
@[simp] theorem State.stream_setCtx (s : State) (k i : Nat) (v : Ctx) : (s.setCtx k v).stream i = s.stream i := rfl
@[simp] theorem State.counter_setCtx (s : State) (k i : Nat) (v : Ctx) : (s.setCtx k v).counter i = s.counter i := rfl
@[simp] theorem State.port_setStream (s : State) (n i : Nat) (v : Stream) : (s.setStream n v).port i = s.port i := rfl
@[simp] theorem State.stk_setStream (s : State) (n i : Nat) (v : Stream) : (s.setStream n v).stk i = s.stk i := rfl
@[simp] theorem State.dom_setStream (s : State) (n i : Nat) (v : Stream) : (s.setStream n v).dom i = s.dom i := rfl
@[simp] theorem State.drw_setStream (s : State) (n i : Nat) (v : Stream) : (s.setStream n v).drw i = s.drw i := rfl
@[simp] theorem State.queue_setStream (s : State) (n i : Nat) (v : Stream) : (s.setStream n v).queue i = s.queue i := rfl
@[simp] theorem State.ctx_setStream (s : State) (n i : Nat) (v : Stream) : (s.setStream n v).ctx i = s.ctx i := rfl
@[simp] theorem State.counter_setStream (s : State) (n i : Nat) (v : Stream) : (s.setStream n v).counter i = s.counter i := rfl
@[simp] theorem State.port_setCounter (s : State) (c i : Nat) (v : Counter) : (s.setCounter c v).port i = s.port i := rfl
@[simp] theorem State.stk_setCounter (s : State) (c i : Nat) (v : Counter) : (s.setCounter c v).stk i = s.stk i := rfl
@[simp] theorem State.dom_setCounter (s : State) (c i : Nat) (v : Counter) : (s.setCounter c v).dom i = s.dom i := rfl
@[simp] theorem State.drw_setCounter (s : State) (c i : Nat) (v : Counter) : (s.setCounter c v).drw i = s.drw i := rfl
@[simp] theorem State.queue_setCounter (s : State) (c i : Nat) (v : Counter) : (s.setCounter c v).queue i = s.queue i := rfl
@[simp] theorem State.ctx_setCounter (s : State) (c i : Nat) (v : Counter) : (s.setCounter c v).ctx i = s.ctx i := rfl
@[simp] theorem State.stream_setCounter (s : State) (c i : Nat) (v : Counter) : (s.setCounter c v).stream i = s.stream i := rfl

end Sys2Proof.Machine
end

