-- ==== Sys2Proof/Laws/Inputs.lean ====
section
/-! SUPPORT. Inputs of the benches: what delivering one does, once for every command that is one, and what it leaves
unchanged. -/

namespace Sys2Proof.Machine

/-! ## Delivery -/

/-- An input that no pause of delivery holds up takes its effect at once. -/
theorem State.deliver_of_go {s : State} (c : Instr) (f : State → State) (h : s.inputsGo) : s.deliver c f = f (s.inputOf c) := by
  unfold State.inputsGo at h
  unfold State.deliver State.inputOf
  cases hb : s.benchesRun <;> simp_all

/-- An input that must wait joins the inputs that wait, and does nothing else. -/
theorem State.deliver_of_wait {s : State} (c : Instr) (f : State → State) (h : s.inputsGo = false) :
    s.deliver c f = { s with bench.heldIn := s.bench.heldIn ++ [c] } := by
  unfold State.inputsGo at h
  unfold State.deliver
  cases hb : s.benchesRun <;> simp_all

/-- What an update keeps, the delivery of it keeps, where it does not look at the benches. -/
theorem State.deliver_keeps {β : Type} (P : State → β) {s : State} (c : Instr) (f : State → State)
    (hb : ∀ u : State, ∀ b : Benches, P { u with bench := b } = P u) (hf : ∀ u, P (f u) = P u) : P (s.deliver c f) = P s := by
  unfold State.deliver
  split
  · exact hf s
  · split
    · exact hb s _
    · rw [hf]
      exact hb s _

/-! ## What a delivered input leaves unchanged -/

@[simp] theorem State.inputOf_power (s : State) (c : Instr) : (s.inputOf c).power = s.power := by unfold State.inputOf; split <;> rfl
@[simp] theorem State.inputOf_time (s : State) (c : Instr) : (s.inputOf c).time = s.time := by unfold State.inputOf; split <;> rfl
@[simp] theorem State.inputOf_domains (s : State) (c : Instr) : (s.inputOf c).domains = s.domains := by unfold State.inputOf; split <;> rfl
@[simp] theorem State.inputOf_ports (s : State) (c : Instr) : (s.inputOf c).ports = s.ports := by unfold State.inputOf; split <;> rfl
@[simp] theorem State.inputOf_fabric (s : State) (c : Instr) : (s.inputOf c).fabric = s.fabric := by unfold State.inputOf; split <;> rfl
@[simp] theorem State.inputOf_jny (s : State) (c : Instr) : (s.inputOf c).jny = s.jny := by unfold State.inputOf; split <;> rfl
@[simp] theorem State.inputOf_mem (s : State) (c : Instr) : (s.inputOf c).mem = s.mem := by unfold State.inputOf; split <;> rfl
@[simp] theorem State.inputOf_dram (s : State) (c : Instr) : (s.inputOf c).dram = s.dram := by unfold State.inputOf; split <;> rfl
@[simp] theorem State.inputOf_sync (s : State) (c : Instr) : (s.inputOf c).sync = s.sync := by unfold State.inputOf; split <;> rfl
@[simp] theorem State.inputOf_queues (s : State) (c : Instr) : (s.inputOf c).queues = s.queues := by unfold State.inputOf; split <;> rfl
@[simp] theorem State.inputOf_shares (s : State) (c : Instr) : (s.inputOf c).shares = s.shares := by unfold State.inputOf; split <;> rfl
@[simp] theorem State.inputOf_ctxs (s : State) (c : Instr) : (s.inputOf c).ctxs = s.ctxs := by unfold State.inputOf; split <;> rfl
@[simp] theorem State.inputOf_streams (s : State) (c : Instr) : (s.inputOf c).streams = s.streams := by unfold State.inputOf; split <;> rfl
@[simp] theorem State.inputOf_images (s : State) (c : Instr) : (s.inputOf c).images = s.images := by unfold State.inputOf; split <;> rfl
@[simp] theorem State.inputOf_hold (s : State) (c : Instr) : (s.inputOf c).hold = s.hold := by unfold State.inputOf; split <;> rfl
@[simp] theorem State.inputOf_sec (s : State) (c : Instr) : (s.inputOf c).sec = s.sec := by unfold State.inputOf; split <;> rfl
@[simp] theorem State.inputOf_bureau (s : State) (c : Instr) : (s.inputOf c).bureau = s.bureau := by unfold State.inputOf; split <;> rfl
@[simp] theorem State.inputOf_events (s : State) (c : Instr) : (s.inputOf c).events = s.events := by unfold State.inputOf; split <;> rfl
@[simp] theorem State.inputOf_host (s : State) (c : Instr) : (s.inputOf c).host = s.host := by unfold State.inputOf; split <;> rfl
@[simp] theorem State.inputOf_dbg (s : State) (c : Instr) : (s.inputOf c).dbg = s.dbg := by unfold State.inputOf; split <;> rfl
@[simp] theorem State.inputOf_out (s : State) (c : Instr) : (s.inputOf c).out = s.out := by unfold State.inputOf; split <;> rfl
@[simp] theorem State.inputOf_delayed (s : State) (c : Instr) : (s.inputOf c).delayed = s.delayed := by unfold State.inputOf; split <;> rfl
@[simp] theorem State.inputOf_fresh (s : State) (c : Instr) : (s.inputOf c).fresh = s.fresh := by unfold State.inputOf; split <;> rfl
@[simp] theorem State.inputOf_pending (s : State) (c : Instr) : (s.inputOf c).pending = s.pending := by unfold State.inputOf; split <;> rfl

/-! ## Inputs that a port raises -/

@[simp] theorem State.portInput_power (s : State) (c : Instr) : (s.portInput c).power = s.power := by unfold State.portInput; (repeat' split) <;> rfl
@[simp] theorem State.portInput_time (s : State) (c : Instr) : (s.portInput c).time = s.time := by unfold State.portInput; (repeat' split) <;> rfl
@[simp] theorem State.portInput_domains (s : State) (c : Instr) : (s.portInput c).domains = s.domains := by unfold State.portInput; (repeat' split) <;> rfl
@[simp] theorem State.portInput_ports (s : State) (c : Instr) : (s.portInput c).ports = s.ports := by unfold State.portInput; (repeat' split) <;> rfl
@[simp] theorem State.portInput_fabric (s : State) (c : Instr) : (s.portInput c).fabric = s.fabric := by unfold State.portInput; (repeat' split) <;> rfl
@[simp] theorem State.portInput_jny (s : State) (c : Instr) : (s.portInput c).jny = s.jny := by unfold State.portInput; (repeat' split) <;> rfl
@[simp] theorem State.portInput_mem (s : State) (c : Instr) : (s.portInput c).mem = s.mem := by unfold State.portInput; (repeat' split) <;> rfl
@[simp] theorem State.portInput_dram (s : State) (c : Instr) : (s.portInput c).dram = s.dram := by unfold State.portInput; (repeat' split) <;> rfl
@[simp] theorem State.portInput_sync (s : State) (c : Instr) : (s.portInput c).sync = s.sync := by unfold State.portInput; (repeat' split) <;> rfl
@[simp] theorem State.portInput_queues (s : State) (c : Instr) : (s.portInput c).queues = s.queues := by unfold State.portInput; (repeat' split) <;> rfl
@[simp] theorem State.portInput_shares (s : State) (c : Instr) : (s.portInput c).shares = s.shares := by unfold State.portInput; (repeat' split) <;> rfl
@[simp] theorem State.portInput_ctxs (s : State) (c : Instr) : (s.portInput c).ctxs = s.ctxs := by unfold State.portInput; (repeat' split) <;> rfl
@[simp] theorem State.portInput_streams (s : State) (c : Instr) : (s.portInput c).streams = s.streams := by unfold State.portInput; (repeat' split) <;> rfl
@[simp] theorem State.portInput_images (s : State) (c : Instr) : (s.portInput c).images = s.images := by unfold State.portInput; (repeat' split) <;> rfl
@[simp] theorem State.portInput_hold (s : State) (c : Instr) : (s.portInput c).hold = s.hold := by unfold State.portInput; (repeat' split) <;> rfl
@[simp] theorem State.portInput_sec (s : State) (c : Instr) : (s.portInput c).sec = s.sec := by unfold State.portInput; (repeat' split) <;> rfl
@[simp] theorem State.portInput_bureau (s : State) (c : Instr) : (s.portInput c).bureau = s.bureau := by unfold State.portInput; (repeat' split) <;> rfl
@[simp] theorem State.portInput_events (s : State) (c : Instr) : (s.portInput c).events = s.events := by unfold State.portInput; (repeat' split) <;> rfl
@[simp] theorem State.portInput_host (s : State) (c : Instr) : (s.portInput c).host = s.host := by unfold State.portInput; (repeat' split) <;> rfl
@[simp] theorem State.portInput_dbg (s : State) (c : Instr) : (s.portInput c).dbg = s.dbg := by unfold State.portInput; (repeat' split) <;> rfl
@[simp] theorem State.portInput_out (s : State) (c : Instr) : (s.portInput c).out = s.out := by unfold State.portInput; (repeat' split) <;> rfl
@[simp] theorem State.portInput_delayed (s : State) (c : Instr) : (s.portInput c).delayed = s.delayed := by unfold State.portInput; (repeat' split) <;> rfl
@[simp] theorem State.portInput_fresh (s : State) (c : Instr) : (s.portInput c).fresh = s.fresh := by unfold State.portInput; (repeat' split) <;> rfl
@[simp] theorem State.portInput_pending (s : State) (c : Instr) : (s.portInput c).pending = s.pending := by unfold State.portInput; (repeat' split) <;> rfl

/-! ## What the benches keep at an input -/

/-- What each bench's count of inputs does not touch, consuming inputs keeps. -/
theorem Benches.activesAt_keeps {β : Type} (P : Benches → β) (h : ∀ b i n, P (b.setTaken i n) = P b) (b : Benches) (n : Nat) :
    P (b.activesAt n) = P b := by
  unfold Benches.activesAt
  generalize b.inRole .active = is
  induction is generalizing b with
  | nil => rfl
  | cons i is ih => rw [List.foldl_cons, ih, h]

/-- What an input does not touch in the benches, it keeps: it touches the counts of inputs and the journal alone. -/
theorem State.inputOf_bench_keeps {β : Type} (P : Benches → β) (h : ∀ b i n, P (b.setTaken i n) = P b)
    (hj : ∀ b n j, P { b with inputs := n, journal := j } = P b) (s : State) (c : Instr) : P (s.inputOf c).bench = P s.bench := by
  unfold State.inputOf
  split
  · exact (hj _ _ _).trans (Benches.activesAt_keeps P h _ _)
  · rfl

@[simp] theorem State.inputOf_bench_roleA (s : State) (c : Instr) : (s.inputOf c).bench.roleA = s.bench.roleA :=
  State.inputOf_bench_keeps (·.roleA) (fun _ i _ => by cases i <;> rfl) (fun _ _ _ => rfl) s c
@[simp] theorem State.inputOf_bench_roleB (s : State) (c : Instr) : (s.inputOf c).bench.roleB = s.bench.roleB :=
  State.inputOf_bench_keeps (·.roleB) (fun _ i _ => by cases i <;> rfl) (fun _ _ _ => rfl) s c
@[simp] theorem State.inputOf_bench_roleC (s : State) (c : Instr) : (s.inputOf c).bench.roleC = s.bench.roleC :=
  State.inputOf_bench_keeps (·.roleC) (fun _ i _ => by cases i <;> rfl) (fun _ _ _ => rfl) s c
@[simp] theorem State.inputOf_bench_claim (s : State) (c : Instr) : (s.inputOf c).bench.claim = s.bench.claim :=
  State.inputOf_bench_keeps (·.claim) (fun _ i _ => by cases i <;> rfl) (fun _ _ _ => rfl) s c
@[simp] theorem State.inputOf_bench_accepted (s : State) (c : Instr) : (s.inputOf c).bench.accepted = s.bench.accepted :=
  State.inputOf_bench_keeps (·.accepted) (fun _ i _ => by cases i <;> rfl) (fun _ _ _ => rfl) s c
@[simp] theorem State.inputOf_bench_fenced (s : State) (c : Instr) : (s.inputOf c).bench.fenced = s.bench.fenced :=
  State.inputOf_bench_keeps (·.fenced) (fun _ i _ => by cases i <;> rfl) (fun _ _ _ => rfl) s c
@[simp] theorem State.inputOf_bench_waiting (s : State) (c : Instr) : (s.inputOf c).bench.waiting = s.bench.waiting :=
  State.inputOf_bench_keeps (·.waiting) (fun _ i _ => by cases i <;> rfl) (fun _ _ _ => rfl) s c
@[simp] theorem State.inputOf_bench_emitted (s : State) (c : Instr) : (s.inputOf c).bench.emitted = s.bench.emitted :=
  State.inputOf_bench_keeps (·.emitted) (fun _ i _ => by cases i <;> rfl) (fun _ _ _ => rfl) s c
@[simp] theorem State.inputOf_bench_dispute (s : State) (c : Instr) : (s.inputOf c).bench.dispute = s.bench.dispute :=
  State.inputOf_bench_keeps (·.dispute) (fun _ i _ => by cases i <;> rfl) (fun _ _ _ => rfl) s c
@[simp] theorem State.inputOf_bench_kerf (s : State) (c : Instr) : (s.inputOf c).bench.kerf = s.bench.kerf :=
  State.inputOf_bench_keeps (·.kerf) (fun _ i _ => by cases i <;> rfl) (fun _ _ _ => rfl) s c
@[simp] theorem State.inputOf_bench_charges (s : State) (c : Instr) : (s.inputOf c).bench.charges = s.bench.charges :=
  State.inputOf_bench_keeps (·.charges) (fun _ i _ => by cases i <;> rfl) (fun _ _ _ => rfl) s c
@[simp] theorem State.inputOf_bench_heldIn (s : State) (c : Instr) : (s.inputOf c).bench.heldIn = s.bench.heldIn :=
  State.inputOf_bench_keeps (·.heldIn) (fun _ i _ => by cases i <;> rfl) (fun _ _ _ => rfl) s c
@[simp] theorem State.inputOf_bench_lag (s : State) (c : Instr) : (s.inputOf c).bench.lag = s.bench.lag :=
  State.inputOf_bench_keeps (·.lag) (fun _ i _ => by cases i <;> rfl) (fun _ _ _ => rfl) s c
@[simp] theorem State.inputOf_bench_throttled (s : State) (c : Instr) : (s.inputOf c).bench.throttled = s.bench.throttled :=
  State.inputOf_bench_keeps (·.throttled) (fun _ i _ => by cases i <;> rfl) (fun _ _ _ => rfl) s c
@[simp] theorem State.inputOf_bench_lastRaised (s : State) (c : Instr) : (s.inputOf c).bench.lastRaised = s.bench.lastRaised :=
  State.inputOf_bench_keeps (·.lastRaised) (fun _ i _ => by cases i <;> rfl) (fun _ _ _ => rfl) s c
@[simp] theorem State.inputOf_bench_transients (s : State) (c : Instr) : (s.inputOf c).bench.transients = s.bench.transients :=
  State.inputOf_bench_keeps (·.transients) (fun _ i _ => by cases i <;> rfl) (fun _ _ _ => rfl) s c
@[simp] theorem State.inputOf_bench_transientW (s : State) (c : Instr) : (s.inputOf c).bench.transientW = s.bench.transientW :=
  State.inputOf_bench_keeps (·.transientW) (fun _ i _ => by cases i <;> rfl) (fun _ _ _ => rfl) s c
@[simp] theorem State.inputOf_bench_testFailed (s : State) (c : Instr) : (s.inputOf c).bench.testFailed = s.bench.testFailed :=
  State.inputOf_bench_keeps (·.testFailed) (fun _ i _ => by cases i <;> rfl) (fun _ _ _ => rfl) s c
@[simp] theorem State.inputOf_bench_readmit (s : State) (c : Instr) : (s.inputOf c).bench.readmit = s.bench.readmit :=
  State.inputOf_bench_keeps (·.readmit) (fun _ i _ => by cases i <;> rfl) (fun _ _ _ => rfl) s c
@[simp] theorem State.inputOf_bench_detach (s : State) (c : Instr) : (s.inputOf c).bench.detach = s.bench.detach :=
  State.inputOf_bench_keeps (·.detach) (fun _ i _ => by cases i <;> rfl) (fun _ _ _ => rfl) s c
@[simp] theorem State.inputOf_bench_coreA (s : State) (c : Instr) : (s.inputOf c).bench.coreA = s.bench.coreA :=
  State.inputOf_bench_keeps (·.coreA) (fun _ i _ => by cases i <;> rfl) (fun _ _ _ => rfl) s c
@[simp] theorem State.inputOf_bench_coreB (s : State) (c : Instr) : (s.inputOf c).bench.coreB = s.bench.coreB :=
  State.inputOf_bench_keeps (·.coreB) (fun _ i _ => by cases i <;> rfl) (fun _ _ _ => rfl) s c
@[simp] theorem State.inputOf_bench_coreC (s : State) (c : Instr) : (s.inputOf c).bench.coreC = s.bench.coreC :=
  State.inputOf_bench_keeps (·.coreC) (fun _ i _ => by cases i <;> rfl) (fun _ _ _ => rfl) s c

end Sys2Proof.Machine
end

