-- ==== Sys2Proof/Laws/Bureau.lean ====
section
/-! SUPPORT. Bureau requests: what a message of a session that listens does, once for every type of message, and that a reply to it
is recorded. -/

namespace Sys2Proof.Machine

/-- What hearing a request says. -/
theorem State.hears_iff {α : Type} [BEq α] {s : State} {m : BureauMsg} {r : SessRole} {kind : Nat} {parse : Body → Option α} {v : α} :
    s.hears m r kind parse v = true ↔ s.listens m r = true ∧ m.read kind parse v = .asks := by
  simp [State.hears]

/-- A listening session's record. -/
theorem State.listens_iff {s : State} {m : BureauMsg} {r : SessRole} :
    s.listens m r = true ↔ s.mgmtUp = true ∧ s.owesReply m.session = false ∧ s.inputsGo = true ∧
      ∃ x, s.bureau.sessions.find? (·.id == m.session) = some x ∧ x.role = some r := by
  unfold State.listens optAny
  cases s.bureau.sessions.find? (·.id == m.session) <;> simp [and_assoc]

/-- A message whose session is listening is judged by its bytes. -/
theorem State.bureauRequest_of_listens {α : Type} [BEq α] {s : State} {m : BureauMsg} {r : SessRole} (h : s.listens m r = true)
    (c : Instr) (kind : Nat) (parse : Body → Option α) (v : α) (roles : SessRole → Bool) (ok guarded : Bool) (act : State → State) :
    s.bureauRequest c m kind parse v roles ok guarded act =
      match m.read kind parse v with
      | .other => s
      | .notCbor => (s.inputOf c).closeSession m.session "decode_error"
      | .bad => (s.inputOf c).answer m.session m.reqId m.typ .format []
      | .asks =>
        if roles r = false then (s.inputOf c).answer m.session m.reqId kind .denied []
        else if ok = false then (s.inputOf c).answer m.session m.reqId kind .notReady []
        else if guarded = true ∧ (s.inputOf c).lockOpen (.session m.session m.reqId) = false then
          (s.inputOf c).answer m.session m.reqId kind .notReady []
        else act (s.inputOf c) := by
  obtain ⟨h1, h2, h3, x, hx, hr⟩ := State.listens_iff.1 h
  simp only [State.bureauRequest, h1, h2, hx, hr]
  cases m.read kind parse v <;> simp [State.deliver_of_go _ _ h3]

/-- A reply to a session that is open is recorded. -/
theorem State.answer_of_listens {s : State} {m : BureauMsg} {r : SessRole} (h : s.listens m r = true) (c : Instr) (i kind : Nat)
    (st : Status) (body : Body) :
    (s.inputOf c).answer m.session i kind st body = (s.inputOf c).emit (replyTo m.session i kind st body) := by
  obtain ⟨-, -, -, x, hx, -⟩ := State.listens_iff.1 h
  have := List.mem_of_find?_eq_some hx
  have e := List.find?_some hx
  simp only [State.answer, State.inputOf_bureau]
  rw [if_pos (by simp only [List.any_eq_true]; exact ⟨x, this, e⟩)]

end Sys2Proof.Machine
end

