-- ==== Sys2Proof/Laws/Memory.lean ====
section
/-! SUPPORT. The memory of drawers: what leaves it unchanged, and that every operation that writes it keeps its canonical
form (Memory.wf). -/

namespace Sys2Proof.Machine

/-! ## Folds -/

/-- A fold of updates that each leave something unchanged leaves it unchanged. -/
theorem foldl_keeps {α β : Type} (P : State → β) (g : State → α → State) (h : ∀ u x, P (g u x) = P u) (l : List α) (s : State) :
    P (l.foldl g s) = P s := by
  induction l generalizing s with
  | nil => rfl
  | cons a l ih => simp [List.foldl, ih, h]

/-- A fold of updates that each keep a property keeps it. -/
theorem foldl_holds {α β : Type} (P : β → Prop) (g : β → α → β) (h : ∀ u x, P u → P (g u x)) (l : List α) :
    ∀ s : β, P s → P (l.foldl g s) := by
  induction l with
  | nil => exact fun _ hs => hs
  | cons a l ih => exact fun s hs => ih _ (h s a hs)

/-! ## What leaves the memory unchanged -/

@[simp] theorem State.mem_damageAt : ∀ (s : State) (stack pl : Nat), (s.damageAt stack pl).1.mem = s.mem := by
  intros; unfold State.damageAt; repeat' split <;> simp
@[simp] theorem State.mem_codeAt : ∀ (s : State) (stack pl : Nat), (s.codeAt stack pl).1.mem = s.mem := by
  intros; unfold State.codeAt
  repeat' first
    | rfl
    | simp
    | split
@[simp] theorem State.mem_msix : ∀ (s : State) (v : Nat), (s.msix v).mem = s.mem := by
  intros; unfold State.msix; repeat' split <;> simp
@[simp] theorem State.mem_signal : ∀ (s : State) (v : Nat), (s.signal v).mem = s.mem := by
  intros; unfold State.signal; split <;> simp
@[simp] theorem State.mem_console : ∀ (s : State) (ts : Nat) (text : String), (s.console ts text).mem = s.mem := by intros; rfl
@[simp] theorem State.mem_post : ∀ (s : State) (e : Ev) (kind : SourceKind) (n : Nat) (entry : EventEntry),
    (s.post e kind n entry).mem = s.mem := by
  intros; unfold State.post; dsimp only
  repeat' first
    | rfl
    | simp
    | split
@[simp] theorem State.mem_memEvent : ∀ (s : State) (e : Ev) (stack flags d sym1 sym2 blk line spare last : Nat),
    (s.memEvent e stack flags d sym1 sym2 blk line spare last).mem = s.mem := by
  intros; unfold State.memEvent; simp
@[simp] theorem State.mem_advise : ∀ (s : State) (stack blk line d : Nat), (s.advise stack blk line d).mem = s.mem := by
  intros; unfold State.advise; repeat' split <;> simp
@[simp] theorem State.mem_countErr : ∀ (s : State) (stack i : Nat), (s.countErr stack i).mem = s.mem := by intros; rfl
@[simp] theorem State.mem_setPhase : ∀ (s : State) (id : Nat) (ph : WaitPhase), (s.setPhase id ph).mem = s.mem := by intros; rfl
@[simp] theorem State.mem_mergeOlder : ∀ (s : State) (w : Wait), (s.mergeOlder w).mem = s.mem := by
  intros; unfold State.mergeOlder; split <;> rfl
@[simp] theorem State.mem_discard : ∀ (s : State) (t n : Nat), (s.discard t n).mem = s.mem := by intros; rfl
@[simp] theorem State.mem_freeWait : ∀ (s : State) (id : Nat), (s.freeWait id).mem = s.mem := by intros; rfl
@[simp] theorem State.mem_releaseOne : ∀ (s : State) (st : Status) (w : Wait), (s.releaseOne st w).mem = s.mem := by
  intros; unfold State.releaseOne
  repeat' first
    | rfl
    | simp
    | split
@[simp] theorem State.mem_releaseAll : ∀ (s : State) (p : Wait → Bool) (st : Status), (s.releaseAll p st).mem = s.mem := by
  intros; unfold State.releaseAll; exact foldl_keeps (fun t => t.mem) _ (by intros; simp) _ _
@[simp] theorem State.mem_wake : ∀ (s : State) (c : Nat), (s.wake c).mem = s.mem := by intros; unfold State.wake; split <;> simp
@[simp] theorem State.mem_note : ∀ (s : State) (e : Ev) (kind : SourceKind) (n a b c : Nat),
    (s.note e kind n a b c).mem = s.mem := by
  intros; unfold State.note; simp
@[simp] theorem State.mem_addCounter : ∀ (s : State) (c : Nat) (x : W64), (s.addCounter c x).1.mem = s.mem := by
  intros; unfold State.addCounter; dsimp only; repeat' split <;> simp
@[simp] theorem State.mem_tenantAdd : ∀ (s : State) (c : Nat) (x : W64) (t : Nat) (cmd : Option (Nat × W32 × Nat)),
    (s.tenantAdd c x t cmd).1.mem = s.mem := by
  intros; unfold State.tenantAdd; repeat' split <;> simp
@[simp] theorem State.mem_alertAll : ∀ s : State, s.alertAll.mem = s.mem := by
  intros; unfold State.alertAll; refine (foldl_keeps (fun t => t.mem) _ ?_ _ _).trans ?_ <;> intros <;> first | rfl | (split <;> simp)
@[simp] theorem State.mem_raise : ∀ (s : State) (e : Ev) (kind : SourceKind) (n a b c : Nat),
    (s.raise e kind n a b c).mem = s.mem := by
  intros; unfold State.raise; split <;> simp
@[simp] theorem State.mem_degrade : ∀ (s : State) (d stack : Nat), (s.degrade d stack).mem = s.mem := by
  intros; unfold State.degrade; split <;> simp
@[simp] theorem State.mem_answer : ∀ (s : State) (session reqId kind : Nat) (st : Status) (body : Body),
    (s.answer session reqId kind st body).mem = s.mem := by
  intros; unfold State.answer; split <;> rfl
@[simp] theorem State.mem_busyFell : ∀ s : State, s.busyFell.mem = s.mem := by intros; unfold State.busyFell; simp
@[simp] theorem State.mem_setNode : ∀ (s : State) (n : NodeState) (why : String), (s.setNode n why).mem = s.mem := by intros; rfl
@[simp] theorem State.mem_noteHard : ∀ (s : State) (stack blk line d : Nat), (s.noteHard stack blk line d).mem = s.mem := by
  intros; unfold State.noteHard; split <;> simp
@[simp] theorem State.mem_recordCheck : ∀ (s : State) (flags stack pl d off : Nat) (inj : Bool) (a : Check),
    (s.recordCheck flags stack pl d off inj a).mem = s.mem := by
  intros; unfold State.recordCheck; split <;> simp
@[simp] theorem State.mem_counterWrap : ∀ (s : State) (offset : Nat), (s.counterWrap offset).mem = s.mem := by
  intros; unfold State.counterWrap; simp
@[simp] theorem State.mem_dropSnapshot : ∀ (s : State) (id : Nat), (s.dropSnapshot id).mem = s.mem := by intros; rfl
@[simp] theorem State.mem_withFound : ∀ (s : State) (found : List Damage), (s.withFound found).mem = s.mem := by intros; rfl
@[simp] theorem State.mem_storeCells : ∀ (s : State) (stack pl : Nat), (s.storeCells stack pl).mem = s.mem := by
  intros; unfold State.storeCells; repeat' split <;> simp
@[simp] theorem State.mem_bootFailure : ∀ (s : State) (code : Nat), (s.bootFailure code).mem = s.mem := by intros; rfl
@[simp] theorem State.mem_settle : ∀ s : State, s.settle.mem = s.mem := by
  intros; unfold State.settle; dsimp only; repeat' split <;> simp
@[simp] theorem State.mem_keepTables : ∀ s : State, s.keepTables.mem = s.mem := by intros; rfl

@[simp] theorem State.mem_noteOnce (s : State) (e : Ev) : (s.noteOnce e).mem = s.mem := by
  unfold State.noteOnce
  dsimp only
  split <;> simp

/-! ## What keeps the canonical form -/

/-- A memory with nothing listed is canonical. -/
theorem Memory.wf_nil : Memory.wf [] = true := rfl

/-- Writing a run of bytes keeps the canonical form. -/
theorem Memory.wf_setRun {m : List Host.Cell} (k : Nat) (bs : List Byte) (h : Memory.wf m = true) :
    Memory.wf (FMap.setRun 0 m k bs) = true := FMap.wf_setRun bs k h

/-- Keeping the entries of some addresses keeps the canonical form. -/
theorem Memory.wf_keep {m : List Host.Cell} (p : Nat → Bool) (h : Memory.wf m = true) : Memory.wf (FMap.keep m p) = true :=
  FMap.wf_keep p h

/-- The memory at reset is canonical. -/
theorem State.wf_reset : State.reset.memCanonical := rfl

theorem State.wf_loseContents (s : State) : s.loseContents.memCanonical := rfl

theorem State.wf_enterFailed (s : State) (code : Nat) (why : String) : (s.enterFailed code why).memCanonical := rfl

/-- The loss of a stack leaves the memory as it was, or empty where it takes the node to FAILED (R5). -/
theorem State.wf_loseStack {s : State} (n : Nat) (h : s.memCanonical) : (s.loseStack n).memCanonical := by
  have e : ∀ (l : List DrawerRec) (u : State), (l.foldl (fun (u : State) r => u.degrade r.id n) u).mem = u.mem := fun l u =>
    foldl_keeps (fun t => t.mem) _ (fun _ _ => State.mem_degrade _ _ _) l u
  unfold State.loseStack
  dsimp only
  split
  · exact h
  · split
    · rfl
    · unfold State.memCanonical
      rw [State.mem_keepTables, foldl_keeps (fun t => t.mem)]
      · dsimp only
        rw [e]
        simpa [State.memCanonical] using h
      · intro u x
        split <;> simp

theorem State.wf_notePoison {s : State} (stack blk : Nat) (h : s.memCanonical) : (s.notePoison stack blk).memCanonical := by
  unfold State.notePoison
  dsimp only
  split
  · exact State.wf_loseStack stack h
  · exact h

theorem State.wf_recordPoison {s : State} (flags stack pl d off : Nat) (inj : Bool) (a b : Nat) (h : s.memCanonical) :
    (s.recordPoison flags stack pl d off inj a b).memCanonical := by
  unfold State.recordPoison
  dsimp only
  split
  · simpa [State.memCanonical] using h
  · apply State.wf_notePoison
    simpa [State.memCanonical] using h

theorem State.mem_storeLine (s : State) (d l : Nat) (data : List Byte) :
    (s.storeLine d l data).mem = FMap.setRun 0 s.mem (addr d (l * 64)) data := rfl

theorem State.mem_poisonLine (s : State) (d l : Nat) : (s.poisonLine d l).mem = (s.storeLine d l (List.replicate 64 0)).mem := by
  unfold State.poisonLine
  dsimp only

theorem State.wf_storeLine {s : State} (d l : Nat) (data : List Byte) (h : s.memCanonical) :
    (s.storeLine d l data).memCanonical := by
  unfold State.memCanonical
  rw [State.mem_storeLine]
  exact Memory.wf_setRun _ _ h

theorem State.wf_poisonLine {s : State} (d l : Nat) (h : s.memCanonical) : (s.poisonLine d l).memCanonical := by
  unfold State.memCanonical
  rw [State.mem_poisonLine]
  exact State.wf_storeLine d l _ h

/-- Reading a line may poison it or lose a stack, and keeps the canonical form. -/
theorem State.wf_readFrom {s : State} (flags d l : Nat) (places : List (Nat × Nat)) (h : s.memCanonical) :
    (s.readFrom flags d l places).1.memCanonical := by
  have code : ∀ (u : State) (st pl : Nat), u.memCanonical → (u.codeAt st pl).1.memCanonical := fun u st pl hu => by
    unfold State.memCanonical
    rw [State.mem_codeAt]
    exact hu
  have check : ∀ (u : State) (f st pl dd off : Nat) (inj : Bool) (c : Check), u.memCanonical →
      (u.recordCheck f st pl dd off inj c).memCanonical := fun u f st pl dd off inj c hu => by
    unfold State.memCanonical
    rw [State.mem_recordCheck]
    exact hu
  unfold State.readFrom
  split
  · exact h
  · rename_i stack phys rest
    split
    · exact h
    · dsimp only
      have h1 := code s stack (phys * 1024 + l % 1024) h
      split
      · rename_i s1 a b inj hq
        rw [hq] at h1
        split
        · exact State.wf_recordPoison _ _ _ _ _ _ _ _ (State.wf_poisonLine d l h1)
        · rename_i stack2 phys2 rest2
          have h2 := code s1 stack2 (phys2 * 1024 + l % 1024) h1
          split
          · rename_i s2 a2 b2 inj2 hq2
            rw [hq2] at h2
            exact State.wf_recordPoison _ _ _ _ _ _ _ _ (State.wf_recordPoison _ _ _ _ _ _ _ _ (State.wf_poisonLine d l h2))
          · rename_i s2 c2 inj2 hne hq2
            rw [hq2] at h2
            simpa [State.memCanonical] using h2
      · rename_i s1 c inj hne hq
        rw [hq] at h1
        exact check _ _ _ _ _ _ _ _ h1

theorem State.wf_readLine {s : State} (flags d l : Nat) (h : s.memCanonical) : (s.readLine flags d l).1.memCanonical :=
  State.wf_readFrom _ _ _ _ h

theorem State.wf_readRange {s : State} (d off n : Nat) (h : s.memCanonical) : (s.readRange d off n).1.memCanonical :=
  foldl_holds (fun (a : State × RangeRead) => a.1.memCanonical) _ (fun _ _ hu => State.wf_readLine _ _ _ hu) _ _ h

/-- What a store does to the cells of its copies leaves the memory as it was. -/
theorem State.mem_cells (places : List (Nat × Nat)) (k : Nat) (u : State) :
    (places.foldl (fun (v : State) x => v.storeCells x.1 (x.2 * 1024 + k)) u).mem = u.mem :=
  foldl_keeps (fun t => t.mem) _ (fun _ _ => State.mem_storeCells _ _ _) _ _

theorem State.wf_writeLine {s : State} (d l at_ : Nat) (data : List Byte) (h : s.memCanonical) :
    (s.writeLine d l at_ data).1.memCanonical := by
  have cells : ∀ u : State, u.memCanonical → ((s.livePlaces d (l / 1024)).foldl
      (fun v x => v.storeCells x.1 (x.2 * 1024 + l % 1024)) u).memCanonical := fun u hu => by
    unfold State.memCanonical
    rw [State.mem_cells]
    exact hu
  unfold State.writeLine
  dsimp only
  split
  · exact h
  · split
    · exact cells _ (State.wf_storeLine d l _ h)
    · split
      · exact State.wf_readLine 0 d l h
      · exact cells _ (State.wf_storeLine d l _ (State.wf_readLine 0 d l h))

theorem State.wf_writeRange {s : State} (d off : Nat) (data : List Byte) (h : s.memCanonical) :
    (s.writeRange d off data).1.memCanonical :=
  foldl_holds (fun (a : State × Option Nat) => a.1.memCanonical) _ (fun _ _ hu => State.wf_writeLine _ _ _ _ hu) _ _ h

theorem State.wf_writePoison {s : State} (d l : Nat) (h : s.memCanonical) : (s.writePoison d l).memCanonical := by
  unfold State.writePoison
  split
  · exact h
  · exact State.wf_poisonLine d l h

theorem State.wf_zeroDrawer {s : State} (d : Nat) (h : s.memCanonical) : (s.zeroDrawer d).memCanonical :=
  (Memory.wf_keep (fun a => a / 2 ^ 40 != d) h :)

theorem State.wf_kept (s : State) : s.kept.memCanonical := rfl

/-- A stop leaves the memory as it was in OFF, and empty otherwise (R135). -/
theorem State.wf_stop {s : State} (cause : Nat) (why : String) (h : s.memCanonical) : (s.stop cause why).memCanonical := by
  unfold State.stop
  split
  · exact h
  · rfl

/-- Discarding snapshots leaves the memory as it was. -/
theorem State.mem_dropSharers (s : State) (d b : Nat) : (s.dropSharers d b).mem = s.mem :=
  foldl_keeps (fun t => t.mem) _ (fun _ _ => by simp) _ _

/-- Evicting snapshots for a reserve block leaves the memory as it was. -/
theorem State.mem_reserveFor (t n : Nat) : ∀ (fuel : Nat) (s v : State), s.reserveFor t n fuel = some v → v.mem = s.mem := by
  intro fuel
  induction fuel with
  | zero => intro s v h; cases h
  | succ fuel ih =>
    intro s v h
    unfold State.reserveFor at h
    split at h
    · cases h; rfl
    · split at h
      · cases h
      · rw [ih _ _ h]
        simp

/-- Making a block writable leaves the memory as it was. -/
theorem State.mem_unshare {s v : State} (d b : Nat) (h : s.unshare d b = some v) : v.mem = s.mem := by
  unfold State.unshare at h
  split at h
  · cases h; rfl
  · split at h
    · cases h; rfl
    · dsimp only at h
      split at h
      · cases h
      · rename_i u hu
        have e := State.mem_reserveFor _ _ _ _ _ hu
        split at h
        · cases h; exact e
        · cases h; exact e

/-- Making the blocks of a range writable leaves the memory as it was. -/
theorem State.mem_claimRange {s v : State} (d off n : Nat) (h : s.claimRange d off n = some v) : v.mem = s.mem := by
  unfold State.claimRange at h
  split at h
  · cases h; rfl
  · have key : ∀ (l : List Nat) (o : Option State), (∀ u, o = some u → u.mem = s.mem) → ∀ v, l.foldl (fun (u : Option State) i =>
        match u with | none => none | some v => v.unshare d (off / 65536 + i)) o = some v → v.mem = s.mem := by
      intro l
      induction l with
      | nil => exact fun o ho v hv => ho v hv
      | cons a l ih =>
        intro o ho v hv
        refine ih _ ?_ v hv
        intro u hu
        dsimp only at hu
        split at hu
        · cases hu
        · rename_i w
          rw [State.mem_unshare _ _ hu, ho w rfl]
    exact key _ _ (fun u hu => by cases hu; rfl) v h

theorem State.wf_trimDrawer {s : State} (d size old : Nat) (h : s.memCanonical) : (s.trimDrawer d size old).memCanonical := by
  unfold State.memCanonical State.trimDrawer
  dsimp only
  rw [State.setDrw_mem]
  dsimp only
  refine Memory.wf_keep _ ?_
  rw [foldl_keeps (fun t => t.mem)]
  · exact h
  · intro u i
    split
    · rename_i v hv
      exact State.mem_unshare _ _ hv
    · exact State.mem_dropSharers _ _ _

theorem State.wf_deleteDrawer {s : State} (d : Nat) (h : s.memCanonical) : (s.deleteDrawer d).memCanonical := by
  unfold State.memCanonical State.deleteDrawer
  dsimp only
  refine Memory.wf_keep _ ?_
  rw [foldl_keeps (fun t => t.mem) _ (fun _ _ => State.mem_dropSnapshot _ _)]
  exact h

/-- Restoring a drawer's image writes its bytes one by one. -/
theorem State.wf_restoreDrawer {s : State} (id : Nat) (im : DrawerImage) (h : s.memCanonical) :
    (s.restoreDrawer id im).memCanonical := by
  unfold State.memCanonical State.restoreDrawer
  dsimp only
  rw [foldl_keeps (fun t => t.mem)]
  · exact foldl_holds (fun m => Memory.wf m = true) _ (fun m e hm => FMap.wf_set _ _ hm) _ _ (State.wf_zeroDrawer _ h)
  · intro u b
    exact foldl_keeps (fun t => t.mem) _ (fun _ _ => State.updStk_mem _ _ _) _ _

end Sys2Proof.Machine
end

