-- ==== Sys2Proof/Tests/States.lean ====
section
/-! SUPPORT. Small states and operands for the tests: an SP16 in READY with one tenant, one drawer and one queue of each
class, and states that differ from it in little. -/

namespace Sys2Proof
open Machine

/-- The certificate hash of the test's administrator. -/
def adminHash : List Byte := List.replicate 48 5

/-- The certificate of the test's peer. -/
def peerCert : List Byte := List.replicate 48 9

/-- A message of the administrator's session: request 2 of type `kind`, its body of the keys given. -/
def askMsg (kind : Nat) (body : Body) : BureauMsg :=
  { session := 1
    raw := cborMap ([(1, cborUint kind), (2, cborUint 2)] ++ if body.isEmpty then [] else [(3, cborMap body)]) }

/-- A message of the administrator's session without a body. -/
def adminMsg : BureauMsg := askMsg 0x01 []

/-- A message of the administrator's session with one body key. -/
def msgWith (kind : Nat) (item : List Byte) : BureauMsg := askMsg kind [(1, item)]

/-- Tenant 1. -/
def tenantOne : TenantRec :=
  { id := 1, trackerQuota := 16, waitQuota := 16, streamBase := 0, streamCount := 4, reserve := 8, grammarSlots := 2
    contexts := 16, dictSlots := 2 }

/-- Drawer 0x10 of tenant 1: 1 MiB, host-visible at BAR2 offset 0, with the peer's write access. -/
def drawerTen : DrawerRec :=
  { id := 0x10, tenant := 1, isSealed := false, mirrored := false, pinned := false, hostVisible := true, stackMask := 0
    size := 16, bar2 := 0, entries := [{ cert := peerCert, write := true }] }

/-- A queue of 8 slots whose ring lies in drawer 0x10. -/
def oneQueue (q cls : Nat) : QueueRange :=
  { base := q, count := 1, tenant := 1, cls := cls, ring := 0x10, depth := 8, ringBase := q }

/-- A joinery with one tenant. -/
def smallJoinery : Joinery :=
  { seq := 1, isDelta := false, digest := List.replicate 48 1
    slices := (List.range 16).map fun n => { slice := n, mask := 0x7F }
    groups := [
      { group := 0, enable := true, fallback := true, half := false, minWidth := 1, portMask := 1, endpoint := 7, threshold := 64
        grace := 100 },
      { group := 1, enable := true, fallback := true, half := false, minWidth := 1, portMask := 4, endpoint := 0x3FFF
        threshold := 64, grace := 100 }]
    tenants := [tenantOne], drawers := [drawerTen]
    queues := [oneQueue 2 0, oneQueue 3 1, oneQueue 4 2, oneQueue 5 3]
    counters := [{ base := 4, count := 4, tenant := 1 }]
    shares := [], bench := { spare := 2, excl := 0xFF }, lap := 3600, sweep := 10, timeout := 10
    loops := { volts := [], eqFreeze := 0, thFreeze := 0, dramFreeze := 0, placeFreeze := false, share := 10 }
    cas := [[1, 2]] }

/-- READY under the small joinery, with the administrator's session. -/
def demo : State :=
  { power := { node := .ready, vinOn := true, vinMv := 48000, pwrGood := true }
    time := 1000
    jny := { inForce := some smallJoinery }
    dram := { dtt := [{ drawer := 0x10, copy := 0, first := 0, count := 16, stack := 0, phys := 0 }]
              stks := (List.range 16).map fun n => (n, { headroom := 4 }) }
    bureau := { creds := [(adminHash, 0)]
                sessions := [{ id := 1, role := some .admin, cert := adminHash, on := false, buffer := [], dropped := 0 }] }
    host := { linkUp := true } }

/-- In RETENTION. -/
def asleep : State :=
  { demo with
    power := { demo.power with node := .retention, retention := some { timer := 5, mask := 1, perstSeen := true } }
    host := {}, bureau := { creds := demo.bureau.creds } }

/-- OFF, with the start-up sequence begun. -/
def cold : State := { power := { vinOn := true, vinMv := 48000, starting := true } }

/-- A block move of drawer 0x10 under way. -/
def moving : State :=
  { demo with dram.moves := [{ drawer := 0x10, block := 0, copy := 0, stack := 1, phys := 5 }] }

/-- Stack 0 over its bandwidth and stack 1 below it. -/
def skewed : List StackReport :=
  [{ stack := 0, demand := 900, overFor1s := true, corrected := 0 }, { stack := 1, demand := 10, overFor1s := false, corrected := 0 }]

/-- With drawer 0x11, mirrored, whose second copy is missing. -/
def mirrored : State :=
  { demo with
    jny.inForce := some { smallJoinery with drawers := [drawerTen, { drawerTen with
      id := 0x11, mirrored := true, hostVisible := false, size := 1, entries := [] }] }
    dram.dtt := demo.dram.dtt ++ [{ drawer := 0x11, copy := 0, first := 0, count := 1, stack := 2, phys := 9 }]
    dram.drawers := [(0x11, { degraded := true })] }

/-- Gate 3 disputes output 0 of input 7, for which bench A's output waits. -/
def disputed : State :=
  let o : BenchOut := { bench := .A, claim := 1, input := 7, index := 0, content := 5 }
  { demo with
    bench.inputs := 7, bench.takenA := 7, bench.takenB := 7, bench.accepted := [(3, 1)], bench.waiting := [(3, o)]
    bench.dispute := some { gate := 3, input := 7, index := 0, outA := some o, outB := none, phase := .retry, late := none } }

/-- Four sessions, the last still in its handshake. -/
def crowded : State :=
  { demo with bureau.sessions := demo.bureau.sessions ++ [2, 3, 4].map fun n =>
      { id := n, role := if n = 4 then none else some .observer, cert := [], on := false, buffer := [], dropped := 0 } }

/-- The session is an enroller's. -/
def withEnroller : State :=
  { demo with bureau.sessions := [{ id := 1, role := some .enroller, cert := [], on := false, buffer := [], dropped := 0 }] }

/-- A second administrator is enrolled. -/
def twoAdmins : State := { demo with bureau.creds := [(adminHash, 0), (List.replicate 48 6, 0)] }

/-- No credential is enrolled. -/
def noCreds : State := { demo with bureau.creds := [] }

/-- The empty certificate is enrolled. -/
def oneCred : State := { demo with bureau.creds := [(Config.sha384 [], 1)] }

/-- A challenge is valid. -/
def challenged : State := { demo with sec.challenge := some (List.replicate 32 8) }

/-- The bytes of a token. -/
def tokenBytes : List Byte := [0xD2, 0x84]

/-- What a token of an action that answers the challenge spells. -/
def goodToken (action : Nat) : TokenFacts :=
  { signed := [], sig := zeros 96, action := action, serial := List.replicate 16 0, challenge := List.replicate 32 8 }

/-- A debug command waits; debug is LOCKED. -/
def lockedDbg (code : BitVec 8) (a : BitVec 40) : State :=
  { challenged with dbg.busy := true, dbg.cmd := code, dbg.addr := a, dbg.data := 5 }

/-- A debug command waits; debug is UNLOCKED. -/
def openDbg (code : BitVec 8) (a : BitVec 40) : State :=
  { lockedDbg code a with sec.debug := .unlocked, power.dbgFlag := true }

/-- The debugger reads a word that it has written to the core of the detached bench C. -/
def coreDbg : State :=
  { openDbg 0x13 0x20 with dbg.target := 2, bench.roleC := .retired, bench.coreC := { words := [(0x20, some 7)] } }

/-- A debug command on context 0 of engine 0. -/
def haltDbg (code : BitVec 8) (c : Ctx) : State := { openDbg code 0 with ctxs := [(0, c)] }

/-! ## The fabric -/

/-- A request on port 0 from endpoint 7 with tag 1; `carries` says that the data follows. -/
def reqOf (op : Nat) (drawer : BitVec 16) (offset : BitVec 40) (length : BitVec 13) (word : W64) (ops data : List Byte) : Req :=
  { port := 0, vc := if 0x10 ≤ op ∧ op ≤ 0x13 then 2 else 0, dst := 3, src := 7, ordered := false, tag := 1
    drawer := drawer, length := length, offset := offset, opslots := BitVec.ofNat 4 (ops.length / 16), word := word
    ops := ops, data := data, resv := false, slots := 2 + ops.length / 16 + (data.length + 15) / 16, found := [] }

/-- READ of 8 bytes. -/
def reqRead : Req := reqOf 0x01 0x10 64 8 0 [] []
/-- WRITE of a line. -/
def reqWrite : Req := reqOf 0x02 0x10 64 64 0 [] ((List.range 64).map fun i => BitVec.ofNat 8 (i + 1))
/-- FADD64. -/
def reqFadd : Req := reqOf 0x03 0x10 64 8 5 [] []
/-- CAS64. -/
def reqCas : Req := reqOf 0x04 0x10 64 8 0 (leBytes 16 9) []
/-- CAS128. -/
def reqCas2 : Req := reqOf 0x05 0x10 64 16 0 (leBytes 16 0 ++ leBytes 16 9) []
/-- A counter request on counter 5, with 3 as its word; a WAIT's target is queue 2's doorbell. -/
def reqSync (op : Nat) : Req :=
  reqOf op 0 5 0 (if op = 0x12 then 0 else 3) (if op = 0x13 then [2, 0, 2, 0, 1, 0, 0, 0, 0, 0, 0, 0, 0, 0, 0, 0] else []) []
/-- DOORBELL of queue 2. -/
def reqBell : Req := reqOf 0x18 0x10 2 0 1 [] []

/-- Keys of a link session. -/
def keysA : LinkKeys :=
  { txKey := List.replicate 32 1, txSalt := zeros 4, rxKey := List.replicate 32 2, rxSalt := zeros 4, confirm := List.replicate 48 3 }

/-- Port 0 up in a session with endpoint 7, whose certificate may write drawer 0x10; port 2 up; an abandoned outbound
request, and two notifications pending. -/
def linked : State :=
  { demo with
    ports := [
      (0, { mode := .up, enabled := true, laser := true, width := 8, everUp := true, session := 1, hasSession := true
            ep := 7, cert := some peerCert, credits := [1000, 1000, 1000, 100], owed := [5, 0, 0, 0], nak := some true
            nextSeq := 3, expected := 0, replayBuf := [{ first := 2, raw := [zeros 256], msg := none }]
            keys := some keysA }),
      (2, { mode := .up, enabled := true, laser := true, width := 8, everUp := true, session := 1, hasSession := true })]
    fabric := {
      bindings := [{ ep := 7, cert := peerCert, chain := [[1, 2]], ports := [(0, 0)] }], nodeIds := [(0, some { id := 3, due := [] })]
      outbound := [
        { id := 1, issuer := .abandoned, opcode := 0x44, dst := 7, drawer := 0, offset := 0, word := 0, data := []
          at_ := 900, port := some 0, tag := 4, sent := true }], nextOut := 2 }
    sync.waits := [
      { id := 1, counter := 5, threshold := 1, owner := .port 0, target := some (.endpoint 7 2 3), tenant := 1, phase := .pending .ok },
      { id := 2, counter := 5, threshold := 1, owner := .host, target := some (.doorbell 2 1), tenant := 1, phase := .pending .ok }]
    sync.nextWait := 3 }

/-- The host's mailbox names queue 2's doorbell and the threshold 9. -/
def boxed : State := { linked with host.target := [(0, 2), (2, 2), (4, 1)], host.operand := 9 }

/-- Drawer 0x10 with line 1 written. -/
def seen : State :=
  { demo with
    mem := (List.range 64).map fun i => (addr 0x10 (64 + i), BitVec.ofNat 8 (i + 1))
    dram.tags := [(lineKey 0x10 1, some 0)] }

/-! ## Flits -/

/-- A flit of 256 bytes from its header word, its bytes 8 to 247 and a CRC that holds; no codeword is lost. -/
def flitOf (hdr : Nat) (body : List Byte) : Flit :=
  { raw := withCrc (leBytes 8 hdr ++ sub body 0 240), lost := [] }

/-- An IDLE flit with control counter 2^63. -/
def idleFlitA : Flit := flitOf (2 ^ 12 * 1) (leBytes 8 (2 ^ 63))
/-- A DATA flit of credit alone: returns 5 slots on VC0. -/
def dataFlitA : Flit := flitOf (2 ^ 12 * 1 + 2 ^ 24 + 2 ^ 28 * 5) []
/-- A NAK flit that releases nothing. -/
def nakFlitA : Flit := flitOf (2 ^ 12 * 1 + 2 ^ 24 * 2) (leBytes 8 (2 ^ 63))
/-- A TRAIN flit without a message. -/
def trainFlitA : Flit := flitOf (2 ^ 24 * 3) []

/-! ## Messages that ports hold -/

/-- A VC3 message of a type with its fields, from DATA flits or TRAIN flits. -/
def vc3A (train : Bool) (kind : Nat) (fields : List Byte) : RxMsg :=
  { vc := 3, train := train, bytes := vc3Bytes kind fields, pos := 0 }
/-- A message is the next in port 0's buffers. -/
def Machine.State.holds0 (s : State) (m : RxMsg) : State := s.updPort 0 fun v => { v with rx := [m] }
/-- A request as its message spells it. -/
def msgOf (op : Nat) (r : Req) : RxMsg :=
  { vc := r.vc.val, train := false, pos := 0
    bytes := transportBytes r.vc.val r.dst.toNat r.src.toNat op r.ordered r.tag.toNat r.drawer.toNat r.length.toNat r.offset.toNat 0
      r.opslots.toNat r.word r.ops r.data }
/-- A request is the next in port 0's buffers. -/
def Machine.State.asks (s : State) (op : Nat) (r : Req) : State := s.holds0 (msgOf op r)

/-- The key agreement of port 0 after its own KA_HELLO, which has the nonce 2. -/
def agreeA : Agreement := { nonce := List.replicate 32 2, eph := List.replicate 97 5 }
/-- Port 0 in step 6, agreeing with a peer. -/
def agreeing (k : Agreement) (m : RxMsg) : State :=
  ({ linked with fabric.bindings := [] } : State).setPort 0 { mode := .training, step := 6, ka := some k } |>.holds0 m
/-- A KA_HELLO with another nonce. -/
def helloA : RxMsg := vc3A true 1 (helloFields (List.replicate 32 1) (List.replicate 97 4))
/-- A certificate in DER form: a SEQUENCE of two bytes. -/
def derA : List Byte := [0x30, 0x02, 0x05, 0x00]
/-- A KA_CERT with one certificate. -/
def certA : RxMsg := vc3A true 2 (certFields [derA] (List.replicate 97 4) (zeros 96))

/-! ## Queues and copy engines -/

/-- Bytes of a 64-byte slot: opcode, and fields by offset, size and value. -/
def slotOf (op n : Nat) (fields : List (Nat × Nat × Nat)) : List Byte :=
  fields.foldl (fun b f => splice b f.1 (leBytes f.2.1 f.2.2)) (splice (List.replicate (64 * n) 0) 0 [BitVec.ofNat 8 op])

/-- A pool address: drawer and offset in it. -/
def poolPtr (d off : Nat) : Nat := d + 2 ^ 16 * off

/-- A copy command: 128 bytes (one element or 64 bytes where the opcode counts so) at offset 64, indices or the
destination at 4,096. -/
def copyCmd (op : Nat) : List Byte :=
  if op = 2 then slotOf 2 1 [(16, 7, poolPtr 0x10 64), (24, 8, 0x0807060504030201), (40, 5, 128)]
  else if op = 3 then slotOf 3 1 [(16, 7, poolPtr 0x10 64), (40, 5, 128)]
  else slotOf op 1 [(16, 7, poolPtr 0x10 64), (24, 7, poolPtr 0x10 4096),
    (40, 5, if op = 5 ∨ op = 6 then 1 else if op = 8 then 64 else 128)]

/-- Slot 0 of queue `q` runs as a command with these bytes. -/
def runOn (s : State) (q : Nat) (bytes : List Byte) (phase : RunPhase) : State :=
  { s with queues := [(q, { tail := 1, dispatch := 1, running := [{ index := 0, bytes := bytes, slots := bytes.length / 64, engine := 0, phase := phase }] })] }

/-- A copy command of opcode `op` runs. -/
def busyWith (op : Nat) : State := runOn seen 2 (copyCmd op) .running

/-- A FILL runs on every copy engine, and another waits. -/
def busy : State :=
  { seen with
    jny.inForce := some { smallJoinery with slices := [{ slice := 0, mask := 0x3F }] }
    queues := [(2, { tail := 2, dispatch := 1, running := [{ index := 0, bytes := copyCmd 2, slots := 1, engine := 0, phase := .running }] })] }

/-! ## A joinery image -/

/-- A record of an image: type, length and the bytes of its fields. -/
def recordOf (typ : Nat) (fields : List Byte) : List Byte := leBytes 2 typ ++ leBytes 2 0 ++ leBytes 4 (8 + fields.length) ++ fields

/-- The records of the smallest image for an SP16: its slices, one tenant, and the four records that stand once. -/
def smallRecords : List Byte :=
  ((List.range 16).flatMap fun n => recordOf 1 (leBytes 1 n ++ leBytes 1 0x7F ++ zeros 6)) ++
  recordOf 3 (leBytes 2 1 ++ zeros 2 ++ leBytes 4 16 ++ leBytes 4 16 ++ leBytes 4 0 ++ leBytes 4 4 ++ leBytes 4 8 ++
    leBytes 2 2 ++ leBytes 2 16 ++ leBytes 1 2 ++ zeros 3) ++
  recordOf 8 (leBytes 1 2 ++ zeros 7) ++ recordOf 9 (leBytes 4 3600 ++ leBytes 1 10 ++ zeros 3) ++
  recordOf 0xA (leBytes 4 1000 ++ zeros 4) ++ recordOf 0xB (List.replicate 24 0xFF ++ zeros 16)

/-- A complete image with sequence number 2: header, records and signature. -/
def smallImage : List Byte :=
  [0x57, 0x4A, 0x4E, 0x59] ++ leBytes 2 1 ++ leBytes 2 0 ++ leBytes 8 2 ++ leBytes 4 (192 + smallRecords.length) ++ leBytes 4 21 ++
  leBytes 2 16 ++ zeros 6 ++ List.replicate 48 2 ++ zeros 16 ++ smallRecords ++ zeros 96

/-- AWAIT_JOINERY, with an image under check. -/
def waiting : State :=
  { demo with
    power := { demo.power with node := .awaitJoinery }
    jny := { phase := .checking smallImage .host }, sec := { keys := [List.replicate 48 2] }, dram := {} }

/-! ## Sieve contexts -/

/-- Registers for the instructions of the tests: a counter, an aligned address, a number, a pool address, a shape. -/
def testRegs : FMap W64 :=
  [(1, 5), (2, 8), (3, 3), (4, BitVec.ofNat 64 (poolPtr 0x10 64)), (5, BitVec.ofNat 64 (3 + 2 ^ 16 + 2 ^ 32 * 16))]

/-- Context 0 of engine 0 runs, with `word` at its PC. -/
def sieving (word : W32) (c : Ctx) : State :=
  let run : List RunCmd := [{ index := 0, bytes := slotOf 2 2 [], slots := 2, engine := 0, phase := .running }]
  { seen with
    ctxs := [(0, { c with tenant := 1, phase := .running, regs := if c.regs.isEmpty then testRegs else c.regs
                          region := FMap.setRun 0 [] 0 (leBytes 4 word.toNat) }),
      (8, { tenant := 1 })]
    queues := [(3, { tail := 2, dispatch := 2, running := run })] }

/-- Context 1 waits for the engine on which context 0 is about to YIELD. -/
def shared : State := { sieving 0x70000000 {} with
  ctxs := (sieving 0x70000000 {}).ctxs.take 1 ++ [(1, { tenant := 1, phase := .ready })] }

/-- A tile of one row of 16 bytes. -/
def tileA : Tile := { shape := { fmt := 3, mx := false, rows := 1, elems := 16 }, data := List.replicate 16 0x38 }
/-- A written accumulator of one entry. -/
def accA : Accum := { fp := false, q := 1, k := 1, data := [7] }
/-- Two tiles, the second of which is the key tile. -/
def tiled : Ctx := { tiles := [(0, some tileA), (1, some tileA)], regs := [(2, 1)] }
/-- A query tile and the parameters of both streaming forms. -/
def keyed : Ctx :=
  { tiles := [(0, some tileA)]
    regs := [(8, 0x10), (9, 16), (10, 1), (11, BitVec.ofNat 64 (2 ^ 32 * 2)), (16, 0x10), (17, 16), (18, 1),
      (19, BitVec.ofNat 64 (2 ^ 32 * 2)), (20, 0x10)] }
/-- An accumulator, a list, and the parameters of the top-k unit. -/
def listed : Ctx :=
  { accs := [(0, some accA)], topk := some (emptyTopK false 1 1)
    regs := [(4, BitVec.ofNat 64 (poolPtr 0x10 64)), (6, BitVec.ofNat 64 (2 ^ 32)), (8, 0x10),
      (9, BitVec.ofNat 64 (1 + 65536 + 2 ^ 32)), (10, 1)] }
/-- Two tiles to load. -/
def twoTiles : Ctx := { tiles := [(0, some tileA), (1, some tileA)] }

/-- Context 0 is blocked in an SWAIT that has been released, while context 1 has the engine. -/
def blockedOn : State :=
  { seen with
    ctxs := [(0, { tenant := 1, phase := .blocked, long := some { pc := 0, wait := some 3 } }), (1, { tenant := 1, phase := .running })]
    sync.waits := [{ id := 3, counter := 5, threshold := 1, owner := .context 0, target := none, tenant := 1, phase := .pending .ok }]
    sync.nextWait := 4 }

/-- A sieve command of opcode `op` for context 0. -/
def sieveCmd (op : Nat) : List Byte :=
  if op = 1 then slotOf 1 1 [(24, 7, poolPtr 0x10 64), (32, 5, 64)] else if op = 2 then slotOf 2 2 [] else slotOf op 1 []
/-- It has been dispatched. -/
def sieveWith (op : Nat) : State := { runOn seen 3 (sieveCmd op) .dispatched with ctxs := [(0, { tenant := 1 })] }

/-! ## Lexicon -/

/-- A grammar of 256 tokens with one state, in which token 0 alone is allowed. -/
def smallGrammar : List Byte :=
  [0x57, 0x4C, 0x58, 0x47] ++ leBytes 2 1 ++ leBytes 2 0 ++ leBytes 4 256 ++ leBytes 4 1 ++ leBytes 4 0 ++ zeros 4 ++ leBytes 8 1 ++
  leBytes 8 64 ++ leBytes 8 80 ++ leBytes 8 88 ++ zeros 8 ++ zeros 8 ++ leBytes 4 1 ++ zeros 4 ++ zeros 8

/-- Drawer 0x10 with bytes at line 1 on. -/
def inDrawer (bytes : List Byte) : State :=
  { demo with
    mem := FMap.setRun 0 [] (addr 0x10 64) bytes
    dram.tags := (List.range (ceilDiv bytes.length 64)).map fun i => (lineKey 0x10 (1 + i), some 0) }

/-- Stream 1 is open with a dictionary and a position in the grammar, both in drawer 0x10. -/
def streaming : State :=
  { inDrawer smallGrammar with
    images := [(imageKey 1 false 0, some { drawer := 0x10, offset := 4096, length := 64, digest := [] }),
      (imageKey 1 true 0, some { drawer := 0x10, offset := 64, length := 88, digest := [] })]
    streams := [(1, { isOpen := true, gram := some (0, 0), chans := [
      { whole := false, n := 12, window := BitVec.ofNat 64 (poolPtr 0x10 65536), held := [], subst := 0, wpos := 0, finalPos := 0 }] })] }

/-- A lexicon command of opcode `op` on stream 1, or the grammar of slot 0. -/
def lexCmd (op : Nat) : List Byte :=
  match op with
  | 1 => slotOf 1 1 [(16, 1, 1), (24, 7, poolPtr 0x10 64), (40, 5, 88)]
  | 2 => slotOf 2 1 [(16, 1, 1), (24, 7, poolPtr 0x10 64), (40, 5, 88)]
  | 3 => slotOf 3 1 [(16, 1, 1)]
  | 4 => slotOf 4 2 [(16, 2, 1), (19, 1, 0xFF), (24, 1, 1), (65, 1, 12), (72, 7, poolPtr 0x10 65536)]
  | 6 => slotOf 6 1 [(16, 2, 1), (24, 7, 0x10), (32, 7, poolPtr 0x10 8192), (40, 5, 8), (48, 5, 8)]
  | 7 => slotOf 7 1 [(16, 2, 1), (24, 7, 0x10), (40, 5, 2)]
  | 8 => slotOf 8 1 [(32, 7, poolPtr 0x10 8192)]
  | 10 => slotOf 10 1 [(32, 7, poolPtr 0x10 8192)]
  | 11 => slotOf 11 1 [(16, 2, 1), (19, 1, 0xFF)]
  | _ => slotOf op 1 [(16, 2, if op = 5 then 1 else 0)]
/-- It has been dispatched. -/
def lexWith (op : Nat) : State := runOn streaming 4 (lexCmd op) .dispatched

/-- The fabric, with the stream. -/
def linkedLex : State :=
  { linked with mem := streaming.mem, dram := streaming.dram, images := streaming.images, streams := streaming.streams }

/-- A lexicon request on stream 1. -/
def reqLex (op : Nat) : Req :=
  match op with
  | 0x20 => reqOf op 0 1 8 0 [] (zeros 8)
  | 0x21 => reqOf op 0 1 8 0 [] (zeros 8)
  | 0x23 => reqOf op 0 1 0 4 (zeros 16) []
  | 0x28 => reqOf op 0x10 0 0 1 [] []
  | _ => reqOf op 0 1 0 0 (zeros 16 ++ leBytes 2 0x10 ++ leBytes 5 8192 ++ zeros 9) []

/-! ## Hold sets and snapshots -/

/-- The set of drawer 0x10. -/
def heldSet : HoldSet := { drawers := [0x10], counters := [], queues := [], streams := [], contexts := [] }
/-- Its descriptor. -/
def heldDesc : List Byte := leBytes 2 1 ++ zeros 14 ++ leBytes 8 0x10

/-- A hold command of opcode `op` on snapshot 1, or of the descriptor in line 1. -/
def holdCmd (op : Nat) : List Byte :=
  match op with
  | 1 => slotOf 1 1 [(24, 7, poolPtr 0x10 64), (32, 7, poolPtr 0x10 4096)]
  | 4 => slotOf 4 2 [(16, 4, 1), (24, 7, poolPtr 0x10 4096), (40, 5, 2 ^ 30)]
  | 5 => slotOf 5 1 [(16, 4, 1), (24, 7, poolPtr 0x10 64), (40, 5, 256)]
  | 6 => slotOf 6 1 [(16, 4, 1), (20, 2, 7), (24, 8, 9)]
  | 7 => slotOf 7 1 [(16, 4, 1), (20, 2, 7), (24, 8, 9)]
  | _ => slotOf op 1 [(16, 4, if op = 0 then 0 else 1)]

/-- A set that the HOLD command (5, 0) froze, with the snapshot that it was captured as. -/
def frozenBy (snap : Option Nat) : Frozen :=
  { set := heldSet, tenant := 1, q := 5, index := 0, snap := snap, at_ := 900, stopped := 0, abandoned := 0, cases := [] }

/-- Snapshot 1 of the set. -/
def snapOne : Snapshot :=
  { id := 1, tenant := 1, set := heldSet
    drawers := [{ id := 0x10, size := 16, isSealed := false, digest := [], bytes := [], poison := [], shared := List.range 16, lost := [] }]
    counters := [], waits := [], queues := [], streams := [], contexts := [], digest := [], report := none, holdQ := 5, busy := false }

/-- A hold command has been dispatched, with its descriptor in drawer 0x10. -/
def holdWith (op : Nat) : State := runOn (inDrawer heldDesc) 5 (holdCmd op) .dispatched
/-- The set is frozen and to be captured. -/
def holding : State := { runOn demo 5 (holdCmd 1) .waiting with hold.frozen := [frozenBy none] }
/-- The set is captured, and its snapshot freezes it. -/
def held : State :=
  { demo with hold.frozen := [frozenBy (some 1)], hold.snapshots := [snapOne], hold.nextSnap := 2 }
/-- The snapshot freezes nothing any more. -/
def dropped : State := { held with hold.frozen := [] }
/-- A command on the snapshot has been dispatched. -/
def heldWith (op : Nat) : State := runOn held 5 (holdCmd op) .dispatched

/-- The header of a parcel for a destination. -/
def headerA : List Byte := parcelHeader 3 5 (64 + 16) (zeros 16) (zeros 48) (zeros 97) (zeros 48)

/-- A RECEIVE waits for endpoint 7 under rendezvous 9 and has a header. -/
def receiving : State :=
  { linked with
    hold := { held.hold with receives := [
      { q := 5, index := 0, target := 1, src := 7, rdv := 9, header := some headerA, got := 0, chunks := [], answered := false }] }
    queues := (runOn demo 5 (holdCmd 6) .waiting).queues }

/-- A transfer message under rendezvous 9. -/
def reqXfer (op : Nat) : Req :=
  { reqOf op 0 0 (if op = 0x41 then 256 else if op = 0x42 then 64 else 0) 9 (if op = 0x40 then zeros 32 else [])
      (if op = 0x41 then sub headerA 0 256 else if op = 0x42 then zeros 64 else []) with vc := 0 }

end Sys2Proof
end

