-- ==== Sys2Proof/Tests/Slice0.lean ====
section
/-! SUPPORT. Tests: a command that each check of WellFormed refuses; one step of some commands of each family, with the
result worked out by hand from the rules cited; and, for every statement with hypotheses, a state and operands that meet them. -/

set_option Elab.async false

namespace Sys2Proof
open Machine

/-! ## WellFormed -/

theorem test_wf_host_write : (Instr.jnyCtrl ⟨9, 0⟩).wellFormed = false ∧ (Instr.jnyCtrl ⟨1, 256⟩).wellFormed = false ∧
    (Instr.jnyCtrl ⟨0, 0⟩).wellFormed = false ∧ (Instr.jnyCtrl ⟨8, 1⟩).wellFormed = true := by decide +kernel
theorem test_wf_flit : (Instr.idleFlit 0 { idleFlitA with raw := [] }).wellFormed = false ∧
    (Instr.idleFlit 0 { raw := zeros 256, lost := [] }).wellFormed = true := by decide +kernel
theorem test_wf_words : (Instr.trainingStepDone 0 0xFF [(0, [])]).wellFormed = false ∧
    (Instr.trainingStepDone 0 0xFF [(0, zeros 16)]).wellFormed = true := by decide +kernel
theorem test_wf_request : (Instr.read { reqRead with ops := [0] }).wellFormed = false ∧
    (Instr.read { reqRead with slots := 0 }).wellFormed = false ∧ (Instr.read reqRead).wellFormed = true := by decide +kernel
theorem test_wf_random : (Instr.challenge adminMsg []).wellFormed = false ∧ (Instr.dbgChallenge []).wellFormed = false := by decide +kernel
theorem test_wf_revoke : (Instr.revoke adminMsg []).wellFormed = false := by decide +kernel
theorem test_wf_tls : (Instr.tlsHandshakeDone 1 (.certificate [])).wellFormed = false ∧
    (Instr.tlsHandshakeDone 1 .noCertificate).wellFormed = true := by decide +kernel
theorem test_wf_bar2 : (Instr.bar2Read 0 0 []).wellFormed = false ∧ (Instr.bar2Write 0 [] []).wellFormed = false := by decide +kernel
theorem test_wf_register : (Instr.rcRead .host 0 0).wellFormed = false ∧ (Instr.rcRead .host 0 9).wellFormed = false ∧
    (Instr.registerWrite 0 0 0).wellFormed = false ∧ (Instr.registerWrite 0 9 0).wellFormed = false := by decide +kernel
theorem test_wf_report : (Instr.reportSigned []).wellFormed = false ∧ (Instr.reportSigned (zeros 96)).wellFormed = true := by
  decide +kernel
theorem test_wf_neighbor : (Instr.neighborDiscovery []).wellFormed = false := by decide +kernel
theorem test_wf_pace : (Instr.pacePeriod [⟨3, true, 29, 900, 600, 400, 50⟩]).wellFormed = false := by decide +kernel

/-! ## One step -/

/-- The state after a command; every command answers one. -/
def after (c : Instr) (s : State) : State := match exec c s with | .next t => t | _ => s

/-- The context of the tests. -/
def ctx0 : CtxId := ⟨0, 0⟩

/-- CRC-64/ECMA-182 of "123456789" is its published check value (R221). -/
theorem test_crc : crc64 [0x31, 0x32, 0x33, 0x34, 0x35, 0x36, 0x37, 0x38, 0x39] = 0x6C40DF5F0B497347 := by decide +kernel

-- Supply and start-up (R104, R133, R135).
theorem test_cold_loss : (after .vinColdLoss demo).power.node = .off := by decide +kernel
theorem test_reset_low : (after .resetNAssert demo).power.node = .off ∧ (after .resetNAssert demo).power.resetLow = true := by
  decide +kernel

-- Health: bench B retired is the trigger NO_SPARE, detail A 0x108 and mask bit 1 (Table 19–3).
theorem test_health_event :
    ((({ demo with bench.roleB := .retired } : State).settle).events.ring.slots.get 0 none).map (fun e => (e.code, e.a, e.b)) =
      some (0x103, 0x108, 2) := by decide +kernel

-- Training words and flits (Table 6–2, R220): the CRC-32 of "123456789" is its published check value.
theorem test_crc32 : crc32 [0x31, 0x32, 0x33, 0x34, 0x35, 0x36, 0x37, 0x38, 0x39] = 0xCBF43926 := by decide +kernel
theorem test_train_word : trainWordOf { lane := 3, half := true, port := 2, pass := 0x0F, widths := 7, phase := 1 : TrainWord }.bytes =
    some { lane := 3, half := true, port := 2, pass := 0x0F, widths := 7, phase := 1 } := by decide +kernel
-- R179: a codeword's payload of 5140 bits holds flits 0 and 1 and the first 1044 bits of flit 2.
theorem test_codewords : codewordsOf 1 = [0] ∧ codewordsOf 2 = [0, 1] ∧ codewordsOf 3 = [1] := by decide +kernel

-- Fabric (R260, R267, R274, R380, R405).
theorem test_message_bytes : sub (msgOf 0x04 reqCas).bytes 0 24 =
    [0, 0, 3, 0, 3, 0, 7, 0, 4, 0, 1, 0, 0x10, 0, 8, 0, 64, 0, 0, 0, 0, 0, 1, 0] := by decide +kernel
theorem test_fadd : (after (.fadd64 reqFadd) (linked.asks 0x03 reqFadd)).byteOf 0x10 64 = 5 := by decide +kernel
theorem test_write : (after (.write reqWrite) (linked.asks 0x02 reqWrite)).byteOf 0x10 127 = 64 ∧
    (after (.write reqWrite) (linked.asks 0x02 reqWrite)).byteOf 0x10 128 = 0 := by decide +kernel
theorem test_cas_fails : (after (.cas64 { reqCas with word := 1 }) (linked.asks 0x04 { reqCas with word := 1 })).byteOf 0x10 64 = 0 ∧
    (after (.cas64 reqCas) (linked.asks 0x04 reqCas)).byteOf 0x10 64 = 9 := by decide +kernel
theorem test_sync_add : ((after (.syncAdd (reqSync 0x10)) (linked.asks 0x10 (reqSync 0x10))).counter 5).value = 3 := by decide +kernel
theorem test_bell : ((after (.doorbell reqBell) (linked.asks 0x18 reqBell)).queue 2).tail = 1 := by decide +kernel
theorem test_denied : ((after (.read { reqRead with drawer := 0x77 }) (linked.asks 0x01 { reqRead with drawer := 0x77 })).out.map
    fun o => match o with
      | .message _ _ { body := .response _ _ _ _ _ _ st _ _ _, .. } => st | _ => .ok).contains .denied = true := by decide +kernel

-- Copy engines (R426, R427, R411, R412): byte 1 of the pattern 0x0807060504030201 is 2.
theorem test_fill : (after (.fill 2 0) (busyWith 2)).byteOf 0x10 65 = 2 ∧
    ((after (.fill 2 0) (busyWith 2)).runOf 2 0).map (·.progress) = some 128 := by decide +kernel
theorem test_copy : (after (.copy 2 0) (busyWith 1)).byteOf 0x10 4097 = 2 := by decide +kernel
theorem test_complete : ((after (.commandComplete 2 0) (after (.fill 2 0) (busyWith 2))).queue 2).head = 1 ∧
    (after (.commandComplete 2 0) (after (.fill 2 0) (busyWith 2))).byteOf 0x10 (2 * 65536) = 0x80 := by decide +kernel

-- The sieve (Table 14–5): results worked out by hand.
theorem test_sub_wraps : ((after (.aluSub ctx0) (sieving 0x04611001 {})).ctx 0).reg 3 = -3 := by decide +kernel
theorem test_mulhu : ((after (.aluMulhu ctx0) (sieving 0x04611009 { regs := [(1, -1), (2, -1)] })).ctx 0).reg 3 = -2 := by decide +kernel
theorem test_sar : ((after (.aluSar ctx0) (sieving 0x04611007 { regs := [(1, 0x8000000000000000), (2, 65)] })).ctx 0).reg 3 =
    0xC000000000000000 := by decide +kernel
theorem test_slt : ((after (.aluSlt ctx0) (sieving 0x0461100B { regs := [(1, -1), (2, 1)] })).ctx 0).reg 3 = 1 ∧
    ((after (.aluSltu ctx0) (sieving 0x0461100A { regs := [(1, -1), (2, 1)] })).ctx 0).reg 3 = 0 := by decide +kernel
theorem test_addi_negative : ((after (.addi ctx0) (sieving 0x0861FFFF {})).ctx 0).reg 3 = 4 := by decide +kernel
theorem test_s0 : ((after (.addi ctx0) (sieving 0x0801FFFF {})).ctx 0).reg 0 = 0 := by decide +kernel
theorem test_beq_taken : ((after (.beq ctx0) (sieving 0x40210004 {})).ctx 0).pc = 16 ∧
    ((after (.beq ctx0) (sieving 0x4021FFFF {})).ctx 0).pc = 0xFFFC := by decide +kernel
theorem test_bne_not_taken : ((after (.bne ctx0) (sieving 0x4421FFFF {})).ctx 0).pc = 4 := by decide +kernel
theorem test_trap : ((after (.trap ctx0) (sieving 0x78000007 { trapEntry := 0x40 })).ctx 0).pc = 0x40 ∧
    ((after (.trap ctx0) (sieving 0x78000007 { trapEntry := 0x40 })).ctx 0).tcause = 9 ∧
    ((after (.trap ctx0) (sieving 0x78000007 { trapEntry := 0x40 })).ctx 0).tinfo = 7 := by decide +kernel
theorem test_pld : ((after (.pld ctx0) (sieving 0x84640000 {})).ctx 0).reg 3 = 0x0807060504030201 := by decide +kernel
theorem test_pst : (after (.pst ctx0) (sieving 0x88640000 {})).byteOf 0x10 64 = 3 := by decide +kernel

/-! ## What meets the hypotheses of the statements -/

/-- The CRC that withCrc puts into a flit holds. -/
theorem flitOf_crc (hdr : Nat) (body : List Byte) : (flitOf hdr body).crcOk = true := by
  have h : (leBytes 8 hdr ++ sub body 0 240).length = 248 := by simp
  have e : (crc64 (leBytes 8 hdr ++ sub body 0 240)).toNat < 256 ^ 8 := (crc64 (leBytes 8 hdr ++ sub body 0 240)).isLt
  unfold Flit.crcOk flitOf withCrc field
  dsimp only
  rw [sub_append_left _ _ _ h, sub_append_right _ _ 248 8 h (length_leBytes 8 _), leNat_leBytes 8 _ e]
  exact beq_self_eq_true _

/-- No injection is armed in the test state. -/
theorem seen_uninjected (n : Nat) : (seen.stk n).inject = none :=
  FMap.get_of_forall (P := fun (k : Stack) => k.inject = none) (by decide +kernel) rfl n

theorem test_hyp_SupplyCommandsMoveTheNode : (demo.power.node = .ready ∧ demo.power.vinOn = true ∧ demo.power.highRaised = false ∧
    demo.power.node ≠ .off ∧ demo.ringRoom = true) ∧
    ({ demo with power.node := .off, power.ovStopped := true } : State).power.ovStopped = true ∧
    ({ cold with power := { cold.power with highExc := true } } : State).power.highExc = true ∧ cold.power.starting = true ∧
    cold.power.node = .off ∧ cold.power.highRaised = false ∧ cold.power.ovRecord = none ∧ cold.ringRoom = true ∧
    ({ demo with power := { demo.power with highRaised := true } } : State).power.highRaised = true := by decide +kernel

theorem test_hyp_ShelfInputsAct : (demo.power.node = .ready ∧ demo.power.tripped = false ∧ demo.ringRoom = true ∧ demo.inputsGo = true) ∧
    ({ demo with power.resetLow := true, power.restartDue := true } : State).power.restartDue = true ∧
    (asleep.power.node = .retention ∧ asleep.power.tripped = false ∧ asleep.power.retention.isSome = true) ∧
    (cold.power.starting = true ∧ cold.power.node = .off) := by decide +kernel

theorem test_hyp_StartUpStatesFollowTheTable : ({ demo with power.node := .sealBoot } : State).power.node = .sealBoot ∧
    (true && false) = false ∧
    ({ demo with power.node := .selfTest } : State).power.node = .selfTest ∧ ({ demo with power.node := .selfTest } : State).inputsGo = true ∧
    ({ demo with power.node := .memoryTrain } : State).power.node = .memoryTrain ∧
    ({ demo with power.node := .memoryTrain } : State).inputsGo = true ∧
    ({ demo with power.node := .memoryTrain } : State).startUpBounded = true := by decide +kernel

theorem test_hyp_PaceAndThermalCommandsAct : demo.power.node = .ready ∧ demo.power.tripped = false ∧ demo.inputsGo = true ∧
    demo.heldAtFloor 3 = false ∧ (demo.dom 3).fixed = none ∧ (demo.dom 3).limiting = false ∧ demo.ringRoom = true ∧
    (demo.dom 3).volt = 0 ∧
    (({ demo with domains := [(3, { limiting := true, ceilSince := some 5 })] } : State).dom 3).limiting = true ∧
    ({ demo with domains := [(3, { limiting := true, ceilSince := some 5 })] } : State).heldBack 3 = false ∧
    ({ demo with domains := [(3, { limiting := true, issueLim := true })] } : State).heldBack 3 = true ∧
    (({ demo with domains := [(3, { limiting := true, ceilSince := some 5 })] } : State).dom 3).ceilSince.isSome = true ∧
    (demo.domains.any fun e => e.2.ceiling && e.2.ceilSince.isSome) = false ∧ (demo.stk 2).lost = false ∧
    demo.loops.dramFreeze.getLsbD 2 = false := by decide +kernel

theorem test_hyp_PlacementMoves : (moving.dram.moves.find? fun x => x.drawer == 0x10 && x.block == 0 && x.copy == 0).isSome = true ∧
    (moving.place 0x10 0 0).isSome = true ∧ moving.inputsGo = true ∧ moving.mayMove 0x10 0 0 1 = true ∧
    ({ moving with jny.inForce := some { smallJoinery with drawers := [{ drawerTen with pinned := true }] } } : State).mayMove 0x10 0 0 1 =
      false := by decide +kernel
theorem test_hyp_PlacementAllowed : (demo.measure skewed).moveAllowed skewed 0x10 0 0 1 5 = true ∧ demo.inputsGo = true := by decide +kernel

theorem test_hyp_Retention_asked : demo.hostServed = true ∧ demo.power.node = .ready ∧ demo.lockOpen .host = true ∧
    demo.retentionBarred = false ∧
    demo.hears (askMsg 0x0B [(1, cborUint 5), (2, cborUint 1)]) .admin kindRetention retentionBody (5, 1) = true ∧
    demo.hears (askMsg 0x0C []) .admin kindShutdown noBody () = true ∧
    demo.lockOpen (.session adminMsg.session adminMsg.reqId) = true ∧ demo.inStates true true false = true := by decide +kernel
theorem test_hyp_Retention_entry :
    let r : State := { demo with power.retention := some { timer := 5, mask := 1 } }
    r.drained = true ∧ r.anySession = false ∧ r.inputsGo = true ∧ ({ demo with power.shutdown := true } : State).drained = true := by
  decide +kernel
theorem test_hyp_Retention_links :
    let r : State := { linked with power.retention := some { timer := 5, mask := 1 }, sync := {}, fabric.outbound := [] }
    r.drained = true ∧ r.inputsGo = true ∧ (r.inputOf .retentionEntryDone).planLinks.anySession = true := by decide +kernel
theorem test_hyp_Retention_waits :
    let r : State := { linked with power.retention := some { timer := 5, mask := 1 }, fabric.outbound := [], sync.waits := [
      { id := 1, counter := 5, threshold := 9, owner := .port 0, target := none, tenant := 1, phase := .waiting }] }
    r.workDone = true ∧ r.drained = false := by decide +kernel
theorem test_hyp_Retention_wake : asleep.asleep = some { timer := 5, mask := 1, perstSeen := true } ∧
    0 < asleep.power.part.ports ∧ ({ timer := 5, mask := 1 } : Retention).mask.getLsbD 0 = true ∧
    ({ timer := 5, mask := 1 } : Retention).detectors.getLsbD 0 = false ∧
    (asleep.setRetention { timer := 5, mask := 1, checking := some 0 }).asleep =
      some { timer := 5, mask := 1, checking := some 0 } ∧
    (asleep.setRetention { timer := 5, mask := 1, wake := some .timer }).power.node = .retention := by decide +kernel

theorem test_hyp_Joinery_taken : demo.hostServed = true ∧ demo.jny.phase = .idle ∧ demo.takesImages = true ∧
    demo.lockOpen .host = true ∧ demo.hears (msgWith 6 (cborBytes [1, 2])) .admin kindLoad (bytesBody fun _ => true) [1, 2] = true ∧
    demo.lockOpen (.session adminMsg.session adminMsg.reqId) = true := by decide +kernel
theorem test_hyp_Joinery_rejected : demo.closing = false ∧ (demo.checkImage demo.isReady []).isSome = true ∧
    ({ demo with jny.phase := .checking [] .host } : State).inputsGo = true := by decide +kernel
theorem test_hyp_Joinery_accepted (h : imageSigned smallImage = true) : waiting.closing = false ∧ waiting.inputsGo = true ∧
    waiting.power.node ≠ .ready ∧ waiting.checkImage waiting.isReady smallImage = none ∧
    waiting.planOk (joineryOf smallImage (imageRecords smallImage).1) [] = true := by
  refine ⟨by decide +kernel, by decide +kernel, by decide +kernel, ?_, by decide +kernel⟩
  unfold State.checkImage State.checkImageBy Verdicts.standard
  dsimp only
  rw [h]
  decide +kernel
/-- In READY, with no context and no port up. -/
def reapplying : State := { waiting with power := { waiting.power with node := .ready } }
theorem test_hyp_Joinery_again (h : imageSigned smallImage = true) : reapplying.closing = false ∧ reapplying.inputsGo = true ∧
    reapplying.checkImage reapplying.isReady smallImage = none ∧ reapplying.ctxs = [] ∧
    (joineryOf smallImage (imageRecords smallImage).1).isDelta = false ∧
    reapplying.planOk (joineryOf smallImage (imageRecords smallImage).1) [] = true ∧
    (∀ p, (reapplying.port p).isUp = false ∧ (reapplying.port p).dozes = false) := by
  refine ⟨by decide +kernel, by decide +kernel, ?_, rfl, by decide +kernel, by decide +kernel, fun _ => ⟨rfl, rfl⟩⟩
  unfold State.checkImage State.checkImageBy Verdicts.standard
  dsimp only
  rw [h]
  decide +kernel
theorem test_hyp_Joinery_point : ∃ j, let s : State := { demo with jny.phase := .accepted [] j [] false .host }
    s.closing = false ∧ s.power.node ≠ .failed ∧ s.finishParked.reqsWait = false ∧ s.inputsGo = true :=
  ⟨smallJoinery, by decide +kernel⟩
theorem test_hyp_Joinery_done : ∃ j, demo.jny.inForce = some j ∧
    let s : State := { demo with jny.phase := .applied .host, power := { demo.power with node := .applying } }
    s.closing = false ∧ s.inputsGo = true ∧ s.power.node = .applying := ⟨_, rfl, by decide +kernel⟩
theorem test_hyp_ConfigRequest : demo.host.linkUp = true ∧ demo.power.tripped = false ∧ demo.power.node = .ready ∧
    demo.bench.throttled = false ∧ ({ demo with bench.throttled := true } : State).bench.throttled = true := by decide +kernel

theorem test_hyp_Patrol : 2 < demo.power.part.slices ∧ (demo.stk 2).lost = false ∧ (demo.stk 2).retired = [] ∧ demo.inputsGo = true ∧
    (demo.stk 2).lapPos + 1 < stackLines ∧ (demo.stk 2).overdue = false ∧ demo.patrols 2 = true ∧ demo.stackRuns 2 = true ∧ demo.ringRoom = true ∧ demo.dram.jobs = [] ∧
    1 ≤ (demo.stk 2).spares ∧ (demo.stk 2).retired.contains 7 = false ∧ bitOf (0x70002 : W64).toNat 4 = false ∧
    bits (0x70002 : W64).toNat 3 0 = 2 ∧ bits (0x70002 : W64).toNat 35 16 = 7 ∧
    (({ demo with dram.stks := [(2, { channelOut := true })] } : State).stk 2).channelOut = true := by decide +kernel
theorem test_hyp_RetireCopy : (demo.stk 2).sparesFit ((demo.stk 2).unretired false 7) [1020] = true := by decide +kernel

theorem test_hyp_Sweep : (({ demo with dram.drawers := [(0x10, { sweeping := some 3 })] } : State).drw 0x10).sweeping = some 3 := by decide +kernel
theorem test_hyp_Mirror : ∃ r, mirrored.drawer 0x11 = some r ∧ r.mirrored = true ∧ (mirrored.drw 0x11).degraded = true ∧
    mirrored.copyComplete r 0 = true ∧ mirrored.copyComplete r 1 = false ∧
    mirrored.planFits r 1 [{ drawer := 0x11, copy := 1, first := 0, count := 1, stack := 1, phys := 9 }] = true :=
  ⟨_, rfl, by decide +kernel⟩

theorem test_hyp_Injection : demo.hostServed = true ∧
    demo.hears (askMsg 0x0A [(1, cborUint 1), (2, cborArray [cborUint 2, cborUint 100]), (4, cborBool false)]) .admin 0x0A armBody
      (some (1, .physical 2 100)) = true ∧
    demo.hears (askMsg 0x0A [(1, cborUint 0), (2, cborArray [cborUint 2, cborUint 100]), (4, cborBool true)]) .admin 0x0A cancelBody
      (some (.physical 2 100)) = true ∧
    demo.aim (.physical 2 100) = some (2, 100, 0, 0) ∧ demo.aim (.physical 2 0) = some (2, 0, 0, 0) ∧
    (demo.stk 2).inject = none ∧ (demo.stk 2).injAddr = 0 ∧ 2 < demo.power.part.slices ∧
    bitOf (0 : W64).toNat 4 = false := by decide +kernel

theorem test_hyp_Gates : disputed.power.node = .ready ∧ disputed.bench.acceptedAt 3 = 1 ∧ disputed.bench.role .B = .active ∧
    disputed.bench.made { bench := .B, claim := 1, input := 7, index := 0, content := 5 } = true ∧
    ((0 : W32).toNat < (disputed.bench.acceptedAt 3).toNat) ∧
    disputed.bench.wasEmitted 3 7 0 = false ∧ ({ disputed with bench.dispute := none } : State).bench.dispute = none ∧
    (disputed.bench.waiting.find? fun x => x.1 == 3 && x.2.input == 7 && x.2.index == 0 && x.2.claim == 1 &&
      x.2.bench != .B && disputed.bench.role x.2.bench == .active) =
      some (3, { bench := .A, claim := 1, input := 7, index := 0, content := 5 }) ∧
    (disputed.bench.waiting.find? fun y => y.1 == 3 && disputed.bench.role y.2.bench == .active).isSome = true ∧
    demo.inputsGo = true ∧ disputed.inputsGo = false := by decide +kernel

theorem test_hyp_Disputes : disputed.bench.dispute.isSome = true ∧ disputed.bench.spare = some .C ∧
    disputed.bench.claim ≠ lastClaim ∧ retryMatches [] [] = true ∧
    (disputed.bench.dispute.map fun d => (d.phase, disputed.bench.retryFits d [] [],
      disputed.bench.retryFits d [] [{ bench := .B, claim := 1, input := 7, index := 0, content := 5 }])) = some (.retry, true, true) ∧
    retryMatches [] [{ bench := .B, claim := 1, input := 7, index := 0, content := 5 }] = false ∧
    (disputed.bench.waiting.find? fun x => x.1 == 3 && x.2.input == 7 && x.2.index == 0 && x.2.bench == .C) = none ∧
    ({ disputed with bench.roleC := .retired } : State).bench.spare = none ∧
    ({ demo with bench.kerf := some (.B, 1, 1, 3) } : State).bench.kerf.isSome = true := by decide +kernel

theorem test_hyp_Spare : let s := (demo.input .ipv4Frame)
    demo.bench.spare = some .C ∧ demo.bench.throttled = false ∧
    (s.bench.journal.find? fun x => x.seq == s.bench.taken .C + 1).isSome = true ∧ s.hcOf .C (s.time - 1000) < 768 ∧
    1024 ≤ ({ s with time := 2000 } : State).hcOf .C (2000 - 1000) ∧
    768 ≤ ({ s with time := 1400 } : State).hcOf .C (1400 - 1000) ∧ ({ s with time := 1400 } : State).hcOf .C (1400 - 1000) < 1024 ∧
    s.bench.taken .C < s.bench.inputs ∧
    demo.hears (msgWith 9 (cborUint 2)) .admin kindReadmit (uintBody (· < 3)) BenchId.C.num = true ∧
    ({ demo with bench.roleC := .retired } : State).bench.role .C = .retired ∧ demo.benchesBusy = false ∧
    (∀ n : Fin 4, ({ demo with bench.readmit := some { bench := .C, stage := n.val, session := 1, reqId := 2 } } : State).bench.readmit =
      some { bench := .C, stage := n.val, session := 1, reqId := 2 }) := by decide +kernel

theorem test_hyp_Training : (∀ n : Fin 8, ((demo.setPort 0 { mode := .training, step := n.val }).port 0).step = n.val) ∧
    (demo.groupOf 0).isSome = true ∧ chooseWidth true 1 0xFF = some (8, 0) ∧
    (agreeing { agreeA with finished := true, finishSent := true } certA).groupOf 0 ≠ none ∧
    optAny ((agreeing { agreeA with finished := true, finishSent := true } certA).port 0).cert
      ((agreeing { agreeA with finished := true, finishSent := true } certA).identityClash 0) = false ∧
    ((demo.setPort 0 { mode := .training, pauseLong := some true, enabled := true, creditInit := true }).port 0).enabled = true ∧
    demo.ringRoom = true ∧ (linked.port 0).mode = .up ∧ (linked.port 0).hasSession = true := by decide +kernel

theorem test_hyp_Light : (linked.port 0).mode = .up ∧ (linked.port 0).hasSession = true ∧
    (linked.port 0).activeLanes.getLsbD 3 = true ∧ (linked.port 0).waitFlood = false ∧
    ((linked.setPort 0 { linked.port 0 with mode := .hold, grace := true, waitFlood := true, quiesce := some { own := true } }).port 0).grace = true ∧
    (linked.port 0).alarms &&& (linked.port 0).activeLanes = 0 ∧ (linked.port 0).quiesce = none := by decide +kernel

theorem test_hyp_QuietDoze : (linked.port 0).mode = .up ∧ (linked.port 0).quiet = none ∧ (linked.port 0).lastQuiet = none ∧
    ({ len := 5, start := 1024, acked := true, at_ := some 0 } : Quiet).reached 7 = true ∧
    ({ len := 5, start := 1024, acked := true, at_ := some 9 } : Quiet).reached 7 = false ∧
    ((linked.setPort 0 { quiet := some { len := 5, start := 1024, active := true } }).port 0).txq = [] ∧
    ((linked.setPort 0 { mode := .doze, hasSession := true, doze := some { dark := false, d := 10, own := true, lit := true, search := true } }).port 0).mode =
      .doze ∧
    ((linked.setPort 0 { mode := .darkDoze, hasSession := true, doze := some { dark := true, d := 10, own := true, search := true } }).port 0).mode =
      .darkDoze := by decide +kernel

theorem test_hyp_Flits_lands (hdr : Nat) (body : List Byte) : linked.landsWhole 0 (flitOf hdr body) = true ∧
    (linked.port 0).openEnded = true := by
  refine ⟨?_, by decide +kernel⟩
  unfold State.landsWhole
  rw [flitOf_crc]
  have e : (linked.port 0).badUnder (flitOf hdr body) = [] := by
    have h : codewordsOf (linked.port 0).rxPos = [0] := by decide +kernel
    unfold Port.badUnder
    rw [h]
    rfl
  rw [e]
  decide +kernel
theorem test_hyp_Flits_idle (h : idleFlitA.ctrlOk keysA = true) : (linked.port 0).ctrlOk idleFlitA = true ∧
    (linked.port 0).rxCtrl < idleFlitA.ctrl ∧ idleFlitA.plainCtrl 0 = true :=
  ⟨h, by decide +kernel⟩
theorem test_hyp_Flits_data (h : dataFlitA.opened keysA 0 = some (zeros 224)) : (linked.port 0).opens dataFlitA = some (zeros 224) ∧
    dataFlitA.seq = (linked.port 0).expected % 4096 ∧ dataFlitA.clean = true ∧ dataFlitA.typ = 1 ∧
    (linked.port 0).expected < (linked.port 0).ackSent + 1024 ∧
    (frame ((linked.arrives 0 dataFlitA).port 0).frameRule (slotsIn (zeros 224))
      { part := (linked.port 0).partialMsg, held := (linked.port 0).held, done := [] }).isSome = true :=
  ⟨h, by decide +kernel⟩
theorem test_hyp_Flits_nak (h : nakFlitA.ctrlOk keysA = true) : (linked.port 0).ctrlOk nakFlitA = true ∧
    (linked.port 0).rxCtrl < nakFlitA.ctrl ∧ nakFlitA.plainCtrl 2 = true ∧ (linked.port 0).mute = false ∧
    (nakFlitA.ack + 1 + 4096 - ((linked.port 0).nextSeq - (linked.port 0).unacked) % 4096) % 4096 = 0 ∧
    (linked.port 0).replayBuf ≠ [] ∧ (linked.port 0).run ≠ some (some nakFlitA.ack) :=
  ⟨h, by decide +kernel⟩
theorem test_hyp_Flits_port : (linked.port 0).receives = true ∧ (linked.port 0).quiesce = none ∧
    (linked.port 0).mode = .up ∧ (linked.port 0).timeouts < 7 ∧ (linked.port 0).maySend = true ∧
    linked.withholds 0 0 = false ∧ (linked.port 0).owed = [5, 0, 0, 0] ∧ (linked.port 0).unacked < 1024 ∧
    (linked.port 0).nak = some true ∧
    ((linked.setPort 0 { linked.port 0 with run := some none, mode := .replay }).port 0).openEnded = true := by decide +kernel
/-- Port 0 in step 6, whose training buffer is empty. -/
def inStepSix : State := linked.setPort 0 { mode := .training, step := 6, ka := some agreeA }
theorem test_hyp_Flits_train : trainFlitA.crcOk = true ∧ trainFlitA.typ = 3 ∧ trainFlitA.plainTrain = true ∧
    ((inStepSix.port 0).badUnder trainFlitA).isEmpty = true ∧
    (frame ((inStepSix.arrives 0 trainFlitA).port 0).trainRule trainFlitA.clearSlots
      { part := (inStepSix.port 0).partialMsg, held := [0, 0, 0, (inStepSix.port 0).trainSlots], done := [] }).map
        (fun x => x.held.take 3) = some [0, 0, 0] :=
  ⟨flitOf_crc _ _, by decide +kernel⟩

/-- Port 0 of the linked state, with a message of DATA flits next. -/
def told (v : Port) (kind : Nat) (fields : List Byte) : State := (linked.setPort 0 v).holds0 (vc3A false kind fields)
theorem test_hyp_Vc3_next : ∀ kind ∈ [0x04, 0x05, 0x10, 0x11, 0x12, 0x13, 0x14, 0x15, 0x16, 0x17, 0x18],
    (told (linked.port 0) kind (zeros 10)).dataNext 0 kind [] (vc3A false kind (zeros 10)) := by
  unfold State.dataNext
  decide +kernel
theorem test_hyp_Vc3 : (linked.port 0).creditInit = false ∧
    field (vc3A false 0x10 (leBytes 2 272 ++ leBytes 2 272 ++ leBytes 2 16)).fields 0 2 = 272 ∧
    field (vc3A false 0x10 (leBytes 2 272 ++ leBytes 2 272 ++ leBytes 2 16)).fields 4 2 = 16 ∧
    field (vc3A false 0x11 (leBytes 2 8000 ++ leBytes 2 1024)).fields 2 2 = 1024 ∧ (linked.port 0).openEnded = true ∧
    dozeRange (field (vc3A false 0x13 (dozeFields true 10)).fields 2 4) = true ∧
    byteAt (vc3A false 0x13 (dozeFields true 10)).fields 0 = 1 ∧ (linked.port 0).txq = [] ∧ (linked.port 0).mute = false ∧
    ({ linked.port 0 with doze := some { dark := false, d := 10, own := true } } : Port).openEnded = true ∧
    ({ dark := true, d := 10, own := true } : Doze).begun = false ∧
    ({ linked.port 0 with quiesce := none, replayBuf := [] } : Port).openEnded = true ∧
    ((linked.port 0).rx.find? (·.vc == 3)) = none := by decide +kernel

theorem test_hyp_KeyAgreement_hello : (agreeing agreeA helloA).trainNext 0 0x01 helloA.fields helloA ∧ byteAt helloA.fields 0 = 1 ∧
    spelt helloA.fields 130 = true ∧ agreeA.peerHello = none ∧ sub helloA.fields 1 32 ≠ agreeA.nonce := by
  unfold State.trainNext
  decide +kernel
/-- The agreement once the peer's KA_HELLO has come. -/
def agreeB : Agreement := { agreeA with peerHello := some (vc3Bytes 0x01 (sub helloA.fields 0 130)) }
theorem test_hyp_KeyAgreement_cert (h1 : signedBy derA (List.replicate 97 4) (zeros 96) = true)
    (h2 : Config.certSigned [1, 2] derA = true) : (agreeing agreeB certA).trainNext 0 0x02 certA.fields certA ∧
    chainField certA.fields = some ([derA], List.replicate 97 4 ++ zeros 96 ++ zeros 3) ∧
    agreeB.peerCert = none ∧ spelt (List.replicate 97 4 ++ zeros 96 ++ zeros 3) 193 = true ∧
    (anchors ((agreeing agreeB certA).records (·.cas)) [derA]).isEmpty = false ∧
    signedBy derA (sub (List.replicate 97 4 ++ zeros 96) 0 97) (sub (List.replicate 97 4 ++ zeros 96) 97 96) = true ∧
    (agreeing agreeB certA).identityClash 0 (leafHash [derA]) = false := by
  have e : (agreeing agreeB certA).records (·.cas) = [[1, 2]] := by decide +kernel
  have e1 : sub (List.replicate 97 4 ++ zeros 96) 0 97 = List.replicate 97 4 := by decide +kernel
  have e2 : sub (List.replicate 97 4 ++ zeros 96) 97 96 = zeros 96 := by decide +kernel
  refine ⟨?_, by decide +kernel, rfl, by decide +kernel, ?_, by rw [e1, e2]; exact h1, by decide +kernel⟩
  · unfold State.trainNext
    decide +kernel
  · rw [e]
    simp only [anchors, chainLinked, List.getLast?_singleton, List.filter, h2, Bool.or_true, if_true]
    rfl
/-- The agreement with both certificates. -/
def agreeC : Agreement := { agreeB with peerCert := some certA.bytes, finishSent := true }
/-- A KA_FINISH. -/
def finishA : RxMsg := vc3A true 3 (zeros 48)
theorem test_hyp_KeyAgreement_finish (h : sub (hmac384 keysA.confirm ((agreeC.transcript).getD [])) 0 48 = zeros 48) :
    ((agreeing agreeC finishA).updPort 0 fun v => { v with keys := some keysA }).trainNext 0 0x03 finishA.fields finishA ∧
    spelt finishA.fields 48 = true ∧ agreeC.finished = false ∧
    sub finishA.fields 0 48 = sub (hmac384 keysA.confirm ((agreeC.transcript).getD [])) 0 48 := by
  refine ⟨?_, by decide +kernel, by decide +kernel, ?_⟩
  · unfold State.trainNext
    decide +kernel
  · rw [h]
    decide +kernel
theorem test_hyp_KeyAgreement_fail : (agreeing agreeA (vc3A true 0x0F [5])).trainNext 0 0x0F [5] (vc3A true 0x0F [5]) := by
  unfold State.trainNext
  decide +kernel
/-- A KA_BIND of endpoint 9, on port 2, whose group names no endpoint. -/
def bindA : RxMsg := vc3A false 4 (leBytes 2 9 ++ leBytes 2 4 ++ derA ++ zeros 96)
/-- It is the next message at port 2. -/
def binding : State := linked.updPort 2 fun v => { v with rx := [bindA], ka := some agreeC }
theorem test_hyp_KeyAgreement_bind (h1 : signedBy derA ((agreeC.transcript).getD [] ++ leBytes 2 9) (zeros 96) = true)
    (h2 : Config.certSigned [1, 2] derA = true) :
    binding.dataNext 2 0x04 (leBytes 2 (9 : BitVec 16).toNat ++ (leBytes 2 4 ++ derA)) bindA ∧ bindFields bindA.fields = some (9, [derA], zeros 96) ∧
    binding.mayBind 2 9 [derA] (zeros 96) = true := by
  have e : binding.records (·.cas) = [[1, 2]] := by decide +kernel
  have g : optAny (binding.groupOf 2) (fun g => g.endpoint == 0x3FFF) = true := by decide +kernel
  have b : binding.boundCert 9 = none := by decide +kernel
  have k : (binding.port 2).ka = some agreeC := rfl
  refine ⟨?_, by decide +kernel, ?_⟩
  · unfold State.dataNext
    decide +kernel
  · unfold State.mayBind
    rw [e, g, b, k]
    have a : (anchors [[1, 2]] [derA]).isEmpty = false := by
      simp only [anchors, chainLinked, List.getLast?_singleton, List.filter, h2, Bool.or_true, if_true]
      rfl
    rw [a]
    exact (congrArg (fun x => true && true && !false && x && !false) h1).trans rfl

/-- The state in which a request, next at port 0, meets its checks. -/
def got (c : Instr) (op : Nat) (r : Req) : State := (linked.asks op r).arrived c op r
theorem test_hyp_Surviving : linked.surviving := Or.inl (by decide +kernel)
theorem test_hyp_FabricRw : (linked.asks 0x01 reqRead).admits (.read reqRead) 0x01 reqRead = true ∧
    (got (.read reqRead) 0x01 reqRead).access reqRead false 8 = none ∧
    (linked.asks 0x02 reqWrite).admits (.write reqWrite) 0x02 reqWrite = true ∧
    (got (.write reqWrite) 0x02 reqWrite).access reqWrite true 64 = none ∧
    ((got (.write reqWrite) 0x02 reqWrite).claimRange 0x10 64 64).isSome = true := by decide +kernel
theorem test_hyp_FabricAtomic : (linked.asks 0x03 reqFadd).admits (.fadd64 reqFadd) 0x03 reqFadd = true ∧
    (got (.fadd64 reqFadd) 0x03 reqFadd).access reqFadd true 8 = none ∧
    ((got (.fadd64 reqFadd) 0x03 reqFadd).claimRange 0x10 64 8).isSome = true ∧
    ((got (.fadd64 reqFadd) 0x03 reqFadd).readRange 0x10 64 8).2.bad = none ∧
    (linked.asks 0x04 reqCas).admits (.cas64 reqCas) 0x04 reqCas = true ∧
    (linked.asks 0x05 reqCas2).admits (.cas128 reqCas2) 0x05 reqCas2 = true ∧
    (got (.cas128 reqCas2) 0x05 reqCas2).access reqCas2 true 16 = none := by decide +kernel

theorem test_hyp_WholeLine : reqWrite.length = 64 ∧ reqWrite.data.length = 64 ∧ reqWrite.offset.toNat % 64 = 0 ∧
    (got (.write reqWrite) 0x02 reqWrite).claimRange 0x10 64 64 = some (got (.write reqWrite) 0x02 reqWrite) ∧
    (got (.write reqWrite) 0x02 reqWrite).livePlaces 0x10 0 ≠ [] := by decide +kernel

theorem test_hyp_FabricSync : (linked.asks 0x10 (reqSync 0x10)).admits (.syncAdd (reqSync 0x10)) 0x10 (reqSync 0x10) = true ∧
    (linked.asks 0x11 (reqSync 0x11)).admits (.syncSet (reqSync 0x11)) 0x11 (reqSync 0x11) = true ∧
    (linked.asks 0x12 (reqSync 0x12)).admits (.syncRead (reqSync 0x12)) 0x12 (reqSync 0x12) = true ∧
    (linked.asks 0x13 (reqSync 0x13)).admits (.syncWait (reqSync 0x13)) 0x13 (reqSync 0x13) = true ∧ linked.counterTenant 5 = some 1 ∧
    (optAny (linked.boundCert 7) fun c => linked.admitted c 1 true) = true ∧
    (optAny (linked.boundCert 7) fun c => linked.admitted c 1 false) = true ∧ linked.counterFrozen 5 = false ∧
    (linked.counter 5).sat = false ∧ (linked.counter 5).value.toNat < (3 : W64).toNat ∧ linked.waitsFree 1 1 = true ∧
    (linked.asks 0x10 (reqSync 0x10)).triggers = (linked.asks 0x10 (reqSync 0x10)).events.trig := by decide +kernel
theorem test_hyp_FabricBell : (linked.asks 0x18 reqBell).admits (.doorbell reqBell) 0x18 reqBell = true ∧ linked.power.node = .ready ∧
    (linked.range 2).map (·.ring) = some 0x10 ∧ linked.queueFrozen 2 = false := by decide +kernel

/-- A response under tag 4 is next at port 0. -/
def answered : State := linked.holds0
  { vc := 1, train := false, pos := 0, bytes := transportBytes 1 3 7 0xC4 false 4 0 0 0 0 0 0 [] [] }
theorem test_hyp_Outbound_response : ∃ m o, (answered.port 0).frontResp = some m ∧ answered.answeredBy 0 m = some o ∧
    (respFields m.bytes).isSome = true ∧ o.issuer = .abandoned ∧ answered.delivers 0 = true ∧ answered.inputsGo = true ∧
    (answered.port 0).openEnded = true ∧ ∀ x ∈ answered.fabric.stalled, x.id ≠ o.id :=
  ⟨_, _, rfl, rfl, by decide +kernel⟩
/-- An abandoned request waits for a node ID. -/
def unnamed : State :=
  { linked with fabric := { linked.fabric with
      nodeIds := [(1, none)], outbound := linked.fabric.outbound.map fun (x : OutReq) => { x with port := none, sent := false, dst := 9 }
      bindings := [{ ep := 9, cert := peerCert, chain := [[1, 2]], ports := [(1, 2)] }] } }
theorem test_hyp_Outbound_waiting : (unnamed.fabric.outbound.find? fun x => x.id == 1 && unnamed.awaitsId x).map (·.issuer) =
    some .abandoned ∧ unnamed.inputsGo = true := by decide +kernel
theorem test_hyp_Outbound : (linked.port 0).mode = .up ∧ (linked.port 0).hasSession = true ∧ linked.inputsGo = true ∧
    (linked.fabric.outbound.find? fun x => x.port == some 0 && x.tag == 4 && x.sent && (linked.port 0).mode != .replay &&
      (linked.port 0).mode != .hold).map (·.issuer) = some .abandoned ∧ linked.fabric.stalled = [] ∧
    (linked.sync.waits.find? (·.id == 1)).map (·.phase) = some (.pending .ok) ∧
    (linked.sync.waits.find? (·.id == 1)).bind (·.target) = some (.endpoint 7 2 3) ∧ linked.mayAddress 0 = true ∧
    (linked.sync.waits.find? (·.id == 2)).bind (·.target) = some (.doorbell 2 1) ∧ linked.boundOn 7 0 = true ∧
    (linked.port 0).maySend = true ∧ (linked.port 0).openEnded = true ∧
    (linked.port 0).room ⟨2, 3, .notify 1 3 7 5 0 (notifySlot 3 2 .ok false)⟩ = true ∧ (linked.range 2).isSome = true ∧
    ((linked.updPort 0 fun v => { v with mode := .doze }).port 0).mode = .doze ∧
    (linked.updPort 0 fun v => { v with mode := .doze }).mayAddress 0 = true := by decide +kernel

theorem test_hyp_Queues : linked.hostServed = true ∧ linked.power.node = .ready ∧ (linked.range 2).isSome = true ∧
    linked.hostSees 0x10 = true ∧ linked.queueFrozen 2 = false ∧ ((linked.queue 2).bell 8 1).2 = .ok ∧
    (busy.runOf 2 0).map (·.phase) = some .running ∧ (busy.copies 2 0).isSome = true ∧ busy.inputsGo = true ∧
    ((busy.copies 2 0).map fun c => (busy.mustRest clsCopy c, (busy.copyWork 2 0 c).isSome)) = some (false, true) := by decide +kernel
/-- A FILL runs on the one copy engine, and another tenant's class has a command waiting with less time. -/
def owing : State :=
  { busy with
    jny.inForce := some { smallJoinery with
      slices := [{ slice := 0, mask := 0x3F }], tenants := [tenantOne, { tenantOne with id := 2 }]
      queues := [oneQueue 2 0, { oneQueue 6 0 with tenant := 2 }] }
    queues := busy.queues ++ [(6, { tail := 1 })], shares.vtime := [(shareKey 0 1, 5)] }
theorem test_hyp_Quantum : (owing.inputOf (.quantumExpiry 2 0)).owed 0 1 = true ∧ owing.inputsGo = true ∧
    (owing.runOf 2 0).map (·.phase) = some .running ∧ (owing.range 2).map (·.cls) = some 0 := by decide +kernel
theorem test_hyp_QuantumSieve : let s := sieving 0x70000000 { start := some (3, 0), win := 2 }
    (s.runOf 3 0).map (fun c => cmdCtx c.bytes) = some 0 ∧ (s.range 3).map (·.cls) = some 1 ∧ s.inputsGo = true ∧
    (s.ctx 0).phase = .running ∧ (s.ctx 0).start = some (3, 0) ∧ (s.ctx 0).win ≠ 0 := by decide +kernel
theorem test_hyp_Complete : let s := runOn seen 2 (copyCmd 2) .ended
    (s.runOf 2 0).map (·.phase) = some .ended ∧ s.inputsGo = true ∧ (s.range 2).map (fun r => (r.ring, r.slotAt 2 0)) = some (0x10, 131072) ∧
    s.counterFrozen 0 = false ∧ s.livePlaces 0x10 2 ≠ [] := by decide +kernel
theorem test_hyp_Paused : let s : State := { seen with queues := [(2, { tail := 1, dispatch := 1, running := [
      { index := 0, bytes := copyCmd 2, slots := 1, engine := 0, phase := .running, preemptReq := true }] })] }
    (s.copies 2 0).map (fun c => (c.stop, c.pauseReq, c.preemptReq)) = some (none, false, true) ∧ s.dbg.engReq = [] := by decide +kernel

theorem test_hyp_Copies : ∀ op : Fin 9, op.val ≠ 1 → ((busyWith op.val).actor 2 0 clsCopy op.val).map
    (fun c => ((busyWith op.val).mustRest clsCopy c, c.progress, c.gens)) = some (false, 0, []) := by decide +kernel

theorem test_hyp_Fill : ((busyWith 2).actor 2 0 clsCopy 2).map (fun c => (c.progress, c.status, lengthAt c.bytes 40,
      poolOffset c.bytes 16)) = some (0, .ok, 128, 64) ∧ (busyWith 2).hold.snapshots = [] ∧
    (busyWith 2).livePlaces 0x10 0 ≠ [] := by decide +kernel

theorem test_hyp_Alu : (sieving 0x04622000 {}).stands ⟨0, 0⟩ .aluAdd = true ∧ (sieving 0x0462000E {}).stands ⟨0, 0⟩ .aluPopcnt = true ∧
    fC ((sieving 0x0462000E {}).wordAt ⟨0, 0⟩) = 0 := by decide +kernel

theorem test_hyp_Imm : (sieving 0x08620005 {}).stands ⟨0, 0⟩ .addi = true ∧ (sieving 0x18620005 {}).stands ⟨0, 0⟩ .shiShl = true ∧
    wf ((sieving 0x18620005 {}).wordAt ⟨0, 0⟩) 15 8 = 0 ∧ (sieving 0x1C630005 {}).stands ⟨0, 0⟩ .ldi = true ∧
    fB ((sieving 0x1C630005 {}).wordAt ⟨0, 0⟩) = 3 ∧ (sieving 0x40620004 {}).stands ⟨0, 0⟩ .beq = true ∧
    (sieving 0x58600004 {}).stands ⟨0, 0⟩ .jal = true ∧ fB ((sieving 0x58600004 {}).wordAt ⟨0, 0⟩) = 0 ∧
    (sieving 0x5C020000 {}).stands ⟨0, 0⟩ .jr = true ∧ ((sieving 0x5C020000 {}).ctx 0).reg 2 &&& ~~~(0xFFFC : W64) = 0 := by decide +kernel

theorem test_hyp_Scratch : (sieving 0x60600008 {}).stands ⟨0, 0⟩ .sld = true ∧ (sieving 0x64600008 {}).stands ⟨0, 0⟩ .sst = true ∧
    (((sieving 0x60600008 {}).ctx 0).reg (fB ((sieving 0x60600008 {}).wordAt ⟨0, 0⟩)) + fSimm ((sieving 0x60600008 {}).wordAt ⟨0, 0⟩)).toNat = 8 := by decide +kernel
theorem test_hyp_SysRegs : (sieving 0x68600007 {}).stands ⟨0, 0⟩ .mfsr = true ∧ (sieving 0x6C020007 {}).stands ⟨0, 0⟩ .mtsr = true ∧
    (((sieving 0x6C020007 {}).ctx 0).setSysReg 7 5).calm = true := by decide +kernel
theorem test_hyp_Control : (sieving 0x70000000 {}).stands ⟨0, 0⟩ .yieldOp = true ∧ (sieving 0x70000000 {}).sieveOwed 0 = false ∧
    (sieving 0x74000010 {}).stands ⟨0, 0⟩ .window = true ∧ wf ((sieving 0x74000010 {}).wordAt ⟨0, 0⟩) 8 0 = 16 ∧
    (sieving 0x7C000000 { depth := 1, ie := false, saved := [none] }).stands ⟨0, 0⟩ .tret = true ∧
    (sieving 0x80600000 { start := some (3, 0) }).stands ⟨0, 0⟩ .halt = true ∧
    ((sieving 0x80600000 { start := some (3, 0) }).runOf 3 0).isSome = true ∧
    (sieving 0x80600000 {}).alone 0 = true := by decide +kernel
theorem test_hyp_YieldOwed : shared.stands ⟨0, 0⟩ .yieldOp = true ∧ (shared.ctx 1).mayRun = true ∧
    shared.vtime 1 (shared.ctx 1).tenant ≤ shared.vtime 1 (shared.ctx 0).tenant ∧
    (shared.ctxs.all fun e => e.2.dueInterrupt.isNone) = true ∧ (({} : Ctx).dueInterrupt).isNone = true := by decide +kernel

theorem test_hyp_Traps : (sieving 0x78000007 {}).stands ⟨0, 0⟩ .trap = true ∧ wf ((sieving 0x78000007 {}).wordAt ⟨0, 0⟩) 25 16 = 0 ∧
    kindOf ((sieving 0x00000000 {}).wordAt ⟨0, 0⟩) = none ∧ (sieving 0x00000000 {}).executes 0 = true ∧
    ((sieving 0x00000000 {}).ctx 0).calm = true ∧ (sieving 0x60600001 {}).stands ⟨0, 0⟩ .sld = true ∧
    (sieving 0x78000007 { tm := true, tsp := 128 }).stands ⟨0, 0⟩ .trap = true ∧
    (sieving 0x78000007 { depth := 1, start := some (3, 0) }).stands ⟨0, 0⟩ .trap = true := by decide +kernel

theorem test_hyp_Pool : (sieving 0x84640000 {}).standsMem ⟨0, 0⟩ .pld = true ∧ poolOf (((sieving 0x84640000 {}).ctx 0).reg 4) = some (0x10, 64) ∧
    (sieving 0x84640000 {}).memFault 1 0x10 64 8 = none ∧ ((sieving 0x84640000 {}).readRange 0x10 64 8).2.bad = none ∧
    (sieving 0x88640000 {}).standsMem ⟨0, 0⟩ .pst = true ∧ ((sieving 0x88640000 {}).claimRange 0x10 64 8).isSome = true := by decide +kernel
theorem test_hyp_PldPoisoned : (({ sieving 0x84640000 {} with dram.poison := [(0x10 * 2 ^ 34 + 1, true)] } : State).readRange 0x10 64 8).2.bad.isSome = true := by decide +kernel
theorem test_hyp_Tiles : (sieving 0xA000A000 {}).stands ⟨0, 0⟩ .tcfg = true ∧ tClean ((sieving 0xA000A000 {}).wordAt ⟨0, 0⟩) true true true 0 = true ∧
    (shapeOf (((sieving 0xA000A000 {}).ctx 0).reg 5)).fault = none ∧ ((sieving 0xA000A000 {}).ctx 0).reg 5 &&& ~~~tcfgMask = 0 ∧
    (sieving 0xA4000000 {}).stands ⟨0, 0⟩ .trelTiles = true ∧ (sieving 0xA4000001 {}).stands ⟨0, 0⟩ .trelAccumulators = true ∧
    tClean ((sieving 0xA4000001 {}).wordAt ⟨0, 0⟩) true true false 1 = true ∧
    (sieving 0xA8008000 { tiles := [(0, some tileA)] }).standsMem ⟨0, 0⟩ .tld = true ∧
    (sieving 0xAC008000 { tiles := [(0, some tileA)] }).standsMem ⟨0, 0⟩ .tst = true ∧
    (sieving 0xA8008000 {}).memFault 1 0x10 64 tileA.shape.size = none := by decide +kernel

theorem test_hyp_Score : (sieving 0xB0004000 tiled).stands ⟨0, 0⟩ .tscoreTile = true ∧ tClean ((sieving 0xB0004000 tiled).wordAt ⟨0, 0⟩) true true true 15 = true ∧
    ((sieving 0xB0004000 tiled).ctx 0).span 0 1 = some [tileA] ∧ ((sieving 0xB0004000 tiled).ctx 0).tile 1 = some tileA ∧
    ((sieving 0xB0004000 tiled).ctx 0).reg 2 = 1 := by decide +kernel
theorem test_hyp_Contiguous : (sieving 0xB0010001 keyed).standsMem ⟨0, 0⟩ .tscoreContiguous = true ∧
    (sieving 0xB0020002 keyed).standsMem ⟨0, 0⟩ .tscoreIndexed = true ∧ (keyed.listFor true 1 2).isSome = true ∧
    keyed.span 0 1 = some [tileA] ∧ (sieving 0xB0010001 keyed).memFault 1 0x10 0 tileA.shape.record = none ∧
    ((sieving 0xB0010001 keyed).readRange 0x10 0 tileA.shape.record).2.bad = none := by decide +kernel
theorem test_hyp_TopK : (sieving 0xB4008000 listed).standsMem ⟨0, 0⟩ .ast = true ∧ listed.accSpan 0 1 = some (accA, accA.data) ∧
    (sieving 0xB800C000 listed).stands ⟨0, 0⟩ .topkSelect = true ∧ (listed.listFor false 1 1).isSome = true ∧
    (sieving 0xB8010001 listed).standsMem ⟨0, 0⟩ .topkMerge = true ∧ (sieving 0xB8008002 listed).standsMem ⟨0, 0⟩ .topkDrain = true ∧
    (sieving 0xB8000003 listed).stands ⟨0, 0⟩ .topkClear = true ∧ listed.topk.map (fun x => x.drain.length) = some 8 := by decide +kernel

theorem test_hyp_Xmov : (sieving 0xBC004000 { tiles := [(0, some tileA)], regs := [(2, 1)] }).stands ⟨0, 0⟩ .xmov = true ∧
    ((sieving 0xBC004000 { tiles := [(0, some tileA)], regs := [(2, 1)] }).ctx 8).tenant = 1 ∧
    (sieving 0xBC004000 {}).ctxFrozen 8 = false ∧
    ({ (sieving 0xBC004000 {}).ctx 8 with xmovPend := true } : Ctx).calm = true := by decide +kernel
theorem test_hyp_Sync : (sieving 0xC0611800 {}).stands ⟨0, 0⟩ .sadd = true ∧ fFunc ((sieving 0xC0611800 {}).wordAt ⟨0, 0⟩) = 0 ∧
    (sieving 0xC4611800 {}).stands ⟨0, 0⟩ .sset = true ∧ (sieving 0xC8610000 {}).stands ⟨0, 0⟩ .sread = true ∧
    (sieving 0xCC610000 {}).stands ⟨0, 0⟩ .swait = true ∧ (sieving 0xCC610000 {}).inputsGo = true ∧
    ((sieving 0xCC611800 {}).counterOp 5 (· == 1) (.wait 9 none (.context 0))).2.registered = true := by decide +kernel
theorem test_hyp_ContextRows : blockedOn.gatesHold = false ∧ (blockedOn.ctx 0).phase = .blocked ∧ ((blockedOn.ctx 0).long.bind (·.wait)) = some 3 ∧
    ((blockedOn.sync.waits.find? (·.id == 3)).map (·.phase)) = some (.pending .ok) ∧ blockedOn.engineRuns 0 = true ∧
    ((sieving 0 { ttimer := 1 }).ctx 0).calm = true ∧
    ((sieving 0 { overrun := true, ie := false, start := some (3, 0) }).ctx 0).overrun = true := by decide +kernel
theorem test_hyp_Unit : ∃ u y, tldStep (sieving 0xA8048000 twoTiles) ((sieving 0xA8048000 twoTiles).ctx 0) 0xA8048000 = .unit u y ∧
    y.phase = .running ∧ ({ y with long := none } : Ctx).calm = true := ⟨_, _, rfl, by decide +kernel, by decide +kernel⟩

theorem test_hyp_SieveCommands : ∀ op : Fin 4, ((sieveWith op.val).actor 3 0 clsSieve op.val).map
      (fun c => ((sieveWith op.val).mustRest clsSieve c, c.phase)) = some (false, .dispatched) ∧ (sieveWith op.val).engineRuns 0 = false ∧
    ((sieveWith op.val).ctx 0).halted = false ∧ (sieveWith op.val).dbg.engHalt = [] ∧
    (∀ n : Fin 8, n.val ≠ 0 → ((sieveWith op.val).ctx n.val).mayRun = false) := by decide +kernel

theorem test_hyp_LexCommands : ∀ op : Fin 12, ((lexWith op.val).actor 4 0 clsLexicon op.val).map
    (fun c => ((lexWith op.val).mustRest clsLexicon c, c.gens)) = some (false, []) := by decide +kernel
theorem test_hyp_LexStream : ((lexWith 5).stream 1).isOpen = true ∧ (lexWith 5).streamFrozen 1 = false ∧
    (lexWith 8).lexStop 1 (lexCmd 8) = none ∧ ((lexWith 8).cmdGrammar 1 (lexCmd 8)).isSome = true := by decide +kernel

theorem test_hyp_Tokens : (lexWith 6).lexStop 1 (lexCmd 6) = none ∧ ((lexWith 6).dict 1 0).isSome = true ∧
    ((lexWith 6).readRange 0x10 0 8).2.mask.findIdx? id = none ∧ (lexWith 7).lexStop 1 (lexCmd 7) = none ∧
    (lexWith 7).windowsFault 1 ((lexWith 7).stream 1).chans = none := by decide +kernel

/-- A lexicon request, next at port 0, in the state with the stream. -/
def lexAsked (op : Nat) : State := linkedLex.asks op (reqLex op)
theorem test_hyp_FabricLex : (lexAsked 0x20).admits (.fabricTokenize (reqLex 0x20)) 0x20 (reqLex 0x20) = true ∧
    (lexAsked 0x21).admits (.fabricDetokenize (reqLex 0x21)) 0x21 (reqLex 0x21) = true ∧
    (lexAsked 0x23).admits (.fabricAdvance (reqLex 0x23)) 0x23 (reqLex 0x23) = true ∧
    (lexAsked 0x22).admits (.fabricMaskFetch (reqLex 0x22)) 0x22 (reqLex 0x22) = true ∧
    (lexAsked 0x24).admits (.fabricAdvanceFetch (reqLex 0x24)) 0x24 (reqLex 0x24) = true ∧
    (lexAsked 0x28).admits (.streamRead (reqLex 0x28)) 0x28 (reqLex 0x28) = true := by decide +kernel
theorem test_hyp_FabricLexGate :
    let u := (lexAsked 0x20).arrived (.fabricTokenize (reqLex 0x20)) 0x20 (reqLex 0x20)
    let v := (lexAsked 0x22).arrived (.fabricMaskFetch (reqLex 0x22)) 0x22 (reqLex 0x22)
    let w := (lexAsked 0x28).arrived (.streamRead (reqLex 0x28)) 0x28 (reqLex 0x28)
    State.lexRight true u (reqLex 0x20) = none ∧ u.streamTenant 1 = some 1 ∧ u.streamBusy 1 = false ∧
    (u.lexReady 1 fun x => u.dict 1 x.dict).toOption.isSome = true ∧ v.checkGrammar (reqLex 0x22) = none ∧
    (v.lexReady (reqLex 0x22).stream (v.reqGram (reqLex 0x22) 1)).toOption.isSome = true ∧ (w.stream 1).isOpen = true ∧
    ((w.stream 1).chans[0]?).map (·.drawer) = some 0x10 ∧ w.access { reqLex 0x28 with offset := 0 } false 0 = none := by decide +kernel

theorem test_hyp_Hold : ∀ op : Fin 4, ((holdWith op.val).actor 5 0 clsHold op.val).map
    (fun c => ((holdWith op.val).mustRest clsHold c, c.phase)) = some (false, .dispatched) ∧ (holdWith op.val).inputsGo = true := by
  decide +kernel
theorem test_hyp_HoldSet : holdSetOf ((holdWith 1).peek 0x10 64 24) = some heldSet ∧ (holdWith 1).holdCheck 1 heldSet = none ∧
    heldSet.isEmpty = false := by decide +kernel
theorem test_hyp_HoldRows : (holding.holding 5 0).isSome = true ∧ (holding.runOf 5 0).isSome = true ∧
    ((holding.holding 5 0).map fun f => holding.setQuiet f) = some true ∧ FMap.wf holding.ctxs {} = true ∧
    (held.snapshot 1 1).isSome = true ∧ ((held.snapshot 1 1).map fun x => (held.resumeCheck 1 x, (held.frozenFor x).isSome, x.digest, x.report)) =
      some (none, true, [], none) ∧ (dropped.snapshot 1 1).map dropped.evictable = some true := by decide +kernel

theorem test_hyp_Parcels : ∀ op : Fin 4, ((heldWith (op.val + 4)).actor 5 0 clsHold (op.val + 4)).map
      (fun c => ((heldWith (op.val + 4)).mustRest clsHold c, c.phase)) = some (false, .dispatched) ∧
    ((heldWith (op.val + 4)).snapshot 1 1).isSome = true ∧ (heldWith (op.val + 4)).inputsGo = true ∧
    (heldWith (op.val + 4)).outRoom 32 = true := by decide +kernel
theorem test_hyp_Export : ((heldWith 4).snapshot 1 1).map
      (fun x => (heldWith 4).exportCheck x 0 (poolDrawer (holdCmd 4) 24) (exportChain [])) = some none ∧
    byteAt (holdCmd 4) 20 % 4 = 0 ∧ ((heldWith 4).target 1 1).isSome = true ∧ (heldWith 6).sec.debug ≠ .unlocked ∧
    (heldWith 4).mayTake (parcelHeader 0 1 0 [] [] [] []) = true := by decide +kernel

/-- A transfer message, next at port 0, in a state. -/
def sentTo (s : State) (op : Nat) : State := s.asks op (reqXfer op)
theorem test_hyp_Xfer : (sentTo receiving 0x40).admits (.xferAttest (reqXfer 0x40)) 0x40 (reqXfer 0x40) = true ∧
    (sentTo receiving 0x41).admits (.xferOffer (reqXfer 0x41)) 0x41 (reqXfer 0x41) = true ∧
    (sentTo receiving 0x42).admits (.xferChunk (reqXfer 0x42)) 0x42 (reqXfer 0x42) = true ∧
    (sentTo receiving 0x43).admits (.xferCommit (reqXfer 0x43) (reqXfer 0x43).word) 0x43 (reqXfer 0x43) = true ∧
    (sentTo receiving 0x44).admits (.xferAbort (reqXfer 0x44)) 0x44 (reqXfer 0x44) = true ∧
    receiving.committed (reqXfer 0x41) = false ∧ (receiving.receiveFor (reqXfer 0x42)).isSome = true ∧
    (linked.receiveFor (reqXfer 0x44)) = none ∧
    (sentTo linked 0x44).admits (.xferAbort (reqXfer 0x44)) 0x44 (reqXfer 0x44) = true := by decide +kernel

theorem test_hyp_Sessions : demo.mgmtUp = true ∧ (demo.bureau.sessions.any (·.id == 9)) = false ∧
    demo.bureau.sessions.length < 4 ∧ (demo.bureau.sessions.any (·.id == adminMsg.session)) = true ∧
    demo.mgmtLink = true ∧ demo.addresses.contains (demo.addresses.headD []) = true ∧
    demo.bureau.addresses.contains (sub [0x20] 0 8 ++ eui64 demo.bureau.mac) = false := by decide +kernel
theorem test_hyp_SessionsFull : crowded.mgmtUp = true ∧ (crowded.bureau.sessions.any (·.id == 9)) = false ∧
    4 ≤ crowded.bureau.sessions.length := by decide +kernel
theorem test_hyp_Handshake : (crowded.bureau.sessions.find? (fun y => y.id == 4 && y.role.isNone)).isSome = true ∧
    crowded.roleFor adminHash = some .admin ∧ crowded.roleFor [7] = none ∧
    crowded.bureau.creds.find? (·.1 == adminHash) = some (adminHash, 0) ∧ crowded.bureau.creds.find? (·.1 == [7]) = none := by decide +kernel
theorem test_hyp_HandshakeRole (h : Config.sha384 derA = adminHash) : crowded.roleFor (Config.sha384 derA) = some .admin := by
  rw [h]
  decide +kernel
theorem test_hyp_HandshakeNone (h : Config.sha384 derA = zeros 48) : crowded.roleFor (Config.sha384 derA) = none := by
  rw [h]
  decide +kernel

theorem test_hyp_BureauReads : demo.hears adminMsg .admin 0x01 noBody () = true ∧ demo.inStates true true true = true ∧
    demo.power.node = .ready ∧ demo.hears (askMsg 2 []) .admin 0x02 noBody () = true ∧ demo.hears (askMsg 8 []) .admin 0x08 noBody () = true ∧
    demo.hears (msgWith 0x0F (cborBool true)) .admin 0x0F boolBody true = true ∧
    withEnroller.hears (askMsg 2 []) .enroller 0x02 noBody () = true ∧
    ({ demo with power.node := .awaitJoinery } : State).hears (askMsg 2 []) .admin 0x02 noBody () = true ∧
    demo.listens adminMsg .admin = true ∧ (msgWith 2 (cborUint 0)).read 0x02 noBody () = .bad ∧
    (askMsg 0x16 []).read 0x02 noBody () = .bad ∧ ({ session := 1, raw := [0x9F] } : BureauMsg).read 0x02 noBody () = .notCbor := by
  decide +kernel
theorem test_hyp_FaultLog : demo.hears (askMsg 3 [(1, cborUint 0), (2, cborUint 256)]) .admin 0x03 faultReadBody (0, 256) = true ∧
    demo.hears (askMsg 4 [(1, cborUint 300), (2, cborBool true)]) .admin 0x04 faultAckBody ((300 : W32).toNat, true) = true ∧
    demo.hears (askMsg 0x0D []) .admin 0x0D noBody () = true ∧
    (askMsg 3 [(1, cborUint 0), (2, cborUint 257)]).read 0x03 faultReadBody (0, 257) = .bad := by decide +kernel
-- R637, R638, chapter 18's worked example: ENROLL {1: 16, 2: 3, 3: {1: h'3082…', 2: 0}}, whose reply carries OK and body {1: 1}.
theorem test_cbor_enroll : ({ session := 1, raw := [0xA3, 1, 0x10, 2, 3, 3, 0xA2, 1, 0x42, 0x30, 0x82, 2, 0] } : BureauMsg).read 0x10 enrollBody
    ([0x30, 0x82], 0) = .asks ∧ replyItem 0x10 3 Status.ok.code [(1, cborUint 1)] = [0xA4, 1, 0x10, 2, 3, 4, 0, 5, 0xA1, 1, 1] := by decide +kernel
theorem test_hyp_RetireAsked : demo.hears (askMsg 7 [(1, cborUint 2), (2, cborUint 9)]) .admin 0x07 retireBody (2, false, 9) = true := by
  decide +kernel

/-- A LOCK request. -/
def lockMsg (action : Nat) : BureauMsg := msgWith 0x0E (cborUint action)
theorem test_hyp_Locks : (∀ a : Fin 3, demo.hears (lockMsg a.val) .admin 0x0E (uintBody (· < 3)) a.val = true) ∧
    demo.inStates true true false = true ∧ demo.bureau.lock = .free ∧
    ({ demo with bureau.lock := .host } : State).hears (lockMsg 2) .admin 0x0E (uintBody (· < 3)) 2 = true ∧ demo.ringRoom = true ∧
    ({ demo with bureau.lock := .session 77 } : State).hears (lockMsg 1) .admin 0x0E (uintBody (· < 3)) 1 = true ∧
    (lockMsg 1).session ≠ 77 := by decide +kernel

/-- A REVOKE of the entry with hash `h`. -/
def revokeMsg (h : List Byte) : BureauMsg := msgWith 0x11 (cborBytes h)
theorem test_hyp_Revoke : demo.hears (revokeMsg (List.replicate 48 3)) .admin 0x11 (bytesBody (·.length == 48)) (List.replicate 48 3) = true ∧
    demo.hears (revokeMsg adminHash) .admin 0x11 (bytesBody (·.length == 48)) adminHash = true ∧
    demo.inStates true true false = true ∧
    ((demo.bureau.creds.filter (·.1 != List.replicate 48 3)).any (·.2 == 0)) = true ∧
    (demo.bureau.sessions.any fun x => x.id == adminMsg.session && x.cert == List.replicate 48 3) = false ∧
    (adminHash, 0) ∈ demo.bureau.creds ∧
    ((demo.bureau.creds.filter (·.1 != adminHash)).any (·.2 == 0)) = false := by decide +kernel
theorem test_hyp_RevokeOwn : twoAdmins.hears (revokeMsg adminHash) .admin 0x11 (bytesBody (·.length == 48)) adminHash = true ∧
    twoAdmins.inStates true true false = true ∧
    ((twoAdmins.bureau.creds.filter (·.1 != adminHash)).any (·.2 == 0)) = true ∧
    (twoAdmins.bureau.sessions.any fun x => x.id == adminMsg.session && x.cert == adminHash) = true := by decide +kernel

/-- An ENROLL of an empty certificate. -/
def enrollMsg (role : Nat) : BureauMsg := askMsg 0x10 [(1, cborBytes []), (2, cborUint role)]
theorem test_hyp_Enroll : noCreds.hears (enrollMsg 1) .admin 0x10 enrollBody ([], 1) = true ∧ noCreds.inStates true true false = true ∧
    (noCreds.bureau.creds.any (·.1 == Config.sha384 [])) = false ∧ noCreds.bureau.creds.length < 16 := by decide +kernel
theorem test_hyp_EnrollTwice :
    (oneCred.hears (enrollMsg 0) .admin 0x10 enrollBody ([], 0) = true ∧ oneCred.inStates true true false = true) ∧
    (oneCred.bureau.creds.any (·.1 == Config.sha384 [])) = true := by
  constructor
  · decide
  · simp [oneCred]
theorem test_hyp_JoineryKey :
    ({ demo with power.node := .awaitJoinery } : State).hears (msgWith 0x12 (cborBytes (List.replicate 97 4))) .admin 0x12
      (bytesBody (·.length == 97)) (List.replicate 97 4) = true ∧
    demo.jny.everOk = false ∧ demo.sec.keys.length < 8 ∧ demo.ringRoom = true ∧
    withEnroller.hears (askMsg 0x13 []) .enroller 0x13 noBody () = true ∧
    withEnroller.hears (enrollMsg 1) .enroller 0x10 enrollBody ([], 1) = true ∧ withEnroller.inStates true true false = true ∧
    (withEnroller.bureau.creds.any (·.2 == 0)) = true ∧ withEnroller.ringRoom = true := by decide +kernel

/-- A TOKEN of the test's token. -/
def tokenMsg : BureauMsg := msgWith 0x15 (cborBytes tokenBytes)
/-- The request of `tokenMsg`. -/
abbrev asksToken (s : State) : Prop := s.hears tokenMsg .admin 0x15 (bytesBody fun _ => true) tokenBytes = true
theorem test_hyp_BureauTokens : asksToken challenged ∧ challenged.inStates true true false = true ∧
    challenged.hears (askMsg 0x14 []) .admin 0x14 noBody () = true ∧
    challenged.hears (askMsg 5 [(1, cborBytes [7]), (2, cborUint 2), (3, cborArray [cborUint 0x10])]) .admin 0x05 attestBody
      ([7], 2, [0x10]) = true ∧
    challenged.ringRoom = true ∧ (goodToken 1).serial = challenged.sec.serial ∧
    some (goodToken 1).challenge = challenged.sec.challenge ∧ challenged.sec.lifecycle = .deployed ∧
    challenged.sec.debug ≠ .unlocked ∧ challenged.debugBarred = false ∧ challenged.inputsGo = true ∧
    asksToken { challenged with sec.lifecycle := .manufacture } ∧
    asksToken { challenged with power.node := .awaitJoinery } := by decide +kernel
/-- A full apply is under way: the joinery is being changed. -/
def barred : State := { challenged with jny.phase := .checking [] .host }
theorem test_hyp_TokenBarred : barred.debugBarred = true ∧ asksToken barred ∧
    barred.inStates true true false = true := by decide +kernel
theorem test_hyp_TokenNone (h : Config.coseToken tokenBytes = none) : ∀ k, Config.coseToken tokenBytes = some k →
    coseVerifies Config.serviceKeyDigest k.signed k.sig = false ∨ k.serial ≠ challenged.sec.serial ∨
      some k.challenge ≠ challenged.sec.challenge := fun k e => by
  rw [h] at e
  cases e
theorem test_hyp_Reports : let s : State := { demo with sec.reports := [{ by_ := .host, nonce := [1], scope := 0, ids := [] }] }
    s.mayReport = true ∧ s.inputsGo = true := by decide +kernel

theorem test_hyp_RegisterReads : demo.readsServed .host = true ∧ demo.readsServed .mgmt = true ∧
    ({ demo with host := {} } : State).readsServed .mgmt = true ∧ inRegisters 0x18 = true ∧ demo.serves 0x18 = true ∧
    isRs 0x38 = true ∧ demo.serves 0x38 = true ∧
    ({ demo with host.snaps := [(.host, 0x3C, 7)] } : State).host.snapOf .host 0x3C = some 7 ∧
    ({ demo with host.d3hot := true } : State).hostHeld = false ∧ demo.regsUp = true := by decide +kernel

theorem test_hyp_RegisterWrites : demo.hostServed = true ∧ bitOf (0x80000000 : W64).toNat 31 = true ∧ demo.host.linkUp = true ∧
    demo.host.d3hot = false := by decide +kernel

theorem test_hyp_HostCommands : demo.hostServed = true ∧ demo.inStates true true false = true ∧ demo.bureau.lock = .free ∧
    demo.mayReport = true ∧ demo.host.attBusy = false ∧ bits (0x0120 : W64).toNat 6 0 = 32 ∧ bits (0x0120 : W64).toNat 9 8 = 1 ∧
    demo.power.node = .ready ∧ bits (0x500000000 : W64).toNat 49 32 = 5 := by decide +kernel
theorem test_hyp_Mailbox : linked.hostServed = true ∧ linked.counterTenant 5 = some 1 ∧ linked.hostReaches 1 = true ∧
    linked.counterFrozen 5 = false ∧ (linked.counter 5).sat = false ∧ linked.counterTenant 0x3FFFF = none ∧
    targetOf (FMap.getRun boxed.host.target 0 0 16) = some (.doorbell 2 1) ∧ boxed.targetOk 1 (.doorbell 2 1) = true ∧
    boxed.waitsFree 1 1 = true ∧ (boxed.counter 5).value.toNat < boxed.host.operand.toNat ∧ boxed.hostServed = true := by decide +kernel
theorem test_hyp_Settled : linked.triggers = linked.events.trig := by decide +kernel

theorem test_hyp_Bar2 : seen.barOpen = true ∧ seen.hostHeld = false ∧ seen.host.d3hot = false ∧ seen.power.node = .ready ∧
    seen.window 64 = some (0x10, 64) ∧ seen.drawerFrozen 0x10 = false ∧ seen.sweeping 0x10 = false ∧
    seen.tagOk 0x10 1 = true ∧ seen.poisonBit 0x10 1 = false ∧ seen.livePlaces 0x10 0 ≠ [] ∧ seen.inputsGo = true ∧
    seen.bench.throttled = false ∧
    ((seen.inputOf (.bar2Write 64 (zeros 64) [])).withFound []).claimRange 0x10 64 64 =
      some ((seen.inputOf (.bar2Write 64 (zeros 64) [])).withFound []) ∧ seen.window (2 ^ 33) = none ∧
    seen.host.errValid = false := by decide +kernel
theorem test_hyp_Bar2Behind : ({ demo with host.waiting := [.bar2Read 0 8 []] } : State).barOpen = true ∧
    ({ demo with host.waiting := [.bar2Read 0 8 []] } : State).hostHeld = true := by decide +kernel
theorem test_hyp_Bar2Clean : seen.undamaged := ⟨rfl, seen_uninjected⟩
theorem test_hyp_Resets : demo.host.linkUp = true ∧
    let s : State := { demo with host.perstLow := true, host.linkUp := false }
    s.host.perstLow = true ∧ s.power.tripped = false ∧ s.power.node ≠ .off ∧ s.power.node ≠ .sealBoot ∧ s.power.node ≠ .retention := by
  decide +kernel

theorem test_hyp_Tap : demo.power.part = .sp16 ∧ demo.vinPresent = true ∧ State.reset.vinPresent = false ∧ demo.dbg.busy = false ∧
    demo.dbgOff = false ∧ (0x30 : BitVec 160).extractLsb' 0 8 ∈ debugCodes ∧ (0x99 : BitVec 160).extractLsb' 0 8 ∉ debugCodes ∧
    ({ demo with power.node := .failed } : State).power.node = .failed ∧ cold.vinPresent = true ∧ cold.power.node = .off := by decide +kernel

theorem test_hyp_DebugDenied : (lockedDbg 0x30 0).commands 0x30 = true ∧ (lockedDbg 0x30 0).sec.debug ≠ .unlocked ∧
    (lockedDbg 0x01 0x100000).commands 0x01 = true ∧ inBlock 0x100000 = false ∧
    (lockedDbg 0x01 0x100000).dbg.addr.toNat = 0x100000 := by decide +kernel

theorem test_hyp_DebugTokens : (lockedDbg 0x01 0x18).commands 0x01 = true ∧ inBlock 0x18 = true ∧
    (openDbg 0x02 0x1308).obeys 0x02 = true ∧ (openDbg 0x02 0x1308).dbg.addr = 0x1308 ∧ (openDbg 0x02 0x1308).regsUp = true ∧
    (lockedDbg 0x03 0).commands 0x03 = true ∧ (lockedDbg 0x04 8).commands 0x04 = true ∧
    (lockedDbg 0x04 8).sec.challenge.isSome = true ∧ (lockedDbg 0x05 16).commands 0x05 = true ∧
    (lockedDbg 0x06 0).commands 0x06 = true ∧ bits (lockedDbg 0x06 0).dbg.data.toNat 10 0 ≠ 0 ∧
    (openDbg 0x07 0).obeys 0x07 = true ∧ (openDbg 0x07 0).debugBarred = false ∧
    ({ openDbg 0x07 0 with jny.phase := .checking [] .host } : State).debugBarred = true := by decide +kernel
theorem test_hyp_DebugUnlock : (goodToken 1).serial = (lockedDbg 0x06 0).sec.serial ∧
    some (goodToken 1).challenge = (lockedDbg 0x06 0).sec.challenge ∧ (lockedDbg 0x06 0).sec.lifecycle = .deployed ∧
    (lockedDbg 0x06 0).sec.debug ≠ .unlocked ∧ (lockedDbg 0x06 0).debugBarred = false ∧
    bits ({ lockedDbg 0x06 0 with dbg.data := 0, sec.lifecycle := .manufacture } : State).dbg.data.toNat 10 0 = 0 := by decide +kernel

theorem test_hyp_Detach : (openDbg 0x10 0).obeys 0x10 = true ∧ benchTarget (openDbg 0x10 0).dbg.target.toNat = some .A ∧
    (openDbg 0x10 0).bench.role .A = .active ∧ (openDbg 0x10 0).gatesHold = false ∧ (openDbg 0x10 0).fullApplyOn = false ∧
    (openDbg 0x10 0).bench.spare = some .C ∧ (openDbg 0x10 0).bench.claim ≠ lastClaim ∧
    ({ openDbg 0x10 0 with bench.detach := some .A } : State).obeys 0x10 = true ∧
    ({ openDbg 0x10 0 with bench.roleC := .retired } : State).bench.spare = none ∧
    ({ openDbg 0x10 0 with dbg.target := 2 } : State).bench.role .C = .spare ∧ (openDbg 0x10 0).ringRoom = true := by decide +kernel
theorem test_hyp_Core : coreDbg.obeys 0x13 = true ∧ coreDbg.bench.role .C = .retired ∧
    benchTarget coreDbg.dbg.target.toNat = some .C ∧ coreSelector coreDbg.dbg.addr.toNat = true ∧
    (coreDbg.bench.core .C).words.get coreDbg.dbg.addr.toNat none = some 7 ∧ (coreDbg.bench.core .C).running = false := by decide +kernel

theorem test_hyp_DebugContexts : (openDbg 0x20 0).obeys 0x20 = true ∧ ctxTarget (openDbg 0x20 0).dbg.target.toNat = 0 ∧
    0 < (openDbg 0x20 0).power.part.sieves * 8 ∧ ((openDbg 0x20 0).ctx 0).phase = .idle ∧
    (haltDbg 0x20 { phase := .running }).obeys 0x20 = true ∧ (haltDbg 0x21 { phase := .ready, halted := true }).obeys 0x21 = true ∧
    ((haltDbg 0x21 { phase := .ready, halted := true }).ctx 0).halted = true ∧
    ctxSel (openDbg 0x23 0x200).dbg.addr.toNat = .pc ∧
    (((openDbg 0x23 0x200).ctx 0).inspect 0 .pc).isSome = true ∧ (((openDbg 0x24 0x200).ctx 0).poke 4 .pc).isSome = true := by decide +kernel
theorem test_hyp_DebugEngines : (openDbg 0x28 0).engTarget = some (0, 0) ∧ (openDbg 0x28 0).engineWorks 0 0 = false ∧
    (openDbg 0x28 0).obeys 0x28 = true ∧ ({ busy with dbg.busy := true, dbg.cmd := 0x28, sec.debug := .unlocked } : State).obeys 0x28 = true ∧
    busy.engineWorks 0 0 = true := by decide +kernel
theorem test_hyp_DebugMemory : ({ openDbg 0x30 64 with dbg.target := 0x10 } : State).memCheck = none ∧
    ({ openDbg 0x31 64 with dbg.target := 0x10 } : State).memCheck = none ∧
    ((({ openDbg 0x31 64 with dbg.target := 0x10 } : State).inputOf .memWrite).claimRange 0x10 64 8).isSome = true := by decide +kernel

theorem test_hyp_Doorbell : linked.hostServed = true ∧ linked.power.node = .ready ∧
    (linked.range 2).map (fun r => linked.hostSees r.ring) = some true ∧ linked.queueFrozen 2 = false := by decide +kernel
theorem test_hyp_DoorbellRows : (({} : Queue).bell 8 3).1.tail = 3 ∧ (({} : Queue).bell 8 9).2 = .range ∧
    (({} : Queue).bell 8 0x80000000).2 = .ok ∧ (({} : Queue).bell 8 0x7FFFFFFF).2 = .range := by decide +kernel

theorem test_hyp_Step : ({ demo with pending := [.ipv4Frame] } : State).pending = Instr.ipv4Frame :: [] ∧ demo.pending = [] ∧
    demo.nextHeld = none ∧ ({ demo with bench.heldIn := [.challengeExpiry] } : State).nextHeld = some .challengeExpiry ∧
    demo.power.node ≠ .off ∧ State.reset.power.node = .off ∧ State.reset.nextHeld = none ∧ demo.fabric.parked = [] := by decide +kernel



theorem test_hyp_Sound : demo.Sound :=
  ⟨show Memory.wf demo.mem = true by decide +kernel, fun h => absurd rfl h⟩



/-- In MANUFACTURE a token of action 2 changes the lifecycle. -/
def fresh : State := { challenged with sec.lifecycle := .manufacture }
theorem test_hyp_Lifecycle (h1 : Config.coseToken tokenBytes = some (goodToken 2))
    (h2 : coseVerifies Config.serviceKeyDigest (goodToken 2).signed (goodToken 2).sig = true) :
    ∃ k, Config.coseToken tokenBytes = some k ∧ coseVerifies Config.serviceKeyDigest k.signed k.sig = true ∧ k.action = 2 ∧
      k.serial = fresh.sec.serial ∧ some k.challenge = fresh.sec.challenge ∧ fresh.sec.lifecycle = .manufacture ∧
      asksToken fresh ∧ fresh.inStates true true false = true ∧ fresh.ringRoom = true :=
  ⟨_, h1, h2, by decide +kernel⟩

/-! ## Clauses that need states of their own -/

/-- Slot 0 of queue 2 holds a FILL of tenant 1. -/
def queued : State :=
  { demo with
    mem := FMap.setRun 0 [] (addr 0x10 131072) (splice (splice (copyCmd 2) 2 (leBytes 1 1)) 4 (leBytes 2 1))
    dram.tags := [(lineKey 0x10 2048, some 0)], queues := [(2, { tail := 1 })] }
theorem test_hyp_Dispatch :
    let v := (queued.inputOf (.commandDispatch 2 [])).withFound []
    let x := v.readRange 0x10 131072 64
    queued.inputsGo = true ∧ v.isDraining = false ∧ (v.range 2).map (fun r => (r.ring, r.slotAt 2 0, v.myTurn 2 r)) = some (0x10, 131072, true) ∧
    (v.queue 2).running = [] ∧ x.2.bad = none ∧ takenSlots x.2.data = 1 ∧
    v.dispatchable 2 x.2.data 1 = true ∧ x.1.dispatchCheck 0 1 x.2.data (x.1.dynLength 0 1 x.2.data) = none ∧
    x.1.mustWait 0 x.2.data = false ∧ (x.1.pickEngine 0 x.2.data).isSome = true := by decide +kernel
/-- Slot 0 of queue 2 holds a COPY to a drawer that does not exist. -/
def misqueued : State :=
  { queued with mem := FMap.setRun 0 [] (addr 0x10 131072) (splice (slotOf 1 1 [(16, 7, poolPtr 0x77 64), (24, 7, poolPtr 0x10 4096), (40, 5, 64)])
      2 (leBytes 1 0)) }
theorem test_hyp_DispatchRefused :
    let v := (misqueued.inputOf (.commandDispatch 2 [])).withFound []
    let x := v.readRange 0x10 131072 64
    misqueued.inputsGo = true ∧ v.isDraining = false ∧ x.2.bad = none ∧ takenSlots x.2.data = 1 ∧ v.dispatchable 2 x.2.data 1 = true ∧
    (x.1.dispatchCheck 0 1 x.2.data (x.1.dynLength 0 1 x.2.data)).isSome = true := by decide +kernel

theorem test_hyp_GrammarLoad : gramCheck smallGrammar 88 = 0 := by decide +kernel

/-- An output of a bench for input 7. -/
def outputOf (b : BenchId) (content : Nat) : BenchOut := { bench := b, claim := 1, input := 7, index := 0, content := content }
/-- The spare computes what the benches dispute. -/
def shadowed : State :=
  { demo with
    bench.inputs := 7, bench.takenA := 7, bench.takenB := 7, bench.takenC := 7
    bench.dispute := some { gate := 3, input := 7, index := 0, outA := some (outputOf .A 5), outB := some (outputOf .B 6)
                            phase := .shadow, late := none } }
theorem test_hyp_Shadow : shadowed.bench.made (outputOf .C 5) = true ∧ shadowed.bench.spare = some (outputOf .C 5).bench ∧
    shadowed.bench.dispute.map (fun d => (d.phase, d.gate, d.input, d.index)) = some (.shadow, 3, 7, 0) ∧
    shadowed.bench.dispute.bind (·.outA) = some (outputOf .A 5) ∧ shadowed.bench.dispute.bind (·.outB) = some (outputOf .B 6) ∧
    (outputOf .B 6).bench ≠ (outputOf .C 5).bench := by decide +kernel

/-- A GATHER, a SCATTER or a SWEEP, and a COPY to endpoint 7. -/
def unitCmd (op : Nat) : List Byte :=
  if op = 1 then slotOf 1 1 [(16, 7, poolPtr 0x10 64), (24, 7, poolPtr 0x10 4096), (32, 2, 0x8007), (40, 5, 128)]
  else slotOf op 1 [(16, 7, poolPtr 0x10 64), (24, 7, poolPtr 0x10 4096), (32, 7, poolPtr 0x10 8192),
    (40, 5, if op = 8 then 64 else 1), (48, 4, 8)]
/-- It runs. -/
def unitWith (op : Nat) : State := runOn seen 2 (unitCmd op) .running
theorem test_hyp_Units :
    ((unitWith 1).actor 2 0 clsCopy 1).map (fun c => (copyRemote c.bytes, c.failed, c.sent, c.progress)) = some (true, none, 0, 0) ∧
    ((unitWith 5).actor 2 0 clsCopy 5).map (fun c => (c.acc, lengthAt c.bytes 40)) = some ([], 1) ∧
    ((unitWith 5).claimRange 0x10 4096 8).isSome = true ∧ ((unitWith 5).readIndex (unitCmd 5) 0).2.1 = some 0 ∧
    (unitWith 5).within (0x10, 64, 8) = true ∧ ((unitWith 6).readIndex (unitCmd 6) 0).2.1 = some 0 ∧
    ((unitWith 8).withFound []).actor 2 0 clsCopy 8 ≠ none := by decide +kernel

/-- The snapshot, with a drawer of one block. -/
def smallSnap : Snapshot := { snapOne with drawers := snapOne.drawers.map fun d => { d with size := 1, shared := [0] } }
/-- The header of a parcel in clear of 80 bytes of body. -/
def clearHeader : List Byte := parcelHeader 0 5 80 (zeros 16) (zeros 48) (zeros 97) (zeros 48)
/-- A RECEIVE has all of a parcel's body. -/
def received : State :=
  { receiving with hold.receives := receiving.hold.receives.map fun (x : Receive) =>
      { x with header := some clearHeader, got := 80, chunks := [(0, zeros 80)] } }
theorem test_hyp_Import (h1 : Config.parcelContent (bodyPieces clearHeader (zeros 80)) = some smallSnap)
    (h2 : bodyIntact clearHeader (bodyPieces clearHeader (zeros 80)) = true) :
    headerOk clearHeader 80 = true ∧ (heldWith 5).mayTake clearHeader = true ∧
    (heldWith 5).target 1 1 = some (frozenBy (some 1)) ∧
    (heldWith 5).importCheck (frozenBy (some 1)) clearHeader (zeros 80) = .ok smallSnap ∧
    (received.receiveFor (reqXfer 0x43)).map (fun x => (x.header.map hdrLength == some x.got, joined x.chunks)) = some (true, some (zeros 80)) ∧
    received.target (received.queueTenant 5) 1 = some (frozenBy (some 1)) ∧
    received.importCheck (frozenBy (some 1)) clearHeader (zeros 80) = .ok smallSnap := by
  refine ⟨by decide +kernel, by decide +kernel, by decide +kernel, ?_, by decide +kernel, by decide +kernel, ?_⟩
  · unfold State.importCheck
    dsimp only
    rw [h1, h2]
    decide +kernel
  · unfold State.importCheck
    dsimp only
    rw [h1, h2]
    decide +kernel
theorem test_hyp_Unlocked : ∀ op : Fin 2, (({ heldWith (6 + op.val) with sec.debug := .unlocked } : State).actor 5 0 clsHold
    (6 + op.val)).map (·.phase) = some .dispatched := by decide +kernel

end Sys2Proof
end

/-! The registers of BAR0: when an access is served, what a read gives and a write sets by the register's access code, and the
arming of MSI-X vectors. -/

namespace Sys2Proof.Machine

/-! ## Which accesses of BAR0 are served (R10, R665, R668, R671) -/

/-- What it is for the host port to serve an access of BAR0 at once. -/
theorem State.hostServed_iff {s : State} : s.hostServed = true ↔
    s.host.linkUp = true ∧ s.regsUp = true ∧ s.hostHeld = false ∧ s.host.d3hot = false ∧ s.inputsGo = true := by
  simp [State.hostServed, and_assoc]

/-- Registers are up wherever Bureau sessions are served. -/
theorem State.regsUp_of_mgmtUp {s : State} (h : s.mgmtUp = true) : s.regsUp = true := by
  simp only [State.mgmtUp, State.regsUp, Bool.and_eq_true, Bool.or_eq_true] at h ⊢
  tauto

theorem State.regsUp_of_hostServed {s : State} (h : s.hostServed = true) : s.regsUp = true :=
  (State.hostServed_iff.1 h).2.1

theorem State.regsUp_of_readsServed {s : State} {via : Interface} (h : s.readsServed via = true) : s.regsUp = true := by
  cases via with
  | host => exact State.regsUp_of_hostServed h
  | mgmt => exact State.regsUp_of_mgmtUp (Bool.and_eq_true_iff.1 h).1

theorem State.not_tripped_of_regsUp {s : State} (h : s.regsUp = true) : s.power.tripped = false := by
  simp only [State.regsUp, Bool.and_eq_true, Bool.not_eq_true'] at h
  exact h.1

@[simp] theorem State.regsUp_inputOf (s : State) (c : Instr) : (s.inputOf c).regsUp = s.regsUp := by
  simp [State.regsUp, State.isIn]

@[simp] theorem State.serves_inputOf (s : State) (c : Instr) (off : Nat) : (s.inputOf c).serves off = s.serves off := by
  simp [State.serves, State.isReady, State.isIn]

/-- The node status and identification block is served whenever registers are up (R668). -/
theorem State.serves_of_inBlock {s : State} {off : Nat} (h : s.regsUp = true) (hb : inBlock off = true) : s.serves off = true := by
  simp [State.serves, h, hb]

/-- An access of a host port that serves takes its effect on the state after its delivery. -/
theorem State.hostGate_of_served {s : State} (c : Instr) (act : State → State) (h : s.hostServed = true) :
    s.hostGate c act = act (s.inputOf c) := by
  obtain ⟨hl, hr, hh, hd, hg⟩ := State.hostServed_iff.1 h
  simp [State.hostGate, State.barOpen, hl, State.not_tripped_of_regsUp hr, hh, State.deliver_of_go _ _ hg, hd]

/-- In D3hot an access is an Unsupported Request (R665). -/
theorem State.hostGate_of_d3hot {s : State} (c : Instr) (act : State → State) (hl : s.host.linkUp = true) (hr : s.regsUp = true)
    (hh : s.hostHeld = false) (hg : s.inputsGo = true) (hd : s.host.d3hot = true) :
    s.hostGate c act = (s.inputOf c).unsupported := by
  simp [State.hostGate, State.barOpen, hl, State.not_tripped_of_regsUp hr, hh, State.deliver_of_go _ _ hg, hd]

/-- A read inside BAR0 by an interface whose reads are served. -/
theorem State.bar0Read_of_served {s : State} {via : Interface} {off n : Nat} (c : Instr) (h : s.readsServed via = true)
    (hn : 1 ≤ n ∧ n ≤ 4096) (hb : off + n ≤ bar0Size) : s.bar0Read c via off n = (s.inputOf c).readServed via off n := by
  have hsize : ¬ (n = 0 ∨ 4096 < n) := by omega
  have hbar : ¬ bar0Size < off + n := by omega
  cases via with
  | host => simp only [State.bar0Read, if_neg hsize, State.hostGate_of_served _ _ h, if_neg hbar]
  | mgmt =>
    obtain ⟨hm, hg⟩ := Bool.and_eq_true_iff.1 h
    simp [State.bar0Read, if_neg hsize, hm, hbar, State.deliver_of_go _ _ hg]

/-- A write inside BAR0 by a host port that serves. -/
theorem State.bar0Write_of_served {s : State} {off n : Nat} (c : Instr) (v : W64) (h : s.hostServed = true)
    (hn : 1 ≤ n ∧ n ≤ 8) (hb : off + n ≤ bar0Size) : s.bar0Write c off n v = (s.inputOf c).writeServed off n v := by
  have hsize : ¬ (n = 0 ∨ 8 < n) := by omega
  have hbar : ¬ bar0Size < off + n := by omega
  simp only [State.bar0Write, if_neg hsize, State.hostGate_of_served _ _ h, if_neg hbar]

/-- A served read completes with what it does to the state after its delivery. -/
theorem completes_rcRead {s : State} {via : Interface} {off n : Nat} {P : State → Prop} (h : s.readsServed via = true)
    (hn : 1 ≤ n ∧ n ≤ 4096) (hb : off + n ≤ bar0Size) (hP : P ((s.inputOf (.rcRead via off n)).readServed via off n)) :
    Completes (.rcRead via off n) s P :=
  ⟨_, rfl, by rwa [State.bar0Read_of_served _ h hn hb]⟩

/-- A served write completes with what it does to the state after its delivery, whichever command brings it. -/
theorem completes_bar0Write {s : State} {c : Instr} {off n : Nat} {v : W64} {P : State → Prop}
    (hc : exec c s = .next (s.bar0Write c off n v)) (h : s.hostServed = true) (hn : 1 ≤ n ∧ n ≤ 8) (hb : off + n ≤ bar0Size)
    (hP : P ((s.inputOf c).writeServed off n v)) : Completes c s P :=
  ⟨_, hc, by rwa [State.bar0Write_of_served _ _ h hn hb]⟩

/-! ## Regions -/

/-- Register regions hold no buffer, no part of Staging, and end inside BAR0. -/
theorem region_of_inRegisters {off : Nat} (h : inRegisters off = true) :
    inBuffer off = false ∧ inStaging off = false ∧ off < 0x3800000 := by
  simp only [inRegisters, inBuffer, inStaging, Bool.or_eq_true, Bool.and_eq_true, decide_eq_true_eq, Bool.or_eq_false_iff,
    Bool.and_eq_false_iff, decide_eq_false_iff_not] at h ⊢
  omega

/-- An RS register is aligned, and both its words lie in a register region. -/
theorem region_of_isRs {off : Nat} (h : isRs off = true) :
    off % 8 = 0 ∧ inRegisters off = true ∧ inRegisters (off + 4) = true ∧ inBlock (off + 4) = inBlock off := by
  have hr : off % 8 = 0 ∧ (off < 0x2000 ∨ 0x100000 ≤ off ∧ off < 0x130000 ∨ 0x3000000 ≤ off ∧ off < 0x3800000) := by
    simp only [isRs, List.contains_cons, List.contains_nil, Bool.or_eq_true, Bool.and_eq_true, decide_eq_true_eq, beq_iff_eq,
      Bool.or_false] at h
    omega
  obtain ⟨h8, hr⟩ := hr
  refine ⟨h8, ?_, ?_, ?_⟩
  · simp only [inRegisters, Bool.or_eq_true, Bool.and_eq_true, decide_eq_true_eq]
    omega
  · simp only [inRegisters, Bool.or_eq_true, Bool.and_eq_true, decide_eq_true_eq]
    omega
  · rw [Bool.eq_iff_iff]
    simp only [inBlock, inStaging, Bool.or_eq_true, Bool.and_eq_true, decide_eq_true_eq]
    omega

/-! ## Reads of registers (R8, R669, R670) -/

section
variable {s : State} {via : Interface} {off : Nat}

theorem State.readServed_eight (hs : s.serves off = true) (hr : inRegisters off = true) (h8 : off % 8 = 0) :
    s.readServed via off 8 = (s.clearRc off).giveRead via off (leBytes 8 (s.reg off)) := by
  simp [State.readServed, hs, hr, (region_of_inRegisters hr).1, h8]

theorem State.readServed_four (hs : s.serves off = true) (hr : inRegisters off = true) (h4 : off % 4 = 0) :
    s.readServed via off 4 = (s.read4 via off).1.giveRead via off (leBytes 4 (s.read4 via off).2) := by
  simp [State.readServed, hs, hr, (region_of_inRegisters hr).1, h4]

/-- A read of a register that is neither of 4 nor of 8 bytes gives all ones and is recorded (R670). -/
theorem State.readServed_misfit {n : Nat} (hs : s.serves off = true) (hr : inRegisters off = true) (h4 : n ≠ 4) (h8 : n ≠ 8) :
    s.readServed via off n = (s.giveRead via off (List.replicate n 0xFF)).hostErr errRegister .format off false := by
  simp [State.readServed, hs, hr, (region_of_inRegisters hr).1, h4, h8]

theorem State.clearRc_of_ne (h1 : off ≠ 0x3010) (h2 : off ≠ 0x3028) : s.clearRc off = s := by
  simp [State.clearRc, h1, h2]

/-- What is given for a read goes out, or is delayed (R300); it changes nothing else. -/
theorem State.giveRead_eq (s : State) (via : Interface) (off : Nat) (b : List Byte) :
    s.giveRead via off b = if via = .host ∧ s.bench.throttled = true then
      { s with delayed := s.delayed ++ [.hostRead 0 off b false] } else s.emit (.hostRead 0 off b false) := by
  cases via <;> simp [State.giveRead, State.complete_]

@[simp] theorem State.giveRead_host (s : State) (via : Interface) (off : Nat) (b : List Byte) :
    (s.giveRead via off b).host = s.host := by
  rw [State.giveRead_eq]
  split <;> rfl

/-- A read given after a change of the host port's registers, with those put back, is the read given. -/
theorem State.giveRead_restoreHost (s : State) (h : HostPort) (via : Interface) (off : Nat) (b : List Byte) :
    { { s with host := h }.giveRead via off b with host := s.host } = s.giveRead via off b := by
  simp only [State.giveRead_eq]
  split <;> rfl

end

/-! ## Snapshots (R8, R102) -/

theorem HostPort.snapOf_dropSnap_self (h : HostPort) (via : Interface) (off : Nat) : (h.dropSnap via off).snapOf via off = none := by
  simp only [HostPort.snapOf, HostPort.dropSnap, Option.map_eq_none_iff, List.find?_eq_none, List.mem_filter]
  rintro e ⟨-, he⟩ hv
  simp [hv] at he

/-- Dropping the snapshot of one word leaves that of another. -/
theorem HostPort.snapOf_dropSnap_ne (h : HostPort) (via : Interface) {off o : Nat} (ho : o ≠ off) :
    (h.dropSnap via off).snapOf via o = h.snapOf via o := by
  simp only [HostPort.snapOf, HostPort.dropSnap, List.find?_filter]
  congr 3
  funext e
  by_cases hv : e.1 = via <;> by_cases he : e.2.1 = o <;> simp [hv, he, ho]

theorem HostPort.snapOf_takeSnap (h : HostPort) (via : Interface) (off o v : Nat) :
    (h.takeSnap via off v).snapOf via o =
      ((h.dropSnap via off).snapOf via o).or (if o = off then some (BitVec.ofNat 32 v) else none) := by
  simp only [HostPort.takeSnap, HostPort.snapOf, List.find?_append, Option.map_or]
  by_cases ho : o = off
  · simp [ho]
  · simp [ho, Ne.symm ho]

theorem HostPort.snapOf_takeSnap_self (h : HostPort) (via : Interface) (off v : Nat) :
    (h.takeSnap via off v).snapOf via off = some (BitVec.ofNat 32 v) := by
  simp [HostPort.snapOf_takeSnap, HostPort.snapOf_dropSnap_self]

/-- A snapshot of one word leaves that of another. -/
theorem HostPort.snapOf_takeSnap_ne (h : HostPort) (via : Interface) {off o : Nat} (v : Nat) (ho : o ≠ off) :
    (h.takeSnap via off v).snapOf via o = h.snapOf via o := by
  simp [HostPort.snapOf_takeSnap, HostPort.snapOf_dropSnap_ne h via ho, ho]

/-- What a 4-byte read of an RS register's low word gives, and that it changes the host port's registers alone. -/
theorem State.read4_low {s : State} {via : Interface} {off : Nat} (hr : isRs off = true) :
    (s.read4 via off).2 = s.reg off % 2 ^ 32 ∧ ∃ h : HostPort, (s.read4 via off).1 = { s with host := h } ∧
      h.snapOf via (off + 4) = some (BitVec.ofNat 32 (s.reg off / 2 ^ 32)) := by
  have h8 : off % 8 = 0 := (region_of_isRs hr).1
  have hbase : off / 8 * 8 = off := by omega
  simp only [State.read4, hbase, h8, hr, decide_true, Bool.and_self, if_true, true_and]
  refine ⟨_, rfl, ?_⟩
  split
  · rw [HostPort.snapOf_takeSnap_ne _ _ _ (by omega), HostPort.snapOf_takeSnap_self]
  · rw [HostPort.snapOf_takeSnap_self]

/-- A 4-byte read of a high word with a snapshot gives the snapshot and gives it up. -/
theorem State.read4_high {s : State} {via : Interface} {off : Nat} {v : W32} (h8 : off % 8 = 0)
    (hv : s.host.snapOf via (off + 4) = some v) :
    s.read4 via (off + 4) = ({ s with host := s.host.dropSnap via (off + 4) }, v.toNat) := by
  have h4 : (off + 4) % 8 = 4 := by omega
  simp [State.read4, h4, hv]

/-! ## The statement about reads -/

/-- Settles O46: each read is served on the state after its delivery, and answers by its register's access code. -/
theorem registersAreReadByTheirAccessCode : Obligations.RegistersAreReadByTheirAccessCode := by
  unfold Obligations.RegistersAreReadByTheirAccessCode
  refine ⟨?eight, ?overflow, ?low, ?high, ?two, ?d3hot⟩
  case eight =>
    rintro s via off u rfl hv hr h8 hs h1 h2
    have hb := (region_of_inRegisters hr).2.2
    refine completes_rcRead hv (by omega) (by unfold bar0Size; omega) ?_
    rw [State.readServed_eight (by simpa using hs) hr h8, State.clearRc_of_ne h1 h2]
  case overflow =>
    intro s via hv
    have hu := State.regsUp_of_readsServed hv
    constructor
    · refine completes_rcRead hv (by omega) (by decide) ?_
      rw [State.readServed_eight (by simpa using State.serves_of_inBlock hu rfl) rfl rfl]
      simp [State.clearRc, State.reg, State.ringReg]
    · refine completes_rcRead hv (by omega) (by decide) ?_
      rw [State.readServed_eight (by simpa using State.serves_of_inBlock hu rfl) rfl rfl]
      simp [State.clearRc, State.reg, State.ringReg]
  case low =>
    rintro s via off u rfl hv hr hs
    obtain ⟨h8, hin, -, -⟩ := region_of_isRs hr
    have hb := (region_of_inRegisters hin).2.2
    refine ⟨_, if_pos hr, ?_⟩
    rw [State.bar0Read_of_served _ hv (by omega) (by unfold bar0Size; omega),
      State.readServed_four (by simpa using hs) hin (by omega)]
    obtain ⟨hlow, h, hstate, hsnap⟩ := State.read4_low (s := s.inputOf (.rsLowRead via off)) (via := via) hr
    rw [hlow, hstate]
    refine ⟨by simpa using hsnap, ?_⟩
    simpa using State.giveRead_restoreHost (s.inputOf (.rsLowRead via off)) h via off _
  case high =>
    rintro s via off v u rfl hv hr hs hsnap
    obtain ⟨h8, -, hin, hblk⟩ := region_of_isRs hr
    have hb := (region_of_inRegisters hin).2.2
    have hs4 : s.serves (off + 4) = true := by simpa only [State.serves, hblk] using hs
    refine completes_rcRead hv (by omega) (by unfold bar0Size; omega) ?_
    rw [State.readServed_four (by simpa using hs4) hin (by omega), State.read4_high h8 (by simpa using hsnap)]
    refine ⟨by simp [HostPort.snapOf_dropSnap_self], ?_⟩
    simpa using State.giveRead_restoreHost (s.inputOf (.rcRead via (off + 4) 4)) _ via (off + 4) _
  case two =>
    intro s via hv
    refine completes_rcRead hv (by omega) (by decide) ?_
    exact State.readServed_misfit (by simpa using State.serves_of_inBlock (State.regsUp_of_readsServed hv) rfl) rfl
      (by decide) (by decide)
  case d3hot =>
    intro s off n hl hr hh hg hd h1 h2
    have hsize : ¬ (n = 0 ∨ 4096 < n) := by omega
    refine ⟨_, rfl, ?_⟩
    rw [State.bar0Read, if_neg hsize]
    exact State.hostGate_of_d3hot _ _ hl hr hh hg hd

/-! ## Writes of registers (R8, R669, R670) -/

section
variable {s : State} {off n : Nat} {v : W64}

/-- A write of Staging sets the bytes it names. -/
theorem State.writeServed_staging {i : Nat} (hr : s.regsUp = true) (h1 : 1 ≤ n) (hi : i + n ≤ 0x1000000) :
    s.writeServed (0x1000000 + i) n v =
      { s with jny.staging := FMap.setRun 0 s.jny.staging i ((leBytes 8 v.toNat).take n) } := by
  have hst : inStaging (0x1000000 + i) = true := by
    simp only [inStaging, Bool.and_eq_true, decide_eq_true_eq]
    omega
  have hs : s.serves (0x1000000 + i) = true := State.serves_of_inBlock hr (by simp [inBlock, hst])
  have hn : min n (0x2000000 - (0x1000000 + i)) = n := by omega
  simp only [State.writeServed, hs, hst, hn, stagingBase, Nat.add_sub_cancel_left, Bool.not_true, Bool.false_eq_true, if_false, if_true]

/-- A write of 4 or 8 bytes at its own alignment reaches the register. -/
theorem State.writeServed_fit (hs : s.serves off = true) (hr : inRegisters off = true)
    (hn : (n = 4 ∧ off % 4 = 0) ∨ (n = 8 ∧ off % 8 = 0)) : s.writeServed off n v = s.writeReg off n v := by
  simp only [State.writeServed, hs, hr, (region_of_inRegisters hr).2.1, if_pos hn, Bool.not_true, Bool.false_eq_true, if_false]

/-- A write of a register that is neither of 4 nor of 8 bytes is discarded and recorded (R670). -/
theorem State.writeServed_misfit (hs : s.serves off = true) (hr : inRegisters off = true) (h4 : n ≠ 4) (h8 : n ≠ 8) :
    s.writeServed off n v = s.hostErr errRegister .format off false := by
  simp [State.writeServed, hs, hr, (region_of_inRegisters hr).2.1, h4, h8]

/-- A write to a register that triggers nothing sets its fields. -/
theorem State.writeReg_field {base : Nat} (hb : off / 8 * 8 = base) (hd : off < 0x2800000)
    (hc : s.writeCommand base ⟨n, v⟩ = none) (he : base ≠ 0x1380) :
    s.writeReg off n v = s.setReg base (mergeWrite (s.reg base) off n v.toNat) := by
  have hbell : ¬ (0x2800000 ≤ off ∧ off < 0x2880000) := by omega
  simp only [State.writeReg, if_neg hbell, hb, hc, if_neg he]

/-- A write to a register that triggers a command does what the command does. -/
theorem State.writeReg_command {base : Nat} {t : State} (hb : off / 8 * 8 = base) (hd : off < 0x2800000)
    (hc : s.writeCommand base ⟨n, v⟩ = some t) : s.writeReg off n v = t := by
  have hbell : ¬ (0x2800000 ≤ off ∧ off < 0x2880000) := by omega
  simp only [State.writeReg, if_neg hbell, hb, hc]

/-- HOST_ERRCAP_CLEAR (R673). -/
theorem State.writeReg_errcap (hv : bitOf v.toNat 31 = true) :
    s.writeReg 0x1380 n v = { s with host.errValid := false } := by
  simp [State.writeReg, State.writeCommand, hv]

/-- A command register acts on an 8-byte write alone (R670). -/
theorem State.commandWrite_eight {w : HostWrite} {act : State → State} (hr : s.regsUp = true) (hw : w.size = 8) :
    s.commandWrite w off act = act s := by
  simp [State.commandWrite, hr, hw]

theorem State.commandWrite_format {w : HostWrite} {act : State → State} (hr : s.regsUp = true) (hw : w.size ≠ 8) :
    s.commandWrite w off act = s.hostErr errRegister .format off false := by
  simp [State.commandWrite, hr, hw]

theorem State.syncSubmit_format {w : HostWrite} (hr : s.regsUp = true) (hw : w.size ≠ 8) :
    s.syncSubmit w = s.hostErr errRegister .format 0x1300 false := by
  unfold State.syncSubmit State.submit
  exact State.commandWrite_format hr hw

/-- A head is set where it lies from the current one to the tail (R359, R676). -/
theorem Ring.setHead_eq (r : Ring) (h : W32) :
    r.setHead h = { r with head := if (h - r.head).toNat ≤ (r.tail - r.head).toNat then h else r.head } := by
  unfold Ring.setHead Ring.unread
  split <;> rfl

/-- The low word of a 64-bit value. -/
theorem ofNat_lowWord (v : W64) : BitVec.ofNat 32 (v.toNat % 2 ^ 32) = v.truncate 32 :=
  BitVec.eq_of_toNat_eq (by simp)

theorem State.setReg_faultHead (s : State) (x : Nat) :
    s.setReg 0x3008 x = { s with events.fault := s.events.fault.setHead (BitVec.ofNat 32 (x % 2 ^ 32)) } := by
  simp [State.setReg]

theorem State.setReg_evtHead (s : State) (x : Nat) :
    s.setReg 0x3020 x = { s with events.ring := s.events.ring.setHead (BitVec.ofNat 32 (x % 2 ^ 32)) } := by
  simp [State.setReg]

/-- The EVT_REARM words are command registers (R680). -/
theorem State.writeCommand_rearm (s : State) (i : Fin 4) (w : HostWrite) :
    s.writeCommand (0x3040 + 8 * i.val) w =
      some (s.commandWrite w (0x3040 + 8 * i.val) fun u => u.rearmWord i.val w.value.toNat) := by
  have hi := i.isLt
  have hword : (0x3040 + 8 * i.val - 0x3040) / 8 = i.val := by omega
  unfold State.writeCommand
  rw [if_neg (by omega), if_neg (by omega), if_neg (by omega), if_neg (by omega), if_neg (by omega), if_neg (by omega),
    if_pos (by omega), hword]

end

/-! ## MSI-X vectors (R679, R680) -/

@[simp] theorem State.msix_ring (s : State) (v : Nat) : (s.msix v).events.ring = s.events.ring := by
  unfold State.msix; repeat' split <;> simp

@[simp] theorem State.msix_armed (s : State) (v : Nat) : (s.msix v).events.armed = s.events.armed := by
  unfold State.msix; repeat' split <;> simp

/-- A message of an unmasked vector goes out at once, while the host link is up and not in D3hot. -/
theorem State.msix_of_unmasked {s : State} {v : Nat} (hl : s.host.linkUp = true) (hd : s.host.d3hot = false)
    (hm : s.events.masked.getLsbD v = false) : s.msix v = s.emit (.msix v) := by
  simp [State.msix, hl, hd, hm]

@[simp] theorem State.rearm_ring (s : State) (v : Nat) : (s.rearm v).events.ring = s.events.ring := by
  unfold State.rearm State.signal; repeat' split <;> simp

@[simp] theorem State.rearm_mem (s : State) (v : Nat) : (s.rearm v).mem = s.mem := by
  unfold State.rearm; split <;> simp

/-- The bit of a vector in a word of one bit for each. -/
theorem getLsbD_vectorBit {v : Nat} (u : Nat) (hv : v < 256) : ((1 : BitVec 256) <<< u).getLsbD v = decide (v = u) := by
  rw [BitVec.getLsbD_shiftLeft, show (1 : BitVec 256) = 1#256 from rfl, BitVec.getLsbD_one, Bool.eq_iff_iff]
  simp only [Bool.and_eq_true, Bool.not_eq_true', decide_eq_true_eq, decide_eq_false_iff_not]
  omega

theorem getLsbD_setVector (a : BitVec 256) {v : Nat} (u : Nat) (hv : v < 256) :
    (a ||| (1 : BitVec 256) <<< u).getLsbD v = (a.getLsbD v || decide (v = u)) := by
  rw [BitVec.getLsbD_or, getLsbD_vectorBit u hv]

theorem getLsbD_clearVector (a : BitVec 256) {v : Nat} (u : Nat) (hv : v < 256) :
    (a &&& ~~~((1 : BitVec 256) <<< u)).getLsbD v = (a.getLsbD v && !decide (v = u)) := by
  rw [BitVec.getLsbD_and, BitVec.getLsbD_not, getLsbD_vectorBit u hv, decide_eq_true hv, Bool.true_and]

/-- Signalling a vector leaves it disarmed, and the others as they were. -/
theorem State.armed_signal {s : State} {v : Nat} (u : Nat) (hv : v < 256) :
    (s.signal u).events.armed.getLsbD v = (s.events.armed.getLsbD v && !decide (v = u)) := by
  unfold State.signal
  split
  next ha => rw [State.msix_armed, getLsbD_clearVector _ _ hv]
  next ha =>
    by_cases hu : v = u
    · simp [hu, ha]
    · simp [hu]

/-- The armed vectors after a vector is armed: itself, unless an unconsumed entry of it disarms it again; the others are left. -/
theorem State.armed_rearm {s : State} {v : Nat} (u : Nat) (hv : v < 256) :
    (s.rearm u).events.armed.getLsbD v = if v = u then !s.events.ring.holds v else s.events.armed.getLsbD v := by
  unfold State.rearm
  split
  next hh =>
    rw [State.armed_signal _ hv, getLsbD_setVector _ _ hv]
    by_cases hu : v = u
    · simp [hu, hh]
    · simp [hu]
  next hh =>
    rw [getLsbD_setVector _ _ hv]
    by_cases hu : v = u
    · simp [hu, hh]
    · simp [hu]

/-- Rearming a list of vectors: each of them is armed unless the ring holds an entry of it, and the others are left. -/
theorem State.armed_foldl_rearm (b : Nat) {v : Nat} (hv : v < 256) (ks : List Nat) (s : State) :
    (ks.foldl (fun u k => u.rearm (b + k)) s).events.armed.getLsbD v =
      if v ∈ ks.map (b + ·) then !s.events.ring.holds v else s.events.armed.getLsbD v := by
  induction ks generalizing s with
  | nil => simp
  | cons k ks ih =>
    rw [List.foldl_cons, ih, State.rearm_ring, State.armed_rearm _ hv, List.map_cons]
    by_cases hk : v = b + k
    · simp [← hk]
    · simp only [hk, if_false, List.mem_cons, false_or]

/-- EVT_REARM of a word arms the vectors of its set bits, save vector 3. -/
theorem State.armed_rearmWord {s : State} {i v w : Nat} (hv : v < 256) (hi : v / 64 = i) (h3 : v ≠ 3) :
    (s.rearmWord i w).events.armed.getLsbD v =
      if bitOf w (v % 64) then !s.events.ring.holds v else s.events.armed.getLsbD v := by
  rw [State.rearmWord, State.armed_foldl_rearm _ hv]
  congr 1
  simp only [List.mem_map, List.mem_filter, List.mem_range, Bool.and_eq_true, bne_iff_ne, eq_iff_iff]
  constructor
  · rintro ⟨k, ⟨hk, hb, -⟩, hkv⟩
    rwa [show v % 64 = k by omega]
  · intro hb
    exact ⟨v % 64, ⟨by omega, hb, by omega⟩, by omega⟩

@[simp] theorem State.rearmWord_ring (s : State) (i w : Nat) : (s.rearmWord i w).events.ring = s.events.ring :=
  foldl_keeps (fun t => t.events.ring) _ (fun _ _ => State.rearm_ring _ _) _ _

@[simp] theorem State.rearmWord_mem (s : State) (i w : Nat) : (s.rearmWord i w).mem = s.mem :=
  foldl_keeps (fun t => t.mem) _ (fun _ _ => State.rearm_mem _ _) _ _

/-- Unmasking a vector clears its mask and its pending bit, and sends the message held for it (R679). -/
theorem State.unmask_of_up {s : State} {v : Nat} (hv : v < 256) (hl : s.host.linkUp = true) (hd : s.host.d3hot = false) :
    (s.unmask v).events.masked.getLsbD v = false ∧ (s.unmask v).events.pba.getLsbD v = false ∧ (s.unmask v).mem = s.mem ∧
    (s.unmask v).out = s.out ++ (if s.events.pba.getLsbD v then [.msix v] else []) := by
  have hclear : ∀ a : BitVec 256, (a &&& ~~~((1 : BitVec 256) <<< v)).getLsbD v = false := fun a => by
    rw [getLsbD_clearVector _ _ hv, decide_eq_true rfl, Bool.not_true, Bool.and_false]
  cases hp : s.events.pba.getLsbD v with
  | true =>
    have he : s.unmask v = ({ s with
        events.masked := s.events.masked &&& ~~~((1 : BitVec 256) <<< v)
        events.pba := s.events.pba &&& ~~~((1 : BitVec 256) <<< v) } : State).emit (.msix v) := by
      simp only [State.unmask, hp, hl, hd, Bool.not_false, Bool.and_self, if_true]
      exact State.msix_of_unmasked hl hd (hclear s.events.masked)
    rw [he]
    exact ⟨hclear _, hclear _, rfl, rfl⟩
  | false =>
    have he : s.unmask v = { s with events.masked := s.events.masked &&& ~~~((1 : BitVec 256) <<< v) } := by
      simp only [State.unmask, hp, Bool.false_and, Bool.false_eq_true, if_false]
    rw [he]
    exact ⟨hclear _, hp, rfl, (List.append_nil _).symm⟩

/-! ## Served writes of registers, whichever command brings them -/

section
variable {s : State} {c : Instr} {off n : Nat} {v : W64} {P : State → Prop}

/-- A write of 4 or 8 bytes to a register of the node status and identification block. -/
theorem completes_writeReg (hc : exec c s = .next (s.bar0Write c off n v)) (h : s.hostServed = true) (hb : inBlock off = true)
    (hr : inRegisters off = true) (hn : (n = 4 ∧ off % 4 = 0) ∨ (n = 8 ∧ off % 8 = 0)) (hP : P ((s.inputOf c).writeReg off n v)) :
    Completes c s P := by
  have hoff := (region_of_inRegisters hr).2.2
  have hs : (s.inputOf c).serves off = true := by simpa using State.serves_of_inBlock (State.regsUp_of_hostServed h) hb
  refine completes_bar0Write hc h (by omega) (by unfold bar0Size; omega) ?_
  rwa [State.writeServed_fit hs hr hn]

/-- One to a register there that triggers nothing. -/
theorem completes_setReg (base : Nat) (hc : exec c s = .next (s.bar0Write c off n v)) (h : s.hostServed = true)
    (hb : inBlock off = true) (hr : inRegisters off = true) (hn : (n = 4 ∧ off % 4 = 0) ∨ (n = 8 ∧ off % 8 = 0))
    (hbase : off / 8 * 8 = base) (hcmd : ∀ u : State, u.writeCommand base ⟨n, v⟩ = none) (he : base ≠ 0x1380)
    (hP : P ((s.inputOf c).setReg base (mergeWrite ((s.inputOf c).reg base) off n v.toNat))) : Completes c s P := by
  have hlow : off < 0xE0000 ∨ 0x1000000 ≤ off ∧ off < 0x2000000 := by simpa [inBlock, inStaging] using hb
  refine completes_writeReg hc h hb hr hn ?_
  rwa [State.writeReg_field hbase (by omega) (hcmd _) he]

end

/-! ## The statement about writes -/

/-- Settles O47: each write is served on the state after its delivery, and acts by its register's access code. -/
theorem registersAreWrittenByTheirAccessCode : Obligations.RegistersAreWrittenByTheirAccessCode := by
  unfold Obligations.RegistersAreWrittenByTheirAccessCode
  refine ⟨?fields, ?staging, ?errcap, ?heads, ?rearm, ?unmask⟩
  case fields =>
    intro s v hv
    refine ⟨?operand, ?half, ?readOnly, ?command, ?misfit⟩
    case operand =>
      refine completes_setReg 0x1308 rfl hv rfl rfl (.inr ⟨rfl, rfl⟩) rfl (fun u => by simp [State.writeCommand]) (by decide) ?_
      simp [State.setReg, mergeWrite]
    case half =>
      refine completes_setReg 0x1308 rfl hv rfl rfl (.inl ⟨rfl, rfl⟩) rfl (fun u => by simp [State.writeCommand]) (by decide) ?_
      simp [State.setReg, mergeWrite, State.reg, State.ctrlReg]
    case readOnly =>
      refine completes_setReg 0x18 rfl hv rfl rfl (.inr ⟨rfl, rfl⟩) rfl (fun u => by simp [State.writeCommand]) (by decide) ?_
      simp [State.setReg]
    case command =>
      refine completes_writeReg rfl hv rfl rfl (.inl ⟨rfl, rfl⟩) ?_
      rw [State.writeReg_command (base := 0x1300) rfl (by omega) rfl]
      exact State.syncSubmit_format (by simpa using State.regsUp_of_hostServed hv) (by simp)
    case misfit =>
      refine completes_bar0Write rfl hv (by omega) (by decide) ?_
      exact State.writeServed_misfit (by simpa using State.serves_of_inBlock (State.regsUp_of_hostServed hv) rfl) rfl
        (by decide) (by decide)
  case staging =>
    intro s i n v hv h1 h8 hi
    refine completes_bar0Write rfl hv ⟨h1, h8⟩ (by unfold bar0Size; omega) ?_
    rw [State.writeServed_staging (by simpa using State.regsUp_of_hostServed hv) h1 hi]
    simp only [State.inputOf_jny]
  case errcap =>
    intro s w hv hw hb
    refine completes_writeReg rfl hv rfl rfl (by omega) ?_
    rw [State.writeReg_errcap hb]
  case heads =>
    rintro s w h hv hw rfl
    constructor
    · refine completes_setReg 0x3008 rfl hv rfl rfl (by omega) rfl (fun u => by simp [State.writeCommand]) (by decide) ?_
      simp only [mergeWrite, hw, if_true, State.setReg_faultHead, ofNat_lowWord, Ring.setHead_eq, State.inputOf_events]
    · refine completes_setReg 0x3020 rfl hv rfl rfl (by omega) rfl (fun u => by simp [State.writeCommand]) (by decide) ?_
      simp only [mergeWrite, hw, if_true, State.setReg_evtHead, ofNat_lowWord, Ring.setHead_eq, State.inputOf_events]
  case rearm =>
    intro s i w v hv hw hlt hi h3
    have hi4 := i.isLt
    refine completes_writeReg rfl hv (by simp [inBlock]; omega) (by simp [inRegisters]; omega) (by omega) ?_
    rw [State.writeReg_command (by omega) (by omega) (State.writeCommand_rearm _ i w),
      State.commandWrite_eight (by simpa using State.regsUp_of_hostServed hv) hw]
    refine ⟨by simp, by simp, ?_⟩
    rw [State.armed_rearmWord hlt hi h3, State.inputOf_events]
  case unmask =>
    intro s v hv
    obtain ⟨hl, hu, -, hd, -⟩ := State.hostServed_iff.1 hv
    have hs : (s.inputOf (.msixUnmask v)).serves 0x4000 = true := by simpa using State.serves_of_inBlock (off := 0x4000) hu rfl
    refine ⟨_, rfl, ?_⟩
    rw [State.hostGate_of_served _ _ hv, if_pos hs]
    simpa only [State.inputOf_mem, State.inputOf_out, State.inputOf_events] using
      State.unmask_of_up (s := s.inputOf (.msixUnmask v)) v.isLt (by simpa using hl) (by simpa using hd)

end Sys2Proof.Machine

/-! Joinery images: what the operations of chapter 5 do to the node state, the recorded sequence number and the joinery, and what
taking, checking and applying an image completes with. -/

namespace Sys2Proof.Machine

/-! ## What keeps the power state and the joinery

Each lemma says of one operation that it leaves `power` (the node state and the recorded sequence number in it) and `jny`
unchanged. -/

/-- A fold of updates that keep the power state and the joinery keeps them. -/
theorem foldl_keepsNode {α : Type} {g : State → α → State} (h : ∀ u x, (g u x).power = u.power ∧ (g u x).jny = u.jny)
    (l : List α) (s : State) : (l.foldl g s).power = s.power ∧ (l.foldl g s).jny = s.jny :=
  ⟨foldl_keeps (·.power) g (fun u x => (h u x).1) l s, foldl_keeps (·.jny) g (fun u x => (h u x).2) l s⟩

/-- The same, of what they were before the state that the fold starts from. -/
theorem foldl_keepsNode_trans {α : Type} {g : State → α → State} {p : Power} {y : JoineryState}
    (h : ∀ u x, (g u x).power = u.power ∧ (g u x).jny = u.jny) (l : List α) {s : State} (hs : s.power = p ∧ s.jny = y) :
    (l.foldl g s).power = p ∧ (l.foldl g s).jny = y :=
  ⟨(foldl_keepsNode h l s).1.trans hs.1, (foldl_keepsNode h l s).2.trans hs.2⟩

/-! ### Events, waits and counters -/

@[simp] theorem State.keepsNode_msix (s : State) (v : Nat) : (s.msix v).power = s.power ∧ (s.msix v).jny = s.jny := by
  unfold State.msix
  split
  · simp
  · split <;> simp

@[simp] theorem State.keepsNode_signal (s : State) (v : Nat) : (s.signal v).power = s.power ∧ (s.signal v).jny = s.jny := by
  unfold State.signal; split <;> simp

@[simp] theorem State.keepsNode_console (s : State) (ts : Nat) (text : String) :
    (s.console ts text).power = s.power ∧ (s.console ts text).jny = s.jny := ⟨rfl, rfl⟩

@[simp] theorem State.keepsNode_post (s : State) (e : Ev) (kind : SourceKind) (n : Nat) (entry : EventEntry) :
    (s.post e kind n entry).power = s.power ∧ (s.post e kind n entry).jny = s.jny := by
  unfold State.post
  split <;> split <;> split <;> split <;> simp

@[simp] theorem State.keepsNode_note (s : State) (e : Ev) (kind : SourceKind) (n a b c : Nat) :
    (s.note e kind n a b c).power = s.power ∧ (s.note e kind n a b c).jny = s.jny := by
  unfold State.note; simp

@[simp] theorem State.keepsNode_counterWrap (s : State) (off : Nat) :
    (s.counterWrap off).power = s.power ∧ (s.counterWrap off).jny = s.jny := by
  unfold State.counterWrap; simp

@[simp] theorem State.keepsNode_mergeOlder (s : State) (w : Wait) :
    (s.mergeOlder w).power = s.power ∧ (s.mergeOlder w).jny = s.jny := by
  unfold State.mergeOlder; split <;> simp

@[simp] theorem State.keepsNode_setPhase (s : State) (id : Nat) (ph : WaitPhase) :
    (s.setPhase id ph).power = s.power ∧ (s.setPhase id ph).jny = s.jny := ⟨rfl, rfl⟩

@[simp] theorem State.keepsNode_freeWait (s : State) (id : Nat) :
    (s.freeWait id).power = s.power ∧ (s.freeWait id).jny = s.jny := ⟨rfl, rfl⟩

@[simp] theorem State.keepsNode_discard (s : State) (t n : Nat) :
    (s.discard t n).power = s.power ∧ (s.discard t n).jny = s.jny := ⟨rfl, rfl⟩

@[simp] theorem State.keepsNode_releaseOne (s : State) (st : Status) (w : Wait) :
    (s.releaseOne st w).power = s.power ∧ (s.releaseOne st w).jny = s.jny := by
  unfold State.releaseOne
  split
  · split <;> simp
  · simp

@[simp] theorem State.keepsNode_releaseAll (s : State) (p : Wait → Bool) (st : Status) :
    (s.releaseAll p st).power = s.power ∧ (s.releaseAll p st).jny = s.jny :=
  foldl_keepsNode (fun u w => u.keepsNode_releaseOne st w) _ s

@[simp] theorem State.keepsNode_wake (s : State) (c : Nat) : (s.wake c).power = s.power ∧ (s.wake c).jny = s.jny := by
  unfold State.wake; split <;> simp

@[simp] theorem State.keepsNode_addCounter (s : State) (c : Nat) (x : W64) :
    (s.addCounter c x).1.power = s.power ∧ (s.addCounter c x).1.jny = s.jny := by
  unfold State.addCounter
  dsimp only
  split
  · simp
  · split <;> simp

@[simp] theorem State.keepsNode_tenantAdd (s : State) (c : Nat) (x : W64) (t : Nat) (cmd : Option (Nat × W32 × Nat)) :
    (s.tenantAdd c x t cmd).1.power = s.power ∧ (s.tenantAdd c x t cmd).1.jny = s.jny := by
  unfold State.tenantAdd
  split
  · split <;> simp
  · simp

@[simp] theorem State.keepsNode_retireSlots (s : State) (q : Nat) (i : W32) (n : Nat) :
    (s.retireSlots q i n).power = s.power ∧ (s.retireSlots q i n).jny = s.jny := ⟨rfl, rfl⟩

@[simp] theorem State.keepsNode_takeHeld (s : State) (h : HeldAdd) :
    (s.takeHeld h).power = s.power ∧ (s.takeHeld h).jny = s.jny := by
  unfold State.takeHeld; dsimp only; split <;> simp

@[simp] theorem State.keepsNode_thawAdds (s : State) : s.thawAdds.power = s.power ∧ s.thawAdds.jny = s.jny :=
  foldl_keepsNode (fun u h => u.keepsNode_takeHeld h) _ _

@[simp] theorem State.keepsNode_alertAll (s : State) : s.alertAll.power = s.power ∧ s.alertAll.jny = s.jny := by
  refine foldl_keepsNode (fun u t => ?_) _ s
  split <;> simp

@[simp] theorem State.keepsNode_raise (s : State) (e : Ev) (kind : SourceKind) (n a b c : Nat) :
    (s.raise e kind n a b c).power = s.power ∧ (s.raise e kind n a b c).jny = s.jny := by
  unfold State.raise; split <;> simp

@[simp] theorem State.keepsNode_settle (s : State) : s.settle.power = s.power ∧ s.settle.jny = s.jny := by
  unfold State.settle
  dsimp only
  split
  · simp
  · split <;> simp

@[simp] theorem State.keepsNode_busyFell (s : State) : s.busyFell.power = s.power ∧ s.busyFell.jny = s.jny :=
  s.keepsNode_msix 3

@[simp] theorem State.keepsNode_answer (s : State) (i r kind : Nat) (st : Status) (body : Body) :
    (s.answer i r kind st body).power = s.power ∧ (s.answer i r kind st body).jny = s.jny := by
  unfold State.answer; split <;> simp

/-! ### Sending on a port -/

@[simp] theorem State.keepsNode_portEvent (s : State) (e : Ev) (p a c : Nat) :
    (s.portEvent e p a c).power = s.power ∧ (s.portEvent e p a c).jny = s.jny := by
  unfold State.portEvent; simp

@[simp] theorem State.keepsNode_countTx (s : State) (p n : Nat) :
    (s.countTx p n).power = s.power ∧ (s.countTx p n).jny = s.jny := by
  unfold State.countTx; dsimp only; split <;> simp

@[simp] theorem State.keepsNode_markSent (s : State) (m : Msg) :
    (s.markSent m).power = s.power ∧ (s.markSent m).jny = s.jny := by
  unfold State.markSent; split <;> simp

@[simp] theorem State.keepsNode_emitFlits (s : State) (p : Nat) (raws : List (List Byte)) :
    (s.emitFlits p raws).power = s.power ∧ (s.emitFlits p raws).jny = s.jny :=
  foldl_keepsNode (g := fun u x => u.emit (.flit p x)) (fun _ _ => ⟨rfl, rfl⟩) raws s

@[simp] theorem State.keepsNode_emitGone (s : State) (p : Nat) (g : Gone) :
    (s.emitGone p g).power = s.power ∧ (s.emitGone p g).jny = s.jny := by
  unfold State.emitGone; simp

@[simp] theorem State.keepsNode_creditOnly (s : State) (p : Nat) :
    (s.creditOnly p).power = s.power ∧ (s.creditOnly p).jny = s.jny := by
  unfold State.creditOnly; simp

@[simp] theorem State.keepsNode_foldl_emitGone (s : State) (p : Nat) (gs : List Gone) :
    (gs.foldl (fun u x => u.emitGone p x) s).power = s.power ∧ (gs.foldl (fun u x => u.emitGone p x) s).jny = s.jny :=
  foldl_keepsNode (fun u g => u.keepsNode_emitGone p g) gs s

@[simp] theorem State.keepsNode_pump (s : State) (p : Nat) : (s.pump p).power = s.power ∧ (s.pump p).jny = s.jny := by
  unfold State.pump
  dsimp only
  split
  · simp
  · split
    · simp
    · split <;> simp

@[simp] theorem State.keepsNode_send (s : State) (p : Nat) (m : Msg) :
    (s.send p m).power = s.power ∧ (s.send p m).jny = s.jny := by
  unfold State.send; simp

@[simp] theorem State.keepsNode_sendVc3 (s : State) (p kind : Nat) (fields : List Byte) :
    (s.sendVc3 p kind fields).power = s.power ∧ (s.sendVc3 p kind fields).jny = s.jny := by
  unfold State.sendVc3; simp

@[simp] theorem State.keepsNode_respond (s : State) (op : Nat) (r : Req) (x : Reply) :
    (s.respond op r x).power = s.power ∧ (s.respond op r x).jny = s.jny := by
  unfold State.respond; split <;> simp

/-! ### Outbound requests and their ends -/

@[simp] theorem State.keepsNode_enqueue (s : State) (o : OutReq) :
    (s.enqueue o).power = s.power ∧ (s.enqueue o).jny = s.jny := by
  unfold State.enqueue; split <;> simp

@[simp] theorem State.keepsNode_assign (s : State) (o : OutReq) :
    (s.assign o).power = s.power ∧ (s.assign o).jny = s.jny := by
  unfold State.assign
  repeat' split
  all_goals simp

@[simp] theorem State.keepsNode_issue (s : State) (issuer : Issuer) (opcode dst drawer offset : Nat) (word : W64)
    (data : List Byte) (place : Nat) : (s.issue issuer opcode dst drawer offset word data place).power = s.power ∧
      (s.issue issuer opcode dst drawer offset word data place).jny = s.jny := by
  unfold State.issue; dsimp only; split <;> simp

@[simp] theorem State.keepsNode_updRun (s : State) (q : Nat) (i : W32) (f : RunCmd → RunCmd) :
    (s.updRun q i f).power = s.power ∧ (s.updRun q i f).jny = s.jny := ⟨rfl, rfl⟩

@[simp] theorem State.keepsNode_endRun (s : State) (q : Nat) (i : W32) (st : Status) (progress result : W64) :
    (s.endRun q i st progress result).power = s.power ∧ (s.endRun q i st progress result).jny = s.jny := ⟨rfl, rfl⟩

@[simp] theorem State.keepsNode_copyAnswered (s : State) (q : Nat) (i : W32) (off len : Nat) (st : Status) :
    (s.copyAnswered q i off len st).power = s.power ∧ (s.copyAnswered q i off len st).jny = s.jny := by
  unfold State.copyAnswered
  dsimp only
  generalize hu : s.updRun q i _ = u
  have h : u.power = s.power ∧ u.jny = s.jny := hu ▸ ⟨rfl, rfl⟩
  split
  · exact h
  · split
    · exact h
    · exact h

@[simp] theorem State.keepsNode_restatus (s : State) (op n : Nat) (st : Status) :
    (s.restatus op n st).power = s.power ∧ (s.restatus op n st).jny = s.jny := by
  unfold State.restatus
  dsimp only
  split
  · simp
  · split <;> simp

@[simp] theorem State.keepsNode_maskAnswered (s : State) (key : Nat) (st : Status) :
    (s.maskAnswered key st).power = s.power ∧ (s.maskAnswered key st).jny = s.jny := by
  unfold State.maskAnswered
  dsimp only
  repeat' split
  all_goals simp

@[simp] theorem State.keepsNode_endTransfer (s : State) (q : Nat) (i : W32) (st : Status) (o : OutReq) :
    (s.endTransfer q i st o).power = s.power ∧ (s.endTransfer q i st o).jny = s.jny := by
  unfold State.endTransfer; dsimp only; split <;> simp

@[simp] theorem State.keepsNode_outDone (s : State) (o : OutReq) (st : Status) :
    (s.outDone o st).power = s.power ∧ (s.outDone o st).jny = s.jny := by
  unfold State.outDone
  dsimp only
  split
  case h_3 => split <;> simp
  all_goals simp

/-! ### The end of a session -/

@[simp] theorem State.keepsNode_releasePort (s : State) (p : Nat) :
    (s.releasePort p).power = s.power ∧ (s.releasePort p).jny = s.jny := by
  unfold State.releasePort; simp

@[simp] theorem State.keepsNode_flush (s : State) (p : Nat) : (s.flush p).power = s.power ∧ (s.flush p).jny = s.jny := by
  unfold State.flush
  simp [foldl_keepsNode fun u o => State.keepsNode_outDone u o .linkLost]

@[simp] theorem State.keepsNode_endBindings (s : State) (p : Nat) :
    (s.endBindings p).power = s.power ∧ (s.endBindings p).jny = s.jny := by
  unfold State.endBindings
  dsimp only
  split
  · simp
  · split <;> simp

@[simp] theorem State.keepsNode_endSession (s : State) (p : Nat) :
    (s.endSession p).power = s.power ∧ (s.endSession p).jny = s.jny := by
  unfold State.endSession; simp

@[simp] theorem State.keepsNode_fullReset (s : State) (p : Nat) (dark : Bool) :
    (s.fullReset p dark).power = s.power ∧ (s.fullReset p dark).jny = s.jny := by
  unfold State.fullReset; simp

@[simp] theorem State.keepsNode_linkDown (s : State) (p cause : Nat) :
    (s.linkDown p cause).power = s.power ∧ (s.linkDown p cause).jny = s.jny := by
  unfold State.linkDown; simp

@[simp] theorem State.keepsNode_plannedDown (s : State) (p : Nat) (dark : Bool) :
    (s.plannedDown p dark).power = s.power ∧ (s.plannedDown p dark).jny = s.jny := by
  unfold State.plannedDown; dsimp only; split <;> simp

@[simp] theorem State.keepsNode_forcedDown (s : State) (p reason : Nat) :
    (s.forcedDown p reason).power = s.power ∧ (s.forcedDown p reason).jny = s.jny := by
  unfold State.forcedDown; simp

@[simp] theorem State.keepsNode_closeSent (s : State) (p : Nat) :
    (s.closeSent p).power = s.power ∧ (s.closeSent p).jny = s.jny := by
  unfold State.closeSent; dsimp only; split <;> simp

@[simp] theorem State.keepsNode_sendPlanned (s : State) (p reason : Nat) :
    (s.sendPlanned p reason).power = s.power ∧ (s.sendPlanned p reason).jny = s.jny := by
  unfold State.sendPlanned
  dsimp only
  repeat' split
  all_goals simp

@[simp] theorem State.keepsNode_quiesce (s : State) (p reason : Nat) :
    (s.quiesce p reason).power = s.power ∧ (s.quiesce p reason).jny = s.jny := by
  unfold State.quiesce
  dsimp only
  repeat' split
  all_goals simp

/-! ### Commands and contexts -/

@[simp] theorem State.keepsNode_stopRuns (s : State) (p : Nat → RunCmd → Bool) (st : Status) :
    (s.stopRuns p st).power = s.power ∧ (s.stopRuns p st).jny = s.jny :=
  foldl_keepsNode (fun u (e : Nat × Queue) => ⟨u.setQueue_power e.1 _, u.setQueue_jny e.1 _⟩) _ s

@[simp] theorem State.keepsNode_freeCtxWaits (s : State) (key : Nat) :
    (s.freeCtxWaits key).power = s.power ∧ (s.freeCtxWaits key).jny = s.jny := ⟨rfl, rfl⟩

@[simp] theorem State.keepsNode_endStart (s : State) (key : Nat) (st : Status) (result : W64) :
    (s.endStart key st result).power = s.power ∧ (s.endStart key st result).jny = s.jny := by
  unfold State.endStart; dsimp only; split <;> simp

@[simp] theorem State.keepsNode_trapCtx (s : State) (key : Nat) (c : Ctx) (cause info : Nat) (ret : BitVec 16)
    (pend : Option LongOp) : (s.trapCtx key c cause info ret pend).power = s.power ∧
      (s.trapCtx key c cause info ret pend).jny = s.jny := by
  unfold State.trapCtx; split <;> simp

@[simp] theorem State.keepsNode_elect (s : State) (e last fuel : Nat) :
    (s.elect e last fuel).power = s.power ∧ (s.elect e last fuel).jny = s.jny := by
  induction fuel generalizing s last with
  | zero => exact ⟨rfl, rfl⟩
  | succ fuel ih =>
    unfold State.elect
    dsimp only
    split
    · simp
    · split
      · simp
      · split <;> simp [ih]

@[simp] theorem State.keepsNode_reelect (s : State) (key : Nat) :
    (s.reelect key).power = s.power ∧ (s.reelect key).jny = s.jny := s.keepsNode_elect _ _ _

@[simp] theorem State.keepsNode_takeHalt (s : State) (key : Nat) :
    (s.takeHalt key).power = s.power ∧ (s.takeHalt key).jny = s.jny := ⟨rfl, rfl⟩

@[simp] theorem State.keepsNode_boundary (s : State) (key : Nat) :
    (s.boundary key).power = s.power ∧ (s.boundary key).jny = s.jny := by
  unfold State.boundary
  dsimp only
  repeat' split
  all_goals simp

@[simp] theorem State.keepsNode_stopCtx (s : State) (key : Nat) (st : Status) :
    (s.stopCtx key st).power = s.power ∧ (s.stopCtx key st).jny = s.jny := by
  unfold State.stopCtx; simp

@[simp] theorem State.keepsNode_giveContexts (s : State) (order : List Nat) (t count : Nat) :
    (s.giveContexts order t count).power = s.power ∧ (s.giveContexts order t count).jny = s.jny := by
  unfold State.giveContexts
  dsimp only
  split
  · exact foldl_keepsNode (fun u k => ⟨u.setCtx_power k _, u.setCtx_jny k _⟩) _ s
  · refine foldl_keepsNode (fun u k => ?_) _ s
    split <;> simp

@[simp] theorem State.keepsNode_applyContexts (s : State) (j : Joinery) :
    (s.applyContexts j).power = s.power ∧ (s.applyContexts j).jny = s.jny := by
  unfold State.applyContexts
  exact foldl_keepsNode_trans (fun u t => u.keepsNode_giveContexts _ t.id t.contexts) _
    (foldl_keepsNode (fun u t => u.keepsNode_giveContexts _ t _) _ s)

@[simp] theorem State.keepsNode_applyVolts (s : State) (j : Joinery) :
    (s.applyVolts j).power = s.power ∧ (s.applyVolts j).jny = s.jny :=
  foldl_keepsNode (fun u (e : Byte × Nat) => ⟨u.setDom_power e.2 _, u.setDom_jny e.2 _⟩) _ s

@[simp] theorem State.keepsNode_applyPorts (s : State) (j : Joinery) :
    (s.applyPorts j).power = s.power ∧ (s.applyPorts j).jny = s.jny :=
  foldl_keepsNode (fun u p => ⟨u.updPort_power p _, u.updPort_jny p _⟩) _ s

/-! ## What the operations of an apply do to the power state and the joinery -/

@[simp] theorem State.setNode_power (s : State) (n : NodeState) (why : String) :
    (s.setNode n why).power = { s.power with node := n } := rfl

@[simp] theorem State.setNode_jny (s : State) (n : NodeState) (why : String) : (s.setNode n why).jny = s.jny := rfl

theorem State.isIn_iff {s : State} {n : NodeState} : s.isIn n = true ↔ s.power.node = n := by simp [State.isIn]

@[simp] theorem State.takesImages_inputOf (s : State) (c : Instr) : (s.inputOf c).takesImages = s.takesImages := by
  simp [State.takesImages, State.inStates, State.isIn, State.closing]

@[simp] theorem State.lockOpen_inputOf (s : State) (c : Instr) (who : Submitter) :
    (s.inputOf c).lockOpen who = s.lockOpen who := by
  simp [State.lockOpen]

/-! ### Taking an image (R150) -/

@[simp] theorem State.takeImage_jny (s : State) (im : List Byte) (who : Submitter) :
    (s.takeImage im who).jny = { s.jny with phase := .checking im who } := by
  unfold State.takeImage; dsimp only; split <;> simp

theorem State.takeImage_node_of_await {s : State} (im : List Byte) (who : Submitter) (h : s.power.node = .awaitJoinery) :
    (s.takeImage im who).power.node = .applying := by
  simp [State.takeImage, State.isIn_iff.2 h]

/-! ### Reports (R177, R679) -/

@[simp] theorem State.postReport_power (s : State) (who : Submitter) (e : Ev) (code : Nat) (delta : Bool) (seq c : Nat)
    (rep : List Byte) : (s.postReport who e code delta seq c rep).power = s.power := by
  cases who <;> simp [State.postReport]

@[simp] theorem State.postReport_jny (s : State) (who : Submitter) (e : Ev) (code : Nat) (delta : Bool) (seq c : Nat)
    (rep : List Byte) : (s.postReport who e code delta seq c rep).jny = { s.jny with report := rep, result := code } := by
  cases who <;> simp [State.postReport]

@[simp] theorem State.postReport_mem (s : State) (who : Submitter) (e : Ev) (code : Nat) (delta : Bool) (seq c : Nat)
    (rep : List Byte) : (s.postReport who e code delta seq c rep).mem = s.mem := by
  cases who <;> simp [State.postReport]

@[simp] theorem State.postReject_power (s : State) (who : Submitter) (im : List Byte) (r : Reject) :
    (s.postReject who im r).power = s.power := s.postReport_power ..

@[simp] theorem State.postReject_inForce (s : State) (who : Submitter) (im : List Byte) (r : Reject) :
    (s.postReject who im r).jny.inForce = s.jny.inForce := by
  simp [State.postReject]

@[simp] theorem State.postReject_mem (s : State) (who : Submitter) (im : List Byte) (r : Reject) :
    (s.postReject who im r).mem = s.mem := s.postReport_mem ..

@[simp] theorem State.postApplied_power (s : State) (who : Submitter) (j : Joinery) :
    (s.postApplied who j).power = s.power := s.postReport_power ..

@[simp] theorem State.postApplied_inForce (s : State) (who : Submitter) (j : Joinery) :
    (s.postApplied who j).jny.inForce = s.jny.inForce := by
  simp [State.postApplied]

@[simp] theorem State.joineryIdle_power (s : State) : s.joineryIdle.power = s.power := by
  simp [State.joineryIdle]

@[simp] theorem State.joineryIdle_jny (s : State) : s.joineryIdle.jny = { s.jny with phase := .idle } := by
  simp [State.joineryIdle]

@[simp] theorem State.joineryIdle_mem (s : State) : s.joineryIdle.mem = s.mem := by
  simp [State.joineryIdle]

/-! ### Acceptance (R145, Table 5–9 step 1) -/

/-- The start of a full apply in READY moves the node to APPLYING and counts what no queue will run any more, whatever contexts
and ports the node has; the joinery in force and the image stay. -/
theorem State.beginFull_frame (s : State) (j : Joinery) : (s.beginFull j).power = { s.power with node := .applying } ∧
    (s.beginFull j).jny = { s.jny with
      dropped := (s.queues.map fun e => if s.queueFrozen e.1 then 0 else (e.2.tail - e.2.dispatch).toNat).sum } := by
  refine foldl_keepsNode_trans (fun u e => ?ctx) _ ?begun
  case ctx => split <;> simp
  case begun =>
    rw [(State.keepsNode_stopRuns _ _ _).1, (State.keepsNode_stopRuns _ _ _).2]
    refine foldl_keepsNode_trans (fun u p => ?_) _ ⟨rfl, rfl⟩
    split <;> simp

/-- An accepted image's sequence number is recorded, and the joinery in force stays until the apply point. -/
@[simp] theorem State.acceptImage_frame (s : State) (im : List Byte) (j : Joinery) (plan : List Extent) (who : Submitter) :
    (s.acceptImage im j plan who).jny.phase = .accepted im j plan (!j.isDelta) who ∧
      (s.acceptImage im j plan who).jny.inForce = s.jny.inForce ∧ (s.acceptImage im j plan who).power.maxSeq = j.seq := by
  unfold State.acceptImage
  dsimp only
  split
  · simp [State.beginFull_frame]
  · simp

/-- A full image accepted in READY takes the node to APPLYING. -/
theorem State.acceptImage_node_of_full {s : State} (im : List Byte) {j : Joinery} (plan : List Extent) (who : Submitter)
    (hn : s.power.node = .ready) (hj : j.isDelta = false) : (s.acceptImage im j plan who).power.node = .applying := by
  have hfull : (s.isReady && !j.isDelta) = true := by simp [State.isReady, State.isIn, hn, hj]
  unfold State.acceptImage
  rw [if_pos hfull, (State.beginFull_frame _ j).1]

/-- Any other accepted image leaves the node in its state. -/
theorem State.acceptImage_node {s : State} (im : List Byte) {j : Joinery} (plan : List Extent) (who : Submitter)
    (h : s.power.node ≠ .ready ∨ j.isDelta = true) : (s.acceptImage im j plan who).power.node = s.power.node := by
  have hfull : (s.isReady && !j.isDelta) = false := by
    rcases h with h | h <;> simp [State.isReady, State.isIn, h]
  simp [State.acceptImage, hfull]

/-! ### The apply point (R36, R170, R171) -/

@[simp] theorem State.install_inForce (s : State) (j : Joinery) (plan : List Extent) :
    (s.install j plan).jny.inForce = some j := by
  simp [State.install]

/-- A full apply's point puts the joinery in force, and the apply waits for its ports. -/
theorem State.fullPoint_jny (s : State) (j : Joinery) (plan : List Extent) (who : Submitter) :
    (s.fullPoint j plan who).jny.inForce = some j ∧ (s.fullPoint j plan who).jny.phase = .applied who := by
  unfold State.fullPoint
  dsimp only
  generalize (if s.jny.inForce.isNone then s else _ : State) = u
  split <;> simp

/-- A delta's point puts the joinery in force, and the apply is over. -/
theorem State.deltaPoint_jny (s : State) (j : Joinery) (plan : List Extent) (who : Submitter) :
    (s.deltaPoint j plan who).jny.inForce = some j ∧ (s.deltaPoint j plan who).jny.phase = .idle := by
  unfold State.deltaPoint
  simp [foldl_keepsNode fun (u : State) p => u.keepsNode_quiesce p (if j.enables p then 2 else 3)]

/-! ## The commands of an apply, each where it acts at once -/

/-- JNY_CTRL of 8 bytes, where an image may be submitted and none is under way (R675). -/
theorem State.jnySubmit_of_idle {s : State} {w : HostWrite} (hr : s.regsUp = true) (hw : w.size = 8) (hi : s.jny.phase = .idle)
    (ht : s.takesImages = true) (hl : s.lockOpen .host = true) :
    s.jnySubmit w = { s with jny.submit := .ok }.takeImage (FMap.getRun s.jny.staging 0 0 (bits w.value.toNat 24 0)) .host := by
  simp [State.jnySubmit, State.submit, State.commandWrite_eight hr hw, hi, ht, hl]

section
variable {s : State} {P : State → Prop} {im : List Byte} {plan : List Extent} {who : Submitter} {j : Joinery}

/-- A write of JNY_CTRL that the host port serves. -/
theorem completes_jnyCtrl {w : HostWrite} (h : s.hostServed = true) (hP : P ((s.inputOf (.jnyCtrl w)).jnySubmit w)) :
    Completes (.jnyCtrl w) s P :=
  ⟨_, rfl, by rwa [State.hostGate_of_served _ _ h]⟩

/-- JOINERY_LOAD that is heard and allowed while no image is under way takes the image (R150). -/
theorem completes_joineryLoad {m : BureauMsg} (hm : s.hears m .admin kindLoad (bytesBody fun _ => true) im = true)
    (ht : s.takesImages = true) (hl : s.lockOpen (.session m.session m.reqId) = true) (hi : s.jny.phase = .idle)
    (hP : P ((s.inputOf (.joineryLoad m im)).takeImage im (.session m.session m.reqId))) : Completes (.joineryLoad m im) s P := by
  obtain ⟨hlis, hread⟩ := State.hears_iff.1 hm
  refine ⟨_, rfl, ?_⟩
  rw [State.bureauRequest_of_listens hlis]
  simpa [hread, adminOnly, ht, hl, hi] using hP

/-- IMAGE_CHECK_DONE on an image that fails a check rejects it; in APPLYING the node goes back to AWAIT_JOINERY (R150). -/
theorem completes_imageCheckDone_of_reject {r : Reject} (hph : s.jny.phase = .checking im who) (hc : s.closing = false)
    (hr : s.checkImage s.isReady im = some r) (hg : s.inputsGo = true)
    (hstay : s.power.node ≠ .applying → P (((s.inputOf (.imageCheckDone plan)).postReject who im r).joineryIdle).settle)
    (hback : s.power.node = .applying →
      P ((((s.inputOf (.imageCheckDone plan)).setNode .awaitJoinery "").postReject who im r).joineryIdle).settle) :
    Completes (.imageCheckDone plan) s P := by
  by_cases hn : s.power.node = .applying
  · refine ⟨_, ?_, hback hn⟩
    change execImageCheckDone plan s = _
    simp [execImageCheckDone, hph, hc, hr, State.deliver_of_go _ _ hg, State.isIn, hn]
  · refine ⟨_, ?_, hstay hn⟩
    change execImageCheckDone plan s = _
    simp [execImageCheckDone, hph, hc, hr, State.deliver_of_go _ _ hg, State.isIn, hn]

/-- IMAGE_CHECK_DONE on an image that passes every check, with a placement of it, accepts it (R145). -/
theorem completes_imageCheckDone_of_accept (hph : s.jny.phase = .checking im who) (hc : s.closing = false)
    (hr : s.checkImage s.isReady im = none) (hp : s.planOk (joineryOf im (imageRecords im).1) plan = true) (hg : s.inputsGo = true)
    (hP : P ((s.inputOf (.imageCheckDone plan)).acceptImage im (joineryOf im (imageRecords im).1) plan who).settle) :
    Completes (.imageCheckDone plan) s P := by
  refine ⟨_, ?_, hP⟩
  change execImageCheckDone plan s = _
  simp [execImageCheckDone, hph, hc, hr, hp, State.deliver_of_go _ _ hg]

/-- APPLY_POINT of a full apply (R168, R170). -/
theorem completes_applyPoint_full (hph : s.jny.phase = .accepted im j plan true who) (hc : s.closing = false)
    (hn : s.power.node ≠ .failed) (hg : s.inputsGo = true) (hP : P ((s.inputOf .applyPoint).fullPoint j plan who)) :
    Completes .applyPoint s P := by
  refine ⟨_, ?_, hP⟩
  change execApplyPoint s = _
  simp [execApplyPoint, hph, hc, State.isIn, hn, State.deliver_of_go _ _ hg]

/-- APPLY_POINT of a delta apply, which no request past stage 4 holds up (R36, R171). -/
theorem completes_applyPoint_delta (hph : s.jny.phase = .accepted im j plan false who) (hc : s.closing = false)
    (hn : s.power.node ≠ .failed) (hw : s.finishParked.reqsWait = false) (hg : s.inputsGo = true)
    (hP : P ((s.inputOf .applyPoint).deltaPoint j plan who)) : Completes .applyPoint s P := by
  refine ⟨_, ?_, hP⟩
  change execApplyPoint s = _
  simp [execApplyPoint, hph, hc, State.isIn, hn, hw, State.deliver_of_go _ _ hg]

/-- FULL_APPLY_DONE once the joinery is in force (R168 steps 4 and 5). -/
theorem completes_fullApplyDone (hph : s.jny.phase = .applied who) (hj : s.jny.inForce = some j) (hc : s.closing = false)
    (hn : s.power.node = .applying) (hg : s.inputsGo = true)
    (hP : P ((List.range s.power.part.ports).foldl (fun v p => v.updPort p Port.train)
      (((s.inputOf .fullApplyDone).setNode .ready "").postApplied who j).joineryIdle).settle) : Completes .fullApplyDone s P := by
  refine ⟨_, ?_, hP⟩
  change execFullApplyDone s = _
  simp [execFullApplyDone, hph, hj, hc, State.isIn, hn, State.deliver_of_go _ _ hg]

/-- CONFIG_REQUEST on a link that is up, but after THERMAL_TRIP: Request Retry Status in SELF_TEST, served in other states
(R110). -/
theorem completes_configRequest (hl : s.host.linkUp = true) (ht : s.power.tripped = false)
    (hP : P (s.complete_ (.hostStatus (if s.power.node = .selfTest then "CRS" else "served")))) : Completes .configRequest s P := by
  refine ⟨_, ?_, hP⟩
  change execConfigRequest s = _
  by_cases hn : s.power.node = .selfTest
  · simp [execConfigRequest, hl, ht, State.isIn, hn]
  · simp [execConfigRequest, hl, ht, State.isIn, hn]

end

/-! ## The statement about joinery images -/

/-- Settles O7: each clause is the command's own lemma above, with what its operations do to the power state and the joinery. -/
theorem joineryImagesAreTakenCheckedAndApplied : Obligations.JoineryImagesAreTakenCheckedAndApplied := by
  unfold Obligations.JoineryImagesAreTakenCheckedAndApplied
  refine ⟨?submit, ?load, ?rejected, ?accepted, ?acceptedFull, ?point, ?done, ?retry, ?served, ?delayed⟩
  case submit =>
    intro s w hs hw hi ht hl
    refine completes_jnyCtrl hs ?_
    rw [State.jnySubmit_of_idle (by simpa using State.regsUp_of_hostServed hs) hw (by simpa using hi) (by simpa using ht)
      (by simpa using hl)]
    exact ⟨by simp, by simp, fun hn => State.takeImage_node_of_await _ _ (by simpa using hn), by simp⟩
  case load =>
    intro s m im hm ht hl hi
    refine completes_joineryLoad hm ht hl hi ⟨by simp, fun hn => ?_, by simp⟩
    exact State.takeImage_node_of_await _ _ (by simpa using hn)
  case rejected =>
    intro s plan im who r hph hc hr hg
    refine completes_imageCheckDone_of_reject hph hc hr hg (fun hn => ?_) (fun hn => ?_)
    · simp [hn]
    · simp
  case accepted =>
    intro s plan im who hph hc hr hp hg hn
    refine completes_imageCheckDone_of_accept hph hc hr hp hg ?_
    have hnode := State.acceptImage_node (s := s.inputOf (.imageCheckDone plan)) im plan who (by simpa using hn)
    simp [hnode]
  case acceptedFull =>
    intro s plan im who hph hc hr hp hg hn hj _ _
    refine completes_imageCheckDone_of_accept hph hc hr hp hg ?_
    have hnode := State.acceptImage_node_of_full (s := s.inputOf (.imageCheckDone plan)) im plan who (by simpa using hn) hj
    simp [hnode, hj]
  case point =>
    intro s im j plan full who hph hc hn hw hg
    cases full with
    | true => exact completes_applyPoint_full hph hc hn hg (by simpa using State.fullPoint_jny _ j plan who)
    | false => exact completes_applyPoint_delta hph hc hn (by simpa using hw) hg (by simpa using State.deltaPoint_jny _ j plan who)
  case done =>
    intro s j who hph hj hc hn hg
    refine completes_fullApplyDone hph hj hc hn hg ?_
    simp [foldl_keepsNode fun (u : State) p => ⟨u.updPort_power p Port.train, u.updPort_jny p Port.train⟩, hj]
  case retry =>
    intro s hl ht hn hb
    exact completes_configRequest hl ht (by simp [hn, State.complete_, hb])
  case served =>
    intro s hl ht hn hb
    exact completes_configRequest hl ht (by simp [hn, State.complete_, hb])
  case delayed =>
    intro s hl ht hn hb
    exact completes_configRequest hl ht (by simp [hn, State.complete_, hb])

end Sys2Proof.Machine

/-! Supplies (chapter 2): what announcing an event leaves as it was, and what starting, stopping and the report of an excursion of
VIN do to the node. -/

namespace Sys2Proof.Machine

/-! ## What announcing an event touches

Releasing waits touches counters and waits alone; announcing an event and evaluating health touch besides them only the rings, the
vectors, the sessions' event buffers and the record of outputs, which grows. -/

/-- The state with counters and waits left out. -/
def State.sansSync (s : State) : State := { s with sync := {} }

/-- The state with all that announcing an event touches left out. -/
def State.aside (s : State) : State := { s with events := {}, out := [], sync := {}, bureau.sessions := [] }

/-- `t` is `s` after announcements alone. -/
structure State.Announces (s t : State) : Prop where
  rest : t.aside = s.aside
  out  : s.out <+: t.out

section
variable {s t u : State}

theorem State.Announces.refl (s : State) : s.Announces s := ⟨rfl, List.prefix_rfl⟩

theorem State.Announces.trans (h : s.Announces t) (k : t.Announces u) : s.Announces u :=
  ⟨k.rest.trans h.rest, h.out.trans k.out⟩

theorem State.Announces.ite {c : Prop} [Decidable c] (h : s.Announces t) (k : s.Announces u) :
    s.Announces (if c then t else u) := by
  split
  · exact h
  · exact k

/-- A change of counters and waits alone. -/
theorem State.Announces.of_sansSync (h : t.sansSync = s.sansSync) : s.Announces t :=
  ⟨(congrArg State.aside h :), (congrArg State.out h :).symm ▸ List.prefix_rfl⟩

theorem State.Announces.mem_out (h : s.Announces t) {o : Out} (ho : o ∈ s.out) : o ∈ t.out := h.out.subset ho

end

@[simp] theorem State.sansSync_releaseOne (s : State) (st : Status) (w : Wait) : (s.releaseOne st w).sansSync = s.sansSync := by
  have hmerge : (s.mergeOlder w).sansSync = s.sansSync := by unfold State.mergeOlder; split <;> rfl
  unfold State.releaseOne
  split
  · split
    · exact hmerge
    · rfl
  · exact hmerge

@[simp] theorem State.sansSync_releaseAll (s : State) (p : Wait → Bool) (st : Status) :
    (s.releaseAll p st).sansSync = s.sansSync :=
  foldl_keeps State.sansSync _ (fun u w => u.sansSync_releaseOne st w) _ s

theorem State.announces_wake (s : State) (c : Nat) : s.Announces (s.wake c) := by
  unfold State.wake
  exact .ite (.refl s) (.of_sansSync (s.sansSync_releaseAll _ _))

theorem State.announces_msix (s : State) (v : Nat) : s.Announces (s.msix v) := by
  unfold State.msix
  exact .ite (.refl s) (.ite ⟨rfl, List.prefix_rfl⟩ ⟨rfl, List.prefix_append ..⟩)

theorem State.announces_signal (s : State) (v : Nat) : s.Announces (s.signal v) := by
  unfold State.signal
  refine .ite (.trans ?_ (State.announces_msix _ v)) (.refl s)
  exact ⟨rfl, List.prefix_rfl⟩

theorem State.announces_post (s : State) (e : Ev) (kind : SourceKind) (n : Nat) (entry : EventEntry) :
    s.Announces (s.post e kind n entry) := by
  unfold State.post
  extract_lets _ s1 s2 _ s3 _ s4
  have h1 : s.Announces s1 := ⟨rfl, List.prefix_rfl⟩
  have h2 : s.Announces s2 := .ite (h1.trans (s1.announces_signal _)) h1
  have h3 : s.Announces s3 := .ite h2 (h2.trans ⟨rfl, List.prefix_rfl⟩)
  have h4 : s.Announces s4 := .ite h3 (h3.trans ⟨rfl, List.prefix_rfl⟩)
  exact .ite (h4.trans ⟨rfl, List.prefix_append ..⟩) h4

theorem State.announces_note (s : State) (e : Ev) (kind : SourceKind) (n a b c : Nat) :
    s.Announces (s.note e kind n a b c) := s.announces_post ..

theorem State.announces_addCounter (s : State) (c : Nat) (x : W64) : s.Announces (s.addCounter c x).1 := by
  have hset : ∀ v, s.Announces (s.setCounter c v) := fun v => .of_sansSync rfl
  unfold State.addCounter
  dsimp only
  split
  · exact .refl s
  · split
    · exact (hset _).trans ((State.announces_note ..).trans (State.announces_wake _ c))
    · exact (hset _).trans (State.announces_wake _ c)

theorem State.announces_tenantAdd (s : State) (c : Nat) (x : W64) (t : Nat) (cmd : Option (Nat × W32 × Nat)) :
    s.Announces (s.tenantAdd c x t cmd).1 := by
  unfold State.tenantAdd
  split
  · split
    · exact .of_sansSync rfl
    · exact s.announces_addCounter c x
  · exact .of_sansSync rfl

theorem State.announces_alertAll (s : State) : s.Announces s.alertAll := by
  refine foldl_holds (s.Announces ·) _ (fun u t hu => ?_) _ s (.refl s)
  split
  · exact hu
  · exact hu.trans (u.announces_tenantAdd ..)

theorem State.announces_raise (s : State) (e : Ev) (kind : SourceKind) (n a b c : Nat) :
    s.Announces (s.raise e kind n a b c) := by
  have hnote := s.announces_note e kind n a b c
  unfold State.raise
  exact .ite (hnote.trans (State.announces_alertAll _)) hnote

theorem State.announces_settle (s : State) : s.Announces s.settle := by
  unfold State.settle
  extract_lets t old _ s1 h h0 changed
  have h1 : s.Announces s1 := ⟨rfl, List.prefix_rfl⟩
  have h2 : s.Announces { s1 with events.health := h } := ⟨rfl, List.prefix_rfl⟩
  exact .ite (.refl s) (.ite h1 (h2.trans (State.announces_raise ..)))

@[simp] theorem State.settle_host (s : State) : s.settle.host = s.host := (congrArg State.host s.announces_settle.rest :)
@[simp] theorem State.settle_domains (s : State) : s.settle.domains = s.domains :=
  (congrArg State.domains s.announces_settle.rest :)
@[simp] theorem State.settle_dom (s : State) (d : Nat) : s.settle.dom d = s.dom d := by simp [State.dom]
@[simp] theorem State.raise_domains (s : State) (e : Ev) (kind : SourceKind) (n a b c : Nat) :
    (s.raise e kind n a b c).domains = s.domains := (congrArg State.domains (s.announces_raise e kind n a b c).rest :)
@[simp] theorem State.raise_dom (s : State) (e : Ev) (kind : SourceKind) (n a b c d : Nat) :
    (s.raise e kind n a b c).dom d = s.dom d := by simp [State.dom]

/-! ## The event ring (R657, R678) -/

@[simp] theorem State.signal_ring (s : State) (v : Nat) : (s.signal v).events.ring = s.events.ring := by
  unfold State.signal; split <;> simp

theorem State.post_ring (s : State) (e : Ev) (kind : SourceKind) (n : Nat) (entry : EventEntry) :
    (s.post e kind n entry).events.ring = s.events.ring.push entry := by
  unfold State.post
  extract_lets _ s1 s2 _ s3 _ s4
  have h2 : s2.events.ring = s1.events.ring := by simp only [s2]; split <;> simp
  have h3 : s3.events.ring = s2.events.ring := by simp only [s3]; split <;> rfl
  have h4 : s4.events.ring = s3.events.ring := by simp only [s4]; split <;> rfl
  split <;> exact h4.trans (h3.trans h2)

/-- An event that adds to no alert counter enters a ring with room at its tail. -/
theorem State.eventAt_raise {s : State} {e : Ev} (hr : s.ringRoom = true) (he : e.alerts = false) (kind : SourceKind)
    (n a b c : Nat) : (s.raise e kind n a b c).eventAt s.events.ring.tail = some e.code := by
  have hroom : ¬ 4096 ≤ s.events.ring.unread := by simpa [State.ringRoom] using hr
  simp [State.raise, he, State.note, State.eventAt, State.post_ring, Ring.push, hroom]

/-! ## Starting and stopping (R55, R56, R106, R135, R137) -/

section
variable {s : State}

/-- A stop leaves the node in OFF. -/
@[simp] theorem State.stop_node (s : State) (cause : Nat) (why : String) : (s.stop cause why).power.node = .off := by
  unfold State.stop
  split
  next h => exact State.isIn_iff.1 h
  next => rfl

/-- A stop in READY records its cause. -/
theorem State.stop_cause_of_ready (h : s.power.node = .ready) (cause : Nat) (why : String) :
    (s.stop cause why).power.stopCause = cause := by
  simp [State.stop, State.isIn, h]

@[simp] theorem State.stop_lifecycle (s : State) (cause : Nat) (why : String) :
    (s.stop cause why).sec.lifecycle = s.sec.lifecycle := by
  unfold State.stop; split <;> rfl

/-- From OFF, with VIN on, RESET_N high and no overvoltage stop, the start-up sequence begins. -/
theorem State.start_starting (hn : s.power.node = .off) (hv : s.power.vinOn = true) (hr : s.power.resetLow = false)
    (ho : s.power.ovStopped = false) : s.start.power.starting = true := by
  simp [State.start, State.isIn, hn, hv, hr, ho]

@[simp] theorem State.start_vinOn (s : State) : s.start.power.vinOn = s.power.vinOn := by unfold State.start; split <;> rfl
@[simp] theorem State.start_vinMv (s : State) : s.start.power.vinMv = s.power.vinMv := by unfold State.start; split <;> rfl
@[simp] theorem State.start_ovStopped (s : State) : s.start.power.ovStopped = s.power.ovStopped := by
  unfold State.start; split <;> rfl

/-! ## INPUT_HIGH (R57) -/

/-- What the first report of an excursion does. -/
theorem State.noteHigh_of_due (he : s.power.highExc = true) (hr : s.power.highRaised = false) (hroom : s.ringRoom = true) :
    s.noteHigh.power = { s.power with highRaised := true } ∧
      s.noteHigh.eventAt s.events.ring.tail = some Ev.inputHigh.code := by
  have h : s.noteHigh = { s with power.highRaised := true }.raise .inputHigh .node 0 s.power.vinMv 0 0 := by
    simp [State.noteHigh, he, hr]
  rw [h]
  exact ⟨by simp, State.eventAt_raise (s := { s with power.highRaised := true }) hroom rfl ..⟩

/-- A second report within an excursion does nothing. -/
theorem State.noteHigh_of_raised (hr : s.power.highRaised = true) : s.noteHigh = s := by
  simp [State.noteHigh, hr]

end

/-! ## The statement about the supply commands -/

/-- Settles O1: each clause is what `start`, `stop` or `noteHigh` does to the supplies that the command sets. -/
theorem supplyCommandsMoveTheNode : Obligations.SupplyCommandsMoveTheNode := by
  unfold Obligations.SupplyCommandsMoveTheNode
  refine ⟨?applied, ?undervolt, ?overvolt, ?recover, ?high, ?highAgain, ?sealBoot, ?highEnd, ?cold⟩
  case applied =>
    intro s mv
    exact ⟨_, rfl, by simp, by simp, fun hn hr ho => State.start_starting hn rfl hr ho⟩
  case undervolt =>
    intro s mv
    exact ⟨_, rfl, s.stop_node .., rfl, fun hn => State.stop_cause_of_ready hn ..⟩
  case overvolt =>
    intro s mv hv
    exact ⟨_, if_pos hv, s.stop_node .., rfl, fun hn => State.stop_cause_of_ready hn ..⟩
  case recover =>
    intro s mv ho
    exact ⟨_, if_pos ho, by simp, by simp, fun hn hv hr => State.start_starting hn hv hr rfl⟩
  case high =>
    intro s mv hr hn hroom
    refine ⟨_, rfl, ?_⟩
    rw [if_neg (by simp [State.isIn, hn])]
    obtain ⟨hpower, hevent⟩ :=
      State.noteHigh_of_due (s := { s with power.vinMv := mv, power.highExc := true }) rfl hr hroom
    exact ⟨by rw [hpower], by rw [hpower], by rw [hpower], hevent⟩
  case highAgain =>
    intro s mv h
    refine ⟨_, rfl, ?_⟩
    split
    next => rfl
    next hoff =>
      have hr : s.power.highRaised = true := h.resolve_right fun hn => hoff (State.isIn_iff.2 hn)
      exact State.noteHigh_of_raised hr
  case sealBoot =>
    intro s hs hn he hr ho hroom
    refine ⟨_, if_pos (by simp [State.isIn, hs, hn]), ?_⟩
    simp only [ho]
    generalize hu : State.setNode _ .sealBoot "" = u
    obtain ⟨hpower, hevent⟩ := State.noteHigh_of_due (s := u) (hu ▸ he) (hu ▸ hr) (hu ▸ hroom)
    subst hu
    exact ⟨by rw [hpower], hevent⟩
  case highEnd =>
    intro s mv
    exact ⟨_, rfl, rfl⟩
  case cold =>
    intro s
    exact ⟨_, rfl, rfl, rfl, rfl, rfl, rfl, fun _ => rfl, s.stop_lifecycle ..⟩

end Sys2Proof.Machine

/-! The pace loop and the thermal limits (chapter 3): what each command sets in a domain, and that it sets no more. -/

namespace Sys2Proof.Machine

/-! ## Domains and stacks after delivery -/

@[simp] theorem State.dom_inputOf (s : State) (c : Instr) (d : Nat) : (s.inputOf c).dom d = s.dom d := by simp [State.dom]
@[simp] theorem State.stk_inputOf (s : State) (c : Instr) (n : Nat) : (s.inputOf c).stk n = s.stk n := by simp [State.stk]
@[simp] theorem State.dom_updStk (s : State) (n d : Nat) (f : Stack → Stack) : (s.updStk n f).dom d = s.dom d := rfl

@[simp] theorem State.ringRoom_inputOf (s : State) (c : Instr) : (s.inputOf c).ringRoom = s.ringRoom := by
  simp [State.ringRoom]

/-- Roles decide which domains a retired bench holds at the floor, and no input changes them. -/
@[simp] theorem State.heldAtFloor_inputOf (s : State) (c : Instr) (d : Nat) :
    (s.inputOf c).heldAtFloor d = s.heldAtFloor d := by
  simp [State.heldAtFloor, allBenches, Benches.role]

/-! ## PACE_PERIOD (R81, R86) -/

/-- What demand alone makes of a domain's voltage: nothing fixes it, holds it back or adds to it. -/
theorem Domain.period_of_demand {v : Domain} {r : DomainReport} (hf : v.fixed = none) (hl : v.limiting = false)
    (hb : r.backlog = false) (hot : Bool) (now : Nat) :
    (v.period r hot now).volt = min ceilVolt (stepVolt * r.lowest) := by
  simp [Domain.period, Domain.atCeiling, hf, hl, hb]

/-- What one domain's part of a period sets, where no retired bench holds it at the floor. -/
theorem State.domainPeriod_dom {s : State} {r : DomainReport} (h : s.heldAtFloor r.dom.val = false) :
    (s.domainPeriod r).dom r.dom.val =
      (s.dom r.dom.val).period r (decide (r.dom.val < 16) && dramHot r.dram) s.ts := by
  simp only [State.domainPeriod, h, Bool.false_eq_true, if_false, State.dom_setDom_self]
  split <;> rfl

@[simp] theorem State.domainPeriod_mem (s : State) (r : DomainReport) : (s.domainPeriod r).mem = s.mem := by
  simp only [State.domainPeriod, State.setDom_mem]
  split <;> rfl

@[simp] theorem State.domainPeriod_ports (s : State) (r : DomainReport) : (s.domainPeriod r).ports = s.ports := by
  simp only [State.domainPeriod, State.setDom_ports]
  split <;> rfl

/-! ## THERMAL_LIMIT_REACHED (R83, R84) -/

/-- The domain of a unit at its limit. -/
theorem State.thermalLimit_dom (s : State) (u : ThermalUnit) (temp : Nat) :
    (s.thermalLimit u temp).dom u.num = { s.dom u.num with
      volt := (s.dom u.num).volt - stepVolt
      issueLim := (s.dom u.num).issueLim || ((s.dom u.num).volt == 0 && !u.isStack)
      limiting := true
      ceilSince := none } := by
  unfold State.thermalLimit
  extract_lets v low s1 s2
  have h2 : s2.dom u.num = low := by simp only [s2]; split <;> simp [s1]
  split
  · exact h2
  · rw [State.raise_dom, h2]

/-- The first report of an excursion is an event. -/
theorem State.thermalLimit_event {s : State} {u : ThermalUnit} (hl : (s.dom u.num).limiting = false)
    (hroom : s.ringRoom = true) (temp : Nat) :
    (s.thermalLimit u temp).eventAt s.events.ring.tail = some Ev.thermalLimit.code := by
  unfold State.thermalLimit
  extract_lets v low s1 s2
  have h2 : s2.events = s.events := by simp only [s2]; split <;> simp [s1]
  have hroom2 : s2.ringRoom = true := by simpa [State.ringRoom, h2] using hroom
  rw [if_neg (by simp [v, hl])]
  clear_value s2
  rw [← h2]
  exact State.eventAt_raise hroom2 rfl ..

/-- A report of a limit in READY takes its effect on the state after its delivery. -/
theorem completes_thermalLimitReached {s : State} {P : State → Prop} {u : ThermalUnit} {temp : Nat} (hn : s.power.node = .ready)
    (ht : s.power.tripped = false) (hg : s.inputsGo = true)
    (hP : P ((s.inputOf (.thermalLimitReached u temp)).thermalLimit u temp)) :
    Completes (.thermalLimitReached u temp) s P := by
  refine ⟨_, ?_, hP⟩
  change execThermalLimitReached u temp s = _
  simp [execThermalLimitReached, State.isIn, hn, ht, State.deliver_of_go _ _ hg]

/-! ## THERMAL_TRIP_TIMER (R66) -/

/-- A trip outside FAILED enters FAILED, and every converter but the wake island's stops. -/
theorem State.thermalTrip_of_running {s : State} (h : s.isIn .failed = false) (u : ThermalUnit) (temp : Nat) :
    (s.thermalTrip u temp).power.node = .failed ∧ (s.thermalTrip u temp).power.tripped = true ∧
      (s.thermalTrip u temp).power.failCode = Ev.thermalTrip.code ∧ (s.thermalTrip u temp).power.pwrGood = false ∧
      (s.thermalTrip u temp).mem = [] ∧ (s.thermalTrip u temp).host.linkUp = false := by
  unfold State.thermalTrip
  extract_lets s0 _ s1 s2
  have h2 : s2 = s1.enterFailed Ev.thermalTrip.code "THERMAL_TRIP" := by simp [s2, h]
  exact ⟨(congrArg (·.power.node) h2 :), rfl, (congrArg (·.power.failCode) h2 :), rfl, (congrArg State.mem h2 :), rfl⟩

/-! ## The ceiling (R86, R653) -/

/-- Once every entry's condition is cleared, no domain has it. -/
theorem ceiling_cleared (m : FMap Domain) (d : Nat) :
    ((m.mapVals (fun v => { v with ceiling := false }) {}).get d {}).ceiling = false := by
  refine FMap.get_of_forall (P := fun v : Domain => v.ceiling = false) (fun e he => ?_) rfl d
  obtain ⟨e', -, rfl⟩ := List.mem_map.1 (List.mem_filter.1 he).1
  rfl

/-! ## The statement about the pace loop -/

/-- Settles O4: each command is delivered at once, and its clause is what its operation sets in the domain or the stack. -/
theorem paceAndThermalCommandsAct : Obligations.PaceAndThermalCommandsAct := by
  unfold Obligations.PaceAndThermalCommandsAct
  refine ⟨?period, ?limit, ?floor, ?excursionEnd, ?heldBack, ?trip, ?ceiling, ?clear, ?calibration⟩
  case period =>
    intro s r hn ht hfloor hfix hlim hb hg
    refine ⟨(s.inputOf (.pacePeriod [r])).domainPeriod r, ?_, ?_⟩
    · change execPacePeriod [r] s = _
      simp [execPacePeriod, State.isIn, hn, ht, State.deliver_of_go _ _ hg]
    · dsimp only
      rw [State.domainPeriod_dom (by simpa using hfloor), State.dom_inputOf]
      exact ⟨Domain.period_of_demand hfix hlim hb .., rfl, rfl, by simp, by simp⟩
  case limit =>
    intro s u temp hn ht hlim hroom hg
    refine completes_thermalLimitReached hn ht hg ?_
    rw [State.thermalLimit_dom, State.dom_inputOf]
    refine ⟨rfl, rfl, ?_⟩
    simpa using State.thermalLimit_event (s := s.inputOf (.thermalLimitReached u temp)) (by simpa using hlim)
      (by simpa using hroom) temp
  case floor =>
    intro s d temp hn ht hv hg
    refine completes_thermalLimitReached hn ht hg ?_
    have h := (s.inputOf (.thermalLimitReached (.domain d) temp)).thermalLimit_dom (.domain d) temp
    simp only [ThermalUnit.num, State.dom_inputOf] at h
    rw [h]
    simp [hv, ThermalUnit.isStack]
  case excursionEnd =>
    intro s d hlim hback hg
    refine ⟨(s.inputOf (.thermalExcursionEnd d)).setDom d.val { s.dom d.val with limiting := false }, ?_, by simp⟩
    change execThermalExcursionEnd d s = _
    simp [execThermalExcursionEnd, hlim, hback, State.deliver_of_go _ _ hg]
  case heldBack =>
    intro s d hback
    refine ⟨s, ?_, rfl⟩
    change execThermalExcursionEnd d s = _
    simp [execThermalExcursionEnd, hback]
  case trip =>
    intro s u temp hn ht hg
    refine ⟨(s.inputOf (.thermalTripTimer u temp)).thermalTrip u temp, ?_, ?_⟩
    · change execThermalTripTimer u temp s = _
      simp [execThermalTripTimer, State.isIn, hn, ht, State.deliver_of_go _ _ hg]
    · exact State.thermalTrip_of_running (by simp [State.isIn, hn]) u temp
  case ceiling =>
    intro s d hsince hg
    obtain ⟨t, hsince⟩ := Option.isSome_iff_exists.1 hsince
    refine ⟨((s.inputOf (.paceCeilingTimer d)).setDom d.val { s.dom d.val with ceiling := true }).settle, ?_, by simp⟩
    change execPaceCeilingTimer d s = _
    simp [execPaceCeilingTimer, hsince, State.deliver_of_go _ _ hg]
  case clear =>
    intro s hnone hg
    refine ⟨State.settle { s.inputOf .paceCeilingClearTimer with
      domains := s.domains.mapVals (fun v => { v with ceiling := false }) {} }, ?_, fun d => ?_⟩
    · change execPaceCeilingClearTimer s = _
      simp [execPaceCeilingClearTimer, hnone, State.deliver_of_go _ _ hg]
    · rw [State.settle_dom]
      exact ceiling_cleared s.domains d
  case calibration =>
    intro s n c x hn hlost hfreeze hg
    refine ⟨(s.inputOf (.dramCalibration n c x)).updStk n.val fun k => { k with
      calib := k.calib.set c.val (k.calib.get c.val 0 + x) 0, calibPend := k.calibPend.set c.val 0 0 }, ?_, by simp⟩
    change execDramCalibration n c x s = _
    simp only [execDramCalibration, hfreeze, Bool.false_eq_true, if_false]
    simp [State.isIn, hn, hlost, State.deliver_of_go _ _ hg]

end Sys2Proof.Machine

/-! The host port (chapter 20): the resets of its function, its link's width, and reads and writes of BAR2 inside one line. -/

namespace Sys2Proof.Machine

/-! ## Releasing waits (R387) -/

theorem mem_insertBy {α : Type} (lt : α → α → Bool) (a x : α) (l : List α) : x ∈ insertBy lt a l ↔ x = a ∨ x ∈ l := by
  induction l with
  | nil => simp [insertBy]
  | cons b l ih =>
    simp only [insertBy]
    split
    · simp
    · simp only [List.mem_cons, ih]
      exact or_left_comm

theorem mem_sortBy {α : Type} (lt : α → α → Bool) (x : α) (l : List α) : x ∈ sortBy lt l ↔ x ∈ l := by
  have key : ∀ (l acc : List α), x ∈ l.foldl (fun acc a => insertBy lt a acc) acc ↔ x ∈ l ∨ x ∈ acc := by
    intro l
    induction l with
    | nil => simp
    | cons a l ih =>
      intro acc
      rw [List.foldl_cons, ih, mem_insertBy, List.mem_cons]
      tauto
  simpa [sortBy] using key l []

/-- A wait that still waits after one was released waited before, and is another. -/
theorem State.waiting_releaseOne {s : State} {st : Status} {v w : Wait} (hw : w ∈ (s.releaseOne st v).sync.waits)
    (hwait : w.isWaiting = true) : w ∈ s.sync.waits ∧ w.id ≠ v.id := by
  have hmerge : ∀ x ∈ (s.mergeOlder v).sync.waits, x ∈ s.sync.waits := by
    unfold State.mergeOlder
    split
    · exact fun x hx => hx
    · exact fun x hx => (List.mem_filter.1 hx).1
  have hpending : w ∈ ((s.mergeOlder v).setPhase v.id (.pending st)).sync.waits → w ∈ s.sync.waits ∧ w.id ≠ v.id := by
    intro h
    obtain ⟨x, hx, rfl⟩ := List.mem_map.1 h
    split at hwait
    · cases hwait
    next hid => exact ⟨by simpa only [if_neg hid] using hmerge x hx, by simpa only [if_neg hid] using hid⟩
  have hfreed : w ∈ ((s.freeWait v.id).discard v.tenant 1).sync.waits → w ∈ s.sync.waits ∧ w.id ≠ v.id := by
    intro h
    simpa using List.mem_filter.1 h
  unfold State.releaseOne at hw
  split at hw
  · split at hw
    · exact hpending hw
    · exact hfreed hw
  · exact hpending hw

/-- Releasing every registered wait of a kind leaves none of the kind registered. -/
theorem State.not_waiting_releaseAll {s : State} {p : Wait → Bool} {st : Status} {w : Wait}
    (hw : w ∈ (s.releaseAll p st).sync.waits) (hp : p w = true) : w.isWaiting = false := by
  have key : ∀ (l : List Wait) (u : State), w ∈ (l.foldl (fun t v => t.releaseOne st v) u).sync.waits → w.isWaiting = true →
      w ∈ u.sync.waits ∧ ∀ v ∈ l, w.id ≠ v.id := by
    intro l
    induction l with
    | nil => exact fun u h _ => ⟨h, by simp⟩
    | cons v l ih =>
      intro u h hwait
      obtain ⟨hmem, hids⟩ := ih _ h hwait
      obtain ⟨hu, hv⟩ := State.waiting_releaseOne hmem hwait
      exact ⟨hu, List.forall_mem_cons.2 ⟨hv, hids⟩⟩
  by_contra hwait
  rw [Bool.not_eq_false] at hwait
  obtain ⟨hs, hids⟩ := key _ s hw hwait
  exact hids w ((mem_sortBy _ _ _).2 (List.mem_filter.2 ⟨hs, by simp [hwait, hp]⟩)) rfl

/-! ## Resets of the host function (R47, R666) -/

/-- What a reset of the function leaves of each part of the state. -/
theorem State.resetFunction_frame (s : State) :
    s.resetFunction.sansSync = { s.sansSync with
      host := { s.host with
        d3hot := false, snaps := s.host.snaps.filter (fun e => e.1 != Interface.host)
        waiting := s.host.waiting.filter (!isHostRead ·) }
      bench := { s.bench with heldIn := s.bench.heldIn.filter (!isHostRead ·) }
      delayed := []
      events := { s.events with
        masked := BitVec.allOnes 256, pba := 0, armed := BitVec.allOnes 256
        ring := { s.events.ring with slots := [], head := s.events.ring.tail, overflow := 0 } }
      bureau.lock := if s.bureau.lock = .host then .free else s.bureau.lock } :=
  State.sansSync_releaseAll ..

section
variable (s : State)

@[simp] theorem State.resetFunction_events : s.resetFunction.events = { s.events with
    masked := BitVec.allOnes 256, pba := 0, armed := BitVec.allOnes 256
    ring := { s.events.ring with slots := [], head := s.events.ring.tail, overflow := 0 } } :=
  (congrArg State.events s.resetFunction_frame :)
@[simp] theorem State.resetFunction_host : s.resetFunction.host = { s.host with
    d3hot := false, snaps := s.host.snaps.filter (fun e => e.1 != Interface.host)
    waiting := s.host.waiting.filter (!isHostRead ·) } := (congrArg State.host s.resetFunction_frame :)
@[simp] theorem State.resetFunction_lock :
    s.resetFunction.bureau.lock = if s.bureau.lock = .host then .free else s.bureau.lock :=
  (congrArg (·.bureau.lock) s.resetFunction_frame :)
@[simp] theorem State.resetFunction_delayed : s.resetFunction.delayed = [] := (congrArg State.delayed s.resetFunction_frame :)
@[simp] theorem State.resetFunction_power : s.resetFunction.power = s.power := (congrArg State.power s.resetFunction_frame :)
@[simp] theorem State.resetFunction_mem : s.resetFunction.mem = s.mem := (congrArg State.mem s.resetFunction_frame :)
@[simp] theorem State.resetFunction_jny : s.resetFunction.jny = s.jny := (congrArg State.jny s.resetFunction_frame :)
@[simp] theorem State.resetFunction_sec : s.resetFunction.sec = s.sec := (congrArg State.sec s.resetFunction_frame :)
@[simp] theorem State.resetFunction_ports : s.resetFunction.ports = s.ports := (congrArg State.ports s.resetFunction_frame :)

end

/-- No wait that the host owns waits any more after a reset of the function. -/
theorem State.not_waiting_resetFunction {s : State} {w : Wait} (hw : w ∈ s.resetFunction.sync.waits) (ho : w.owner = .host) :
    w.isWaiting = false :=
  State.not_waiting_releaseAll hw (by simp [ho])

/-- PERST_N, a hot reset and FLR reset the function, and besides that touch the link and the retention record alone. -/
theorem exec_functionReset {s : State} {c : Instr}
    (hc : c = .perstNAssert ∨ (s.host.linkUp = true ∧ (c = .hotReset ∨ c = .flr))) :
    ∃ (h : HostPort) (p : Power), exec c s = .next { (s.portInput c).resetFunction with host := h, power := p } ∧
      h.d3hot = false ∧ h.waiting = s.host.waiting.filter (!isHostRead ·) ∧ p.node = s.power.node ∧
      (c = .perstNAssert → h.linkUp = false ∧ h.perstLow = true) := by
  rcases hc with rfl | ⟨hl, rfl | rfl⟩
  · exact ⟨_, _, rfl, by simp [HostPort.down], by simp [HostPort.down], by simp, fun _ => ⟨rfl, rfl⟩⟩
  · exact ⟨(s.portInput .hotReset).resetFunction.host, (s.portInput .hotReset).resetFunction.power,
      congrArg Host.Outcome.next (if_pos hl), by simp, by simp, by simp, nofun⟩
  · exact ⟨(s.portInput .flr).resetFunction.host, (s.portInput .flr).resetFunction.power,
      congrArg Host.Outcome.next (if_pos hl), by simp, by simp, by simp, nofun⟩

/-! ## The link's width (R45, R111) -/

theorem HostPort.widest_le_partner (h : HostPort) : h.widest ≤ h.partner := by
  unfold HostPort.widest
  split
  · exact Nat.zero_le _
  · cases hf : [16, 8, 4, 1].find? fun w => decide (w ≤ h.partner) && (decide (w ≤ 8) || h.cableJ2) with
    | none => exact Nat.zero_le _
    | some w =>
      have := List.find?_some hf
      simp only [Bool.and_eq_true, decide_eq_true_eq] at this
      exact this.1

theorem HostPort.widest_of_no_J1 {h : HostPort} (hj : h.cableJ1 = false) : h.widest = 0 := by simp [HostPort.widest, hj]

/-- With J1 and a partner that takes ×16, J2 decides between ×16 and ×8. -/
theorem HostPort.widest_of_J1 {h : HostPort} (hj : h.cableJ1 = true) (hp : 16 ≤ h.partner) :
    h.widest = if h.cableJ2 then 16 else 8 := by
  have h8 : 8 ≤ h.partner := by omega
  cases h2 : h.cableJ2 <;> simp [HostPort.widest, List.find?, hj, hp, h8, h2]

/-- The link trains to the widest width there is, and is up where there is one. -/
theorem HostPort.train_of_high {h : HostPort} (hp : h.perstLow = false) :
    h.train.width = h.widest ∧ h.train.linkUp = decide (h.train.width ≠ 0) ∧ h.train.perstLow = false := by
  unfold HostPort.train
  by_cases hw : h.widest = 0 <;> simp [HostPort.down, hp, hw]

/-! ## Windows of BAR2 (R159, R672) -/

/-- Part of a line is one piece. -/
theorem pieces_of_line {off n : Nat} (h1 : 1 ≤ n) (h : off % 64 + n ≤ 64) : pieces off n = [(off / 64, off % 64, n)] := by
  have hn : n ≠ 0 := by omega
  have hlines : (off + n - 1) / 64 - off / 64 + 1 = 1 := by omega
  have hlen : min 64 (off + n - off / 64 * 64) - off % 64 = n := by omega
  simp [pieces, hn, hlines, hlen]

/-- A string's own length of bytes from its start is the string. -/
theorem sub_whole {bs : List Byte} {n : Nat} (h : bs.length = n) : sub bs 0 n = bs := by
  simpa using sub_append_left bs [] n h

/-- A window begins at a multiple of 64 KiB. -/
theorem State.window_base {s : State} {off d o : Nat} (h : s.window off = some (d, o)) : ∃ k, off = k * 65536 + o := by
  unfold State.window at h
  obtain ⟨r, hr, he⟩ := Option.map_eq_some_iff.1 h
  have hin := List.find?_some hr
  simp only [Bool.and_eq_true, decide_eq_true_eq] at hin
  simp only [Prod.mk.injEq] at he
  exact ⟨r.bar2, by omega⟩

section
variable {s u : State} {P : State → Prop} {off d o l : Nat}

theorem State.windowCheck_of_none (h : s.window off = none) : s.windowCheck off = .inr .range := by
  simp [State.windowCheck, h]

theorem State.windowCheck_of_open (h : s.window off = some (d, o)) (hf : s.drawerFrozen d = false) (hw : s.sweeping d = false) :
    s.windowCheck off = .inl (d, o) := by
  simp [State.windowCheck, h, hf, hw]

@[simp] theorem State.windowCheck_inputOf (s : State) (c : Instr) (off : Nat) :
    (s.inputOf c).windowCheck off = s.windowCheck off := by
  simp [State.windowCheck, State.window, State.records, State.drawerFrozen, State.sweeping, State.drw]

@[simp] theorem State.livePlaces_inputOf (s : State) (c : Instr) (d b : Nat) :
    (s.inputOf c).livePlaces d b = s.livePlaces d b := by
  simp [State.livePlaces, State.place]

@[simp] theorem State.withFound_nil (s : State) : s.withFound [] = s := by
  simp [State.withFound]

/-! ## Lines without damage (Table 10–2) -/

/-- Where no cell holds damage and nothing is injected, a check finds nothing to correct. -/
theorem State.codeAt_of_undamaged (h : s.undamaged) (stack pl : Nat) : s.codeAt stack pl = (s, .clean, false) := by
  obtain ⟨hfaults, hinject⟩ := h
  simp [State.codeAt, hinject stack, State.damageAt, hfaults]

/-- A line with the current tag and no poison reads as it is stored. -/
theorem State.readLine_of_clean (h : s.undamaged) (ht : s.tagOk d l = true) (hp : s.poisonBit d l = false)
    (hl : s.livePlaces d (l / 1024) ≠ []) :
    s.readLine 0 d l = (s, { data := s.lineBytes d l, poisoned := false, corr := 0, newly := false }) := by
  obtain ⟨⟨stack, phys⟩, rest, hplaces⟩ := List.exists_cons_of_ne_nil hl
  simp [State.readLine, State.readFrom, hplaces, ht, hp, State.codeAt_of_undamaged h, State.recordCheck, Check.corr]

/-- The delivery of an input changes nothing that the read of such a line looks at. -/
theorem State.readLine_inputOf_of_clean (c : Instr) (h : s.undamaged) (ht : s.tagOk d l = true)
    (hp : s.poisonBit d l = false) (hl : s.livePlaces d (l / 1024) ≠ []) :
    (s.inputOf c).readLine 0 d l =
      (s.inputOf c, { data := s.lineBytes d l, poisoned := false, corr := 0, newly := false }) := by
  have hdata : (s.inputOf c).lineBytes d l = s.lineBytes d l := by simp [State.lineBytes]
  rw [State.readLine_of_clean, hdata]
  · simpa [State.undamaged] using h
  · simpa [State.tagOk, State.lineTag, State.curTag, State.gen, State.drw] using ht
  · simpa [State.poisonBit] using hp
  · rwa [State.livePlaces_inputOf]

/-! ## Reads of BAR2 (R672) -/

theorem State.isReady_iff : s.isReady = true ↔ s.power.node = .ready := State.isIn_iff

/-- While no write is in its way, an access of BAR2 finds no host write that waits. -/
theorem State.not_writeHeld_of_hostHeld (h : s.hostHeld = false) : s.writeHeld = false ∧ s.host.waiting = [] := by
  simpa [State.hostHeld] using h

/-- A completion goes at once where the spare's lag does not delay it (R300). -/
theorem State.complete_of_unthrottled (h : s.bench.throttled = false) (x : Out) : s.complete_ x = s.emit x := by
  simp [State.complete_, h]

@[simp] theorem State.complete_host (s : State) (x : Out) : (s.complete_ x).host = s.host := by
  unfold State.complete_; split <;> rfl
@[simp] theorem State.complete_mem (s : State) (x : Out) : (s.complete_ x).mem = s.mem := by
  unfold State.complete_; split <;> rfl
@[simp] theorem State.hostErr_mem (s : State) (kind : Nat) (st : Status) (off : Nat) (bar2 : Bool) :
    (s.hostErr kind st off bar2).mem = s.mem := rfl
@[simp] theorem State.hostErr_out (s : State) (kind : Nat) (st : Status) (off : Nat) (bar2 : Bool) :
    (s.hostErr kind st off bar2).out = s.out := rfl

/-- What a served BAR2 read answers, once it has read: its completion, the record of what it met, and health. -/
def State.bar2Answer (s : State) (off : Nat) (r : Bar2Read) : State :=
  ((r.err.elim id fun e u => u.hostErr errBar2Read e off true) (s.complete_ (.hostRead 2 off r.data r.poisoned))).settle

/-- The completion of a served read goes out where the spare's lag does not delay it. -/
theorem State.mem_out_bar2Answer (h : s.bench.throttled = false) (off : Nat) (r : Bar2Read) :
    .hostRead 2 off r.data r.poisoned ∈ (s.bar2Answer off r).out := by
  refine (State.announces_settle _).mem_out ?_
  rw [State.complete_of_unthrottled h]
  cases r.err <;> simp [State.emit]

@[simp] theorem State.bar2Answer_mem (s : State) (off : Nat) (r : Bar2Read) : (s.bar2Answer off r).mem = s.mem := by
  cases he : r.err <;> simp [State.bar2Answer, he]

/-- A BAR2 read inside one line, in READY, answers what the line's piece gives. -/
theorem completes_bar2Read {n : Nat} {r : Bar2Read} (ho : s.barOpen = true) (hh : s.hostHeld = false)
    (hd : s.host.d3hot = false) (hn : s.power.node = .ready) (hg : s.inputsGo = true) (h1 : 1 ≤ n) (hl : off % 64 + n ≤ 64)
    (hb : off + n ≤ bar2Size)
    (hr : (s.inputOf (.bar2Read off n [])).bar2Piece { data := [], poisoned := false, err := none } (off / 64, off % 64, n) = (u, r))
    (hP : P (u.bar2Answer off r)) : Completes (.bar2Read off n []) s P := by
  have hsize : ¬ (n = 0 ∨ 4096 < n) := by omega
  have hbar : ¬ bar2Size < off + n := by omega
  refine ⟨_, ?_, hP⟩
  change execBar2Read off n [] s = _
  cases he : r.err <;> simp [execBar2Read, ho, hsize, hh, hd, hbar, State.isReady_iff.2 hn, State.deliver_of_go _ _ hg,
    pieces_of_line h1 hl, hr, State.bar2Answer, he]

/-! ## Writes of BAR2 (R672, R340) -/

@[simp] theorem State.storeCells_host (s : State) (stack pl : Nat) : (s.storeCells stack pl).host = s.host := by
  unfold State.storeCells
  dsimp only
  repeat' split
  all_goals rfl

/-- A whole line is stored in each live copy, whatever the line held. -/
theorem State.writeLine_of_whole {data : List Byte} (hd : data.length = 64) (hl : s.livePlaces d (l / 1024) ≠ []) :
    s.writeLine d l 0 data =
      ((s.livePlaces d (l / 1024)).foldl (fun v x => v.storeCells x.1 (x.2 * 1024 + l % 1024)) (s.storeLine d l data), false) := by
  simp [State.writeLine, hl, hd]

/-- A range that is one whole line; the host port's registers stay. -/
theorem State.writeRange_of_line {data : List Byte} (hd : data.length = 64) (ho : o % 64 = 0)
    (hl : s.livePlaces d (o / 64 / 1024) ≠ []) :
    (s.writeRange d o data).2 = none ∧ (s.writeRange d o data).1.mem = FMap.setRun 0 s.mem (addr d o) data ∧
      (s.writeRange d o data).1.host = s.host := by
  have hpieces : pieces o data.length = [(o / 64, 0, 64)] := by rw [hd, pieces_of_line (by omega) (by omega), ho]
  have hline : o / 64 * 64 = o := by omega
  have hrange : s.writeRange d o data = ((s.writeLine d (o / 64) 0 data).1, none) := by
    simp [State.writeRange, hpieces, hline, sub_whole hd, State.writeLine_of_whole hd hl]
  rw [hrange, State.writeLine_of_whole hd hl]
  refine ⟨rfl, ?_, foldl_keeps State.host _ (fun _ _ => by simp) _ _⟩
  rw [State.mem_cells, State.mem_storeLine, hline]

/-- A BAR2 write of one whole line, in READY, whose blocks are writable, does what the store does. -/
theorem completes_bar2Write {data : List Byte} (ho : s.barOpen = true) (hh : s.hostHeld = false)
    (hd : s.host.d3hot = false) (hn : s.power.node = .ready) (hg : s.inputsGo = true) (hlen : data.length = 64)
    (hoff : off % 64 = 0) (hb : off + 64 ≤ bar2Size) (hc : s.windowCheck off = .inl (d, o))
    (hu : (s.inputOf (.bar2Write off data [])).claimRange d o 64 = some (s.inputOf (.bar2Write off data [])))
    (hl : s.livePlaces d (o / 64 / 1024) ≠ []) (ho64 : o % 64 = 0)
    (hP : P ((s.inputOf (.bar2Write off data [])).writeRange d o data).1.settle) : Completes (.bar2Write off data []) s P := by
  obtain ⟨hheld, hwaiting⟩ := State.not_writeHeld_of_hostHeld hh
  have hlive : (s.inputOf (.bar2Write off data [])).livePlaces d (o / 64 / 1024) ≠ [] := by simpa using hl
  have hempty : data ≠ [] := by rintro rfl; cases hlen
  have hbar : ¬ bar2Size < off + 64 := by omega
  have hpieces : pieces off 64 = [(off / 64, 0, 64)] := by rw [pieces_of_line (by omega) (by omega), hoff]
  have hline : off / 64 * 64 = off := by omega
  have hheld' : (s.inputOf (.bar2Write off data [])).writeHeld = false := by simpa [State.writeHeld] using hheld
  refine ⟨_, ?_, hP⟩
  change execBar2Write off data [] s = _
  simp [execBar2Write, ho, hempty, hwaiting, hd, hlen, hbar, State.isReady_iff.2 hn, State.deliver_of_go _ _ hg, hpieces,
    State.bar2Store, hline, hc, sub_whole hlen, hheld', State.hostStore, hu, (State.writeRange_of_line hlen ho64 hlive).1]

/-- What storing a line at its place does to the bytes of drawers. -/
theorem byteOf_of_setRun {t : State} {data : List Byte} (hm : t.mem = FMap.setRun 0 s.mem (addr d o) data)
    (ho : o + data.length ≤ 2 ^ 40) :
    (∀ i, i < data.length → t.byteOf d (o + i) = data.getD i 0) ∧
      ∀ e x, x < 2 ^ 40 → ¬ (e = d ∧ o ≤ x ∧ x < o + data.length) → t.byteOf e x = s.byteOf e x := by
  constructor
  · intro i hi
    have haddr : addr d (o + i) = addr d o + i := (Nat.add_assoc ..).symm
    rw [State.byteOf, hm, haddr, FMap.get_setRun_in _ _ _ _ hi, List.getD_eq_getElem _ _ hi]
  · intro e x hx hout
    rw [State.byteOf, hm, FMap.get_setRun_out, State.byteOf]
    unfold addr
    rcases Nat.lt_trichotomy e d with h | rfl | h <;> omega

end

/-! ## The statement about BAR2 and the resets of the function -/

/-- Settles O49: reads and writes of BAR2 act on the state after their delivery, and a reset of the function keeps all but what
`resetFunction_frame` names. -/
theorem bar2AndFunctionResetsAct : Obligations.Bar2AndFunctionResetsAct := by
  unfold Obligations.Bar2AndFunctionResetsAct
  refine ⟨?read, ?outside, ?early, ?write, ?resets, ?behind, ?train, ?d3hot⟩
  case read =>
    intro s off n d o hopen hheld hd3 hn hg hthr h1 hl hb hwin hfrozen hsweep hclean htag hpoison hlive
    obtain ⟨k, rfl⟩ := State.window_base hwin
    have hline : (k * 65536 + o) / 64 * 64 + (k * 65536 + o) % 64 = k * 65536 + o := by omega
    refine completes_bar2Read hopen hheld hd3 hn hg h1 hl hb (u := s.inputOf (.bar2Read (k * 65536 + o) n []))
      (r := { data := sub (s.lineBytes d (o / 64)) ((k * 65536 + o) % 64) n, poisoned := false, err := none }) ?_ ?_
    · simp [State.bar2Piece, hline, State.windowCheck_of_open hwin hfrozen hsweep,
        State.readLine_inputOf_of_clean _ hclean htag hpoison hlive]
    · exact ⟨State.mem_out_bar2Answer (by simpa using hthr) .., by simp, by simp [State.bar2Answer]⟩
  case outside =>
    intro s off n hopen hheld hd3 hn hg hthr h1 hl hb hwin herr
    have hline : off / 64 * 64 + off % 64 = off := by omega
    refine completes_bar2Read hopen hheld hd3 hn hg h1 hl hb (u := s.inputOf (.bar2Read off n []))
      (r := { data := List.replicate n 0xFF, poisoned := false, err := some .range }) ?_ ?_
    · simp [State.bar2Piece, hline, State.windowCheck_of_none hwin]
    · exact ⟨State.mem_out_bar2Answer (by simpa using hthr) .., by simp, by simp [State.bar2Answer, State.hostErr, herr]⟩
  case early =>
    intro s off n found hopen hheld hd3 hn hg h1 h4096 hb
    have hsize : ¬ (n = 0 ∨ 4096 < n) := by omega
    have hbar : ¬ bar2Size < off + n := by omega
    have hready : s.isReady = false := by simpa [State.isReady, State.isIn] using hn
    refine ⟨_, ?_, rfl⟩
    change execBar2Read off n found s = _
    simp [execBar2Read, hopen, hsize, hheld, hd3, hbar, hready, State.deliver_of_go _ _ hg]
  case write =>
    rintro s off data d o u hopen hheld hd3 hn hg hlen hoff hb hwin hfrozen hsweep rfl hclaim hlive
    obtain ⟨k, rfl⟩ := State.window_base hwin
    have ho64 : o % 64 = 0 := by omega
    have hsmall : o + data.length ≤ 2 ^ 40 := by unfold bar2Size at hb; omega
    rw [State.withFound_nil] at hclaim
    refine completes_bar2Write hopen hheld hd3 hn hg hlen hoff hb (State.windowCheck_of_open hwin hfrozen hsweep) hclaim hlive
      ho64 ?_
    obtain ⟨-, hmem, hhost⟩ := State.writeRange_of_line (s := s.inputOf (.bar2Write (k * 65536 + o) data [])) hlen ho64
      (by simpa using hlive)
    obtain ⟨hin, hout⟩ := byteOf_of_setRun (s := s) (t := State.settle _) (by simpa using hmem) hsmall
    rw [hlen] at hin hout
    exact ⟨hin, by simpa using hhost, hout⟩
  case resets =>
    intro s c hc
    obtain ⟨h, p, hexec, hd3, hwaiting, hnode, hperst⟩ := exec_functionReset hc
    exact ⟨_, hexec, by simp, by simp, by simp [Ring.unread], by simp, by simp, hd3, by simp,
      fun _ => State.not_waiting_resetFunction, by simp, hnode, by simp, by simp, by simp, hperst, by simp, hwaiting⟩
  case behind =>
    intro s off n found hopen hheld h1 h4096
    have hsize : ¬ (n = 0 ∨ 4096 < n) := by omega
    refine ⟨_, ?_, rfl⟩
    change execBar2Read off n found s = _
    simp [execBar2Read, hopen, hsize, hheld, State.hostWait]
  case train =>
    intro s j1 j2 partner hcab hlow ht hoff hseal hret
    obtain ⟨hwidth, hup, hhigh⟩ := HostPort.train_of_high
      (h := { s.host with perstLow := false, cableJ1 := j1, cableJ2 := j2, partner := partner }) rfl
    refine ⟨{ s with host := HostPort.train { s.host with
      perstLow := false, cableJ1 := j1, cableJ2 := j2, partner := partner } }, ?_, rfl, hhigh, hup, ?_, ?_, ?_⟩
    · change execPerstNDeassert s = _
      simp [execPerstNDeassert, hcab, hlow, ht, State.isIn, hoff, hseal, hret]
    · exact fun hj => hwidth.trans (HostPort.widest_of_no_J1 hj)
    · exact fun hj hp => hwidth.trans (HostPort.widest_of_J1 hj hp)
    · exact hwidth.trans_le (HostPort.widest_le_partner _)
  case d3hot =>
    intro s hl
    refine ⟨_, rfl, ?_⟩
    rw [if_pos hl]

end Sys2Proof.Machine

/-! The placement loop (chapter 3): booking a block move, switching the block to its destination, and abandoning the move. -/

namespace Sys2Proof.Machine

/-! ## Delivery and the measurements of R91 -/

/-- Delivering an input changes the benches alone. -/
theorem State.inputOf_eq (s : State) (c : Instr) : s.inputOf c = { s with bench := (s.inputOf c).bench } := by
  unfold State.inputOf
  split <;> rfl

/-- The measurements of the stacks do not look at the benches. -/
theorem State.measure_bench (reports : List StackReport) (b : Benches) :
    ∀ s : State, State.measure { s with bench := b } reports = { s.measure reports with bench := b } := by
  induction reports with
  | nil => exact fun _ => rfl
  | cons r rs ih => exact fun s => ih (s.updStk r.stack.val fun k => { k with demand := r.demand, corrected := r.corrected })

/-- What R94 asks of a move does not depend on the benches. -/
@[simp] theorem State.mayMove_inputOf (s : State) (c : Instr) (d b k dest : Nat) :
    (s.inputOf c).mayMove d b k dest = s.mayMove d b k dest := by
  rw [State.inputOf_eq]
  rfl

@[simp] theorem State.stk_measure_inputOf (s : State) (c : Instr) (reports : List StackReport) (n : Nat) :
    ((s.inputOf c).measure reports).stk n = (s.measure reports).stk n := by
  rw [State.inputOf_eq, State.measure_bench]
  rfl

/-- A move that the measured stacks allow is allowed as well once the input has been delivered. -/
@[simp] theorem State.moveAllowed_measure_inputOf (s : State) (c : Instr) (reports : List StackReport) (d b k dest phys : Nat) :
    ((s.inputOf c).measure reports).moveAllowed reports d b k dest phys =
      (s.measure reports).moveAllowed reports d b k dest phys := by
  rw [State.inputOf_eq, State.measure_bench]
  rfl

/-! ## The stored blocks of drawers -/

/-- `t` has the stored bytes, tags and poison bits, the translation table and the moves under way of `s`. -/
@[simp] abbrev State.SameBlocks (s t : State) : Prop :=
  t.mem = s.mem ∧ t.dram.tags = s.dram.tags ∧ t.dram.poison = s.dram.poison ∧ t.dram.dtt = s.dram.dtt ∧
    t.dram.moves = s.dram.moves

theorem State.SameBlocks.trans {s t u : State} (h : s.SameBlocks t) (k : t.SameBlocks u) : s.SameBlocks u := by
  simpa [h] using k

theorem State.SameBlocks.of_foldl {α : Type} {g : State → α → State} (h : ∀ (u : State) (x : α), u.SameBlocks (g u x))
    (l : List α) (s : State) : s.SameBlocks (l.foldl g s) :=
  foldl_holds (s.SameBlocks ·) g (fun u x hu => State.SameBlocks.trans hu (h u x)) l s (by simp)

@[simp] theorem State.sameBlocks_updStk (s : State) (n : Nat) (f : Stack → Stack) : s.SameBlocks (s.updStk n f) :=
  ⟨rfl, rfl, rfl, rfl, rfl⟩

@[simp] theorem State.sameBlocks_measure (s : State) (reports : List StackReport) : s.SameBlocks (s.measure reports) :=
  State.SameBlocks.of_foldl (fun u _ => u.sameBlocks_updStk ..) reports s

theorem State.Announces.sameBlocks {s t : State} (h : s.Announces t) : s.SameBlocks t :=
  ⟨(congrArg State.mem h.rest :), (congrArg (·.dram.tags) h.rest :), (congrArg (·.dram.poison) h.rest :),
    (congrArg (·.dram.dtt) h.rest :), (congrArg (·.dram.moves) h.rest :)⟩

@[simp] theorem State.sameBlocks_counterWrap (s : State) (off : Nat) : s.SameBlocks (s.counterWrap off) :=
  (s.announces_note ..).sameBlocks

@[simp] theorem State.sameBlocks_countMoved (s : State) (n : Nat) (into : Bool) : s.SameBlocks (s.countMoved n into) := by
  unfold State.countMoved
  extract_lets k r s1
  have h1 : s.SameBlocks s1 := s.sameBlocks_updStk n fun _ => _
  split
  · exact State.SameBlocks.trans h1 (s1.sameBlocks_counterWrap _)
  · exact h1

/-- Abandoning moves ends them, and leaves every block where it was (R95). -/
@[simp] theorem State.sameBlocks_abandonMoves (s : State) (q : Move → Bool) :
    State.SameBlocks { s with dram.moves := s.dram.moves.filter (!q ·) } (s.abandonMoves q) :=
  State.SameBlocks.of_foldl (fun u (m : Move) => u.sameBlocks_updStk m.stack _) _ _

/-- Where a block lies is a matter of the translation table alone. -/
theorem State.place_congr {s t : State} (h : t.dram.dtt = s.dram.dtt) (d b c : Nat) : t.place d b c = s.place d b c := by
  simp only [State.place, h]

/-- The newest entry of the translation table decides for its block. -/
theorem State.place_of_head {s : State} {es : List Extent} {d b c n p : Nat}
    (h : s.dram.dtt = { drawer := d, copy := c, first := b, count := 1, stack := n, phys := p } :: es) :
    s.place d b c = some (n, p) := by
  simp [State.place, h]

/-! ## Booking a move (R91) -/

/-- The state with a move booked: a headroom block of its destination is taken. -/
def State.bookMove (s : State) (m : Move) : State :=
  let u := s.updStk m.stack fun k => { k with headroom := k.headroom - 1 }
  { u with dram.moves := u.dram.moves ++ [m] }

theorem State.bookMove_frame (s : State) (m : Move) : (s.bookMove m).mem = s.mem ∧
    (s.bookMove m).dram.moves = s.dram.moves ++ [m] ∧
    ((s.bookMove m).stk m.stack).headroom = (s.stk m.stack).headroom - 1 :=
  ⟨rfl, rfl, congrArg Stack.headroom (s.stk_updStk_self m.stack fun k => { k with headroom := k.headroom - 1 })⟩

/-- PLACEMENT_EVALUATION books a move that the measured stacks allow. -/
theorem execPlacementEvaluation_of_allowed {s : State} {reports : List StackReport} {d b c : Nat} {n : Fin 16} {p : Nat}
    (ha : (s.measure reports).moveAllowed reports d b c n.val p = true) (hg : s.inputsGo = true) :
    execPlacementEvaluation reports d b c n p s =
      .next (((s.inputOf (.placementEvaluation reports d b c n p)).measure reports).bookMove
        { drawer := d, block := b, copy := c, stack := n.val, phys := p }) := by
  simp [execPlacementEvaluation, State.bookMove, State.deliver_of_go _ _ hg, ha]

/-! ## Switching a block to its destination (R37) -/

/-- The state with a block at its move's destination; the block that it leaves on stack `old` is headroom. -/
def State.switchBlock (s : State) (d b c : Nat) (m : Move) (old : Nat) : State :=
  (((State.updStk { s with
      dram.moves := s.dram.moves.filter (· != m)
      dram.dtt := { drawer := d, copy := c, first := b, count := 1, stack := m.stack, phys := m.phys } :: s.dram.dtt }
    old fun k => { k with headroom := k.headroom + 1 }).countMoved old false).countMoved m.stack true)

theorem State.switchBlock_frame (s : State) (d b c : Nat) (m : Move) (old : Nat) :
    m ∉ (s.switchBlock d b c m old).dram.moves ∧ (s.switchBlock d b c m old).place d b c = some (m.stack, m.phys) ∧
    (s.switchBlock d b c m old).mem = s.mem ∧ (s.switchBlock d b c m old).dram.tags = s.dram.tags ∧
    (s.switchBlock d b c m old).dram.poison = s.dram.poison := by
  have hdtt : (s.switchBlock d b c m old).dram.dtt =
      { drawer := d, copy := c, first := b, count := 1, stack := m.stack, phys := m.phys } :: s.dram.dtt := by
    simp [State.switchBlock]
  exact ⟨by simp [State.switchBlock], State.place_of_head hdtt, by simp [State.switchBlock], by simp [State.switchBlock],
    by simp [State.switchBlock]⟩

section
variable {s : State} {d b c : Nat} {m : Move} {p : Nat × Nat}

/-- BLOCK_MOVE_DONE for a move that R94 still allows switches the block. -/
theorem execBlockMoveDone_of_allowed (hm : (s.dram.moves.find? fun x => x.drawer == d && x.block == b && x.copy == c) = some m)
    (hp : s.place d b c = some p) (ha : s.mayMove d b c m.stack = true) (hg : s.inputsGo = true) :
    execBlockMoveDone d b c s = .next ((s.inputOf (.blockMoveDone d b c)).switchBlock d b c m p.1) := by
  simp [execBlockMoveDone, State.switchBlock, hm, hp, State.deliver_of_go _ _ hg, ha]

/-! ## Abandoning a move (R95) -/

/-- For a move that R94 no longer allows, BLOCK_MOVE_DONE abandons it. -/
theorem execBlockMoveDone_of_barred (hm : (s.dram.moves.find? fun x => x.drawer == d && x.block == b && x.copy == c) = some m)
    (hp : s.place d b c = some p) (ha : s.mayMove d b c m.stack = false) (hg : s.inputsGo = true) :
    execBlockMoveDone d b c s = .next ((s.inputOf (.blockMoveDone d b c)).abandonMoves (· == m)) := by
  simp [execBlockMoveDone, hm, hp, State.deliver_of_go _ _ hg, ha]

end

/-! ## The statement about the placement loop -/

/-- Settles O5: the commands book, switch and abandon the move in the state after delivery, which differs in its benches alone. -/
theorem placementMovesAreBookedAndSwitched : Obligations.PlacementMovesAreBookedAndSwitched := by
  unfold Obligations.PlacementMovesAreBookedAndSwitched
  refine ⟨?booked, ?switched, ?abandoned⟩
  case booked =>
    intro s reports d b c n p ha hg
    obtain ⟨hmem, hmoves, hroom⟩ := ((s.inputOf (.placementEvaluation reports d b c n p)).measure reports).bookMove_frame
      { drawer := d, block := b, copy := c, stack := n.val, phys := p }
    refine ⟨_, execPlacementEvaluation_of_allowed ha hg, ?_, ?_, ?_⟩
    · simpa using hmoves
    · rw [hroom, State.stk_measure_inputOf]
    · simpa using hmem
  case switched =>
    intro s d b c m p hm hp ha hg
    refine ⟨_, execBlockMoveDone_of_allowed hm hp ha hg, ?_⟩
    simpa using (s.inputOf (.blockMoveDone d b c)).switchBlock_frame d b c m p.1
  case abandoned =>
    intro s d b c m p hm hp ha hg
    have hplace : ((s.inputOf (.blockMoveDone d b c)).abandonMoves (· == m)).place d b c = some p :=
      (State.place_congr (by simp) d b c).trans hp
    exact ⟨_, execBlockMoveDone_of_barred hm hp ha hg, by simp, hplace, by simp, by simp, by simp⟩

end Sys2Proof.Machine

/-! The board and the links: what nothing that serves requests changes, and what the links leave undisturbed in all that they do of
themselves (chapters 6 to 8). -/

namespace Sys2Proof.Machine

/-- `t` has the clock, the waiting commands, the part, the security state and the MAC address of `s`: what no request and no link
changes. -/
@[simp] abbrev State.SameBoard (s t : State) : Prop :=
  t.time = s.time ∧ t.pending = s.pending ∧ t.power.part = s.power.part ∧ t.sec = s.sec ∧ t.bureau.mac = s.bureau.mac

theorem State.SameBoard.trans {s t u : State} (h : s.SameBoard t) (k : t.SameBoard u) : s.SameBoard u := by
  simpa [h] using k

theorem State.SameBoard.of_foldl {α : Type} {g : State → α → State} (h : ∀ (u : State) (x : α), u.SameBoard (g u x))
    (l : List α) (s : State) : s.SameBoard (l.foldl g s) :=
  foldl_holds (s.SameBoard ·) g (fun u x hu => hu.trans (h u x)) l s (by simp)

/-- `t` is `s` but for what the links do of themselves: it has besides the board the memory, the power state and the joinery of `s`,
and no request waits in `t` where none waits in `s`. -/
@[simp] abbrev State.Undisturbed (s t : State) : Prop :=
  s.SameBoard t ∧ t.mem = s.mem ∧ t.power = s.power ∧ t.jny = s.jny ∧ (s.fabric.parked = [] → t.fabric.parked = [])

theorem State.Undisturbed.trans {s t u : State} (h : s.Undisturbed t) (k : t.Undisturbed u) : s.Undisturbed u := by
  obtain ⟨hboard, hmem, hpower, hjny, hparked⟩ := h
  obtain ⟨kboard, kmem, kpower, kjny, kparked⟩ := k
  exact ⟨hboard.trans kboard, kmem.trans hmem, kpower.trans hpower, kjny.trans hjny, kparked ∘ hparked⟩

theorem State.Undisturbed.of_foldl {α : Type} {g : State → α → State} (h : ∀ (u : State) (x : α), u.Undisturbed (g u x))
    (l : List α) (s : State) : s.Undisturbed (l.foldl g s) :=
  foldl_holds (s.Undisturbed ·) g (fun u x hu => hu.trans (h u x)) l s (by simp)

theorem State.Announces.undisturbed {s t : State} (h : s.Announces t) : s.Undisturbed t :=
  ⟨⟨(congrArg State.time h.rest :), (congrArg State.pending h.rest :), (congrArg (·.power.part) h.rest :),
    (congrArg State.sec h.rest :), (congrArg (·.bureau.mac) h.rest :)⟩, (congrArg State.mem h.rest :),
    (congrArg State.power h.rest :), (congrArg State.jny h.rest :), fun hp => (congrArg (·.fabric.parked) h.rest :).trans hp⟩

/-! ## Events and waits -/

@[simp] theorem State.undisturbed_msix (s : State) (v : Nat) : s.Undisturbed (s.msix v) := (s.announces_msix v).undisturbed

@[simp] theorem State.undisturbed_post (s : State) (e : Ev) (kind : SourceKind) (n : Nat) (entry : EventEntry) :
    s.Undisturbed (s.post e kind n entry) := (s.announces_post ..).undisturbed

@[simp] theorem State.undisturbed_note (s : State) (e : Ev) (kind : SourceKind) (n a b c : Nat) :
    s.Undisturbed (s.note e kind n a b c) := s.undisturbed_post ..

@[simp] theorem State.undisturbed_counterWrap (s : State) (off : Nat) : s.Undisturbed (s.counterWrap off) := s.undisturbed_note ..

@[simp] theorem State.undisturbed_raise (s : State) (e : Ev) (kind : SourceKind) (n a b c : Nat) :
    s.Undisturbed (s.raise e kind n a b c) := (s.announces_raise ..).undisturbed

@[simp] theorem State.undisturbed_wake (s : State) (c : Nat) : s.Undisturbed (s.wake c) := (s.announces_wake c).undisturbed

@[simp] theorem State.undisturbed_addCounter (s : State) (c : Nat) (x : W64) : s.Undisturbed (s.addCounter c x).1 :=
  (s.announces_addCounter c x).undisturbed

@[simp] theorem State.undisturbed_releaseAll (s : State) (p : Wait → Bool) (st : Status) : s.Undisturbed (s.releaseAll p st) :=
  (State.Announces.of_sansSync (s.sansSync_releaseAll p st)).undisturbed

/-! ## Sending on a port -/

@[simp] theorem State.undisturbed_portEvent (s : State) (e : Ev) (p a c : Nat) : s.Undisturbed (s.portEvent e p a c) :=
  s.undisturbed_raise ..

@[simp] theorem State.undisturbed_countTx (s : State) (p n : Nat) : s.Undisturbed (s.countTx p n) := by
  unfold State.countTx
  dsimp only
  split <;> simp +contextual

@[simp] theorem State.undisturbed_markSent (s : State) (m : Msg) : s.Undisturbed (s.markSent m) := by
  unfold State.markSent
  split <;> simp

@[simp] theorem State.undisturbed_emitFlits (s : State) (p : Nat) (raws : List (List Byte)) : s.Undisturbed (s.emitFlits p raws) :=
  State.Undisturbed.of_foldl (fun u x => by simp) raws s

@[simp] theorem State.undisturbed_emitGone (s : State) (p : Nat) (g : Gone) : s.Undisturbed (s.emitGone p g) := by
  unfold State.emitGone
  simp +contextual

@[simp] theorem State.undisturbed_creditOnly (s : State) (p : Nat) : s.Undisturbed (s.creditOnly p) := by
  unfold State.creditOnly
  simp +contextual

@[simp] theorem State.undisturbed_pump (s : State) (p : Nat) : s.Undisturbed (s.pump p) := by
  unfold State.pump
  dsimp only
  split
  · simp
  · have hgone := State.Undisturbed.of_foldl fun (u : State) (g : Gone) => u.undisturbed_emitGone p g
    split
    · simp +contextual [hgone]
    · split <;> simp +contextual [hgone]

@[simp] theorem State.undisturbed_send (s : State) (p : Nat) (m : Msg) : s.Undisturbed (s.send p m) := by
  unfold State.send
  simp +contextual

@[simp] theorem State.undisturbed_sendVc3 (s : State) (p kind : Nat) (fields : List Byte) : s.Undisturbed (s.sendVc3 p kind fields) :=
  s.undisturbed_send ..

@[simp] theorem State.undisturbed_sendIdle (s : State) (p : Nat) : s.Undisturbed (s.sendIdle p) := by
  unfold State.sendIdle
  simp

@[simp] theorem State.undisturbed_respond (s : State) (op : Nat) (r : Req) (x : Reply) : s.Undisturbed (s.respond op r x) := by
  unfold State.respond
  split <;> simp +contextual

/-! ## Outbound requests and their ends -/

@[simp] theorem State.undisturbed_enqueue (s : State) (o : OutReq) : s.Undisturbed (s.enqueue o) := by
  unfold State.enqueue
  split <;> simp

@[simp] theorem State.undisturbed_assign (s : State) (o : OutReq) : s.Undisturbed (s.assign o) := by
  unfold State.assign
  split <;> simp +contextual

@[simp] theorem State.undisturbed_assignAll (s : State) : s.Undisturbed s.assignAll := by
  have henqueue := State.Undisturbed.of_foldl State.undisturbed_enqueue s.fabric.stalled { s with fabric.stalled := [] }
  unfold State.assignAll
  exact henqueue.trans (.of_foldl State.undisturbed_assign _ _)

@[simp] theorem State.undisturbed_issue (s : State) (issuer : Issuer) (opcode dst drawer offset : Nat) (word : W64)
    (data : List Byte) (place : Nat) : s.Undisturbed (s.issue issuer opcode dst drawer offset word data place) := by
  unfold State.issue
  dsimp only
  split <;> simp +contextual

@[simp] theorem State.undisturbed_updRun (s : State) (q : Nat) (i : W32) (f : RunCmd → RunCmd) : s.Undisturbed (s.updRun q i f) := by
  unfold State.updRun
  simp

@[simp] theorem State.undisturbed_endRun (s : State) (q : Nat) (i : W32) (st : Status) (progress result : W64) :
    s.Undisturbed (s.endRun q i st progress result) := s.undisturbed_updRun ..

@[simp] theorem State.undisturbed_copyAnswered (s : State) (q : Nat) (i : W32) (off len : Nat) (st : Status) :
    s.Undisturbed (s.copyAnswered q i off len st) := by
  unfold State.copyAnswered
  extract_lets s1
  have h1 : s.Undisturbed s1 := s.undisturbed_updRun ..
  split
  · exact h1
  · dsimp only
    split
    · exact h1.trans (State.undisturbed_endRun ..)
    · exact h1

@[simp] theorem State.undisturbed_restatus (s : State) (op n : Nat) (st : Status) : s.Undisturbed (s.restatus op n st) := by
  unfold State.restatus
  dsimp only
  repeat' split
  all_goals simp

@[simp] theorem State.undisturbed_endTransfer (s : State) (q : Nat) (i : W32) (st : Status) (o : OutReq) :
    s.Undisturbed (s.endTransfer q i st o) := by
  unfold State.endTransfer
  dsimp only
  split <;> simp +contextual

@[simp] theorem State.undisturbed_maskAnswered (s : State) (key : Nat) (st : Status) : s.Undisturbed (s.maskAnswered key st) := by
  unfold State.maskAnswered
  extract_lets unsent gone f keep _ s1 isDone _ s2
  have h1 : s.Undisturbed s1 := ⟨⟨rfl, rfl, rfl, rfl, rfl⟩, rfl, rfl, rfl, fun h => by simp [s1, h]⟩
  have h2 : s1.Undisturbed s2 := ⟨⟨rfl, rfl, rfl, rfl, rfl⟩, rfl, rfl, rfl, fun h => by simp [s2, h]⟩
  clear_value s1 s2
  split
  · extract_lets s3
    have h3 : s2.Undisturbed s3 := by
      simp only [s3]
      split
      · split
        · exact s2.undisturbed_restatus ..
        · simp
      · simp
    have h : s.Undisturbed s3 := (h1.trans h2).trans h3
    split
    · exact h.trans (State.undisturbed_respond ..)
    · exact h
  · exact h1

@[simp] theorem State.undisturbed_outDone (s : State) (o : OutReq) (st : Status) : s.Undisturbed (s.outDone o st) := by
  unfold State.outDone
  dsimp only
  split
  · simp +contextual
  · simp +contextual
  · split <;> simp +contextual
  · simp

/-! ## The end of a session -/

@[simp] theorem State.undisturbed_releasePort (s : State) (p : Nat) : s.Undisturbed (s.releasePort p) := by
  unfold State.releasePort
  simp +contextual

@[simp] theorem State.undisturbed_flush (s : State) (p : Nat) : s.Undisturbed (s.flush p) := by
  unfold State.flush
  extract_lets s1 _ s2 s3
  have h2 : s.Undisturbed s2 := ⟨⟨rfl, rfl, rfl, rfl, rfl⟩, rfl, rfl, rfl, fun h => by simp [s2, s1, h]⟩
  have h3 : s2.Undisturbed s3 := .of_foldl (fun u o => u.undisturbed_outDone o .linkLost) _ s2
  exact (h2.trans h3).trans (.trans (s3.undisturbed_releasePort p) (State.undisturbed_portEvent ..))

@[simp] theorem State.undisturbed_endBindings (s : State) (p : Nat) : s.Undisturbed (s.endBindings p) := by
  unfold State.endBindings
  dsimp only
  repeat' split
  all_goals simp

@[simp] theorem State.undisturbed_endSession (s : State) (p : Nat) : s.Undisturbed (s.endSession p) := by
  unfold State.endSession
  simp +contextual

@[simp] theorem State.undisturbed_fullReset (s : State) (p : Nat) (dark : Bool) : s.Undisturbed (s.fullReset p dark) := by
  unfold State.fullReset
  simp +contextual

@[simp] theorem State.undisturbed_linkDown (s : State) (p cause : Nat) : s.Undisturbed (s.linkDown p cause) := by
  unfold State.linkDown
  simp +contextual

@[simp] theorem State.undisturbed_plannedDown (s : State) (p : Nat) (dark : Bool) : s.Undisturbed (s.plannedDown p dark) := by
  unfold State.plannedDown
  extract_lets s1
  have h1 : s.Undisturbed s1 := s.undisturbed_linkDown ..
  refine .trans ?_ (State.undisturbed_fullReset ..)
  split
  · exact h1.trans (s1.undisturbed_flush p)
  · exact h1

@[simp] theorem State.undisturbed_forcedDown (s : State) (p reason : Nat) : s.Undisturbed (s.forcedDown p reason) :=
  .trans (.trans (s.undisturbed_linkDown ..) (State.undisturbed_flush ..)) (State.undisturbed_fullReset ..)

@[simp] theorem State.undisturbed_closeSent (s : State) (p : Nat) : s.Undisturbed (s.closeSent p) := by
  unfold State.closeSent
  dsimp only
  split <;> simp +contextual

@[simp] theorem State.undisturbed_sendPlanned (s : State) (p reason : Nat) : s.Undisturbed (s.sendPlanned p reason) := by
  unfold State.sendPlanned
  dsimp only
  repeat' split
  all_goals simp +contextual

@[simp] theorem State.undisturbed_quiesceStep (s : State) (p : Nat) : s.Undisturbed (s.quiesceStep p) := by
  unfold State.quiesceStep
  dsimp only
  repeat' split
  all_goals simp +contextual

@[simp] theorem State.undisturbed_afterFlit (s : State) (p : Nat) : s.Undisturbed (s.afterFlit p) :=
  .trans (.trans (s.undisturbed_pump p) (State.undisturbed_quiesceStep ..)) (State.undisturbed_closeSent ..)

/-! ## What a port does of itself (R186, R207, R214, R253) -/

@[simp] theorem State.undisturbed_dozeStep (s : State) (p : Nat) : s.Undisturbed (s.dozeStep p) := by
  unfold State.dozeStep
  split <;> simp

@[simp] theorem State.undisturbed_wishDoze (s : State) (p : Nat) : s.Undisturbed (s.wishDoze p) := by
  unfold State.wishDoze
  dsimp only
  repeat' split
  all_goals simp +contextual

@[simp] theorem State.undisturbed_portTick (s : State) (p : Nat) : s.Undisturbed (s.portTick p) := by
  unfold State.portTick
  extract_lets v s1
  have h1 : s.Undisturbed s1 := s.undisturbed_sendIdle p
  split
  · split
    · simp
    · exact s.undisturbed_forcedDown ..
  · split
    · simp
    · split
      · simp
      · exact (h1.trans (s1.undisturbed_afterFlit p)).trans (.trans (State.undisturbed_dozeStep ..) (State.undisturbed_wishDoze ..))

end Sys2Proof.Machine

/-! Requests that waited (R276, R277, R524, R575): what taking them up again leaves of the board, through every operation that serves
one. -/

namespace Sys2Proof.Machine

/-! ## Entry to FAILED and the loss of a stack -/

@[simp] theorem State.sameBoard_answer (s : State) (i r kind : Nat) (st : Status) (body : Body) :
    s.SameBoard (s.answer i r kind st body) := by
  unfold State.answer
  split <;> simp

@[simp] theorem State.sameBoard_busyFell (s : State) : s.SameBoard s.busyFell := (s.undisturbed_msix 3).1

@[simp] theorem State.sameBoard_refusePending (s : State) (kind : Nat) (who : Submitter) (body : Body) :
    s.SameBoard (s.refusePending kind who body) := by
  unfold State.refusePending
  split <;> simp

@[simp] theorem State.sameBoard_endPending (s : State) : s.SameBoard s.endPending := by
  unfold State.endPending
  extract_lets _ s1 s2
  have h1 : s.SameBoard s1 := by
    simp only [s1]
    split <;> simp
  have h2 : s.SameBoard s2 := h1.trans (.of_foldl (fun u j => by simp) _ s1)
  split
  · exact h2
  · split
    · exact h2
    · exact h2.trans (s2.sameBoard_answer ..)

@[simp] theorem State.sameBoard_enterFailed (s : State) (code : Nat) (why : String) : s.SameBoard (s.enterFailed code why) :=
  s.sameBoard_endPending

@[simp] theorem State.sameBoard_noteOnce (s : State) (e : Ev) : s.SameBoard (s.noteOnce e) := by
  unfold State.noteOnce
  dsimp only
  split <;> simp

@[simp] theorem State.sameBoard_memEvent (s : State) (e : Ev) (stack flags d sym1 sym2 blk line spare last : Nat) :
    s.SameBoard (s.memEvent e stack flags d sym1 sym2 blk line spare last) := (s.undisturbed_post ..).1

@[simp] theorem State.sameBoard_countErr (s : State) (stack i : Nat) : s.SameBoard (s.countErr stack i) := ⟨rfl, rfl, rfl, rfl, rfl⟩

@[simp] theorem State.sameBoard_advise (s : State) (stack blk line d : Nat) : s.SameBoard (s.advise stack blk line d) := by
  unfold State.advise
  dsimp only
  repeat' split
  all_goals simp

@[simp] theorem State.sameBoard_noteHard (s : State) (stack blk line d : Nat) : s.SameBoard (s.noteHard stack blk line d) := by
  unfold State.noteHard
  dsimp only
  split <;> simp

@[simp] theorem State.sameBoard_degrade (s : State) (d stack : Nat) : s.SameBoard (s.degrade d stack) := by
  unfold State.degrade
  split <;> simp

@[simp] theorem State.sameBoard_keepTables (s : State) : s.SameBoard s.keepTables := ⟨rfl, rfl, rfl, rfl, rfl⟩

@[simp] theorem State.sameBoard_loseStack (s : State) (n : Nat) : s.SameBoard (s.loseStack n) := by
  unfold State.loseStack
  extract_lets held s1 s2 gone _ _ s3 s4
  have h1 : s.SameBoard s1 := by simp [s1]
  have h2 : s.SameBoard s2 := h1.trans (.of_foldl (fun u (r : DrawerRec) => u.sameBoard_degrade r.id n) _ s1)
  have h3 : s.SameBoard s3 := h2
  have h4 : s.SameBoard s4 := h3.trans (.of_foldl (fun u j => by dsimp only; split <;> simp) _ s3)
  split
  · simp
  · split
    · exact h4.trans (s4.sameBoard_enterFailed ..)
    · exact h4

@[simp] theorem State.sameBoard_notePoison (s : State) (stack blk : Nat) : s.SameBoard (s.notePoison stack blk) := by
  unfold State.notePoison
  dsimp only
  split <;> simp

/-! ## Lines (Table 10–2) -/

@[simp] theorem State.sameBoard_damageAt (s : State) (stack pl : Nat) : s.SameBoard (s.damageAt stack pl).1 := by
  unfold State.damageAt
  repeat' split
  all_goals simp

@[simp] theorem State.sameBoard_codeAt (s : State) (stack pl : Nat) : s.SameBoard (s.codeAt stack pl).1 := by
  unfold State.codeAt
  repeat' split
  all_goals simp

@[simp] theorem State.sameBoard_recordCheck (s : State) (flags stack pl d off : Nat) (inj : Bool) (a : Check) :
    s.SameBoard (s.recordCheck flags stack pl d off inj a) := by
  unfold State.recordCheck
  split <;> simp

@[simp] theorem State.sameBoard_recordPoison (s : State) (flags stack pl d off : Nat) (inj : Bool) (a b : Nat) :
    s.SameBoard (s.recordPoison flags stack pl d off inj a b) := by
  unfold State.recordPoison
  dsimp only
  split <;> simp

@[simp] theorem State.sameBoard_storeLine (s : State) (d l : Nat) (data : List Byte) : s.SameBoard (s.storeLine d l data) :=
  ⟨rfl, rfl, rfl, rfl, rfl⟩

@[simp] theorem State.sameBoard_poisonLine (s : State) (d l : Nat) : s.SameBoard (s.poisonLine d l) := by
  unfold State.poisonLine
  simp

/-- What keeps the first part of a pair keeps it under the pair's name. -/
theorem State.SameBoard.of_eq {α : Type} {s t : State} {x : State × α} {a : α} (h : s.SameBoard x.1) (hx : x = (t, a)) :
    s.SameBoard t := by
  rwa [hx] at h

@[simp] theorem State.sameBoard_readFrom (s : State) (flags d l : Nat) (places : List (Nat × Nat)) :
    s.SameBoard (s.readFrom flags d l places).1 := by
  unfold State.readFrom
  split
  · simp
  next stack phys rest =>
    split
    · simp
    · dsimp only
      have hcode := s.sameBoard_codeAt stack (phys * 1024 + l % 1024)
      split
      next s1 a b inj heq =>
        have h1 : s.SameBoard s1 := hcode.of_eq heq
        split
        · exact h1.trans (by simp)
        next stack2 phys2 _ =>
          have hcode2 := s1.sameBoard_codeAt stack2 (phys2 * 1024 + l % 1024)
          split
          next s2 a2 b2 inj2 heq2 => exact (h1.trans (hcode2.of_eq heq2)).trans (by simp)
          next s2 c2 inj2 _ heq2 => exact (h1.trans (hcode2.of_eq heq2)).trans (by simp)
      next s1 c inj _ heq => exact .trans (hcode.of_eq heq) (s1.sameBoard_recordCheck ..)

@[simp] theorem State.sameBoard_readLine (s : State) (flags d l : Nat) : s.SameBoard (s.readLine flags d l).1 :=
  s.sameBoard_readFrom ..

@[simp] theorem State.sameBoard_storeCells (s : State) (stack pl : Nat) : s.SameBoard (s.storeCells stack pl) := by
  unfold State.storeCells
  dsimp only
  repeat' split
  all_goals simp

@[simp] theorem State.sameBoard_writeLine (s : State) (d l at_ : Nat) (data : List Byte) :
    s.SameBoard (s.writeLine d l at_ data).1 := by
  have hcells : ∀ u : State, u.SameBoard ((s.livePlaces d (l / 1024)).foldl
      (fun v x => v.storeCells x.1 (x.2 * 1024 + l % 1024)) u) := .of_foldl (fun u x => u.sameBoard_storeCells ..) _
  unfold State.writeLine
  dsimp only
  split
  · simp
  · split
    · exact .trans (s.sameBoard_storeLine ..) (hcells _)
    · split
      · simp
      · exact .trans (.trans (s.sameBoard_readLine 0 d l) (State.sameBoard_storeLine ..)) (hcells _)

@[simp] theorem State.sameBoard_readRange (s : State) (d off n : Nat) : s.SameBoard (s.readRange d off n).1 :=
  foldl_holds (fun x : State × RangeRead => s.SameBoard x.1) _ (fun _ _ h => h.trans (State.sameBoard_readLine ..)) _ _ (by simp)

@[simp] theorem State.sameBoard_writeRange (s : State) (d off : Nat) (data : List Byte) :
    s.SameBoard (s.writeRange d off data).1 :=
  foldl_holds (fun x : State × Option Nat => s.SameBoard x.1) _ (fun _ _ h => h.trans (State.sameBoard_writeLine ..)) _ _ (by simp)

/-! ## The snapshot reserve (R574, R575) -/

theorem State.sameBoard_reserveFor {t n fuel : Nat} {v : State} : ∀ {s : State}, s.reserveFor t n fuel = some v → s.SameBoard v := by
  induction fuel with
  | zero => exact fun h => nomatch h
  | succ fuel ih =>
    intro s h
    unfold State.reserveFor at h
    split at h
    · cases h
      simp
    · split at h
      · cases h
      next x _ =>
        have hdrop : s.SameBoard ((s.dropSnapshot x.id).noteOnce .snapshotEvicted) := (s.dropSnapshot x.id).sameBoard_noteOnce _
        exact hdrop.trans (ih h)

theorem State.sameBoard_unshare {s v : State} {d b : Nat} (h : s.unshare d b = some v) : s.SameBoard v := by
  unfold State.unshare at h
  split at h
  · cases h
    simp
  · split at h
    · cases h
      simp
    · dsimp only at h
      split at h
      · cases h
      next u hu =>
        have hres : s.SameBoard u := State.sameBoard_reserveFor hu
        split at h
        · cases h
          exact hres
        · cases h
          exact hres

theorem State.sameBoard_claimRange {s v : State} {d off n : Nat} (h : s.claimRange d off n = some v) : s.SameBoard v := by
  unfold State.claimRange at h
  split at h
  · cases h
    simp
  · refine foldl_holds (fun o : Option State => ∀ v, o = some v → s.SameBoard v) _ (fun o i ho v hv => ?_) _ (some s) ?_ v h
    · split at hv
      · cases hv
      next u => exact .trans (ho u rfl) (State.sameBoard_unshare hv)
    · rintro v ⟨⟩
      simp

/-! ## Serving a request past stage 4 -/

@[simp] theorem State.sameBoard_serveRead (s : State) (r : Req) : s.SameBoard (s.serveRead r).1 := s.sameBoard_readRange ..

@[simp] theorem State.sameBoard_serveWrite (s : State) (r : Req) : s.SameBoard (s.serveWrite r).1 := by
  unfold State.serveWrite
  split
  · simp
  next u hu => exact .trans (State.sameBoard_claimRange hu) (u.sameBoard_writeRange ..)

theorem State.sameBoard_serveAtomic (n : Nat) (f : List Byte → Option (List Byte)) (answer : List Byte → Reply) (s : State)
    (r : Req) : s.SameBoard (s.serveAtomic n f answer r).1 := by
  unfold State.serveAtomic
  dsimp only
  split
  · simp
  next u hu =>
    have hread : s.SameBoard (u.readRange r.drawer.toNat r.offset.toNat n).1 :=
      .trans (State.sameBoard_claimRange hu) (u.sameBoard_readRange ..)
    split
    · exact hread
    · split
      · exact hread
      · exact hread.trans (State.sameBoard_writeRange ..)

@[simp] theorem State.sameBoard_storeCounter (s : State) (c : Nat) (x : W64) : s.SameBoard (s.storeCounter c x) := by
  unfold State.storeCounter
  simp

@[simp] theorem State.sameBoard_register (s : State) (c t : Nat) (th : W64) (target : Option Target) (owner : WaitOwner) :
    s.SameBoard (s.register c t th target owner) := by
  unfold State.register
  dsimp only
  split <;> simp

@[simp] theorem State.sameBoard_counterDo (s : State) (c t : Nat) (op : CounterOp) : s.SameBoard (s.counterDo c t op).1 := by
  unfold State.counterDo
  dsimp only
  repeat' split
  all_goals simp

theorem State.sameBoard_serveSync (op : CounterOp) (s : State) (r : Req) : s.SameBoard (State.serveSync op s r).1 :=
  s.sameBoard_counterDo ..

@[simp] theorem State.sameBoard_serveDoorbell (s : State) (r : Req) : s.SameBoard (s.serveDoorbell r).1 := by
  unfold State.serveDoorbell
  extract_lets q y s1
  split <;> simp [s1]

/-! ## Lookups in a loaded image (R525) -/

/-- A lookup that keeps the board, continued by lookups that keep it. -/
theorem Look.sameBoard_andThen {α β : Type} {s : State} {x : Look α} {f : State → α → Look β} (hx : s.SameBoard x.1)
    (hf : ∀ (u : State) (a : α), u.SameBoard (f u a).1) : s.SameBoard (x.andThen f).1 := by
  unfold Look.andThen
  split
  · exact hx.trans (hf ..)
  · exact hx

@[simp] theorem State.sameBoard_look (s : State) (im : LexImage) (o n : Nat) : s.SameBoard (s.look im o n).1 := by
  unfold State.look
  dsimp only
  repeat' split
  all_goals simp

@[simp] theorem State.sameBoard_lookDict (s : State) (im : LexImage) : s.SameBoard (s.lookDict im).1 :=
  Look.sameBoard_andThen (s.sameBoard_look ..) fun u _ => by simp

@[simp] theorem State.sameBoard_lookGram (s : State) (im : LexImage) : s.SameBoard (s.lookGram im).1 :=
  Look.sameBoard_andThen (s.sameBoard_look ..) fun u _ => by simp

@[simp] theorem State.sameBoard_lookEdge (im : LexImage) (h : DictHdr) (b : Byte) (count i : Nat) (s : State) :
    s.SameBoard (State.lookEdge im h b count i s).1 := by
  induction count generalizing i s with
  | zero => simp [State.lookEdge]
  | succ count ih =>
    unfold State.lookEdge
    split
    · simp
    · refine Look.sameBoard_andThen (s.sameBoard_look ..) fun u e => ?_
      split
      · split <;> simp
      · exact ih ..

@[simp] theorem State.sameBoard_lookBreak (s : State) (im : LexImage) (h : DictHdr) (b : Byte) :
    s.SameBoard (s.lookBreak im h b).1 := by
  unfold State.lookBreak
  split
  · simp
  · exact Look.sameBoard_andThen (s.sameBoard_look ..) fun u _ => by simp

@[simp] theorem State.sameBoard_walk (im : LexImage) (h : DictHdr) (final : Bool) (cells : List Cell) (node depth : Nat)
    (brk : Bool) (cand : Option (Nat × Nat)) (s : State) : s.SameBoard (State.walk im h final cells node depth brk cand s).1 := by
  induction cells generalizing node depth brk cand s with
  | nil =>
    unfold State.walk
    dsimp only
    split
    · cases cand <;> simp
    · split
      · cases cand <;> simp
      · simp
  | cons c rest ih =>
    unfold State.walk
    dsimp only
    split
    · cases cand <;> simp
    · refine Look.sameBoard_andThen (s.sameBoard_lookBreak ..) fun u br => ?_
      split
      · cases cand <;> simp
      · split
        · cases cand <;> simp
        · refine Look.sameBoard_andThen (u.sameBoard_look ..) fun u1 nd => ?_
          refine Look.sameBoard_andThen (State.sameBoard_lookEdge ..) fun u2 child => ?_
          split
          · cases cand <;> simp
          · refine Look.sameBoard_andThen (u2.sameBoard_look ..) fun u3 tb => ?_
            split
            · simp
            · exact ih ..

@[simp] theorem State.sameBoard_nextToken (s : State) (im : LexImage) (h : DictHdr) (final : Bool) (cells : List Cell) :
    s.SameBoard (s.nextToken im h final cells).1 := by
  unfold State.nextToken
  split
  · simp
  · split
    · simp
    · refine Look.sameBoard_andThen (State.sameBoard_walk ..) fun u r => ?_
      cases r <;> simp

@[simp] theorem State.sameBoard_emitTokens (im : LexImage) (h : DictHdr) (final : Bool) (n : Nat) (cells : List Cell) (s : State) :
    s.SameBoard (State.emitTokens im h final n cells s).1 := by
  induction n generalizing cells s with
  | zero =>
    have hnext := s.sameBoard_nextToken im h final cells
    unfold State.emitTokens
    split
    next u r heq => exact hnext.of_eq heq
    next u e heq => exact hnext.of_eq heq
  | succ n ih =>
    have hnext := s.sameBoard_nextToken im h final cells
    unfold State.emitTokens
    split
    next u e heq => exact hnext.of_eq heq
    next u heq => exact hnext.of_eq heq
    next u tok fin rest heq => exact .trans (hnext.of_eq heq) (ih rest u)

/-! ## Grammars (R543, R544) -/

@[simp] theorem State.sameBoard_lookRuns (im : LexImage) (h : GramHdr) (count i : Nat) (s : State) :
    s.SameBoard (State.lookRuns im h count i s).1 := by
  induction count generalizing i s with
  | zero => simp [State.lookRuns]
  | succ count ih =>
    unfold State.lookRuns
    split
    · simp
    · exact Look.sameBoard_andThen (s.sameBoard_look ..) fun u _ => Look.sameBoard_andThen (ih _ u) fun v _ => by simp

@[simp] theorem State.sameBoard_lookState (s : State) (im : LexImage) (h : GramHdr) (st : Nat) :
    s.SameBoard (s.lookState im h st).1 := by
  unfold State.lookState
  split
  · simp
  · exact Look.sameBoard_andThen (s.sameBoard_look ..) fun u _ =>
      Look.sameBoard_andThen (State.sameBoard_lookRuns ..) fun v _ => by simp

@[simp] theorem State.sameBoard_advanceGram (s : State) (im : LexImage) (h : GramHdr) (st t : Nat) :
    s.SameBoard (s.advanceGram im h st t).1 := by
  refine Look.sameBoard_andThen (s.sameBoard_lookState ..) fun u x => ?_
  split
  · simp
  · split
    · simp
    · split
      · simp
      · exact Look.sameBoard_andThen (u.sameBoard_lookState ..) fun v _ => by simp

@[simp] theorem State.sameBoard_maskOf (s : State) (im : LexImage) (h : GramHdr) (st : Nat) : s.SameBoard (s.maskOf im h st).1 :=
  Look.sameBoard_andThen (s.sameBoard_lookState ..) fun u _ => by simp

/-! ## Windows (R550 to R552) -/

theorem State.sameBoard_windowWrite {s : State} {c : Channel} {bs : List Byte} {x : State × Channel × Bool}
    (h : s.windowWrite c bs = some x) : s.SameBoard x.1 := by
  unfold State.windowWrite at h
  obtain ⟨y, hy, rfl⟩ := Option.map_eq_some_iff.1 h
  refine foldl_holds (fun o : Option (State × Nat × Bool) => ∀ y, o = some y → s.SameBoard y.1) _ (fun o run ho y hy => ?_)
    _ (some (s, 0, false)) ?_ y hy
  · split at hy
    · cases hy
    next u i bad =>
      dsimp only at hy
      split at hy
      · cases hy
      next v hv =>
        cases hy
        exact .trans (ho _ rfl) (.trans (State.sameBoard_claimRange hv) (v.sameBoard_writeRange ..))
  · rintro y ⟨⟩
    simp

theorem State.sameBoard_windowHeader {s u : State} {c : Channel} (h : s.windowHeader c = some u) : s.SameBoard u := by
  obtain ⟨v, hv, rfl⟩ := Option.map_eq_some_iff.1 h
  exact .trans (State.sameBoard_claimRange hv) (v.sameBoard_writeRange ..)

theorem State.sameBoard_feedChannels {f : Channel → Channel × List Byte × Nat} {cs : List Channel} :
    ∀ {s : State} {x : State × List Channel × Nat × Bool}, State.feedChannels f cs s = some x → s.SameBoard x.1 := by
  induction cs with
  | nil =>
    rintro s x ⟨⟩
    simp
  | cons c cs ih =>
    intro s x h
    unfold State.feedChannels at h
    dsimp only at h
    split at h
    · cases h
    next u c1 bad hwrite =>
      split at h
      · cases h
      next v hheader =>
        split at h
        · cases h
        next w rest n b hrest =>
          cases h
          have hv : s.SameBoard v := .trans (State.sameBoard_windowWrite hwrite) (State.sameBoard_windowHeader hheader)
          exact .trans hv (ih hrest :)

@[simp] theorem State.sameBoard_tokenBytes (s : State) (im : LexImage) (h : DictHdr) (t : Nat) :
    s.SameBoard (s.tokenBytes im h t).1 := by
  unfold State.tokenBytes
  split
  · simp
  · refine Look.sameBoard_andThen (s.sameBoard_look ..) fun u e => ?_
    dsimp only
    repeat' split
    all_goals simp

@[simp] theorem State.sameBoard_tokenRun (im : LexImage) (h : DictHdr) (ts : List Nat) (s : State) :
    s.SameBoard (State.tokenRun im h ts s).1 := by
  induction ts generalizing s with
  | nil => simp [State.tokenRun]
  | cons t ts ih =>
    have hbytes := s.sameBoard_tokenBytes im h t
    unfold State.tokenRun
    split
    next u e heq => exact hbytes.of_eq heq
    next u b heq => exact .trans (hbytes.of_eq heq) (ih u)

/-! ## Lexicon requests past stage 4 (R553, R558 to R561) -/

/-- A request that waits for its stream, fails a check or is served by what keeps the board keeps it. -/
theorem State.sameBoard_lexGate {s : State} {r : Req} {uses : Bool} {need : Nat → Stream → Option LexImage}
    {f : Nat → LexImage → Served} (hf : ∀ t im, s.SameBoard (f t im).1) : s.SameBoard (s.lexGate r uses need f).1 := by
  unfold State.lexGate
  dsimp only
  split
  · simp
  · split
    · simp
    · exact hf ..

theorem State.sameBoard_sequenced {s : State} {r : Req} {f : State → Served} (hf : s.SameBoard (f s).1) :
    s.SameBoard (s.sequenced r f).1 := by
  unfold State.sequenced
  dsimp only
  split
  · split
    next u y heq =>
      have hu : s.SameBoard u := hf.of_eq heq
      exact hu
    next => exact hf
  · repeat' split
    all_goals simp

@[simp] theorem State.sameBoard_tokenizeNow (s : State) (r : Req) (im : LexImage) : s.SameBoard (s.tokenizeNow r im).1 := by
  have hdict := s.sameBoard_lookDict im
  unfold State.tokenizeNow
  dsimp only
  split
  next u st heq => exact hdict.of_eq heq
  next u h heq =>
    have hu : s.SameBoard u := hdict.of_eq heq
    split
    · exact hu
    · have htokens := fun cells => hu.trans (State.sameBoard_emitTokens im h (bitOf r.word.toNat 0) 1024 cells u)
      split
      · exact htokens _
      · exact htokens _

@[simp] theorem State.sameBoard_serveTokenize (s : State) (r : Req) : s.SameBoard (s.serveTokenize r).1 :=
  State.sameBoard_lexGate fun _ im => State.sameBoard_sequenced (s.sameBoard_tokenizeNow r im)

theorem State.sameBoard_detokenize {s u : State} {n : Nat} {im : LexImage} {h : DictHdr} {tokens : List Nat} {final : Bool}
    {x : Nat × Nat × Bool × Status} (hx : s.detokenize n im h tokens final = some (u, x)) : s.SameBoard u := by
  unfold State.detokenize at hx
  dsimp only at hx
  split at hx
  · cases hx
  next v cs k bad hfeed =>
    have hv : s.SameBoard v := .trans (s.sameBoard_tokenRun im h tokens) (State.sameBoard_feedChannels hfeed :)
    split at hx
    · cases hx
    next w cs2 k2 bad2 hclose =>
      have hw : v.SameBoard w := by
        split at hclose
        · exact (State.sameBoard_feedChannels hclose :)
        · cases hclose
          simp
      cases hx
      exact hv.trans hw

@[simp] theorem State.sameBoard_detokenizeNow (s : State) (r : Req) (t : Nat) (im : LexImage) :
    s.SameBoard (s.detokenizeNow r t im).1 := by
  have hdict := s.sameBoard_lookDict im
  unfold State.detokenizeNow
  dsimp only
  split
  · simp
  · split
    · simp
    · split
      next u st heq => exact hdict.of_eq heq
      next u h heq =>
        split
        · simp
        next v k n bad st hdetok => exact .trans (hdict.of_eq heq) (State.sameBoard_detokenize hdetok)

@[simp] theorem State.sameBoard_serveDetokenize (s : State) (r : Req) : s.SameBoard (s.serveDetokenize r).1 :=
  State.sameBoard_lexGate fun t im => State.sameBoard_sequenced (s.sameBoard_detokenizeNow r t im)

@[simp] theorem State.sameBoard_moveGram (s : State) (n st : Nat) : s.SameBoard (s.moveGram n st) := by
  unfold State.moveGram
  dsimp only
  split <;> simp

@[simp] theorem State.sameBoard_sendMask (s : State) (op : Nat) (r : Req) (mask : List Byte) (word : W64) :
    s.SameBoard (s.sendMask op r mask word).1 :=
  State.SameBoard.of_foldl (fun u (_ : List Byte × Nat) => (u.undisturbed_issue ..).1) _
    { s with fabric.parked := s.fabric.parked ++ [_] }

@[simp] theorem State.sameBoard_serveMaskFetch (s : State) (r : Req) : s.SameBoard (s.serveMaskFetch r).1 := by
  refine State.sameBoard_lexGate fun t im => ?_
  have hmask : s.SameBoard ((s.lookGram im).andThen fun u h => u.maskOf im h (s.reqState r)).1 :=
    Look.sameBoard_andThen (s.sameBoard_lookGram im) fun u h => u.sameBoard_maskOf ..
  split
  next u st heq => exact hmask.of_eq heq
  next u x heq => exact .trans (hmask.of_eq heq) (u.sameBoard_sendMask ..)

@[simp] theorem State.sameBoard_advanceNow (s : State) (r : Req) (im : LexImage) (fetch : Bool) :
    s.SameBoard (s.advanceNow r im fetch).1 := by
  have hadv : s.SameBoard ((s.lookGram im).andThen fun u h =>
      (u.advanceGram im h (s.reqState r) (field r.ops 8 4)).andThen fun v x => (v, .ok (h, x))).1 :=
    Look.sameBoard_andThen (s.sameBoard_lookGram im) fun u h =>
      Look.sameBoard_andThen (u.sameBoard_advanceGram ..) fun v _ => by simp
  unfold State.advanceNow
  split
  next u st heq => exact hadv.of_eq heq
  next u h st next word heq =>
    have hu : s.SameBoard u := hadv.of_eq heq
    extract_lets move
    have hmove : ∀ v : State, v.SameBoard (move v) := fun v => by
      simp only [move]
      split <;> simp
    have hmask := u.sameBoard_maskOf im h next
    split
    · split
      next v e heq => exact hu.trans (hmask.of_eq heq)
      next v x heq => exact (hu.trans (hmask.of_eq heq)).trans (.trans (hmove v) (State.sameBoard_sendMask ..))
    · exact hu.trans (hmove u)

theorem State.sameBoard_serveAdvanceForm (s : State) (r : Req) (fetch : Bool) : s.SameBoard (s.serveAdvanceForm r fetch).1 := by
  refine State.sameBoard_lexGate fun t im => ?_
  split
  · exact State.sameBoard_sequenced (s.sameBoard_advanceNow ..)
  · exact s.sameBoard_advanceNow ..

@[simp] theorem State.sameBoard_serveStreamRead (s : State) (r : Req) : s.SameBoard (s.serveStreamRead r).1 := by
  unfold State.serveStreamRead
  split
  · simp
  next c _ =>
    extract_lets w dist m x
    have hx : s.SameBoard x.1 := foldl_holds (fun y : State × List Byte × Option Nat => s.SameBoard y.1) _
      (fun _ _ h => h.trans (State.sameBoard_readRange ..)) _ _ (by simp)
    split
    · simp
    · split
      · simp
      · split <;> exact hx

/-- Whatever an opcode does past stage 4 keeps the board. -/
theorem sameBoard_serveOf (op : Nat) (s : State) (r : Req) : s.SameBoard (serveOf op s r).1 := by
  unfold serveOf
  split
  · exact s.sameBoard_serveRead r
  · exact s.sameBoard_serveWrite r
  · exact State.sameBoard_serveAtomic ..
  · exact State.sameBoard_serveAtomic ..
  · exact State.sameBoard_serveAtomic ..
  · exact State.sameBoard_serveSync ..
  · exact State.sameBoard_serveSync ..
  · exact State.sameBoard_serveSync ..
  · exact State.sameBoard_serveSync ..
  · exact s.sameBoard_serveDoorbell r
  · exact s.sameBoard_serveTokenize r
  · exact s.sameBoard_serveDetokenize r
  · exact s.sameBoard_serveMaskFetch r
  · exact s.sameBoard_serveAdvanceForm r false
  · exact s.sameBoard_serveAdvanceForm r true
  · exact s.sameBoard_serveStreamRead r
  · simp

/-! ## Taking up waiting requests again -/

@[simp] theorem State.sameBoard_repark (s : State) (x : Parked) : s.SameBoard (s.repark x) := ⟨rfl, rfl, rfl, rfl, rfl⟩

theorem State.sameBoard_hostStore {s u : State} {d off : Nat} {data : List Byte} {bad : Bool}
    (h : s.hostStore d off data = some (u, bad)) : s.SameBoard u := by
  obtain ⟨v, hv, hu⟩ := Option.map_eq_some_iff.1 h
  cases hu
  exact .trans (State.sameBoard_claimRange hv) (v.sameBoard_writeRange ..)

/-- Taking up one waiting request again keeps the board, whatever it asks for. -/
theorem State.sameBoard_retryOne (s : State) (x : Parked) : s.SameBoard (s.retryOne x) := by
  unfold State.retryOne
  split
  next op r failed live =>
    split
    · simp
    · split
      · split <;> simp
      · have hserve := sameBoard_serveOf op s r
        split
        next u y heq =>
          have hu : s.SameBoard u := hserve.of_eq heq
          split
          · exact hu.trans (by simp)
          · exact hu
        next u heq => exact .trans (hserve.of_eq heq) (u.sameBoard_repark _)
  next o data =>
    split
    · simp
    · split
      · simp
      next u bad hstore => exact State.sameBoard_hostStore hstore
  · simp

@[simp] theorem State.sameBoard_retry (s : State) : s.SameBoard s.retry :=
  State.SameBoard.of_foldl State.sameBoard_retryOne _ { s with fabric.parked := [] }

end Sys2Proof.Machine

/-! One step (R76, R77, R306): the command in front, an input that waited, or one count of the timebase. -/

namespace Sys2Proof.Machine

/-! ## One count of the timebase (R76) -/

/-- The ports' work of a count keeps the board, though requests that waited are served in it. -/
theorem State.sameBoard_portsTick (s : State) : s.SameBoard s.portsTick := by
  unfold State.portsTick
  extract_lets s1
  have h1 : s.SameBoard s1 := .of_foldl (fun u p => (u.undisturbed_portTick p).1) _ s
  split
  · exact h1
  · split
    · exact h1.trans (s1.undisturbed_assignAll).1
    · exact h1.trans (s1.sameBoard_retry.trans (s1.retry.undisturbed_assignAll).1)

/-- Where no request waits, it leaves the node undisturbed. -/
theorem State.undisturbed_portsTick {s : State} (h : s.fabric.parked = []) : s.Undisturbed s.portsTick := by
  unfold State.portsTick
  extract_lets s1
  have h1 : s.Undisturbed s1 := .of_foldl State.undisturbed_portTick _ s
  have hparked : s1.fabric.parked = [] := by
    obtain ⟨-, -, -, -, hp⟩ := h1
    exact hp h
  split
  · exact h1
  · rw [hparked]
    exact h1.trans s1.undisturbed_assignAll

@[simp] theorem State.undisturbed_pushEvents (s : State) : s.Undisturbed s.pushEvents :=
  .of_foldl (fun u x => by dsimp only; split <;> simp) _ s

@[simp] theorem State.undisturbed_chargeTime (s : State) : s.Undisturbed s.chargeTime := by
  unfold State.chargeTime
  simp

/-- The state in which the ports do their work of a count: the trap timers and the timebase have counted. -/
def State.counted (s : State) : State :=
  let s1 := if microsecond s.time then { s with ctxs := s.ctxs.mapVals Ctx.timerTick {} } else s
  { s1.chargeTime with time := s.time + 1 }

theorem State.undisturbed_counted (s : State) : State.Undisturbed { s with time := s.time + 1 } s.counted := by
  unfold State.counted
  extract_lets s1
  have h1 : s.Undisturbed s1 := by
    simp only [s1]
    split <;> simp
  obtain ⟨⟨-, hboard⟩, hrest⟩ := h1.trans s1.undisturbed_chargeTime
  exact ⟨⟨rfl, hboard⟩, hrest⟩

/-- In OFF the timebase does not run. -/
theorem State.tick_of_off {s : State} (h : s.power.node = .off) : s.tick = s := by
  simp [State.tick, State.timeRuns, State.isIn, h]

/-- Elsewhere it counts once. -/
theorem State.tick_of_running {s : State} (h : s.power.node ≠ .off) : s.tick = s.counted.portsTick.pushEvents := by
  simp [State.tick, State.counted, State.timeRuns, State.isIn, h]

theorem State.sameBoard_tick {s : State} (h : s.power.node ≠ .off) : State.SameBoard { s with time := s.time + 1 } s.tick := by
  rw [State.tick_of_running h]
  exact (s.undisturbed_counted.1.trans s.counted.sameBoard_portsTick).trans s.counted.portsTick.undisturbed_pushEvents.1

/-- A count in which no request waits leaves the node undisturbed. -/
theorem State.undisturbed_tick {s : State} (h : s.power.node ≠ .off) (hp : s.fabric.parked = []) :
    State.Undisturbed { s with time := s.time + 1 } s.tick := by
  obtain ⟨-, -, -, -, hparked⟩ := s.undisturbed_counted
  rw [State.tick_of_running h]
  exact (s.undisturbed_counted.trans (State.undisturbed_portsTick (hparked hp))).trans s.counted.portsTick.undisturbed_pushEvents

/-! ## The statement about a step -/

/-- Settles O56: `step` branches on the queue and on the inputs that wait, and a count keeps the board, and, where no request waits,
the node undisturbed. -/
theorem aStepRunsTheFrontCommand : Obligations.AStepRunsTheFrontCommand := by
  unfold Obligations.AStepRunsTheFrontCommand
  refine ⟨?front, ?held, ?off, ?count⟩
  case front =>
    intro s c q hq
    simp only [step, State.rest, hq, List.drop_succ_cons, List.drop_zero]
  case held =>
    intro s c hq hheld
    simp only [step, hq, hheld]
  case off =>
    intro s hq hheld hoff
    simp only [step, hq, hheld, State.tick_of_off hoff]
  case count =>
    intro s hq hheld hon
    obtain ⟨htime, hpending, -⟩ := State.sameBoard_tick hon
    refine ⟨s.tick, by simp only [step, hq, hheld], htime, hpending.trans hq, fun hp => ?_⟩
    obtain ⟨⟨-, -, -, hsec, -⟩, hmem, hpower, hjny, -⟩ := State.undisturbed_tick hon hp
    exact ⟨hmem, hpower, hsec, hjny⟩

end Sys2Proof.Machine

/-! What every step keeps of a state: its memory stays canonical and debug stays marked. -/

namespace Sys2Proof.Machine

/-! ## Soundness of what operations answer -/

/-- An optional state is sound where there is one. -/
def OptionSound (o : Option State) : Prop := ∀ t, o = some t → t.Sound

/-- An optional pair's state is sound where there is one. -/
def PairSound {α : Type} (o : Option (State × α)) : Prop := ∀ x, o = some x → x.1.Sound

/-- What a command answers is sound where it is a next state. -/
def ResSound (r : Res) : Prop := ∀ t, r = .next t → t.Sound

/-- What an instruction leaves is sound. -/
def Act.Sound : Act → Prop
  | .retire u _ _ | .trap u _ _ _ _ | .unit u _ | .block u _ | .halt u _ _ _ | .offer u _ _ => u.Sound
  | .stay => True

section
variable {s t : State}

/-- What has the memory, the debug state and the flag of a sound state is sound. -/
theorem State.Sound.congr (h : s.Sound) (hm : t.mem = s.mem) (hd : t.sec.debug = s.sec.debug)
    (hf : t.power.dbgFlag = s.power.dbgFlag) : t.Sound := by
  obtain ⟨hmem, hmark⟩ := h
  refine ⟨?_, ?_⟩
  · rw [State.memCanonical, hm]
    exact hmem
  · rw [State.unlockMarked, hd, hf]
    exact hmark

/-- An update of the record that keeps the memory, the debug state and the flag. -/
theorem State.Sound.upd {power : Power} {time : Nat} {domains : FMap Domain} {ports : FMap Port} {fabric : Fabric}
    {bench : Benches} {jny : JoineryState} {dram : Dram} {sync : Sync} {queues : FMap Queue} {shares : Shares} {ctxs : FMap Ctx}
    {streams : FMap Stream} {images : FMap (Option LexImage)} {hold : Hold} {sec : Security} {bureau : Bureau} {events : Events}
    {host : HostPort} {dbg : Debug} {out delayed : List Out} {fresh : Nat} {pending : List Instr}
    (hf : power.dbgFlag = s.power.dbgFlag) (hd : sec.debug = s.sec.debug) (h : s.Sound) :
    (State.mk power time domains ports fabric bench jny s.mem dram sync queues shares ctxs streams images hold sec bureau events
      host dbg out delayed fresh pending).Sound :=
  h.congr rfl hd hf

/-- An update of the record that writes another canonical memory. -/
theorem State.Sound.upd_mem (h : s.Sound) {time : Nat} {domains : FMap Domain} {ports : FMap Port} {fabric : Fabric}
    {bench : Benches} {jny : JoineryState} {mem : List Host.Cell} {dram : Dram} {sync : Sync} {queues : FMap Queue} {shares : Shares}
    {ctxs : FMap Ctx} {streams : FMap Stream} {images : FMap (Option LexImage)} {hold : Hold} {bureau : Bureau} {events : Events}
    {host : HostPort} {dbg : Debug} {out delayed : List Out} {fresh : Nat} {pending : List Instr} (hm : Memory.wf mem = true) :
    (State.mk s.power time domains ports fabric bench jny mem dram sync queues shares ctxs streams images hold s.sec bureau events
      host dbg out delayed fresh pending).Sound :=
  ⟨hm, h.2⟩

theorem State.Sound.ite {c : Prop} [Decidable c] (hs : s.Sound) (ht : t.Sound) : (if c then s else t).Sound := by
  split
  · exact hs
  · exact ht

theorem State.Sound.ite_fst {α : Type} {c : Prop} [Decidable c] {x y : State × α} (hx : x.1.Sound) (hy : y.1.Sound) :
    (if c then x else y).1.Sound := by
  split
  · exact hx
  · exact hy

theorem State.Sound.foldl {α : Type} {g : State → α → State} {l : List α} (hg : ∀ u x, u.Sound → (g u x).Sound) (h : s.Sound) :
    (l.foldl g s).Sound := foldl_holds State.Sound g hg l s h

theorem State.Sound.foldl_fst {α β : Type} {g : State × β → α → State × β} {l : List α} {x : State × β}
    (hg : ∀ y a, y.1.Sound → (g y a).1.Sound) (h : x.1.Sound) : (l.foldl g x).1.Sound :=
  foldl_holds (fun y : State × β => y.1.Sound) g hg l x h

/-- What keeps the first part of a pair sound keeps it so under the pair's name. -/
theorem State.Sound.of_eq {α : Type} {x : State × α} {a : α} (h : x.1.Sound) (e : x = (t, a)) : t.Sound := by
  rwa [e] at h

theorem State.Undisturbed.sound (k : s.Undisturbed t) (h : s.Sound) : t.Sound := by
  obtain ⟨⟨-, -, -, hsec, -⟩, hmem, hpower, -⟩ := k
  exact h.congr hmem (congrArg Security.debug hsec) (congrArg Power.dbgFlag hpower)

theorem OptionSound.none : OptionSound none := by
  simp [OptionSound]

theorem OptionSound.some (h : s.Sound) : OptionSound (some s) := by
  intro t ht
  exact Option.some.inj ht ▸ h

theorem OptionSound.ite {c : Prop} [Decidable c] {x y : Option State} (hx : OptionSound x) (hy : OptionSound y) :
    OptionSound (if c then x else y) := by
  split
  · exact hx
  · exact hy

theorem OptionSound.of_eq {o : Option State} (h : OptionSound o) (e : o = Option.some t) : t.Sound := h t e

theorem OptionSound.map {o : Option State} {f : State → State} (h : OptionSound o) (hf : ∀ u, u.Sound → (f u).Sound) :
    OptionSound (o.map f) := by
  intro t ht
  obtain ⟨u, hu, rfl⟩ := Option.map_eq_some_iff.1 ht
  exact hf u (h u hu)

theorem OptionSound.foldl {α : Type} {g : Option State → α → Option State} {l : List α} {o : Option State}
    (hg : ∀ o a, OptionSound o → OptionSound (g o a)) (h : OptionSound o) : OptionSound (l.foldl g o) :=
  foldl_holds OptionSound g hg l o h

theorem OptionSound.bind {o : Option State} {f : State → Option State} (h : OptionSound o) (hf : ∀ u, u.Sound → OptionSound (f u)) :
    OptionSound (o.bind f) := by
  intro t ht
  obtain ⟨u, hu, hft⟩ := Option.bind_eq_some_iff.1 ht
  exact hf u (h u hu) t hft

theorem State.Sound.getD {o : Option State} (h : OptionSound o) (hs : s.Sound) : (o.getD s).Sound := by
  cases o with
  | none => exact hs
  | some u => exact h u rfl

theorem PairSound.none {α : Type} : PairSound (α := α) none := by
  simp [PairSound]

theorem PairSound.some {α : Type} {x : State × α} (h : x.1.Sound) : PairSound (some x) := by
  intro y hy
  exact Option.some.inj hy ▸ h

theorem PairSound.ite {α : Type} {c : Prop} [Decidable c] {x y : Option (State × α)} (hx : PairSound x) (hy : PairSound y) :
    PairSound (if c then x else y) := by
  split
  · exact hx
  · exact hy

theorem PairSound.map {α : Type} {o : Option State} {f : State → State × α} (h : OptionSound o)
    (hf : ∀ u, u.Sound → (f u).1.Sound) : PairSound (o.map f) := by
  intro x hx
  obtain ⟨u, hu, rfl⟩ := Option.map_eq_some_iff.1 hx
  exact hf u (h u hu)

theorem PairSound.map_fst {α β : Type} {o : Option (State × α)} {f : State × α → State × β} (h : PairSound o)
    (hf : ∀ x, x.1.Sound → (f x).1.Sound) : PairSound (o.map f) := by
  intro y hy
  obtain ⟨x, hx, rfl⟩ := Option.map_eq_some_iff.1 hy
  exact hf x (h x hx)

theorem PairSound.foldl {α β : Type} {g : Option (State × β) → α → Option (State × β)} {l : List α} {o : Option (State × β)}
    (hg : ∀ o a, PairSound o → PairSound (g o a)) (h : PairSound o) : PairSound (l.foldl g o) :=
  foldl_holds PairSound g hg l o h

theorem PairSound.of_eq {α : Type} {o : Option (State × α)} {a : α} (h : PairSound o) (e : o = Option.some (t, a)) : t.Sound :=
  h _ e

theorem ResSound.next (h : s.Sound) : ResSound (.next s) := by
  intro t ht
  exact Host.Outcome.next.inj ht ▸ h

theorem ResSound.ite {c : Prop} [Decidable c] {x y : Res} (hx : ResSound x) (hy : ResSound y) : ResSound (if c then x else y) := by
  split
  · exact hx
  · exact hy

theorem Act.Sound.retire (h : s.Sound) {c : Ctx} {n : BitVec 16} : (Act.retire s c n).Sound := h
theorem Act.Sound.trap (h : s.Sound) {c : Ctx} {a b : Nat} {o : Option LongOp} : (Act.trap s c a b o).Sound := h
theorem Act.Sound.unit (h : s.Sound) {c : Ctx} : (Act.unit s c).Sound := h
theorem Act.Sound.block (h : s.Sound) {c : Ctx} : (Act.block s c).Sound := h
theorem Act.Sound.halt (h : s.Sound) {c : Ctx} {st : Status} {x : W64} : (Act.halt s c st x).Sound := h
theorem Act.Sound.offer (h : s.Sound) {c : Ctx} {n : BitVec 16} : (Act.offer s c n).Sound := h
theorem Act.Sound.stay : Act.stay.Sound := trivial

theorem Act.Sound.ite {c : Prop} [Decidable c] {x y : Act} (hx : x.Sound) (hy : y.Sound) : (if c then x else y).Sound := by
  split
  · exact hx
  · exact hy

/-! ## What every operation keeps

Most operations update fields that soundness does not read; `State.Sound.upd` is the rule for them. The few that write the memory
cite `State.Sound.upd_mem` and the laws of the memory, and the few that touch the debug state or its flag say why below. -/

/-! ### Events -/

theorem State.Sound.emit {o : Out} (h : s.Sound) : (s.emit o).Sound := .upd rfl rfl h
theorem State.Sound.console {ts : Nat} {text : String} (h : s.Sound) : (s.console ts text).Sound := .emit h
theorem State.Sound.msix {v : Nat} (h : s.Sound) : (s.msix v).Sound := (s.undisturbed_msix v).sound h
theorem State.Sound.signal {v : Nat} (h : s.Sound) : (s.signal v).Sound := .ite (.msix (.upd rfl rfl h)) h

theorem State.Sound.post {e : Ev} {kind : SourceKind} {n : Nat} {entry : EventEntry} (h : s.Sound) :
    (s.post e kind n entry).Sound :=
  (s.undisturbed_post e kind n entry).sound h

theorem State.Sound.note {e : Ev} {kind : SourceKind} {n a b c : Nat} (h : s.Sound) : (s.note e kind n a b c).Sound :=
  (s.undisturbed_note e kind n a b c).sound h

theorem State.Sound.counterWrap {offset : Nat} (h : s.Sound) : (s.counterWrap offset).Sound :=
  (s.undisturbed_counterWrap offset).sound h

/-! ### The fields of the state -/

theorem State.Sound.setPort {p : Nat} {v : Port} (h : s.Sound) : (s.setPort p v).Sound := .upd rfl rfl h
theorem State.Sound.updPort {p : Nat} {f : Port → Port} (h : s.Sound) : (s.updPort p f).Sound := .setPort h
theorem State.Sound.setStk {n : Nat} {v : Stack} (h : s.Sound) : (s.setStk n v).Sound := .upd rfl rfl h
theorem State.Sound.updStk {n : Nat} {f : Stack → Stack} (h : s.Sound) : (s.updStk n f).Sound := .setStk h
theorem State.Sound.setDom {d : Nat} {v : Domain} (h : s.Sound) : (s.setDom d v).Sound := .upd rfl rfl h
theorem State.Sound.setDrw {d : Nat} {v : DrawerState} (h : s.Sound) : (s.setDrw d v).Sound := .upd rfl rfl h
theorem State.Sound.setQueue {q : Nat} {v : Queue} (h : s.Sound) : (s.setQueue q v).Sound := .upd rfl rfl h
theorem State.Sound.setCtx {k : Nat} {v : Ctx} (h : s.Sound) : (s.setCtx k v).Sound := .upd rfl rfl h
theorem State.Sound.setStream {n : Nat} {v : Stream} (h : s.Sound) : (s.setStream n v).Sound := .upd rfl rfl h
theorem State.Sound.setCounter {c : Nat} {v : Counter} (h : s.Sound) : (s.setCounter c v).Sound := .upd rfl rfl h
theorem State.Sound.draw (h : s.Sound) : s.draw.Sound := .upd rfl rfl h
theorem State.Sound.input {c : Instr} (h : s.Sound) : (s.input c).Sound := .upd rfl rfl h
theorem State.Sound.portInput {c : Instr} (h : s.Sound) : (s.portInput c).Sound := .ite h (.ite (.upd rfl rfl h) (.input h))

theorem State.Sound.deliver {c : Instr} {f : State → State} (h : s.Sound) (hf : ∀ u, u.Sound → (f u).Sound) :
    (s.deliver c f).Sound :=
  .ite (hf _ h) (.ite (.upd rfl rfl h) (hf _ (.input h)))

theorem State.Sound.noteOnce {e : Ev} (h : s.Sound) : (s.noteOnce e).Sound := .ite h (.note (.upd rfl rfl h))

/-! ### Waits and counters (chapter 10) -/

theorem State.Sound.setWaits {ws : List Wait} (h : s.Sound) : (s.setWaits ws).Sound := .upd rfl rfl h
theorem State.Sound.freeWait {id : Nat} (h : s.Sound) : (s.freeWait id).Sound := .setWaits h
theorem State.Sound.discard {t n : Nat} (h : s.Sound) : (s.discard t n).Sound := .upd rfl rfl h
theorem State.Sound.setPhase {id : Nat} {ph : WaitPhase} (h : s.Sound) : (s.setPhase id ph).Sound := .setWaits h

theorem State.Sound.releaseAll {p : Wait → Bool} {st : Status} (h : s.Sound) : (s.releaseAll p st).Sound :=
  (s.undisturbed_releaseAll p st).sound h

theorem State.Sound.wake {c : Nat} (h : s.Sound) : (s.wake c).Sound := (s.undisturbed_wake c).sound h

theorem State.Sound.addCounter {c : Nat} {x : W64} (h : s.Sound) : (s.addCounter c x).1.Sound :=
  (s.undisturbed_addCounter c x).sound h

theorem State.Sound.storeCounter {c : Nat} {x : W64} (h : s.Sound) : (s.storeCounter c x).Sound := .wake (.setCounter h)

theorem State.Sound.register {c t : Nat} {th : W64} {target : Option Target} {owner : WaitOwner} (h : s.Sound) :
    (s.register c t th target owner).Sound :=
  .ite (.noteOnce (.upd rfl rfl h)) (.upd rfl rfl h)

theorem State.Sound.counterDo {c t : Nat} {op : CounterOp} (h : s.Sound) : (s.counterDo c t op).1.Sound := by
  unfold State.counterDo
  extract_lets _ answer
  have hanswer : ∀ (u : State) (st : Status) (w r : Bool), u.Sound → (answer u st w r).1.Sound := fun _ _ _ _ hu => hu
  split
  · exact hanswer _ _ _ _ (.addCounter h)
  · exact hanswer _ _ _ _ (.storeCounter h)
  · exact hanswer _ _ _ _ h
  · exact .ite_fst (hanswer _ _ _ _ h) (.ite_fst h (.ite_fst h (hanswer _ _ _ _ (.register h))))

theorem State.Sound.counterOp {c : Nat} {granted : Nat → Bool} {op : CounterOp} (h : s.Sound) :
    (s.counterOp c granted op).1.Sound := by
  unfold State.counterOp
  split
  · exact h
  · exact .counterDo h

theorem State.Sound.retireSlots {q : Nat} {index : W32} {slots : Nat} (h : s.Sound) : (s.retireSlots q index slots).Sound :=
  .setQueue h

theorem State.Sound.tenantAdd {c : Nat} {x : W64} {t : Nat} {cmd : Option (Nat × W32 × Nat)} (h : s.Sound) :
    (s.tenantAdd c x t cmd).1.Sound :=
  .ite_fst (.ite_fst (.upd rfl rfl h) (.addCounter h)) (.discard h)

theorem State.Sound.takeHeld {d : HeldAdd} (h : s.Sound) : (s.takeHeld d).Sound := by
  unfold State.takeHeld
  extract_lets u
  have hu : u.Sound := .tenantAdd h
  split
  · exact hu
  · exact .retireSlots hu

theorem State.Sound.thawAdds (h : s.Sound) : s.thawAdds.Sound := .foldl (fun _ _ hu => .takeHeld hu) (.upd rfl rfl h)

theorem State.Sound.raise {e : Ev} {kind : SourceKind} {n a b c : Nat} (h : s.Sound) : (s.raise e kind n a b c).Sound :=
  (s.undisturbed_raise e kind n a b c).sound h

/-! ### The node state, health and answers -/

theorem State.Sound.setNode {n : NodeState} {why : String} (h : s.Sound) : (s.setNode n why).Sound := .console (.upd rfl rfl h)

theorem State.Sound.settle (h : s.Sound) : s.settle.Sound := .ite h (.ite (.upd rfl rfl h)
    (.raise (.upd rfl rfl (.upd rfl rfl h))))

theorem State.Sound.busyFell (h : s.Sound) : s.busyFell.Sound := .msix h

theorem State.Sound.answer {session reqId kind : Nat} {st : Status} {body : Body} (h : s.Sound) :
    (s.answer session reqId kind st body).Sound :=
  .ite (.emit h) h

theorem State.Sound.refusePending {kind : Nat} {who : Submitter} {body : Body} (h : s.Sound) :
    (s.refusePending kind who body).Sound := by
  unfold State.refusePending
  split
  · exact .busyFell h
  · exact .answer h

theorem State.Sound.endPending (h : s.Sound) : s.endPending.Sound := by
  unfold State.endPending
  extract_lets _ s1 s2
  have hs1 : s1.Sound := by
    unfold s1
    split
    · exact h
    · exact .refusePending (.upd rfl rfl h)
    · exact .refusePending (.upd rfl rfl h)
    · exact .refusePending (.upd rfl rfl h)
  have hs2 : s2.Sound := .foldl (fun _ _ hu => .refusePending (.upd rfl rfl hu)) hs1
  split
  · exact hs2
  · exact .ite hs2 (.answer hs2)

theorem State.Sound.loseContents (h : s.Sound) : s.loseContents.Sound := ⟨s.wf_loseContents, h.2⟩

theorem State.Sound.enterFailed {code : Nat} {why : String} (h : s.Sound) : (s.enterFailed code why).Sound :=
  .setNode (.upd rfl rfl (.loseContents (.endPending h)))

theorem State.Sound.bootFailure {code : Nat} (h : s.Sound) : (s.bootFailure code).Sound := .upd rfl rfl h

/-! ### Stored lines (chapter 3) -/

theorem State.Sound.memEvent {e : Ev} {stack flags d sym1 sym2 blk line spare last : Nat} (h : s.Sound) :
    (s.memEvent e stack flags d sym1 sym2 blk line spare last).Sound :=
  .post h

theorem State.Sound.countErr {stack i : Nat} (h : s.Sound) : (s.countErr stack i).Sound := .updStk h

theorem State.Sound.advise {stack blk line d : Nat} (h : s.Sound) : (s.advise stack blk line d).Sound :=
  .ite h (.ite (.memEvent (.upd rfl rfl (.memEvent (.upd rfl rfl h)))) (.memEvent (.upd rfl rfl h)))

theorem State.Sound.noteHard {stack blk line d : Nat} (h : s.Sound) : (s.noteHard stack blk line d).Sound :=
  .ite (.advise (.upd rfl rfl h)) (.upd rfl rfl h)

theorem State.Sound.degrade {d stack : Nat} (h : s.Sound) : (s.degrade d stack).Sound := .ite h (.memEvent (.setDrw h))
theorem State.Sound.keepTables (h : s.Sound) : s.keepTables.Sound := .upd rfl rfl h

theorem State.Sound.loseStack {n : Nat} (h : s.Sound) : (s.loseStack n).Sound := by
  unfold State.loseStack
  refine .ite h ?_
  extract_lets _ s1 s2 _ _ _ s3 s4
  have hs1 : s1.Sound := .raise (.updStk h)
  have hs2 : s2.Sound := .foldl (fun _ _ hu => .degrade hu) hs1
  have hs3 : s3.Sound := .upd rfl rfl hs2
  have hs4 : s4.Sound := by
    unfold s4
    refine .foldl (fun _ _ hu => ?_) hs3
    split
    · exact .answer hu
    · exact .busyFell (.upd rfl rfl hu)
  exact .ite (.enterFailed hs4) (.keepTables hs4)

theorem State.Sound.notePoison {stack blk : Nat} (h : s.Sound) : (s.notePoison stack blk).Sound :=
  .ite (.loseStack (.upd rfl rfl h)) (.upd rfl rfl h)

theorem State.Sound.damageAt {stack pl : Nat} (h : s.Sound) : (s.damageAt stack pl).1.Sound := by
  unfold State.damageAt
  split
  · exact h
  · split
    · exact .ite h (.upd rfl rfl h)
    · exact .upd rfl rfl h

theorem State.Sound.codeAt {stack pl : Nat} (h : s.Sound) : (s.codeAt stack pl).1.Sound := by
  unfold State.codeAt
  split
  · exact .ite_fst (.updStk h) (.damageAt h)
  · exact .ite_fst (.updStk h) (.damageAt h)
  · exact .damageAt h

theorem State.Sound.recordCheck {flags stack pl d off : Nat} {inj : Bool} {x : Check} (h : s.Sound) :
    (s.recordCheck flags stack pl d off inj x).Sound := by
  unfold State.recordCheck
  split
  · exact h
  · exact .countErr h
  · exact .noteHard (.memEvent (.countErr h))
  · exact .memEvent (.countErr h)
  · exact h

theorem State.Sound.recordPoison {flags stack pl d off : Nat} {inj : Bool} {a b : Nat} (h : s.Sound) :
    (s.recordPoison flags stack pl d off inj a b).Sound := by
  unfold State.recordPoison
  extract_lets s1
  have hs1 : s1.Sound := .advise (.memEvent (.countErr h))
  exact .ite hs1 (.notePoison hs1)

theorem State.Sound.storeLine {d l : Nat} {data : List Byte} (h : s.Sound) : (s.storeLine d l data).Sound :=
  ⟨State.wf_storeLine d l data h.1, h.2⟩

theorem State.Sound.poisonLine {d l : Nat} (h : s.Sound) : (s.poisonLine d l).Sound := .upd rfl rfl (.storeLine h)

theorem State.Sound.readFrom {flags d l : Nat} {places : List (Nat × Nat)} (h : s.Sound) :
    (s.readFrom flags d l places).1.Sound := by
  unfold State.readFrom
  split
  · exact h
  · refine .ite_fst h ?_
    extract_lets _ _
    split
    next s2 _ _ _ e =>
      have hs2 : s2.Sound := State.Sound.of_eq (.codeAt h) e
      split
      · exact .recordPoison (.poisonLine hs2)
      · extract_lets _
        split
        next s21 _ _ _ e1 =>
          have hs21 : s21.Sound := State.Sound.of_eq (.codeAt hs2) e1
          exact .recordPoison (.recordPoison (.poisonLine hs21))
        next s21 _ _ _ e1 =>
          have hs21 : s21.Sound := State.Sound.of_eq (.codeAt hs2) e1
          exact .memEvent (.countErr (.recordCheck hs21))
    next s2 _ _ _ e =>
      have hs2 : s2.Sound := State.Sound.of_eq (.codeAt h) e
      exact .recordCheck hs2

theorem State.Sound.readLine {flags d l : Nat} (h : s.Sound) : (s.readLine flags d l).1.Sound := .readFrom h

theorem State.Sound.storeCells {stack pl : Nat} (h : s.Sound) : (s.storeCells stack pl).Sound := by
  unfold State.storeCells
  extract_lets _ s1 w' _ hit
  have hs1 : s1.Sound := .upd rfl rfl h
  have hw' : w'.Sound := .updStk hs1
  have hhit : ∀ (first again : Cond), (hit first again).Sound := fun _ _ => .upd rfl rfl hw'
  split
  · exact .ite (hhit _ _) hs1
  · exact .ite (hhit _ _) hs1
  · exact hs1

theorem State.Sound.writeLine {d l at_ : Nat} {data : List Byte} (h : s.Sound) : (s.writeLine d l at_ data).1.Sound := by
  unfold State.writeLine
  extract_lets _ cells
  have hcells : ∀ (u : State), u.Sound → (cells u).Sound := fun _ hu => .foldl (fun _ _ hu1 => .storeCells hu1) hu
  refine .ite_fst h (.ite_fst (hcells _ (.storeLine h)) ?_)
  split
  next s1 _ e =>
    have hs1 : s1.Sound := State.Sound.of_eq (.readLine h) e
    exact .ite_fst hs1 (hcells _ (.storeLine hs1))

theorem State.Sound.writePoison {d l : Nat} (h : s.Sound) : (s.writePoison d l).Sound := .ite h (.poisonLine h)

theorem State.Sound.readRange {d off n : Nat} (h : s.Sound) : (s.readRange d off n).1.Sound :=
  .foldl_fst (fun _ _ hy => .readLine hy) h

theorem State.Sound.writeRange {d off : Nat} {data : List Byte} (h : s.Sound) : (s.writeRange d off data).1.Sound :=
  .foldl_fst (fun _ _ hy => .writeLine hy) h

theorem State.Sound.dropSnapshot {id : Nat} (h : s.Sound) : (s.dropSnapshot id).Sound := .upd rfl rfl h

theorem OptionSound.reserveFor {t n fuel : Nat} (h : s.Sound) : OptionSound (s.reserveFor t n fuel) := by
  induction fuel generalizing s with
  | zero => exact .none
  | succ fuel ih =>
    unfold State.reserveFor
    refine .ite (.some h) ?_
    split
    · exact .none
    · exact ih (.noteOnce (.dropSnapshot h))

theorem OptionSound.unshare {d b : Nat} (h : s.Sound) : OptionSound (s.unshare d b) := by
  unfold State.unshare
  refine .ite (.some h) ?_
  split
  · exact .some h
  · extract_lets _
    split
    · exact .none
    next u e1 =>
      have hu : u.Sound := OptionSound.of_eq (.reserveFor h) e1
      exact .ite (.some hu) (.some (.upd rfl rfl hu))

theorem OptionSound.claimRange {d off n : Nat} (h : s.Sound) : OptionSound (s.claimRange d off n) := by
  unfold State.claimRange
  refine .ite (.some h) (.foldl (fun o i ho => ?_) (.some h))
  split
  · exact .none
  next v => exact .unshare (ho.of_eq rfl)

theorem State.Sound.withFound {found : List Damage} (h : s.Sound) : (s.withFound found).Sound := .upd rfl rfl h

/-! ### Queues (chapter 12) -/

theorem OptionSound.underGens {c : RunCmd} {f : State → Option State} (h : s.Sound) (hf : ∀ u, u.Sound → OptionSound (f u)) :
    OptionSound (s.underGens c f) :=
  .ite (hf _ h) (.map (hf _ (.upd rfl rfl h)) fun _ hu => .upd rfl rfl hu)

theorem State.Sound.updRun {q : Nat} {i : W32} {f : RunCmd → RunCmd} (h : s.Sound) : (s.updRun q i f).Sound :=
  (s.undisturbed_updRun q i f).sound h

theorem State.Sound.endRun {q : Nat} {i : W32} {st : Status} {progress result : W64} (h : s.Sound) :
    (s.endRun q i st progress result).Sound :=
  (s.undisturbed_endRun q i st progress result).sound h

theorem State.Sound.dropRun {q : Nat} {i : W32} (h : s.Sound) : (s.dropRun q i).Sound := .setQueue h

theorem State.Sound.writeRecord {q : Nat} {r : QueueRange} {c : RunCmd} {addPending : Bool} (h : s.Sound) :
    (s.writeRecord q r c addPending).Sound :=
  .writeRange h

theorem State.Sound.completeIn {q : Nat} {r : QueueRange} {c : RunCmd} (h : s.Sound) : (s.completeIn q r c).Sound := by
  unfold State.completeIn
  extract_lets _ _ _ s1 s2 s3 s4
  have hs1 : s1.Sound := .writeRecord h
  have hs2 : s2.Sound := .ite (.tenantAdd hs1) hs1
  have hs3 : s3.Sound := .ite (.note hs2) hs2
  have hs4 : s4.Sound := .dropRun hs3
  exact .ite hs4 (.retireSlots hs4)

theorem State.Sound.complete {q : Nat} {i : W32} (h : s.Sound) : (s.complete q i).Sound := by
  unfold State.complete
  split
  · exact .completeIn h
  · exact h

theorem State.Sound.beginQuantum {cls n : Nat} (h : s.Sound) : (s.beginQuantum cls n).Sound := .upd rfl rfl h

theorem State.Sound.served {q : Nat} {r : QueueRange} {n : Nat} (h : s.Sound) :
    (s.served q r n).Sound := .upd rfl rfl (.beginQuantum h)

theorem State.Sound.addRun {q : Nat} {c : RunCmd} (h : s.Sound) : (s.addRun q c).Sound := .setQueue h
theorem State.Sound.chargeTime (h : s.Sound) : s.chargeTime.Sound := (s.undisturbed_chargeTime).sound h

theorem State.Sound.continuePreempted {q : Nat} {r : QueueRange} {c : RunCmd} (h : s.Sound) :
    (s.continuePreempted q r c).Sound := by
  unfold State.continuePreempted
  split
  · exact h
  · exact .updRun (.served h)

theorem State.Sound.dispatchNext {q : Nat} {r : QueueRange} {u : Queue} (h : s.Sound) : (s.dispatchNext q r u).Sound := by
  unfold State.dispatchNext
  extract_lets _ r0 _ rest s1 _ verdict
  have hr0 : r0.1.Sound := .readRange h
  have hrest : rest.1.Sound := .foldl_fst (fun _ _ hy => .readRange hy) hr0
  have hs1 : s1.Sound := hrest
  refine .ite h ?_
  clear_value verdict
  split
  · exact .addRun hs1
  · refine .ite h ?_
    split
    · exact h
    · exact .addRun (.served hs1)

theorem State.Sound.dispatch {q : Nat} (h : s.Sound) : (s.dispatch q).Sound := by
  unfold State.dispatch
  split
  · exact h
  · extract_lets _
    refine .ite h ?_
    split
    · exact .ite (.continuePreempted h) h
    · exact .dispatchNext h

theorem State.Sound.stopRuns {p : Nat → RunCmd → Bool} {st : Status} (h : s.Sound) : (s.stopRuns p st).Sound :=
  .foldl (fun _ _ hu => .setQueue hu) h

theorem State.Sound.resumePoint {q : Nat} {i : W32} (h : s.Sound) : (s.resumePoint q i).Sound := by
  unfold State.resumePoint
  split
  · refine .ite h ?_
    extract_lets _ s1 _
    have hs1 : s1.Sound := .ite (.upd rfl rfl h) h
    split
    · exact .ite hs1 (.ite (.updRun hs1) (.endRun hs1))
    · exact .ite (.ite hs1 (.updRun hs1)) (.ite (.updRun hs1) hs1)
  · exact h

/-! ### What a port sends (chapter 6) -/

theorem State.Sound.transportError {p : Nat} (h : s.Sound) : (s.transportError p).Sound := .updPort h

theorem State.Sound.portEvent {e : Ev} {p a c : Nat} (h : s.Sound) : (s.portEvent e p a c).Sound :=
  (s.undisturbed_portEvent e p a c).sound h

theorem State.Sound.countTx {p n : Nat} (h : s.Sound) : (s.countTx p n).Sound := (s.undisturbed_countTx p n).sound h
theorem State.Sound.countRx {p : Nat} (h : s.Sound) : (s.countRx p).Sound := .ite (.counterWrap (.setPort h)) (.setPort h)

theorem State.Sound.emitFlits {p : Nat} {raws : List (List Byte)} (h : s.Sound) : (s.emitFlits p raws).Sound :=
  (s.undisturbed_emitFlits p raws).sound h

theorem State.Sound.emitGone {p : Nat} {g : Gone} (h : s.Sound) : (s.emitGone p g).Sound := (s.undisturbed_emitGone p g).sound h
theorem State.Sound.creditOnly {p : Nat} (h : s.Sound) : (s.creditOnly p).Sound := (s.undisturbed_creditOnly p).sound h
theorem State.Sound.pump {p : Nat} (h : s.Sound) : (s.pump p).Sound := (s.undisturbed_pump p).sound h
theorem State.Sound.launchNow {p : Nat} {m : Msg} (h : s.Sound) : (s.launchNow p m).Sound := .countTx (.emitGone (.setPort h))

theorem State.Sound.sendVc3 {p kind : Nat} {fields : List Byte} (h : s.Sound) : (s.sendVc3 p kind fields).Sound :=
  (s.undisturbed_sendVc3 p kind fields).sound h

theorem State.Sound.sendIdle {p : Nat} (h : s.Sound) : (s.sendIdle p).Sound := (s.undisturbed_sendIdle p).sound h
theorem State.Sound.sendNak {p : Nat} (h : s.Sound) : (s.sendNak p).Sound := .ite (.setPort h) (.emit (.setPort h))

theorem State.Sound.sendTrain {p : Nat} {bytes : List Byte} (h : s.Sound) : (s.sendTrain p bytes).Sound :=
  .emitFlits (.updPort h)

theorem State.Sound.respond {op : Nat} {r : Req} {x : Reply} (h : s.Sound) : (s.respond op r x).Sound :=
  (s.undisturbed_respond op r x).sound h

theorem State.Sound.bindEp {ep p : Nat} {cert : List Byte} {chain : List (List Byte)} (h : s.Sound) :
    (s.bindEp ep p cert chain).Sound := by
  unfold State.bindEp
  split
  · exact h
  · exact .ite (.upd rfl rfl h) (.upd rfl rfl h)

theorem State.Sound.assignAll (h : s.Sound) : s.assignAll.Sound := (s.undisturbed_assignAll).sound h

theorem State.Sound.issue {issuer : Issuer} {opcode dst drawer offset : Nat} {word : W64} {data : List Byte} {place : Nat}
    (h : s.Sound) : (s.issue issuer opcode dst drawer offset word data place).Sound :=
  (s.undisturbed_issue issuer opcode dst drawer offset word data place).sound h

theorem State.Sound.endTransfer {q : Nat} {i : W32} {st : Status} {o : OutReq} (h : s.Sound) : (s.endTransfer q i st o).Sound :=
  (s.undisturbed_endTransfer q i st o).sound h

theorem State.Sound.outDone {o : OutReq} {st : Status} (h : s.Sound) : (s.outDone o st).Sound :=
  (s.undisturbed_outDone o st).sound h

theorem State.Sound.flush {p : Nat} (h : s.Sound) : (s.flush p).Sound := (s.undisturbed_flush p).sound h
theorem State.Sound.endSession {p : Nat} (h : s.Sound) : (s.endSession p).Sound := (s.undisturbed_endSession p).sound h

theorem State.Sound.fullReset {p : Nat} {dark : Bool} (h : s.Sound) : (s.fullReset p dark).Sound :=
  (s.undisturbed_fullReset p dark).sound h

theorem State.Sound.linkDown {p cause : Nat} (h : s.Sound) : (s.linkDown p cause).Sound :=
  (s.undisturbed_linkDown p cause).sound h

theorem State.Sound.goHold {p cause : Nat} (h : s.Sound) : (s.goHold p cause).Sound := .ite h (.updPort (.linkDown h))

theorem State.Sound.flushReset {p cause : Nat} {raiseDown : Bool} (h : s.Sound) : (s.flushReset p cause raiseDown).Sound :=
  .fullReset (.flush (.ite (.linkDown h) h))

theorem State.Sound.protocolDown {p : Nat} (h : s.Sound) : (s.protocolDown p).Sound := .flushReset (.portEvent h)

theorem State.Sound.plannedDown {p : Nat} {dark : Bool} (h : s.Sound) : (s.plannedDown p dark).Sound :=
  (s.undisturbed_plannedDown p dark).sound h

theorem State.Sound.forcedDown {p reason : Nat} (h : s.Sound) : (s.forcedDown p reason).Sound :=
  (s.undisturbed_forcedDown p reason).sound h

theorem State.Sound.sendPlanned {p reason : Nat} (h : s.Sound) : (s.sendPlanned p reason).Sound :=
  (s.undisturbed_sendPlanned p reason).sound h

theorem State.Sound.quiesce {p reason : Nat} (h : s.Sound) : (s.quiesce p reason).Sound :=
  .ite (.updPort (.sendVc3 h)) (.ite (.sendPlanned h) (.ite (.updPort h) (.updPort h)))

theorem State.Sound.quiesceStep {p : Nat} (h : s.Sound) : (s.quiesceStep p).Sound := (s.undisturbed_quiesceStep p).sound h
theorem State.Sound.afterFlit {p : Nat} (h : s.Sound) : (s.afterFlit p).Sound := (s.undisturbed_afterFlit p).sound h
theorem State.Sound.resumeTraffic {p : Nat} (h : s.Sound) : (s.resumeTraffic p).Sound := .assignAll (.afterFlit h)

/-! ### Link training (chapter 6) -/

theorem State.Sound.failAttempt {p : Nat} {long : Bool} (h : s.Sound) : (s.failAttempt p long).Sound := .updPort (.endSession h)

theorem State.Sound.sendWords {p : Nat} {pass : BitVec 8} {phase : Nat} (h : s.Sound) : (s.sendWords p pass phase).Sound := by
  unfold State.sendWords
  split
  · exact h
  · exact .emit h

theorem State.Sound.sendKaFail {p reason : Nat} (h : s.Sound) : (s.sendKaFail p reason).Sound :=
  .ite (.launchNow h) (.sendTrain h)

theorem State.Sound.refusePeer {p reason : Nat} (h : s.Sound) : (s.refusePeer p reason).Sound :=
  .failAttempt (.ite (.portEvent (.sendKaFail h)) (.sendKaFail h))

theorem State.Sound.bindPeer {p : Nat} (h : s.Sound) : (s.bindPeer p).Sound := by
  unfold State.bindPeer
  split
  · exact .ite h (.updPort (.bindEp h))
  · exact h

theorem State.Sound.comeUp {p : Nat} (h : s.Sound) : (s.comeUp p).Sound := by
  unfold State.comeUp
  exact .settle (.resumeTraffic (.portEvent (.updPort h)))

theorem State.Sound.openSession {p : Nat} (h : s.Sound) : (s.openSession p).Sound :=
  .ite (.refusePeer h) (.bindPeer (.launchNow (.updPort h)))

theorem State.Sound.beginAgreement {p : Nat} (h : s.Sound) : (s.beginAgreement p).Sound :=
  .sendTrain (.sendTrain (.updPort (.draw (.draw h))))

theorem ResSound.execTrainingStepDone {p : Fin 32} {receives : BitVec 8} {words : List (Fin 8 × List Byte)} (h : s.Sound) :
    ResSound (execTrainingStepDone p receives words s) := by
  unfold Machine.execTrainingStepDone
  extract_lets _ _
  refine .ite (.next h) ?_
  split
  · exact .next (.sendWords (.setPort h))
  · exact .next (.sendWords (.setPort h))
  · exact .next (.sendWords (.setPort h))
  · split
    · exact .next h
    · split
      · exact .next (.failAttempt h)
      · exact .next (.sendWords (.setPort h))
  · exact .next (.beginAgreement h)
  · exact .ite (.next (.openSession h)) (.next h)
  · exact .ite (.next (.comeUp (.portInput h))) (.next h)
  · exact .next h

theorem ResSound.execTrainingStepTimeout {p : Fin 32} (h : s.Sound) : ResSound (execTrainingStepTimeout p s) :=
  .ite (.next (.failAttempt h)) (.next h)

theorem ResSound.execTrainingRetryPauseExpiry {p : Fin 32} (h : s.Sound) : ResSound (execTrainingRetryPauseExpiry p s) :=
  .ite (.next (.setPort h)) (.next h)

theorem ResSound.execTrainFailTimer {p : Fin 32} (h : s.Sound) : ResSound (execTrainFailTimer p s) :=
  .ite (.next (.portEvent (.setPort (.portInput h)))) (.next h)

theorem ResSound.execSynthLockTimeout {p : Fin 32} (h : s.Sound) : ResSound (execSynthLockTimeout p s) := by
  unfold Machine.execSynthLockTimeout
  extract_lets _ _ s1
  have hs1 : s1.Sound := .portEvent (.setPort (.portInput h))
  exact .ite (.next h) (.next (.settle (.ite (.failAttempt hs1) (.goHold hs1))))

theorem State.Sound.startRun {p : Nat} {a : Option Nat} (h : s.Sound) : (s.startRun p a).Sound :=
  .ite (.pump h) (.ite (.setPort h) (.countTx (.emitFlits (.setPort h))))

theorem State.Sound.afterSlot {p : Nat} (h : s.Sound) : (s.afterSlot p).Sound := by
  unfold State.afterSlot
  refine .ite h ?_
  extract_lets s1
  have hs1 : s1.Sound := .ite (.sendNak h) h
  split
  · exact .startRun hs1
  · exact .afterFlit hs1

theorem ResSound.execQuietSlotAnnounce {p : Fin 32} {len start : Nat} (h : s.Sound) :
    ResSound (execQuietSlotAnnounce p len start s) :=
  .ite (.next (.sendVc3 (.setPort h))) (.next h)

theorem ResSound.execQuietSlotStart {p : Fin 32} (h : s.Sound) : ResSound (execQuietSlotStart p s) := by
  unfold Machine.execQuietSlotStart
  extract_lets _ _ _
  refine .next ?_
  split
  · refine .ite (.setPort h) ?_
    split
    · exact .ite (.setPort h) h
    · exact h
  · exact .ite (.setPort h) h
  · exact h

theorem ResSound.execQuietSlotEnd {p : Fin 32} (h : s.Sound) : ResSound (execQuietSlotEnd p s) :=
  .ite (.next (.afterSlot (.setPort h))) (.ite (.next (.afterSlot (.setPort h))) (.next h))

theorem ResSound.execQuietDeferralExpiry {p : Fin 32} (h : s.Sound) : ResSound (execQuietDeferralExpiry p s) := by
  unfold Machine.execQuietDeferralExpiry
  extract_lets _
  split
  · exact .ite (.next (.setPort h)) (.next h)
  · exact .next h

theorem ResSound.execFloodAssert {p : Fin 32} (h : s.Sound) : ResSound (execFloodAssert p s) := by
  unfold Machine.execFloodAssert
  extract_lets _ s1 s2
  have hs1 : s1.Sound := .setPort h
  have hs2 : s2.Sound := .goHold (.portInput hs1)
  exact .ite (.next hs1) (.next (.ite hs2 (.portEvent (.updPort hs2))))

theorem ResSound.execFloodDebounceExpiry {p : Fin 32} (h : s.Sound) : ResSound (execFloodDebounceExpiry p s) :=
  .ite (.next (.setPort h)) (.next (.setPort h))

theorem ResSound.execLaneAlarmAssert {p : Fin 32} {lane : Fin 8} (h : s.Sound) : ResSound (execLaneAlarmAssert p lane s) :=
  .next (.settle (.ite (.goHold (.setPort (.portInput h))) (.setPort (.portInput h))))

theorem ResSound.execLaneAlarmClear {p : Fin 32} {lane : Fin 8} (h : s.Sound) : ResSound (execLaneAlarmClear p lane s) :=
  .next (.settle (.updPort (.portInput h)))

theorem ResSound.execLossOfSignal {p : Fin 32} (h : s.Sound) : ResSound (execLossOfSignal p s) :=
  .ite (.next (.goHold (.portInput h))) (.next h)

theorem ResSound.execResumeRetrainDone {p : Fin 32} (h : s.Sound) : ResSound (execResumeRetrainDone p s) := by
  unfold Machine.execResumeRetrainDone
  extract_lets _ s1
  have hs1 : s1.Sound := .sendNak (.setPort (.portInput h))
  exact .ite (.next h) (.ite (.next (.settle (.assignAll (.portEvent hs1))))
    (.ite (.next (.resumeTraffic (.setPort h))) (.next h)))

theorem ResSound.execGraceExpiry {p : Fin 32} (h : s.Sound) : ResSound (execGraceExpiry p s) :=
  .ite (.next (.settle (.flushReset (.portInput h)))) (.next h)

theorem ResSound.execQuiesceBoundExpiry {p : Fin 32} (h : s.Sound) : ResSound (execQuiesceBoundExpiry p s) := by
  unfold Machine.execQuiesceBoundExpiry
  split
  · exact .next h
  · exact .ite (.next h) (.next (.forcedDown (.portInput h)))

theorem ResSound.execDozeExpiry {p : Fin 32} (h : s.Sound) : ResSound (execDozeExpiry p s) := by
  unfold Machine.execDozeExpiry
  extract_lets _
  split
  · exact .next h
  · exact .ite (.next (.setPort h)) (.next h)

theorem ResSound.execDarkDozeWake {p : Fin 32} (h : s.Sound) : ResSound (execDarkDozeWake p s) := by
  unfold Machine.execDarkDozeWake
  extract_lets _
  split
  · exact .next h
  · exact .ite (.next (.setPort h)) (.next h)

theorem ResSound.execDozeSearchExpiry {p : Fin 32} (h : s.Sound) : ResSound (execDozeSearchExpiry p s) :=
  .ite (.next (.goHold (.portEvent (.portInput h)))) (.next h)

theorem ResSound.execDozeLightWake {p : Fin 32} (h : s.Sound) : ResSound (execDozeLightWake p s) := by
  unfold Machine.execDozeLightWake
  extract_lets _
  split
  · exact .next h
  · exact .ite (.next (.setPort h)) (.next h)

theorem ResSound.execDozeAmbientExpiry {p : Fin 32} {trainingWord unmodulated : Bool} (h : s.Sound) :
    ResSound (execDozeAmbientExpiry p trainingWord unmodulated s) := by
  unfold Machine.execDozeAmbientExpiry
  extract_lets _
  split
  · exact .next h
  · exact .ite (.next (.portEvent (.setPort (.portInput h)))) (.next h)

/-! ### Flits, credits and dozing (chapters 6 and 7) -/

theorem State.Sound.countFlitError {p i : Nat} (h : s.Sound) : (s.countFlitError p i).Sound :=
  .ite h (.ite (.setPort h) (.ite (.goHold (.setPort h)) (.setPort h)))

theorem State.Sound.startNak {p : Nat} {repeats : Bool} (h : s.Sound) : (s.startNak p repeats).Sound :=
  .ite h (.sendNak (.setPort h))

theorem State.Sound.lostPosition {p : Nat} (h : s.Sound) : (s.lostPosition p).Sound := .ite (.startNak h) h
theorem State.Sound.adapted {p : Nat} {f : Flit} (h : s.Sound) : (s.adapted p f).Sound := .ite h (.setPort h)
theorem State.Sound.arrives {p : Nat} {f : Flit} (h : s.Sound) : (s.arrives p f).Sound := .setPort (.adapted h)

theorem State.Sound.checked {p : Nat} {f : Flit} {ok : State → State} (h : s.Sound) (hok : ∀ u, u.Sound → (ok u).Sound) :
    (s.checked p f ok).Sound := by
  unfold State.checked
  extract_lets _ s1
  have hs1 : s1.Sound := .arrives h
  exact .ite hs1 (.ite (.lostPosition (.foldl (fun _ _ hu => .countFlitError hu) hs1))
    (.ite (.lostPosition (.countFlitError hs1)) (hok _ hs1)))

theorem State.Sound.acked {p : Nat} {m : Msg} (h : s.Sound) : (s.acked p m).Sound := by
  unfold State.acked
  split
  · exact .freeWait h
  · exact .ite (.updPort h) (.ite (.updPort h) h)
  · exact h

theorem State.Sound.takeAck {p a : Nat} (h : s.Sound) : (s.takeAck p a).Sound :=
  .ite h (.foldl (fun _ _ hu => .acked hu) (.setPort h))

theorem State.Sound.takeIdle {tagOk : Bool} {p : Nat} {f : Flit} (h : s.Sound) : (State.takeIdle tagOk s p f).Sound := by
  unfold State.takeIdle
  extract_lets _ _
  exact .ite (.countFlitError h) (.ite (.settle (.protocolDown h)) (.afterFlit (.takeAck (.setPort h))))

theorem ResSound.execIdleFlit {p : Fin 32} {f : Flit} (h : s.Sound) : ResSound (execIdleFlit p f s) :=
  .next (.checked h fun _ ha => .takeIdle ha)

theorem State.Sound.acceptData {p : Nat} {f : Flit} {plain : List Byte} (h : s.Sound) : (s.acceptData p f plain).Sound := by
  unfold State.acceptData
  extract_lets _
  split
  · exact .protocolDown h
  · exact .afterFlit (.takeAck (.countRx (.setPort h)))

theorem State.Sound.takeData {plain : Option (List Byte)} {p : Nat} {f : Flit} (h : s.Sound) :
    (State.takeData plain s p f).Sound := by
  unfold State.takeData
  extract_lets _ s1
  have hs1 : s1.Sound := .countFlitError h
  refine .ite ?_ (.ite (.startNak h) h)
  split
  · exact .settle (.acceptData h)
  · exact .ite (.startNak hs1) hs1

theorem ResSound.execDataFlit {p : Fin 32} {f : Flit} (h : s.Sound) : ResSound (execDataFlit p f s) :=
  .next (.checked h fun _ ha => .takeData ha)

theorem State.Sound.takeNak {tagOk : Bool} {p : Nat} {f : Flit} (h : s.Sound) : (State.takeNak tagOk s p f).Sound := by
  unfold State.takeNak
  extract_lets _ _ _ s1
  have hs1 : s1.Sound := .setPort h
  exact .ite (.countFlitError h) (.ite (.settle (.protocolDown h)) (.ite (.afterFlit hs1)
    (.ite hs1 (.quiesceStep (.startRun (.takeAck hs1))))))

theorem ResSound.execNakFlit {p : Fin 32} {f : Flit} (h : s.Sound) : ResSound (execNakFlit p f s) :=
  .next (.checked h fun _ ha => .takeNak ha)

theorem ResSound.execReplayRunDone {p : Fin 32} (h : s.Sound) : ResSound (execReplayRunDone p s) :=
  .ite (.next h) (.next (.afterFlit (.setPort h)))

theorem ResSound.execReplayTimerExpiry {p : Fin 32} (h : s.Sound) : ResSound (execReplayTimerExpiry p s) := by
  unfold Machine.execReplayTimerExpiry
  extract_lets _ _ s1 s2
  have hs1 : s1.Sound := .setPort h
  have hs2 : s2.Sound := .portInput hs1
  exact .ite (.next h) (.ite (.next (.startRun hs1)) (.next (.ite (.goHold hs2) (.failAttempt hs2))))

theorem ResSound.execNakRepeatExpiry {p : Fin 32} (h : s.Sound) : ResSound (execNakRepeatExpiry p s) :=
  .ite (.next (.sendNak h)) (.next h)

theorem ResSound.execCreditReturnTimer {p : Fin 32} (h : s.Sound) : ResSound (execCreditReturnTimer p s) :=
  .ite (.next (.creditOnly h)) (.next h)

theorem ResSound.execErrorSubwindow {p : Fin 32} (h : s.Sound) : ResSound (execErrorSubwindow p s) :=
  .ite (.next (.setPort h)) (.next h)

theorem State.Sound.takeTrain {p : Nat} {f : Flit} (h : s.Sound) : (s.takeTrain p f).Sound := by
  unfold State.takeTrain
  extract_lets _
  split
  · exact .refusePeer h
  · exact .ite (.refusePeer h) (.setPort h)

theorem ResSound.execTrainFlit {p : Fin 32} {f : Flit} (h : s.Sound) : ResSound (execTrainFlit p f s) := by
  unfold Machine.execTrainFlit
  extract_lets _ _
  exact .ite (.next (.ite (.failAttempt (.arrives h)) (.ite (.arrives h) (.takeTrain (.arrives h)))))
    (.ite (.next (.settle (.flushReset (.portInput h)))) (.next (.checked h fun _ ha => .ite
    (.settle (.protocolDown (.portInput ha))) (.countFlitError ha))))

theorem State.Sound.vc3Row {p kind : Nat} {fields : List Byte} {train data : State → List Byte → State} (h : s.Sound)
    (htrain : ∀ u x, u.Sound → (train u x).Sound) (hdata : ∀ u x, u.Sound → (data u x).Sound) :
    (s.vc3Row p kind fields train data).Sound := by
  unfold State.vc3Row
  split
  · exact h
  · extract_lets s1
    have hs1 : s1.Sound := .updPort h
    exact .ite (.ite (htrain _ _ hs1) hs1) (.ite (hdata _ _ hs1) hs1)

theorem State.Sound.violates {p : Nat} {x : List Byte} (h : s.Sound) : (State.violates p s x).Sound := .settle (.protocolDown h)
theorem State.Sound.malformed {p : Nat} {x : List Byte} (h : s.Sound) : (State.malformed p s x).Sound := .refusePeer h

theorem State.Sound.takeHello {p : Nat} {f : List Byte} (h : s.Sound) : (State.takeHello p s f).Sound := by
  unfold State.takeHello
  split
  · exact h
  · exact .ite (.refusePeer h) (.ite (.refusePeer h) (.updPort h))

theorem ResSound.execKaHello {p : Fin 32} {fields : List Byte} (h : s.Sound) : ResSound (execKaHello p fields s) :=
  .next (.vc3Row h (fun _ _ ha => .takeHello ha) fun _ _ ha => .violates ha)

theorem State.Sound.acceptCert {p : Nat} {k : Agreement} {hello cert link : List Byte} {chain : List (List Byte)} (h : s.Sound) :
    (s.acceptCert p k hello cert link chain).Sound :=
  .sendTrain (.updPort h)

theorem State.Sound.takeCert {p : Nat} {f : List Byte} (h : s.Sound) : (State.takeCert p s f).Sound := by
  unfold State.takeCert
  split
  · exact h
  · split
    · exact .ite (.refusePeer h) (.ite (.refusePeer h) (.ite (.refusePeer h) (.ite (.refusePeer h) (.acceptCert h))))
    · exact .refusePeer h

theorem ResSound.execKaCert {p : Fin 32} {fields : List Byte} (h : s.Sound) : ResSound (execKaCert p fields s) :=
  .next (.vc3Row h (fun _ _ ha => .takeCert ha) fun _ _ ha => .violates ha)

theorem State.Sound.takeFinish {p : Nat} {f : List Byte} (h : s.Sound) : (State.takeFinish p s f).Sound := by
  unfold State.takeFinish
  split
  · exact .ite (.refusePeer h) (.ite (.refusePeer h) (.updPort h))
  · exact .refusePeer h
  · exact h

theorem ResSound.execKaFinish {p : Fin 32} {fields : List Byte} (h : s.Sound) : ResSound (execKaFinish p fields s) :=
  .next (.vc3Row h (fun _ _ ha => .takeFinish ha) fun _ _ ha => .violates ha)

theorem State.Sound.bindPeerEp {c : Instr} {p ep : Nat} {chain : List (List Byte)} {ok : Bool} (h : s.Sound) :
    (s.bindPeerEp c p ep chain ok).Sound :=
  .ite (.bindEp (.portInput h)) h

theorem State.Sound.takeBindTrain {c : Instr} {p : Nat} {f : List Byte} (h : s.Sound) : (State.takeBindTrain c p s f).Sound := by
  unfold State.takeBindTrain
  split
  · exact .refusePeer h
  · exact .ite (.refusePeer h) (.assignAll (.sendTrain (.bindPeerEp h)))

theorem State.Sound.takeBindData {c : Instr} {p : Nat} {f : List Byte} (h : s.Sound) : (State.takeBindData c p s f).Sound := by
  unfold State.takeBindData
  split
  · exact .settle (.protocolDown h)
  · exact .assignAll (.sendVc3 (.bindPeerEp h))

theorem ResSound.execKaBind {p : Fin 32} {ep : BitVec 16} {rest : List Byte} (h : s.Sound) : ResSound (execKaBind p ep rest s) :=
  .next (.vc3Row h (fun _ _ ha => .takeBindTrain ha) fun _ _ ha => .takeBindData ha)

theorem ResSound.execKaBindAck {p : Fin 32} {ep : BitVec 16} {status : BitVec 8} (h : s.Sound) :
    ResSound (execKaBindAck p ep status s) :=
  .next (.vc3Row h (fun _ _ ha => .malformed ha) fun _ _ ha => .afterFlit ha)

theorem State.Sound.takeFail {p : Nat} {f : List Byte} (h : s.Sound) : (State.takeFail p s f).Sound :=
  .failAttempt (.ite (.portEvent h) h)

theorem ResSound.execKaFail {p : Fin 32} {reason : BitVec 8} (h : s.Sound) : ResSound (execKaFail p reason s) :=
  .next (.vc3Row h (fun _ _ ha => .takeFail ha) fun _ _ ha => .ite (.settle (.protocolDown ha)) (.takeFail ha))

theorem State.Sound.takeCreditInit {p : Nat} {f : List Byte} (h : s.Sound) : (State.takeCreditInit p s f).Sound :=
  .ite (.settle (.protocolDown h)) (.ite (.refusePeer h) (.setPort h))

theorem ResSound.execCreditInit {p : Fin 32} {vc0 vc1 vc2 : BitVec 16} (h : s.Sound) :
    ResSound (execCreditInit p vc0 vc1 vc2 s) :=
  .next (.vc3Row h (fun _ _ ha => .malformed ha) fun _ _ ha => .takeCreditInit ha)

theorem State.Sound.takeQuietReq {p pos : Nat} {f : List Byte} (h : s.Sound) : (State.takeQuietReq p pos s f).Sound :=
  .ite (.sendVc3 (.updPort h)) (.afterFlit h)

theorem ResSound.execQuietReq {p : Fin 32} {len start : BitVec 16} (h : s.Sound) : ResSound (execQuietReq p len start s) :=
  .next (.vc3Row h (fun _ _ ha => .malformed ha) fun _ _ ha => .takeQuietReq ha)

theorem ResSound.execQuietAck {p : Fin 32} {len start : BitVec 16} (h : s.Sound) : ResSound (execQuietAck p len start s) :=
  .next (.vc3Row h (fun _ _ ha => .malformed ha) fun _ _ ha => .afterFlit (.updPort ha))

theorem State.Sound.takeDozeReq {p : Nat} {f : List Byte} (h : s.Sound) : (State.takeDozeReq p s f).Sound := by
  unfold State.takeDozeReq
  extract_lets _ _
  exact .ite (.settle (.protocolDown h)) (.ite (.sendVc3 h) (.ite (.sendVc3 h) (.ite (.sendVc3 h) (.sendVc3 (.setPort h)))))

theorem ResSound.execDozeReq {p : Fin 32} {kind : BitVec 8} {d : BitVec 32} (h : s.Sound) : ResSound (execDozeReq p kind d s) :=
  .next (.vc3Row h (fun _ _ ha => .malformed ha) fun _ _ ha => .takeDozeReq ha)

theorem State.Sound.dozeStep {p : Nat} (h : s.Sound) : (s.dozeStep p).Sound := (s.undisturbed_dozeStep p).sound h

theorem State.Sound.takeDozeAck {p : Nat} {f : List Byte} (h : s.Sound) : (State.takeDozeAck p s f).Sound := by
  unfold State.takeDozeAck
  extract_lets _
  split
  · exact .afterFlit h
  · exact .ite (.dozeStep (.ite (.setPort h) (.sendIdle (.setPort h)))) (.afterFlit h)

theorem ResSound.execDozeAck {p : Fin 32} {kind : BitVec 8} {d : BitVec 32} (h : s.Sound) : ResSound (execDozeAck p kind d s) :=
  .next (.vc3Row h (fun _ _ ha => .malformed ha) fun _ _ ha => .takeDozeAck ha)

theorem ResSound.execDozeRefuse {p : Fin 32} {reason : BitVec 8} (h : s.Sound) : ResSound (execDozeRefuse p reason s) :=
  .next (.vc3Row h (fun _ _ ha => .malformed ha) fun _ _ ha => .afterFlit (.updPort ha))

theorem ResSound.execQuiesceReq {p : Fin 32} (h : s.Sound) : ResSound (execQuiesceReq p s) :=
  .next (.vc3Row h (fun _ _ ha => .malformed ha) fun _ _ ha => .afterFlit (.updPort ha))

theorem ResSound.execQuiesceDone {p : Fin 32} (h : s.Sound) : ResSound (execQuiesceDone p s) :=
  .next (.vc3Row h (fun _ _ ha => .malformed ha) fun _ _ ha => .settle (.afterFlit (.updPort ha)))

theorem ResSound.execLinkDownPlanned {p : Fin 32} {reason : BitVec 8} (h : s.Sound) : ResSound (execLinkDownPlanned p reason s) :=
  .next (.vc3Row h (fun _ _ ha => .malformed ha) fun _ _ ha => .settle (.plannedDown (.portInput ha)))

/-! ### Requests and responses (chapters 8 and 11) -/

theorem State.Sound.learnId {r : Req} (h : s.Sound) : (s.learnId r).Sound := by
  unfold State.learnId
  split
  · exact h
  · exact .ite (.assignAll (.upd rfl rfl h)) h

theorem State.Sound.park {op : Nat} {r : Req} {failed : Option Status} {live : Bool} (h : s.Sound) :
    (s.park op r failed live).Sound :=
  .upd rfl rfl h

theorem State.Sound.settleServed {op : Nat} {r : Req} {x : Served} (h : x.1.Sound) : (settleServed op r x).Sound := by
  unfold Machine.settleServed
  split
  · exact .afterFlit (.respond h)
  · exact .park h

theorem State.Sound.takeReq {op : Nat} {r : Req} {m : RxMsg} (h : s.Sound) : (s.takeReq op r m).Sound := by
  unfold State.takeReq
  extract_lets _ s1
  have hs1 : s1.Sound := .updPort h
  split
  · exact .updPort hs1
  · exact .updPort hs1

theorem State.Sound.judge {op : Nat} {r : Req} {fmt : Bool} {check : State → Req → Option Status} {serve : State → Req → Served}
    (h : s.Sound) (hserve : ∀ u x, u.Sound → (serve u x).1.Sound) : (s.judge op r fmt check serve).Sound := by
  unfold State.judge
  extract_lets _ s1 verdict
  have hs1 : s1.Sound := .ite (.withFound (.learnId h)) h
  refine .ite (.park hs1) ?_
  clear_value verdict
  split
  · exact .afterFlit (.respond hs1)
  · exact .settleServed (hserve _ _ hs1)

theorem State.Sound.admitReq {op : Nat} {r : Req} {fmt : Bool} {check : State → Req → Option Status}
    {serve : State → Req → Served} (h : s.Sound) (hserve : ∀ u x, u.Sound → (serve u x).1.Sound) :
    (s.admitReq op r fmt check serve).Sound := by
  unfold State.admitReq
  split
  · exact h
  · extract_lets s1
    have hs1 : s1.Sound := .takeReq h
    exact .ite (.transportError hs1) (.settle (.judge hs1 fun _ _ ha => hserve _ _ ha))

theorem State.Sound.request {c : Instr} {op : Nat} {r : Req} {fmt : Bool} {check : State → Req → Option Status}
    {serve : State → Req → Served} (h : s.Sound) (hserve : ∀ u x, u.Sound → (serve u x).1.Sound) :
    (s.request c op r fmt check serve).Sound :=
  .ite h (.deliver h fun _ ha => .admitReq ha fun _ _ ha1 => hserve _ _ ha1)

theorem State.Sound.serveRead {r : Req} (h : s.Sound) : (s.serveRead r).1.Sound := .readRange h
theorem ResSound.execRead {r : Req} (h : s.Sound) : ResSound (execRead r s) := .next (.request h fun _ _ ha => .serveRead ha)

theorem State.Sound.serveWrite {r : Req} (h : s.Sound) : (s.serveWrite r).1.Sound := by
  unfold State.serveWrite
  split
  · exact h
  next u e =>
    have hu : u.Sound := OptionSound.of_eq (.claimRange h) e
    exact .writeRange hu

theorem ResSound.execWrite {r : Req} (h : s.Sound) : ResSound (execWrite r s) := .next (.request h fun _ _ ha => .serveWrite ha)

theorem State.Sound.serveAtomic {n : Nat} {f : List Byte → Option (List Byte)} {answer : List Byte → Reply} {r : Req}
    (h : s.Sound) : (State.serveAtomic n f answer s r).1.Sound := by
  unfold State.serveAtomic
  extract_lets _ _
  split
  · exact h
  next u e =>
    have hu : u.Sound := OptionSound.of_eq (.claimRange h) e
    extract_lets x'
    have hx' : x'.1.Sound := .readRange hu
    refine .ite_fst hx' ?_
    split
    · exact hx'
    · exact .writeRange hx'

theorem State.Sound.serveFadd {r : Req} (h : s.Sound) : (s.serveFadd r).1.Sound := .serveAtomic h
theorem State.Sound.serveCas64 {r : Req} (h : s.Sound) : (s.serveCas64 r).1.Sound := .serveAtomic h
theorem State.Sound.serveCas128 {r : Req} (h : s.Sound) : (s.serveCas128 r).1.Sound := .serveAtomic h

theorem ResSound.execFadd64 {r : Req} (h : s.Sound) : ResSound (execFadd64 r s) :=
  .next (.request h fun _ _ ha => .serveFadd ha)

theorem ResSound.execCas64 {r : Req} (h : s.Sound) : ResSound (execCas64 r s) := .next (.request h fun _ _ ha => .serveCas64 ha)

theorem ResSound.execCas128 {r : Req} (h : s.Sound) : ResSound (execCas128 r s) :=
  .next (.request h fun _ _ ha => .serveCas128 ha)

theorem State.Sound.serveSync {op : CounterOp} {r : Req} (h : s.Sound) : (State.serveSync op s r).1.Sound := .counterDo h
theorem State.Sound.serveSyncAdd {r : Req} (h : s.Sound) : (s.serveSyncAdd r).1.Sound := .serveSync h
theorem State.Sound.serveSyncSet {r : Req} (h : s.Sound) : (s.serveSyncSet r).1.Sound := .serveSync h
theorem State.Sound.serveSyncRead {r : Req} (h : s.Sound) : (s.serveSyncRead r).1.Sound := .serveSync h
theorem State.Sound.serveSyncWait {r : Req} (h : s.Sound) : (s.serveSyncWait r).1.Sound := .serveSync h

theorem ResSound.execSyncAdd {r : Req} (h : s.Sound) : ResSound (execSyncAdd r s) :=
  .next (.request h fun _ _ ha => .serveSyncAdd ha)

theorem ResSound.execSyncSet {r : Req} (h : s.Sound) : ResSound (execSyncSet r s) :=
  .next (.request h fun _ _ ha => .serveSyncSet ha)

theorem ResSound.execSyncRead {r : Req} (h : s.Sound) : ResSound (execSyncRead r s) :=
  .next (.request h fun _ _ ha => .serveSyncRead ha)

theorem ResSound.execSyncWait {r : Req} (h : s.Sound) : ResSound (execSyncWait r s) :=
  .next (.request h fun _ _ ha => .serveSyncWait ha)

theorem State.Sound.serveDoorbell {r : Req} (h : s.Sound) : (s.serveDoorbell r).1.Sound :=
  .ite (.upd rfl rfl (.setQueue h)) (.setQueue h)

theorem ResSound.execDoorbell {r : Req} (h : s.Sound) : ResSound (execDoorbell r s) :=
  .next (.request h fun _ _ ha => .serveDoorbell ha)

theorem ResSound.execUnassignedOpcode {r : Req} {code : BitVec 8} (h : s.Sound) : ResSound (execUnassignedOpcode r code s) := by
  unfold Machine.execUnassignedOpcode
  extract_lets _
  refine .ite ?_ (.next (.request h fun _ _ ha => ha))
  split
  · exact .next h
  · exact .ite (.next (.deliver h fun _ ha => .transportError (.updPort ha))) (.next h)

theorem State.Sound.timeOut {o : OutReq} (h : s.Sound) : (s.timeOut o).Sound := by
  unfold State.timeOut
  extract_lets s1 _ s2
  have hs1 : s1.Sound := .outDone h
  have hs2 : s2.Sound := by
    unfold s2
    split
    · exact hs1
    · exact .upd rfl rfl hs1
  exact .assignAll hs2

theorem ResSound.execOutboundTimeout {port : Option (Fin 32)} {n : Nat} (h : s.Sound) :
    ResSound (execOutboundTimeout port n s) := by
  unfold Machine.execOutboundTimeout
  extract_lets found
  clear_value found
  split
  · exact .next h
  · exact .next (.deliver h fun _ ha => .timeOut ha)

theorem ResSound.execTagQuarantineExpiry {p : Fin 32} {tag : BitVec 12} (h : s.Sound) :
    ResSound (execTagQuarantineExpiry p tag s) :=
  .next (.assignAll (.upd rfl rfl h))

theorem ResSound.execNotifyDelivery {p : Fin 32} {wait : Nat} (h : s.Sound) : ResSound (execNotifyDelivery p wait s) := by
  unfold Machine.execNotifyDelivery
  split
  · exact .next h
  · split
    · extract_lets _ _ _
      exact .ite (.next h) (.ite (.next (.setPort h)) (.ite (.next h) (.next
        (.deliver h fun _ ha => .afterFlit (.setPhase (.launchNow ha))))))
    · exact .next h

theorem ResSound.execDoorbellNotifyDelivery {wait : Nat} (h : s.Sound) : ResSound (execDoorbellNotifyDelivery wait s) := by
  unfold Machine.execDoorbellNotifyDelivery
  split
  · exact .next h
  · split
    · refine .next (.deliver h (fun _ ha => ?_))
      extract_lets u1
      have hu1 : u1.Sound := .freeWait ha
      split
      · exact .discard hu1
      · exact .ite hu1 (.setQueue hu1)
    · exact .next h

/-! ### The benches (chapter 9) -/

theorem State.Sound.failReadmit {reason : Nat} (h : s.Sound) : (s.failReadmit reason).Sound := by
  unfold State.failReadmit
  split
  · exact h
  · exact .answer (.raise (.upd rfl rfl h))

theorem State.Sound.issueClaim (h : s.Sound) : s.issueClaim.Sound := .ite (.raise (.upd rfl rfl (.upd rfl rfl h)))
    (.upd rfl rfl h)

theorem State.Sound.unthrottle (h : s.Sound) : s.unthrottle.Sound := .foldl (fun _ _ hu => .emit hu) (.upd rfl rfl h)

theorem State.Sound.promote {i : BenchId} {n : Nat} (h : s.Sound) : (s.promote i n).Sound := by
  unfold State.promote
  split
  · exact h
  · exact .issueClaim (.unthrottle (.upd rfl rfl h))

theorem State.Sound.plannedPromotion {i : BenchId} {cause : Nat} (h : s.Sound) : (s.plannedPromotion i cause).Sound :=
  .settle (.raise (.promote h))

theorem State.Sound.retireSpare {cause gate : Nat} (h : s.Sound) : (s.retireSpare cause gate).Sound := by
  unfold State.retireSpare
  split
  · exact h
  · exact .settle (.raise (.unthrottle (.upd rfl rfl h)))

theorem State.Sound.charge {i : BenchId} (h : s.Sound) : (s.charge i).1.Sound :=
  .ite_fst (.ite_fst (.plannedPromotion (.upd rfl rfl h)) (.upd rfl rfl h)) (.upd rfl rfl h)

theorem State.Sound.noteTransient {limit : Bool} {input : Nat} (h : s.Sound) : (s.noteTransient limit input).Sound := .raise h

theorem State.Sound.emitOut {g : Nat} {o : BenchOut} {charge : Option (BenchId × Nat × BenchId × Nat)} (h : s.Sound) :
    (s.emitOut g o charge).Sound :=
  .ite h (.emit (.upd rfl rfl h))

theorem State.Sound.beginDispute {d : Dispute} (h : s.Sound) : (s.beginDispute d).Sound := .upd rfl rfl (.failReadmit h)

theorem ResSound.execGateOutput {g : Fin 179} {o : BenchOut} (h : s.Sound) : ResSound (execGateOutput g o s) := by
  unfold Machine.execGateOutput
  refine .ite (.next h) (.ite (.next h) (.ite (.next (.upd rfl rfl h)) (.ite (.next h) ?_)))
  extract_lets _ s1 mate _ s2
  have hs1 : s1.Sound := .upd rfl rfl h
  have hs2 : s2.Sound := .upd rfl rfl hs1
  refine .ite (.next hs1) ?_
  clear_value mate
  split
  · exact .next hs2
  · exact .ite (.next hs2) (.ite (.next (.emitOut hs1)) (.next (.beginDispute hs2)))

theorem ResSound.execSkewLimitExpiry {g : Fin 179} (h : s.Sound) : ResSound (execSkewLimitExpiry g s) := by
  unfold Machine.execSkewLimitExpiry
  refine .ite (.next h) ?_
  split
  · exact .next h
  · exact .next (.beginDispute h)

theorem State.Sound.transientRetry {d : Dispute} {first : List BenchOut} (h : s.Sound) : (s.transientRetry d first).Sound := by
  unfold State.transientRetry
  extract_lets charge _ _ s1 s2 s3
  have hs1 : s1.Sound := .upd rfl rfl h
  have hs2 : s2.Sound := .ite (.counterWrap hs1) hs1
  have hs3 : s3.Sound := by
    unfold s3
    refine .foldl (fun _ _ hu => ?_) hs2
    split
    · exact hu
    · exact .emitOut hu
  split
  · exact .noteTransient (.charge hs3)
  · exact .ite hs3 (.noteTransient hs3)

theorem State.Sound.benchFailure {e : Ev} {name : String} {input : Nat} (h : s.Sound) : (s.benchFailure e name input).Sound :=
  .enterFailed (.raise h)

theorem State.Sound.retireInKerf {i : BenchId} {cause : Nat} {d : Dispute} (h : s.Sound) : (s.retireInKerf i cause d).Sound :=
  .upd rfl rfl (.promote h)

theorem State.Sound.arbitrate {d : Dispute} {shadow : BenchOut} (h : s.Sound) : (s.arbitrate d shadow).Sound := by
  unfold State.arbitrate
  split
  · exact .ite (.retireInKerf h) (.ite (.retireInKerf h) (.benchFailure h))
  · refine .ite ?_ (.benchFailure h)
    split
    · exact .retireInKerf h
    · exact h
  · exact h

theorem State.Sound.lastingFault {d : Dispute} (h : s.Sound) : (s.lastingFault d).Sound := by
  unfold State.lastingFault
  refine .ite (.benchFailure h) ?_
  split
  · exact .benchFailure h
  · split
    · exact .arbitrate h
    · exact .upd rfl rfl h

theorem ResSound.execRetryDone {first second : List BenchOut} (h : s.Sound) : ResSound (execRetryDone first second s) := by
  unfold Machine.execRetryDone
  split
  · exact .next h
  · exact .ite (.next h) (.ite (.next (.transientRetry h)) (.next (.lastingFault h)))

theorem State.Sound.checkShadow {e : Emitted} {o : BenchOut} (h : s.Sound) : (s.checkShadow e o).Sound := by
  unfold State.checkShadow
  extract_lets _ r s1 _ _ _
  have hr : r.1.Sound := .foldl_fst (fun _ _ hy => .charge hy) h
  have hs1 : s1.Sound := .ite (.noteTransient hr) hr
  exact .ite (.upd rfl rfl hs1) (.ite (.upd rfl rfl hs1) (.retireSpare hs1))

theorem ResSound.execShadowArrival {g : Fin 179} {o : BenchOut} (h : s.Sound) : ResSound (execShadowArrival g o s) := by
  unfold Machine.execShadowArrival
  refine .ite (.next h) ?_
  extract_lets _ _
  split
  · refine .ite (.ite (.next (.arbitrate h)) (.next (.upd rfl rfl h))) ?_
    split
    · exact .next h
    · exact .next (.checkShadow h)
  · split
    · exact .next h
    · exact .next (.checkShadow h)

theorem ResSound.execShadowTimeout (h : s.Sound) : ResSound (execShadowTimeout s) := by
  unfold Machine.execShadowTimeout
  split
  · exact .next h
  · exact .ite (.next (.benchFailure h)) (.next h)

theorem ResSound.execFirstNewClaimOutput (h : s.Sound) : ResSound (execFirstNewClaimOutput s) := by
  unfold Machine.execFirstNewClaimOutput
  split
  · exact .next h
  · exact .next (.settle (.raise (.upd rfl rfl h)))

theorem ResSound.execSpareConsume {input : Nat} (h : s.Sound) : ResSound (execSpareConsume input s) := by
  unfold Machine.execSpareConsume
  split
  · exact .next h
  · split
    · exact .next h
    · extract_lets _ _ s1 _
      have hs1 : s1.Sound := .upd rfl rfl h
      exact .ite (.next (.raise (.upd rfl rfl hs1))) (.ite (.next (.unthrottle hs1)) (.next hs1))

theorem ResSound.execSpareStallTimer (h : s.Sound) : ResSound (execSpareStallTimer s) := by
  unfold Machine.execSpareStallTimer
  split
  · exact .next h
  · exact .ite (.next (.retireSpare h)) (.next h)

theorem ResSound.execMemoryOpComplete {gate : Fin 32} (h : s.Sound) : ResSound (execMemoryOpComplete gate s) :=
  .next (.deliver h fun _ ha => ha)

theorem ResSound.execReadmitSelftestDone {passed : Bool} (h : s.Sound) : ResSound (execReadmitSelftestDone passed s) := by
  unfold Machine.execReadmitSelftestDone
  split
  · exact .next h
  · exact .ite (.next h) (.next (.deliver h fun _ ha => .ite (.settle (.failReadmit ha)) (.upd rfl rfl ha)))

theorem ResSound.execStateCopyDone {digest1 digest2 copyDigest : Nat} (h : s.Sound) :
    ResSound (execStateCopyDone digest1 digest2 copyDigest s) := by
  unfold Machine.execStateCopyDone
  split
  · exact .next h
  · refine .ite (.next h) (.next (.deliver h (fun _ ha => .ite (.upd rfl rfl ha) ?_)))
    extract_lets s1 _
    have hs1 : s1.Sound := .failReadmit ha
    refine .ite (.settle hs1) ?_
    split
    · exact .settle (.beginDispute hs1)
    · exact .settle hs1

theorem ResSound.execJournalCatchUp (h : s.Sound) : ResSound (execJournalCatchUp s) := by
  unfold Machine.execJournalCatchUp
  split
  · exact .next h
  · exact .ite (.next h) (.next (.deliver h fun _ ha => .answer (.settle (.raise (.upd rfl rfl ha)))))

/-! ### Supplies, start-up and heat (chapter 2) -/

theorem State.Sound.kept (h : s.Sound) : s.kept.Sound := ⟨s.wf_kept, h.2⟩

theorem State.Sound.stop {cause : Nat} {why : String} (h : s.Sound) : (s.stop cause why).Sound :=
  .ite (.upd rfl rfl h) (.setNode (.upd rfl rfl (.kept h)))

theorem State.Sound.start (h : s.Sound) : s.start.Sound := .ite (.upd rfl rfl h) h

theorem State.Sound.startUpFailure {e : Ev} {detailB : Nat} (h : s.Sound) : (s.startUpFailure e detailB).Sound :=
  .raise (.bootFailure h)

theorem State.Sound.failStartUp {e : Ev} {name : String} (h : s.Sound) : (s.failStartUp e name).Sound :=
  .enterFailed (.startUpFailure h)

theorem ResSound.execVinApplied {mv : Nat} (h : s.Sound) : ResSound (execVinApplied mv s) := .next (.start (.upd rfl rfl h))
theorem ResSound.execVinUndervolt {mv : Nat} (h : s.Sound) : ResSound (execVinUndervolt mv s) := .next (.upd rfl rfl (.stop h))

theorem ResSound.execVinOvervolt {mv : Nat} (h : s.Sound) : ResSound (execVinOvervolt mv s) :=
  .ite (.next (.upd rfl rfl (.stop h))) (.next (.upd rfl rfl h))

theorem ResSound.execVinOvRecover {mv : Nat} (h : s.Sound) : ResSound (execVinOvRecover mv s) :=
  .ite (.next (.start (.upd rfl rfl h))) (.next (.upd rfl rfl h))

theorem State.Sound.noteHigh (h : s.Sound) : s.noteHigh.Sound := .ite (.raise (.upd rfl rfl h)) h

theorem ResSound.execVinHighExcursion {mv : Nat} (h : s.Sound) : ResSound (execVinHighExcursion mv s) :=
  .next (.ite (.upd rfl rfl h) (.noteHigh (.upd rfl rfl h)))

theorem ResSound.execVinHighExcursionEnd {mv : Nat} (h : s.Sound) : ResSound (execVinHighExcursionEnd mv s) := .next
    (.upd rfl rfl h)

/-- The loss of VIN takes the flag, and locks debug (R137). -/
theorem ResSound.execVinColdLoss (h : s.Sound) : ResSound (execVinColdLoss s) := .next ⟨(h.stop).1, fun hne => absurd rfl hne⟩

theorem ResSound.execResetNAssert (h : s.Sound) : ResSound (execResetNAssert s) := .next (.upd rfl rfl (.stop h))

theorem ResSound.execResetNRelease (h : s.Sound) : ResSound (execResetNRelease s) := .ite (.next (.start (.upd rfl rfl h)))
    (.next h)

theorem ResSound.execPowerWarnNAssert (h : s.Sound) : ResSound (execPowerWarnNAssert s) :=
  .ite (.next h) (.ite (.next (.upd rfl rfl h)) (.next (.deliver h fun _ ha => .raise ha)))

theorem ResSound.execPresenceNRecognised (h : s.Sound) : ResSound (execPresenceNRecognised s) := .next (.upd rfl rfl h)
theorem ResSound.execPresenceWindowExpiry (h : s.Sound) : ResSound (execPresenceWindowExpiry s) := .next (.upd rfl rfl h)

/-- At SEAL_BOOT debug shows what the flag says (R618). -/
theorem ResSound.execSealBootEntry (h : s.Sound) : ResSound (execSealBootEntry s) := by
  unfold Machine.execSealBootEntry
  refine .ite ?_ (.next h)
  extract_lets _ _ s1 s2 s3
  have hs1 : s1.Sound := by
    refine ⟨h.1, fun hne => ?_⟩
    by_contra hf
    exact hne (if_neg hf)
  have hs3 : s3.Sound := by
    unfold s3
    split
    · exact .setNode hs1
    · exact .raise (.setNode hs1)
  exact .next (.noteHigh hs3)

theorem State.Sound.makeTlsKey (h : s.Sound) : s.makeTlsKey.Sound := .upd rfl rfl (.draw h)

theorem ResSound.execSealBootDone {romAndFusesOk avyanathOk : Bool} (h : s.Sound) :
    ResSound (execSealBootDone romAndFusesOk avyanathOk s) :=
  .ite (.next h) (.ite (.next (.setNode (.upd rfl rfl (.makeTlsKey h)))) (.next (.failStartUp (.makeTlsKey h))))

theorem State.Sound.takeOut {failed : List TestUnit} (h : s.Sound) : (s.takeOut failed).Sound := by
  unfold State.takeOut
  refine .foldl (fun _ _ hu => ?_) h
  split
  · exact .upd rfl rfl hu
  · exact .upd rfl rfl hu
  · exact .upd rfl rfl hu
  · exact .upd rfl rfl hu
  · exact .updPort hu
  · exact hu

theorem ResSound.execSelfTestDone {failed : List TestUnit} (h : s.Sound) : ResSound (execSelfTestDone failed s) := by
  unfold Machine.execSelfTestDone
  refine .ite (.next h) ?_
  extract_lets _
  refine .next (.deliver h (fun _ ha => ?_))
  extract_lets s1 s2 _ s3
  have hs1 : s1.Sound := .foldl (fun _ _ hu => .startUpFailure hu) ha
  have hs2 : s2.Sound := .takeOut hs1
  have hs3 : s3.Sound := .upd rfl rfl hs2
  exact .ite (.enterFailed hs1) (.settle (.setNode hs3))

theorem ResSound.execMemoryTrainDone {failed : List (Fin 16)} (h : s.Sound) : ResSound (execMemoryTrainDone failed s) := by
  unfold Machine.execMemoryTrainDone
  refine .ite (.next h) ?_
  extract_lets present bad
  refine .next (.deliver h fun u hu => ?_)
  extract_lets _ s1
  have hs1 : s1.Sound := hu.upd_mem Memory.wf_nil
  exact .ite (.failStartUp hs1) (.settle (.setNode (.keepTables (.foldl (fun _ _ hv => .updStk hv)
    (.ite hs1 (.startUpFailure hs1))))))

theorem ResSound.execStartUpBoundExpiry (h : s.Sound) : ResSound (execStartUpBoundExpiry s) :=
  .ite (.next (.failStartUp h)) (.next h)

theorem ResSound.execNodeResetRestart (h : s.Sound) : ResSound (execNodeResetRestart s) :=
  .ite (.next (.start (.upd rfl rfl h))) (.next h)

/-! ### The Bureau (chapter 18) -/

theorem State.Sound.closeSession {id : Nat} {alert : String} (h : s.Sound) : (s.closeSession id alert).Sound :=
  .ite h (.emit (.upd rfl rfl h))

theorem State.Sound.bureauRequest {α : Type} {c : Instr} {m : BureauMsg} {kind : Nat} {parse : Body → Option α} {v : α}
    {roles : SessRole → Bool} {ok guarded : Bool} {act : State → State} [BEq α] (h : s.Sound)
    (hact : ∀ u, u.Sound → (act u).Sound) : (State.bureauRequest s c m kind parse v roles ok guarded act).Sound := by
  unfold State.bureauRequest
  refine .ite h ?_
  split
  · exact h
  · split
    · exact h
    · split
      · exact h
      · exact .deliver h fun _ ha => .closeSession ha
      · exact .deliver h fun _ ha => .answer ha
      · exact .deliver h fun _ ha => .ite (.answer ha) (.ite (.answer ha) (.ite (.answer ha) (hact _ ha)))

theorem ResSound.execTcpConnect {session : Nat} (h : s.Sound) : ResSound (execTcpConnect session s) :=
  .ite (.next h) (.ite (.next (.emit h)) (.next (.upd rfl rfl h)))

theorem ResSound.execTlsHandshakeDone {session : Nat} {client : TlsClient} (h : s.Sound) :
    ResSound (execTlsHandshakeDone session client s) := by
  unfold Machine.execTlsHandshakeDone
  split
  · exact .next h
  · split
    · exact .next (.closeSession h)
    · extract_lets _ _
      refine .ite (.next (.closeSession h)) ?_
      split
      · exact .next (.closeSession h)
      · exact .next (.emit (.upd rfl rfl h))

theorem ResSound.execSessionIdleTimeout {session : Nat} (h : s.Sound) : ResSound (execSessionIdleTimeout session s) :=
  .next (.closeSession h)

theorem ResSound.execSessionClose {session : Nat} (h : s.Sound) : ResSound (execSessionClose session s) :=
  .next (.closeSession h)

theorem ResSound.execIpv4Frame (h : s.Sound) : ResSound (execIpv4Frame s) := .next h

theorem ResSound.execNeighborDiscovery {target : List Byte} (h : s.Sound) : ResSound (execNeighborDiscovery target s) :=
  .ite (.next (.emit h)) (.next h)

theorem ResSound.execRouterAdvertisement {networkId : List Byte} (h : s.Sound) : ResSound (execRouterAdvertisement networkId s) :=
  .ite (.next h) (.next (.upd rfl rfl h))

theorem ResSound.execIcmpv6Echo {payload : List Byte} (h : s.Sound) : ResSound (execIcmpv6Echo payload s) :=
  .ite (.next (.emit h)) (.next h)

theorem ResSound.execHealth {m : BureauMsg} (h : s.Sound) : ResSound (execHealth m s) :=
  .next (.bureauRequest h fun _ ha => .answer ha)

theorem ResSound.execTelemetry {m : BureauMsg} (h : s.Sound) : ResSound (execTelemetry m s) :=
  .next (.bureauRequest h fun _ ha => .answer ha)

theorem ResSound.execFaultRead {m : BureauMsg} {start count : Nat} (h : s.Sound) : ResSound (execFaultRead m start count s) :=
  .next (.bureauRequest h fun _ ha => .answer ha)

theorem ResSound.execFaultAck {m : BureauMsg} {head : Nat} {clear : Bool} (h : s.Sound) :
    ResSound (execFaultAck m head clear s) :=
  .next (.bureauRequest h fun _ ha => .answer (.upd rfl rfl ha))

theorem ResSound.execScrubStatus {m : BureauMsg} (h : s.Sound) : ResSound (execScrubStatus m s) :=
  .next (.bureauRequest h fun _ ha => .answer ha)

theorem ResSound.execNodeReset {m : BureauMsg} (h : s.Sound) : ResSound (execNodeReset m s) :=
  .next (.bureauRequest h fun _ ha => .upd rfl rfl (.stop (.answer ha)))

theorem State.Sound.lockRequest {c : Instr} {m : BureauMsg} {action : Nat} {f : Holder → Option Holder} {broken : Holder → Bool}
    (h : s.Sound) : (s.lockRequest c m action f broken).Sound := by
  unfold State.lockRequest
  refine .bureauRequest h (fun _ ha => ?_)
  split
  · exact .answer ha
  · exact .answer (.ite (.raise (.upd rfl rfl ha)) (.upd rfl rfl ha))

theorem ResSound.execLockRelease {m : BureauMsg} (h : s.Sound) : ResSound (execLockRelease m s) := .next (.lockRequest h)
theorem ResSound.execLockAcquire {m : BureauMsg} (h : s.Sound) : ResSound (execLockAcquire m s) := .next (.lockRequest h)

theorem ResSound.execLockAcquireForce {m : BureauMsg} (h : s.Sound) : ResSound (execLockAcquireForce m s) :=
  .next (.lockRequest h)

theorem ResSound.execSubscribe {m : BureauMsg} {on : Bool} (h : s.Sound) : ResSound (execSubscribe m on s) :=
  .next (.bureauRequest h fun _ ha => .answer (.upd rfl rfl ha))

theorem ResSound.execEnroll {m : BureauMsg} {cert : List Byte} {role : Nat} (h : s.Sound) : ResSound (execEnroll m cert role s) :=
  .next (.bureauRequest h fun _ ha => .ite (.answer ha) (.ite (.answer (.upd rfl rfl ha))
    (.ite (.answer ha) (.answer (.upd rfl rfl ha)))))

theorem ResSound.execRevoke {m : BureauMsg} {hash : List Byte} (h : s.Sound) : ResSound (execRevoke m hash s) :=
  .next (.bureauRequest h fun _ ha => .ite (.answer ha) (.ite (.answer (.upd rfl rfl ha)) (.answer (.upd rfl rfl ha))))

theorem ResSound.execJoineryKey {m : BureauMsg} {key : List Byte} (h : s.Sound) : ResSound (execJoineryKey m key s) :=
  .next (.bureauRequest h fun _ ha => .ite (.answer ha) (.ite (.answer ha)
    (.ite (.answer ha) (.answer (.raise (.upd rfl rfl ha))))))

theorem ResSound.execCredReset {m : BureauMsg} (h : s.Sound) : ResSound (execCredReset m s) :=
  .next (.bureauRequest h fun _ ha => .answer (.raise (.upd rfl rfl (.foldl (fun _ _ hu => .closeSession hu) ha))))

theorem ResSound.execChallenge {m : BureauMsg} {random : List Byte} (h : s.Sound) : ResSound (execChallenge m random s) :=
  .next (.bureauRequest h fun _ ha => .answer (.upd rfl rfl ha))

theorem ResSound.execChallengeExpiry (h : s.Sound) : ResSound (execChallengeExpiry s) := .next
    (.deliver h fun _ ha => .upd rfl rfl ha)

theorem ResSound.execAttest {m : BureauMsg} {nonce : List Byte} {scope : Nat} {ids : List Nat} (h : s.Sound) :
    ResSound (execAttest m nonce scope ids s) :=
  .next (.bureauRequest h fun _ ha => .upd rfl rfl ha)

/-! ### Contexts and traps of the sieve (chapter 14) -/

theorem State.Sound.freeCtxWaits {key : Nat} (h : s.Sound) : (s.freeCtxWaits key).Sound := .setWaits h

theorem State.Sound.endStart {key : Nat} {st : Status} {result : W64} (h : s.Sound) : (s.endStart key st result).Sound := by
  unfold State.endStart
  extract_lets _ s1
  have hs1 : s1.Sound := .setCtx (.freeCtxWaits h)
  split
  · exact hs1
  · exact .endRun hs1

theorem State.Sound.trapCtx {key : Nat} {c : Ctx} {cause info : Nat} {ret : BitVec 16} {pend : Option LongOp} (h : s.Sound) :
    (s.trapCtx key c cause info ret pend).Sound := by
  unfold State.trapCtx
  split
  · exact .setCtx h
  · exact .endStart (.setCtx h)

theorem State.Sound.elect {e last fuel : Nat} (h : s.Sound) : (s.elect e last fuel).Sound := by
  induction fuel generalizing s last with
  | zero => exact h
  | succ fuel ih =>
    unfold State.elect
    refine .ite h ?_
    extract_lets _ _ s1
    have hs1 : s1.Sound := .beginQuantum h
    split
    · exact h
    · extract_lets _
      split
      · exact .setCtx hs1
      · exact ih (.trapCtx hs1)

theorem State.Sound.reelect {key : Nat} (h : s.Sound) : (s.reelect key).Sound := .elect h
theorem State.Sound.takeHalt {key : Nat} (h : s.Sound) : (s.takeHalt key).Sound := .upd rfl rfl (.setCtx h)

theorem State.Sound.boundary {key : Nat} (h : s.Sound) : (s.boundary key).Sound := by
  unfold State.boundary
  extract_lets _ s1 s2 _
  have hs1 : s1.Sound := .setCtx h
  have hs2 : s2.Sound := by
    unfold s2
    split
    · exact hs1
    · exact .updRun hs1
  refine .ite h ?_
  split
  · exact .reelect (.endStart h)
  · refine .ite (.reelect (.setCtx h)) (.ite (.reelect (.takeHalt h)) (.ite (.reelect hs2) (.ite h (.ite ?_ h))))
    split
    · exact h
    · exact .reelect (.trapCtx h)

theorem State.Sound.resumed {key : Nat} (h : s.Sound) : (s.resumed key).Sound := .boundary (.ite (.setCtx h) h)

theorem State.Sound.retireCtx {key : Nat} {c : Ctx} {next : BitVec 16} (h : s.Sound) : (s.retireCtx key c next).Sound :=
  .ite (.counterWrap (.setCtx h)) (.setCtx h)

theorem State.Sound.act {key : Nat} {a : Act} (h : s.Sound) (ha : a.Sound) : (s.act key a).Sound := by
  cases a with
  | retire u c next => exact .resumed (.retireCtx ha)
  | trap u c cause info pend => exact .resumed (.reelect (.trapCtx ha))
  | unit u c => exact .resumed (.setCtx ha)
  | block u c => exact .reelect (.resumed (.setCtx ha))
  | halt u c st result => exact .reelect (.endStart (.retireCtx ha))
  | offer u c next => exact .ite (.reelect (.resumed (.setCtx (.retireCtx ha)))) (.resumed (.retireCtx ha))
  | stay => exact h

theorem State.Sound.instr {key : Nat} {k : SKind} {f : State → Ctx → W32 → Act} (h : s.Sound)
    (hf : ∀ u x y, u.Sound → (f u x y).Sound) : (s.instr key k f).Sound :=
  .ite (.act h (hf _ _ _ h)) h

theorem Act.Sound.runLong {f : State → Ctx → W32 → Act} {fuel : Nat} {c : Ctx} {w : W32}
    (hf : ∀ u c w, u.Sound → (f u c w).Sound) (h : s.Sound) : (runLong f fuel s c w).Sound := by
  induction fuel generalizing s c with
  | zero => exact .unit h
  | succ fuel ih =>
    have hunit : (f s c w).Sound := hf s c w h
    unfold Machine.runLong
    split
    next u d e =>
      rw [e] at hunit
      exact ih hunit
    · exact hunit

theorem State.Sound.longInstr {key : Nat} {k : SKind} {f : State → Ctx → W32 → Act} (h : s.Sound)
    (hf : ∀ u x y, u.Sound → (f u x y).Sound) : (s.longInstr key k f).Sound :=
  .instr h fun _ _ _ ha => .runLong (fun _ _ _ hu => hf _ _ _ hu) ha

/-! ### The copy engine (chapter 13) -/

theorem ResSound.execCommandDispatch {q : BitVec 16} {found : List Damage} (h : s.Sound) :
    ResSound (execCommandDispatch q found s) :=
  .next (.deliver h fun _ ha => .settle (.dispatch (.withFound ha)))

theorem ResSound.execCommandComplete {q : BitVec 16} {index : BitVec 32} (h : s.Sound) :
    ResSound (execCommandComplete q index s) := by
  unfold Machine.execCommandComplete
  split
  · exact .next h
  · exact .ite (.next (.deliver h fun _ ha => .settle (.complete ha))) (.next h)

theorem ResSound.execQuantumExpiry {q : BitVec 16} {index : BitVec 32} (h : s.Sound) :
    ResSound (execQuantumExpiry q index s) := by
  unfold Machine.execQuantumExpiry
  split
  · exact .ite (.ite (.next (.deliver h fun _ ha => .boundary (.setCtx (.beginQuantum ha)))) (.next h))
      (.ite (.next (.deliver h fun _ ha => .updRun (.beginQuantum ha))) (.next h))
  · exact .next h

theorem State.Sound.writeMasked {d off : Nat} {data : List Byte} {mask : List Bool} (h : s.Sound) :
    (s.writeMasked d off data mask).1.Sound :=
  .foldl_fst (fun _ _ hy => .ite_fst (.writePoison hy) (.writeLine hy)) h

theorem State.Sound.advance {q : Nat} {i : W32} {c : RunCmd} {done total : Nat} {bad : Bool} {result : W64} (h : s.Sound) :
    (s.advance q i c done total bad result).Sound :=
  .ite (.endRun (.updRun h)) (.updRun h)

theorem OptionSound.copyUnit {q : Nat} {i : W32} {c : RunCmd} (h : s.Sound) : OptionSound (s.copyUnit q i c) := by
  unfold State.copyUnit
  extract_lets _ _ _ _ _ _ _ _ _ _ _
  refine .ite (.some (.endRun h)) ?_
  split
  · exact .none
  next u e1 =>
    have hu : u.Sound := OptionSound.of_eq (.claimRange h) e1
    exact .some (.advance (.writeMasked (.readRange hu)))

theorem OptionSound.remoteUnit {q : Nat} {i : W32} {c : RunCmd} (h : s.Sound) : OptionSound (s.remoteUnit q i c) := by
  unfold State.remoteUnit
  extract_lets _ _ _ _ r _ _ _
  have hr : r.1.Sound := .readRange h
  exact .ite (.ite (.some (.updRun h)) (.some (.endRun h))) (.ite .none (.some (.issue (.updRun hr))))

theorem OptionSound.fillUnit {pattern : List Byte} {q : Nat} {i : W32} {c : RunCmd} (h : s.Sound) :
    OptionSound (State.fillUnit pattern s q i c) := by
  unfold State.fillUnit
  extract_lets _ _ _ _ _
  refine .ite (.some (.endRun h)) ?_
  split
  · exact .none
  next u e =>
    have hu : u.Sound := OptionSound.of_eq (.claimRange h) e
    exact .some (.advance (.writeRange hu))

theorem OptionSound.convertUnit {q : Nat} {i : W32} {c : RunCmd} (h : s.Sound) : OptionSound (s.convertUnit q i c) := by
  unfold State.convertUnit
  extract_lets _ _ _ _ _ _ _ _ _ _ _
  refine .ite (.some (.endRun h)) ?_
  split
  · exact .none
  next u e =>
    have hu : u.Sound := OptionSound.of_eq (.bind (.claimRange h) fun _ hu1 => .ite (.some hu1) (.claimRange hu1)) e
    extract_lets r sc _ _ _ _ _ x' y _ _ _
    have hr : r.1.Sound := .readRange hu
    have hsc : sc.1.Sound := .ite_fst (.readRange hr) hr
    have hx' : x'.1.Sound := .writeMasked hsc
    have hy : y.1.Sound := .ite_fst hx' (.writeMasked hx')
    exact .some (.advance hy)

theorem State.Sound.readIndex {b : List Byte} {j : Nat} (h : s.Sound) : (s.readIndex b j).1.Sound := .readRange h

theorem OptionSound.gatherUnit {q : Nat} {i : W32} {c : RunCmd} (h : s.Sound) : OptionSound (s.gatherUnit q i c) := by
  unfold State.gatherUnit
  extract_lets _ _ _ _ _
  refine .ite (.some (.endRun h)) ?_
  split
  · exact .none
  next u e =>
    have hu : u.Sound := OptionSound.of_eq (.claimRange h) e
    split
    next u1 _ e1 =>
      have hu1 : u1.Sound := State.Sound.of_eq (.readIndex hu) e1
      exact .some (.advance (.writeMasked hu1))
    next u1 _ _ e1 =>
      have hu1 : u1.Sound := State.Sound.of_eq (.readIndex hu) e1
      exact .ite (.some (.endRun hu1)) (.some (.advance (.writeMasked (.readRange hu1))))

theorem OptionSound.scatterUnit {q : Nat} {i : W32} {c : RunCmd} (h : s.Sound) : OptionSound (s.scatterUnit q i c) := by
  unfold State.scatterUnit
  extract_lets _ _ _ _
  refine .ite (.some (.endRun h)) ?_
  split
  next u1 _ e =>
    have hu1 : u1.Sound := State.Sound.of_eq (.readIndex h) e
    exact .some (.advance hu1)
  next u1 _ _ e =>
    have hu1 : u1.Sound := State.Sound.of_eq (.readIndex h) e
    extract_lets _
    refine .ite (.some (.endRun hu1)) ?_
    split
    · exact .none
    next u e1 =>
      have hu : u.Sound := OptionSound.of_eq (.claimRange hu1) e1
      exact .some (.advance (.writeMasked (.readRange hu)))

theorem OptionSound.digestUnit {q : Nat} {i : W32} {c : RunCmd} (h : s.Sound) : OptionSound (s.digestUnit q i c) := by
  unfold State.digestUnit
  extract_lets _ _ _ _
  refine .ite (.some (.endRun h)) ?_
  split
  · exact .none
  next u e =>
    have hu : u.Sound := OptionSound.of_eq (.ite (.claimRange h) (.some h)) e
    exact .some (.advance (.ite_fst (.writeRange (.readRange hu)) (.readRange hu)))

theorem State.Sound.sweepLine {d l : Nat} {w : Sweep} (h : s.Sound) : (s.sweepLine d l w).1.Sound := by
  unfold State.sweepLine
  split
  · exact h
  · exact .readFrom h
  · exact .ite_fst (.readFrom h) (.readFrom (.readFrom h))

theorem OptionSound.sweepUnit {q : Nat} {i : W32} {c : RunCmd} (h : s.Sound) : OptionSound (s.sweepUnit q i c) := by
  unfold State.sweepUnit
  extract_lets _ _ _ write _
  have hwrite : ∀ (u : State) (data : List Byte), u.Sound → (write u data).Sound := fun _ _ hu => .writeRange hu
  refine .ite ?_ ?_
  · split
    · exact .none
    next u e =>
      have hu : u.Sound := OptionSound.of_eq (.claimRange h) e
      exact .some (.endRun (hwrite _ _ hu))
  · refine .ite (.some (.endRun h)) ?_
    split
    · exact .none
    next u e =>
      have hu : u.Sound := OptionSound.of_eq (.ite (.claimRange h) (.some h)) e
      extract_lets r u1
      have hr : r.1.Sound := .foldl_fst (fun _ _ hy => .sweepLine hy) hu
      have hu1 : u1.Sound := .ite (hwrite _ _ hr) hr
      exact .some (.advance hu1)

theorem OptionSound.copyWork {s0 : State} {q : Nat} {i : W32} {c : RunCmd} (h : s0.Sound) : OptionSound (s0.copyWork q i c) := by
  unfold State.copyWork
  refine .underGens h (fun _ ha => ?_)
  split
  · exact .ite (.remoteUnit ha) (.copyUnit ha)
  · exact .fillUnit ha
  · exact .fillUnit ha
  · exact .convertUnit ha
  · exact .gatherUnit ha
  · exact .scatterUnit ha
  · exact .digestUnit ha
  · exact .sweepUnit ha
  · exact .some (.endRun ha)

theorem State.Sound.copyRun {q : Nat} {i : W32} {fuel : Nat} (h : s.Sound) : (s.copyRun q i fuel).Sound := by
  induction fuel generalizing s with
  | zero => exact h
  | succ fuel ih =>
    unfold State.copyRun
    split
    · exact h
    · refine .ite (.resumePoint h) ?_
      split
      · exact .resumePoint h
      next u e => exact ih (OptionSound.of_eq (.copyWork h) e)

theorem ResSound.copyRow {q : BitVec 16} {i : W32} {op : Nat} (h : s.Sound) : ResSound (s.copyRow q i op) := by
  unfold State.copyRow
  split
  · exact .next h
  · exact .next (.settle (.copyRun h))

theorem ResSound.execCopyResumePoint {q : BitVec 16} {index : BitVec 32} (h : s.Sound) :
    ResSound (execCopyResumePoint q index s) := by
  unfold Machine.execCopyResumePoint
  split
  · refine .next ?_
    split
    · exact .ite (.resumePoint h) h
    · exact h
  · exact .next (.settle (.resumePoint (.ite h (.getD (.copyWork h) h))))

theorem ResSound.execCopyNop {q : BitVec 16} {index : BitVec 32} (h : s.Sound) : ResSound (execCopyNop q index s) := .copyRow h
theorem ResSound.execCopy {q : BitVec 16} {index : BitVec 32} (h : s.Sound) : ResSound (execCopy q index s) := .copyRow h
theorem ResSound.execFill {q : BitVec 16} {index : BitVec 32} (h : s.Sound) : ResSound (execFill q index s) := .copyRow h
theorem ResSound.execZero {q : BitVec 16} {index : BitVec 32} (h : s.Sound) : ResSound (execZero q index s) := .copyRow h
theorem ResSound.execConvert {q : BitVec 16} {index : BitVec 32} (h : s.Sound) : ResSound (execConvert q index s) := .copyRow h
theorem ResSound.execGather {q : BitVec 16} {index : BitVec 32} (h : s.Sound) : ResSound (execGather q index s) := .copyRow h
theorem ResSound.execScatter {q : BitVec 16} {index : BitVec 32} (h : s.Sound) : ResSound (execScatter q index s) := .copyRow h
theorem ResSound.execDigest {q : BitVec 16} {index : BitVec 32} (h : s.Sound) : ResSound (execDigest q index s) := .copyRow h

theorem ResSound.execSweep {q : BitVec 16} {index : BitVec 32} {found : List Damage} (h : s.Sound) :
    ResSound (execSweep q index found s) :=
  .copyRow (.withFound h)

/-! ### The host port -/

theorem State.Sound.hostErr {kind : Nat} {st : Status} {off : Nat} {bar2 : Bool} (h : s.Sound) :
    (s.hostErr kind st off bar2).Sound :=
  .upd rfl rfl h

theorem State.Sound.complete_ {o : Out} (h : s.Sound) : (s.complete_ o).Sound := .ite (.upd rfl rfl h) (.emit h)
theorem State.Sound.unsupported (h : s.Sound) : s.unsupported.Sound := .complete_ h
theorem State.Sound.hostWait {c : Instr} (h : s.Sound) : (s.hostWait c).Sound := .upd rfl rfl h

theorem State.Sound.hostGate {c : Instr} {act : State → State} (h : s.Sound) (hact : ∀ u, u.Sound → (act u).Sound) :
    (s.hostGate c act).Sound :=
  .ite h (.ite (.hostWait h) (.deliver h fun _ ha => .ite (.unsupported ha) (hact _ ha)))

theorem State.Sound.commandWrite {w : HostWrite} {off : Nat} {act : State → State} (h : s.Sound)
    (hact : ∀ u, u.Sound → (act u).Sound) : (s.commandWrite w off act).Sound :=
  .ite h (.ite (.hostErr h) (hact _ h))

theorem State.Sound.submit {w : HostWrite} {off : Nat} {busy guarded ok : Bool} {refuse act : State → State} (h : s.Sound)
    (hrefuse : ∀ u, u.Sound → (refuse u).Sound) (hact : ∀ u, u.Sound → (act u).Sound) :
    (s.submit w off busy guarded ok refuse act).Sound :=
  .commandWrite h fun _ ha => .ite (.hostErr (hrefuse _ ha)) (hact _ ha)

/-! ### Pacing (chapter 4) -/

theorem State.Sound.domainPeriod {r : DomainReport} (h : s.Sound) : (s.domainPeriod r).Sound := .setDom (.ite (.updStk h) h)

theorem ResSound.execPacePeriod {reports : List DomainReport} (h : s.Sound) : ResSound (execPacePeriod reports s) :=
  .ite (.next h) (.next (.deliver h fun _ ha => .foldl (fun _ _ hu => .domainPeriod hu) ha))

theorem ResSound.execPaceCeilingTimer {d : Fin 24} (h : s.Sound) : ResSound (execPaceCeilingTimer d s) := by
  unfold Machine.execPaceCeilingTimer
  split
  · exact .next h
  · exact .next (.deliver h fun _ ha => .settle (.setDom ha))

theorem ResSound.execPaceCeilingClearTimer (h : s.Sound) : ResSound (execPaceCeilingClearTimer s) :=
  .ite (.next h) (.next (.deliver h fun _ ha => .settle (.upd rfl rfl ha)))

theorem State.Sound.thermalLimit {unit : ThermalUnit} {temp : Nat} (h : s.Sound) : (s.thermalLimit unit temp).Sound := by
  unfold State.thermalLimit
  extract_lets _ _ s1 s2
  have hs1 : s1.Sound := .setDom h
  have hs2 : s2.Sound := .ite (.updStk hs1) hs1
  exact .ite hs2 (.raise hs2)

theorem ResSound.execThermalLimitReached {unit : ThermalUnit} {temp : Nat} (h : s.Sound) :
    ResSound (execThermalLimitReached unit temp s) :=
  .ite (.next h) (.next (.deliver h fun _ ha => .thermalLimit ha))

theorem ResSound.execThermalExcursionEnd {d : Fin 24} (h : s.Sound) : ResSound (execThermalExcursionEnd d s) :=
  .ite (.next h) (.next (.deliver h fun _ ha => .setDom ha))

theorem State.Sound.thermalTrip {unit : ThermalUnit} {temp : Nat} (h : s.Sound) : (s.thermalTrip unit temp).Sound :=
  .upd rfl rfl (.ite (.upd rfl rfl (.raise h)) (.enterFailed (.upd rfl rfl (.raise h))))

theorem ResSound.execThermalTripTimer {unit : ThermalUnit} {temp : Nat} (h : s.Sound) :
    ResSound (execThermalTripTimer unit temp s) :=
  .ite (.next h) (.next (.deliver h fun _ ha => .thermalTrip ha))

theorem ResSound.execDramCalibration {st : Fin 16} {chan : Fin 32} {correction : BitVec 8} (h : s.Sound) :
    ResSound (execDramCalibration st chan correction s) :=
  .ite (.next h) (.next (.deliver h fun _ ha => .updStk ha))

theorem State.Sound.measure {reports : List StackReport} (h : s.Sound) : (s.measure reports).Sound :=
  .foldl (fun _ _ hu => .updStk hu) h

theorem ResSound.execPlacementEvaluation {reports : List StackReport} {drawer block copy : Nat} {dest : Fin 16} {phys : Nat}
    (h : s.Sound) : ResSound (execPlacementEvaluation reports drawer block copy dest phys s) :=
  .next (.deliver h fun _ ha => .ite (.upd rfl rfl (.updStk (.measure ha))) (.measure ha))

theorem State.Sound.countMoved {stack : Nat} {into : Bool} (h : s.Sound) : (s.countMoved stack into).Sound :=
  .ite (.counterWrap (.setStk h)) (.setStk h)

theorem State.Sound.abandonMoves {p : Move → Bool} (h : s.Sound) : (s.abandonMoves p).Sound :=
  .foldl (fun _ _ hu => .updStk hu) (.upd rfl rfl h)

theorem ResSound.execBlockMoveDone {drawer block copy : Nat} (h : s.Sound) :
    ResSound (execBlockMoveDone drawer block copy s) := by
  unfold Machine.execBlockMoveDone
  split
  · exact .next (.deliver h fun _ ha => .ite (.abandonMoves ha) (.countMoved (.countMoved (.updStk (.upd rfl rfl ha)))))
  · exact .next h

/-! ### Generations, patrol and retirement (chapter 3) -/

theorem State.Sound.keepGen {d : Nat} {g : W32} (h : s.Sound) : (s.keepGen d g).Sound := .upd rfl rfl h

theorem State.Sound.advanceGen {s0 : State} {d : Nat} (h : s0.Sound) : (s0.advanceGen d).1.Sound := by
  unfold State.advanceGen
  extract_lets s _ _ _ s1 _ s2
  have hs : s.Sound := .keepGen h
  have hs1 : s1.Sound := .foldl (fun _ _ hu => .dropSnapshot hu) (.upd rfl rfl hs)
  have hs2 : s2.Sound := .ite (.setDrw hs1) hs1
  exact hs2

theorem State.Sound.zeroDrawer {d : Nat} (h : s.Sound) : (s.zeroDrawer d).Sound := ⟨State.wf_zeroDrawer d h.1, h.2⟩

theorem ResSound.execWrapSweepDone {drawer : Nat} (h : s.Sound) : ResSound (execWrapSweepDone drawer s) := by
  unfold Machine.execWrapSweepDone
  split
  · exact .next h
  · exact .next (.deliver h fun _ ha => .raise (.setDrw (.zeroDrawer ha)))

theorem ResSound.execZeroStampDone {drawer block : Nat} (h : s.Sound) : ResSound (execZeroStampDone drawer block s) :=
  .next (.deliver h fun _ ha => .setDrw ha)

theorem ResSound.execFreeBlockSweepDone {st : Fin 16} {count : Nat} (h : s.Sound) :
    ResSound (execFreeBlockSweepDone st count s) :=
  .next (.deliver h fun _ ha => .updStk ha)

theorem State.Sound.endLap {n : Nat} (h : s.Sound) : (s.endLap n).Sound := .ite (.counterWrap (.setStk h)) (.setStk h)

theorem State.Sound.patrolLine {n pl : Nat} (h : s.Sound) : (s.patrolLine n pl).Sound := by
  unfold State.patrolLine
  split
  · exact .ite h (.readFrom h)
  · extract_lets _
    refine .ite h ?_
    split
    next s2 _ _ _ e1 =>
      have hs2 : s2.Sound := State.Sound.of_eq (.codeAt h) e1
      exact .recordPoison (.upd rfl rfl hs2)
    next s2 _ _ _ e1 =>
      have hs2 : s2.Sound := State.Sound.of_eq (.codeAt h) e1
      exact .recordCheck hs2

theorem ResSound.execPatrolRead {st : Fin 16} {found : List Damage} (h : s.Sound) : ResSound (execPatrolRead st found s) := by
  unfold Machine.execPatrolRead
  extract_lets _ _ _
  refine .ite (.next h) (.next (.deliver h (fun _ ha => .ite (.endLap ha) ?_)))
  extract_lets s1
  have hs1 : s1.Sound := .updStk (.patrolLine (.withFound ha))
  exact .settle (.ite (.endLap hs1) hs1)

theorem ResSound.execLapOverdueTimer {st : Fin 16} (h : s.Sound) : ResSound (execLapOverdueTimer st s) :=
  .ite (.next h) (.next (.deliver h fun _ ha => .memEvent (.updStk ha)))

theorem State.Sound.askRetire {st : Nat} {bank : Bool} {unit : Nat} {by_ : Submitter} (h : s.Sound) :
    (s.askRetire st bank unit by_).1.Sound :=
  .ite_fst h (.ite_fst h (.ite_fst h (.ite_fst h (.upd rfl rfl (.abandonMoves h)))))

theorem ResSound.execRetire {m : BureauMsg} {st : Nat} {bank : Bool} {unit : Nat} (h : s.Sound) :
    ResSound (execRetire m st bank unit s) := by
  unfold Machine.execRetire
  refine .next (.bureauRequest h (fun _ ha => ?_))
  split
  next v e =>
    have hv : v.Sound := State.Sound.of_eq (.askRetire ha) e
    exact hv
  next v _ e =>
    have hv : v.Sound := State.Sound.of_eq (.askRetire ha) e
    exact .answer hv

theorem State.Sound.retireSubmit {w : HostWrite} (h : s.Sound) : (s.retireSubmit w).Sound := by
  unfold State.retireSubmit
  extract_lets _ _ _ _ done
  have hdone : ∀ (u : State) (x : Status), u.Sound → (done u x).Sound := fun _ _ hu => .upd rfl rfl hu
  refine .submit h (fun _ ha => hdone _ _ ha) (fun _ ha => ?_)
  split
  next v1 e =>
    have hv1 : v1.Sound := State.Sound.of_eq (.askRetire ha) e
    exact hv1
  next v1 _ e =>
    have hv1 : v1.Sound := State.Sound.of_eq (.askRetire ha) e
    exact .busyFell (hdone _ _ hv1)

theorem ResSound.execRetireCmd {w : HostWrite} (h : s.Sound) : ResSound (execRetireCmd w s) :=
  .next (.hostGate h fun _ ha => .retireSubmit ha)

theorem State.Sound.copyBlock {stack blk spare : Nat} (h : s.Sound) : (s.copyBlock stack blk spare).1.Sound := by
  unfold State.copyBlock
  split
  · exact .upd rfl rfl h
  · exact .upd rfl rfl (.foldl (fun _ _ hu => .readFrom hu) h)

theorem State.Sound.noteSpares {n : Nat} (h : s.Sound) : (s.noteSpares n).Sound := by
  unfold State.noteSpares
  extract_lets _ s1 _
  have hs1 : s1.Sound := .ite (.memEvent (.setStk h)) h
  exact .ite (.memEvent (.setStk hs1)) hs1

theorem ResSound.execRetireCopyDone {index : Nat} {spares : List Nat} (h : s.Sound) :
    ResSound (execRetireCopyDone index spares s) := by
  unfold Machine.execRetireCopyDone
  split
  · exact .next h
  · extract_lets _ _ _
    refine .ite (.next h) (.next (.deliver h (fun _ ha => ?_)))
    extract_lets _ s0 r s1 _ s2 _ s3 _ s4
    have hs0 : s0.Sound := .upd rfl rfl ha
    have hr : r.1.Sound := .foldl_fst (fun _ _ hy => .copyBlock hy) hs0
    have hs1 : s1.Sound := .updStk hr
    have hs2 : s2.Sound := .keepTables (.upd rfl rfl hs1)
    have hs3 : s3.Sound := .noteSpares (.memEvent hs2)
    have hs4 : s4.Sound := .busyFell (.upd rfl rfl hs3)
    refine .settle ?_
    split
    · exact .answer hs4
    · exact hs4

theorem ResSound.execStackChannelLoss {st : Fin 16} (h : s.Sound) : ResSound (execStackChannelLoss st s) :=
  .ite (.next h) (.next (.deliver h fun _ ha => .updStk ha))

theorem ResSound.execChannelRetrainDone {st : Fin 16} (h : s.Sound) : ResSound (execChannelRetrainDone st s) :=
  .next (.deliver h fun _ ha => .updStk ha)

theorem ResSound.execChannelRetrainTimeout {st : Fin 16} (h : s.Sound) : ResSound (execChannelRetrainTimeout st s) :=
  .ite (.next (.deliver h fun _ ha => .settle (.loseStack ha))) (.next h)

theorem ResSound.execStackSensorsFailed {st : Fin 16} (h : s.Sound) : ResSound (execStackSensorsFailed st s) :=
  .ite (.next (.deliver h fun _ ha => .settle (.loseStack ha))) (.next h)

theorem ResSound.execMirrorBuildDone {drawer : Nat} {plan : List Extent} (h : s.Sound) :
    ResSound (execMirrorBuildDone drawer plan s) := by
  unfold Machine.execMirrorBuildDone
  split
  · exact .next h
  · exact .ite (.next h) (.next (.deliver h fun _ ha => .memEvent (.setDrw (.upd rfl rfl ha))))

theorem State.Sound.arm {kind : Nat} {t : InjectTarget} (h : s.Sound) : (s.arm kind t).1.Sound := by
  unfold State.arm
  split
  · exact h
  · exact .ite_fst h (.memEvent (.setStk h))

theorem ResSound.execInject {m : BureauMsg} {kind : Nat} {target : InjectTarget} (h : s.Sound) :
    ResSound (execInject m kind target s) :=
  .next (.bureauRequest h fun _ ha => .answer (.arm ha))

theorem ResSound.execInjectCancel {m : BureauMsg} {target : InjectTarget} (h : s.Sound) :
    ResSound (execInjectCancel m target s) := by
  unfold Machine.execInjectCancel
  refine .next (.bureauRequest h (fun _ ha => ?_))
  split
  · exact .answer ha
  · exact .answer (.updStk ha)

theorem State.Sound.sliceInject {st : Nat} {w : HostWrite} (h : s.Sound) : (s.sliceInject st w).Sound := by
  unfold State.sliceInject
  extract_lets _ say
  have hsay : ∀ (u : State) (x : Status), u.Sound → (say u x).Sound := fun _ _ hu => .updStk hu
  exact .ite h (.submit h (fun _ ha => hsay _ _ ha) fun _ ha => .ite (hsay _ _ (.updStk ha))
    (.ite (hsay _ _ ha) (hsay _ _ (.arm ha))))

theorem ResSound.execSliceInject {st : Fin 16} {w : HostWrite} (h : s.Sound) : ResSound (execSliceInject st w s) :=
  .next (.hostGate h fun _ ha => .sliceInject ha)

theorem ResSound.execSliceInjectCancel {st : Fin 16} {w : HostWrite} (h : s.Sound) : ResSound (execSliceInjectCancel st w s) :=
  .next (.hostGate h fun _ ha => .sliceInject ha)

/-! ### Images of the lexicon (chapter 15) -/

/-- A lookup that keeps the state sound, continued by lookups that keep it so. -/
theorem State.Sound.andThen {α β : Type} {x : Look α} {f : State → α → Look β} (hx : x.1.Sound)
    (hf : ∀ u a, u.Sound → (f u a).1.Sound) : (x.andThen f).1.Sound := by
  unfold Look.andThen
  split
  · exact hf _ _ hx
  · exact hx

theorem State.Sound.look {im : LexImage} {o n : Nat} (h : s.Sound) : (s.look im o n).1.Sound :=
  .ite_fst h (.ite_fst (.readRange h) (.readRange h))

theorem State.Sound.lookDict {im : LexImage} (h : s.Sound) : (s.lookDict im).1.Sound := .andThen (.look h) fun _ _ hu => hu
theorem State.Sound.lookGram {im : LexImage} (h : s.Sound) : (s.lookGram im).1.Sound := .andThen (.look h) fun _ _ hu => hu

theorem State.Sound.lookEdge {im : LexImage} {d : DictHdr} {b : Byte} {count i : Nat} (h : s.Sound) :
    (State.lookEdge im d b count i s).1.Sound := by
  induction count generalizing i s with
  | zero => exact h
  | succ count ih =>
    unfold State.lookEdge
    exact .ite_fst h (.andThen (.look h) fun u e hu => .ite_fst (.ite_fst hu hu) (ih hu))

theorem State.Sound.lookBreak {im : LexImage} {d : DictHdr} {b : Byte} (h : s.Sound) : (s.lookBreak im d b).1.Sound :=
  .ite_fst h (.andThen (.look h) fun _ _ hu => hu)

theorem State.Sound.walk {im : LexImage} {d : DictHdr} {final : Bool} {cells : List Cell} {node depth : Nat} {brk : Bool}
    {cand : Option (Nat × Nat)} (h : s.Sound) : (State.walk im d final cells node depth brk cand s).1.Sound := by
  induction cells generalizing node depth brk cand s with
  | nil =>
    unfold State.walk
    extract_lets emit
    have hemit : ∀ u : State, u.Sound → (emit u).1.Sound := fun u hu => by
      unfold emit
      split <;> exact hu
    exact .ite_fst (hemit s h) (.ite_fst (hemit s h) h)
  | cons c rest ih =>
    unfold State.walk
    extract_lets emit
    have hemit : ∀ u : State, u.Sound → (emit u).1.Sound := fun u hu => by
      unfold emit
      split <;> exact hu
    refine .ite_fst (hemit s h) (.andThen (.lookBreak h) fun u br hu => .ite_fst (hemit u hu) (.ite_fst (hemit u hu) ?_))
    refine .andThen (.look hu) fun u1 nd h1 => .andThen (.lookEdge h1) fun u2 child h2 => ?_
    split
    · exact hemit u2 h2
    · exact .andThen (.look h2) fun u3 tb h3 => .ite_fst h3 (ih h3)

theorem State.Sound.nextToken {im : LexImage} {d : DictHdr} {final : Bool} {cells : List Cell} (h : s.Sound) :
    (s.nextToken im d final cells).1.Sound := by
  unfold State.nextToken
  split
  · exact h
  · refine .ite_fst h (.andThen (.walk h) (fun _ _ hu => ?_))
    split
    · exact hu
    · exact hu

theorem State.Sound.emitTokens {im : LexImage} {d : DictHdr} {final : Bool} {n : Nat} {cells : List Cell} (h : s.Sound) :
    (State.emitTokens im d final n cells s).1.Sound := by
  induction n generalizing cells s with
  | zero =>
    unfold State.emitTokens
    split
    next u r e => exact State.Sound.of_eq (.nextToken h) e
    next u st e => exact State.Sound.of_eq (.nextToken h) e
  | succ n ih =>
    unfold State.emitTokens
    split
    next u st e => exact State.Sound.of_eq (.nextToken h) e
    next u e => exact State.Sound.of_eq (.nextToken h) e
    next u tok fin rest e => exact ih (State.Sound.of_eq (.nextToken h) e)

theorem State.Sound.lookRuns {im : LexImage} {g : GramHdr} {count i : Nat} (h : s.Sound) :
    (State.lookRuns im g count i s).1.Sound := by
  induction count generalizing i s with
  | zero => exact h
  | succ count ih =>
    unfold State.lookRuns
    exact .ite_fst h (.andThen (.look h) fun u b hu => .andThen (ih hu) fun v rs hv => hv)

theorem State.Sound.lookState {im : LexImage} {d : GramHdr} {st : Nat} (h : s.Sound) : (s.lookState im d st).1.Sound :=
  .ite_fst h (.andThen (.look h) fun _ _ hu => .andThen (.lookRuns hu) fun _ _ hu1 => hu1)

theorem State.Sound.advanceGram {im : LexImage} {d : GramHdr} {st t : Nat} (h : s.Sound) : (s.advanceGram im d st t).1.Sound := by
  unfold State.advanceGram
  refine .andThen (.lookState h) (fun _ _ hu => .ite_fst hu ?_)
  split
  · exact hu
  · exact .ite_fst hu (.andThen (.lookState hu) fun _ _ hu1 => hu1)

theorem State.Sound.maskOf {im : LexImage} {d : GramHdr} {st : Nat} (h : s.Sound) : (s.maskOf im d st).1.Sound :=
  .andThen (.lookState h) fun _ _ hu => hu

theorem PairSound.windowWrite {c : Channel} {bs : List Byte} (h : s.Sound) : PairSound (s.windowWrite c bs) := by
  unfold State.windowWrite
  refine .map_fst (.foldl (fun o x ho => ?_) (.some h)) fun x hx => hx
  split
  · exact .none
  next u i bad =>
    have hu : u.Sound := ho.of_eq rfl
    extract_lets _
    split
    · exact .none
    next v e => exact .some (.writeRange (OptionSound.of_eq (.claimRange hu) e))

theorem OptionSound.windowHeader {c : Channel} (h : s.Sound) : OptionSound (s.windowHeader c) :=
  .map (.claimRange h) fun _ hu => .writeRange hu

theorem PairSound.feedChannels {f : Channel → Channel × List Byte × Nat} {cs : List Channel} (h : s.Sound) :
    PairSound (State.feedChannels f cs s) := by
  induction cs generalizing s with
  | nil => exact .some h
  | cons c cs ih =>
    unfold State.feedChannels
    extract_lets x
    split
    · exact .none
    next u c1 bad e =>
      have hu : u.Sound := PairSound.of_eq (.windowWrite h) e
      split
      · exact .none
      next v e1 =>
        have hv : v.Sound := OptionSound.of_eq (.windowHeader hu) e1
        split
        · exact .none
        next w rest n b e2 => exact .some ((ih hv).of_eq e2)

theorem State.Sound.tokenBytes {im : LexImage} {d : DictHdr} {t : Nat} (h : s.Sound) : (s.tokenBytes im d t).1.Sound :=
  .ite_fst h (.andThen (.look h) fun _ _ hu => .ite_fst hu (.ite_fst hu (.look hu)))

theorem State.Sound.tokenRun {im : LexImage} {d : DictHdr} {ts : List Nat} (h : s.Sound) :
    (State.tokenRun im d ts s).1.Sound := by
  induction ts generalizing s with
  | nil => exact h
  | cons t ts ih =>
    unfold State.tokenRun
    split
    next u st e => exact State.Sound.of_eq (.tokenBytes h) e
    next u b e => exact ih (State.Sound.of_eq (.tokenBytes h) e)

/-! ### Tokens and grammars (chapter 15) -/

theorem State.Sound.lexGate {r : Req} {uses : Bool} {need : Nat → Stream → Option LexImage} {f : Nat → LexImage → Served}
    (h : s.Sound) (hf : ∀ x y, (f x y).1.Sound) : (s.lexGate r uses need f).1.Sound := by
  unfold State.lexGate
  extract_lets _
  refine .ite_fst h ?_
  split
  · exact h
  · exact hf _ _

theorem State.Sound.sequenced {r : Req} {f : State → Served} (h : s.Sound) (hf : ∀ u, u.Sound → (f u).1.Sound) :
    (s.sequenced r f).1.Sound := by
  unfold State.sequenced
  extract_lets _
  refine .ite_fst ?_ ?_
  · split
    next u _ e =>
      have hu : u.Sound := State.Sound.of_eq (hf _ h) e
      exact .setStream hu
    · exact hf _ h
  · split
    · exact .ite_fst h h
    · exact h

theorem State.Sound.tokenizeNow {r : Req} {im : LexImage} (h : s.Sound) : (s.tokenizeNow r im).1.Sound := by
  unfold State.tokenizeNow
  extract_lets _ _ _ _
  split
  next u _ e =>
    have hu : u.Sound := State.Sound.of_eq (.lookDict h) e
    exact hu
  next u _ e =>
    have hu : u.Sound := State.Sound.of_eq (.lookDict h) e
    exact .ite_fst hu (.ite_fst (.setStream (.emitTokens hu)) (.setStream (.emitTokens hu)))

theorem State.Sound.serveTokenize {r : Req} (h : s.Sound) : (s.serveTokenize r).1.Sound :=
  .lexGate h fun _ _ => .sequenced h fun _ ha2 => .tokenizeNow ha2

theorem PairSound.detokenize {n : Nat} {im : LexImage} {d : DictHdr} {tokens : List Nat} {final : Bool} (h : s.Sound) :
    PairSound (s.detokenize n im d tokens final) := by
  unfold State.detokenize
  extract_lets _ r _
  have hr : r.1.Sound := .tokenRun h
  split
  · exact .none
  next w _ _ _ e =>
    have hw : w.Sound := PairSound.of_eq (.feedChannels hr) e
    split
    · exact .none
    next w1 _ _ _ e1 =>
      have hw1 : w1.Sound := PairSound.of_eq (.ite (.feedChannels hw) (.some hw)) e1
      exact .some (.setStream hw1)

theorem State.Sound.detokenizeNow {r : Req} {t : Nat} {im : LexImage} (h : s.Sound) : (s.detokenizeNow r t im).1.Sound := by
  unfold State.detokenizeNow
  extract_lets _ _ _
  refine .ite_fst h ?_
  split
  · exact h
  · split
    next u _ e1 =>
      have hu : u.Sound := State.Sound.of_eq (.lookDict h) e1
      exact hu
    next u _ e1 =>
      have hu : u.Sound := State.Sound.of_eq (.lookDict h) e1
      split
      · exact h
      next v _ _ _ _ e2 =>
        have hv : v.Sound := PairSound.of_eq (.detokenize hu) e2
        exact hv

theorem State.Sound.serveDetokenize {r : Req} (h : s.Sound) : (s.serveDetokenize r).1.Sound :=
  .lexGate h fun _ _ => .sequenced h fun _ ha2 => .detokenizeNow ha2

theorem State.Sound.moveGram {n st : Nat} (h : s.Sound) : (s.moveGram n st).Sound := by
  unfold State.moveGram
  extract_lets _
  split
  · exact h
  · exact .setStream h

theorem State.Sound.sendMask {op : Nat} {r : Req} {mask : List Byte} {word : W64} (h : s.Sound) :
    (s.sendMask op r mask word).1.Sound :=
  .foldl (fun _ _ hu => .issue hu) (.upd rfl rfl h)

theorem State.Sound.serveMaskFetch {r : Req} (h : s.Sound) : (s.serveMaskFetch r).1.Sound := by
  unfold State.serveMaskFetch
  refine .lexGate h (fun _ _ => ?_)
  split
  next u _ e =>
    have hu : u.Sound := State.Sound.of_eq (.andThen (.lookGram h) fun _ _ hu1 => .maskOf hu1) e
    exact hu
  next u _ e =>
    have hu : u.Sound := State.Sound.of_eq (.andThen (.lookGram h) fun _ _ hu1 => .maskOf hu1) e
    exact .sendMask hu

theorem State.Sound.advanceNow {r : Req} {im : LexImage} {fetch : Bool} (h : s.Sound) : (s.advanceNow r im fetch).1.Sound := by
  unfold State.advanceNow
  split
  next u _ e =>
    have hu : u.Sound := State.Sound.of_eq (.andThen (.lookGram h) fun _ _ hu1 => .andThen
      (.advanceGram hu1) fun _ _ hu2 => hu2) e
    exact hu
  next u _ _ next _ e =>
    have hu : u.Sound := State.Sound.of_eq (.andThen (.lookGram h) fun _ _ hu1 => .andThen
      (.advanceGram hu1) fun _ _ hu2 => hu2) e
    extract_lets move
    have hmove : ∀ (v : State), v.Sound → (move v).Sound := fun _ hv => .ite (.moveGram hv) hv
    refine .ite_fst ?_ (hmove _ hu)
    split
    next u1 _ e1 =>
      have hu1 : u1.Sound := State.Sound.of_eq (.maskOf hu) e1
      exact hu1
    next u1 _ e1 =>
      have hu1 : u1.Sound := State.Sound.of_eq (.maskOf hu) e1
      exact .sendMask (hmove _ hu1)

theorem State.Sound.serveAdvanceForm {r : Req} {fetch : Bool} (h : s.Sound) : (s.serveAdvanceForm r fetch).1.Sound :=
  .lexGate h fun _ _ => .ite_fst (.sequenced h fun _ ha2 => .advanceNow ha2) (.advanceNow h)

theorem State.Sound.serveAdvance {r : Req} (h : s.Sound) : (s.serveAdvance r).1.Sound := .serveAdvanceForm h
theorem State.Sound.serveAdvanceFetch {r : Req} (h : s.Sound) : (s.serveAdvanceFetch r).1.Sound := .serveAdvanceForm h

theorem State.Sound.serveStreamRead {r : Req} (h : s.Sound) : (s.serveStreamRead r).1.Sound := by
  unfold State.serveStreamRead
  split
  · exact h
  · extract_lets _ _ _ x'
    have hx' : x'.1.Sound := .foldl_fst (fun _ _ hy => .readRange hy) h
    refine .ite_fst h (.ite_fst h ?_)
    split
    · exact hx'
    · exact hx'

theorem ResSound.execStreamRead {r : Req} (h : s.Sound) : ResSound (execStreamRead r s) :=
  .next (.request h fun _ _ ha => .serveStreamRead ha)

theorem ResSound.execFabricTokenize {r : Req} (h : s.Sound) : ResSound (execFabricTokenize r s) :=
  .next (.request h fun _ _ ha => .serveTokenize ha)

theorem ResSound.execFabricDetokenize {r : Req} (h : s.Sound) : ResSound (execFabricDetokenize r s) :=
  .next (.request h fun _ _ ha => .serveDetokenize ha)

theorem ResSound.execFabricMaskFetch {r : Req} (h : s.Sound) : ResSound (execFabricMaskFetch r s) :=
  .next (.request h fun _ _ ha => .serveMaskFetch ha)

theorem ResSound.execFabricAdvance {r : Req} (h : s.Sound) : ResSound (execFabricAdvance r s) :=
  .next (.request h fun _ _ ha => .serveAdvance ha)

theorem ResSound.execFabricAdvanceFetch {r : Req} (h : s.Sound) : ResSound (execFabricAdvanceFetch r s) :=
  .next (.request h fun _ _ ha => .serveAdvanceFetch ha)

theorem State.Sound.serveOf {op : Nat} {x : Req} (h : s.Sound) : (serveOf op s x).1.Sound := by
  unfold Machine.serveOf
  split
  · exact .serveRead h
  · exact .serveWrite h
  · exact .serveFadd h
  · exact .serveCas64 h
  · exact .serveCas128 h
  · exact .serveSyncAdd h
  · exact .serveSyncSet h
  · exact .serveSyncRead h
  · exact .serveSyncWait h
  · exact .serveDoorbell h
  · exact .serveTokenize h
  · exact .serveDetokenize h
  · exact .serveMaskFetch h
  · exact .serveAdvance h
  · exact .serveAdvanceFetch h
  · exact .serveStreamRead h
  · exact h

theorem PairSound.hostStore {drawer off : Nat} {data : List Byte} (h : s.Sound) : PairSound (s.hostStore drawer off data) :=
  .map (.claimRange h) fun _ hu => .writeRange hu

theorem State.Sound.repark {x : Parked} (h : s.Sound) : (s.repark x).Sound := .upd rfl rfl h

theorem State.Sound.retryOne {x : Parked} (h : s.Sound) : (s.retryOne x).Sound := by
  unfold State.retryOne
  split
  · refine .ite (.repark h) ?_
    split
    · exact .ite (.afterFlit (.respond h)) h
    · split
      next u _ e =>
        have hu : u.Sound := State.Sound.of_eq (.serveOf h) e
        exact .ite (.afterFlit (.respond hu)) hu
      next u e =>
        have hu : u.Sound := State.Sound.of_eq (.serveOf h) e
        exact .repark hu
  · refine .ite (.repark h) ?_
    split
    · exact .repark h
    next u _ e =>
      have hu : u.Sound := PairSound.of_eq (.hostStore h) e
      exact hu
  · exact .repark h

theorem State.Sound.retry (h : s.Sound) : s.retry.Sound := .foldl (fun _ _ hu => .retryOne hu) (.upd rfl rfl h)

/-! ### The commands of the lexicon -/

theorem OptionSound.loadUnit {grammar : Bool} {q : Nat} {i : W32} {t : Nat} {c : RunCmd} (h : s.Sound) :
    OptionSound (State.loadUnit grammar s q i t c) := by
  unfold State.loadUnit
  extract_lets _ _ _ _ r _ _ _ _ w
  have hr : r.1.Sound := .readRange h
  have hw : w.Sound := hr
  exact .ite (.some (.endRun hw)) (.ite (.some (.endRun hw)) (.some (.endRun (.upd rfl rfl hw))))

theorem OptionSound.unloadUnit {q : Nat} {i : W32} {t : Nat} {c : RunCmd} (h : s.Sound) : OptionSound (s.unloadUnit q i t c) :=
  .ite (.some (.endRun h)) (.some (.endRun (.upd rfl rfl h)))

theorem State.Sound.pickState {im : LexImage} {st : Nat} (h : s.Sound) : (s.pickState im st).1.Sound :=
  .andThen (.lookGram h) fun _ _ hu => .ite_fst hu (.ite_fst hu hu)

theorem OptionSound.openUnit {q : Nat} {i : W32} {t : Nat} {c : RunCmd} (h : s.Sound) : OptionSound (s.openUnit q i t c) := by
  unfold State.openUnit
  extract_lets _ _ _ chans _
  split
  · exact .some (.endRun h)
  next dim _ =>
    extract_lets looked
    have hlooked : looked.1.Sound := by
      unfold looked
      split
      · exact h
      · exact .andThen (.lookDict h) fun u _ hu => .andThen (.lookGram hu) fun v _ hv =>
          .ite_fst hv (.andThen (.pickState hv) fun w _ hw => hw)
    clear_value looked
    split
    next u st => exact .some (.endRun hlooked)
    next u _ => exact .some (.endRun (.updRun hlooked))
    next u pos =>
      have hchans : OptionSound (chans.foldl (fun (a : Option State) ch => a.bind fun v => v.windowHeader ch) (Option.some u)) :=
        .foldl (fun _ _ ho => .bind ho fun v hv => .windowHeader hv) (.some hlooked)
      split
      · exact .none
      next v e => exact .some (.endRun (.setStream (hchans.of_eq e)))

theorem OptionSound.closeUnit {q : Nat} {i : W32} {t : Nat} {c : RunCmd} (h : s.Sound) : OptionSound (s.closeUnit q i t c) := by
  unfold State.closeUnit
  extract_lets _ _
  refine .ite ?_ (.some (.endRun (.setStream h)))
  split
  · exact .some (.endRun h)
  · split
    · exact .none
    next w _ _ _ e1 =>
      have hw : w.Sound := PairSound.of_eq (.feedChannels h) e1
      exact .some (.endRun (.setStream hw))

theorem OptionSound.gramSetUnit {q : Nat} {i : W32} {t : Nat} {c : RunCmd} (h : s.Sound) :
    OptionSound (s.gramSetUnit q i t c) := by
  unfold State.gramSetUnit
  extract_lets _ _ _
  refine .ite (.some (.endRun (.setStream h))) ?_
  split
  · exact .some (.endRun h)
  · split
    next u _ e1 =>
      have hu : u.Sound := State.Sound.of_eq (.pickState h) e1
      exact .some (.endRun hu)
    next u _ e1 =>
      have hu : u.Sound := State.Sound.of_eq (.pickState h) e1
      exact .some (.endRun (.setStream hu))

theorem State.Sound.stopTok {q : Nat} {i : W32} {c : RunCmd} {st : Status} (h : s.Sound) : (s.stopTok q i c st).Sound :=
  .endRun (.setStream h)

theorem OptionSound.tokUnit {q : Nat} {i : W32} {t : Nat} {c : RunCmd} (h : s.Sound) : OptionSound (s.tokUnit q i t c) := by
  unfold State.tokUnit
  extract_lets _ _ _ _ _ inp _ _ _ _ _ _ _
  have hinp : inp.1.Sound := .readRange h
  refine .ite (.some (.endRun h)) ?_
  split
  · exact .some (.endRun h)
  · split
    next u _ e1 =>
      have hu : u.Sound := State.Sound.of_eq (.lookDict hinp) e1
      exact .some (.stopTok hu)
    next u _ e1 =>
      have hu : u.Sound := State.Sound.of_eq (.lookDict hinp) e1
      extract_lets e' _ _ _ _ _ _
      have he' : e'.1.Sound := .emitTokens hu
      split
      · exact .none
      next u1 e2 =>
        have hu1 : u1.Sound := OptionSound.of_eq (.claimRange he') e2
        extract_lets wr _ s1
        have hwr : wr.1.Sound := .writeRange hu1
        have hs1 : s1.Sound := .updRun hwr
        exact .ite (.some (.stopTok hs1)) (.ite (.ite (.some (.stopTok hs1)) (.some hs1))
          (.ite (.some (.stopTok hs1)) (.some (.endRun (.setStream hs1)))))

theorem OptionSound.detokUnit {q : Nat} {i : W32} {t : Nat} {c : RunCmd} (h : s.Sound) : OptionSound (s.detokUnit q i t c) := by
  unfold State.detokUnit
  extract_lets _ _ _ _ _ _ _ _ inp _ _ _
  have hinp : inp.1.Sound := .readRange h
  refine .ite (.some (.endRun h)) ?_
  split
  · exact .some (.endRun h)
  · exact .some (.endRun h)
  · split
    next u _ e2 =>
      have hu : u.Sound := State.Sound.of_eq (.lookDict hinp) e2
      exact .some (.endRun hu)
    next u _ e2 =>
      have hu : u.Sound := State.Sound.of_eq (.lookDict hinp) e2
      split
      · exact .none
      next v _ _ _ _ e3 =>
        have hv : v.Sound := PairSound.of_eq (.detokenize hu) e3
        extract_lets _ _ s1
        have hs1 : s1.Sound := .updRun hv
        exact .ite (.some (.endRun hs1)) (.ite (.some (.endRun hs1)) (.some hs1))

theorem OptionSound.maskUnit {q : Nat} {i : W32} {c : RunCmd} {mask : List Byte} {fin : State → State} (h : s.Sound)
    (hfin : ∀ u, u.Sound → (fin u).Sound) : OptionSound (s.maskUnit q i c mask fin) := by
  unfold State.maskUnit
  extract_lets _ _ _
  split
  · exact .none
  next u e =>
    have hu : u.Sound := OptionSound.of_eq (.claimRange h) e
    exact .ite (.some (hfin _ (.updRun (.writeRange hu)))) (.some (.updRun (.writeRange hu)))

theorem OptionSound.maskFetchUnit {q : Nat} {i : W32} {t : Nat} {c : RunCmd} (h : s.Sound) :
    OptionSound (s.maskFetchUnit q i t c) := by
  unfold State.maskFetchUnit
  split
  · exact .some (.endRun h)
  · split
    next u _ e1 =>
      have hu : u.Sound := State.Sound.of_eq (.andThen (.lookGram h) fun _ _ hu1 => .maskOf hu1) e1
      exact .some (.endRun hu)
    next u _ e1 =>
      have hu : u.Sound := State.Sound.of_eq (.andThen (.lookGram h) fun _ _ hu1 => .maskOf hu1) e1
      exact .maskUnit hu fun _ ha => .endRun ha

theorem OptionSound.advanceUnit {fetch : Bool} {q : Nat} {i : W32} {t : Nat} {c : RunCmd} (h : s.Sound) :
    OptionSound (State.advanceUnit fetch s q i t c) := by
  unfold State.advanceUnit
  extract_lets _
  split
  · exact .some (.endRun h)
  · split
    next u _ e1 =>
      have hu : u.Sound := State.Sound.of_eq (.andThen (.lookGram h) fun _ _ hu1 => .andThen
        (.advanceGram hu1) fun _ _ hu2 => hu2) e1
      exact .some (.endRun hu)
    next u _ _ next _ e1 =>
      have hu : u.Sound := State.Sound.of_eq (.andThen (.lookGram h) fun _ _ hu1 => .andThen
        (.advanceGram hu1) fun _ _ hu2 => hu2) e1
      extract_lets move
      have hmove : ∀ (v : State), v.Sound → (move v).Sound := fun _ hv => .ite (.moveGram hv) hv
      refine .ite ?_ (.some (.endRun (hmove _ hu)))
      split
      next u1 _ e2 =>
        have hu1 : u1.Sound := State.Sound.of_eq (.maskOf hu) e2
        exact .some (.endRun hu1)
      next u1 _ e2 =>
        have hu1 : u1.Sound := State.Sound.of_eq (.maskOf hu) e2
        exact .maskUnit hu1 fun _ ha => .endRun (hmove _ ha)

theorem OptionSound.lexWork {s0 : State} {q : Nat} {i : W32} {t : Nat} {c : RunCmd} (h : s0.Sound) :
    OptionSound (s0.lexWork q i t c) := by
  unfold State.lexWork
  refine .underGens h (fun _ ha => ?_)
  extract_lets _
  split
  · exact .some (.endRun ha)
  · split
    · exact .loadUnit ha
    · exact .loadUnit ha
    · exact .unloadUnit ha
    · exact .openUnit ha
    · exact .closeUnit ha
    · exact .tokUnit ha
    · exact .detokUnit ha
    · exact .maskFetchUnit ha
    · exact .advanceUnit ha
    · exact .advanceUnit ha
    · exact .gramSetUnit ha
    · exact .some (.endRun ha)

theorem State.Sound.lexRest {q : Nat} {i : W32} (h : s.Sound) : (s.lexRest q i).Sound := by
  unfold State.lexRest
  split
  · exact h
  · split
    · exact .ite h (.ite (.stopTok h) (.ite (.endRun h) (.resumePoint h)))
    · exact .resumePoint h

theorem State.Sound.lexRun {q : Nat} {i : W32} {fuel : Nat} (h : s.Sound) : (s.lexRun q i fuel).Sound := by
  induction fuel generalizing s with
  | zero => exact h
  | succ fuel ih =>
    unfold State.lexRun
    split
    · exact h
    · refine .ite (.lexRest h) ?_
      split
      · exact .lexRest h
      next u e => exact ih (OptionSound.of_eq (.lexWork h) e)

theorem ResSound.lexRow {q : BitVec 16} {i : W32} {op : Nat} (h : s.Sound) : ResSound (s.lexRow q i op) := by
  unfold State.lexRow
  split
  · exact .next h
  · exact .next (.settle (.retry (.lexRun h)))

theorem ResSound.execLexiconResumePoint {q : BitVec 16} {index : BitVec 32} (h : s.Sound) :
    ResSound (execLexiconResumePoint q index s) := by
  unfold Machine.execLexiconResumePoint
  split
  · refine .next ?_
    split
    · exact .ite (.retry (.lexRest h)) h
    · exact h
  · exact .next (.settle (.retry (.lexRest (.ite h (.getD (.lexWork h) h)))))

theorem ResSound.execLexNop {q : BitVec 16} {index : BitVec 32} (h : s.Sound) : ResSound (execLexNop q index s) := .lexRow h
theorem ResSound.execDictLoad {q : BitVec 16} {index : BitVec 32} (h : s.Sound) : ResSound (execDictLoad q index s) := .lexRow h
theorem ResSound.execGramLoad {q : BitVec 16} {index : BitVec 32} (h : s.Sound) : ResSound (execGramLoad q index s) := .lexRow h
theorem ResSound.execUnload {q : BitVec 16} {index : BitVec 32} (h : s.Sound) : ResSound (execUnload q index s) := .lexRow h

theorem ResSound.execStreamOpen {q : BitVec 16} {index : BitVec 32} (h : s.Sound) : ResSound (execStreamOpen q index s) :=
  .lexRow h

theorem ResSound.execStreamClose {q : BitVec 16} {index : BitVec 32} (h : s.Sound) : ResSound (execStreamClose q index s) :=
  .lexRow h

theorem ResSound.execTokenize {q : BitVec 16} {index : BitVec 32} (h : s.Sound) : ResSound (execTokenize q index s) := .lexRow h

theorem ResSound.execDetokenize {q : BitVec 16} {index : BitVec 32} (h : s.Sound) : ResSound (execDetokenize q index s) :=
  .lexRow h

theorem ResSound.execMaskFetch {q : BitVec 16} {index : BitVec 32} (h : s.Sound) : ResSound (execMaskFetch q index s) :=
  .lexRow h

theorem ResSound.execAdvance {q : BitVec 16} {index : BitVec 32} (h : s.Sound) : ResSound (execAdvance q index s) := .lexRow h

theorem ResSound.execAdvanceFetch {q : BitVec 16} {index : BitVec 32} (h : s.Sound) : ResSound (execAdvanceFetch q index s) :=
  .lexRow h

theorem ResSound.execGramSet {q : BitVec 16} {index : BitVec 32} (h : s.Sound) : ResSound (execGramSet q index s) := .lexRow h

/-! ### Instructions of a sieve program (chapter 14) -/

theorem Act.Sound.fault {c : Ctx} {cause info : Nat} (h : s.Sound) : (fault s c cause info).Sound := .trap h
theorem Act.Sound.faultIn {c : Ctx} {l : LongOp} {cause info : Nat} (h : s.Sound) : (faultIn s c l cause info).Sound := .trap h
theorem Act.Sound.retireNext {c : Ctx} (h : s.Sound) : (retireNext s c).Sound := .retire h

theorem Act.Sound.progress {c : Ctx} {l : LongOp} {total : Nat} (h : s.Sound) : (progress s c l total).Sound :=
  .ite (.retireNext h) (.unit h)

theorem Act.Sound.aluAct {two : Bool} {f : W64 → W64 → W64} {c : Ctx} {w : W32} (h : s.Sound) : (aluAct two f s c w).Sound :=
  .ite (.fault h) (.retireNext h)

theorem Act.Sound.immAct {ok : Bool} {f : W64 → W64} {c : Ctx} {w : W32} (h : s.Sound) : (immAct ok f s c w).Sound :=
  .ite (.fault h) (.retireNext h)

theorem ResSound.execAluAdd {c : CtxId} (h : s.Sound) : ResSound (execAluAdd c s) := .next (.instr h fun _ _ _ ha => .aluAct ha)
theorem ResSound.execAluSub {c : CtxId} (h : s.Sound) : ResSound (execAluSub c s) := .next (.instr h fun _ _ _ ha => .aluAct ha)
theorem ResSound.execAluAnd {c : CtxId} (h : s.Sound) : ResSound (execAluAnd c s) := .next (.instr h fun _ _ _ ha => .aluAct ha)
theorem ResSound.execAluOr {c : CtxId} (h : s.Sound) : ResSound (execAluOr c s) := .next (.instr h fun _ _ _ ha => .aluAct ha)
theorem ResSound.execAluXor {c : CtxId} (h : s.Sound) : ResSound (execAluXor c s) := .next (.instr h fun _ _ _ ha => .aluAct ha)
theorem ResSound.execAluShl {c : CtxId} (h : s.Sound) : ResSound (execAluShl c s) := .next (.instr h fun _ _ _ ha => .aluAct ha)
theorem ResSound.execAluShr {c : CtxId} (h : s.Sound) : ResSound (execAluShr c s) := .next (.instr h fun _ _ _ ha => .aluAct ha)
theorem ResSound.execAluSar {c : CtxId} (h : s.Sound) : ResSound (execAluSar c s) := .next (.instr h fun _ _ _ ha => .aluAct ha)
theorem ResSound.execAluMul {c : CtxId} (h : s.Sound) : ResSound (execAluMul c s) := .next (.instr h fun _ _ _ ha => .aluAct ha)

theorem ResSound.execAluMulhu {c : CtxId} (h : s.Sound) : ResSound (execAluMulhu c s) :=
  .next (.instr h fun _ _ _ ha => .aluAct ha)

theorem ResSound.execAluSltu {c : CtxId} (h : s.Sound) : ResSound (execAluSltu c s) :=
  .next (.instr h fun _ _ _ ha => .aluAct ha)

theorem ResSound.execAluSlt {c : CtxId} (h : s.Sound) : ResSound (execAluSlt c s) := .next (.instr h fun _ _ _ ha => .aluAct ha)

theorem ResSound.execAluMinu {c : CtxId} (h : s.Sound) : ResSound (execAluMinu c s) :=
  .next (.instr h fun _ _ _ ha => .aluAct ha)

theorem ResSound.execAluMaxu {c : CtxId} (h : s.Sound) : ResSound (execAluMaxu c s) :=
  .next (.instr h fun _ _ _ ha => .aluAct ha)

theorem ResSound.execAluPopcnt {c : CtxId} (h : s.Sound) : ResSound (execAluPopcnt c s) :=
  .next (.instr h fun _ _ _ ha => .aluAct ha)

theorem ResSound.execAddi {c : CtxId} (h : s.Sound) : ResSound (execAddi c s) := .next (.instr h fun _ _ _ ha => .immAct ha)
theorem ResSound.execAndi {c : CtxId} (h : s.Sound) : ResSound (execAndi c s) := .next (.instr h fun _ _ _ ha => .immAct ha)
theorem ResSound.execOri {c : CtxId} (h : s.Sound) : ResSound (execOri c s) := .next (.instr h fun _ _ _ ha => .immAct ha)
theorem ResSound.execXori {c : CtxId} (h : s.Sound) : ResSound (execXori c s) := .next (.instr h fun _ _ _ ha => .immAct ha)
theorem ResSound.execShiShl {c : CtxId} (h : s.Sound) : ResSound (execShiShl c s) := .next (.instr h fun _ _ _ ha => .immAct ha)
theorem ResSound.execShiShr {c : CtxId} (h : s.Sound) : ResSound (execShiShr c s) := .next (.instr h fun _ _ _ ha => .immAct ha)
theorem ResSound.execShiSar {c : CtxId} (h : s.Sound) : ResSound (execShiSar c s) := .next (.instr h fun _ _ _ ha => .immAct ha)

theorem ResSound.execLdi {c : CtxId} (h : s.Sound) : ResSound (execLdi c s) :=
  .next (.instr h fun _ _ _ ha => .ite (.fault ha) (.retireNext ha))

theorem Act.Sound.branchAct {taken : W64 → W64 → Bool} {c : Ctx} {w : W32} (h : s.Sound) : (branchAct taken s c w).Sound :=
  .retire h

theorem ResSound.execBeq {c : CtxId} (h : s.Sound) : ResSound (execBeq c s) := .next (.instr h fun _ _ _ ha => .branchAct ha)
theorem ResSound.execBne {c : CtxId} (h : s.Sound) : ResSound (execBne c s) := .next (.instr h fun _ _ _ ha => .branchAct ha)
theorem ResSound.execBltu {c : CtxId} (h : s.Sound) : ResSound (execBltu c s) := .next (.instr h fun _ _ _ ha => .branchAct ha)
theorem ResSound.execBgeu {c : CtxId} (h : s.Sound) : ResSound (execBgeu c s) := .next (.instr h fun _ _ _ ha => .branchAct ha)
theorem ResSound.execBlt {c : CtxId} (h : s.Sound) : ResSound (execBlt c s) := .next (.instr h fun _ _ _ ha => .branchAct ha)
theorem ResSound.execBge {c : CtxId} (h : s.Sound) : ResSound (execBge c s) := .next (.instr h fun _ _ _ ha => .branchAct ha)

theorem ResSound.execJal {c : CtxId} (h : s.Sound) : ResSound (execJal c s) :=
  .next (.instr h fun _ _ _ ha => .ite (.fault ha) (.retire ha))

theorem ResSound.execJr {c : CtxId} (h : s.Sound) : ResSound (execJr c s) :=
  .next (.instr h fun _ _ _ ha => .ite (.fault ha) (.retire ha))

theorem Act.Sound.scratchAct {f : State → Ctx → Nat → Act} {c : Ctx} {w : W32} (hf : ∀ u x y, u.Sound → (f u x y).Sound)
    (h : s.Sound) : (scratchAct f s c w).Sound :=
  .ite (.fault h) (hf _ _ _ h)

theorem ResSound.execSld {c : CtxId} (h : s.Sound) : ResSound (execSld c s) :=
  .next (.instr h fun _ _ _ ha => .scratchAct (fun _ _ _ ha3 => .retireNext ha3) ha)

theorem ResSound.execSst {c : CtxId} (h : s.Sound) : ResSound (execSst c s) :=
  .next (.instr h fun _ _ _ ha => .scratchAct (fun _ _ _ ha3 => .retireNext ha3) ha)

theorem ResSound.execMfsr {c : CtxId} (h : s.Sound) : ResSound (execMfsr c s) := by
  unfold Machine.execMfsr
  refine .next (.instr h (fun _ _ _ ha => ?_))
  split
  · exact .fault ha
  · exact .ite (.fault ha) (.retireNext ha)

theorem ResSound.execMtsr {c : CtxId} (h : s.Sound) : ResSound (execMtsr c s) :=
  .next (.instr h fun _ _ _ ha => .ite (.fault ha) (.ite (.fault ha) (.retireNext ha)))

theorem ResSound.execYield {c : CtxId} (h : s.Sound) : ResSound (execYield c s) :=
  .next (.instr h fun _ _ _ ha => .ite (.fault ha) (.offer ha))

theorem ResSound.execWindow {c : CtxId} (h : s.Sound) : ResSound (execWindow c s) :=
  .next (.instr h fun _ _ _ ha => .ite (.fault ha) (.ite (.fault ha) (.ite (.retireNext ha) (.retireNext ha))))

theorem ResSound.execTrap {c : CtxId} (h : s.Sound) : ResSound (execTrap c s) :=
  .next (.instr h fun _ _ _ ha => .ite (.fault ha) (.fault ha))

theorem ResSound.execTret {c : CtxId} (h : s.Sound) : ResSound (execTret c s) := by
  unfold Machine.execTret
  refine .next (.instr h (fun _ _ _ ha => .ite (.fault ha) (.ite (.fault ha) ?_)))
  extract_lets _ u1 _
  have hu1 : u1.Sound := by
    unfold u1
    split
    · exact .draw ha
    · exact .freeWait (.draw ha)
  exact .ite (.block hu1) (.retire hu1)

theorem ResSound.execHalt {c : CtxId} (h : s.Sound) : ResSound (execHalt c s) :=
  .next (.instr h fun _ _ _ ha => .ite (.fault ha) (.halt ha))

theorem ResSound.execUnassignedInstruction {c : CtxId} (h : s.Sound) : ResSound (execUnassignedInstruction c s) :=
  .next (.ite (.act h (.fault h)) h)

theorem Act.Sound.poolAct {f : State → Ctx → Nat → Nat → Act} {c : Ctx} {w : W32} (hf : ∀ u x y z, u.Sound → (f u x y z).Sound)
    (h : s.Sound) : (poolAct f s c w).Sound := by
  unfold Machine.poolAct
  split
  · exact .fault h
  · extract_lets _
    refine .ite (.fault h) ?_
    split
    · exact .fault h
    · exact hf _ _ _ _ h

theorem ResSound.execPld {c : CtxId} (h : s.Sound) : ResSound (execPld c s) :=
  .next (.settle (.instr h fun _ _ _ ha => .poolAct (fun _ _ _ _ ha3 => .ite (.retireNext (.draw (.readRange ha3)))
    (.retireNext (.readRange ha3))) ha))

theorem ResSound.execPst {c : CtxId} (h : s.Sound) : ResSound (execPst c s) := by
  unfold Machine.execPst
  refine .next (.settle (.instr h (fun _ _ _ ha => .poolAct (fun _ _ _ _ ha3 => ?_) ha)))
  split
  · exact .stay
  next u e =>
    have hu : u.Sound := OptionSound.of_eq (.claimRange ha3) e
    exact .retireNext (.writeRange hu)

theorem ResSound.execTcfg {c : CtxId} (h : s.Sound) : ResSound (execTcfg c s) := by
  unfold Machine.execTcfg
  refine .next (.instr h (fun _ _ _ ha => ?_))
  extract_lets _ _
  refine .ite (.fault ha) ?_
  split
  · exact .fault ha
  · exact .retireNext ha

theorem ResSound.execTrelTiles {c : CtxId} (h : s.Sound) : ResSound (execTrelTiles c s) :=
  .next (.instr h fun _ _ _ ha => .ite (.fault ha) (.retireNext ha))

theorem ResSound.execTrelAccumulators {c : CtxId} (h : s.Sound) : ResSound (execTrelAccumulators c s) :=
  .next (.instr h fun _ _ _ ha => .ite (.fault ha) (.retireNext ha))

theorem Act.Sound.tileStep {f : State → Ctx → Nat → Tile → Nat → Nat → Option (State × Ctx)} {c : Ctx} {w : W32}
    (hf : ∀ u x y z w v, u.Sound → PairSound (f u x y z w v)) (h : s.Sound) : (tileStep f s c w).Sound := by
  unfold Machine.tileStep
  refine .ite (.fault h) ?_
  split
  · exact .fault h
  · refine .ite (.fault h) ?_
    split
    · exact .fault h
    · extract_lets _ _ _
      split
      · exact .faultIn h
      · split
        · exact .progress h
        · split
          · exact .stay
          next u _ e4 =>
            have hu : u.Sound := PairSound.of_eq (hf _ _ _ _ _ _ h) e4
            exact .progress hu

theorem Act.Sound.tldStep {c : Ctx} {w : W32} (h : s.Sound) : (tldStep s c w).Sound :=
  .tileStep (fun _ _ _ _ _ _ hu => .some (.readRange hu)) h

theorem Act.Sound.tstStep {c : Ctx} {w : W32} (h : s.Sound) : (tstStep s c w).Sound := by
  unfold Machine.tstStep
  refine .tileStep (fun _ _ _ _ _ _ hu => ?_) h
  split
  · exact .none
  next u1 e1 =>
    have hu1 : u1.Sound := OptionSound.of_eq (.claimRange hu) e1
    exact .some (.writeRange hu1)

theorem ResSound.execTld {c : CtxId} (h : s.Sound) : ResSound (execTld c s) :=
  .next (.settle (.longInstr h fun _ _ _ ha => .tldStep ha))

theorem ResSound.execTst {c : CtxId} (h : s.Sound) : ResSound (execTst c s) :=
  .next (.settle (.longInstr h fun _ _ _ ha => .tstStep ha))

theorem State.Sound.keyAt {d : TileShape} {qs : List Row} {q k : Nat} {c : Ctx} {d1 off : Nat} {id : W32} (h : s.Sound) :
    (s.keyAt d qs q k c d1 off id).1.Sound := by
  unfold State.keyAt
  extract_lets r
  have hr : r.1.Sound := .readRange h
  refine .ite_fst hr ?_
  split
  · exact hr
  · exact hr

theorem Act.Sound.streamCheck {c : Ctx} {w : W32} {params k stride : Nat} {extra : Bool} {f : TileShape → List Row → LongOp → Act}
    (h : s.Sound) (hf : ∀ x y z, (f x y z).Sound) : (streamCheck s c w params k stride extra f).Sound := by
  unfold Machine.streamCheck
  refine .ite (.fault h) (.ite (.fault h) ?_)
  split
  · exact .fault h
  · exact .ite (.fault h) (.ite (.fault h) (.ite (.fault h) (hf _ _ _)))

theorem Act.Sound.tscoreContiguousStep {c : Ctx} {w : W32} (h : s.Sound) : (tscoreContiguousStep s c w).Sound := by
  unfold Machine.tscoreContiguousStep
  extract_lets _ _ _ _ _
  refine .streamCheck h (fun _ _ _ => .ite (.retireNext h) ?_)
  split
  · exact .faultIn h
  · exact .progress (.foldl_fst (fun _ _ hy => .keyAt hy) h)

theorem State.Sound.indexedRun {g : TileShape} {qs : List Row} {k : Nat} {drained : Bool} {d o kd ko stride n j : Nat} {c : Ctx}
    (h : s.Sound) : (indexedRun g qs k drained d o kd ko stride n j s c).1.Sound := by
  induction n generalizing j s c with
  | zero => exact h
  | succ n ih =>
    unfold Machine.indexedRun
    extract_lets size at_ r id off x
    have hr : r.1.Sound := .readRange h
    refine .ite_fst (ih hr) (.ite_fst (ih hr) ?_)
    split
    · exact hr
    · exact ih (.keyAt hr)

theorem Act.Sound.tscoreIndexedStep {c : Ctx} {w : W32} (h : s.Sound) : (tscoreIndexedStep s c w).Sound := by
  unfold Machine.tscoreIndexedStep
  extract_lets _ _ _ _ _ _
  refine .streamCheck h (fun _ _ _ => .ite (.retireNext h) ?_)
  split
  · exact .faultIn h
  · extract_lets r _ _ _
    have hr : r.1.Sound := .indexedRun h
    split
    · exact .faultIn hr
    · exact .progress hr

theorem Act.Sound.tscoreTileStep {c : Ctx} {w : W32} (h : s.Sound) : (tscoreTileStep s c w).Sound := by
  unfold Machine.tscoreTileStep
  extract_lets _ _ _ _ _ _ _
  refine .ite (.fault h) (.ite (.fault h) ?_)
  split
  · exact .ite (.fault h) (.ite (.fault h) (.progress h))
  · exact .fault h

theorem ResSound.execTscoreTile {c : CtxId} (h : s.Sound) : ResSound (execTscoreTile c s) :=
  .next (.settle (.longInstr h fun _ _ _ ha => .tscoreTileStep ha))

theorem ResSound.execTscoreContiguous {c : CtxId} (h : s.Sound) : ResSound (execTscoreContiguous c s) :=
  .next (.settle (.longInstr h fun _ _ _ ha => .tscoreContiguousStep ha))

theorem ResSound.execTscoreIndexed {c : CtxId} (h : s.Sound) : ResSound (execTscoreIndexed c s) :=
  .next (.settle (.longInstr h fun _ _ _ ha => .tscoreIndexedStep ha))

theorem Act.Sound.storeStep {c : Ctx} {l : LongOp} {d o : Nat} {data : List Byte} {final : Ctx → Ctx} (h : s.Sound) :
    (storeStep s c l d o data final).Sound := by
  unfold Machine.storeStep
  split
  · exact .faultIn h
  · extract_lets _ _
    split
    · exact .stay
    next u e1 =>
      have hu : u.Sound := OptionSound.of_eq (.claimRange h) e1
      exact .ite (.retireNext (.writeRange hu)) (.progress (.writeRange hu))

theorem Act.Sound.astStep {c : Ctx} {w : W32} (h : s.Sound) : (astStep s c w).Sound := by
  unfold Machine.astStep
  refine .ite (.fault h) ?_
  split
  · exact .fault h
  · refine .ite (.fault h) ?_
    split
    · exact .fault h
    · exact .storeStep h

theorem ResSound.execAst {c : CtxId} (h : s.Sound) : ResSound (execAst c s) :=
  .next (.settle (.longInstr h fun _ _ _ ha => .astStep ha))

theorem Act.Sound.topkSelectStep {c : Ctx} {w : W32} (h : s.Sound) : (topkSelectStep s c w).Sound := by
  unfold Machine.topkSelectStep
  extract_lets _ _ _
  refine .ite (.fault h) (.ite (.fault h) ?_)
  split
  · exact .fault h
  · split
    · exact .fault h
    · exact .progress h

theorem ResSound.execTopkSelect {c : CtxId} (h : s.Sound) : ResSound (execTopkSelect c s) :=
  .next (.settle (.longInstr h fun _ _ _ ha => .topkSelectStep ha))

theorem State.Sound.mergeEntry {c : Ctx} {t : TopK} {d off q : Nat} (h : s.Sound) : (s.mergeEntry c t d off q).1.Sound := by
  unfold State.mergeEntry
  extract_lets r _
  have hr : r.1.Sound := .readRange h
  exact .ite_fst hr (.ite_fst hr (.ite_fst hr hr))

theorem Act.Sound.topkMergeStep {c : Ctx} {w : W32} (h : s.Sound) : (topkMergeStep s c w).Sound := by
  unfold Machine.topkMergeStep
  extract_lets _ _ _ _ _ _ _ _ _ _
  refine .ite (.fault h) (.ite (.fault h) ?_)
  split
  · exact .fault h
  · refine .ite (.retireNext h) ?_
    split
    · exact .faultIn h
    · exact .progress (.foldl_fst (fun _ _ hy => .mergeEntry hy) (.draw h))

theorem ResSound.execTopkMerge {c : CtxId} (h : s.Sound) : ResSound (execTopkMerge c s) :=
  .next (.settle (.longInstr h fun _ _ _ ha => .topkMergeStep ha))

theorem Act.Sound.topkDrainStep {c : Ctx} {w : W32} (h : s.Sound) : (topkDrainStep s c w).Sound := by
  unfold Machine.topkDrainStep
  refine .ite (.fault h) ?_
  split
  · exact .fault h
  · refine .ite (.fault h) ?_
    split
    · exact .retireNext h
    · exact .storeStep h

theorem ResSound.execTopkDrain {c : CtxId} (h : s.Sound) : ResSound (execTopkDrain c s) :=
  .next (.settle (.longInstr h fun _ _ _ ha => .topkDrainStep ha))

theorem ResSound.execTopkClear {c : CtxId} (h : s.Sound) : ResSound (execTopkClear c s) :=
  .next (.instr h fun _ _ _ ha => .ite (.fault ha) (.retireNext ha))

theorem ResSound.execXmov {c : CtxId} (h : s.Sound) : ResSound (execXmov c s) := by
  unfold Machine.execXmov
  extract_lets _ _ _ _ s1
  have hs1 : s1.Sound := by
    unfold s1
    refine .instr h (fun _ _ _ ha => ?_)
    extract_lets _
    refine .ite (.fault ha) (.ite (.fault ha) (.ite (.fault ha) ?_))
    split
    · exact .fault ha
    · exact .ite (.fault ha) (.ite (.fault ha) (.retireNext (.setCtx ha)))
  exact .next (.boundary hs1)

theorem Act.Sound.syncAct {op : W64 → CounterOp} {usesRb : Bool} {c : Ctx} {w : W32} (h : s.Sound) :
    (syncAct op usesRb s c w).Sound :=
  .ite (.fault h) (.ite (.block (.counterOp h)) (.retireNext (.counterOp h)))

theorem State.Sound.countInstr {c : Instr} {key : Nat} {k : SKind} {f : State → Ctx → W32 → Act} (h : s.Sound)
    (hf : ∀ u x y, u.Sound → (f u x y).Sound) : (s.countInstr c key k f).Sound :=
  .ite (.deliver h fun _ ha => .instr ha fun _ _ _ ha1 => hf _ _ _ ha1) h

theorem ResSound.execSadd {c : CtxId} (h : s.Sound) : ResSound (execSadd c s) :=
  .next (.countInstr h fun _ _ _ ha => .syncAct ha)

theorem ResSound.execSset {c : CtxId} (h : s.Sound) : ResSound (execSset c s) :=
  .next (.countInstr h fun _ _ _ ha => .syncAct ha)

theorem ResSound.execSread {c : CtxId} (h : s.Sound) : ResSound (execSread c s) :=
  .next (.countInstr h fun _ _ _ ha => .syncAct ha)

theorem ResSound.execSwait {c : CtxId} (h : s.Sound) : ResSound (execSwait c s) :=
  .next (.countInstr h fun _ _ _ ha => .syncAct ha)

theorem ResSound.execSwaitRelease {c : CtxId} (h : s.Sound) : ResSound (execSwaitRelease c s) := by
  unfold Machine.execSwaitRelease
  extract_lets _ _
  split
  · exact .next h
  · split
    · exact .next h
    · split
      · exact .ite (.next h) (.next (.reelect (.resumed (.retireCtx (.freeWait h)))))
      · exact .next h

/-- The unit of every long instruction keeps the state sound. -/
theorem Act.Sound.of_unitStep {k : SKind} {f : State → Ctx → W32 → Act} (hk : unitStep k = some f) (u : State) (c : Ctx) (w : W32)
    (h : u.Sound) : (f u c w).Sound := by
  cases k <;> cases hk
  · exact .tldStep h
  · exact .tstStep h
  · exact .tscoreTileStep h
  · exact .tscoreContiguousStep h
  · exact .tscoreIndexedStep h
  · exact .astStep h
  · exact .topkSelectStep h
  · exact .topkMergeStep h
  · exact .topkDrainStep h

theorem ResSound.execSieveUnitDone {c : CtxId} (h : s.Sound) : ResSound (execSieveUnitDone c s) := by
  unfold Machine.execSieveUnitDone
  extract_lets x
  split
  · exact .next h
  · split
    · exact .next h
    next f e => exact .next (.settle (.instr h (Act.Sound.of_unitStep e)))

theorem ResSound.execTtimerExpiry {c : CtxId} (h : s.Sound) : ResSound (execTtimerExpiry c s) :=
  .ite (.next (.boundary (.setCtx h))) (.next h)

theorem ResSound.execOverrunKillTimer {c : CtxId} (h : s.Sound) : ResSound (execOverrunKillTimer c s) :=
  .ite (.next (.reelect (.endStart h))) (.next h)

theorem ResSound.execSieveNop {q : BitVec 16} {index : BitVec 32} (h : s.Sound) : ResSound (execSieveNop q index s) := by
  unfold Machine.execSieveNop
  split
  · exact .next h
  · exact .next (.endRun h)

theorem ResSound.execPload {q : BitVec 16} {index : BitVec 32} (h : s.Sound) : ResSound (execPload q index s) := by
  unfold Machine.execPload
  split
  · exact .next h
  · exact .ite (.next (.resumePoint h)) (.next (.settle (.endRun (.setCtx (.readRange h)))))

theorem ResSound.execStart {q : BitVec 16} {index : BitVec 32} (h : s.Sound) : ResSound (execStart q index s) := by
  unfold Machine.execStart
  split
  · exact .next h
  · exact .ite (.next h) (.ite (.next (.resumePoint h)) (.next (.reelect (.updRun (.setCtx h)))))

theorem ResSound.execResetctx {q : BitVec 16} {index : BitVec 32} (h : s.Sound) : ResSound (execResetctx q index s) := by
  unfold Machine.execResetctx
  split
  · exact .next h
  · exact .ite (.next (.resumePoint h)) (.next (.endRun (.setCtx (.freeCtxWaits h))))

/-! ### Holds and snapshots (chapter 16) -/

theorem State.Sound.updFrozen {q : Nat} {i : W32} {f : Frozen → Frozen} (h : s.Sound) :
    (s.updFrozen q i f).Sound := .upd rfl rfl h

theorem State.Sound.listStop {q : Nat} {i : W32} {kind id : Nat} {index : W32} (h : s.Sound) :
    (s.listStop q i kind id index).Sound :=
  .updFrozen h

theorem State.Sound.askRuns {q : Nat} {i : W32} {x : HoldSet} (h : s.Sound) : (s.askRuns q i x).Sound :=
  .foldl (fun _ _ hu => .setQueue hu) h

theorem State.Sound.stopCtx {key : Nat} {st : Status} (h : s.Sound) : (s.stopCtx key st).Sound := .boundary (.setCtx h)
theorem State.Sound.pauseCtx {key : Nat} (h : s.Sound) : (s.pauseCtx key).Sound := .ite h (.boundary (.setCtx h))

theorem State.Sound.freeze {q : Nat} {i : W32} {t : Nat} {x : HoldSet} (h : s.Sound) : (s.freeze q i t x).Sound := by
  unfold State.freeze
  extract_lets _ _ s1 s2 _ s3
  have hs1 : s1.Sound := .upd rfl rfl h
  have hs2 : s2.Sound := .releaseAll hs1
  have hs3 : s3.Sound := .foldl (fun _ _ hu => .stopCtx (.listStop hu)) (.askRuns hs2)
  exact .foldl (fun _ _ hu => .pauseCtx hu) hs3

theorem OptionSound.report {d off : Nat} {data : List Byte} (h : s.Sound) : OptionSound (s.report d off data) := by
  unfold State.report
  split
  · exact .some h
  · exact .map (.claimRange h) fun _ hu => .writeRange hu

theorem ResSound.holdRow {a : Instr} {q : BitVec 16} {i : W32} {op : Nat} {f : State → Nat → RunCmd → Nat → State} (h : s.Sound)
    (hf : ∀ u x y z, u.Sound → (f u x y z).Sound) : ResSound (s.holdRow a q i op f) := by
  unfold State.holdRow
  split
  · exact .next h
  · exact .ite (.next (.resumePoint h)) (.next (.deliver h fun _ ha1 => .settle (hf _ _ _ _ ha1)))

theorem ResSound.execHoldNop {q : BitVec 16} {index : BitVec 32} (h : s.Sound) : ResSound (execHoldNop q index s) :=
  .holdRow h fun _ _ _ _ ha => .endRun ha

theorem State.Sound.holdNow {q : Nat} {c : RunCmd} {t : Nat} (h : s.Sound) : (s.holdNow q c t).Sound := by
  unfold State.holdNow
  extract_lets _ _ h' r
  have hh' : h'.1.Sound := .readRange h
  have hr : r.1.Sound := .readRange hh'
  refine .ite (.endRun hr) ?_
  split
  · exact .endRun hr
  · split
    · exact .endRun hr
    · exact .ite (.endRun hr) (.freeze (.updRun hr))

theorem ResSound.execHold {q : BitVec 16} {index : BitVec 32} (h : s.Sound) : ResSound (execHold q index s) :=
  .holdRow h fun _ _ _ _ ha => .holdNow ha

theorem State.Sound.stopRun {f : Frozen} {e : Nat × RunCmd} (h : s.Sound) : (s.stopRun f e).Sound :=
  .ite (.complete h) (.complete (.endRun (.listStop h)))

theorem State.Sound.killCtx {f : Frozen} {key : Nat} (h : s.Sound) : (s.killCtx f key).Sound :=
  .reelect (.endStart (.listStop h))

theorem State.Sound.abandon {f : Frozen} {o : OutReq} (h : s.Sound) : (s.abandon f o).Sound := by
  unfold State.abandon
  split
  · exact .updFrozen (.updRun (.upd rfl rfl h))
  · exact h

theorem ResSound.execHoldQuiesceExpiry {q : BitVec 16} {index : BitVec 32} (h : s.Sound) :
    ResSound (execHoldQuiesceExpiry q index s) := by
  unfold Machine.execHoldQuiesceExpiry
  split
  · exact .next h
  · refine .next (.deliver h (fun _ ha => ?_))
    extract_lets s1 s2 s3
    have hs1 : s1.Sound := .foldl (fun _ _ hu => .abandon hu) ha
    have hs2 : s2.Sound := .foldl (fun _ _ hu => .killCtx hu) hs1
    have hs3 : s3.Sound := .foldl (fun _ _ hu => .reelect (.endStart hu)) hs2
    exact .settle (.foldl (fun _ _ hu => .stopRun hu) hs3)

theorem ResSound.execHoldCapture {q : BitVec 16} {index : BitVec 32} (h : s.Sound) : ResSound (execHoldCapture q index s) := by
  unfold Machine.execHoldCapture
  split
  · refine .ite (.next h) ?_
    extract_lets _ _
    exact .ite (.next h) (.next (.deliver h fun _ ha => .settle (.endRun (.updFrozen (.upd rfl rfl (.getD (.report ha) ha))))))
  · exact .next h

theorem ResSound.execHoldDigestDone {snapshot : BitVec 32} (h : s.Sound) : ResSound (execHoldDigestDone snapshot s) := by
  unfold Machine.execHoldDigestDone
  split
  · exact .next h
  · extract_lets _ written
    have hwritten : ∀ (u : State), u.Sound → OptionSound (written u) := fun _ hu => by
      unfold written
      split
      · exact .some hu
      · exact .report hu
    exact .ite (.next h) (.next (.deliver h fun _ ha => .settle (.note (.upd rfl rfl (.getD (hwritten _ ha) ha)))))

theorem State.Sound.thaw {f : Frozen} (h : s.Sound) : (s.thaw f).Sound := by
  unfold State.thaw
  extract_lets _ _ s1 s2 s3
  have hs1 : s1.Sound := .upd rfl rfl h
  have hs2 : s2.Sound := .foldl (fun _ _ hu => .setQueue hu) hs1
  have hs3 : s3.Sound := .foldl (fun _ _ hu => .setCtx hu) hs2
  exact .retry (.thawAdds (.foldl (fun _ _ hu => .reelect hu) hs3))

/-- Restoring a drawer's image writes its bytes one by one. -/
theorem State.Sound.restoreDrawer {id : Nat} {im : DrawerImage} (h : s.Sound) : (s.restoreDrawer id im).Sound := by
  unfold State.restoreDrawer
  extract_lets d _ _ _ size _ _ _ _ _ _ s1 _ s2
  have hs1 : s1.Sound := .upd rfl rfl (.zeroDrawer h)
  have hs2 : s2.Sound := hs1.upd_mem (foldl_holds (Memory.wf · = true) _ (fun m e hm => FMap.wf_set _ _ hm) _ _ hs1.1)
  exact .foldl (fun _ _ hu => .foldl (fun _ _ hv => .updStk hv) hu) hs2

theorem State.Sound.rewait {x : Snapshot} (h : s.Sound) : (s.rewait x).1.Sound := .upd rfl rfl h

theorem State.Sound.restore {x : Snapshot} (h : s.Sound) : (s.restore x).Sound := by
  unfold State.restore
  extract_lets s1 _ _ _ s2 w' s3 s4
  have hs1 : s1.Sound := .foldl (fun _ _ hu => .restoreDrawer hu) h
  have hs2 : s2.Sound := .upd rfl rfl hs1
  have hw' : w'.1.Sound := .rewait hs2
  have hs3 : s3.Sound := .foldl (fun _ _ hu => .setQueue hu) hw'
  have hs4 : s4.Sound := .foldl (fun _ _ hu => .setStream hu) hs3
  exact .foldl (fun _ _ hu => .setCtx hu) hs4

theorem State.Sound.resumeNow {q : Nat} {c : RunCmd} {t : Nat} (h : s.Sound) : (s.resumeNow q c t).Sound := by
  unfold State.resumeNow
  split
  · exact .endRun h
  · split
    · exact .endRun h
    · exact .endRun h
    · exact .endRun (.ite (.retry (.dropSnapshot (.thaw (.restore h)))) (.thaw (.restore h)))

theorem ResSound.execResume {q : BitVec 16} {index : BitVec 32} (h : s.Sound) : ResSound (execResume q index s) :=
  .holdRow h fun _ _ _ _ ha => .resumeNow ha

theorem State.Sound.dropNow {q : Nat} {c : RunCmd} {t : Nat} (h : s.Sound) : (s.dropNow q c t).Sound := by
  unfold State.dropNow
  split
  · exact .endRun h
  · exact .ite (.endRun h) (.endRun (.retry (.dropSnapshot h)))

theorem ResSound.execDrop {q : BitVec 16} {index : BitVec 32} (h : s.Sound) : ResSound (execDrop q index s) :=
  .holdRow h fun _ _ _ _ ha => .dropNow ha

/-! ### Parcels (chapter 16) -/

theorem State.Sound.parcel {x : Snapshot} {flags : Nat} {cert : List Byte} (h : s.Sound) : (s.parcel x flags cert).1.Sound :=
  .draw (.draw h)

theorem State.Sound.exportNow {q : Nat} {c : RunCmd} {t : Nat} (h : s.Sound) : (s.exportNow q c t).Sound := by
  unfold State.exportNow
  extract_lets _ _ chain s1 _
  have hchain : chain.1.Sound := .ite_fst (.readRange h) h
  have hs1 : s1.Sound := hchain
  split
  · exact .endRun h
  · refine .ite (.endRun hs1) ?_
    split
    · exact .endRun hs1
    · extract_lets p _ _
      have hp : p.1.Sound := .parcel hs1
      refine .ite (.endRun hp) ?_
      split
      · exact h
      next u e2 =>
        have hu : u.Sound := OptionSound.of_eq (.claimRange hp) e2
        exact .endRun (.writeRange hu)

theorem ResSound.execExportParcel {q : BitVec 16} {index : BitVec 32} {found : List Damage} (h : s.Sound) :
    ResSound (execExportParcel q index found s) :=
  .holdRow h fun _ _ _ _ ha => .exportNow (.withFound ha)

theorem State.Sound.commitImport {f : Frozen} {y : Snapshot} {q : Nat} {digest : List Byte} (h : s.Sound) :
    (s.commitImport f y q digest).1.Sound :=
  .upd rfl rfl (.foldl (fun _ _ hu => .advanceGen hu) h)

theorem State.Sound.importNow {q : Nat} {c : RunCmd} {t : Nat} (h : s.Sound) : (s.importNow q c t).Sound := by
  unfold State.importNow
  extract_lets _ _ r _ stop
  have hr : r.1.Sound := .readRange h
  have hstop : ∀ (st : Status), (stop st).Sound := fun _ => .endRun hr
  refine .ite (.endRun h) (.ite (hstop _) (.ite (hstop _) (.ite (hstop _) ?_)))
  split
  · exact hstop _
  · split
    · exact hstop _
    · exact .endRun (.retry (.commitImport hr))

theorem ResSound.execImportParcel {q : BitVec 16} {index : BitVec 32} {found : List Damage} (h : s.Sound) :
    ResSound (execImportParcel q index found s) :=
  .holdRow h fun _ _ _ _ ha => .importNow (.withFound ha)

theorem State.Sound.receiveNow {q : Nat} {c : RunCmd} {t : Nat} (h : s.Sound) : (s.receiveNow q c t).Sound :=
  .ite (.endRun h) (.ite (.endRun h) (.upd rfl rfl (.updRun h)))

theorem ResSound.execReceive {q : BitVec 16} {index : BitVec 32} (h : s.Sound) : ResSound (execReceive q index s) :=
  .holdRow h fun _ _ _ _ ha => .receiveNow ha

theorem State.Sound.updReceive {x : Receive} {f : Receive → Receive} (h : s.Sound) : (s.updReceive x f).Sound := .upd rfl rfl h

theorem State.Sound.endReceive {x : Receive} {st : Status} {result : W64} (h : s.Sound) : (s.endReceive x st result).Sound :=
  .endRun (.upd rfl rfl h)

theorem ResSound.execReceiveIdleTimeout {q : BitVec 16} {index : BitVec 32} (h : s.Sound) :
    ResSound (execReceiveIdleTimeout q index s) := by
  unfold Machine.execReceiveIdleTimeout
  split
  · exact .next h
  · exact .next (.deliver h fun _ ha => .settle (.endReceive ha))

theorem State.Sound.serveXferAttest {r : Req} (h : s.Sound) : (s.serveXferAttest r).1.Sound := .upd rfl rfl h

theorem State.Sound.serveXferOffer {r : Req} (h : s.Sound) : (s.serveXferOffer r).1.Sound := by
  unfold State.serveXferOffer
  refine .ite_fst h ?_
  split
  · exact h
  · exact .ite_fst (.endReceive h) (.ite_fst (.endReceive h) (.updReceive h))

theorem State.Sound.serveXferChunk {r : Req} (h : s.Sound) : (s.serveXferChunk r).1.Sound := by
  unfold State.serveXferChunk
  split
  · exact h
  · split
    · exact h
    · exact .ite_fst (.endReceive h) (.updReceive h)

theorem State.Sound.serveXferCommit {r : Req} (h : s.Sound) : (s.serveXferCommit r).1.Sound := by
  unfold State.serveXferCommit
  refine .ite_fst h ?_
  split
  · exact h
  · extract_lets fail
    have hfail : ∀ (st : Status), (fail st).1.Sound := fun _ => .endReceive h
    split
    · exact h
    · split
      · exact hfail _
      · split
        · exact hfail _
        · split
          · exact hfail _
          · exact .retry (.endReceive (.commitImport h))

theorem State.Sound.serveXferAbort {r : Req} (h : s.Sound) : (s.serveXferAbort r).1.Sound := by
  unfold State.serveXferAbort
  split
  · exact h
  · exact .endReceive h

theorem ResSound.execXferAttest {r : Req} (h : s.Sound) : ResSound (execXferAttest r s) :=
  .next (.request h fun _ _ ha => .serveXferAttest ha)

theorem ResSound.execXferOffer {r : Req} (h : s.Sound) : ResSound (execXferOffer r s) :=
  .next (.request h fun _ _ ha => .serveXferOffer ha)

theorem ResSound.execXferChunk {r : Req} (h : s.Sound) : ResSound (execXferChunk r s) :=
  .next (.request h fun _ _ ha => .serveXferChunk ha)

theorem ResSound.execXferCommit {r : Req} {rendezvous : BitVec 64} (h : s.Sound) : ResSound (execXferCommit r rendezvous s) :=
  .ite (.next h) (.next (.request h fun _ _ ha => .serveXferCommit ha))

theorem ResSound.execXferAbort {r : Req} (h : s.Sound) : ResSound (execXferAbort r s) :=
  .next (.request h fun _ _ ha => .serveXferAbort ha)

theorem State.Sound.transferNow {q : Nat} {c : RunCmd} {t : Nat} (h : s.Sound) : (s.transferNow q c t).Sound := by
  unfold State.transferNow
  extract_lets _ _ s1 _
  have hs1 : s1.Sound := .updRun (.draw h)
  split
  · exact .endRun h
  · exact .ite (.endRun h) (.issue (.upd rfl rfl hs1))

theorem ResSound.execTransfer {q : BitVec 16} {index : BitVec 32} (h : s.Sound) : ResSound (execTransfer q index s) :=
  .holdRow h fun _ _ _ _ ha => .transferNow ha

theorem State.Sound.updTransfer {q : Nat} {i : W32} {f : Transfer → Transfer} (h : s.Sound) : (s.updTransfer q i f).Sound :=
  .upd rfl rfl h

theorem State.Sound.nextChunk {t : Transfer} {o : OutReq} (h : s.Sound) : (s.nextChunk t o).Sound :=
  .ite (.issue (.updTransfer h)) (.issue h)

theorem State.Sound.transferAnswered {o : OutReq} {t : Transfer} {r : RespFields} (h : s.Sound) :
    (s.transferAnswered o t r).Sound := by
  unfold State.transferAnswered
  extract_lets snap fin
  have hfin : ∀ (st : Status), (fin st).Sound := fun _ => .retry (.endTransfer h)
  refine .ite (hfin _) ?_
  split
  · clear_value snap
    split
    · exact hfin _
    · exact .ite (hfin _) (.issue (.updTransfer (.parcel h)))
  · exact .ite (hfin _) (.nextChunk h)
  · exact .nextChunk h
  · exact hfin _

theorem State.Sound.answered {o : OutReq} {r : RespFields} (h : s.Sound) : (s.answered o r).Sound := by
  unfold State.answered
  split
  · extract_lets _ s1
    have hs1 : s1.Sound := .upd rfl rfl h
    split
    · exact hs1
    · exact .transferAnswered hs1
  · extract_lets _ s1
    have hs1 : s1.Sound := .upd rfl rfl h
    refine .ite hs1 ?_
    split
    · exact hs1
    · exact .transportError hs1
  · exact .outDone h

theorem State.Sound.takeResp {p : Nat} {m : RxMsg} (h : s.Sound) : (s.takeResp p m).Sound := by
  unfold State.takeResp
  extract_lets s1
  have hs1 : s1.Sound := .updPort h
  split
  · exact .settle (.afterFlit (.assignAll (.answered hs1)))
  · exact .transportError hs1

theorem ResSound.execResponseReceived {p : Fin 32} {bytes : List Byte} (h : s.Sound) :
    ResSound (execResponseReceived p bytes s) := by
  unfold Machine.execResponseReceived
  split
  · exact .next h
  · exact .ite (.next (.deliver h fun _ ha => .takeResp ha)) (.next h)

/-! ### Joinery images (chapter 5) -/

theorem State.Sound.postReport {who : Submitter} {e : Ev} {code : Nat} {delta : Bool} {seq c : Nat} {rep : List Byte}
    (h : s.Sound) : (s.postReport who e code delta seq c rep).Sound := by
  unfold State.postReport
  extract_lets _ s1
  have hs1 : s1.Sound := .raise (.upd rfl rfl h)
  split
  · exact hs1
  · exact .answer hs1

theorem State.Sound.postReject {who : Submitter} {im : List Byte} {r : Reject} (h : s.Sound) : (s.postReject who im r).Sound :=
  .postReport h

theorem State.Sound.postApplied {who : Submitter} {j : Joinery} (h : s.Sound) : (s.postApplied who j).Sound := .postReport h
theorem State.Sound.joineryIdle (h : s.Sound) : s.joineryIdle.Sound := .busyFell (.upd rfl rfl h)

theorem State.Sound.takeImage {im : List Byte} {who : Submitter} (h : s.Sound) : (s.takeImage im who).Sound :=
  .ite (.setNode (.upd rfl rfl h)) (.upd rfl rfl h)

theorem State.Sound.jnySubmit {w : HostWrite} (h : s.Sound) : (s.jnySubmit w).Sound :=
  .submit h (fun _ ha => .upd rfl rfl ha) fun _ ha => .takeImage (.upd rfl rfl ha)

theorem ResSound.execJnyCtrl {w : HostWrite} (h : s.Sound) : ResSound (execJnyCtrl w s) :=
  .next (.hostGate h fun _ ha => .jnySubmit ha)

theorem ResSound.execJoineryLoad {m : BureauMsg} {image : List Byte} (h : s.Sound) : ResSound (execJoineryLoad m image s) :=
  .next (.bureauRequest h fun _ ha => .ite (.postReject ha) (.takeImage ha))

theorem State.Sound.beginFull {j : Joinery} (h : s.Sound) : (s.beginFull j).Sound := by
  unfold State.beginFull
  extract_lets _ _ s1 s2 s3
  have hs1 : s1.Sound := .setNode (.upd rfl rfl h)
  have hs2 : s2.Sound := .foldl (fun _ _ hu => .ite (.quiesce hu) hu) hs1
  have hs3 : s3.Sound := .stopRuns hs2
  exact .foldl (fun _ _ hu => .ite hu (.stopCtx hu)) hs3

theorem State.Sound.acceptImage {im : List Byte} {j : Joinery} {plan : List Extent} {who : Submitter} (h : s.Sound) :
    (s.acceptImage im j plan who).Sound :=
  .ite (.beginFull (.upd rfl rfl h)) (.upd rfl rfl h)

theorem ResSound.execImageCheckDone {plan : List Extent} (h : s.Sound) : ResSound (execImageCheckDone plan s) := by
  unfold Machine.execImageCheckDone
  split
  · refine .ite (.next h) ?_
    split
    · exact .next (.deliver h fun _ ha => .settle (.joineryIdle (.postReject (.ite (.setNode ha) ha))))
    · exact .ite (.next h) (.next (.deliver h fun _ ha => .settle (.acceptImage ha)))
  · exact .next h

theorem State.Sound.endQueue {q : Nat} {r : QueueRange} (h : s.Sound) : (s.endQueue q r).Sound :=
  .foldl (fun _ _ hu => .completeIn hu) h

theorem State.Sound.endContexts (h : s.Sound) : s.endContexts.Sound :=
  .foldl (fun _ _ hu => .ite hu (.ite (.endStart hu) (.freeCtxWaits hu))) h

theorem State.Sound.endHolds (h : s.Sound) : s.endHolds.Sound := .foldl (fun _ _ hu => .thaw hu) (.upd rfl rfl h)

theorem State.Sound.endWork (h : s.Sound) : s.endWork.Sound := by
  unfold State.endWork
  extract_lets s1 s2 s3 _
  have hs1 : s1.Sound := .endContexts (.endHolds h)
  have hs2 : s2.Sound := by
    unfold s2
    refine .foldl (fun _ _ hu => ?_) hs1
    split
    · exact hu
    · exact .ite hu (.endQueue hu)
  have hs3 : s3.Sound := .releaseAll hs2
  exact .upd rfl rfl hs3

theorem State.Sound.dropSharers {d b : Nat} (h : s.Sound) : (s.dropSharers d b).Sound :=
  .foldl (fun _ _ hu => .noteOnce (.dropSnapshot hu)) h

theorem State.Sound.claimAnyway {d off n : Nat} (h : s.Sound) : (s.claimAnyway d off n).Sound :=
  .ite h (.foldl (fun _ _ hu => .getD (.unshare hu) (.dropSharers hu)) h)

theorem State.Sound.finishOne {x : Parked} (h : s.Sound) : (s.finishOne x).Sound := by
  unfold State.finishOne
  split
  · refine .ite (.retryOne h) ?_
    split
    next u _ e =>
      have hu : u.Sound := State.Sound.of_eq (.serveOf (.claimAnyway h)) e
      exact .ite (.afterFlit (.respond hu)) hu
    next u e =>
      have hu : u.Sound := State.Sound.of_eq (.serveOf (.claimAnyway h)) e
      exact .repark hu
  · split
    · exact .repark h
    next u _ e =>
      have hu : u.Sound := PairSound.of_eq (.hostStore (.claimAnyway h)) e
      exact hu
  · exact .retryOne h

theorem State.Sound.finishParked (h : s.Sound) : s.finishParked.Sound := .foldl (fun _ _ hu => .finishOne hu) (.upd rfl rfl h)

theorem State.Sound.finishFabric {n : Nat} (h : s.Sound) : (State.finishFabric n s).Sound := by
  induction n generalizing s with
  | zero => exact h
  | succ n ih =>
    unfold State.finishFabric
    extract_lets u
    have hu : u.Sound := .finishParked h
    exact .ite hu (ih (.foldl (fun _ _ hv => .ite hv (.outDone hv)) hu))

theorem State.Sound.downForApply {j : Joinery} {p : Nat} (h : s.Sound) : (s.downForApply j p).Sound := by
  unfold State.downForApply
  extract_lets _ _ _ s1
  have hs1 : s1.Sound := .ite (.launchNow h) h
  exact .ite (.ite (.forcedDown hs1) (.plannedDown hs1)) (.sendPlanned h)

theorem State.Sound.endFabric {j : Joinery} (h : s.Sound) : (s.endFabric j).Sound :=
  .upd rfl rfl (.foldl (fun _ _ hu => .downForApply hu) h)

theorem State.Sound.trimDrawer {d size old : Nat} (h : s.Sound) : (s.trimDrawer d size old).Sound := by
  unfold State.trimDrawer
  extract_lets s1 v s2
  have hs1 : s1.Sound := by
    refine .foldl (fun u i hu => ?_) h
    split
    next v e => exact OptionSound.of_eq (.unshare hu) e
    · exact .dropSharers hu
  exact .setDrw (hs1.upd_mem (Memory.wf_keep _ hs1.1))

theorem State.Sound.createDrawer {n : DrawerRec} (h : s.Sound) : (s.createDrawer n).1.Sound := .setDrw (.upd rfl rfl h)

theorem State.Sound.changeDrawer {o n : DrawerRec} (h : s.Sound) : (s.changeDrawer o n).1.Sound := by
  unfold State.changeDrawer
  extract_lets a s1 _ _ s2 _ s3
  have ha : a.1.Sound := .ite_fst (.advanceGen h) h
  have hs1 : s1.Sound := ha
  have hs2 : s2.Sound := .ite (.trimDrawer hs1) (.ite (.setDrw hs1) hs1)
  have hs3 : s3.Sound := .ite (.degrade hs2) (.ite (.setDrw hs2) hs2)
  exact hs3

theorem State.Sound.deleteDrawer {d : Nat} (h : s.Sound) : (s.deleteDrawer d).Sound := by
  unfold State.deleteDrawer
  extract_lets s1
  have hs1 : s1.Sound := .foldl (fun _ _ hu => .dropSnapshot hu) h
  exact hs1.upd_mem (Memory.wf_keep _ hs1.1)

theorem State.Sound.unloadImages {j : Joinery} (h : s.Sound) : (s.unloadImages j).Sound := .upd rfl rfl h

theorem State.Sound.applyDrawers {j : Joinery} {plan : List Extent} (h : s.Sound) : (s.applyDrawers j plan).Sound := by
  unfold State.applyDrawers
  extract_lets _ _ s1 _ r s2 _ s3 _ _ s4
  have hs1 : s1.Sound := .unloadImages h
  have hr : r.1.Sound := by
    unfold r
    refine .foldl_fst (fun _ _ hy => ?_) hs1
    extract_lets x
    have hx : x.1.Sound := by
      unfold x
      split
      · exact .createDrawer hy
      · exact .changeDrawer hy
    exact hx
  have hs2 : s2.Sound := .foldl (fun _ _ hu => .deleteDrawer hu) hr
  have hs3 : s3.Sound := .abandonMoves hs2
  have hs4 : s4.Sound := .upd rfl rfl hs3
  exact .foldl (fun _ _ hu => .updStk hu) hs4

theorem State.Sound.applyCounters {j : Joinery} (h : s.Sound) : (s.applyCounters j).Sound := .releaseAll
    (.upd rfl rfl (.setWaits h))

theorem State.Sound.giveContexts {order : List Nat} {t count : Nat} (h : s.Sound) : (s.giveContexts order t count).Sound := by
  unfold State.giveContexts
  extract_lets _
  exact .ite (.foldl (fun _ _ hu => .setCtx hu) h) (.foldl (fun _ _ hu => .reelect
    (.setCtx (.ite (.endStart hu) (.freeCtxWaits hu)))) h)

theorem State.Sound.applyContexts {j : Joinery} (h : s.Sound) : (s.applyContexts j).Sound :=
  .foldl (fun _ _ hu => .giveContexts hu) (.foldl (fun _ _ hu => .giveContexts hu) h)

theorem State.Sound.applyVolts {j : Joinery} (h : s.Sound) : (s.applyVolts j).Sound := .foldl (fun _ _ hu => .setDom hu) h
theorem State.Sound.applyPorts {j : Joinery} (h : s.Sound) : (s.applyPorts j).Sound := .foldl (fun _ _ hu => .updPort hu) h

theorem State.Sound.install {j : Joinery} {plan : List Extent} (h : s.Sound) : (s.install j plan).Sound :=
  .applyVolts (.upd rfl rfl (.applyCounters (.applyDrawers h)))

theorem State.Sound.fullPoint {j : Joinery} {plan : List Extent} {who : Submitter} (h : s.Sound) :
    (s.fullPoint j plan who).Sound := by
  unfold State.fullPoint
  extract_lets _ s1 _ s2 s3 s4 _
  have hs1 : s1.Sound := .ite h (.endFabric (.endWork (.finishFabric h)))
  have hs2 : s2.Sound := .install (.upd rfl rfl hs1)
  have hs3 : s3.Sound := .applyPorts (.applyContexts hs2)
  have hs4 : s4.Sound := .ite (.upd rfl rfl hs3) hs3
  exact .settle (.thawAdds (.upd rfl rfl hs4))

theorem State.Sound.resetQueue {j : Joinery} {q : Nat} (h : s.Sound) : (s.resetQueue j q).Sound := by
  unfold State.resetQueue
  split
  · exact h
  · extract_lets _ s1 _ _ s2 w _ _
    have hs1 : s1.Sound := by
      unfold s1
      refine .foldl (fun _ _ hu1 => ?_) h
      split
      · exact .ite (.reelect (.endStart hu1)) hu1
      · exact hu1
    have hs2 : s2.Sound := .ite (.endQueue hs1) hs1
    have hw : w.Sound := .setQueue hs2
    exact .upd rfl rfl hw

theorem State.Sound.cutBindings {j : Joinery} (h : s.Sound) : (s.cutBindings j).Sound := .upd rfl rfl h
theorem State.Sound.keepShares {j : Joinery} (h : s.Sound) : (s.keepShares j).Sound := .ite h (.upd rfl rfl h)

theorem State.Sound.deltaPoint {s0 : State} {j : Joinery} {plan : List Extent} {who : Submitter} (h : s0.Sound) :
    (s0.deltaPoint j plan who).Sound := by
  unfold State.deltaPoint
  extract_lets s _ s1 _ s2 s3 s4
  have hs : s.Sound := .keepShares (.finishParked h)
  have hs1 : s1.Sound := .foldl (fun _ _ hu => .ite (.resetQueue hu) hu) hs
  have hs2 : s2.Sound := .cutBindings (.upd rfl rfl hs1)
  have hs3 : s3.Sound := .applyPorts (.applyContexts (.install hs2))
  have hs4 : s4.Sound := .foldl (fun _ _ hu => .quiesce hu) hs3
  exact .settle (.joineryIdle (.postApplied (.thawAdds hs4)))

theorem ResSound.execApplyPoint (h : s.Sound) : ResSound (execApplyPoint s) := by
  unfold Machine.execApplyPoint
  split
  · exact .ite (.next h) (.ite (.next (.deliver h fun _ ha => .fullPoint ha))
      (.ite (.next h) (.next (.deliver h fun _ ha => .deltaPoint ha))))
  · exact .next h

theorem ResSound.execFullApplyDone (h : s.Sound) : ResSound (execFullApplyDone s) := by
  unfold Machine.execFullApplyDone
  split
  · exact .ite (.next h) (.next (.deliver h fun _ ha => .settle (.foldl (fun _ _ hu => .updPort hu)
      (.joineryIdle (.postApplied (.setNode ha))))))
  · exact .next h

theorem ResSound.execConfigRequest (h : s.Sound) : ResSound (execConfigRequest s) :=
  .ite (.next h) (.ite (.next (.complete_ h)) (.next (.complete_ h)))

/-! ### Retention (chapter 2) -/

theorem State.Sound.drain (h : s.Sound) : s.drain.Sound :=
  .foldl (fun _ _ hu => .pauseCtx hu) (.foldl (fun _ _ hu => .setQueue hu) h)

theorem State.Sound.acceptRetention {timer mask : Nat} (h : s.Sound) : (s.acceptRetention timer mask).Sound := .drain
    (.upd rfl rfl h)

theorem State.Sound.retainSubmit {w : HostWrite} (h : s.Sound) : (s.retainSubmit w).Sound :=
  .submit h (fun _ ha => .upd rfl rfl ha) fun _ ha => .acceptRetention ha

theorem ResSound.execRetainCmd {w : HostWrite} (h : s.Sound) : ResSound (execRetainCmd w s) :=
  .next (.hostGate h fun _ ha => .retainSubmit ha)

theorem ResSound.execRetention {m : BureauMsg} {timer mask : Nat} (h : s.Sound) : ResSound (execRetention m timer mask s) :=
  .next (.bureauRequest h fun _ ha => .ite (.answer ha) (.acceptRetention (.answer ha)))

theorem ResSound.execShutdown {m : BureauMsg} (h : s.Sound) : ResSound (execShutdown m s) :=
  .next (.bureauRequest h fun _ ha => .drain (.upd rfl rfl (.answer ha)))

theorem State.Sound.planLinks (h : s.Sound) : s.planLinks.Sound := .foldl (fun _ _ hu => .sendPlanned hu) h

theorem State.Sound.linksDown {s1 : State} (h : s1.Sound) : s1.linksDown.Sound :=
  .foldl (fun _ _ hu => .closeSession hu) (.upd rfl rfl h)

theorem ResSound.execRetentionEntryDone (h : s.Sound) : ResSound (execRetentionEntryDone s) := by
  unfold Machine.execRetentionEntryDone
  refine .ite (.next h) (.ite (.next (.ite (.deliver h fun _ ha => .releaseAll ha) h)) ?_)
  refine .next (.deliver h (fun _ ha => ?_))
  extract_lets u1
  have hu1 : u1.Sound := .planLinks ha
  refine .ite hu1 (.ite (.stop (.linksDown hu1)) ?_)
  split
  · exact hu1
  · exact .settle (.setNode (.upd rfl rfl (.raise (.linksDown hu1))))

theorem State.Sound.setRetention {r : Retention} (h : s.Sound) : (s.setRetention r).Sound := .upd rfl rfl h

theorem ResSound.execWakeLight {p : Fin 32} (h : s.Sound) : ResSound (execWakeLight p s) := by
  unfold Machine.execWakeLight
  split
  · exact .next h
  · exact .ite (.next (.setRetention h)) (.next h)

theorem ResSound.execAmbientCheckExpiry {p : Fin 32} {pattern unmodulated : Bool} (h : s.Sound) :
    ResSound (execAmbientCheckExpiry p pattern unmodulated s) := by
  unfold Machine.execAmbientCheckExpiry
  split
  · exact .next h
  · exact .ite (.next h) (.ite (.next (.portEvent (.setRetention h))) (.next (.setRetention h)))

theorem ResSound.execWakeTimerExpiry (h : s.Sound) : ResSound (execWakeTimerExpiry s) := by
  unfold Machine.execWakeTimerExpiry
  split
  · exact .next h
  · exact .ite (.next h) (.next (.setRetention h))

theorem ResSound.execWakeHost (h : s.Sound) : ResSound (execWakeHost s) := by
  unfold Machine.execWakeHost
  split
  · exact .next h
  · exact .ite (.next (.upd rfl rfl (.setRetention h))) (.next h)

theorem State.Sound.unpause (h : s.Sound) : s.unpause.Sound := by
  unfold State.unpause
  extract_lets s1 _ s2
  have hs1 : s1.Sound := .foldl (fun _ _ hu => .setQueue hu) h
  have hs2 : s2.Sound := .foldl (fun _ _ hu => .setCtx hu) hs1
  exact .foldl (fun _ _ hu => .reelect hu) hs2

theorem State.Sound.retireFailed {bad : List BenchId} (h : s.Sound) : (s.retireFailed bad).Sound :=
  .foldl (fun _ _ hu => .ite (.plannedPromotion hu) (.unthrottle (.upd rfl rfl hu))) h

theorem State.Sound.reportWarnings {r : Retention} (h : s.Sound) : (s.reportWarnings r).Sound :=
  .foldl (fun _ _ hu => .raise hu) h

theorem State.Sound.wakeUp {r : Retention} {w : Wake} {bad : List BenchId} (h : s.Sound) : (s.wakeUp r w bad).Sound := by
  unfold State.wakeUp
  extract_lets _ _ _ _ s1 s2 s3 s5 s6
  have hs1 : s1.Sound := .upd rfl rfl h
  have hs2 : s2.Sound := .retireFailed (.setNode hs1)
  have hs3 : s3.Sound := .raise hs2
  have hs5 : s5.Sound := .unpause (.settle (.reportWarnings hs3))
  have hs6 : s6.Sound := .foldl (fun _ _ hu => .updPort hu) hs5
  exact .upd rfl rfl hs6

theorem ResSound.execRetentionExitDone {checks : ExitChecks} {failed : List TestUnit} (h : s.Sound) :
    ResSound (execRetentionExitDone checks failed s) := by
  unfold Machine.execRetentionExitDone
  split
  · exact .next h
  · split
    · exact .next h
    · refine .ite (.next h) ?_
      extract_lets _ fail s1
      have hfail : ∀ (u : State), u.Sound → (fail u).Sound := fun _ hu => .upd rfl rfl hu
      have hs1 : s1.Sound := .foldl (fun _ _ hu => .startUpFailure hu) h
      refine .ite (.next (hfail _ (.failStartUp (.reportWarnings h)))) ?_
      split
      · extract_lets s2
        have hs2 : s2.Sound := by
          unfold s2
          split
          · exact hs1
          · exact .raise hs1
        exact .next (hfail _ (.enterFailed (.reportWarnings hs2)))
      · exact .ite (.next (hfail _ (.failStartUp (.reportWarnings hs1)))) (.next (.wakeUp hs1))

/-! ### Seal, tokens and debug (chapter 17) -/

theorem ResSound.execReportSigned {signature : List Byte} (h : s.Sound) : ResSound (execReportSigned signature s) := by
  unfold Machine.execReportSigned
  split
  · exact .next h
  · refine .ite (.next h) (.next (.deliver h (fun _ ha => ?_)))
    extract_lets _ s1 _ _ _
    have hs1 : s1.Sound := .upd rfl rfl ha
    split
    · exact .busyFell (.upd rfl rfl hs1)
    · exact .answer hs1
    · exact .ite (.afterFlit (.respond (.upd rfl rfl hs1))) (.upd rfl rfl hs1)

theorem State.Sound.thawUnrestored {f : Frozen} (h : s.Sound) : (s.thawUnrestored f).Sound := by
  unfold State.thawUnrestored
  extract_lets _ s1 s2 _ s3
  have hs1 : s1.Sound := .foldl (fun _ _ hu => .dropSnapshot hu) h
  have hs2 : s2.Sound := .foldl (fun _ _ hu => .ite (.endStart hu) hu) hs1
  have hs3 : s3.Sound := .foldl (fun _ _ hu => .setQueue hu) hs2
  exact .thaw hs3

/-- A change of the debug state keeps a state sound where it sets the flag, or the flag is set already (R137, R618). -/
theorem State.Sound.changeDebug {d : DebugState} {e : Ev} (h : s.Sound)
    (hd : d ≠ .locked → (s.power.dbgFlag || (d == DebugState.unlocked)) = true) : (s.changeDebug d e).Sound := by
  unfold State.changeDebug
  extract_lets _ s0 _ _ s1
  have hs0 : s0.Sound := .finishParked h
  have hs1 : s1.Sound := ⟨hs0.1, hd⟩
  exact .settle (.raise (.foldl (fun _ _ hu => .thawUnrestored hu) (.foldl (fun _ _ hu => .advanceGen hu) hs1)))

theorem State.Sound.unlock (h : s.Sound) : s.unlock.1.Sound := by
  have hc : (s.changeDebug .unlocked .debugUnlocked).Sound := .changeDebug h fun _ => Bool.or_true _
  unfold State.unlock
  split
  · exact h
  · dsimp only
    exact hc

theorem State.Sound.releaseHalts (h : s.Sound) : s.releaseHalts.Sound := .foldl (fun _ _ hu => .reelect hu) (.upd rfl rfl h)

theorem State.power_releaseHalts (s : State) : s.releaseHalts.power = s.power := by
  unfold State.releaseHalts
  exact foldl_keeps (·.power) _ (fun u k => (u.keepsNode_reelect k).1) _ _

/-- RELOCK finds debug unlocked, and so the flag set. -/
theorem State.Sound.relock (h : s.Sound) (hf : s.power.dbgFlag = true) : s.relock.1.Sound := by
  have hu : s.releaseHalts.power.dbgFlag = true := by rw [State.power_releaseHalts, hf]
  have hc : (s.releaseHalts.changeDebug .unlockedSincePower .debugRelocked).Sound :=
    .changeDebug (.releaseHalts h) fun _ => by rw [hu, Bool.true_or]
  unfold State.relock
  split
  · exact h
  · dsimp only
    exact hc

theorem State.Sound.rejectToken (h : s.Sound) : s.rejectToken.1.Sound := .raise h

theorem State.Sound.takeToken {bytes : List Byte} (h : s.Sound) : (s.takeToken bytes).1.Sound := by
  unfold State.takeToken
  split
  · exact .rejectToken h
  · exact .ite_fst (.rejectToken h) (.ite_fst (.unlock h) (.raise (.upd rfl rfl h)))

theorem ResSound.execToken {m : BureauMsg} {bytes : List Byte} (h : s.Sound) : ResSound (execToken m bytes s) :=
  .next (.bureauRequest h fun _ ha => .answer (.takeToken ha))

theorem ResSound.execReadmit {m : BureauMsg} {b : BenchId} (h : s.Sound) : ResSound (execReadmit m b s) :=
  .next (.bureauRequest h fun _ ha => .ite (.answer ha) (.ite (.answer ha) (.ite (.answer ha) (.settle (.upd rfl rfl ha)))))

/-! ### Registers and windows of the host port (chapter 19) -/

theorem State.Sound.clearRc {off : Nat} (h : s.Sound) : (s.clearRc off).Sound := .ite (.upd rfl rfl h) (.ite (.upd rfl rfl h) h)

theorem State.Sound.read4 {via : Interface} {off : Nat} (h : s.Sound) : (s.read4 via off).1.Sound := by
  unfold State.read4
  extract_lets _ _ _
  refine .ite_fst (.upd rfl rfl h) ?_
  split
  · exact .upd rfl rfl h
  · exact .ite (.clearRc h) h

theorem State.Sound.giveRead {via : Interface} {off : Nat} {b : List Byte} (h : s.Sound) : (s.giveRead via off b).Sound := by
  unfold State.giveRead
  split
  · exact .complete_ h
  · exact .emit h

theorem State.Sound.readServed {via : Interface} {off size : Nat} (h : s.Sound) : (s.readServed via off size).Sound := by
  unfold State.readServed
  extract_lets give r
  have hgive : ∀ (u : State) (b : List Byte), u.Sound → (give u b).Sound := fun _ _ hu => .giveRead hu
  have hr : r.1.Sound := .read4 h
  exact .ite (hgive _ _ h) (.ite (hgive _ _ h) (.ite (hgive _ _ h) (.ite (hgive _ _ hr)
    (.ite (hgive _ _ (.clearRc h)) (.hostErr (hgive _ _ h))))))

theorem State.Sound.bar0Read {c : Instr} {via : Interface} {off size : Nat} (h : s.Sound) :
    (s.bar0Read c via off size).Sound := by
  unfold State.bar0Read
  refine .ite h ?_
  split
  · exact .hostGate h fun _ ha => .ite (.unsupported ha) (.readServed ha)
  · exact .ite h (.deliver h fun _ ha => .readServed ha)

theorem ResSound.execRcRead {via : Interface} {offset size : Nat} (h : s.Sound) : ResSound (execRcRead via offset size s) :=
  .next (.bar0Read h)

theorem ResSound.execRsLowRead {via : Interface} {offset : Nat} (h : s.Sound) : ResSound (execRsLowRead via offset s) :=
  .ite (.next (.bar0Read h)) (.next h)

theorem State.Sound.unmask {v : Nat} (h : s.Sound) : (s.unmask v).Sound := .ite (.msix (.upd rfl rfl (.upd rfl rfl h)))
    (.upd rfl rfl h)

theorem State.Sound.rearm {v : Nat} (h : s.Sound) : (s.rearm v).Sound := .ite (.signal (.upd rfl rfl h)) (.upd rfl rfl h)
theorem State.Sound.rearmWord {i v : Nat} (h : s.Sound) : (s.rearmWord i v).Sound := .foldl (fun _ _ hu => .rearm hu) h

theorem State.Sound.hostLock {v : Nat} (h : s.Sound) : (s.hostLock v).Sound :=
  .ite h (.ite (.upd rfl rfl (.ite (.upd rfl rfl h) h)) (.ite (.upd rfl rfl h) h))

theorem State.Sound.attSubmit {w : HostWrite} (h : s.Sound) : (s.attSubmit w).Sound :=
  .submit h (fun _ ha => .upd rfl rfl ha) fun _ ha => .ite (.hostErr (.upd rfl rfl ha)) (.upd rfl rfl ha)

theorem State.Sound.syncSubmit {w : HostWrite} (h : s.Sound) : (s.syncSubmit w).Sound := by
  unfold State.syncSubmit
  refine .submit h (fun _ ha => .upd rfl rfl ha) (fun _ ha => ?_)
  extract_lets r _ w' _
  have hr : r.1.Sound := by
    unfold r
    split
    · exact ha
    · exact .counterOp ha
  have hw' : w'.Sound := hr
  exact .settle (.busyFell (.upd rfl rfl hw'))

theorem State.Sound.windowAdd {c : Nat} {w : HostWrite} (h : s.Sound) : (s.windowAdd c w).Sound :=
  .ite h (.commandWrite h fun _ ha => .ite (.settle (.counterOp ha)) (.hostErr (.counterOp ha)))

theorem State.Sound.hostBell {q : Nat} {w : HostWrite} (h : s.Sound) : (s.hostBell q w).Sound := by
  unfold State.hostBell
  extract_lets _
  refine .ite h (.ite (.hostErr h) ?_)
  split
  · exact .hostErr h
  · exact .ite (.hostErr h) (.ite (.hostErr h) (.ite (.setQueue h) (.hostErr h)))

theorem State.Sound.setReg {off v : Nat} (h : s.Sound) : (s.setReg off v).Sound := by
  unfold State.setReg
  extract_lets _ _ _ _ _ s1 _ _ _ _ _ _
  have hs1 : s1.Sound := .upd rfl rfl h
  exact .ite (.upd rfl rfl h) (.ite (.upd rfl rfl h) (.ite (.upd rfl rfl h) (.ite (.upd rfl rfl h) (.ite (.upd rfl rfl h)
    (.ite (.upd rfl rfl h) (.ite (.upd rfl rfl h) (.ite (.upd rfl rfl h)
      (.ite (.upd rfl rfl h) (.ite (.ite (.upd rfl rfl h) (.ite (.upd rfl rfl hs1) (.unmask hs1)))
    (.ite (.ite (.updPort h) h) (.ite (.ite h (.ite (.updStk h) (.ite (.updStk h) h)))
      (.ite (.ite (.upd rfl rfl h) h) h))))))))))))

theorem OptionSound.writeCommand {off : Nat} {w : HostWrite} (h : s.Sound) : OptionSound (s.writeCommand off w) :=
  .ite (.some (.commandWrite h fun _ ha => .hostLock ha)) (.ite (.some (.jnySubmit h))
    (.ite (.some (.retireSubmit h)) (.ite (.some (.retainSubmit h)) (.ite (.some (.attSubmit h))
    (.ite (.some (.syncSubmit h)) (.ite (.some (.commandWrite h fun _ ha => .rearmWord ha))
    (.ite (.some (.sliceInject h)) (.ite (.some (.windowAdd h)) .none))))))))

theorem State.Sound.writeReg {off size : Nat} {v : W64} (h : s.Sound) : (s.writeReg off size v).Sound := by
  unfold State.writeReg
  extract_lets _ _
  refine .ite (.ite (.hostBell h) h) ?_
  split
  next v1 e =>
    have hv1 : v1.Sound := OptionSound.of_eq (.writeCommand h) e
    exact hv1
  · exact .ite (.ite (.upd rfl rfl h) h) (.setReg h)

theorem State.Sound.writeServed {off size : Nat} {v : W64} (h : s.Sound) : (s.writeServed off size v).Sound :=
  .ite h (.ite (.upd rfl rfl h) (.ite h (.ite (.writeReg h) (.hostErr h))))

theorem State.Sound.bar0Write {c : Instr} {off size : Nat} {v : W64} (h : s.Sound) : (s.bar0Write c off size v).Sound :=
  .ite h (.hostGate h fun _ ha => .ite (.unsupported ha) (.writeServed ha))

theorem ResSound.execRegisterWrite {offset size : Nat} {value : W64} (h : s.Sound) :
    ResSound (execRegisterWrite offset size value s) :=
  .next (.bar0Write h)

theorem ResSound.execHostErrcapClear {w : HostWrite} (h : s.Sound) : ResSound (execHostErrcapClear w s) := .next (.bar0Write h)
theorem ResSound.execFaultHeadWrite {w : HostWrite} (h : s.Sound) : ResSound (execFaultHeadWrite w s) := .next (.bar0Write h)
theorem ResSound.execEvtHeadWrite {w : HostWrite} (h : s.Sound) : ResSound (execEvtHeadWrite w s) := .next (.bar0Write h)

theorem ResSound.execEvtRearm {index : Fin 4} {w : HostWrite} (h : s.Sound) : ResSound (execEvtRearm index w s) :=
  .next (.bar0Write h)

theorem ResSound.execMsixUnmask {vector : Fin 256} (h : s.Sound) : ResSound (execMsixUnmask vector s) :=
  .next (.hostGate h fun _ ha => .ite (.unmask ha) ha)

theorem ResSound.execHostLockAcq {w : HostWrite} (h : s.Sound) : ResSound (execHostLockAcq w s) := .next (.bar0Write h)
theorem ResSound.execHostLockRel {w : HostWrite} (h : s.Sound) : ResSound (execHostLockRel w s) := .next (.bar0Write h)
theorem ResSound.execAttCtrl {w : HostWrite} (h : s.Sound) : ResSound (execAttCtrl w s) := .next (.bar0Write h)
theorem ResSound.execSyncCmdAdd {w : HostWrite} (h : s.Sound) : ResSound (execSyncCmdAdd w s) := .next (.bar0Write h)
theorem ResSound.execSyncCmdSet {w : HostWrite} (h : s.Sound) : ResSound (execSyncCmdSet w s) := .next (.bar0Write h)
theorem ResSound.execSyncCmdRead {w : HostWrite} (h : s.Sound) : ResSound (execSyncCmdRead w s) := .next (.bar0Write h)
theorem ResSound.execSyncCmdWait {w : HostWrite} (h : s.Sound) : ResSound (execSyncCmdWait w s) := .next (.bar0Write h)

theorem ResSound.execCounterWindowAdd {c : BitVec 18} {w : HostWrite} (h : s.Sound) : ResSound (execCounterWindowAdd c w s) :=
  .next (.bar0Write h)

theorem ResSound.execHostDoorbell {q : BitVec 16} {w : HostWrite} (h : s.Sound) : ResSound (execHostDoorbell q w s) :=
  .next (.bar0Write h)

theorem State.Sound.bar2Piece {acc : Bar2Read} {p : Nat × Nat × Nat} (h : s.Sound) : (s.bar2Piece acc p).1.Sound := by
  unfold State.bar2Piece
  extract_lets _
  split
  · exact h
  · exact .readLine h

theorem ResSound.execBar2Read {offset length : Nat} {found : List Damage} (h : s.Sound) :
    ResSound (execBar2Read offset length found s) := by
  unfold Machine.execBar2Read
  refine .ite (.next h) (.ite (.next (.hostWait h)) ?_)
  refine .ite (.next (.unsupported h)) (.ite (.next (.deliver h fun _ ha => .hostErr (.complete_ ha))) ?_)
  refine .next (.deliver h (fun _ ha => ?_))
  extract_lets r s1
  have hr : r.1.Sound := .foldl_fst (fun _ _ hy => .bar2Piece hy) (.withFound ha)
  have hs1 : s1.Sound := .complete_ hr
  refine .settle ?_
  split
  · exact hs1
  · exact .hostErr hs1

theorem State.Sound.bar2Store {off : Nat} {data : List Byte} {err : Option Status} {p : Nat × Nat × Nat} (h : s.Sound) :
    (s.bar2Store off data err p).1.Sound := by
  unfold State.bar2Store
  extract_lets _ _ _
  split
  · exact h
  · extract_lets wait
    have hwait : wait.Sound := .upd rfl rfl h
    refine .ite_fst hwait ?_
    split
    · exact hwait
    next u _ e1 =>
      have hu : u.Sound := PairSound.of_eq (.hostStore h) e1
      exact hu

theorem ResSound.execBar2Write {offset : Nat} {data : List Byte} {found : List Damage} (h : s.Sound) :
    ResSound (execBar2Write offset data found s) := by
  unfold Machine.execBar2Write
  refine .ite (.next h) (.ite (.next (.hostWait h)) ?_)
  refine .ite (.next (.unsupported h)) (.ite (.next (.deliver h fun _ ha => .hostErr ha)) ?_)
  refine .next (.deliver h (fun _ ha => ?_))
  extract_lets r
  have hr : r.1.Sound := .foldl_fst (fun _ _ hy => .bar2Store hy) (.withFound ha)
  refine .settle ?_
  split
  · exact hr
  · exact .hostErr hr

theorem State.Sound.resetFunction (h : s.Sound) : s.resetFunction.Sound := .releaseAll (.upd rfl rfl h)

theorem ResSound.execPerstNAssert (h : s.Sound) : ResSound (execPerstNAssert s) :=
  .next (.upd rfl rfl (.upd rfl rfl (.resetFunction (.portInput h))))

theorem ResSound.execPerstNDeassert (h : s.Sound) : ResSound (execPerstNDeassert s) := .next (.upd rfl rfl h)
theorem ResSound.execHotReset (h : s.Sound) : ResSound (execHotReset s) := .next (.ite (.resetFunction (.portInput h)) h)
theorem ResSound.execFlr (h : s.Sound) : ResSound (execFlr s) := .next (.ite (.resetFunction (.portInput h)) h)
theorem ResSound.execD3hotEntry (h : s.Sound) : ResSound (execD3hotEntry s) := .next (.ite (.upd rfl rfl h) h)

theorem ResSound.execHostUnsupportedRequest (kind : HostRequestKind) (h : s.Sound) :
    ResSound (execHostUnsupportedRequest kind s) :=
  .next (.ite (.unsupported h) h)

/-! ### The debug port (chapter 20) -/

theorem ResSound.execTapReset (h : s.Sound) : ResSound (execTapReset s) := .next (.upd rfl rfl h)
theorem State.Sound.tdo {bs : List Bool} (h : s.Sound) : (s.tdo bs).Sound := .emit h
theorem State.Sound.bypass (h : s.Sound) : s.bypass.Sound := .tdo (.upd rfl rfl h)

theorem ResSound.execExtest {pins : List Bool} (h : s.Sound) : ResSound (execExtest pins s) :=
  .ite (.next (.upd rfl rfl h)) (.next (.bypass h))

theorem ResSound.execIdcode (h : s.Sound) : ResSound (execIdcode s) := .next (.tdo (.upd rfl rfl h))

theorem ResSound.execSamplePreload {pins : List Bool} (h : s.Sound) : ResSound (execSamplePreload pins s) :=
  .next (.tdo (.upd rfl rfl h))

theorem ResSound.execBypass {code : BitVec 8} (h : s.Sound) : ResSound (execBypass code s) := .ite (.next (.bypass h)) (.next h)
theorem State.Sound.dbgDone {st : Status} {data : W64} (h : s.Sound) : (s.dbgDone st data).Sound := .upd rfl rfl h

theorem ResSound.execDbg {dr : BitVec 160} (h : s.Sound) : ResSound (execDbg dr s) := by
  unfold Machine.execDbg
  refine .ite (.next (.tdo h)) ?_
  extract_lets _ s1 _ s2
  have hs1 : s1.Sound := .emit (.upd rfl rfl h)
  have hs2 : s2.Sound := .upd rfl rfl hs1
  exact .ite (.next hs1) (.next (.ite (.dbgDone hs2) (.ite hs2 (.dbgDone hs2))))

theorem ResSound.dbgRow {a : Instr} {code : BitVec 8} {unlocked patient : Bool} {act : State → State} (h : s.Sound)
    (hact : ∀ u, u.Sound → (act u).Sound) : ResSound (s.dbgRow a code unlocked patient act) :=
  .ite (.next h) (.ite (.next (.dbgDone h)) (.ite (.next h) (.ite (.next (.dbgDone h)) (.next (hact _ (.portInput h))))))

theorem ResSound.execRegRead (h : s.Sound) : ResSound (execRegRead s) :=
  .dbgRow h fun _ ha => .ite (.dbgDone ha) (.ite (.dbgDone ha) (.ite (.dbgDone ha) (.dbgDone ha)))

theorem ResSound.execRegWrite (h : s.Sound) : ResSound (execRegWrite s) :=
  .dbgRow h fun _ ha => .ite (.dbgDone ha) (.ite (.dbgDone ha) (.dbgDone (.writeServed ha)))

theorem ResSound.execDbgChallenge {random : List Byte} (h : s.Sound) : ResSound (execDbgChallenge random s) :=
  .dbgRow h fun _ ha => .dbgDone (.upd rfl rfl ha)

theorem ResSound.execChalRead (h : s.Sound) : ResSound (execChalRead s) := by
  unfold Machine.execChalRead
  refine .dbgRow h (fun _ ha => ?_)
  extract_lets _
  refine .ite (.dbgDone ha) ?_
  split
  · exact .dbgDone ha
  · exact .dbgDone (.draw ha)

theorem ResSound.execTokenLoad (h : s.Sound) : ResSound (execTokenLoad s) :=
  .dbgRow h fun _ ha => .ite (.dbgDone ha) (.dbgDone (.upd rfl rfl ha))

theorem ResSound.execTokenSubmit {length : BitVec 64} (h : s.Sound) : ResSound (execTokenSubmit length s) := by
  unfold Machine.execTokenSubmit
  refine .ite (.next h) (.dbgRow h (fun _ ha => ?_))
  extract_lets _ r
  have hr : r.1.Sound := .ite_fst (.ite_fst (.rejectToken ha) (.unlock ha)) (.ite_fst (.rejectToken ha) (.takeToken ha))
  exact .dbgDone hr

theorem ResSound.execRelock (h : s.Sound) : ResSound (execRelock s) := by
  unfold Machine.execRelock State.dbgRow
  refine .ite (.next h) (.ite (.next (.dbgDone h)) (.ite (.next h) ?_))
  split
  · exact .next (.dbgDone h)
  next hd =>
    have hf : s.power.dbgFlag = true := h.2 (by simp_all)
    exact .next (.dbgDone (.relock (.portInput h) (by simpa using hf)))

theorem State.Sound.detachSpare {b : BenchId} (h : s.Sound) : (s.detachSpare b).Sound := .settle
    (.raise (.unthrottle (.upd rfl rfl h)))

theorem State.Sound.detachNow {b : BenchId} (h : s.Sound) : (s.detachNow b).Sound := by
  unfold State.detachNow
  extract_lets _
  exact .ite (.dbgDone h) (.ite (.ite (.dbgDone (.plannedPromotion h)) (.dbgDone h))
    (.ite (.dbgDone (.detachSpare h)) (.dbgDone h)))

theorem ResSound.execDetach {locked : Bool} (h : s.Sound) : ResSound (execDetach locked s) := by
  unfold Machine.execDetach
  refine .dbgRow h (fun _ ha => ?_)
  split
  · exact .dbgDone ha
  · exact .ite (.upd rfl rfl ha) (.detachNow (.upd rfl rfl ha))

theorem ResSound.execDetachDeferExpiry (h : s.Sound) : ResSound (execDetachDeferExpiry s) :=
  .ite (.next h) (.dbgRow h fun _ ha => .dbgDone (.upd rfl rfl ha))

theorem ResSound.execLockedSequenceEnd (h : s.Sound) : ResSound (execLockedSequenceEnd s) := by
  unfold Machine.execLockedSequenceEnd
  split
  · exact .next h
  · exact .dbgRow h fun _ ha => .detachNow (.upd rfl rfl ha)

theorem ResSound.coreRow {a : Instr} {code : BitVec 8} {act : State → BenchId → Core → State} (h : s.Sound)
    (hact : ∀ u x y, u.Sound → (act u x y).Sound) : ResSound (s.coreRow a code act) := by
  unfold State.coreRow
  refine .dbgRow h (fun _ ha1 => ?_)
  split
  · exact .dbgDone ha1
  · exact .ite (hact _ _ _ ha1) (.dbgDone ha1)

theorem ResSound.execCoreStep (h : s.Sound) : ResSound (execCoreStep s) := .coreRow h fun _ _ _ ha => .dbgDone (.upd rfl rfl ha)
theorem ResSound.execCoreRun (h : s.Sound) : ResSound (execCoreRun s) := .coreRow h fun _ _ _ ha => .dbgDone (.upd rfl rfl ha)

theorem ResSound.execCoreRead (h : s.Sound) : ResSound (execCoreRead s) :=
  .coreRow h fun _ _ _ ha => .ite (.dbgDone ha) (.dbgDone (.upd rfl rfl ha))

theorem ResSound.execCoreWrite (h : s.Sound) : ResSound (execCoreWrite s) :=
  .coreRow h fun _ _ _ ha => .ite (.dbgDone ha) (.dbgDone (.upd rfl rfl ha))

theorem ResSound.ctxRow {a : Instr} {code : BitVec 8} {act : State → Nat → Ctx → State} (h : s.Sound)
    (hact : ∀ u x y, u.Sound → (act u x y).Sound) : ResSound (s.ctxRow a code act) :=
  .dbgRow h fun _ ha1 => .ite (.dbgDone ha1) (hact _ _ _ ha1)

theorem ResSound.execCtxHalt (h : s.Sound) : ResSound (execCtxHalt s) :=
  .ctxRow h fun _ _ _ ha => .ite (.dbgDone ha) (.ite (.dbgDone (.setCtx ha)) (.boundary (.setCtx ha)))

theorem ResSound.execCtxStep (h : s.Sound) : ResSound (execCtxStep s) :=
  .ctxRow h fun _ _ _ ha => .ite ha (.ite (.dbgDone ha) (.ite (.dbgDone ha) (.reelect (.setCtx ha))))

theorem ResSound.execCtxRun (h : s.Sound) : ResSound (execCtxRun s) :=
  .ctxRow h fun _ _ _ ha => .dbgDone (.reelect (.setCtx ha))

theorem ResSound.execCtxRead (h : s.Sound) : ResSound (execCtxRead s) := by
  unfold Machine.execCtxRead
  refine .ctxRow h (fun _ _ _ ha => ?_)
  split
  · exact .dbgDone ha
  · split
    · exact .dbgDone ha
    · exact .dbgDone (.draw ha)

theorem ResSound.execCtxWrite (h : s.Sound) : ResSound (execCtxWrite s) := by
  unfold Machine.execCtxWrite
  refine .ctxRow h (fun _ _ _ ha => .ite (.dbgDone ha) ?_)
  split
  · exact .dbgDone ha
  · exact .dbgDone (.setCtx ha)

theorem ResSound.execEngHalt (h : s.Sound) : ResSound (execEngHalt s) := by
  unfold Machine.execEngHalt
  refine .dbgRow h (fun _ ha => ?_)
  split
  · exact .dbgDone ha
  · exact .ite (.dbgDone ha) (.ite (.ite ha (.upd rfl rfl ha)) (.dbgDone (.upd rfl rfl ha)))

theorem ResSound.execEngRun (h : s.Sound) : ResSound (execEngRun s) := by
  unfold Machine.execEngRun
  refine .dbgRow h (fun _ ha => ?_)
  split
  · exact .dbgDone ha
  · exact .dbgDone (.upd rfl rfl ha)

theorem ResSound.execMemRead (h : s.Sound) : ResSound (execMemRead s) := by
  unfold Machine.execMemRead
  refine .dbgRow h (fun _ ha => ?_)
  split
  · exact .dbgDone ha
  · exact .ite (.dbgDone (.readRange ha)) (.dbgDone (.readRange ha))

theorem ResSound.execMemWrite (h : s.Sound) : ResSound (execMemWrite s) := by
  unfold Machine.execMemWrite
  refine .dbgRow h (fun _ ha => ?_)
  split
  · exact .dbgDone ha
  · split
    · exact ha
    next u e1 =>
      have hu : u.Sound := OptionSound.of_eq (.claimRange ha) e1
      exact .dbgDone (.writeRange hu)

/-! ### Every command -/

theorem ResSound.exec {i : Instr} (h : s.Sound) : ResSound (exec i s) := by
  cases i with
  | vinApplied => exact .execVinApplied h
  | vinUndervolt => exact .execVinUndervolt h
  | vinOvervolt => exact .execVinOvervolt h
  | vinOvRecover => exact .execVinOvRecover h
  | vinHighExcursion => exact .execVinHighExcursion h
  | vinColdLoss => exact .execVinColdLoss h
  | resetNAssert => exact .execResetNAssert h
  | resetNRelease => exact .execResetNRelease h
  | powerWarnNAssert => exact .execPowerWarnNAssert h
  | presenceNRecognised => exact .execPresenceNRecognised h
  | presenceWindowExpiry => exact .execPresenceWindowExpiry h
  | sealBootDone => exact .execSealBootDone h
  | selfTestDone => exact .execSelfTestDone h
  | memoryTrainDone => exact .execMemoryTrainDone h
  | startUpBoundExpiry => exact .execStartUpBoundExpiry h
  | nodeResetRestart => exact .execNodeResetRestart h
  | thermalLimitReached => exact .execThermalLimitReached h
  | thermalTripTimer => exact .execThermalTripTimer h
  | thermalExcursionEnd => exact .execThermalExcursionEnd h
  | pacePeriod => exact .execPacePeriod h
  | paceCeilingTimer => exact .execPaceCeilingTimer h
  | paceCeilingClearTimer => exact .execPaceCeilingClearTimer h
  | dramCalibration => exact .execDramCalibration h
  | placementEvaluation => exact .execPlacementEvaluation h
  | blockMoveDone => exact .execBlockMoveDone h
  | retainCmd => exact .execRetainCmd h
  | retention => exact .execRetention h
  | retentionEntryDone => exact .execRetentionEntryDone h
  | wakeLight => exact .execWakeLight h
  | ambientCheckExpiry => exact .execAmbientCheckExpiry h
  | wakeTimerExpiry => exact .execWakeTimerExpiry h
  | wakeHost => exact .execWakeHost h
  | retentionExitDone => exact .execRetentionExitDone h
  | jnyCtrl => exact .execJnyCtrl h
  | joineryLoad => exact .execJoineryLoad h
  | imageCheckDone => exact .execImageCheckDone h
  | applyPoint => exact .execApplyPoint h
  | fullApplyDone => exact .execFullApplyDone h
  | configRequest => exact .execConfigRequest h
  | trainingStepDone => exact .execTrainingStepDone h
  | trainingStepTimeout => exact .execTrainingStepTimeout h
  | trainingRetryPauseExpiry => exact .execTrainingRetryPauseExpiry h
  | trainFailTimer => exact .execTrainFailTimer h
  | synthLockTimeout => exact .execSynthLockTimeout h
  | quietSlotStart => exact .execQuietSlotStart h
  | quietSlotEnd => exact .execQuietSlotEnd h
  | quietDeferralExpiry => exact .execQuietDeferralExpiry h
  | floodAssert => exact .execFloodAssert h
  | floodDebounceExpiry => exact .execFloodDebounceExpiry h
  | laneAlarmAssert => exact .execLaneAlarmAssert h
  | laneAlarmClear => exact .execLaneAlarmClear h
  | lossOfSignal => exact .execLossOfSignal h
  | resumeRetrainDone => exact .execResumeRetrainDone h
  | graceExpiry => exact .execGraceExpiry h
  | quiesceBoundExpiry => exact .execQuiesceBoundExpiry h
  | dozeExpiry => exact .execDozeExpiry h
  | darkDozeWake => exact .execDarkDozeWake h
  | dozeSearchExpiry => exact .execDozeSearchExpiry h
  | dozeLightWake => exact .execDozeLightWake h
  | dozeAmbientExpiry => exact .execDozeAmbientExpiry h
  | idleFlit => exact .execIdleFlit h
  | dataFlit => exact .execDataFlit h
  | nakFlit => exact .execNakFlit h
  | trainFlit => exact .execTrainFlit h
  | replayTimerExpiry => exact .execReplayTimerExpiry h
  | nakRepeatExpiry => exact .execNakRepeatExpiry h
  | creditReturnTimer => exact .execCreditReturnTimer h
  | errorSubwindow => exact .execErrorSubwindow h
  | creditInit => exact .execCreditInit h
  | quietReq => exact .execQuietReq h
  | quietAck => exact .execQuietAck h
  | dozeReq => exact .execDozeReq h
  | dozeAck => exact .execDozeAck h
  | dozeRefuse => exact .execDozeRefuse h
  | quiesceReq => exact .execQuiesceReq h
  | quiesceDone => exact .execQuiesceDone h
  | linkDownPlanned => exact .execLinkDownPlanned h
  | kaHello => exact .execKaHello h
  | kaCert => exact .execKaCert h
  | kaFinish => exact .execKaFinish h
  | kaBind => exact .execKaBind h
  | kaBindAck => exact .execKaBindAck h
  | kaFail => exact .execKaFail h
  | read => exact .execRead h
  | write => exact .execWrite h
  | fadd64 => exact .execFadd64 h
  | cas64 => exact .execCas64 h
  | cas128 => exact .execCas128 h
  | syncAdd => exact .execSyncAdd h
  | syncSet => exact .execSyncSet h
  | syncRead => exact .execSyncRead h
  | syncWait => exact .execSyncWait h
  | doorbell => exact .execDoorbell h
  | streamRead => exact .execStreamRead h
  | fabricTokenize => exact .execFabricTokenize h
  | fabricDetokenize => exact .execFabricDetokenize h
  | fabricMaskFetch => exact .execFabricMaskFetch h
  | fabricAdvance => exact .execFabricAdvance h
  | fabricAdvanceFetch => exact .execFabricAdvanceFetch h
  | xferAttest => exact .execXferAttest h
  | xferOffer => exact .execXferOffer h
  | xferChunk => exact .execXferChunk h
  | xferCommit => exact .execXferCommit h
  | xferAbort => exact .execXferAbort h
  | responseReceived => exact .execResponseReceived h
  | outboundTimeout => exact .execOutboundTimeout h
  | tagQuarantineExpiry => exact .execTagQuarantineExpiry h
  | notifyDelivery => exact .execNotifyDelivery h
  | doorbellNotifyDelivery => exact .execDoorbellNotifyDelivery h
  | memoryOpComplete => exact .execMemoryOpComplete h
  | gateOutput => exact .execGateOutput h
  | skewLimitExpiry => exact .execSkewLimitExpiry h
  | retryDone => exact .execRetryDone h
  | shadowArrival => exact .execShadowArrival h
  | firstNewClaimOutput => exact .execFirstNewClaimOutput h
  | shadowTimeout => exact .execShadowTimeout h
  | spareConsume => exact .execSpareConsume h
  | spareStallTimer => exact .execSpareStallTimer h
  | readmit => exact .execReadmit h
  | readmitSelftestDone => exact .execReadmitSelftestDone h
  | stateCopyDone => exact .execStateCopyDone h
  | journalCatchUp => exact .execJournalCatchUp h
  | patrolRead => exact .execPatrolRead h
  | lapOverdueTimer => exact .execLapOverdueTimer h
  | retire => exact .execRetire h
  | retireCmd => exact .execRetireCmd h
  | retireCopyDone => exact .execRetireCopyDone h
  | stackChannelLoss => exact .execStackChannelLoss h
  | channelRetrainTimeout => exact .execChannelRetrainTimeout h
  | stackSensorsFailed => exact .execStackSensorsFailed h
  | mirrorBuildDone => exact .execMirrorBuildDone h
  | zeroStampDone => exact .execZeroStampDone h
  | wrapSweepDone => exact .execWrapSweepDone h
  | inject => exact .execInject h
  | injectCancel => exact .execInjectCancel h
  | sliceInject => exact .execSliceInject h
  | sliceInjectCancel => exact .execSliceInjectCancel h
  | hostDoorbell => exact .execHostDoorbell h
  | commandDispatch => exact .execCommandDispatch h
  | commandComplete => exact .execCommandComplete h
  | quantumExpiry => exact .execQuantumExpiry h
  | copyResumePoint => exact .execCopyResumePoint h
  | copyNop => exact .execCopyNop h
  | copy => exact .execCopy h
  | fill => exact .execFill h
  | zero => exact .execZero h
  | convert => exact .execConvert h
  | gather => exact .execGather h
  | scatter => exact .execScatter h
  | digest => exact .execDigest h
  | sweep => exact .execSweep h
  | sieveNop => exact .execSieveNop h
  | pload => exact .execPload h
  | start => exact .execStart h
  | resetctx => exact .execResetctx h
  | sieveUnitDone => exact .execSieveUnitDone h
  | ttimerExpiry => exact .execTtimerExpiry h
  | overrunKillTimer => exact .execOverrunKillTimer h
  | swaitRelease => exact .execSwaitRelease h
  | aluAdd => exact .execAluAdd h
  | aluSub => exact .execAluSub h
  | aluAnd => exact .execAluAnd h
  | aluOr => exact .execAluOr h
  | aluXor => exact .execAluXor h
  | aluShl => exact .execAluShl h
  | aluShr => exact .execAluShr h
  | aluSar => exact .execAluSar h
  | aluMul => exact .execAluMul h
  | aluMulhu => exact .execAluMulhu h
  | aluSltu => exact .execAluSltu h
  | aluSlt => exact .execAluSlt h
  | aluMinu => exact .execAluMinu h
  | aluMaxu => exact .execAluMaxu h
  | aluPopcnt => exact .execAluPopcnt h
  | addi => exact .execAddi h
  | andi => exact .execAndi h
  | ori => exact .execOri h
  | xori => exact .execXori h
  | shiShl => exact .execShiShl h
  | shiShr => exact .execShiShr h
  | shiSar => exact .execShiSar h
  | ldi => exact .execLdi h
  | beq => exact .execBeq h
  | bne => exact .execBne h
  | bltu => exact .execBltu h
  | bgeu => exact .execBgeu h
  | blt => exact .execBlt h
  | bge => exact .execBge h
  | jal => exact .execJal h
  | jr => exact .execJr h
  | sld => exact .execSld h
  | sst => exact .execSst h
  | mfsr => exact .execMfsr h
  | mtsr => exact .execMtsr h
  | yield => exact .execYield h
  | window => exact .execWindow h
  | trap => exact .execTrap h
  | tret => exact .execTret h
  | halt => exact .execHalt h
  | pld => exact .execPld h
  | pst => exact .execPst h
  | tcfg => exact .execTcfg h
  | trelTiles => exact .execTrelTiles h
  | trelAccumulators => exact .execTrelAccumulators h
  | tld => exact .execTld h
  | tst => exact .execTst h
  | tscoreTile => exact .execTscoreTile h
  | tscoreContiguous => exact .execTscoreContiguous h
  | tscoreIndexed => exact .execTscoreIndexed h
  | ast => exact .execAst h
  | topkSelect => exact .execTopkSelect h
  | topkMerge => exact .execTopkMerge h
  | topkDrain => exact .execTopkDrain h
  | topkClear => exact .execTopkClear h
  | xmov => exact .execXmov h
  | sadd => exact .execSadd h
  | sset => exact .execSset h
  | sread => exact .execSread h
  | swait => exact .execSwait h
  | lexNop => exact .execLexNop h
  | dictLoad => exact .execDictLoad h
  | gramLoad => exact .execGramLoad h
  | unload => exact .execUnload h
  | streamOpen => exact .execStreamOpen h
  | streamClose => exact .execStreamClose h
  | tokenize => exact .execTokenize h
  | detokenize => exact .execDetokenize h
  | maskFetch => exact .execMaskFetch h
  | advance => exact .execAdvance h
  | advanceFetch => exact .execAdvanceFetch h
  | gramSet => exact .execGramSet h
  | holdNop => exact .execHoldNop h
  | hold => exact .execHold h
  | holdQuiesceExpiry => exact .execHoldQuiesceExpiry h
  | holdCapture => exact .execHoldCapture h
  | holdDigestDone => exact .execHoldDigestDone h
  | resume => exact .execResume h
  | drop => exact .execDrop h
  | exportParcel => exact .execExportParcel h
  | importParcel => exact .execImportParcel h
  | receive => exact .execReceive h
  | receiveIdleTimeout => exact .execReceiveIdleTimeout h
  | transfer => exact .execTransfer h
  | tcpConnect => exact .execTcpConnect h
  | tlsHandshakeDone => exact .execTlsHandshakeDone h
  | sessionIdleTimeout => exact .execSessionIdleTimeout h
  | sessionClose => exact .execSessionClose h
  | ipv4Frame => exact .execIpv4Frame h
  | neighborDiscovery => exact .execNeighborDiscovery h
  | routerAdvertisement => exact .execRouterAdvertisement h
  | icmpv6Echo => exact .execIcmpv6Echo h
  | health => exact .execHealth h
  | telemetry => exact .execTelemetry h
  | faultRead => exact .execFaultRead h
  | faultAck => exact .execFaultAck h
  | attest => exact .execAttest h
  | scrubStatus => exact .execScrubStatus h
  | shutdown => exact .execShutdown h
  | nodeReset => exact .execNodeReset h
  | lockRelease => exact .execLockRelease h
  | lockAcquire => exact .execLockAcquire h
  | lockAcquireForce => exact .execLockAcquireForce h
  | subscribe => exact .execSubscribe h
  | enroll => exact .execEnroll h
  | revoke => exact .execRevoke h
  | joineryKey => exact .execJoineryKey h
  | credReset => exact .execCredReset h
  | challenge => exact .execChallenge h
  | challengeExpiry => exact .execChallengeExpiry h
  | token => exact .execToken h
  | reportSigned => exact .execReportSigned h
  | perstNAssert => exact .execPerstNAssert h
  | perstNDeassert => exact .execPerstNDeassert h
  | hotReset => exact .execHotReset h
  | flr => exact .execFlr h
  | d3hotEntry => exact .execD3hotEntry h
  | bar2Read => exact .execBar2Read h
  | bar2Write => exact .execBar2Write h
  | rcRead => exact .execRcRead h
  | rsLowRead => exact .execRsLowRead h
  | registerWrite => exact .execRegisterWrite h
  | hostErrcapClear => exact .execHostErrcapClear h
  | faultHeadWrite => exact .execFaultHeadWrite h
  | evtHeadWrite => exact .execEvtHeadWrite h
  | evtRearm => exact .execEvtRearm h
  | msixUnmask => exact .execMsixUnmask h
  | hostLockAcq => exact .execHostLockAcq h
  | hostLockRel => exact .execHostLockRel h
  | attCtrl => exact .execAttCtrl h
  | syncCmdAdd => exact .execSyncCmdAdd h
  | syncCmdSet => exact .execSyncCmdSet h
  | syncCmdRead => exact .execSyncCmdRead h
  | syncCmdWait => exact .execSyncCmdWait h
  | counterWindowAdd => exact .execCounterWindowAdd h
  | tapReset => exact .execTapReset h
  | extest => exact .execExtest h
  | idcode => exact .execIdcode h
  | samplePreload => exact .execSamplePreload h
  | bypass => exact .execBypass h
  | dbg => exact .execDbg h
  | regRead => exact .execRegRead h
  | regWrite => exact .execRegWrite h
  | dbgChallenge => exact .execDbgChallenge h
  | chalRead => exact .execChalRead h
  | tokenLoad => exact .execTokenLoad h
  | tokenSubmit => exact .execTokenSubmit h
  | relock => exact .execRelock h
  | detach => exact .execDetach h
  | detachDeferExpiry => exact .execDetachDeferExpiry h
  | coreStep => exact .execCoreStep h
  | coreRun => exact .execCoreRun h
  | coreRead => exact .execCoreRead h
  | coreWrite => exact .execCoreWrite h
  | ctxHalt => exact .execCtxHalt h
  | ctxStep => exact .execCtxStep h
  | ctxRun => exact .execCtxRun h
  | ctxRead => exact .execCtxRead h
  | ctxWrite => exact .execCtxWrite h
  | engHalt => exact .execEngHalt h
  | engRun => exact .execEngRun h
  | memRead => exact .execMemRead h
  | memWrite => exact .execMemWrite h
  | sealBootEntry => exact .execSealBootEntry h
  | vinHighExcursionEnd => exact .execVinHighExcursionEnd h
  | quietSlotAnnounce => exact .execQuietSlotAnnounce h
  | replayRunDone => exact .execReplayRunDone h
  | unassignedOpcode => exact .execUnassignedOpcode h
  | hostUnsupportedRequest kind => exact .execHostUnsupportedRequest kind h
  | channelRetrainDone => exact .execChannelRetrainDone h
  | freeBlockSweepDone => exact .execFreeBlockSweepDone h
  | lexiconResumePoint => exact .execLexiconResumePoint h
  | unassignedInstruction => exact .execUnassignedInstruction h
  | lockedSequenceEnd => exact .execLockedSequenceEnd h

/-! ### The passing of time -/

theorem State.Sound.pushEvents (h : s.Sound) : s.pushEvents.Sound := (s.undisturbed_pushEvents).sound h
theorem State.Sound.portTick {p : Nat} (h : s.Sound) : (s.portTick p).Sound := (s.undisturbed_portTick p).sound h

theorem State.Sound.portsTick (h : s.Sound) : s.portsTick.Sound := by
  unfold State.portsTick
  extract_lets s1
  have hs1 : s1.Sound := .foldl (fun _ _ hu => .portTick hu) h
  exact .ite hs1 (.assignAll (.ite hs1 (.retry hs1)))

theorem State.Sound.tick (h : s.Sound) : s.tick.Sound :=
  .ite h (.pushEvents (.portsTick (.upd rfl rfl (.chargeTime (.ite (.upd rfl rfl h) h)))))

theorem State.Sound.noneHeld (h : s.Sound) : s.noneHeld.Sound := .upd rfl rfl h
theorem State.Sound.heldAfter (ht : t.Sound) : (s.heldAfter t).Sound := .upd rfl rfl ht

/-! ### Every step -/

theorem State.Sound.rest (h : s.Sound) : s.rest.Sound := .upd rfl rfl h

theorem ResSound.deliverHeld {c : Instr} (h : s.Sound) : ResSound (deliverHeld c s) := by
  have hexec : ResSound (Machine.exec c s.noneHeld) := .exec (.noneHeld h)
  unfold Machine.deliverHeld
  split
  next t e => exact .next (.heldAfter (hexec t e))
  all_goals exact fun t ht => nomatch ht

theorem ResSound.step (h : s.Sound) : ResSound (step s) := by
  unfold Machine.step
  split
  · split
    · exact .next (.tick h)
    · exact .deliverHeld h
  · exact .exec (.rest h)

end

/-- Settles O58: each command is made of operations that keep what soundness reads, or write the memory by its own laws, or set
the mark with the debug state. -/
theorem everyStepKeepsSoundness : Obligations.EveryStepKeepsSoundness := by
  intro s t h e
  exact ResSound.step h t e

end Sys2Proof.Machine

/-! Power-up (chapters 2 and 4): the reset state, the inputs of the shelf and the service connector, and the start-up sequence. -/

namespace Sys2Proof.Machine

/-! ## The reset state (R104, R107, R618, R676, R680) -/

/-- The reset state is sound: its memory is empty and debug is locked. -/
theorem State.reset_sound : State.reset.Sound := ⟨State.wf_reset, fun h => absurd rfl h⟩

/-- Settles O57: every field is what the reset state's record says. -/
theorem resetIsOffSoundAndEmpty : Obligations.ResetIsOffSoundAndEmpty := by
  unfold Obligations.ResetIsOffSoundAndEmpty
  exact ⟨rfl, rfl, rfl, rfl, rfl, rfl, rfl, rfl, rfl, rfl, rfl, rfl, fun _ => ⟨rfl, rfl⟩, fun _ => ⟨rfl, rfl⟩, State.reset_sound⟩

/-! ## Announcements and INPUT_HIGH -/

section
variable {s : State}

theorem State.aside_raise (s : State) (e : Ev) (kind : SourceKind) (n a b c : Nat) : (s.raise e kind n a b c).aside = s.aside :=
  (s.announces_raise e kind n a b c).rest

theorem State.aside_settle (s : State) : s.settle.aside = s.aside := s.announces_settle.rest

/-- Besides its event, INPUT_HIGH sets that it has been raised, and no more. -/
theorem State.aside_noteHigh (s : State) : ∃ raised, s.noteHigh.aside = { s.aside with power.highRaised := raised } := by
  unfold State.noteHigh
  split
  · exact ⟨true, State.aside_raise ..⟩
  · exact ⟨s.power.highRaised, rfl⟩

@[simp] theorem State.start_resetLow (s : State) : s.start.power.resetLow = s.power.resetLow := by
  unfold State.start
  split <;> rfl

/-- A start leaves no restart due. -/
theorem State.start_restartDue (h : s.power.restartDue = false) : s.start.power.restartDue = false := by
  unfold State.start
  split
  · rfl
  · exact h

/-- What entering SEAL_BOOT sets, the events that it announces aside. -/
theorem execSealBootEntry_aside {t : State} (hs : s.power.starting = true) (hn : s.power.node = .off)
    (h : execSealBootEntry s = .next t) : ∃ raised, t.aside =
      { s.aside with
        time := 0
        power := { s.power with starting := false, pwrGood := true, ovRecord := none, node := .sealBoot, highRaised := raised }
        sec := { s.sec with
          debug := if s.power.dbgFlag then .unlockedSincePower else .locked
          challenge := none } } := by
  unfold execSealBootEntry at h
  rw [if_pos (by simp [State.isIn, hs, hn])] at h
  extract_lets _ _ s1 s2 s3 at h
  cases h
  obtain ⟨raised, hhigh⟩ := s3.aside_noteHigh
  have hs3 : s3.aside = s2.aside := by
    unfold s3
    split
    · rfl
    · exact State.aside_raise ..
  exact ⟨raised, hhigh.trans (by rw [hs3]; rfl)⟩

/-! ## The statement about the shelf's inputs -/

/-- Settles O2: each clause is what `start`, `stop` or an announcement does to the power state that the command sets. -/
theorem shelfInputsAct : Obligations.ShelfInputsAct := by
  unfold Obligations.ShelfInputsAct
  refine ⟨?resetLow, ?resetHigh, ?warn, ?warnAsleep, ?presence, ?expiry, ?sealBoot, ?restart⟩
  case resetLow =>
    intro s
    exact ⟨_, rfl, s.stop_node .., rfl, fun hn => State.stop_cause_of_ready hn ..⟩
  case resetHigh =>
    intro s hl
    exact ⟨_, if_pos hl, by simp, fun hn hv ho => State.start_starting hn hv rfl ho⟩
  case warn =>
    intro s hn ht hroom hgo
    refine ⟨_, (if_neg (by simp [State.isIn, hn, ht])).trans (if_neg (by simp [State.isIn, hn])), ?_⟩
    rw [State.deliver_of_go _ _ hgo]
    have hevent := State.eventAt_raise (s := s.inputOf .powerWarnNAssert) (e := .powerWarn) (by simpa using hroom) rfl .node
      0 0 (s.inputOf .powerWarnNAssert).ts 0
    exact ⟨by simp, by simp, by rwa [State.inputOf_events] at hevent⟩
  case warnAsleep =>
    intro s r hn ht hr
    exact ⟨_, (if_neg (by simp [State.isIn, hn, ht])).trans (if_pos (State.isIn_iff.2 hn)), by rw [hr]; rfl⟩
  case presence =>
    intro s
    exact ⟨_, rfl, rfl⟩
  case expiry =>
    intro s
    exact ⟨_, rfl, rfl⟩
  case sealBoot =>
    intro s hs hn
    have he : exec .sealBootEntry s = .next _ := if_pos (by simp [State.isIn, hs, hn])
    obtain ⟨raised, h⟩ := execSealBootEntry_aside hs hn he
    refine ⟨_, he, ?_⟩
    exact ⟨congrArg (·.power.node) h, congrArg State.time h, congrArg (·.power.pwrGood) h, congrArg (·.power.starting) h,
      congrArg (·.power.ovRecord) h, congrArg (·.sec.debug) h⟩
  case restart =>
    intro s hd
    exact ⟨_, if_pos hd, State.start_restartDue rfl, fun hn hv hr ho => State.start_starting hn hv hr ho⟩

end
end Sys2Proof.Machine

/-! The start-up sequence (Table 4–2): the host link's training, the self-test's outcome, and the ways to FAILED. -/

namespace Sys2Proof.Machine

/-! ## The host link (R45, R111) -/

/-- The host link trains up where PERST_N is high and some width is allowed. -/
@[simp] theorem HostPort.train_linkUp (h : HostPort) : h.train.linkUp = (!h.perstLow && h.widest != 0) := by
  unfold HostPort.train HostPort.down
  cases h.perstLow <;> by_cases hw : h.widest = 0 <;> simp [hw]

/-- A link that is up after training has the widest width allowed. -/
theorem HostPort.train_width {h : HostPort} (hu : h.train.linkUp = true) : h.train.width = h.widest := by
  rw [HostPort.train_linkUp] at hu
  have hdown : ¬ (h.perstLow = true ∨ h.widest = 0) := by simpa using hu
  rw [HostPort.train, if_neg (by simpa using hdown)]

/-! ## FAILED (Table 4–4, R115) -/

/-- A failure of the start-up sequence leaves the node in FAILED with the event's code, and nothing stored. -/
theorem State.failStartUp_failed (s : State) (e : Ev) (name : String) :
    (s.failStartUp e name).power.node = .failed ∧ (s.failStartUp e name).power.failCode = e.code ∧
      (s.failStartUp e name).mem = [] :=
  ⟨rfl, rfl, rfl⟩

/-! ## Evaluating health

What it leaves of the fields that the start-up sequence sets. -/

@[simp] theorem State.settle_power (s : State) : s.settle.power = s.power := s.keepsNode_settle.1
@[simp] theorem State.settle_bench (s : State) : s.settle.bench = s.bench := (congrArg State.bench s.aside_settle :)
@[simp] theorem State.settle_dram (s : State) : s.settle.dram = s.dram := (congrArg State.dram s.aside_settle :)

/-! ## SELF_TEST_DONE (R295, R296) -/

section
variable {s : State}

/-- Whether the failed units take the node to FAILED: two benches, both hold engines, or the counter store (Table 4–4). -/
def failsSelfTest (failed : List TestUnit) : Bool :=
  decide (2 ≤ (failedBenches failed).length) || decide ((failedHolds failed).length = 2) || failed.contains .counterStore

theorem completes_selfTestDone_of_pass {failed : List TestUnit} (hn : s.power.node = .selfTest) (hgo : s.inputsGo = true)
    (hp : failsSelfTest failed = false) : Completes (.selfTestDone failed) s fun t =>
      t.power.node = .memoryTrain ∧ t.bench.roleA = rolesAfterTest (failedBenches failed) .A ∧
      t.bench.roleB = rolesAfterTest (failedBenches failed) .B ∧ t.bench.roleC = rolesAfterTest (failedBenches failed) .C ∧
      t.bench.claim = 1 ∧ t.bench.accepted = [] := by
  refine ⟨_, if_neg (by simp [State.isIn, hn]), ?_⟩
  rw [State.deliver_of_go _ _ hgo]
  unfold failsSelfTest at hp
  dsimp only
  rw [if_neg (Bool.eq_false_iff.1 hp), State.settle_power, State.settle_bench]
  exact ⟨rfl, rfl, rfl, rfl, rfl, rfl⟩

theorem completes_selfTestDone_of_fail {failed : List TestUnit} (hn : s.power.node = .selfTest) (hgo : s.inputsGo = true)
    (hp : failsSelfTest failed = true) : Completes (.selfTestDone failed) s fun t =>
      t.power.node = .failed ∧ t.power.failCode = Ev.selftestFail.code := by
  refine ⟨_, if_neg (by simp [State.isIn, hn]), ?_⟩
  rw [State.deliver_of_go _ _ hgo]
  unfold failsSelfTest at hp
  dsimp only
  rw [if_pos hp]
  exact ⟨rfl, rfl⟩

/-! ## MEMORY_TRAIN_DONE (R107) -/

/-- Every part has a slice of memory. -/
theorem Part.slices_pos (p : Part) : 0 < p.slices := by cases p <;> decide

theorem foldl_updStk_keeps {β : Type} {f : Nat → Stack → Stack} (P : State → β) (hP : ∀ u n k, P (u.setStk n k) = P u)
    (l : List Nat) (u : State) : P (l.foldl (fun u n => u.updStk n (f n)) u) = P u :=
  foldl_keeps P _ (fun _ _ => hP ..) l u

/-- A property that `f` gives every stack holds of a stack among those that `f` changes. -/
theorem stk_foldl_updStk {f : Nat → Stack → Stack} {Q : Stack → Prop} (hf : ∀ n k, Q (f n k)) (l : List Nat) (u : State) {m : Nat}
    (hm : m ∈ l) : Q ((l.foldl (fun u n => u.updStk n (f n)) u).stk m) := by
  have hset (u : State) : Q ((u.updStk m (f m)).stk m) := by
    rw [State.updStk, State.stk_setStk_self]
    exact hf _ _
  have hkeep (u : State) (n : Nat) (h : Q (u.stk m)) : Q ((u.updStk n (f n)).stk m) := by
    by_cases hn : m = n
    · exact hn ▸ hset u
    · rwa [State.updStk, State.stk_setStk_ne _ _ hn]
  obtain ⟨before, after, rfl⟩ := List.append_of_mem hm
  rw [List.foldl_append, List.foldl_cons]
  exact foldl_holds (fun v : State => Q (v.stk m)) _ hkeep after _ (hset _)

end

/-! ## The statement about the start-up sequence -/

/-- Settles O3: each clause is the command's outcome above, or what entering FAILED or training the host link sets. -/
theorem startUpStatesFollowTheTable : Obligations.StartUpStatesFollowTheTable := by
  unfold Obligations.StartUpStatesFollowTheTable
  refine ⟨?sealed, ?sealFails, ?passes, ?spareFails, ?twoFail, ?trained, ?bound⟩
  case sealed =>
    intro s hn
    exact ⟨_, if_neg (by simp [State.isIn, hn]), rfl, HostPort.train_linkUp _, HostPort.train_width, rfl⟩
  case sealFails =>
    intro s a b hn hab
    exact ⟨_, (if_neg (by simp [State.isIn, hn])).trans (if_neg (by simp [hab])), rfl, rfl⟩
  case passes =>
    intro s hn hgo
    exact completes_selfTestDone_of_pass hn hgo rfl
  case spareFails =>
    intro s hn hgo
    obtain ⟨t, ht, hnode, hA, hB, hC, hclaim, -⟩ := completes_selfTestDone_of_pass (failed := [.bench .C]) hn hgo rfl
    exact ⟨t, ht, hnode, hA, hB, hC, hclaim⟩
  case twoFail =>
    intro s hn hgo
    exact completes_selfTestDone_of_fail hn hgo rfl
  case trained =>
    intro s hn hgo
    refine ⟨_, if_neg (by simp [State.isIn, hn]), ?_⟩
    rw [State.deliver_of_go _ _ hgo]
    have hbad : (List.range s.power.part.slices).filter (fun n => ([] : List (Fin 16)).any (·.val == n)) = [] := by simp
    have hsome : ¬ ([] : List Nat).length = (List.range s.power.part.slices).length := by simpa using s.power.part.slices_pos.ne
    dsimp only
    rw [hbad, if_neg hsome, List.isEmpty_nil, if_pos rfl]
    generalize hu : List.foldl _ _ _ = u
    have hmem : u.mem = [] := by rw [← hu]; exact foldl_updStk_keeps State.mem (fun _ _ _ => rfl) _ _
    have htags : u.dram.tags = [] := by rw [← hu]; exact foldl_updStk_keeps (·.dram.tags) (fun _ _ _ => rfl) _ _
    have hpoison : u.dram.poison = [] := by rw [← hu]; exact foldl_updStk_keeps (·.dram.poison) (fun _ _ _ => rfl) _ _
    have hlost (n : Nat) (hn : n < s.power.part.slices) : (u.stk n).lost = false := by
      rw [← hu]
      exact stk_foldl_updStk (Q := (·.lost = false)) (fun _ _ => rfl) _ _ (List.mem_range.2 hn)
    simp only [State.settle_power, State.mem_settle, State.settle_dram, State.stk]
    exact ⟨rfl, hmem, htags, hpoison, hlost⟩
  case bound =>
    intro s hb
    exact ⟨_, if_pos hb, s.failStartUp_failed ..⟩

end Sys2Proof.Machine

/-! Retention and shutdown (chapter 4): what the drain and the end of a pause leave aside, the links' planned end, and
the exit. -/

namespace Sys2Proof.Machine

/-! ## The drain, and work that goes on (Table 4–5, R129)

Pausing, resuming and electing touch queues, contexts, waits, the shares of engine time and the debugger's command alone. -/

/-- The state with all that a pause of work touches left out. -/
def State.sansWork (s : State) : State := { s with queues := [], ctxs := [], sync := {}, shares := {}, dbg := {} }

theorem State.sansWork_foldl {α : Type} {g : State → α → State} {l : List α} {s t : State}
    (hg : ∀ u x, (g u x).sansWork = u.sansWork) (h : t.sansWork = s.sansWork) : (l.foldl g t).sansWork = s.sansWork :=
  (foldl_keeps State.sansWork g hg l t).trans h

@[simp] theorem State.sansWork_setCtx (s : State) (key : Nat) (c : Ctx) : (s.setCtx key c).sansWork = s.sansWork := rfl
@[simp] theorem State.sansWork_updRun (s : State) (q : Nat) (i : W32) (f : RunCmd → RunCmd) :
    (s.updRun q i f).sansWork = s.sansWork := rfl

@[simp] theorem State.sansWork_endStart (s : State) (key : Nat) (st : Status) (result : W64) :
    (s.endStart key st result).sansWork = s.sansWork := by
  unfold State.endStart
  dsimp only
  split <;> rfl

@[simp] theorem State.sansWork_trapCtx (s : State) (key : Nat) (c : Ctx) (cause info : Nat) (ret : BitVec 16)
    (pend : Option LongOp) : (s.trapCtx key c cause info ret pend).sansWork = s.sansWork := by
  unfold State.trapCtx
  split
  · rfl
  · exact State.sansWork_endStart ..

@[simp] theorem State.sansWork_elect (s : State) (e last fuel : Nat) : (s.elect e last fuel).sansWork = s.sansWork := by
  induction fuel generalizing s last with
  | zero => rfl
  | succ fuel ih =>
    unfold State.elect
    dsimp only
    split
    · rfl
    · split
      · rfl
      · split
        · rfl
        · exact (ih ..).trans (State.sansWork_trapCtx ..)

@[simp] theorem State.sansWork_reelect (s : State) (key : Nat) : (s.reelect key).sansWork = s.sansWork := s.sansWork_elect _ _ _

@[simp] theorem State.sansWork_boundary (s : State) (key : Nat) : (s.boundary key).sansWork = s.sansWork := by
  unfold State.boundary
  dsimp only
  split
  · rfl
  · split
    · simp
    · split
      · simp
      · split
        · exact State.sansWork_reelect ..
        · split
          · split <;> simp
          · split
            · rfl
            · split
              · split <;> simp
              · rfl

@[simp] theorem State.sansWork_pauseCtx (s : State) (key : Nat) : (s.pauseCtx key).sansWork = s.sansWork := by
  unfold State.pauseCtx
  split
  · rfl
  · exact State.sansWork_boundary ..

@[simp] theorem State.sansWork_drain (s : State) : s.drain.sansWork = s.sansWork := by
  unfold State.drain
  refine State.sansWork_foldl (fun u e => u.sansWork_pauseCtx e.1) ?_
  exact State.sansWork_foldl (fun _ _ => rfl) rfl

@[simp] theorem State.sansWork_unpause (s : State) : s.unpause.sansWork = s.sansWork := by
  unfold State.unpause
  refine State.sansWork_foldl (fun u k => u.sansWork_reelect k) ?_
  refine State.sansWork_foldl (fun _ _ => rfl) ?_
  exact State.sansWork_foldl (fun _ _ => rfl) rfl

/-! ## The links' planned end (Table 4–5 step 4, R253) -/

/-- A port without a session has none after its planned end. -/
theorem State.hasSession_sendPlanned {s : State} {p reason q : Nat} (hp : (s.port p).hasSession = false)
    (hq : (s.port q).hasSession = false) : ((s.sendPlanned p reason).port q).hasSession = false := by
  unfold State.sendPlanned
  rw [if_pos (by simp [hp])]
  by_cases h : q = p
  · subst h
    rw [State.updPort, State.port_setPort_self]
    split
    · rfl
    · exact hp
  · rwa [State.updPort, State.port_setPort_ne _ _ h]

theorem State.anySession_iff {s : State} : s.anySession = false ↔ ∀ p < s.power.part.ports, (s.port p).hasSession = false := by
  simp [State.anySession]

theorem State.undisturbed_planLinks (s : State) : s.Undisturbed s.planLinks :=
  .of_foldl (fun u p => u.undisturbed_sendPlanned p _) _ s

/-- Ports without a session have none after the links' planned end. -/
theorem State.anySession_planLinks {s : State} (h : s.anySession = false) : s.planLinks.anySession = false := by
  rw [State.anySession_iff] at h ⊢
  obtain ⟨-, -, hpower, -⟩ := s.undisturbed_planLinks
  rw [hpower]
  unfold State.planLinks
  refine List.foldlRecOn (motive := fun u : State => ∀ q < s.power.part.ports, (u.port q).hasSession = false) _ _ h ?_
  intro u hu p hp q hq
  exact State.hasSession_sendPlanned (hu p (List.mem_range.1 hp)) (hu q hq)

@[simp] theorem State.anySession_inputOf (s : State) (c : Instr) : (s.inputOf c).anySession = s.anySession := by
  simp [State.anySession, State.port]

/-- The power state, the host port and the memory: what entering and leaving retention is about. -/
def State.front (s : State) : Power × HostPort × List Host.Cell := (s.power, s.host, s.mem)

theorem State.front_eq_iff {s : State} {p : Power} {h : HostPort} {m : List Host.Cell} :
    s.front = (p, h, m) ↔ s.power = p ∧ s.host = h ∧ s.mem = m := by simp [State.front]

theorem State.front_closeSession (s : State) (id : Nat) (alert : String) : (s.closeSession id alert).front = s.front := by
  unfold State.closeSession
  dsimp only
  split <;> rfl

theorem State.front_linksDown (s : State) : s.linksDown.front = (s.power, s.host.down, s.mem) := by
  unfold State.linksDown
  exact foldl_keeps State.front _ (fun u i => u.front_closeSession i "down") _ _

theorem State.front_raise (s : State) (e : Ev) (kind : SourceKind) (n a b c : Nat) : (s.raise e kind n a b c).front = s.front :=
  (congrArg State.front (s.aside_raise e kind n a b c) :)

theorem State.front_settle (s : State) : s.settle.front = s.front := (congrArg State.front s.aside_settle :)

theorem State.front_reportWarnings (s : State) (r : Retention) : (s.reportWarnings r).front = s.front :=
  foldl_keeps State.front _ (fun u _ => u.front_raise ..) _ _

theorem State.front_unpause (s : State) : s.unpause.front = s.front := (congrArg State.front s.sansWork_unpause :)

/-- Waking with every bench in service enters READY and trains the host link. -/
theorem State.front_wakeUp (s : State) (r : Retention) (w : Wake) :
    (s.wakeUp r w []).front = ({ s.power with retention := none, node := .ready }, s.host.train, s.mem) := by
  unfold State.wakeUp
  extract_lets slept _ _ _ s1 s2 s3 s5 s6
  have h2 : s2.front = ({ s.power with retention := none, node := .ready }, s.host, s.mem) := rfl
  have h3 : s3.front = s2.front := State.front_raise ..
  have h5 : s5.front = s3.front :=
    (State.front_unpause _).trans ((State.front_settle _).trans (State.front_reportWarnings ..))
  have h5 := h5.trans (h3.trans h2)
  clear_value s5
  have h6 : s6.front = s5.front := foldl_keeps State.front (fun u p => u.updPort p Port.train) (fun _ _ => rfl) _ _
  obtain ⟨hpower, hhost, hmem⟩ := State.front_eq_iff.1 (h6.trans h5)
  exact State.front_eq_iff.2 ⟨hpower, by rw [hhost], hmem⟩

/-! ## The commands (R120, R121, R132, R675) -/

@[simp] theorem State.drain_power (s : State) : s.drain.power = s.power := (congrArg State.power s.sansWork_drain :)
@[simp] theorem State.drain_mem (s : State) : s.drain.mem = s.mem := (congrArg State.mem s.sansWork_drain :)
@[simp] theorem State.drain_out (s : State) : s.drain.out = s.out := (congrArg State.out s.sansWork_drain :)

@[simp] theorem State.retentionBarred_inputOf (s : State) (c : Instr) : (s.inputOf c).retentionBarred = s.retentionBarred := by
  simp [State.retentionBarred, State.holdWork, State.range, State.records, State.closing]

/-- A write of RETAIN_CMD that nothing refuses is accepted. -/
theorem completes_retainCmd {s : State} {w : HostWrite} {P : State → Prop} (h : s.hostServed = true) (hw : w.size = 8)
    (hn : s.power.node = .ready) (hl : s.lockOpen .host = true) (hb : s.retentionBarred = false)
    (hP : P ((s.inputOf (.retainCmd w)).acceptRetention (bits w.value.toNat 31 0) s.host.retainPorts.toNat)) :
    Completes (.retainCmd w) s P := by
  refine ⟨_, rfl, ?_⟩
  rw [State.hostGate_of_served _ _ h]
  simpa [State.retainSubmit, State.submit, State.commandWrite, State.regsUp_of_hostServed h, hw, State.isReady, State.isIn, hn,
    hl, hb] using hP

/-- RETENTION that is heard and that nothing refuses is answered and accepted. -/
theorem completes_retention {s : State} {m : BureauMsg} {timer mask : Nat} {P : State → Prop}
    (hm : s.hears m .admin kindRetention retentionBody (timer, mask) = true) (hn : s.power.node = .ready)
    (hl : s.lockOpen (.session m.session m.reqId) = true) (hb : s.retentionBarred = false)
    (hP : P (((s.inputOf (.retention m timer mask)).emit
      (replyTo m.session m.reqId kindRetention .ok [])).acceptRetention timer mask)) :
    Completes (.retention m timer mask) s P := by
  obtain ⟨hlis, hread⟩ := State.hears_iff.1 hm
  refine ⟨_, rfl, ?_⟩
  rw [State.bureauRequest_of_listens hlis]
  simpa [hread, adminOnly, State.isReady, State.isIn, hn, hl, hb, State.answer_of_listens hlis] using hP

/-- SHUTDOWN that is heard in its states is answered, and the drain starts. -/
theorem completes_shutdown {s : State} {m : BureauMsg} {P : State → Prop}
    (hm : s.hears m .admin kindShutdown noBody () = true) (hn : s.inStates true true false = true)
    (hP : P ({ (s.inputOf (.shutdown m)).emit (replyTo m.session m.reqId kindShutdown .ok []) with
      power.shutdown := true, power.retention := none } : State).drain) : Completes (.shutdown m) s P := by
  obtain ⟨hlis, hread⟩ := State.hears_iff.1 hm
  refine ⟨_, rfl, ?_⟩
  rw [State.bureauRequest_of_listens hlis]
  simpa [hread, adminOnly, hn, State.answer_of_listens hlis] using hP

/-! ## Entry (R122, R131, R132) -/

/-- In READY with a retention entry or a shutdown under way, RETENTION_ENTRY_DONE finds its drain. -/
theorem State.entryUnderWay {s : State} (hn : s.power.node = .ready) (hc : s.closing = true) :
    ¬ (!(s.power.shutdown || s.power.retention.isSome) || (!s.power.shutdown && !s.isReady)) = true := by
  rw [State.closing, Bool.or_comm] at hc
  simp [hc, State.isReady, State.isIn, hn]

/-- What RETENTION_ENTRY_DONE makes, at time `now`, of a drained node whose ports have been told of their planned end. -/
def State.afterLinks (now : Nat) (u : State) : State :=
  if u.anySession then u
  else if u.power.shutdown then u.linksDown.stop causeShutdown "SHUTDOWN"
  else match u.power.retention with
    | none => u
    | some r =>
      let v := u.linksDown.raise .retentionEnter .node 0 r.timer r.mask.toNat 0
      ({ v with power.retention := some { r with entered := some now } }.setNode .retention "").settle

theorem execRetentionEntryDone_of_drained {s : State} (hn : s.power.node = .ready) (hc : s.closing = true) (hd : s.drained = true)
    (hgo : s.inputsGo = true) :
    execRetentionEntryDone s = .next ((s.inputOf .retentionEntryDone).planLinks.afterLinks s.ts) := by
  unfold execRetentionEntryDone
  rw [if_neg (State.entryUnderWay hn hc), if_neg (by simp [hd]), State.deliver_of_go _ _ hgo]
  rfl

theorem State.front_enterRetention (v : State) (r : Retention) :
    ({ v with power.retention := some r }.setNode .retention "").settle.front =
      ({ v.power with retention := some r, node := .retention }, v.host, v.mem) := State.front_settle _

/-- With every session gone, an accepted retention is entered, the host link down. -/
theorem State.front_afterLinks {u : State} {r : Retention} (hl : u.anySession = false) (hs : u.power.shutdown = false)
    (hr : u.power.retention = some r) (now : Nat) : (u.afterLinks now).front =
      ({ u.power with retention := some { r with entered := some now }, node := .retention }, u.host.down, u.mem) := by
  have h := (State.front_raise _ .retentionEnter .node 0 r.timer r.mask.toNat 0).trans u.front_linksDown
  obtain ⟨hpower, hhost, hmem⟩ := State.front_eq_iff.1 h
  unfold State.afterLinks
  rw [if_neg (by simp [hl]), if_neg (by simp [hs]), hr]
  dsimp only
  rw [State.front_enterRetention, hpower, hhost, hmem]

/-- With every session gone, a shutdown ends in OFF with its cause. -/
theorem State.afterLinks_of_shutdown {u : State} (hl : u.anySession = false) (hs : u.power.shutdown = true)
    (hn : u.power.node = .ready) (now : Nat) :
    (u.afterLinks now).power.node = .off ∧ (u.afterLinks now).power.stopCause = causeShutdown := by
  have h := u.front_linksDown
  obtain ⟨hpower, -, -⟩ := State.front_eq_iff.1 h
  simp only [State.afterLinks, hl, hs, Bool.false_eq_true, if_false, if_true]
  exact ⟨State.stop_node .., State.stop_cause_of_ready (by rw [hpower, hn]) ..⟩

/-- The links' planned end, of a node without sessions, keeps its power state and its memory, and starts no session. -/
theorem State.planLinks_inputOf {s : State} (hl : s.anySession = false) (c : Instr) :
    (s.inputOf c).planLinks.anySession = false ∧ (s.inputOf c).planLinks.power = s.power ∧
      (s.inputOf c).planLinks.mem = s.mem := by
  obtain ⟨-, hmem, hpower, -⟩ := (s.inputOf c).undisturbed_planLinks
  exact ⟨State.anySession_planLinks (by simpa using hl), hpower.trans (by simp), hmem.trans (by simp)⟩

/-! ## The exit (R129, R130) -/

/-- With no unit failed, the seal processor's ROM and the digest decide the exit. -/
theorem execRetentionExitDone_of_woken {s : State} {r : Retention} {w : Wake} (hr : s.power.retention = some r)
    (hw : r.wake = some w) (hn : s.power.node = .retention) (checks : ExitChecks) :
    execRetentionExitDone checks [] s = .next (
      if checks.romOk = false then
        let u := (s.reportWarnings r).failStartUp .sealBootFail "SEAL_BOOT_FAIL"
        { u with host := u.host.train }
      else if checks.digestOk = false then
        let u := (s.reportWarnings r).failStartUp .retainRestoreFail "RETAIN_RESTORE_FAIL"
        { u with host := u.host.train }
      else s.wakeUp r w []) := by
  have hbad : s.exitFailures [] = [] := by simp [State.exitFailures, failedBenches]
  have hsome : s.exitFatal [] = none := rfl
  unfold execRetentionExitDone
  simp only [hr, hw, hbad, State.isIn_iff.2 hn]
  cases checks.romOk <;> cases checks.digestOk <;> simp [failedComparators, hsome]

/-! ## The statement about retention -/

theorem completes_eq {c : Instr} {s t : State} (h : exec c s = .next t) : Completes c s fun u => u = t := ⟨t, h, rfl⟩

/-- Unmodulated light without a training pattern keeps the node in RETENTION, and its port's detector off (R126). -/
theorem execAmbientCheckExpiry_of_flood {s : State} {r : Retention} {p : Fin 32} (ha : s.asleep = some r)
    (hc : r.checking = some p.val) : execAmbientCheckExpiry p false true s = .next
      ((s.setRetention { r with checking := none, detectors := r.detectors ||| ((1 : W32) <<< p.val) }).portEvent
        .ambientFlood p.val 0 0) := by
  simp [execAmbientCheckExpiry, ha, hc]

/-- Settles O6: acceptance, entry and exit by the commands' lemmas above, the wake sources by their own rows. -/
theorem retentionIsEnteredAndLeftAsTheTablesSay : Obligations.RetentionIsEnteredAndLeftAsTheTablesSay := by
  unfold Obligations.RetentionIsEnteredAndLeftAsTheTablesSay
  refine ⟨?register, ?request, ?shutdown, ?waits, ?enters, ?stops, ?links, ?light, ?checked, ?flood, ?timer, ?host, ?wakes,
    ?digest, ?rom⟩
  case register =>
    intro s w h hw hn hl hb
    refine completes_retainCmd h hw hn hl hb ⟨?_, ?_⟩
    · simp [State.acceptRetention]
    · simp [State.acceptRetention]
  case request =>
    intro s m timer mask hm hn hl hb
    refine completes_retention hm hn hl hb ⟨?_, ?_⟩
    · simp [State.acceptRetention]
    · simp [State.acceptRetention, State.emit]
  case shutdown =>
    intro s m hm hn
    refine completes_shutdown hm hn ⟨?_, ?_, ?_⟩
    · simp
    · simp
    · simp [State.emit]
  case waits =>
    intro s hw hd hn hr hgo
    have hopen := State.entryUnderWay hn (by simp [State.closing, hr])
    refine completes_eq ((if_neg hopen).trans ((if_pos (by simp [hd])).trans ?_))
    rw [if_pos hw, State.deliver_of_go _ _ hgo]
  case enters =>
    intro s r hd hn hs hr hl hgo
    obtain ⟨hnone, hpower, hmem⟩ := State.planLinks_inputOf hl .retentionEntryDone
    have h := State.front_afterLinks hnone (by rw [hpower, hs]) (by rw [hpower, hr]) s.ts
    obtain ⟨kpower, khost, kmem⟩ := State.front_eq_iff.1 h
    refine ⟨_, execRetentionEntryDone_of_drained hn (by simp [State.closing, hr]) hd hgo, ?_⟩
    exact ⟨by rw [kpower], by rw [khost]; rfl, by rw [kpower], by rw [kmem, hmem]⟩
  case stops =>
    intro s hd hn hs hl hgo
    obtain ⟨hnone, hpower, -⟩ := State.planLinks_inputOf hl .retentionEntryDone
    refine ⟨_, execRetentionEntryDone_of_drained hn (by simp [State.closing, hs]) hd hgo, ?_⟩
    exact State.afterLinks_of_shutdown hnone (by rw [hpower, hs]) (by rw [hpower, hn]) _
  case links =>
    intro s hd hn hr hl hgo
    exact ⟨_, execRetentionEntryDone_of_drained hn (by simp [State.closing, hr]) hd hgo, if_pos hl⟩
  case light =>
    intro s r p ha hp hm hdet hc
    refine completes_eq ?_
    change execWakeLight p s = _
    simp only [execWakeLight, ha]
    exact if_pos (by simp only [hm, hdet, hc, decide_eq_true hp]; rfl)
  case checked =>
    intro s r p b ha hc
    refine completes_eq ?_
    change execAmbientCheckExpiry p true b s = _
    simp [execAmbientCheckExpiry, ha, hc]
  case flood =>
    intro s r p ha hc
    obtain ⟨hpower, -⟩ := State.keepsNode_portEvent
      (s.setRetention { r with checking := none, detectors := r.detectors ||| ((1 : W32) <<< p.val) }) .ambientFlood p.val 0 0
    exact ⟨_, execAmbientCheckExpiry_of_flood ha hc, by rw [hpower]; rfl, by rw [hpower]; rfl⟩
  case timer =>
    intro s r ha ht
    refine completes_eq ?_
    change execWakeTimerExpiry s = _
    simp [execWakeTimerExpiry, ha, ht]
  case host =>
    intro s r ha hp
    refine completes_eq ?_
    change execWakeHost s = _
    simp [execWakeHost, ha, hp]
  case wakes =>
    intro s r w hr hw hn
    have h := s.front_wakeUp r w
    obtain ⟨hpower, hhost, hmem⟩ := State.front_eq_iff.1 h
    refine ⟨s.wakeUp r w [], execRetentionExitDone_of_woken hr hw hn _, by rw [hpower], by rw [hpower], ?_, hmem⟩
    rw [hhost, HostPort.train_linkUp]
  case digest =>
    intro s r w hr hw hn
    have hfailed := (s.reportWarnings r).failStartUp_failed .retainRestoreFail "RETAIN_RESTORE_FAIL"
    exact ⟨_, execRetentionExitDone_of_woken hr hw hn _, hfailed⟩
  case rom =>
    intro s r w hr hw hn
    have hfailed := (s.reportWarnings r).failStartUp_failed .sealBootFail "SEAL_BOOT_FAIL"
    exact ⟨_, execRetentionExitDone_of_woken hr hw hn _, hfailed⟩

end Sys2Proof.Machine

/-! Sweeps, stamps and mirror builds (R174, R346, R606 to R608): what the end of each does to the stored bytes, the state of its
drawer or stack, and the translation table. -/

namespace Sys2Proof.Machine

/-! ## Drawers after delivery and announcements -/

@[simp] theorem State.drw_inputOf (s : State) (c : Instr) (d : Nat) : (s.inputOf c).drw d = s.drw d := by simp [State.drw]

theorem State.announces_memEvent (s : State) (e : Ev) (stack flags d sym1 sym2 blk line spare last : Nat) :
    s.Announces (s.memEvent e stack flags d sym1 sym2 blk line spare last) := s.announces_post ..

section
variable {s t : State}

theorem State.Announces.mem (h : s.Announces t) : t.mem = s.mem := (congrArg State.mem h.rest :)

theorem State.Announces.dram (h : s.Announces t) : t.dram = s.dram := (congrArg State.dram h.rest :)

theorem State.Announces.drw (h : s.Announces t) (d : Nat) : t.drw d = s.drw d := by simp only [State.drw, h.dram]

end

/-! ## The bytes of drawers -/

/-- An address tells its drawer. -/
theorem addr_div {off : Nat} (d : Nat) (h : off < 2 ^ 40) : addr d off / 2 ^ 40 = d := by
  unfold addr
  omega

/-- What a byte reads as is a matter of the memory alone. -/
theorem State.byteOf_congr {s t : State} (h : t.mem = s.mem) (d off : Nat) : t.byteOf d off = s.byteOf d off := by
  simp only [State.byteOf, h]

/-- Zeroing a drawer makes its own bytes 0 and leaves those of every other drawer. -/
theorem State.byteOf_zeroDrawer (s : State) (d e : Nat) {off : Nat} (h : off < 2 ^ 40) :
    (s.zeroDrawer d).byteOf e off = if e = d then 0 else s.byteOf e off := by
  have hkeep : (s.zeroDrawer d).byteOf e off = if (addr e off / 2 ^ 40 != d) = true then s.byteOf e off else 0 :=
    FMap.get_keep s.mem (fun a => a / 2 ^ 40 != d) (addr e off) 0
  rw [hkeep, addr_div e h]
  by_cases he : e = d <;> simp [he]

/-! ## WRAP_SWEEP_DONE (R606, R608) -/

/-- The state after a drawer's wrap sweep: its lines are zero lines, no block of it waits for its stamp, and it is swept no
longer. -/
def State.endSweep (s : State) (d : Nat) : State :=
  (s.zeroDrawer d).setDrw d { (s.zeroDrawer d).drw d with sweeping := none, unstamped := [] }

theorem State.byteOf_endSweep (s : State) (d e : Nat) {off : Nat} (h : off < 2 ^ 40) :
    (s.endSweep d).byteOf e off = if e = d then 0 else s.byteOf e off := s.byteOf_zeroDrawer d e h

theorem State.endSweep_sweeping (s : State) (d : Nat) : ((s.endSweep d).drw d).sweeping = none := by
  simp [State.endSweep]

/-- WRAP_SWEEP_DONE of a drawer under sweep ends the sweep, and GEN_SWEEP_DONE announces it. -/
theorem execWrapSweepDone_of_sweeping {s : State} {d at_ : Nat} (hs : (s.drw d).sweeping = some at_) (hg : s.inputsGo = true) :
    execWrapSweepDone d s = .next
      (((s.inputOf (.wrapSweepDone d)).endSweep d).raise .genSweepDone .node 0 d (s.ts - at_) (s.gen d).toNat) := by
  simp [execWrapSweepDone, State.endSweep, State.ts, State.gen, hs, State.deliver_of_go _ _ hg]

/-! ## ZERO_STAMP_DONE and FREE_BLOCK_SWEEP_DONE (R174, R607) -/

/-- ZERO_STAMP_DONE takes its block from those to stamp, in the state after delivery. -/
theorem execZeroStampDone_of_go {s : State} (d b : Nat) (hg : s.inputsGo = true) :
    execZeroStampDone d b s = .next
      ((s.inputOf (.zeroStampDone d b)).setDrw d { s.drw d with unstamped := dropBlock b (s.drw d).unstamped }) := by
  simp [execZeroStampDone, State.deliver_of_go _ _ hg]

/-- FREE_BLOCK_SWEEP_DONE changes the blocks of its stack that await their sweep alone, in the state after delivery. -/
theorem execFreeBlockSweepDone_of_go {s : State} (n : Fin 16) (k : Nat) (hg : s.inputsGo = true) :
    execFreeBlockSweepDone n k s = .next ((s.inputOf (.freeBlockSweepDone n k)).updStk n.val fun x =>
      { x with awaiting := x.awaiting - k, unswept := x.unswept.drop k }) := by
  simp [execFreeBlockSweepDone, State.deliver_of_go _ _ hg]

/-! ## MIRROR_BUILD_DONE (R346) -/

/-- The state with copy `c` of drawer `d` where the plan says, and the drawer degraded no longer. -/
def State.placeCopy (s : State) (d c : Nat) (plan : List Extent) : State :=
  let u := { s with dram.dtt := plan ++ s.dram.dtt.filter fun (e : Extent) => !(e.drawer == d && e.copy == c) }
  u.setDrw d { u.drw d with degraded := false }

theorem State.placeCopy_frame (s : State) (d c : Nat) (plan : List Extent) :
    ((s.placeCopy d c plan).drw d).degraded = false ∧
    (s.placeCopy d c plan).dram.dtt = plan ++ s.dram.dtt.filter (fun e => !(e.drawer == d && e.copy == c)) ∧
    (s.placeCopy d c plan).mem = s.mem := by
  refine ⟨?_, rfl, rfl⟩
  simp [State.placeCopy]

/-- MIRROR_BUILD_DONE with a fitting plan for the missing copy 1 of a degraded drawer places that copy, and MIRROR_REBUILT
announces it. -/
theorem execMirrorBuildDone_of_fits {s : State} {d : Nat} {r : DrawerRec} {plan : List Extent} (hr : s.drawer d = some r)
    (hm : r.mirrored = true) (hd : (s.drw d).degraded = true) (h0 : s.copyComplete r 0 = true)
    (h1 : s.copyComplete r 1 = false) (hp : s.planFits r 1 plan = true) (hg : s.inputsGo = true) :
    execMirrorBuildDone d plan s = .next (((s.inputOf (.mirrorBuildDone d plan)).placeCopy d 1 plan).memEvent .mirrorRebuilt
      ((plan.head?.map fun (e : Extent) => e.stack).getD 0) 0 d 0xFF 0xFF 0 0 0 0) := by
  simp [execMirrorBuildDone, State.placeCopy, hr, hm, hd, h0, h1, hp, State.deliver_of_go _ _ hg]

/-! ## The statement about sweeps, stamps and mirror builds -/

/-- Settles O9: each command does to the state after its delivery what its rule says, and announcing it touches neither the bytes
nor the stored blocks' tables. -/
theorem stampsSweepsAndMirrorsFinish : Obligations.StampsSweepsAndMirrorsFinish := by
  unfold Obligations.StampsSweepsAndMirrorsFinish
  refine ⟨?sweep, ?stamp, ?freed, ?mirror⟩
  case sweep =>
    intro s d at_ hs hg
    have hann := ((s.inputOf (.wrapSweepDone d)).endSweep d).announces_raise .genSweepDone .node 0 d (s.ts - at_) (s.gen d).toNat
    refine ⟨_, execWrapSweepDone_of_sweeping hs hg, fun off hoff => ?_, fun e off he hoff => ?_, ?_⟩
    · rw [State.byteOf_congr hann.mem, State.byteOf_endSweep _ d d hoff, if_pos rfl]
    · rw [State.byteOf_congr hann.mem, State.byteOf_endSweep _ d e hoff, if_neg he, State.byteOf_congr (State.inputOf_mem ..)]
    · rw [hann.drw, State.endSweep_sweeping]
  case stamp => exact fun s d b hg => completes_eq (execZeroStampDone_of_go d b hg)
  case freed => exact fun s n k hg => ⟨_, execFreeBlockSweepDone_of_go n k hg, by simp, by simp⟩
  case mirror =>
    intro s d r plan hr hm hd h0 h1 hp hg
    have hann := ((s.inputOf (.mirrorBuildDone d plan)).placeCopy d 1 plan).announces_memEvent .mirrorRebuilt
      ((plan.head?.map fun (e : Extent) => e.stack).getD 0) 0 d 0xFF 0xFF 0 0 0 0
    obtain ⟨hdegraded, hdtt, hmem⟩ := (s.inputOf (.mirrorBuildDone d plan)).placeCopy_frame d 1 plan
    refine ⟨_, execMirrorBuildDone_of_fits hr hm hd h0 h1 hp hg, ?_, ?_, ?_⟩
    · rw [hann.drw, hdegraded]
    · rw [hann.dram, hdtt, State.inputOf_dram]
    · rw [hann.mem, hmem, State.inputOf_mem]

end Sys2Proof.Machine

/-! What the shared operations of the links leave of each port (chapters 6 and 7): announcements touch none, the end of a session
leaves nothing of it, and sending touches only the queue, the sequence and credit state, and the flits that wait for their ACK. -/

namespace Sys2Proof.Machine

/-- A command completes with what holds of its next state. -/
theorem completes_next {c : Instr} {s t : State} {P : State → Prop} (h : exec c s = .next t) (hP : P t) : Completes c s P :=
  ⟨t, h, hP⟩

/-! ## Operations that touch no port -/

section
variable {s t : State}

theorem State.Announces.port (h : s.Announces t) (p : Nat) : t.port p = s.port p := (congrArg (State.port · p) h.rest :)

theorem State.Announces.fabric (h : s.Announces t) : t.fabric = s.fabric := (congrArg State.fabric h.rest :)

end

theorem State.announces_portEvent (s : State) (e : Ev) (p a c : Nat) : s.Announces (s.portEvent e p a c) := s.announces_raise ..

@[simp] theorem State.port_portEvent (s : State) (e : Ev) (p a c q : Nat) : (s.portEvent e p a c).port q = s.port q :=
  (s.announces_portEvent e p a c).port q

@[simp] theorem State.port_counterWrap (s : State) (off q : Nat) : (s.counterWrap off).port q = s.port q :=
  (s.announces_note ..).port q

@[simp] theorem State.port_settle (s : State) (q : Nat) : s.settle.port q = s.port q := s.announces_settle.port q

@[simp] theorem State.port_emit (s : State) (o : Out) (q : Nat) : (s.emit o).port q = s.port q := rfl

@[simp] theorem State.port_portInput (s : State) (c : Instr) (q : Nat) : (s.portInput c).port q = s.port q := by simp [State.port]

@[simp] theorem State.port_markSent (s : State) (m : Msg) (q : Nat) : (s.markSent m).port q = s.port q := by
  unfold State.markSent
  split <;> rfl

@[simp] theorem State.port_emitFlits (s : State) (p : Nat) (raws : List (List Byte)) (q : Nat) :
    (s.emitFlits p raws).port q = s.port q := foldl_keeps (State.port · q) (fun u x => u.emit (.flit p x)) (fun _ _ => rfl) raws s

@[simp] theorem State.port_emitGone (s : State) (p : Nat) (g : Gone) (q : Nat) : (s.emitGone p g).port q = s.port q := by
  simp [State.emitGone]

@[simp] theorem State.port_sendWords (s : State) (p : Nat) (pass : BitVec 8) (phase q : Nat) :
    (s.sendWords p pass phase).port q = s.port q := by
  unfold State.sendWords
  split <;> rfl

@[simp] theorem State.mem_sendWords (s : State) (p : Nat) (pass : BitVec 8) (phase : Nat) :
    (s.sendWords p pass phase).mem = s.mem := by
  unfold State.sendWords
  split <;> rfl

@[simp] theorem State.port_releasePort (s : State) (p q : Nat) : (s.releasePort p).port q = s.port q :=
  (State.Announces.of_sansSync (s.sansSync_releaseAll (fun w => w.owner == .port p) .linkLost)).port q

@[simp] theorem State.port_endBindings (s : State) (p q : Nat) : (s.endBindings p).port q = s.port q := by
  unfold State.endBindings
  dsimp only
  (repeat' split) <;> rfl

@[simp] theorem State.port_bindEp (s : State) (ep p : Nat) (cert : List Byte) (chain : List (List Byte)) (q : Nat) :
    (s.bindEp ep p cert chain).port q = s.port q := by
  unfold State.bindEp
  (repeat' split) <;> rfl

/-! ## The end of a session (R187, R251) -/

theorem State.port_endSession (s : State) (p : Nat) : (s.endSession p).port p = (s.port p).afterSession := by
  have h : ((s.releasePort p).endBindings p).port p = s.port p := by simp
  unfold State.endSession
  rw [State.port_updPort_self]
  exact congrArg Port.afterSession h

/-- After a failed attempt the port pauses in training with its laser off (R187). -/
theorem State.port_failAttempt (s : State) (p : Nat) (long : Bool) : (s.failAttempt p long).port p =
    { (s.port p).afterSession with mode := .training, step := 0, laser := false, pauseLong := some long } := by
  rw [State.failAttempt, State.port_updPort_self, State.port_endSession]

/-- No session, and nothing that goes on in one. -/
def Port.sessionOver (v : Port) : Prop :=
  v.hasSession = false ∧ v.replayBuf = [] ∧ v.grace = false ∧ v.quiesce = none ∧ v.quiet = none

theorem Port.sessionOver_afterSession (v : Port) : v.afterSession.sessionOver := ⟨rfl, rfl, rfl, rfl, rfl⟩

theorem Port.sessionOver_train {v : Port} (h : v.sessionOver) : v.train.sessionOver := by
  unfold Port.train
  (repeat' split) <;> exact h

theorem State.sessionOver_fullReset (s : State) (p : Nat) (dark : Bool) : ((s.fullReset p dark).port p).sessionOver := by
  rw [State.fullReset, State.port_updPort_self, State.port_endSession]
  cases dark with
  | true => exact (s.port p).sessionOver_afterSession
  | false => exact Port.sessionOver_train (s.port p).sessionOver_afterSession

theorem State.sessionOver_plannedDown (s : State) (p : Nat) (dark : Bool) : ((s.plannedDown p dark).port p).sessionOver :=
  State.sessionOver_fullReset ..

theorem State.sessionOver_forcedDown (s : State) (p reason : Nat) : ((s.forcedDown p reason).port p).sessionOver :=
  State.sessionOver_fullReset ..

theorem State.sessionOver_flushReset (s : State) (p cause : Nat) (down : Bool) : ((s.flushReset p cause down).port p).sessionOver :=
  State.sessionOver_fullReset ..

/-! ## Hold and grace (R243, R244) -/

theorem State.port_linkDown (s : State) (p cause : Nat) :
    (s.linkDown p cause).port p = { s.port p with cause := cause, errWin := [] } := by
  simp [State.linkDown]

/-- A port in hold and grace: it has stopped sending, and keeps its session, replay buffer, credits and queue. -/
def Port.onHold (v : Port) (cause : Nat) : Port :=
  { v with
    mode := .hold, frozen := true, grace := true, run := none, runDue := none, nakDue := false, quiet := none
    peerQuiet := none, doze := none, timeouts := 0, awaitNak := false, cause := cause, errWin := [] }

theorem State.port_goHold {s : State} {p : Nat} (cause : Nat) (hs : (s.port p).hasSession = true) (hm : (s.port p).mode ≠ .hold) :
    (s.goHold p cause).port p = (s.port p).onHold cause := by
  have hif : (!(s.port p).hasSession || (s.port p).mode == .hold) = false := by simp [hs, hm]
  simp [State.goHold, hif, State.port_linkDown, Port.onHold]

/-! ## What sending leaves of a port -/

/-- A quiet slot but for the position at which it starts. -/
def Quiet.unplaced (q : Quiet) : Quiet := { q with at_ := none }

/-- A port but for what sending changes: the queue, the sequence and credit state, the replay buffer, the counts of flits, and the
position at which a quiet slot starts once its QUIET_REQ has gone. -/
def Port.sansTraffic (v : Port) : Port :=
  { v with
    txq := [], owed := [], nextSeq := 0, ackSent := 0, txPos := 0, credits := [], replayBuf := [], flitsTx := 0, flitsTxW := 0
    quiet := v.quiet.map Quiet.unplaced }

/-- A port but for what sending changes and what waking for work does. -/
def Port.sansWork (v : Port) : Port := { v.sansTraffic with doze := none, laser := false }

theorem Port.quiet_of_sansTraffic {v w : Port} {q : Quiet} (h : w.sansTraffic = v.sansTraffic) (hq : v.quiet = some q) :
    ∃ a, w.quiet = some { q with at_ := a } := by
  have hmap : w.quiet.map Quiet.unplaced = v.quiet.map Quiet.unplaced := (congrArg Port.quiet h :)
  rw [hq, Option.map_some] at hmap
  obtain ⟨x, hx, he⟩ := Option.map_eq_some_iff.1 hmap
  exact ⟨x.at_, hx.trans (congrArg (fun y : Quiet => some { y with at_ := x.at_ }) he :)⟩

section
variable {v w : Port} (h : w.sansWork = v.sansWork)
include h

theorem Port.mode_of_sansWork : w.mode = v.mode := (congrArg Port.mode h :)
theorem Port.everUp_of_sansWork : w.everUp = v.everUp := (congrArg Port.everUp h :)
theorem Port.session_of_sansWork : w.session = v.session := (congrArg Port.session h :)
theorem Port.hasSession_of_sansWork : w.hasSession = v.hasSession := (congrArg Port.hasSession h :)
theorem Port.awaitNak_of_sansWork : w.awaitNak = v.awaitNak := (congrArg Port.awaitNak h :)
theorem Port.quiesce_of_sansWork : w.quiesce = v.quiesce := (congrArg Port.quiesce h :)
theorem Port.peerQuiet_of_sansWork : w.peerQuiet = v.peerQuiet := (congrArg Port.peerQuiet h :)

end

theorem Port.doze_of_sansTraffic {v w : Port} (h : w.sansTraffic = v.sansTraffic) : w.doze = v.doze := (congrArg Port.doze h :)

theorem Port.quiet_none_of_sansWork {v w : Port} (h : w.sansWork = v.sansWork) (hq : v.quiet = none) : w.quiet = none := by
  have hmap : w.quiet.map Quiet.unplaced = v.quiet.map Quiet.unplaced := (congrArg Port.quiet h :)
  rwa [hq, Option.map_none, Option.map_eq_none_iff] at hmap

theorem Port.sansWork_of_sansTraffic {v w : Port} (h : w.sansTraffic = v.sansTraffic) : w.sansWork = v.sansWork :=
  congrArg (fun u : Port => { u with doze := none, laser := false }) h

/-- No LINK_DOWN_PLANNED has been sent or waits: the session is not about to end (R253). -/
def Port.Unplanned (v : Port) : Prop :=
  (∀ x ∈ v.replayBuf, isVc3 0x18 x.msg = false) ∧ ∀ m ∈ v.txq, isVc3 0x18 (some m) = false

theorem Port.Unplanned.closed {v : Port} (h : v.Unplanned) : v.closed = false := by
  rw [Port.closed, List.any_eq_false]
  exact fun x hx => by simp [h.1 x hx]

theorem Port.openEnded_iff {v : Port} : v.openEnded = true ↔ v.quiesce = none ∧ v.Unplanned := by
  simp [Port.openEnded, Port.closed, Port.Unplanned, and_assoc]

/-- What every port keeps where port `p` is set to one that agrees with it. -/
theorem State.setPort_keeps {β : Type} (g : Port → β) {s : State} {p : Nat} {w : Port} (h : g w = g (s.port p)) (q : Nat) :
    g ((s.setPort p w).port q) = g (s.port q) := by
  by_cases hq : q = p
  · rw [hq, State.port_setPort_self, h]
  · rw [State.port_setPort_ne s w hq]

/-! ## DATA flits (R217, R226, R235) -/

theorem Port.putFlits_frame (withheld : List Bool) (xs : List (List Byte)) (v : Port) : ∃ owed nextSeq ackSent txPos,
    (Port.putFlits withheld xs v).1 =
      { v with owed := owed, nextSeq := nextSeq, ackSent := ackSent, txPos := txPos } := by
  induction xs generalizing v with
  | nil => exact ⟨_, _, _, _, rfl⟩
  | cons x xs ih =>
    obtain ⟨o, n, a, t, h⟩ := ih { v with
      owed := v.owed.zipWith (· - ·) (v.crNow withheld), nextSeq := v.nextSeq + 1, ackSent := v.expected, txPos := v.txPos + 1 }
    exact ⟨o, n, a, t, h⟩

theorem Port.launch_frame (v : Port) (m : Msg) (bytes : List Byte) (withheld : List Bool) :
    (v.launch m bytes withheld).1.sansTraffic = v.sansTraffic ∧ (v.launch m bytes withheld).1.txq = v.txq ∧
    ∃ raw, (v.launch m bytes withheld).1.replayBuf = v.replayBuf ++ [{ first := v.nextSeq, raw := raw, msg := some m }] := by
  obtain ⟨o, n, a, t, h⟩ := Port.putFlits_frame withheld (payloads bytes) v
  refine ⟨?_, by simp only [Port.launch, h], ⟨_, rfl⟩⟩
  simp only [Port.launch, h, Port.sansTraffic]
  split
  · rw [Option.map_map]
    rfl
  · rfl

theorem State.port_countTx (s : State) (p n : Nat) : ∃ k w,
    (s.countTx p n).port p = { s.port p with flitsTx := k, flitsTxW := w } := by
  unfold State.countTx
  dsimp only
  split
  · exact ⟨_, _, (State.port_counterWrap ..).trans (State.port_setPort_self ..)⟩
  · exact ⟨_, _, State.port_setPort_self ..⟩

theorem State.port_countTx_ne (s : State) (p n : Nat) {q : Nat} (h : q ≠ p) : (s.countTx p n).port q = s.port q := by
  unfold State.countTx
  dsimp only
  split <;> simp [State.port_setPort_ne _ _ h]

/-- Counting flits touches nothing of a port but their count. -/
theorem State.countTx_keeps {β : Type} (g : Port → β) (hg : ∀ v k w, g { v with flitsTx := k, flitsTxW := w } = g v) (s : State)
    (p n q : Nat) : g ((s.countTx p n).port q) = g (s.port q) := by
  by_cases h : q = p
  · obtain ⟨k, w, he⟩ := s.port_countTx p n
    rw [h, he, hg]
  · rw [State.port_countTx_ne s p n h]

@[simp] theorem State.sansTraffic_countTx (s : State) (p n q : Nat) :
    ((s.countTx p n).port q).sansTraffic = (s.port q).sansTraffic := State.countTx_keeps _ (fun _ _ _ => rfl) s p n q

theorem State.announces_counterWrap (s : State) (off : Nat) : s.Announces (s.counterWrap off) := s.announces_note ..

@[simp] theorem State.fabric_countTx (s : State) (p n : Nat) : (s.countTx p n).fabric = s.fabric := by
  unfold State.countTx
  dsimp only
  split
  · exact (State.announces_counterWrap _ _).fabric
  · rfl

theorem State.mem_out_countTx {s : State} {o : Out} (p n : Nat) (h : o ∈ s.out) : o ∈ (s.countTx p n).out := by
  unfold State.countTx
  dsimp only
  split
  · exact (State.announces_counterWrap _ _).mem_out h
  · exact h

theorem State.out_emitFlits (s : State) (p : Nat) (raws : List (List Byte)) : s.out <+: (s.emitFlits p raws).out :=
  foldl_holds (fun u : State => s.out <+: u.out) (fun u x => u.emit (.flit p x))
    (fun _ _ hu => hu.trans (List.prefix_append ..)) raws s List.prefix_rfl

/-- A credit-only flit goes into the replay buffer without a message. -/
theorem State.creditOnly_frame (s : State) (p : Nat) :
    (∀ q, ((s.creditOnly p).port q).sansTraffic = (s.port q).sansTraffic) ∧
    (∀ q, ((s.creditOnly p).port q).txq = (s.port q).txq) ∧
    (∃ n raw, ((s.creditOnly p).port p).replayBuf = (s.port p).replayBuf ++ [{ first := n, raw := raw, msg := none }]) := by
  obtain ⟨o, n, a, t, h⟩ := Port.putFlits_frame (s.withheld p) [[]] (s.port p)
  refine ⟨fun q => ?_, fun q => ?_, ⟨(s.port p).nextSeq, (Port.putFlits (s.withheld p) [[]] (s.port p)).2, ?_⟩⟩
  · simp only [State.creditOnly, State.sansTraffic_countTx, State.port_emitFlits]
    exact State.setPort_keeps _ (by simp only [h]; rfl) q
  · rw [State.creditOnly, State.countTx_keeps Port.txq (fun _ _ _ => rfl), State.port_emitFlits]
    exact State.setPort_keeps _ (by simp only [h]) q
  · rw [State.creditOnly, State.countTx_keeps Port.replayBuf (fun _ _ _ => rfl), State.port_emitFlits, State.port_setPort_self]

/-! ## The transmit queue (R200, R226) -/

/-- What sending a queue makes of the port. -/
theorem pumpQueue_port (bytes : Msg → List Byte) (withheld : List Bool) (ms : List Msg) (stuck : List Nat) (v : Port) :
    (pumpQueue bytes withheld ms stuck v).2.1.sansTraffic = v.sansTraffic ∧
    ∀ x ∈ (pumpQueue bytes withheld ms stuck v).2.1.replayBuf, x ∈ v.replayBuf ∨ ∃ m ∈ ms, x.msg = some m := by
  induction ms generalizing stuck v with
  | nil => exact ⟨rfl, fun x hx => .inl hx⟩
  | cons m ms ih =>
    obtain ⟨hframe, -, raw, hbuf⟩ := v.launch_frame m (bytes m) withheld
    unfold pumpQueue
    dsimp only
    split
    · obtain ⟨ih1, ih2⟩ := ih stuck (v.launch m (bytes m) withheld).1
      refine ⟨ih1.trans hframe, fun x hx => ?_⟩
      rcases ih2 x hx with h | ⟨k, hk, he⟩
      · rw [hbuf, List.mem_append, List.mem_singleton] at h
        rcases h with h | rfl
        · exact .inl h
        · exact .inr ⟨m, List.mem_cons_self, rfl⟩
      · exact .inr ⟨k, List.mem_cons_of_mem _ hk, he⟩
    · obtain ⟨ih1, ih2⟩ := ih (m.vc :: stuck) v
      exact ⟨ih1, fun x hx => (ih2 x hx).imp_right fun ⟨k, hk, he⟩ => ⟨k, List.mem_cons_of_mem _ hk, he⟩⟩

/-- Each message of a queue stays or goes, and none joins it. -/
theorem pumpQueue_queue (bytes : Msg → List Byte) (withheld : List Bool) (ms : List Msg) (stuck : List Nat) (v : Port) :
    (∀ m ∈ (pumpQueue bytes withheld ms stuck v).1, m ∈ ms) ∧
    ∀ m ∈ ms, m ∈ (pumpQueue bytes withheld ms stuck v).1 ∨ ∃ g ∈ (pumpQueue bytes withheld ms stuck v).2.2, g.msg = m := by
  induction ms generalizing stuck v with
  | nil => exact ⟨fun m hm => hm, fun m hm => .inl hm⟩
  | cons k ms ih =>
    unfold pumpQueue
    dsimp only
    split
    · obtain ⟨ih1, ih2⟩ := ih stuck (v.launch k (bytes k) withheld).1
      refine ⟨fun m hm => List.mem_cons_of_mem _ (ih1 m hm), fun m hm => ?_⟩
      rcases List.mem_cons.1 hm with rfl | hm
      · exact .inr ⟨_, List.mem_cons_self, rfl⟩
      · exact (ih2 m hm).imp_right fun ⟨g, hg, he⟩ => ⟨g, List.mem_cons_of_mem _ hg, he⟩
    · obtain ⟨ih1, ih2⟩ := ih (k.vc :: stuck) v
      refine ⟨fun m hm => ?_, fun m hm => ?_⟩
      · rcases List.mem_cons.1 hm with rfl | hm
        · exact List.mem_cons_self
        · exact List.mem_cons_of_mem _ (ih1 m hm)
      · rcases List.mem_cons.1 hm with rfl | hm
        · exact .inl List.mem_cons_self
        · exact (ih2 m hm).imp_left (List.mem_cons_of_mem _)

/-- Port `p` with what may go of its transmit queue gone. -/
def State.pumped (s : State) (p : Nat) : State :=
  let r := pumpQueue (s.msgBytes p) (s.withheld p) (s.port p).txq [] { s.port p with txq := [] }
  r.2.2.foldl (fun u x => u.emitGone p x) (s.setPort p { r.2.1 with txq := r.1 })

theorem State.pump_of_not_maySend {s : State} {p : Nat} (h : (s.port p).maySend = false) : s.pump p = s := by
  simp [State.pump, h]

/-- What holds of a state, is kept when messages of the queue go, and does not depend on the count of flits or on a credit-only flit,
holds once port `p` has sent what it may. -/
theorem State.pump_induction {P : State → Prop} {s : State} {p : Nat} (h0 : P s) (hq : P (s.pumped p))
    (hcount : ∀ u n, P u → P (u.countTx p n)) (hcredit : ∀ u, P u → P (u.creditOnly p)) : P (s.pump p) := by
  unfold State.pump
  dsimp only
  split
  · exact h0
  · split
    · exact hcount _ _ hq
    · split
      · exact hcredit _ hq
      · exact hq

theorem State.port_pumped (s : State) (p q : Nat) : (s.pumped p).port q =
    (s.setPort p { (pumpQueue (s.msgBytes p) (s.withheld p) (s.port p).txq [] { s.port p with txq := [] }).2.1 with
      txq := (pumpQueue (s.msgBytes p) (s.withheld p) (s.port p).txq [] { s.port p with txq := [] }).1 }).port q :=
  foldl_keeps (State.port · q) (fun u x => u.emitGone p x) (fun u x => u.port_emitGone p x q) _ _

@[simp] theorem State.sansTraffic_pump (s : State) (p q : Nat) : ((s.pump p).port q).sansTraffic = (s.port q).sansTraffic := by
  refine State.pump_induction (P := fun u => (u.port q).sansTraffic = (s.port q).sansTraffic) rfl ?_ ?_ ?_
  · rw [State.port_pumped]
    refine State.setPort_keeps Port.sansTraffic ?_ q
    exact (congrArg (fun w : Port => { w with txq := [] }) (pumpQueue_port ..).1 :)
  · exact fun u n hu => (u.sansTraffic_countTx p n q).trans hu
  · exact fun u hu => ((u.creditOnly_frame p).1 q).trans hu

/-- Sending announces no end of the session: it adds no LINK_DOWN_PLANNED. -/
theorem State.unplanned_pump {s : State} {p : Nat} (h : (s.port p).Unplanned) : ((s.pump p).port p).Unplanned := by
  obtain ⟨hbuf, htxq⟩ := h
  refine State.pump_induction (P := fun u => (u.port p).Unplanned) ⟨hbuf, htxq⟩ ?_ (fun u n hu => ?_) fun u hu => ?_
  · rw [State.port_pumped, State.port_setPort_self]
    refine ⟨fun x hx => ?_, fun m hm => htxq m ((pumpQueue_queue ..).1 m hm)⟩
    rcases (pumpQueue_port ..).2 x hx with hx | ⟨m, hm, he⟩
    · exact hbuf x hx
    · rw [he]
      exact htxq m hm
  · obtain ⟨k, w, he⟩ := u.port_countTx p n
    rw [he]
    exact hu
  · obtain ⟨-, hq, n, raw, hr⟩ := u.creditOnly_frame p
    refine ⟨fun x hx => ?_, fun m hm => hu.2 m (hq p ▸ hm)⟩
    rw [hr, List.mem_append, List.mem_singleton] at hx
    rcases hx with hx | rfl
    · exact hu.1 x hx
    · rfl

theorem State.mem_out_emitGone {s : State} {o : Out} (p : Nat) (g : Gone) (h : o ∈ s.out) : o ∈ (s.emitGone p g).out := by
  have hmark : (s.markSent g.msg).out = s.out := by
    unfold State.markSent
    split <;> rfl
  exact (State.out_emitFlits _ p g.flits).subset (List.mem_append_left _ (hmark ▸ h))

theorem State.message_mem_emitGone (s : State) (p : Nat) (g : Gone) : .message p g.seq g.msg ∈ (s.emitGone p g).out :=
  (State.out_emitFlits _ p g.flits).subset (List.mem_append_right _ List.mem_cons_self)

theorem State.message_mem_foldl_emitGone {p : Nat} {gs : List Gone} {g : Gone} (hg : g ∈ gs) (s : State) :
    .message p g.seq g.msg ∈ (gs.foldl (fun u x => u.emitGone p x) s).out := by
  induction gs generalizing s with
  | nil => cases hg
  | cons x gs ih =>
    rcases List.mem_cons.1 hg with rfl | hg
    · exact foldl_holds (fun u : State => .message p g.seq g.msg ∈ u.out) (fun u x => u.emitGone p x)
        (fun u x hu => State.mem_out_emitGone p x hu) gs _ (s.message_mem_emitGone p g)
    · exact ih hg _

/-- A message in the queue goes, or waits there for credit. -/
theorem State.sends_pump {s : State} {p : Nat} {m : Msg} (h : m ∈ (s.port p).txq) : (s.pump p).sends p m := by
  refine State.pump_induction (P := fun u => u.sends p m) (.inl h) ?_ (fun u n hu => ?_) fun u hu => ?_
  · rcases (pumpQueue_queue (s.msgBytes p) (s.withheld p) (s.port p).txq [] { s.port p with txq := [] }).2 m h with hm | ⟨g, hg, rfl⟩
    · left
      rw [State.port_pumped, State.port_setPort_self]
      exact hm
    · exact .inr ⟨g.seq, State.message_mem_foldl_emitGone hg _⟩
  · rcases hu with hu | ⟨k, hu⟩
    · left
      rwa [State.countTx_keeps Port.txq (fun _ _ _ => rfl)]
    · exact .inr ⟨k, State.mem_out_countTx p n hu⟩
  · rcases hu with hu | ⟨k, hu⟩
    · left
      rwa [(u.creditOnly_frame p).2.1 p]
    · exact .inr ⟨k, State.mem_out_countTx p 1 ((State.out_emitFlits _ _ _).subset hu)⟩

theorem State.port_pump_ne (s : State) (p : Nat) {q : Nat} (h : q ≠ p) : (s.pump p).port q = s.port q := by
  refine State.pump_induction (P := fun u => u.port q = s.port q) rfl ?_ (fun u n hu => ?_) fun u hu => ?_
  · rw [State.port_pumped, State.port_setPort_ne _ _ h]
  · rw [State.port_countTx_ne u p n h, hu]
  · rw [State.creditOnly, State.port_countTx_ne _ _ _ h, State.port_emitFlits, State.port_setPort_ne _ _ h, hu]

/-! ## Sending one message -/

/-- A port to which a message has been handed: it waits in the queue, and a dozing port begins to wake for it (R209). -/
def Port.handed (v : Port) (m : Msg) : Port := { v with txq := v.txq ++ [m] }.wakeForWork

section
variable (v : Port) (m : Msg)

theorem Port.sansWork_handed : (v.handed m).sansWork = v.sansWork := by
  unfold Port.handed Port.wakeForWork
  split <;> rfl

theorem Port.replayBuf_handed : (v.handed m).replayBuf = v.replayBuf := by
  unfold Port.handed Port.wakeForWork
  split <;> rfl

theorem Port.txq_handed : (v.handed m).txq = v.txq ++ [m] := by
  unfold Port.handed Port.wakeForWork
  split <;> rfl

theorem Port.handed_of_awake (h : v.mode ≠ .doze) : v.handed m = { v with txq := v.txq ++ [m] } := by
  simp [Port.handed, Port.wakeForWork, h]

end

theorem State.send_eq (s : State) (p : Nat) (m : Msg) : s.send p m = (s.updPort p (·.handed m)).pump p := rfl

@[simp] theorem State.sansWork_send (s : State) (p : Nat) (m : Msg) (q : Nat) :
    ((s.send p m).port q).sansWork = (s.port q).sansWork :=
  (Port.sansWork_of_sansTraffic (State.sansTraffic_pump ..)).trans (State.setPort_keeps _ (Port.sansWork_handed _ m) q)

/-- A port that is not dozing keeps all but what sending changes. -/
theorem State.sansTraffic_send {s : State} {p : Nat} (m : Msg) (h : (s.port p).mode ≠ .doze) :
    ((s.send p m).port p).sansTraffic = (s.port p).sansTraffic := by
  rw [State.send_eq, State.sansTraffic_pump, State.port_updPort_self, Port.handed_of_awake _ m h]
  rfl

theorem State.sends_send (s : State) (p : Nat) (m : Msg) : (s.send p m).sends p m := by
  rw [State.send_eq]
  refine State.sends_pump ?_
  rw [State.port_updPort_self, Port.txq_handed]
  exact List.mem_append_right _ List.mem_cons_self

theorem State.unplanned_send {s : State} {p : Nat} {m : Msg} (hm : isVc3 0x18 (some m) = false) (h : (s.port p).Unplanned) :
    ((s.send p m).port p).Unplanned := by
  rw [State.send_eq]
  refine State.unplanned_pump ?_
  rw [State.port_updPort_self, Port.Unplanned, Port.replayBuf_handed, Port.txq_handed]
  refine ⟨h.1, fun k hk => ?_⟩
  rcases List.mem_append.1 hk with hk | hk
  · exact h.2 k hk
  · rw [List.mem_singleton.1 hk]
    exact hm

/-- A port that awaits the NAK of a resume sends nothing (Table 7–8). -/
theorem State.replayBuf_send {s : State} {q : Nat} (h : (s.port q).awaitNak = true) (p : Nat) (m : Msg) :
    ((s.send p m).port q).replayBuf = (s.port q).replayBuf := by
  by_cases hp : q = p
  · subst hp
    have hwait : ((s.port q).handed m).awaitNak = true := (Port.awaitNak_of_sansWork ((s.port q).sansWork_handed m)).trans h
    have hstill : ((s.updPort q (·.handed m)).port q).maySend = false := by simp [Port.maySend, hwait]
    rw [State.send_eq, State.pump_of_not_maySend hstill, State.port_updPort_self, Port.replayBuf_handed]
  · rw [State.send_eq, State.port_pump_ne _ _ hp, State.port_updPort_ne _ _ hp]

/-! ## Outbound requests (R283, R289) -/

/-- Placing a request sends at most one message. -/
theorem State.assign_induction {P : State → Prop} {s : State} (o : OutReq) (h0 : P s)
    (hout : ∀ l, P { s with fabric.outbound := l }) (hsend : ∀ u p m, P u → P (u.send p m)) : P (s.assign o) := by
  unfold State.assign
  split
  · exact h0
  · exact hsend _ _ _ (hout _)

/-- What does not depend on the node's outbound requests, and sending a message keeps, placing requests keeps. -/
theorem State.assignAll_induction {P : State → Prop} {s : State} (h0 : P s)
    (hout : ∀ u l k, P u → P { u with fabric.outbound := l, fabric.stalled := k }) (hsend : ∀ u p m, P u → P (u.send p m)) :
    P s.assignAll := by
  unfold State.assignAll
  refine foldl_holds P _ (fun u o hu => State.assign_induction o hu (fun l => hout u l u.fabric.stalled hu) hsend) _ _ ?_
  refine foldl_holds P _ (fun u o hu => ?_) _ _ (hout s s.fabric.outbound [] h0)
  unfold State.enqueue
  split
  · exact hout u _ u.fabric.stalled hu
  · exact hout u u.fabric.outbound _ hu

@[simp] theorem State.sansWork_assignAll (s : State) (q : Nat) : (s.assignAll.port q).sansWork = (s.port q).sansWork := by
  refine State.assignAll_induction (P := fun u => (u.port q).sansWork = (s.port q).sansWork) rfl (fun u l k hu => ?_)
    fun u p m hu => ?_
  · exact hu
  · exact (u.sansWork_send p m q).trans hu

theorem State.replayBuf_assignAll {s : State} {q : Nat} (h : (s.port q).awaitNak = true) :
    (s.assignAll.port q).replayBuf = (s.port q).replayBuf := by
  refine (State.assignAll_induction (P := fun u => (u.port q).awaitNak = true ∧ (u.port q).replayBuf = (s.port q).replayBuf)
    ⟨h, rfl⟩ (fun _ _ _ hu => hu) fun u p m hu => ⟨?_, (State.replayBuf_send hu.1 p m).trans hu.2⟩).2
  exact (Port.awaitNak_of_sansWork (u.sansWork_send p m q)).trans hu.1

/-! ## After a flit (R252, R253) -/

theorem State.closeSent_of_unplanned {s : State} {p : Nat} (h : (s.port p).Unplanned) : s.closeSent p = s := by
  simp [State.closeSent, h.closed]

theorem State.quiesceStep_of_none {s : State} {p : Nat} (h : (s.port p).quiesce = none) : s.quiesceStep p = s := by
  simp [State.quiesceStep, h]

/-- Where nothing is about to end the session, what follows a flit is what may be sent. -/
theorem State.afterFlit_of_openEnded {s : State} {p : Nat} (h : (s.port p).openEnded = true) : s.afterFlit p = s.pump p := by
  obtain ⟨hq, hu⟩ := Port.openEnded_iff.1 h
  have hq' : ((s.pump p).port p).quiesce = none := 
    (Port.quiesce_of_sansWork (Port.sansWork_of_sansTraffic (s.sansTraffic_pump p p))).trans hq
  rw [State.afterFlit, State.quiesceStep_of_none hq', State.closeSent_of_unplanned (State.unplanned_pump hu)]

end Sys2Proof.Machine

/-! Port training (R182, R185 to R187, R196): what each step of an attempt, its end and its timers make of the port. -/

namespace Sys2Proof.Machine

/-! ## Key agreement's flits and the first message of a session (R215, R225) -/

section
variable (s : State) (p : Nat)

@[simp] theorem State.mem_sendTrain (bytes : List Byte) : (s.sendTrain p bytes).mem = s.mem :=
  (State.undisturbed_emitFlits _ p _).2.1

/-- TRAIN flits move the port's position in the stream and nothing else of it. -/
theorem State.port_sendTrain (bytes : List Byte) : ∃ n, (s.sendTrain p bytes).port p = { s.port p with txPos := n } :=
  ⟨_, (State.port_emitFlits ..).trans (State.port_updPort_self ..)⟩

@[simp] theorem State.mem_launchNow (m : Msg) : (s.launchNow p m).mem = s.mem :=
  (State.undisturbed_countTx _ p _).2.1.trans (State.undisturbed_emitGone _ p _).2.1

theorem State.sansTraffic_launchNow (m : Msg) : ((s.launchNow p m).port p).sansTraffic = (s.port p).sansTraffic := by
  rw [State.launchNow, State.sansTraffic_countTx, State.port_emitGone, State.port_setPort_self]
  exact (Port.launch_frame ..).1

theorem State.message_mem_launchNow (m : Msg) : ∃ n, .message p n m ∈ (s.launchNow p m).out :=
  ⟨_, State.mem_out_countTx p _ (State.message_mem_emitGone _ p { seq := (s.port p).nextSeq, msg := m, flits := _ })⟩

@[simp] theorem State.mem_bindEp (ep : Nat) (cert : List Byte) (chain : List (List Byte)) :
    (s.bindEp ep p cert chain).mem = s.mem := by
  unfold State.bindEp
  (repeat' split) <;> rfl

@[simp] theorem State.out_bindEp (ep : Nat) (cert : List Byte) (chain : List (List Byte)) :
    (s.bindEp ep p cert chain).out = s.out := by
  unfold State.bindEp
  (repeat' split) <;> rfl

/-- Binding the peer changes the port's bound endpoint ID and the table of bindings alone (R193). -/
theorem State.bindPeer_frame : (s.bindPeer p).mem = s.mem ∧ (s.bindPeer p).out = s.out ∧
    ∃ ep, (s.bindPeer p).port p = { s.port p with ep := ep } := by
  unfold State.bindPeer
  split
  · split
    · exact ⟨rfl, rfl, _, rfl⟩
    · exact ⟨by simp, by simp, _, by rw [State.port_updPort_self, State.port_bindEp]⟩
  · exact ⟨rfl, rfl, _, rfl⟩

end

/-! ## Steps 5 to 7 (R190, R225, Table 6–3) -/

/-- Key agreement begins with a fresh nonce and ephemeral key, and nothing of it done. -/
theorem State.beginAgreement_frame (s : State) (p : Nat) : ((s.beginAgreement p).port p).step = 6 ∧
    (∃ k, ((s.beginAgreement p).port p).ka = some k ∧ k.finished = false ∧ k.finishSent = false) ∧
    (s.beginAgreement p).mem = s.mem := by
  unfold State.beginAgreement
  extract_lets nonce eph s1
  obtain ⟨n, hn⟩ := s1.port_sendTrain p (vc3Bytes 0x01 (helloFields nonce eph))
  obtain ⟨k, hk⟩ := (s1.sendTrain p (vc3Bytes 0x01 (helloFields nonce eph))).port_sendTrain p
    (vc3Bytes 0x02 (certFields Config.identityChain Config.linkPublic Config.linkSignature))
  have hs1 : s1.port p = { s.port p with step := 6, ka := some { nonce := nonce, eph := eph } } := State.port_updPort_self ..
  rw [hk, hn, hs1]
  exact ⟨rfl, ⟨_, rfl, rfl, rfl⟩, by simp [s1]⟩

/-- A session opens with CREDIT_INIT for a peer whose certificate no other binding of the group's ID contradicts. -/
theorem State.openSession_frame {s : State} {p : Nat} (h : optAny (s.port p).cert (s.identityClash p) = false) :
    ((s.openSession p).port p).step = 7 ∧ ((s.openSession p).port p).hasSession = true ∧
    (∃ n, .message p n (vc3Msg 0x10 creditInitFields) ∈ (s.openSession p).out) ∧ (s.openSession p).mem = s.mem := by
  rw [State.openSession, if_neg (by simp [h])]
  extract_lets s1
  obtain ⟨hmem, hout, ep, hport⟩ := (s1.launchNow p (vc3Msg 0x10 creditInitFields)).bindPeer_frame p
  have hframe := s1.sansTraffic_launchNow p (vc3Msg 0x10 creditInitFields)
  have hs1 : s1.port p = { s.port p with hasSession := true, step := 7, credits := [0, 0, 0, 128] } := State.port_updPort_self ..
  rw [hs1] at hframe
  refine ⟨?_, ?_, ?_, ?_⟩
  · rw [hport]
    exact (congrArg Port.step hframe :)
  · rw [hport]
    exact (congrArg Port.hasSession hframe :)
  · rw [hout]
    exact s1.message_mem_launchNow p _
  · rw [hmem, State.mem_launchNow]
    rfl

/-- A port with nothing under way comes up with the session it has. -/
theorem State.comeUp_frame {s : State} {p : Nat} (hq : (s.port p).txq = []) (hc : (s.port p).closed = false)
    (hz : (s.port p).quiesce = none) : ((s.comeUp p).port p).mode = .up ∧ ((s.comeUp p).port p).everUp = true ∧
    ((s.comeUp p).port p).hasSession = (s.port p).hasSession ∧ (s.comeUp p).mem = s.mem := by
  unfold State.comeUp State.resumeTraffic
  extract_lets s1
  have hs1 : (s1.portEvent .linkUp p 0 0).port p = { s.port p with
      mode := .up, step := 0, everUp := true, synthFails := 0, synthHw := false, floodRaised := false, errWin := []
      alarmHw := (s.port p).alarmHw &&& (s.port p).activeLanes, frozen := false } :=
    (State.port_portEvent ..).trans (State.port_updPort_self ..)
  have hopen : ((s1.portEvent .linkUp p 0 0).port p).openEnded = true := by
    rw [hs1]
    simpa [Port.openEnded, Port.closed, hq, hz] using hc
  have hwork : ((((s1.portEvent .linkUp p 0 0).afterFlit p).assignAll.settle).port p).sansWork =
      ((s1.portEvent .linkUp p 0 0).port p).sansWork := by
    rw [State.port_settle, State.sansWork_assignAll, State.afterFlit_of_openEnded hopen]
    exact Port.sansWork_of_sansTraffic (State.sansTraffic_pump ..)
  rw [hs1] at hwork
  refine ⟨Port.mode_of_sansWork hwork, Port.everUp_of_sansWork hwork, (Port.hasSession_of_sansWork hwork :), ?_⟩
  simp [s1]

/-! ## The commands of training -/

section
variable {s : State} {p : Fin 32} {a : BitVec 8} {b : List (Fin 8 × List Byte)}

theorem execTrainingStepDone_of_step_one (hm : (s.port p.val).mode = .training) (hs : (s.port p.val).step = 1) :
    execTrainingStepDone p a b s =
      .next ((s.setPort p.val { s.port p.val with step := 2, synthFails := 0 }).sendWords p.val 0 0) := by
  simp [execTrainingStepDone, hm, hs]

theorem execTrainingStepDone_of_step_two (hm : (s.port p.val).mode = .training) (hs : (s.port p.val).step = 2) :
    execTrainingStepDone p a b s =
      .next ((s.setPort p.val { s.port p.val with step := 3 }).sendWords p.val (a &&& ~~~(s.port p.val).alarms) 1) := by
  simp [execTrainingStepDone, hm, hs]

theorem execTrainingStepDone_of_step_three (hm : (s.port p.val).mode = .training) (hs : (s.port p.val).step = 3) :
    execTrainingStepDone p a b s = .next
      ((s.setPort p.val ((s.port p.val).masks (optAny (s.groupOf p.val) (·.half)) a b)).sendWords p.val
        ((s.port p.val).masks (optAny (s.groupOf p.val) (·.half)) a b).passRx 1) := by
  simp [execTrainingStepDone, hm, hs]

theorem execTrainingStepDone_of_step_four {g : GroupRec} {w : Nat × Nat} (hm : (s.port p.val).mode = .training)
    (hs : (s.port p.val).step = 4) (hg : s.groupOf p.val = some g)
    (hw : chooseWidth g.fallback g.minWidth ((s.port p.val).passTx &&& (s.port p.val).passRx) = some w) :
    execTrainingStepDone p a b s = .next
      ((s.setPort p.val { s.port p.val with step := 5, width := w.1, lane0 := w.2, half := g.half }).sendWords p.val
        (s.port p.val).passRx 2) := by
  simp [execTrainingStepDone, hm, hs, hg, hw]

theorem execTrainingStepDone_of_step_five (hm : (s.port p.val).mode = .training) (hs : (s.port p.val).step = 5) :
    execTrainingStepDone p a b s = .next (s.beginAgreement p.val) := by
  simp [execTrainingStepDone, hm, hs]

theorem execTrainingStepDone_of_step_six {k : Agreement} (hm : (s.port p.val).mode = .training) (hs : (s.port p.val).step = 6)
    (hk : (s.port p.val).ka = some k) (hf : k.finished = true) (hsent : k.finishSent = true) :
    execTrainingStepDone p a b s = .next (s.openSession p.val) := by
  simp [execTrainingStepDone, hm, hs, hk, optAny, hf, hsent]

theorem execTrainingStepDone_of_step_seven (hm : (s.port p.val).mode = .training) (hs : (s.port p.val).step = 7)
    (hc : (s.port p.val).creditInit = true) :
    execTrainingStepDone p a b s = .next ((s.portInput (.trainingStepDone p a b)).comeUp p.val) := by
  simp [execTrainingStepDone, hm, hs, hc]

theorem execTrainingStepTimeout_of_step (hm : (s.port p.val).mode = .training) (hs : (s.port p.val).step ≠ 0) :
    execTrainingStepTimeout p s = .next (s.failAttempt p.val false) := by
  simp [execTrainingStepTimeout, hm, hs]

/-- An attempt starts from step 1 on an enabled port without flood. -/
theorem Port.train_of_clear {v : Port} (hm : v.mode = .training) (he : v.enabled = true) (hl : v.loopFail = false)
    (hf : v.flood = false) (hw : v.waitFlood = false) : v.train = { v with step := 1, laser := true, frozen := false } := by
  simp [Port.train, hm, he, hl, hf, hw]

theorem execTrainingRetryPauseExpiry_of_pause (hm : (s.port p.val).mode = .training)
    (hl : (s.port p.val).pauseLong.isSome = true) :
    execTrainingRetryPauseExpiry p s = .next (s.setPort p.val { s.port p.val with pauseLong := none }.train) := by
  simp [execTrainingRetryPauseExpiry, hm, hl]

theorem execTrainFailTimer_of_due (he : (s.port p.val).enabled = true) (hm : (s.port p.val).mode = .training)
    (hu : (s.port p.val).everUp = false) (hr : (s.port p.val).failRaised = false) :
    execTrainFailTimer p s = .next (((s.portInput (.trainFailTimer p)).setPort p.val
      { s.port p.val with failRaised := true }).portEvent .trainFail p.val 0 0) := by
  simp [execTrainFailTimer, he, hm, hu, hr]

/-- The state with one more failure of the synthesiser counted and announced (R196). -/
def State.synthFailed (s : State) (p : Fin 32) : State :=
  ((s.portInput (.synthLockTimeout p)).setPort p.val { s.port p.val with
    synthFails := (s.port p.val).synthFails + 1
    synthHw := (s.port p.val).synthHw || decide (3 ≤ (s.port p.val).synthFails + 1) }).portEvent .synthLockFail p.val 0 0

theorem State.port_synthFailed (s : State) (p : Fin 32) : (s.synthFailed p).port p.val = { s.port p.val with
    synthFails := (s.port p.val).synthFails + 1
    synthHw := (s.port p.val).synthHw || decide (3 ≤ (s.port p.val).synthFails + 1) } := by
  rw [State.synthFailed, State.port_portEvent, State.port_setPort_self]

theorem execSynthLockTimeout_of_training (hm : (s.port p.val).mode = .training) (hs : (s.port p.val).step ≠ 0) :
    execSynthLockTimeout p s = .next ((s.synthFailed p).failAttempt p.val false).settle := by
  simp [execSynthLockTimeout, State.synthFailed, hm, hs]

theorem execSynthLockTimeout_of_up (hm : (s.port p.val).mode = .up) :
    execSynthLockTimeout p s = .next ((s.synthFailed p).goHold p.val causeSynthLock).settle := by
  simp [execSynthLockTimeout, State.synthFailed, hm, Port.isUp]

end

/-! ## The statement about training -/

/-- Settles O14: each step of an attempt and each timer by its outcome above, and what the operation it names makes of the port. -/
theorem portTrainingRunsThroughItsSteps : Obligations.PortTrainingRunsThroughItsSteps := by
  unfold Obligations.PortTrainingRunsThroughItsSteps
  refine ⟨?one, ?two, ?three, ?four, ?five, ?six, ?seven, ?late, ?again, ?failed, ?unlocked, ?lost⟩
  case one => exact fun s p a b hm hs => completes_eq (execTrainingStepDone_of_step_one hm hs)
  case two => exact fun s p a b hm hs => completes_eq (execTrainingStepDone_of_step_two hm hs)
  case three => exact fun s p a b hm hs => ⟨_, execTrainingStepDone_of_step_three hm hs, by simp [Port.masks], by simp⟩
  case four => exact fun s p a b g w hm hs hg hw => completes_eq (execTrainingStepDone_of_step_four hm hs hg hw)
  case five => exact fun s p a b hm hs => ⟨_, execTrainingStepDone_of_step_five hm hs, s.beginAgreement_frame p.val⟩
  case six =>
    exact fun s p a b k hm hs hk hf hsent hclash =>
      ⟨_, execTrainingStepDone_of_step_six hm hs hk hf hsent, State.openSession_frame hclash⟩
  case seven =>
    intro s p a b hm hs hc hq hclosed hz
    have h := State.comeUp_frame (s := s.portInput (.trainingStepDone p a b)) (p := p.val) (by simpa) (by simpa) (by simpa)
    exact ⟨_, execTrainingStepDone_of_step_seven hm hs hc, by simpa using h⟩
  case late =>
    intro s p hm hs
    refine completes_next (execTrainingStepTimeout_of_step hm hs) ?_
    rw [State.port_failAttempt]
    exact ⟨rfl, rfl, rfl, rfl⟩
  case again =>
    intro s p hm hl he hloop hf hw
    exact completes_next (execTrainingRetryPauseExpiry_of_pause hm hl)
      (congrArg (s.setPort p.val) (Port.train_of_clear (v := { s.port p.val with pauseLong := none }) hm he hloop hf hw))
  case failed =>
    intro s p he hm hu hr hroom
    refine ⟨_, execTrainFailTimer_of_due he hm hu hr, by simp, ?_⟩
    have h := State.eventAt_raise (s := (s.portInput (.trainFailTimer p)).setPort p.val { s.port p.val with failRaised := true })
      (e := .trainFail) (by simpa [State.ringRoom] using hroom) rfl .port p.val 0 (s.port p.val).ep 0
    simpa [State.portEvent] using h
  case unlocked =>
    intro s p hm hs
    refine completes_next (execSynthLockTimeout_of_training hm hs) ?_
    rw [State.port_settle, State.port_failAttempt, State.port_synthFailed]
    exact ⟨rfl, rfl⟩
  case lost =>
    intro s p hm hs
    have hport := s.port_synthFailed p
    refine completes_next (execSynthLockTimeout_of_up hm) ?_
    rw [State.port_settle, State.port_goHold causeSynthLock (by rw [hport]; exact hs) (by simp [hport, hm]), hport]
    exact ⟨rfl, rfl⟩

end Sys2Proof.Machine

/-! Light, lanes and the ends of waiting (R188, R202 to R206, R243, R244, R252, R718): what takes an up port to hold, what brings
it back, and what ends its session. -/

namespace Sys2Proof.Machine

section
variable {s : State} {p : Fin 32}

/-! ## Going to hold (R202, R243, R718) -/

theorem Port.isUp_of_up {v : Port} (h : v.mode = .up) : v.isUp = true := by simp [Port.isUp, h]

/-- The state with flood noted at an up port, which goes to hold. -/
def State.flooded (s : State) (p : Fin 32) : State :=
  ((s.setPort p.val { s.port p.val with flood := true }).portInput (.floodAssert p)).goHold p.val causeFlood

theorem execFloodAssert_of_up (hm : (s.port p.val).mode = .up) :
    execFloodAssert p s = .next (if (s.port p.val).floodRaised then s.flooded p
      else ((s.flooded p).updPort p.val fun w => { w with floodRaised := true }).portEvent .portFlood p.val 0 0) := by
  simp [execFloodAssert, State.flooded, Port.isUp_of_up hm]

theorem State.port_flooded (hm : (s.port p.val).mode = .up) (hs : (s.port p.val).hasSession = true) :
    (s.flooded p).port p.val = Port.onHold { s.port p.val with flood := true } causeFlood := by
  have hport : ((s.setPort p.val { s.port p.val with flood := true }).portInput (.floodAssert p)).port p.val =
      { s.port p.val with flood := true } := (State.port_portInput ..).trans (State.port_setPort_self ..)
  rw [State.flooded, State.port_goHold _ (by rw [hport]; exact hs) (by simp [hm]), hport]

/-- The state with a lane's alarm noted: the lane is out, for hardware reasons. -/
def State.alarmed (s : State) (p : Fin 32) (l : Fin 8) : State :=
  (s.portInput (.laneAlarmAssert p l)).setPort p.val { s.port p.val with
    alarms := (s.port p.val).alarms ||| 1#8 <<< l.val, alarmHw := (s.port p.val).alarmHw ||| 1#8 <<< l.val }

theorem execLaneAlarmAssert_of_active {l : Fin 8} (hm : (s.port p.val).mode = .up)
    (hl : (s.port p.val).activeLanes.getLsbD l.val = true) :
    execLaneAlarmAssert p l s = .next ((s.alarmed p l).goHold p.val causeLossOfSignal).settle := by
  simp [execLaneAlarmAssert, State.alarmed, Port.isUp_of_up hm, hl]

theorem execLossOfSignal_of_up (hm : (s.port p.val).mode = .up) :
    execLossOfSignal p s = .next ((s.portInput (.lossOfSignal p)).goHold p.val causeLossOfSignal) := by
  simp [execLossOfSignal, Port.isUp_of_up hm]

theorem getLsbD_setLane (a : BitVec 8) (l : Fin 8) : (a ||| 1#8 <<< l.val).getLsbD l.val = true := by
  simp

theorem getLsbD_clearLane (a : BitVec 8) (l : Fin 8) : (a &&& ~~~(1#8 <<< l.val)).getLsbD l.val = false := by
  simp

/-! ## Coming back (R188, R203, R204, Table 7–8) -/

theorem execFloodDebounceExpiry_of_waiting (hw : (s.port p.val).waitFlood = true) (hm : (s.port p.val).mode = .training) :
    execFloodDebounceExpiry p s =
      .next (s.setPort p.val { s.port p.val with flood := false, waitFlood := false }.train) := by
  simp [execFloodDebounceExpiry, hw, hm]

theorem execFloodDebounceExpiry_of_not_waiting (hw : (s.port p.val).waitFlood = false) :
    execFloodDebounceExpiry p s =
      .next (s.setPort p.val { s.port p.val with flood := false, waitFlood := false }) := by
  simp [execFloodDebounceExpiry, hw]

/-- A NAK, or one put off to the end of a quiet slot, touches the port's control counter, its error counts and what it has acked. -/
theorem State.port_sendNak (s : State) (p : Nat) : ∃ due cnt ctrl ack pos, (s.sendNak p).port p =
    { s.port p with nakDue := due, errCnt := cnt, txCtrl := ctrl, ackSent := ack, txPos := pos } := by
  unfold State.sendNak
  dsimp only
  split
  · exact ⟨_, _, _, _, _, State.port_setPort_self ..⟩
  · exact ⟨_, _, _, _, _, State.port_setPort_self ..⟩

/-- The port of a resume within grace: up, and awaiting the peer's NAK. -/
def Port.resumed (v : Port) : Port :=
  { v with
    mode := if v.quiesce.isSome then .quiesce else .up, frozen := false, awaitNak := true, errWin := []
    floodRaised := false, synthFails := 0, synthHw := false, alarmHw := v.alarmHw &&& v.activeLanes }

/-- The state in which a resume within grace has sent its NAK, the port's first flit. -/
def State.resumedPort (s : State) (p : Fin 32) : State :=
  ((s.portInput (.resumeRetrainDone p)).setPort p.val (s.port p.val).resumed).sendNak p.val

theorem execResumeRetrainDone_of_grace (hm : (s.port p.val).mode = .hold) (hg : (s.port p.val).grace = true)
    (hf : (s.port p.val).flood = false) (ha : (s.port p.val).alarms &&& (s.port p.val).activeLanes = 0) :
    execResumeRetrainDone p s = .next (((s.resumedPort p).portEvent .linkResumed p.val 0 0).assignAll).settle := by
  simp [execResumeRetrainDone, State.resumedPort, Port.resumed, hm, hg, hf, ha]

/-- What the node then places on the port waits for the peer's NAK, so the replay buffer stays as it was. -/
theorem State.resumedPort_frame (hz : (s.port p.val).quiesce = none) {t : State}
    (ht : t = (((s.resumedPort p).portEvent .linkResumed p.val 0 0).assignAll).settle) :
    (t.port p.val).mode = .up ∧ (t.port p.val).awaitNak = true ∧ (t.port p.val).session = (s.port p.val).session ∧
    (t.port p.val).replayBuf = (s.port p.val).replayBuf := by
  obtain ⟨due, cnt, ctrl, ack, pos, hnak⟩ :=
    ((s.portInput (.resumeRetrainDone p)).setPort p.val (s.port p.val).resumed).port_sendNak p.val
  rw [State.port_setPort_self] at hnak
  have hport : ((s.resumedPort p).portEvent .linkResumed p.val 0 0).port p.val = _ := (State.port_portEvent ..).trans hnak
  have hwait : (((s.resumedPort p).portEvent .linkResumed p.val 0 0).port p.val).awaitNak = true := by rw [hport]; rfl
  have hwork := ((s.resumedPort p).portEvent .linkResumed p.val 0 0).sansWork_assignAll p.val
  have hbuf := State.replayBuf_assignAll hwait
  rw [ht, State.port_settle, Port.mode_of_sansWork hwork, Port.awaitNak_of_sansWork hwork, Port.session_of_sansWork hwork, hbuf,
    hport]
  exact ⟨by simp [Port.resumed, hz], rfl, rfl, rfl⟩

/-! ## The ends of grace and of a QUIESCE (R244, R252) -/

theorem execGraceExpiry_of_grace (hg : (s.port p.val).grace = true) :
    execGraceExpiry p s = .next ((s.portInput (.graceExpiry p)).flushReset p.val 0 false).settle := by
  simp [execGraceExpiry, hg]

theorem execQuiesceBoundExpiry_of_own {z : Quiesce} (hz : (s.port p.val).quiesce = some z) (ho : z.own = true) :
    execQuiesceBoundExpiry p s = .next ((s.portInput (.quiesceBoundExpiry p)).forcedDown p.val z.reason) := by
  simp [execQuiesceBoundExpiry, hz, ho]

end

/-! ## The statement about light and lanes -/

/-- Settles O15: each command by its outcome above; a port taken to hold is `Port.onHold`, and an ended session leaves nothing. -/
theorem lightAndLanesTakePortsDownAndBack : Obligations.LightAndLanesTakePortsDownAndBack := by
  unfold Obligations.LightAndLanesTakePortsDownAndBack
  refine ⟨?flood, ?clear, ?clearOnly, ?alarm, ?alarmClear, ?signal, ?resume, ?grace, ?quiesce⟩
  case flood =>
    intro s p hm hs
    have hport := State.port_flooded hm hs
    refine completes_next (execFloodAssert_of_up hm) ?_
    split
    · rw [hport]
      exact ⟨rfl, rfl, hs, rfl⟩
    · rw [State.port_portEvent, State.port_updPort_self, hport]
      exact ⟨rfl, rfl, hs, rfl⟩
  case clear =>
    intro s p hw hm he hl
    exact completes_next (execFloodDebounceExpiry_of_waiting hw hm) (congrArg (s.setPort p.val)
      (Port.train_of_clear (v := { s.port p.val with flood := false, waitFlood := false }) hm he hl rfl rfl))
  case clearOnly => exact fun s p hw => completes_eq (execFloodDebounceExpiry_of_not_waiting hw)
  case alarm =>
    intro s p l hm hs hl
    have hport : (s.alarmed p l).port p.val = _ := State.port_setPort_self ..
    refine completes_next (execLaneAlarmAssert_of_active hm hl) ?_
    rw [State.port_settle, State.port_goHold causeLossOfSignal (by rw [hport]; exact hs) (by simp [hport, hm]), hport]
    exact ⟨rfl, getLsbD_setLane _ l, rfl⟩
  case alarmClear =>
    intro s p l
    refine completes_next rfl ?_
    rw [State.port_settle, State.port_updPort_self, State.port_portInput]
    exact ⟨getLsbD_clearLane _ l, rfl⟩
  case signal =>
    intro s p hm hs
    refine completes_next (execLossOfSignal_of_up hm) ?_
    rw [State.port_goHold causeLossOfSignal (by simpa) (by simp [hm]), State.port_portInput]
    exact ⟨rfl, rfl, rfl⟩
  case resume =>
    exact fun s p hm hg hf ha hz => completes_next (execResumeRetrainDone_of_grace hm hg hf ha) (State.resumedPort_frame hz rfl)
  case grace =>
    intro s p hg
    obtain ⟨hsession, hbuf, hgrace, -, -⟩ := (s.portInput (.graceExpiry p)).sessionOver_flushReset p.val 0 false
    refine completes_next (execGraceExpiry_of_grace hg) ?_
    rw [State.port_settle]
    exact ⟨hsession, hbuf, hgrace⟩
  case quiesce =>
    intro s p z hz ho
    obtain ⟨hsession, -, -, hquiesce, -⟩ := (s.portInput (.quiesceBoundExpiry p)).sessionOver_forcedDown p.val z.reason
    exact completes_next (execQuiesceBoundExpiry_of_own hz ho) ⟨hsession, hquiesce⟩

end Sys2Proof.Machine

/-! Quiet slots and dozes (R197 to R200, R207 to R211, R257): announcing, starting and ending a slot, and what wakes a port or lets it
fall back. -/

namespace Sys2Proof.Machine

/-! ## The end of a slot (R197, R200, R232) -/

section
variable {s : State} {p : Nat}

theorem State.quiet_send (m : Msg) (h : (s.port p).quiet = none) : ((s.send p m).port p).quiet = none :=
  Port.quiet_none_of_sansWork (s.sansWork_send p m p) h

theorem State.quiet_closeSent (h : (s.port p).quiet = none) : ((s.closeSent p).port p).quiet = none := by
  unfold State.closeSent
  dsimp only
  split
  · exact (State.sessionOver_plannedDown ..).2.2.2.2
  · exact h

theorem State.quiet_sendPlanned (reason : Nat) (h : (s.port p).quiet = none) : ((s.sendPlanned p reason).port p).quiet = none := by
  unfold State.sendPlanned
  dsimp only
  split
  · rw [State.port_updPort_self]
    split
    · rfl
    · exact h
  · split
    · exact (State.sessionOver_fullReset ..).2.2.2.2
    · split
      · exact (State.sessionOver_forcedDown ..).2.2.2.2
      · split
        · exact h
        · exact State.quiet_closeSent (State.quiet_send _ h)

theorem State.quiet_quiesceStep (h : (s.port p).quiet = none) : ((s.quiesceStep p).port p).quiet = none := by
  unfold State.quiesceStep
  split
  · exact h
  · dsimp only
    split
    · exact h
    · split
      · split
        · exact State.quiet_send _ (by rw [State.port_updPort_self]; exact h)
        · exact h
      · split
        · exact State.quiet_sendPlanned _ h
        · exact h

theorem State.quiet_pump (h : (s.port p).quiet = none) : ((s.pump p).port p).quiet = none :=
  Port.quiet_none_of_sansWork (Port.sansWork_of_sansTraffic (s.sansTraffic_pump p p)) h

theorem State.quiet_afterFlit (h : (s.port p).quiet = none) : ((s.afterFlit p).port p).quiet = none :=
  State.quiet_closeSent (State.quiet_quiesceStep (State.quiet_pump h))

theorem State.quiet_startRun (a : Option Nat) (h : (s.port p).quiet = none) : ((s.startRun p a).port p).quiet = none := by
  unfold State.startRun
  dsimp only
  split
  · exact State.quiet_pump h
  · split
    · rw [State.port_setPort_self]
      exact h
    · rw [State.countTx_keeps Port.quiet (fun _ _ _ => rfl), State.port_emitFlits, State.port_setPort_self]
      exact h

/-- What waited for a slot's end starts no slot. -/
theorem State.quiet_afterSlot (h : (s.port p).quiet = none) : ((s.afterSlot p).port p).quiet = none := by
  have hnak : ((if (s.port p).nakDue then s.sendNak p else s).port p).quiet = none := by
    split
    · obtain ⟨_, _, _, _, _, hport⟩ := s.port_sendNak p
      rw [hport]
      exact h
    · exact h
  unfold State.afterSlot
  dsimp only
  split
  · exact h
  · split
    · exact State.quiet_startRun _ hnak
    · exact State.quiet_afterFlit hnak

variable (s p)

@[simp] theorem State.mem_sendNak : (s.sendNak p).mem = s.mem := by
  unfold State.sendNak
  dsimp only
  split <;> rfl

@[simp] theorem State.mem_startRun (a : Option Nat) : (s.startRun p a).mem = s.mem := by
  unfold State.startRun
  dsimp only
  split
  · simp
  · split
    · rfl
    · simp

@[simp] theorem State.mem_afterSlot : (s.afterSlot p).mem = s.mem := by
  unfold State.afterSlot
  dsimp only
  split
  · rfl
  · (repeat' split) <;> simp

end

/-! ## The commands of quiet slots -/

section
variable {s : State} {p : Fin 32}

/-- The state with a slot of the node's own kept, before its QUIET_REQ is handed over. -/
def State.slotKept (s : State) (p : Fin 32) (len start : Nat) : State :=
  s.setPort p.val { s.port p.val with quiet := some { len := len, start := start } }

theorem execQuietSlotAnnounce_of_allowed {len start : Nat} (hm : (s.port p.val).mode = .up) (hq : (s.port p.val).quiet = none)
    (hl : (s.port p.val).lastQuiet = none) (h1 : 1 ≤ len) (h2 : len ≤ 8000) (h3 : 1024 ≤ start) (h4 : start ≤ 65535) :
    execQuietSlotAnnounce p len start s =
      .next ((s.slotKept p len start).send p.val (vc3Msg 0x11 (leBytes 2 len ++ leBytes 2 start))) := by
  simp [execQuietSlotAnnounce, State.slotKept, State.sendVc3, Port.isUp_of_up hm, hq, hl, h1, h2, h3, h4]

theorem execQuietSlotStart_of_own {q : Quiet} (hq : (s.port p.val).quiet = some q) (ha : q.acked = true) (hn : q.active = false)
    (hr : q.reached (s.port p.val).txPos = true) :
    execQuietSlotStart p s = .next (s.setPort p.val ((s.port p.val).startQuiet q s.ts)) := by
  simp [execQuietSlotStart, hq, optAny, ha, hn, hr]

theorem execQuietSlotStart_of_early {q : Quiet} (hq : (s.port p.val).quiet = some q)
    (hr : q.reached (s.port p.val).txPos = false) (hp : (s.port p.val).peerQuiet = none) : execQuietSlotStart p s = .next s := by
  simp [execQuietSlotStart, hq, optAny, hr, hp]

theorem execQuietSlotStart_of_peer {x : Quiet} (hq : (s.port p.val).quiet = none) (hx : (s.port p.val).peerQuiet = some x)
    (hn : x.active = false) (hr : x.reached (s.port p.val).rxPos = true) :
    execQuietSlotStart p s = .next (s.setPort p.val ((s.port p.val).startPeerQuiet x)) := by
  simp [execQuietSlotStart, hq, hx, optAny, hn, hr]

theorem execQuietSlotEnd_of_active {q : Quiet} (hq : (s.port p.val).quiet = some q) (ha : q.active = true) :
    execQuietSlotEnd p s = .next ((s.setPort p.val { s.port p.val with quiet := none }).afterSlot p.val) := by
  simp [execQuietSlotEnd, hq, quietRuns, ha]

theorem execQuietDeferralExpiry_of_unacked {q : Quiet} (hq : (s.port p.val).quiet = some q) (ha : q.acked = false)
    (hn : q.active = false) :
    execQuietDeferralExpiry p s = .next (s.setPort p.val ((s.port p.val).startQuiet q s.ts)) := by
  simp [execQuietDeferralExpiry, hq, ha, hn]

/-! ## The commands of dozes -/

variable {d : Doze}

theorem execDozeExpiry_of_own (hm : (s.port p.val).mode = .doze) (hd : (s.port p.val).doze = some d) (ho : d.own = true) :
    execDozeExpiry p s =
      .next (s.setPort p.val { s.port p.val with laser := true, doze := some { d with woken := true } }) := by
  simp [execDozeExpiry, hd, Port.dozes, hm, ho]

theorem execDarkDozeWake_of_dark (hm : (s.port p.val).mode = .darkDoze) (hd : (s.port p.val).doze = some d) :
    execDarkDozeWake p s =
      .next (s.setPort p.val { s.port p.val with laser := true, doze := some { d with woken := true, search := true } }) := by
  simp [execDarkDozeWake, hd, hm]

theorem execDozeSearchExpiry_of_search (hm : (s.port p.val).mode = .darkDoze) (hd : (s.port p.val).doze = some d)
    (hs : d.search = true) :
    execDozeSearchExpiry p s = .next
      (((s.portInput (.dozeSearchExpiry p)).portEvent .dozeSearchFail p.val 0 0).goHold p.val causeDozeSearch) := by
  simp [execDozeSearchExpiry, hd, hm, optAny, hs]

theorem execDozeLightWake_of_doze (hm : (s.port p.val).mode = .doze) (hd : (s.port p.val).doze = some d) :
    execDozeLightWake p s =
      .next (s.setPort p.val { s.port p.val with laser := true, doze := some { d with woken := true, lit := true } }) := by
  simp [execDozeLightWake, hd, hm]

theorem execDozeAmbientExpiry_of_ambient (hm : (s.port p.val).mode = .doze) (hd : (s.port p.val).doze = some d)
    (hl : d.lit = true) :
    execDozeAmbientExpiry p false true s = .next (((s.portInput (.dozeAmbientExpiry p false true)).setPort p.val { s.port p.val with
      mode := .darkDoze, laser := false, doze := some { d with dark := true, woken := false } }).portEvent .ambientFlood p.val 0 0) := by
  simp [execDozeAmbientExpiry, hd, hm, hl]

end

/-! ## The statement about quiet slots and dozes -/

/-- Settles O16: each command by its outcome above; what waited for the end of a slot is sent without starting another. -/
theorem quietSlotsAndDozesFollowTheirRules : Obligations.QuietSlotsAndDozesFollowTheirRules := by
  unfold Obligations.QuietSlotsAndDozesFollowTheirRules
  refine ⟨?announce, ?own, ?early, ?peer, ?ended, ?endedMem, ?deferred, ?expiry, ?dark, ?search, ?light, ?ambient⟩
  case announce =>
    intro s p len start hm hq hl h1 h2 h3 h4
    have hkept : (s.slotKept p len start).port p.val = _ := State.port_setPort_self ..
    have hframe := State.sansTraffic_send (s := s.slotKept p len start) (p := p.val)
      (vc3Msg 0x11 (leBytes 2 len ++ leBytes 2 start)) (by simp [hkept, hm])
    obtain ⟨a, ha⟩ := Port.quiet_of_sansTraffic hframe (q := { len := len, start := start }) (by rw [hkept])
    exact completes_next (execQuietSlotAnnounce_of_allowed hm hq hl h1 h2 h3 h4)
      ⟨⟨a, ha⟩, State.sends_send .., (State.undisturbed_send ..).2.1⟩
  case own => exact fun s p q hq ha hn hr => completes_eq (execQuietSlotStart_of_own hq ha hn hr)
  case early => exact fun s p q hq hr hp => completes_eq (execQuietSlotStart_of_early hq hr hp)
  case peer => exact fun s p x hq hx hn hr => completes_eq (execQuietSlotStart_of_peer hq hx hn hr)
  case ended =>
    exact fun s p q hq ha => completes_next (execQuietSlotEnd_of_active hq ha)
      (State.quiet_afterSlot (by rw [State.port_setPort_self]))
  case endedMem =>
    exact fun s p q hq ha _ _ _ => completes_next (execQuietSlotEnd_of_active hq ha) (State.mem_afterSlot ..)
  case deferred => exact fun s p q hq ha hn => completes_eq (execQuietDeferralExpiry_of_unacked hq ha hn)
  case expiry => exact fun s p d hm hd ho => completes_eq (execDozeExpiry_of_own hm hd ho)
  case dark => exact fun s p d hm hd => completes_eq (execDarkDozeWake_of_dark hm hd)
  case search =>
    intro s p d hm hd hs hsession
    refine completes_next (execDozeSearchExpiry_of_search hm hd hs) ?_
    rw [State.port_goHold causeDozeSearch (by simpa) (by simp [hm])]
    rfl
  case light => exact fun s p d hm hd => completes_eq (execDozeLightWake_of_doze hm hd)
  case ambient =>
    intro s p d hm hd hl
    refine completes_next (execDozeAmbientExpiry_of_ambient hm hd hl) ?_
    rw [State.port_portEvent, State.port_setPort_self]
    exact ⟨rfl, rfl⟩

end Sys2Proof.Machine

/-! VC3 messages of a receiving port (R198, R199, R207, R225, R252, R253, R257): what is common to taking one, and what each makes of
the port. -/

namespace Sys2Proof.Machine

/-! ## Taking a message (log 132) -/

/-- The state with a message taken out of port `p`'s receive buffer. -/
def State.took (s : State) (p : Nat) (m : RxMsg) : State := s.updPort p (·.dropRx m)

section
variable {s : State} {p kind : Nat} {fields : List Byte} {m : RxMsg}

/-- Taking a message of DATA flits returns its slots and changes nothing else of the port. -/
theorem State.port_took_data (h : m.train = false) : ∃ held owed,
    (s.took p m).port p = { s.port p with rx := (s.port p).rx.erase m, held := held, owed := owed } :=
  ⟨_, _, (State.port_updPort_self ..).trans (by rw [Port.dropRx, h]; rfl)⟩

theorem State.port_took_train (h : m.train = true) :
    (s.took p m).port p = { s.port p with rx := (s.port p).rx.erase m } :=
  (State.port_updPort_self ..).trans (by rw [Port.dropRx, h]; rfl)

/-- The message in front is taken, by the rule for the flits that carried it. -/
theorem State.vc3Row_of_front (h : (s.port p).frontVc3 kind fields = some m) (train data : State → List Byte → State) :
    s.vc3Row p kind fields train data =
      if m.train then (if ((s.took p m).port p).agreeing then train (s.took p m) m.fields else s.took p m)
      else if ((s.took p m).port p).receives then data (s.took p m) m.fields else s.took p m := by
  simp only [State.vc3Row, h]
  rfl

/-- The next message of DATA flits is taken by its row's rule for them. -/
theorem State.vc3Row_of_dataNext (h : s.dataNext p kind fields m) (train data : State → List Byte → State) :
    s.vc3Row p kind fields train data = data (s.took p m) m.fields := by
  obtain ⟨hfront, hdata, hrec⟩ := h
  obtain ⟨held, owed, hport⟩ := State.port_took_data (s := s) (p := p) hdata
  have hrec' : ((s.took p m).port p).receives = true := by rw [hport]; exact hrec
  rw [State.vc3Row_of_front hfront, if_neg (by simp [hdata]), if_pos hrec']

/-- The next message of TRAIN flits is taken by its row's rule for them. -/
theorem State.vc3Row_of_trainNext (h : s.trainNext p kind fields m) (train data : State → List Byte → State) :
    s.vc3Row p kind fields train data = train (s.took p m) m.fields := by
  obtain ⟨hfront, htrain, hagree⟩ := h
  have hagree' : ((s.took p m).port p).agreeing = true := by rw [State.port_took_train htrain]; exact hagree
  rw [State.vc3Row_of_front hfront, if_pos htrain, if_pos hagree']

/-- With no VC3 message in front nothing happens. -/
theorem State.vc3Row_of_empty (h : ((s.port p).rx.find? (·.vc == 3)) = none) (kind : Nat) (fields : List Byte)
    (train data : State → List Byte → State) : s.vc3Row p kind fields train data = s := by
  simp [State.vc3Row, Port.frontVc3, h]

/-- A port that receives does not doze. -/
theorem Port.mode_ne_doze_of_receives {v : Port} (h : v.receives = true) : v.mode ≠ .doze := by
  intro hm
  simp [Port.receives, Port.isUp, hm] at h

/-- A row completes with what its rule for DATA flits makes of the state in which the message has been taken. -/
theorem completes_dataNext {c : Instr} {P : State → Prop} {train data : State → List Byte → State}
    (hc : exec c s = .next (s.vc3Row p kind fields train data)) (h : s.dataNext p kind fields m)
    (hP : P (data (s.took p m) m.fields)) : Completes c s P :=
  completes_next (hc.trans (congrArg _ (State.vc3Row_of_dataNext h train data))) hP

theorem completes_trainNext {c : Instr} {P : State → Prop} {train data : State → List Byte → State}
    (hc : exec c s = .next (s.vc3Row p kind fields train data)) (h : s.trainNext p kind fields m)
    (hP : P (train (s.took p m) m.fields)) : Completes c s P :=
  completes_next (hc.trans (congrArg _ (State.vc3Row_of_trainNext h train data))) hP

/-- Where nothing is about to end the session, what follows a flit leaves all of the port but what sending changes. -/
theorem State.sansTraffic_afterFlit (h : (s.port p).openEnded = true) :
    ((s.afterFlit p).port p).sansTraffic = (s.port p).sansTraffic := by
  rw [State.afterFlit_of_openEnded h, State.sansTraffic_pump]

end

/-! ## Credits and quiet slots (R198, R199, R225) -/

section
variable {s : State} {p : Nat}

theorem State.takeCreditInit_of_room {f : List Byte} (hi : (s.port p).creditInit = false) (h0 : 272 ≤ field f 0 2)
    (h1 : 272 ≤ field f 2 2) (h2 : 16 ≤ field f 4 2) : s.takeCreditInit p f = s.setPort p { s.port p with
      creditInit := true, credits := [field f 0 2, field f 2 2, field f 4 2, (s.port p).credits.getD 3 0] } := by
  simp [State.takeCreditInit, hi, Nat.not_lt.2 h0, Nat.not_lt.2 h1, Nat.not_lt.2 h2]

/-- A quiet slot in range is granted: it is kept, and QUIET_ACK goes or waits for credit. -/
theorem State.takeQuietReq_frame {pos : Nat} {f : List Byte} (h1 : 1 ≤ field f 0 2) (h2 : field f 0 2 ≤ 8000)
    (h3 : 1024 ≤ field f 2 2) :
    ((s.takeQuietReq p pos f).port p).peerQuiet =
      some { len := field f 0 2, start := field f 2 2, at_ := some (pos + field f 2 2), acked := true } ∧
    (s.takeQuietReq p pos f).sends p (vc3Msg 0x12 (sub f 0 4)) := by
  rw [State.takeQuietReq, if_pos ⟨h1, h2, h3⟩]
  refine ⟨?_, State.sends_send ..⟩
  rw [State.sendVc3, Port.peerQuiet_of_sansWork (State.sansWork_send ..), State.port_updPort_self]

/-- The start that a QUIET_REQ asks for counts from its own position in the stream. -/
theorem execQuietReq_of_front {p : Fin 32} {len start : BitVec 16} {m : RxMsg}
    (h : (s.port p.val).frontVc3 0x11 (slotFields len start) = some m) : execQuietReq p len start s =
      .next (s.vc3Row p.val 0x11 (slotFields len start) (State.malformed p.val) (State.takeQuietReq p.val m.pos)) := by
  simp only [execQuietReq, h]

/-- The port with its slot acknowledged, where a QUIET_ACK's fields name it. -/
def Port.ackSlot (v : Port) (f : List Byte) : Port :=
  { v with quiet := v.quiet.map fun q => if q.len = field f 0 2 ∧ q.start = field f 2 2 then { q with acked := true } else q }

theorem Port.quiet_ackSlot {v : Port} {f : List Byte} {q : Quiet} (hq : v.quiet = some q) (hl : q.len = field f 0 2)
    (hs : q.start = field f 2 2) : (v.ackSlot f).quiet = some { q with acked := true } := by
  simp [Port.ackSlot, hq, hl, hs]

/-! ## Dozes (R207, R257) -/

/-- The port without the doze that it asked for, where none has begun. -/
def Port.dropDoze (v : Port) : Port := { v with doze := if optAny v.doze (fun d => d.own && !d.begun) then none else v.doze }

theorem Port.doze_dropDoze {v : Port} {d : Doze} (hd : v.doze = some d) (ho : d.own = true) (hb : d.begun = false) :
    v.dropDoze.doze = none := by
  simp [Port.dropDoze, hd, optAny, ho, hb]

/-- A doze in range is accepted by an idle port that is awake: it is kept, and DOZE_ACK goes or waits for credit. -/
theorem State.takeDozeReq_frame {f : List Byte} (hm : (s.port p).mode ≠ .doze) (hk : byteAt f 0 ≤ 1)
    (hb : (s.port p).replayBuf = []) (hq : (s.port p).txq = []) (hd : dozeRange (field f 2 4) = true) :
    ((s.takeDozeReq p f).port p).doze = some { dark := byteAt f 0 == 1, d := field f 2 4, own := false } ∧
    (s.takeDozeReq p f).sends p (vc3Msg 0x14 (dozeFields (byteAt f 0 == 1) (field f 2 4))) := by
  have htake : s.takeDozeReq p f = (s.setPort p { s.port p with
      doze := some { dark := byteAt f 0 == 1, d := field f 2 4, own := false } }).send p
        (vc3Msg 0x14 (dozeFields (byteAt f 0 == 1) (field f 2 4))) := by
    simp [State.takeDozeReq, State.sendVc3, Nat.not_lt.2 hk, hb, hq, hd]
  rw [htake]
  refine ⟨?_, State.sends_send ..⟩
  rw [Port.doze_of_sansTraffic (State.sansTraffic_send _ (by rw [State.port_setPort_self]; exact hm)), State.port_setPort_self]

/-- A doze that both sides have agreed begins at an up port with nothing to send: its laser goes off. -/
theorem Port.startDoze_of_agreed {v : Port} {d : Doze} (hm : v.mode = .up) (hq : v.txq = []) (hd : v.doze = some d)
    (hb : d.begun = false) : v.startDoze.dozes = true ∧ v.startDoze.laser = false := by
  have hstart : v.startDoze = v.beginDoze d := by simp [Port.startDoze, Port.beginDoze, hd, hb, hm, hq]
  rw [hstart]
  refine ⟨?_, rfl⟩
  cases hdark : d.dark <;> simp [Port.beginDoze, Port.dozes, hdark]

/-- The DOZE_ACK that answers the node's own request is acked at once, and the doze starts. -/
theorem State.takeDozeAck_frame {f : List Byte} {d : Doze} (hm : (s.port p).mode = .up) (hmute : (s.port p).mute = false)
    (hq : (s.port p).txq = []) (hd : (s.port p).doze = some d) (ho : d.own = true) (hb : d.begun = false)
    (hk : d.dark = (byteAt f 0 == 1)) (hp : d.d = field f 2 4) :
    ((s.takeDozeAck p f).port p).dozes = true ∧ ((s.takeDozeAck p f).port p).laser = false := by
  have htake : s.takeDozeAck p f =
      ((s.setPort p { s.port p with doze := some { d with ackAt := some (s.port p).expected } }).sendIdle p).dozeStep p := by
    simp [State.takeDozeAck, hd, ho, hb, hk, hp, hmute]
  have hidle : ((s.setPort p { s.port p with doze := some { d with ackAt := some (s.port p).expected } }).sendIdle p).port p =
      (Port.ctrlNow { s.port p with doze := some { d with ackAt := some (s.port p).expected } } 0).1 := by
    simp [State.sendIdle]
  rw [htake, State.dozeStep, if_pos, State.port_updPort_self, hidle]
  · exact Port.startDoze_of_agreed hm hq rfl hb
  · rw [hidle]
    simp [Port.dozeAcked, Port.ctrlNow, optAny, ho]

/-! ## QUIESCE (R252) -/

/-- The port in a QUIESCE that the peer asks for. -/
def Port.enterQuiesce (v : Port) : Port :=
  { v with mode := if v.mode == .up then .quiesce else v.mode, quiesce := some (v.quiesce.getD {}) }

/-- The port with the peer's QUIESCE_DONE recorded. -/
def Port.peerIsDone (v : Port) : Port :=
  { v with quiesce := v.quiesce.map fun z => { z with peerDone := some v.expected } }

/-- A QUIESCE that the peer asked for goes on by the node's own QUIESCE_DONE at most. -/
theorem State.quiesceStep_of_peer {z : Quiesce} (hz : (s.port p).quiesce = some z) (ho : z.own = false) : s.quiesceStep p = s ∨
    s.quiesceStep p = (s.updPort p fun w => { w with quiesce := some { z with sentDone := true } }).send p (vc3Msg 0x17 []) := by
  simp only [State.quiesceStep, hz, ho]
  split
  · exact .inl rfl
  · split
    · split
      · exact .inr rfl
      · exact .inl rfl
    · exact .inl rfl

/-- With a QUIESCE of the peer's and no LINK_DOWN_PLANNED on its way, what follows a flit leaves the port in its mode and its
QUIESCE under way. -/
theorem State.afterFlit_of_peerQuiesce {z : Quiesce} (hz : (s.port p).quiesce = some z) (ho : z.own = false)
    (hu : (s.port p).Unplanned) : ((s.afterFlit p).port p).mode = (s.port p).mode ∧
      ∃ sent, ((s.afterFlit p).port p).quiesce = some { z with sentDone := sent } := by
  have hpump := Port.sansWork_of_sansTraffic (s.sansTraffic_pump p p)
  have hz' : ((s.pump p).port p).quiesce = some z := (Port.quiesce_of_sansWork hpump).trans hz
  have hu' : ((s.pump p).port p).Unplanned := State.unplanned_pump hu
  rw [State.afterFlit]
  rcases State.quiesceStep_of_peer hz' ho with hstep | hstep
  · rw [hstep, State.closeSent_of_unplanned hu']
    exact ⟨Port.mode_of_sansWork hpump, z.sentDone, hz'⟩
  · have hport : ((s.pump p).updPort p fun w => { w with quiesce := some { z with sentDone := true } }).port p = _ :=
      State.port_updPort_self ..
    have hsend := ((s.pump p).updPort p fun w => { w with quiesce := some { z with sentDone := true } }).sansWork_send p
      (vc3Msg 0x17 []) p
    rw [hstep, State.closeSent_of_unplanned (State.unplanned_send rfl (by rw [hport]; exact hu')),
      Port.mode_of_sansWork hsend, Port.quiesce_of_sansWork hsend, hport]
    exact ⟨(Port.mode_of_sansWork hpump :), true, rfl⟩

end

/-! ## The statement about link messages -/

/-- Settles O18: each row takes the message in front by its rule for DATA flits, and the rule by its outcome above. -/
theorem linkMessagesAreTaken : Obligations.LinkMessagesAreTaken := by
  unfold Obligations.LinkMessagesAreTaken
  refine ⟨?credit, ?quietReq, ?quietAck, ?dozeReq, ?dozeAck, ?dozeRefuse, ?quiesceReq, ?quiesceDone, ?planned, ?empty⟩
  case credit =>
    intro s p vc0 vc1 vc2 m h hi h0 h1 h2
    obtain ⟨held, owed, hport⟩ := State.port_took_data (s := s) (p := p.val) h.2.1
    refine completes_dataNext rfl h ?_
    rw [State.takeCreditInit_of_room (by rw [hport]; exact hi) h0 h1 h2, State.port_setPort_self, hport]
    exact ⟨rfl, rfl⟩
  case quietReq =>
    intro s p len start m h h1 h2 h3
    exact completes_dataNext (execQuietReq_of_front h.1) h (State.takeQuietReq_frame h1 h2 h3)
  case quietAck =>
    intro s p len start m q h hopen hq hlen hstart
    obtain ⟨held, owed, hport⟩ := State.port_took_data (s := s) (p := p.val) h.2.1
    have hacked : ((s.took p.val m).updPort p.val (·.ackSlot m.fields)).port p.val = _ := State.port_updPort_self ..
    have hframe := State.sansTraffic_afterFlit (s := (s.took p.val m).updPort p.val (·.ackSlot m.fields)) (p := p.val)
      (by rw [hacked, hport]; exact hopen)
    obtain ⟨a, ha⟩ := Port.quiet_of_sansTraffic hframe (q := { q with acked := true })
      (by rw [hacked]; exact Port.quiet_ackSlot (by rw [hport]; exact hq) hlen hstart)
    exact completes_dataNext rfl h ⟨a, ha⟩
  case dozeReq =>
    intro s p kind d m h hk hb hq hd
    obtain ⟨held, owed, hport⟩ := State.port_took_data (s := s) (p := p.val) h.2.1
    refine completes_dataNext rfl h ?_
    exact State.takeDozeReq_frame (by rw [hport]; exact Port.mode_ne_doze_of_receives h.2.2) hk (by rw [hport]; exact hb)
      (by rw [hport]; exact hq) hd
  case dozeAck =>
    intro s p kind dur m d h hm hmute hq hd ho hb hk hp
    obtain ⟨held, owed, hport⟩ := State.port_took_data (s := s) (p := p.val) h.2.1
    refine completes_dataNext rfl h ?_
    exact State.takeDozeAck_frame (by rw [hport]; exact hm) (by rw [hport]; exact hmute) (by rw [hport]; exact hq)
      (by rw [hport]; exact hd) ho hb hk hp
  case dozeRefuse =>
    intro s p reason m d h hopen hd ho hb
    obtain ⟨held, owed, hport⟩ := State.port_took_data (s := s) (p := p.val) h.2.1
    have hdropped : ((s.took p.val m).updPort p.val Port.dropDoze).port p.val = _ := State.port_updPort_self ..
    have hframe := State.sansTraffic_afterFlit (s := (s.took p.val m).updPort p.val Port.dropDoze) (p := p.val)
      (by rw [hdropped, hport]; exact hopen)
    exact completes_dataNext rfl h ((Port.doze_of_sansTraffic hframe).trans
      (by rw [hdropped]; exact Port.doze_dropDoze (by rw [hport]; exact hd) ho hb))
  case quiesceReq =>
    intro s p m h hm hopen
    obtain ⟨hz, hplan⟩ := Port.openEnded_iff.1 hopen
    obtain ⟨held, owed, hport⟩ := State.port_took_data (s := s) (p := p.val) h.2.1
    have hentered : ((s.took p.val m).updPort p.val Port.enterQuiesce).port p.val = _ := State.port_updPort_self ..
    rw [hport] at hentered
    obtain ⟨hmode, sent, hquiesce⟩ := State.afterFlit_of_peerQuiesce
      (s := (s.took p.val m).updPort p.val Port.enterQuiesce) (p := p.val) (z := {})
      (by rw [hentered]; simp [Port.enterQuiesce, hz]) rfl (by rw [hentered]; exact hplan)
    exact completes_dataNext rfl h
      ⟨hmode.trans (by rw [hentered]; simp [Port.enterQuiesce, hm]), Option.isSome_iff_exists.2 ⟨_, hquiesce⟩⟩
  case quiesceDone =>
    intro s p m z h hz ho hopen
    have hplan : (s.port p.val).Unplanned := (Port.openEnded_iff.1 hopen).2
    obtain ⟨held, owed, hport⟩ := State.port_took_data (s := s) (p := p.val) h.2.1
    have hdone : ((s.took p.val m).updPort p.val Port.peerIsDone).port p.val = _ := State.port_updPort_self ..
    rw [hport] at hdone
    obtain ⟨-, sent, hquiesce⟩ := State.afterFlit_of_peerQuiesce
      (s := (s.took p.val m).updPort p.val Port.peerIsDone) (p := p.val)
      (z := { z with peerDone := some (s.port p.val).expected })
      (by rw [hdone]; simp [Port.peerIsDone, hz]) ho (by rw [hdone]; exact hplan)
    refine completes_dataNext rfl h ?_
    rw [State.port_settle]
    exact (congrArg (·.bind fun y : Quiesce => y.peerDone) hquiesce :)
  case planned =>
    intro s p reason m h
    obtain ⟨hsession, hbuf, -, -, -⟩ := ((s.took p.val m).portInput (.linkDownPlanned p reason)).sessionOver_plannedDown p.val
      (!(s.took p.val m).isReady)
    refine completes_dataNext rfl h ?_
    rw [State.port_settle]
    exact ⟨hsession, hbuf⟩
  case empty =>
    intro s p v w x k d c hc h
    simp only [List.mem_cons, List.not_mem_nil, or_false] at hc
    rcases hc with rfl | rfl | rfl | rfl | rfl | rfl | rfl | rfl | rfl
    all_goals exact ⟨_, rfl, State.vc3Row_of_empty h _ _ _ _⟩

end Sys2Proof.Machine

/-! Key-agreement messages (R189 to R195): what a sound one makes of the port, and what a binding makes of the table of bindings. -/

namespace Sys2Proof.Machine

/-! ## Bindings and what keeps them (R193, R194) -/

@[simp] theorem State.bindings_markSent (s : State) (m : Msg) : (s.markSent m).fabric.bindings = s.fabric.bindings := by
  unfold State.markSent
  split <;> rfl

@[simp] theorem State.fabric_emitFlits (s : State) (p : Nat) (raws : List (List Byte)) : (s.emitFlits p raws).fabric = s.fabric :=
  foldl_keeps State.fabric (fun u x => u.emit (.flit p x)) (fun _ _ => rfl) raws s

@[simp] theorem State.bindings_emitGone (s : State) (p : Nat) (g : Gone) :
    (s.emitGone p g).fabric.bindings = s.fabric.bindings := by
  simp [State.emitGone]

@[simp] theorem State.fabric_creditOnly (s : State) (p : Nat) : (s.creditOnly p).fabric = s.fabric := by
  simp [State.creditOnly]

@[simp] theorem State.bindings_pump (s : State) (p : Nat) : (s.pump p).fabric.bindings = s.fabric.bindings :=
  State.pump_induction (P := fun u => u.fabric.bindings = s.fabric.bindings) rfl
    (foldl_keeps (·.fabric.bindings) (fun u x => u.emitGone p x) (fun u x => u.bindings_emitGone p x) _ _)
    (fun u n hu => by rwa [State.fabric_countTx]) (fun u hu => by rwa [State.fabric_creditOnly])

@[simp] theorem State.bindings_send (s : State) (p : Nat) (m : Msg) : (s.send p m).fabric.bindings = s.fabric.bindings :=
  State.bindings_pump ..

@[simp] theorem State.bindings_assignAll (s : State) : s.assignAll.fabric.bindings = s.fabric.bindings :=
  State.assignAll_induction (P := fun u => u.fabric.bindings = s.fabric.bindings) rfl (fun _ _ _ hu => hu)
    fun u p m hu => (u.bindings_send p m).trans hu

theorem State.boundCert_congr {s t : State} (h : t.fabric.bindings = s.fabric.bindings) (ep : Nat) :
    t.boundCert ep = s.boundCert ep := by
  simp only [State.boundCert, h]

theorem State.boundOn_congr {s t : State} (h : t.fabric.bindings = s.fabric.bindings) (hj : t.jny = s.jny) (ep p : Nat) :
    t.boundOn ep p = s.boundOn ep p := by
  simp only [State.boundOn, State.groupOf, State.records, h, hj]

/-- A binding that takes part in a session: the rule by which a lookup finds an endpoint's certificate. -/
def Binding.binds (ep : Nat) (b : Binding) : Bool := b.ep == ep && !b.ports.isEmpty

/-- A binding of `ep` to `cert` with the session of a port added. -/
def Binding.join (ep : Nat) (cert : List Byte) (x : Nat × Nat) (b : Binding) : Binding :=
  if b.ep = ep ∧ b.cert = cert then { b with ports := b.ports.filter (· != x) ++ [x] } else b

/-- Where no lookup finds another certificate, one finds `cert` once a session has joined its binding. -/
theorem find?_map_join {ep : Nat} {cert : List Byte} (x : Nat × Nat) {bs : List Binding}
    (hno : ∀ b, bs.find? (Binding.binds ep) = some b → b.cert = cert) (hin : ∃ b ∈ bs, b.ep = ep ∧ b.cert = cert) :
    ((bs.map (Binding.join ep cert x)).find? (Binding.binds ep)).map (·.cert) = some cert := by
  induction bs with
  | nil => simp at hin
  | cons b bs ih =>
    rw [List.map_cons]
    by_cases hb : b.ep = ep ∧ b.cert = cert
    · have hjoin : (b.join ep cert x).binds ep = true := by simp [Binding.join, Binding.binds, hb]
      rw [List.find?_cons_of_pos hjoin]
      simp [Binding.join, hb]
    · have hkeep : b.join ep cert x = b := if_neg hb
      have hidle : b.binds ep = false := by
        by_contra hbinds
        rw [Bool.not_eq_false] at hbinds
        have hep : b.ep = ep := by simpa using (Bool.and_eq_true_iff.1 hbinds).1
        exact hb ⟨hep, hno b (List.find?_cons_of_pos hbinds)⟩
      rw [hkeep, List.find?_cons_of_neg (by simp [hidle])]
      refine ih (fun c hc => hno c (by rwa [List.find?_cons_of_neg (by simp [hidle])])) ?_
      obtain ⟨c, hc, hcc⟩ := hin
      rcases List.mem_cons.1 hc with rfl | hc
      · exact absurd hcc hb
      · exact ⟨c, hc, hcc⟩

section
variable {s : State} {ep p : Nat} {cert : List Byte} {chain : List (List Byte)} {g : GroupRec}

/-- What binding makes of the table: the session joins the binding that there is, or begins one. -/
theorem State.bindings_bindEp (hg : s.groupOf p = some g) : (s.bindEp ep p cert chain).fabric.bindings =
    if s.fabric.bindings.any (fun b => b.ep == ep && b.cert == cert) then
      s.fabric.bindings.map (Binding.join ep cert (g.group, p))
    else s.fabric.bindings ++ [{ ep := ep, cert := cert, chain := chain, ports := [(g.group, p)] }] := by
  simp only [State.bindEp, hg]
  split <;> rfl

/-- An endpoint that no other certificate is bound to is bound to this one. -/
theorem State.boundCert_bindEp (hg : s.groupOf p = some g) (hno : optAny (s.boundCert ep) (· != cert) = false) :
    (s.bindEp ep p cert chain).boundCert ep = some cert := by
  have hfind : ∀ b, s.fabric.bindings.find? (Binding.binds ep) = some b → b.cert = cert := by
    intro b hb
    have hcert : s.boundCert ep = some b.cert := (congrArg (Option.map Binding.cert) hb :)
    simpa [hcert, optAny] using hno
  have hlook : (s.bindEp ep p cert chain).boundCert ep =
      ((s.bindEp ep p cert chain).fabric.bindings.find? (Binding.binds ep)).map (·.cert) := rfl
  rw [hlook, State.bindings_bindEp hg]
  split
  · next hany => exact find?_map_join _ hfind (by simpa using hany)
  · next hany =>
    have hnone : s.fabric.bindings.find? (Binding.binds ep) = none := by
      cases hb : s.fabric.bindings.find? (Binding.binds ep) with
      | none => rfl
      | some b =>
        have hbinds : b.binds ep = true := List.find?_some (p := Binding.binds ep) hb
        have hep : b.ep = ep := by simpa using (Bool.and_eq_true_iff.1 hbinds).1
        exact absurd (List.any_eq_true.2 ⟨b, List.mem_of_find?_eq_some hb, by simp [hep, hfind b hb]⟩) hany
    simp [List.find?_append, hnone, Binding.binds]

theorem State.boundOn_bindEp (hg : s.groupOf p = some g) : (s.bindEp ep p cert chain).boundOn ep p = true := by
  have hg' : (s.bindEp ep p cert chain).groupOf p = some g := by
    rw [← hg]
    unfold State.bindEp
    (repeat' split) <;> rfl
  simp only [State.boundOn, hg', State.bindings_bindEp hg]
  split
  · next hany =>
    obtain ⟨b, hb, he⟩ := List.any_eq_true.1 hany
    refine List.any_eq_true.2 ⟨b.join ep cert (g.group, p), List.mem_map_of_mem hb, ?_⟩
    have hb' : b.ep = ep ∧ b.cert = cert := by simpa using he
    simp [Binding.join, hb']
  · simp

end

/-! ## What the messages of step 6 make of the port (R190 to R192) -/

section
variable {s : State} {p : Nat} {k : Agreement}

theorem State.takeHello_of_sound {f : List Byte} (hk : (s.port p).ka = some k) (hv : byteAt f 0 = 1)
    (hs : spelt f 130 = true) (hh : k.peerHello = none) (hn : sub f 1 32 ≠ k.nonce) : s.takeHello p f =
      s.updPort p fun v => { v with ka := some { k with peerHello := some (vc3Bytes 0x01 (sub f 0 130)) } } := by
  simp [State.takeHello, hk, hv, hs, hh, hn]

/-- An accepted certificate gives the session its identity and its keys, and the node's own KA_FINISH goes. -/
theorem State.acceptCert_frame (hello cert link : List Byte) (chain : List (List Byte)) {t : State}
    (ht : t = s.acceptCert p k hello cert link chain) :
    (t.port p).cert = some (leafHash chain) ∧ (t.port p).chain = chain ∧ (t.port p).keys.isSome = true ∧
    (∃ k1, (t.port p).ka = some k1 ∧ k1.finishSent = true ∧ k1.peerCert.isSome = true) ∧ t.mem = s.mem := by
  subst ht
  unfold State.acceptCert
  extract_lets k1 x keys
  obtain ⟨n, hn⟩ := (s.updPort p fun v => { v with
    ka := some k1, keys := some keys, cert := some (leafHash chain), chain := chain }).port_sendTrain p
      (vc3Bytes 0x03 (hmac384 keys.confirm x))
  rw [hn, State.port_updPort_self, State.mem_sendTrain]
  exact ⟨rfl, rfl, rfl, ⟨k1, rfl, rfl, rfl⟩, rfl⟩

theorem State.takeCert_of_sound {f h rest : List Byte} {chain : List (List Byte)} (hk : (s.port p).ka = some k)
    (hh : k.peerHello = some h) (hf : chainField f = some (chain, rest)) (hc : k.peerCert = none) (hs : spelt rest 193 = true)
    (ha : (anchors (s.records (·.cas)) chain).isEmpty = false)
    (hsig : signedBy (chain.headD []) (sub rest 0 97) (sub rest 97 96) = true) (hid : s.identityClash p (leafHash chain) = false) :
    s.takeCert p f =
      s.acceptCert p k h (vc3Bytes 0x02 (f.take (f.length - rest.length + 193))) (sub rest 0 97) chain := by
  simp [State.takeCert, hk, hh, hf, hc, hs, ha, hsig, hid, -List.headD_eq_head?_getD]

theorem State.takeFinish_of_sound {f : List Byte} {keys : LinkKeys} (hk : (s.port p).ka = some k)
    (hkeys : (s.port p).keys = some keys) (hs : spelt f 48 = true) (hf : k.finished = false)
    (hmac : sub f 0 48 = sub (hmac384 keys.confirm ((k.transcript).getD [])) 0 48) :
    s.takeFinish p f = s.updPort p fun v => { v with ka := some { k with finished := true } } := by
  simp [State.takeFinish, hk, hkeys, hs, hf, hmac]

/-- A KA_FAIL ends the attempt with the pause of its reason. -/
theorem State.takeFail_frame (f : List Byte) : ((s.takeFail p f).port p).mode = .training ∧ ((s.takeFail p f).port p).step = 0 ∧
    ((s.takeFail p f).port p).pauseLong = some (authReason (failReason f)) := by
  rw [State.takeFail, State.port_failAttempt]
  exact ⟨rfl, rfl, rfl⟩

/-! ## KA_BIND in a session (R194, R195) -/

/-- Whether a KA_BIND binds depends on the bindings, the joinery and the port's agreement alone. -/
theorem State.mayBind_took {m : RxMsg} (hm : m.train = false) (ep : Nat) (chain : List (List Byte)) (sig : List Byte) :
    (s.took p m).mayBind p ep chain sig = s.mayBind p ep chain sig := by
  obtain ⟨held, owed, hport⟩ := State.port_took_data (s := s) (p := p) hm
  have hka : ((s.took p m).port p).ka = (s.port p).ka := by rw [hport]
  simp only [State.mayBind, hka]
  rfl

theorem State.groupOf_of_mayBind {ep : Nat} {chain : List (List Byte)} {sig : List Byte} (h : s.mayBind p ep chain sig = true) :
    (∃ g, s.groupOf p = some g) ∧ optAny (s.boundCert ep) (· != leafHash chain) = false := by
  simp only [State.mayBind, Bool.and_eq_true, Bool.not_eq_true'] at h
  obtain ⟨⟨⟨⟨hgroup, -⟩, -⟩, -⟩, hbound⟩ := h
  refine ⟨?_, hbound⟩
  cases hg : s.groupOf p with
  | none => simp [optAny, hg] at hgroup
  | some g => exact ⟨g, rfl⟩

/-- A KA_BIND that may bind does, and its answer and the requests that waited for it leave the binding. -/
theorem State.takeBindData_frame {f sig : List Byte} {ep : Nat} {chain : List (List Byte)} (c : Instr)
    (hf : bindFields f = some (ep, chain, sig)) (h : s.mayBind p ep chain sig = true) :
    (s.takeBindData c p f).boundCert ep = some (leafHash chain) ∧ (s.takeBindData c p f).boundOn ep p = true := by
  obtain ⟨⟨g, hg⟩, hno⟩ := State.groupOf_of_mayBind h
  have htake : s.takeBindData c p f =
      (((s.portInput c).bindEp ep p (leafHash chain) chain).sendVc3 p 0x05 (bindAckFields ep true)).assignAll := by
    simp [State.takeBindData, State.bindPeerEp, hf, h]
  have hbindings : (s.takeBindData c p f).fabric.bindings =
      ((s.portInput c).bindEp ep p (leafHash chain) chain).fabric.bindings := by
    rw [htake, State.bindings_assignAll]
    exact State.bindings_send ..
  have hjny : (s.takeBindData c p f).jny = ((s.portInput c).bindEp ep p (leafHash chain) chain).jny := by
    rw [htake]
    exact (State.undisturbed_assignAll _).2.2.2.1.trans (State.undisturbed_sendVc3 ..).2.2.2.1
  have hg' : (s.portInput c).groupOf p = some g := by simpa [State.groupOf, State.records] using hg
  have hno' : optAny ((s.portInput c).boundCert ep) (· != leafHash chain) = false := by
    rwa [State.boundCert_congr (s := s) (t := s.portInput c) (by simp) ep]
  rw [State.boundCert_congr hbindings, State.boundOn_congr hbindings hjny]
  exact ⟨State.boundCert_bindEp hg' hno', State.boundOn_bindEp hg'⟩

end

/-! ## The statement about key-agreement messages -/

/-- Settles O19: each row takes the message in front by its rule, and the rule by its outcome above. -/
theorem keyAgreementMessagesAreTaken : Obligations.KeyAgreementMessagesAreTaken := by
  unfold Obligations.KeyAgreementMessagesAreTaken
  refine ⟨?hello, ?cert, ?finish, ?fail, ?bind, ?bindAck⟩
  case hello =>
    intro s p fields m k h hk hv hs hh hn
    have hport := State.port_took_train (s := s) (p := p.val) h.2.1
    refine completes_trainNext rfl h ?_
    rw [State.takeHello_of_sound (by rw [hport]; exact hk) hv hs hh hn, State.port_updPort_self, hport]
    exact ⟨rfl, rfl, rfl⟩
  case cert =>
    intro s p fields m k hello chain rest h hk hh hf hc hs ha hsig hid
    have hport := State.port_took_train (s := s) (p := p.val) h.2.1
    exact completes_trainNext rfl h (State.acceptCert_frame (s := s.took p.val m) _ _ _ chain
      (State.takeCert_of_sound (by rw [hport]; exact hk) hh hf hc hs ha hsig hid))
  case finish =>
    intro s p fields m k keys h hk hkeys hs hf hmac
    have hport := State.port_took_train (s := s) (p := p.val) h.2.1
    refine completes_trainNext rfl h ?_
    rw [State.takeFinish_of_sound (by rw [hport]; exact hk) (by rw [hport]; exact hkeys) hs hf hmac, State.port_updPort_self]
    exact ⟨rfl, rfl⟩
  case fail => exact fun s p reason m h => completes_trainNext rfl h (State.takeFail_frame _)
  case bind =>
    intro s p e rest m ep chain sig h hf hbind
    exact completes_dataNext rfl h (State.takeBindData_frame _ hf ((State.mayBind_took h.2.1 ep chain sig).trans hbind))
  case bindAck =>
    intro s p e status m h hopen
    obtain ⟨held, owed, hport⟩ := State.port_took_data (s := s) (p := p.val) h.2.1
    have hopen' : ((s.took p.val m).port p.val).openEnded = true := by rw [hport]; exact hopen
    have hframe := Port.sansWork_of_sansTraffic (State.sansTraffic_afterFlit hopen')
    refine completes_dataNext rfl h ⟨?_, ?_, ?_⟩
    · rw [State.afterFlit_of_openEnded hopen', State.bindings_pump]
      rfl
    · rw [Port.hasSession_of_sansWork hframe, hport]
    · exact (State.undisturbed_afterFlit ..).2.1

end Sys2Proof.Machine

/-! Admitted requests (R33, R263, R264, R270, Table 8–3): the state in which one is served, and what its answer leaves of
the memory and hands to the link. -/

namespace Sys2Proof.Machine

/-! ## Arrival and admission -/

section
variable {s : State} {c : Instr} {op : Nat} {r : Req}

@[simp] theorem State.frontReq_inputOf (s : State) (c : Instr) (op : Nat) (r : Req) :
    (s.inputOf c).frontReq op r = s.frontReq op r := by
  simp [State.frontReq, State.port]

/-- Taking a request out of its port's buffer changes the ports alone, and of its own port the buffers and their credit. -/
theorem State.takeReq_frame (s : State) (op : Nat) (r : Req) (m : RxMsg) :
    s.takeReq op r m = { s with ports := (s.takeReq op r m).ports } ∧ ∃ rx held owed quotaOwed,
      (s.takeReq op r m).port r.port.val =
        { s.port r.port.val with rx := rx, held := held, owed := owed, quotaOwed := quotaOwed } := by
  have hdrop := s.port_updPort_self r.port.val fun v => { v with rx := v.rx.erase m }
  unfold State.takeReq
  dsimp only
  split
  · refine ⟨rfl, ?_⟩
    rw [State.port_updPort_self, hdrop]
    split <;> exact ⟨_, _, _, _, rfl⟩
  · refine ⟨rfl, ?_⟩
    rw [State.port_updPort_self, hdrop]
    exact ⟨_, _, _, _, rfl⟩

theorem State.port_arrived (s : State) (c : Instr) (op : Nat) (r : Req) : ∃ rx held owed quotaOwed,
    (s.arrived c op r).port r.port.val =
      { s.port r.port.val with rx := rx, held := held, owed := owed, quotaOwed := quotaOwed } := by
  have hport : (s.inputOf c).port r.port.val = s.port r.port.val := by simp [State.port]
  unfold State.arrived
  split
  · exact ⟨_, _, _, _, rfl⟩
  · rw [← hport]
    exact (State.takeReq_frame ..).2

@[simp] theorem State.power_arrived (s : State) (c : Instr) (op : Nat) (r : Req) : (s.arrived c op r).power = s.power := by
  unfold State.arrived
  split
  · rfl
  · exact (congrArg State.power (State.takeReq_frame ..).1 :).trans (s.inputOf_power c)

@[simp] theorem State.mem_arrived (s : State) (c : Instr) (op : Nat) (r : Req) : (s.arrived c op r).mem = s.mem := by
  unfold State.arrived
  split
  · rfl
  · exact (congrArg State.mem (State.takeReq_frame ..).1 :).trans (s.inputOf_mem c)

@[simp] theorem State.dram_arrived (s : State) (c : Instr) (op : Nat) (r : Req) : (s.arrived c op r).dram = s.dram := by
  unfold State.arrived
  split
  · rfl
  · exact (congrArg State.dram (State.takeReq_frame ..).1 :).trans (s.inputOf_dram c)

theorem State.surviving_arrived (h : s.surviving) (c : Instr) (op : Nat) (r : Req) : (s.arrived c op r).surviving := by
  simpa [State.surviving, State.undamaged, State.stk] using h

/-- The ID that the node has on a group is learned once (R263). -/
theorem State.learnId_of_known {n : Nat} (h : s.nodeId r.port.val = some n) : s.learnId r = s := by
  unfold State.nodeId at h
  unfold State.learnId
  split
  · rfl
  next g hg =>
    rw [hg, Option.bind_some] at h
    obtain ⟨k, hk, -⟩ := Option.map_eq_some_iff.1 h
    simp [hk]

theorem State.accepts_iff : s.accepts op r = true ↔
    s.discards r = false ∧ s.nodeId r.port.val = some r.dst.toNat ∧ s.mustQueue op r false true = false ∧
      r.vc.val = channelOf op ∧ r.resv = false ∧ (if op < 0x40 then reqFmt op r else xferFmt op r) = true ∧ r.found = [] := by
  simp [State.accepts, and_assoc]

theorem State.admits_iff : s.admits c op r = true ↔
    s.delivers r.port.val = true ∧ (∃ m, s.frontReq op r = some m) ∧ s.inputsGo = true ∧
      (s.arrived c op r).accepts op r = true ∧ (s.port r.port.val).openEnded = true := by
  simp [State.admits, Option.isSome_iff_exists, and_assoc]

/-- What Table 8–3 accepts and stage 4 lets through is served. -/
theorem State.judge_of_accepts {fmt : Bool} {check : State → Req → Option Status} {serve : State → Req → Served}
    (h : s.accepts op r = true) (hfmt : fmt = if op < 0x40 then reqFmt op r else xferFmt op r) (hcheck : check s r = none) :
    s.judge op r fmt check serve = settleServed op r (serve s r) := by
  obtain ⟨-, hid, hqueue, hvc, hresv, hformat, hfound⟩ := State.accepts_iff.1 h
  simp [State.judge, hvc, hresv, hfmt.trans hformat, hfound, State.learnId_of_known hid, hcheck, hqueue]

/-- An admitted request that stage 4 lets through is served in the state in which it has arrived. -/
theorem State.request_of_admits {fmt : Bool} {check : State → Req → Option Status} {serve : State → Req → Served}
    (h : s.admits c op r = true) (hfmt : fmt = if op < 0x40 then reqFmt op r else xferFmt op r)
    (hcheck : check (s.arrived c op r) r = none) :
    s.request c op r fmt check serve = (settleServed op r (serve (s.arrived c op r) r)).settle := by
  obtain ⟨hdelivers, ⟨m, hm⟩, hgo, haccepts, -⟩ := State.admits_iff.1 h
  have hjudge := State.judge_of_accepts (serve := serve) haccepts hfmt hcheck
  have hkept := (State.accepts_iff.1 haccepts).1
  have harrived : s.arrived c op r = (s.inputOf c).takeReq op r m := by simp [State.arrived, hm]
  rw [harrived] at hjudge hkept ⊢
  simp [State.request, hdelivers, hm, State.deliver_of_go _ _ hgo, State.admitReq, hkept, hjudge]

/-- Its port has a session that nothing is about to end, and so it has once the request has been taken. -/
theorem State.link_of_admits (h : s.admits c op r = true) : ((s.arrived c op r).port r.port.val).hasSession = true ∧
    ((s.arrived c op r).port r.port.val).openEnded = true := by
  obtain ⟨hdelivers, -, -, -, hopen⟩ := State.admits_iff.1 h
  simp only [State.delivers, Bool.and_eq_true] at hdelivers
  obtain ⟨⟨-, hsession⟩, -⟩ := hdelivers
  obtain ⟨rx, held, owed, quotaOwed, hport⟩ := s.port_arrived c op r
  rw [hport]
  exact ⟨hsession, hopen⟩

end

/-! ## Answers -/

/-- Sending a message that does not end the session leaves the session open-ended. -/
theorem State.openEnded_send {s : State} {q : Nat} {m : Msg} (hm : isVc3 0x18 (some m) = false) (p : Nat)
    (h : (s.port q).openEnded = true) : ((s.send p m).port q).openEnded = true := by
  by_cases hq : q = p
  · subst hq
    obtain ⟨hquiesce, hplan⟩ := Port.openEnded_iff.1 h
    exact Port.openEnded_iff.2
      ⟨(Port.quiesce_of_sansWork (s.sansWork_send q m q)).trans hquiesce, State.unplanned_send hm hplan⟩
  · rwa [State.send_eq, State.port_pump_ne _ _ hq, State.port_updPort_ne _ _ hq]

/-- What has left stays in the record of outputs while a port sends more of its queue. -/
theorem State.mem_out_pump {s : State} {o : Out} (p : Nat) (h : o ∈ s.out) : o ∈ (s.pump p).out := by
  refine State.pump_induction (P := fun u => o ∈ u.out) h ?_ (fun u k hu => ?_) fun u hu => ?_
  · refine foldl_holds (fun u : State => o ∈ u.out) (fun u x => u.emitGone p x) (fun u x hu => ?_) _ _ h
    exact State.mem_out_emitGone p x hu
  · exact State.mem_out_countTx p k hu
  · exact State.mem_out_countTx p 1 ((State.out_emitFlits _ _ _).subset hu)

theorem State.sends_pump_of_sends {s : State} {p : Nat} {m : Msg} (h : s.sends p m) : (s.pump p).sends p m := by
  rcases h with h | ⟨n, h⟩
  · exact State.sends_pump h
  · exact .inr ⟨n, State.mem_out_pump p h⟩

theorem State.Announces.sends {s t : State} {p : Nat} {m : Msg} (h : s.Announces t) (hs : s.sends p m) : t.sends p m := by
  rw [State.sends, h.port]
  exact hs.imp_right fun ⟨n, hn⟩ => ⟨n, h.mem_out hn⟩

/-- Answering a request, or parking it, leaves the memory as serving it did. -/
theorem mem_settleServed (op : Nat) (r : Req) (x : Served) : (settleServed op r x).mem = x.1.mem := by
  unfold settleServed
  split
  · exact (State.undisturbed_afterFlit ..).2.1.trans (State.undisturbed_respond ..).2.1
  · rfl

/-- On a port whose session nothing is about to end the answer goes out, or waits for credit. -/
theorem sends_settleServed {op : Nat} {r : Req} {x : Served} {y : Reply} (hy : x.2 = some y) (hl : y.later = false)
    (hs : (x.1.port r.port.val).hasSession = true) (ho : (x.1.port r.port.val).openEnded = true) :
    (settleServed op r x).sends r.port.val (responseTo op r y) := by
  have hrespond : x.1.respond op r y = x.1.send r.port.val (responseTo op r y) := by
    simp [State.respond, hl, hs, responseTo]
  simp only [settleServed, hy, hrespond]
  rw [State.afterFlit_of_openEnded (State.openEnded_send rfl _ ho)]
  exact State.sends_pump_of_sends (State.sends_send ..)

/-- An admitted request completes with what serving it leaves. -/
theorem completes_admitted {s : State} {c : Instr} {op : Nat} {r : Req} {fmt : Bool} {check : State → Req → Option Status}
    {serve : State → Req → Served} {P : State → Prop} (hc : exec c s = .next (s.request c op r fmt check serve))
    (h : s.admits c op r = true) (hfmt : fmt = if op < 0x40 then reqFmt op r else xferFmt op r)
    (hcheck : check (s.arrived c op r) r = none) (hP : P (settleServed op r (serve (s.arrived c op r) r)).settle) :
    Completes c s P :=
  completes_next (hc.trans (congrArg _ (State.request_of_admits h hfmt hcheck))) hP

end Sys2Proof.Machine

/-! What reads and writes of stored lines leave of the links (Table 10–2, R371, R373): where the node survives the loss of a stack,
or has no damage to meet, they touch no port. -/

namespace Sys2Proof.Machine

/-! ## Operations that touch no port -/

theorem State.Announces.ports {s t : State} (h : s.Announces t) : t.ports = s.ports := (congrArg State.ports h.rest :)

@[simp] theorem State.ports_memEvent (s : State) (e : Ev) (stack flags d sym1 sym2 blk line spare last : Nat) :
    (s.memEvent e stack flags d sym1 sym2 blk line spare last).ports = s.ports := (s.announces_memEvent ..).ports

@[simp] theorem State.ports_countErr (s : State) (stack i : Nat) : (s.countErr stack i).ports = s.ports := rfl

@[simp] theorem State.ports_advise (s : State) (stack blk line d : Nat) : (s.advise stack blk line d).ports = s.ports := by
  unfold State.advise
  dsimp only
  repeat' split
  all_goals simp

@[simp] theorem State.ports_noteHard (s : State) (stack blk line d : Nat) : (s.noteHard stack blk line d).ports = s.ports := by
  unfold State.noteHard
  dsimp only
  split <;> simp

@[simp] theorem State.ports_recordCheck (s : State) (flags stack pl d off : Nat) (inj : Bool) (a : Check) :
    (s.recordCheck flags stack pl d off inj a).ports = s.ports := by
  cases a <;> simp [State.recordCheck]

@[simp] theorem State.ports_damageAt (s : State) (stack pl : Nat) : (s.damageAt stack pl).1.ports = s.ports := by
  unfold State.damageAt
  repeat' split
  all_goals rfl

@[simp] theorem State.ports_codeAt (s : State) (stack pl : Nat) : (s.codeAt stack pl).1.ports = s.ports := by
  unfold State.codeAt
  repeat' split
  all_goals simp

@[simp] theorem State.ports_storeCells (s : State) (stack pl : Nat) : (s.storeCells stack pl).ports = s.ports := by
  unfold State.storeCells
  dsimp only
  repeat' split
  all_goals rfl

theorem State.ports_storeLine (s : State) (d l : Nat) (data : List Byte) : (s.storeLine d l data).ports = s.ports := rfl

@[simp] theorem State.ports_poisonLine (s : State) (d l : Nat) : (s.poisonLine d l).ports = s.ports := by
  unfold State.poisonLine
  dsimp only
  exact s.ports_storeLine ..

@[simp] theorem State.ports_degrade (s : State) (d stack : Nat) : (s.degrade d stack).ports = s.ports := by
  unfold State.degrade
  split <;> simp

@[simp] theorem State.ports_answer (s : State) (i r kind : Nat) (st : Status) (body : Body) :
    (s.answer i r kind st body).ports = s.ports := by
  unfold State.answer
  split <;> rfl

@[simp] theorem State.ports_busyFell (s : State) : s.busyFell.ports = s.ports := (s.announces_msix 3).ports

/-! ## The loss of a stack (R371) -/

section
variable {s : State} (h : s.power.part ≠ .sp1)
include h

/-- A node with more than one stack survives the loss of one with its links as they were. -/
theorem State.ports_loseStack (n : Nat) : (s.loseStack n).ports = s.ports := by
  unfold State.loseStack
  extract_lets held s1 s2 gone _ _ s3 s4
  have h1 : s1.ports = s.ports := (State.announces_raise ..).ports
  have h2 : s2.ports = s1.ports := foldl_keeps State.ports _ (fun u (x : DrawerRec) => u.ports_degrade x.id n) _ s1
  have h4 : s4.ports = s3.ports := foldl_keeps State.ports _ (fun u j => by dsimp only; split <;> simp) _ s3
  rw [if_neg h]
  split
  · rfl
  · exact h4.trans (h2.trans h1)

theorem State.ports_notePoison (stack blk : Nat) : (s.notePoison stack blk).ports = s.ports := by
  unfold State.notePoison
  extract_lets log _ s1
  have hlose : (s1.loseStack stack).ports = s.ports := State.ports_loseStack (s := s1) h stack
  split
  · exact hlose
  · rfl

theorem State.ports_recordPoison (flags stack pl d off : Nat) (inj : Bool) (a b : Nat) :
    (s.recordPoison flags stack pl d off inj a b).ports = s.ports := by
  unfold State.recordPoison
  extract_lets s1
  have hpart : s1.power.part ≠ .sp1 := by simpa [s1] using h
  have h1 : s1.ports = s.ports := by simp [s1]
  split
  · exact h1
  · exact (State.ports_notePoison hpart ..).trans h1

theorem State.ports_readFrom (flags d l : Nat) (places : List (Nat × Nat)) : (s.readFrom flags d l places).1.ports = s.ports := by
  unfold State.readFrom
  split
  · rfl
  next stack phys rest =>
    split
    · rfl
    · dsimp only
      have hcode := s.ports_codeAt stack (phys * 1024 + l % 1024)
      have hboard := s.sameBoard_codeAt stack (phys * 1024 + l % 1024)
      split
      next s1 a b inj heq =>
        rw [heq] at hcode
        obtain ⟨-, -, hpart, -⟩ := hboard.of_eq heq
        have h1 : s1.power.part ≠ .sp1 := hpart ▸ h
        split
        · rw [State.ports_recordPoison (by simpa using h1), State.ports_poisonLine]
          exact hcode
        next stack2 phys2 _ =>
          have hcode2 := s1.ports_codeAt stack2 (phys2 * 1024 + l % 1024)
          have hboard2 := s1.sameBoard_codeAt stack2 (phys2 * 1024 + l % 1024)
          split
          next s2 a2 b2 inj2 heq2 =>
            rw [heq2] at hcode2
            obtain ⟨-, -, hpart2, -⟩ := hboard2.of_eq heq2
            have h2 : s2.power.part ≠ .sp1 := hpart2 ▸ h1
            rw [State.ports_recordPoison (by simpa using h2), State.ports_recordPoison (by simpa using h2),
              State.ports_poisonLine]
            exact hcode2.trans hcode
          next s2 c2 inj2 _ heq2 =>
            rw [heq2] at hcode2
            simpa using hcode2.trans hcode
      next s1 c inj _ heq =>
        rw [heq] at hcode
        simpa using hcode

end

/-! ## Lines without damage -/

section
variable {s : State} (h : s.undamaged)
include h

theorem State.readFrom_of_undamaged (flags d l : Nat) (places : List (Nat × Nat)) : (s.readFrom flags d l places).1 = s := by
  cases places with
  | nil => rfl
  | cons x rest =>
    unfold State.readFrom
    dsimp only
    split
    · rfl
    · simp [State.codeAt_of_undamaged h, State.recordCheck]

theorem State.storeCells_of_undamaged (stack pl : Nat) : s.storeCells stack pl = s := by
  obtain ⟨hfaults, hinject⟩ := h
  have hkept : s.dram.faults.filter (fun f => !(f.1.stack == stack && f.1.line == pl)) = s.dram.faults := by
    rw [hfaults]
    rfl
  simp only [State.storeCells, hkept, hinject stack]

end

/-! ## Reads and writes that spare the links -/

/-- `t` has the ports of `s` where the node survives every read, and it goes on to survive them. -/
structure State.SparesLinks (s t : State) : Prop where
  spares : s.surviving → t.surviving ∧ t.ports = s.ports

section
variable {s t u : State}

theorem State.SparesLinks.refl (s : State) : s.SparesLinks s := ⟨fun h => ⟨h, rfl⟩⟩

theorem State.SparesLinks.trans (h : s.SparesLinks t) (k : t.SparesLinks u) : s.SparesLinks u where
  spares hs := by
    obtain ⟨ht, hports⟩ := h.spares hs
    obtain ⟨hu, kports⟩ := k.spares ht
    exact ⟨hu, kports.trans hports⟩

/-- The part stays; with more than one stack the ports do, and with no damage there is nothing to do. -/
theorem State.SparesLinks.of_cases (hpart : t.power.part = s.power.part) (hports : s.power.part ≠ .sp1 → t.ports = s.ports)
    (hclean : s.undamaged → t = s) : s.SparesLinks t := by
  refine ⟨?_⟩
  rintro (h | h)
  · exact ⟨.inl (hpart ▸ h), hports h⟩
  · rw [hclean h]
    exact ⟨.inr h, rfl⟩

/-- A change of neither the part nor the ports nor the cells. -/
theorem State.SparesLinks.of_same (hpart : t.power.part = s.power.part) (hports : t.ports = s.ports)
    (hfaults : t.dram.faults = s.dram.faults) (hstks : t.dram.stks = s.dram.stks) : s.SparesLinks t :=
  ⟨fun h => ⟨by simpa [State.surviving, State.undamaged, State.stk, hpart, hfaults, hstks] using h, hports⟩⟩

theorem State.Announces.sparesLinks (h : s.Announces t) : s.SparesLinks t :=
  .of_same (congrArg (·.power.part) h.rest :) h.ports (congrArg Dram.faults h.dram :) (congrArg Dram.stks h.dram :)

end

theorem State.sparesLinks_readLine (s : State) (flags d l : Nat) : s.SparesLinks (s.readLine flags d l).1 :=
  .of_cases (by simp) (fun h => State.ports_readFrom h ..) fun h => State.readFrom_of_undamaged h ..

theorem State.sparesLinks_storeCells (s : State) (stack pl : Nat) : s.SparesLinks (s.storeCells stack pl) :=
  .of_cases (by simp) (fun _ => s.ports_storeCells ..) fun h => State.storeCells_of_undamaged h ..

theorem State.sparesLinks_writeLine (s : State) (d l at_ : Nat) (data : List Byte) :
    s.SparesLinks (s.writeLine d l at_ data).1 := by
  have hstore : ∀ (u : State) (bytes : List Byte), u.SparesLinks ((s.livePlaces d (l / 1024)).foldl
      (fun v x => v.storeCells x.1 (x.2 * 1024 + l % 1024)) (u.storeLine d l bytes)) := fun u bytes =>
    foldl_holds (u.SparesLinks ·) _ (fun v x hv => hv.trans (v.sparesLinks_storeCells ..)) _ _ (.of_same rfl rfl rfl rfl)
  unfold State.writeLine
  dsimp only
  split
  · exact .refl s
  · split
    · exact hstore s data
    · split
      · exact s.sparesLinks_readLine 0 d l
      · exact (s.sparesLinks_readLine 0 d l).trans (hstore _ _)

theorem State.sparesLinks_readRange (s : State) (d off n : Nat) : s.SparesLinks (s.readRange d off n).1 :=
  foldl_holds (fun x : State × RangeRead => s.SparesLinks x.1) _ (fun _ _ h => h.trans (State.sparesLinks_readLine ..)) _ _
    (.refl s)

theorem State.sparesLinks_writeRange (s : State) (d off : Nat) (data : List Byte) : s.SparesLinks (s.writeRange d off data).1 :=
  foldl_holds (fun x : State × Option Nat => s.SparesLinks x.1) _ (fun _ _ h => h.trans (State.sparesLinks_writeLine ..)) _ _
    (.refl s)

/-! ## The snapshot reserve (R574, R575) -/

theorem State.sparesLinks_noteOnce (s : State) (e : Ev) : s.SparesLinks (s.noteOnce e) := by
  unfold State.noteOnce
  dsimp only
  split
  · exact .refl s
  · refine .trans ?_ (State.announces_note ..).sparesLinks
    exact .of_same rfl rfl rfl rfl

theorem State.sparesLinks_reserveFor {t n fuel : Nat} {v : State} :
    ∀ {s : State}, s.reserveFor t n fuel = some v → s.SparesLinks v := by
  induction fuel with
  | zero => exact fun h => nomatch h
  | succ fuel ih =>
    intro s h
    unfold State.reserveFor at h
    split at h
    · cases h
      exact .refl _
    · split at h
      · cases h
      next x _ =>
        have hdrop : s.SparesLinks (s.dropSnapshot x.id) := .of_same rfl rfl rfl rfl
        exact hdrop.trans (.trans (State.sparesLinks_noteOnce ..) (ih h))

theorem State.sparesLinks_unshare {s v : State} {d b : Nat} (h : s.unshare d b = some v) : s.SparesLinks v := by
  unfold State.unshare at h
  split at h
  · cases h
    exact .refl s
  · split at h
    · cases h
      exact .refl s
    · dsimp only at h
      split at h
      · cases h
      next u hu =>
        have hreserve : s.SparesLinks u := State.sparesLinks_reserveFor hu
        split at h
        · cases h
          exact hreserve
        · cases h
          exact hreserve.trans (.of_same rfl rfl rfl rfl)

theorem State.sparesLinks_claimRange {s v : State} {d off n : Nat} (h : s.claimRange d off n = some v) : s.SparesLinks v := by
  unfold State.claimRange at h
  split at h
  · cases h
    exact .refl s
  · refine foldl_holds (fun o : Option State => ∀ v, o = some v → s.SparesLinks v) _ (fun o i ho v hv => ?_) _ (some s) ?_ v h
    · split at hv
      · cases hv
      next u => exact .trans (ho u rfl) (State.sparesLinks_unshare hv)
    · rintro v ⟨⟩
      exact .refl s

end Sys2Proof.Machine

/-! READ, WRITE and the atomics (R268, R272 to R274, R338, R341): what serving each leaves and answers. -/

namespace Sys2Proof.Machine

/-- An admitted request whose serving spares the links and answers at once leaves the memory that serving it left, and its answer
goes. -/
theorem completes_answered {s : State} {c : Instr} {op : Nat} {r : Req} {fmt : Bool} {check : State → Req → Option Status}
    {serve : State → Req → Served} {v : State} {y : Reply} (hc : exec c s = .next (s.request c op r fmt check serve))
    (h : s.admits c op r = true) (hfmt : fmt = if op < 0x40 then reqFmt op r else xferFmt op r)
    (hcheck : check (s.arrived c op r) r = none) (hs : s.surviving) (hserve : serve (s.arrived c op r) r = (v, some y))
    (hl : y.later = false) (hspares : (s.arrived c op r).SparesLinks v) :
    Completes c s fun t => t.mem = v.mem ∧ t.sends r.port.val (responseTo op r y) := by
  obtain ⟨hsession, hopen⟩ := State.link_of_admits h
  obtain ⟨-, hports⟩ := hspares.spares (State.surviving_arrived hs c op r)
  have hport : v.port r.port.val = (s.arrived c op r).port r.port.val := by simp only [State.port, hports]
  refine completes_admitted hc h hfmt hcheck ?_
  rw [hserve]
  refine ⟨(State.mem_settle _).trans (mem_settleServed ..), (State.announces_settle _).sends ?_⟩
  exact sends_settleServed rfl hl (by rw [hport]; exact hsession) (by rw [hport]; exact hopen)

theorem RangeRead.later_reply (x : RangeRead) : x.reply.later = false := by
  unfold RangeRead.reply
  split <;> rfl

section
variable {u v : State} {r : Req}

theorem State.serveWrite_of_claim (hv : u.claimRange r.drawer.toNat r.offset.toNat r.length.toNat = some v) :
    u.serveWrite r = ((v.writeRange r.drawer.toNat r.offset.toNat (sub r.data 0 r.length.toNat)).1,
      some { status :=
        if (v.writeRange r.drawer.toNat r.offset.toNat (sub r.data 0 r.length.toNat)).2.isSome then .poisoned else .ok }) := by
  simp only [State.serveWrite, hv]

/-- A write of one whole line, whose block no snapshot shares, stores it. -/
theorem State.mem_serveWrite_of_line (hn : r.length.toNat = 64) (hd : r.data.length = 64) (ho : r.offset.toNat % 64 = 0)
    (hu : u.claimRange r.drawer.toNat r.offset.toNat 64 = some u)
    (hl : u.livePlaces r.drawer.toNat (r.offset.toNat / 65536) ≠ []) :
    (u.serveWrite r).1.mem = FMap.setRun 0 u.mem (addr r.drawer.toNat r.offset.toNat) r.data := by
  have hblock : r.offset.toNat / 64 / 1024 = r.offset.toNat / 65536 := Nat.div_div_eq_div_mul ..
  rw [State.serveWrite_of_claim (hn.symm ▸ hu), hn, sub_whole hd]
  exact (State.writeRange_of_line hd ho (hblock ▸ hl)).2.1

/-- What an atomic that finds no poison leaves: its new value over the range, where it writes one. -/
def State.atomicEnd (f : List Byte → Option (List Byte)) (d o : Nat) (x : State × RangeRead) : State :=
  (f x.2.data).elim x.1 fun new => (x.1.writeRange d o new).1

theorem State.serveAtomic_of_claim {n : Nat} {f : List Byte → Option (List Byte)} {answer : List Byte → Reply}
    {x : State × RangeRead} (hv : u.claimRange r.drawer.toNat r.offset.toNat n = some v)
    (hx : v.readRange r.drawer.toNat r.offset.toNat n = x) (hb : x.2.bad = none) :
    u.serveAtomic n f answer r = (State.atomicEnd f r.drawer.toNat r.offset.toNat x, some (answer x.2.data)) := by
  simp only [State.serveAtomic, hv, hx, hb, State.atomicEnd]
  cases f x.2.data <;> rfl

theorem State.sparesLinks_atomic {n d o : Nat} {x : State × RangeRead} (f : List Byte → Option (List Byte))
    (hv : u.claimRange d o n = some v) (hx : v.readRange d o n = x) : u.SparesLinks (State.atomicEnd f d o x) := by
  have hread : u.SparesLinks x.1 := hx ▸ (State.sparesLinks_claimRange hv).trans (v.sparesLinks_readRange d o n)
  unfold State.atomicEnd
  cases f x.2.data with
  | none => exact hread
  | some new => exact hread.trans (x.1.sparesLinks_writeRange d o new)

end

/-- An atomic's LENGTH is the bytes that it acts on (R274). -/
theorem length_of_atomicFmt (r : Req) : (reqFmt 0x03 r = true → r.length.toNat = 8) ∧
    (reqFmt 0x04 r = true → r.length.toNat = 8) ∧ (reqFmt 0x05 r = true → r.length.toNat = 16) := by
  simp +contextual [reqFmt]

/-- An admitted atomic on `n` bytes completes with what its function makes of the old bytes, and answers from them. -/
theorem completes_atomic {s v : State} {c : Instr} {op n : Nat} {r : Req} {f : List Byte → Option (List Byte)}
    {answer : List Byte → Reply} {x : State × RangeRead}
    (hc : exec c s = .next (s.request c op r (reqFmt op r) State.checkWrite (State.serveAtomic n f answer)))
    (hop : op < 0x40) (hn : reqFmt op r = true → r.length.toNat = n) (h : s.admits c op r = true)
    (haccess : (s.arrived c op r).access r true n = none)
    (hv : (s.arrived c op r).claimRange r.drawer.toNat r.offset.toNat n = some v)
    (hx : v.readRange r.drawer.toNat r.offset.toNat n = x) (hb : x.2.bad = none) (hs : s.surviving)
    (hl : (answer x.2.data).later = false) :
    Completes c s fun t => t.mem = (State.atomicEnd f r.drawer.toNat r.offset.toNat x).mem ∧
      t.sends r.port.val (responseTo op r (answer x.2.data)) := by
  obtain ⟨-, -, -, haccepts, -⟩ := State.admits_iff.1 h
  obtain ⟨-, -, -, -, -, hfmt, -⟩ := State.accepts_iff.1 haccepts
  rw [if_pos hop] at hfmt
  refine completes_answered hc h (if_pos hop).symm ?_ hs (State.serveAtomic_of_claim hv hx hb) hl
    (State.sparesLinks_atomic f hv hx)
  rw [State.checkWrite, hn hfmt]
  exact haccess

/-- Settles O20: each request is served in the state in which it has arrived, by the range operations, and spares the link that its
answer goes out on. -/
theorem fabricReadsAndWritesMoveBytes : Obligations.FabricReadsAndWritesMoveBytes := by
  unfold Obligations.FabricReadsAndWritesMoveBytes
  refine ⟨?read, ?write, ?fadd, ?cas64, ?cas128⟩
  case read =>
    rintro s r u rfl h haccess hs
    exact completes_answered rfl h rfl haccess hs rfl (RangeRead.later_reply _) (State.sparesLinks_readRange ..)
  case write =>
    rintro s r u v rfl h haccess hv hs
    exact completes_answered rfl h rfl haccess hs (State.serveWrite_of_claim hv) rfl
      ((State.sparesLinks_claimRange hv).trans (v.sparesLinks_writeRange ..))
  case fadd =>
    rintro s r u v x rfl h haccess hv hx hb hs
    exact completes_atomic rfl (by decide) (length_of_atomicFmt r).1 h haccess hv hx hb hs rfl
  case cas64 =>
    rintro s r u v x rfl h haccess hv hx hb hs
    have hcas := completes_atomic (c := .cas64 r) rfl (by decide) (length_of_atomicFmt r).2.1 h haccess hv hx hb hs rfl
    by_cases he : leNat x.2.data = r.word.toNat
    · simpa [State.atomicEnd, answerWord, he] using hcas
    · simpa [State.atomicEnd, answerWord, he] using hcas
  case cas128 =>
    rintro s r u v x rfl h haccess hv hx hb hs
    have hcas := completes_atomic (c := .cas128 r) rfl (by decide) (length_of_atomicFmt r).2.2 h haccess hv hx hb hs rfl
    by_cases he : x.2.data = sub r.ops 0 16
    · simpa [State.atomicEnd, he] using hcas
    · simpa [State.atomicEnd, he] using hcas

/-- Settles O21: the line's bytes are the data that the range write stored, and every other byte is that of the memory as the
request found it. -/
theorem wholeLineWriteStoresExactlyItsLine : Obligations.WholeLineWriteStoresExactlyItsLine := by
  unfold Obligations.WholeLineWriteStoresExactlyItsLine
  rintro s r u rfl h haccess hlen hdata hoff hclaim hlive
  have hn : r.length.toNat = 64 := by rw [hlen]; rfl
  have hfits : r.offset.toNat + r.data.length ≤ 2 ^ 40 := by
    have := r.offset.isLt
    omega
  have hmem : (settleServed 0x02 r ((s.arrived (.write r) 0x02 r).serveWrite r)).settle.mem =
      FMap.setRun 0 s.mem (addr r.drawer.toNat r.offset.toNat) r.data := by
    rw [State.mem_settle, mem_settleServed, State.mem_serveWrite_of_line hn hdata hoff hclaim hlive, State.mem_arrived]
  obtain ⟨hin, hout⟩ := byteOf_of_setRun hmem hfits
  rw [hdata] at hin hout
  exact completes_admitted rfl h rfl haccess ⟨hin, hout⟩

end Sys2Proof.Machine

/-! The node's own requests and notifications (R271, R290, R291, R391 to R393): what sending leaves of the outbound requests, the
quarantine and the waits, and how each request and notification ends. -/

namespace Sys2Proof.Machine

/-! ## What sending leaves of the fabric's tables -/

section
variable {β : Type} (g : Fabric → β) (hg : ∀ f l k, g { f with outbound := l, stalled := k } = g f)
include hg

theorem State.markSent_keepsFabric (s : State) (m : Msg) : g (s.markSent m).fabric = g s.fabric := by
  unfold State.markSent
  split
  · exact hg _ _ _
  · rfl

/-- Sending touches of the fabric's tables the requests of the node alone. -/
theorem State.send_keepsFabric (s : State) (p : Nat) (m : Msg) : g (s.send p m).fabric = g s.fabric := by
  rw [State.send_eq]
  refine State.pump_induction (P := fun u => g u.fabric = g s.fabric) rfl ?_ (fun u n hu => ?_) fun u hu => ?_
  · refine foldl_holds (fun u : State => g u.fabric = g s.fabric) (fun u x => u.emitGone p x) (fun u x hu => ?_) _ _ rfl
    rw [State.emitGone, State.fabric_emitFlits]
    exact (u.markSent_keepsFabric g hg x.msg).trans hu
  · rwa [State.fabric_countTx]
  · rwa [State.fabric_creditOnly]

theorem State.assignAll_keepsFabric (s : State) : g s.assignAll.fabric = g s.fabric :=
  State.assignAll_induction (P := fun u => g u.fabric = g s.fabric) rfl (fun _ l k hu => (hg _ l k).trans hu)
    fun u p m hu => (u.send_keepsFabric g hg p m).trans hu

end

@[simp] theorem State.quarantine_assignAll (s : State) : s.assignAll.fabric.quarantine = s.fabric.quarantine :=
  s.assignAll_keepsFabric Fabric.quarantine fun _ _ _ => rfl

/-! ## The numbers of outbound requests -/

/-- No request of the node has number `n`: none waits for a port, is on its way, or stalls. -/
def State.lacksOut (s : State) (n : Nat) : Prop := ∀ x ∈ s.fabric.outbound ++ s.fabric.stalled, x.id ≠ n

section
variable {s : State} {n : Nat}

/-- A change of requests that keeps their numbers. -/
theorem State.lacksOut_map {f : OutReq → OutReq} (hf : ∀ x, (f x).id = x.id) (h : s.lacksOut n) :
    State.lacksOut { s with fabric.outbound := s.fabric.outbound.map f } n := by
  intro x hx
  rcases List.mem_append.1 hx with hx | hx
  · obtain ⟨y, hy, rfl⟩ := List.mem_map.1 hx
    rw [hf]
    exact h y (List.mem_append_left _ hy)
  · exact h x (List.mem_append_right _ hx)

theorem State.lacksOut_congr {t : State} (ht : t.fabric = s.fabric) (h : s.lacksOut n) : t.lacksOut n := by
  rwa [State.lacksOut, ht]

theorem State.lacksOut_markSent (m : Msg) (h : s.lacksOut n) : (s.markSent m).lacksOut n := by
  unfold State.markSent
  split
  · exact State.lacksOut_map (fun x => by split <;> rfl) h
  · exact h

theorem State.lacksOut_pump (p : Nat) (h : s.lacksOut n) : (s.pump p).lacksOut n := by
  refine State.pump_induction (P := (State.lacksOut · n)) h ?_ (fun u k hu => ?_) fun u hu => ?_
  · refine foldl_holds (State.lacksOut · n) (fun u x => u.emitGone p x) (fun u x hu => ?_) _ _ h
    exact State.lacksOut_congr (State.fabric_emitFlits ..) (State.lacksOut_markSent x.msg hu)
  · exact State.lacksOut_congr (State.fabric_countTx ..) hu
  · exact State.lacksOut_congr (State.fabric_creditOnly ..) hu

theorem State.lacksOut_assign (o : OutReq) (h : s.lacksOut n) : (s.assign o).lacksOut n := by
  unfold State.assign
  split
  · exact h
  · rw [State.send_eq]
    refine State.lacksOut_pump _ ?_
    exact State.lacksOut_map (fun x => by split <;> rfl) h

theorem State.lacksOut_enqueue {o : OutReq} (ho : o.id ≠ n) (h : s.lacksOut n) : (s.enqueue o).lacksOut n := by
  have hmem : ∀ x ∈ (s.enqueue o).fabric.outbound ++ (s.enqueue o).fabric.stalled,
      x ∈ s.fabric.outbound ++ s.fabric.stalled ∨ x = o := by
    unfold State.enqueue
    split <;> simp +contextual [or_comm, or_left_comm]
  intro x hx
  rcases hmem x hx with hx | rfl
  · exact h x hx
  · exact ho

theorem State.lacksOut_foldl_enqueue {os : List OutReq} (ho : ∀ o ∈ os, o.id ≠ n) (h : s.lacksOut n) :
    (os.foldl (fun u o => u.enqueue o) s).lacksOut n := by
  induction os generalizing s with
  | nil => exact h
  | cons o os ih =>
    exact ih (fun x hx => ho x (List.mem_cons_of_mem _ hx)) (State.lacksOut_enqueue (ho o List.mem_cons_self) h)

/-- Placing the requests that wait adds none. -/
theorem State.lacksOut_assignAll (h : s.lacksOut n) : s.assignAll.lacksOut n := by
  have hstalled : State.lacksOut { s with fabric.stalled := [] } n := fun x hx =>
    h x (List.mem_append_left _ (by simpa using hx))
  unfold State.assignAll
  exact foldl_holds (State.lacksOut · n) _ (fun u o hu => State.lacksOut_assign o hu) _ _
    (State.lacksOut_foldl_enqueue (fun o ho => h o (List.mem_append_right _ ho)) hstalled)

end

/-- Placing requests leaves a session open-ended. -/
theorem State.openEnded_assignAll {s : State} {q : Nat} (h : (s.port q).openEnded = true) :
    (s.assignAll.port q).openEnded = true := by
  unfold State.assignAll
  refine foldl_holds (fun u : State => (u.port q).openEnded = true) _ (fun u o hu => ?_) _ _ ?_
  · unfold State.assign
    split
    · exact hu
    · exact State.openEnded_send rfl _ hu
  · refine foldl_holds (fun u : State => (u.port q).openEnded = true) _ (fun u o hu => ?_) _ _ h
    unfold State.enqueue
    split <;> exact hu

/-! ## The end of an abandoned request (R271, R290, R291) -/

/-- The state without an outbound request. -/
def State.dropOut (s : State) (o : OutReq) : State :=
  { s with fabric.outbound := s.fabric.outbound.filter (·.id != o.id) }

section
variable {s : State} {o : OutReq}

theorem State.lacksOut_dropOut (h : ∀ x ∈ s.fabric.stalled, x.id ≠ o.id) : (s.dropOut o).lacksOut o.id := by
  intro x hx
  rcases List.mem_append.1 hx with hx | hx
  · simpa using (List.mem_filter.1 hx).2
  · exact h x hx

/-- The answer to an abandoned request ends it, and is counted as a transport error where it comes too late. -/
theorem State.answered_of_abandoned (h : o.issuer = .abandoned) (r : RespFields) :
    s.answered o r = s.dropOut o ∨ ∃ p, s.answered o r = (s.dropOut o).transportError p := by
  simp only [State.answered, h]
  split
  · exact .inl rfl
  · split
    · exact .inl rfl
    · exact .inr ⟨_, rfl⟩

theorem Port.openEnded_countErr (v : Port) (i : Nat) : (v.countErr i).openEnded = v.openEnded := by
  simp [Port.openEnded, Port.countErr, Port.closed]

theorem State.openEnded_transportError (s : State) (p q : Nat) : ((s.transportError p).port q).openEnded = (s.port q).openEnded := by
  unfold State.transportError State.updPort
  exact State.setPort_keeps Port.openEnded (Port.openEnded_countErr ..) q

/-- What the answer to an abandoned request leaves: the request is gone, and the session of each port open-ended as it was. -/
theorem State.answered_frame (h : o.issuer = .abandoned) (hs : ∀ x ∈ s.fabric.stalled, x.id ≠ o.id) (r : RespFields) :
    (s.answered o r).lacksOut o.id ∧ (∀ q, ((s.answered o r).port q).openEnded = (s.port q).openEnded) ∧
      (s.answered o r).mem = s.mem := by
  rcases s.answered_of_abandoned h r with he | ⟨p, he⟩ <;> rw [he]
  · exact ⟨State.lacksOut_dropOut hs, fun q => rfl, rfl⟩
  · exact ⟨State.lacksOut_congr rfl (State.lacksOut_dropOut hs), fun q => State.openEnded_transportError .., rfl⟩

/-- What the timeout of an abandoned request leaves: the request is gone, and the tag that it held is in quarantine. -/
theorem State.timeOut_frame (h : o.issuer = .abandoned) (hs : ∀ x ∈ s.fabric.stalled, x.id ≠ o.id) :
    (s.timeOut o).lacksOut o.id ∧
      (s.timeOut o).fabric.quarantine = s.fabric.quarantine ++ o.port.toList.map fun p => (p, o.tag, s.ts) := by
  have hdone : s.outDone o .timeout = s.dropOut o := by simp only [State.outDone, h]; rfl
  unfold State.timeOut
  rw [hdone]
  cases o.port with
  | none => exact ⟨State.lacksOut_assignAll (State.lacksOut_dropOut hs), by simp [State.dropOut]⟩
  | some p => exact ⟨State.lacksOut_assignAll (State.lacksOut_dropOut hs :), by simp [State.dropOut]⟩

end

theorem State.train_of_frontResp {v : Port} {m : RxMsg} (h : v.frontResp = some m) : m.train = false := by
  simpa using (Bool.and_eq_true_iff.1 (List.find?_some (p := fun m : RxMsg => m.isResponse && !m.train) h)).2

/-- The response in front is taken for the request that it answers. -/
theorem State.takeResp_of_answered {s : State} {p : Nat} {m : RxMsg} {o : OutReq} {r : RespFields}
    (ho : s.answeredBy p m = some o) (hr : respFields m.bytes = some r) :
    s.takeResp p m = ((((s.took p m).answered o r).assignAll).afterFlit p).settle := by
  have ho' : (s.updPort p (·.dropRx m)).answeredBy p m = some o := ho
  simp only [State.takeResp, ho', hr]
  rfl

/-- The response to an abandoned request takes it from the requests of the node. -/
theorem State.takeResp_frame {s : State} {p : Nat} {m : RxMsg} {o : OutReq} (hm : m.train = false)
    (ho : s.answeredBy p m = some o) (hr : (respFields m.bytes).isSome = true) (ha : o.issuer = .abandoned)
    (hopen : (s.port p).openEnded = true) (hs : ∀ x ∈ s.fabric.stalled, x.id ≠ o.id) :
    (s.takeResp p m).lacksOut o.id ∧ (s.takeResp p m).mem = s.mem := by
  obtain ⟨r, hr⟩ := Option.isSome_iff_exists.1 hr
  obtain ⟨held, owed, hport⟩ := State.port_took_data (s := s) (p := p) hm
  obtain ⟨hlacks, hends, hmem⟩ := State.answered_frame (s := s.took p m) ha hs r
  have hopen' : ((((s.took p m).answered o r).assignAll).port p).openEnded = true :=
    State.openEnded_assignAll (by rw [hends, hport]; exact hopen)
  rw [State.takeResp_of_answered ho hr, State.afterFlit_of_openEnded hopen']
  refine ⟨State.lacksOut_congr (State.announces_settle _).fabric (State.lacksOut_pump p (State.lacksOut_assignAll hlacks)), ?_⟩
  rw [State.mem_settle, (State.undisturbed_pump ..).2.1, (State.undisturbed_assignAll _).2.1]
  exact hmem

/-- RESPONSE_RECEIVED takes the response in front. -/
theorem execResponseReceived_of_front {s : State} {p : Fin 32} {m : RxMsg} (hfront : (s.port p.val).frontResp = some m)
    (hdelivers : s.delivers p.val = true) (hg : s.inputsGo = true) :
    execResponseReceived p m.bytes s = .next ((s.inputOf (.responseReceived p m.bytes)).takeResp p.val m) := by
  simp [execResponseReceived, hfront, hdelivers, State.deliver_of_go _ _ hg]

section
variable {s : State} {o : OutReq} {n : Nat}

/-- OUTBOUND_TIMEOUT ends the request that it finds under a tag on a port. -/
theorem execOutboundTimeout_of_tag {p : Fin 32} (hg : s.inputsGo = true)
    (ho : (s.fabric.outbound.find? fun x => x.port == some p.val && x.tag == n && x.sent &&
      (s.port p.val).mode != .replay && (s.port p.val).mode != .hold) = some o) :
    execOutboundTimeout (some p) n s = .next ((s.inputOf (.outboundTimeout (some p) n)).timeOut o) := by
  simp [execOutboundTimeout, ho, State.deliver_of_go _ _ hg]

/-- The same of one that waits for a node ID. -/
theorem execOutboundTimeout_of_number (hg : s.inputsGo = true)
    (ho : (s.fabric.outbound.find? fun x => x.id == n && s.awaitsId x) = some o) :
    execOutboundTimeout none n s = .next ((s.inputOf (.outboundTimeout none n)).timeOut o) := by
  simp [execOutboundTimeout, ho, State.deliver_of_go _ _ hg]

end

/-! ## What sending leaves of counters and waits -/

@[simp] theorem State.sync_msix (s : State) (v : Nat) : (s.msix v).sync = s.sync := by
  unfold State.msix
  (repeat' split) <;> rfl

@[simp] theorem State.sync_signal (s : State) (v : Nat) : (s.signal v).sync = s.sync := by
  unfold State.signal
  split <;> simp

@[simp] theorem State.sync_post (s : State) (e : Ev) (kind : SourceKind) (n : Nat) (entry : EventEntry) :
    (s.post e kind n entry).sync = s.sync := by
  unfold State.post
  extract_lets _ s1 s2 _ s3 _ s4
  have h2 : s2.sync = s.sync := by
    simp only [s2]
    split
    · exact s1.sync_signal _
    · rfl
  have h3 : s3.sync = s.sync := by
    simp only [s3]
    split <;> exact h2
  have h4 : s4.sync = s.sync := by
    simp only [s4]
    split <;> exact h3
  split <;> exact h4

@[simp] theorem State.sync_countTx (s : State) (p n : Nat) : (s.countTx p n).sync = s.sync := by
  unfold State.countTx
  dsimp only
  split
  · exact State.sync_post ..
  · rfl

@[simp] theorem State.sync_emitFlits (s : State) (p : Nat) (raws : List (List Byte)) : (s.emitFlits p raws).sync = s.sync :=
  foldl_keeps State.sync (fun u x => u.emit (.flit p x)) (fun _ _ => rfl) raws s

@[simp] theorem State.sync_emitGone (s : State) (p : Nat) (g : Gone) : (s.emitGone p g).sync = s.sync := by
  have hmark : (s.markSent g.msg).sync = s.sync := by
    unfold State.markSent
    split <;> rfl
  simp [State.emitGone, hmark]

@[simp] theorem State.sync_pump (s : State) (p : Nat) : (s.pump p).sync = s.sync :=
  State.pump_induction (P := fun u => u.sync = s.sync) rfl
    (foldl_keeps State.sync (fun u x => u.emitGone p x) (fun u x => u.sync_emitGone p x) _ _)
    (fun u n hu => by rwa [State.sync_countTx]) fun u hu => by simpa [State.creditOnly] using hu

/-! ## Notifications (R391 to R393) -/

section
variable {s : State} {p : Nat} {m : Msg}

/-- A message that goes at once is recorded, and touches neither counters nor waits. -/
theorem State.launchNow_frame (s : State) (p : Nat) (m : Msg) :
    .message p (s.port p).nextSeq m ∈ (s.launchNow p m).out ∧ (s.launchNow p m).sync = s.sync :=
  ⟨State.mem_out_countTx _ _ (State.message_mem_emitGone ..), by simp [State.launchNow]⟩

theorem State.openEnded_launchNow (hm : isVc3 0x18 (some m) = false) (h : (s.port p).openEnded = true) :
    ((s.launchNow p m).port p).openEnded = true := by
  obtain ⟨hquiesce, hbuf, htxq⟩ := Port.openEnded_iff.1 h
  obtain ⟨hframe, hq, raw, hr⟩ := (s.port p).launch_frame m (s.msgBytes p m) (s.withheld p)
  have hport : ((s.launchNow p m).port p).openEnded =
      ((s.port p).launch m (s.msgBytes p m) (s.withheld p)).1.openEnded := by
    rw [State.launchNow, State.countTx_keeps Port.openEnded (fun _ _ _ => rfl), State.port_emitGone, State.port_setPort_self]
  rw [hport]
  refine Port.openEnded_iff.2
    ⟨(Port.quiesce_of_sansWork (Port.sansWork_of_sansTraffic hframe)).trans hquiesce, fun x hx => ?_, hq ▸ htxq⟩
  rw [hr, List.mem_append, List.mem_singleton] at hx
  rcases hx with hx | rfl
  · exact hbuf x hx
  · exact hm

end

/-- The notification of a wait whose target is an endpoint, with the value of its counter (Table 11–6). -/
def State.notifyMsg (s : State) (p id : Nat) (w : Wait) (ep : Nat) (cookie : W32) (a : W64) (st : Status) : Msg :=
  ⟨2, 3, .notify id ((s.nodeId p).getD 0x3FFF) ep w.counter (w.fixed.getD (s.counter w.counter)).value
    (notifySlot a cookie st (w.fixed.getD (s.counter w.counter)).sat)⟩

/-- The state in which a notification has gone on port `p`: its wait waits for its ACK. -/
def State.notified (s : State) (p id : Nat) (st : Status) (m : Msg) : State :=
  ((s.launchNow p m).setPhase id (.passed st p (s.port p).nextSeq)).afterFlit p

theorem State.notified_frame {s : State} {p id : Nat} {st : Status} {m : Msg} {w : Wait}
    (hw : s.sync.waits.find? (·.id == id) = some w) (hm : isVc3 0x18 (some m) = false)
    (hopen : (s.port p).openEnded = true) : .message p (s.port p).nextSeq m ∈ (s.notified p id st m).out ∧
      ∃ y ∈ (s.notified p id st m).sync.waits, y.id = id ∧ y.phase = .passed st p (s.port p).nextSeq := by
  obtain ⟨hout, hsync⟩ := s.launchNow_frame p m
  have hid : w.id = id := by simpa using List.find?_some hw
  have hpump : s.notified p id st m = ((s.launchNow p m).setPhase id (.passed st p (s.port p).nextSeq)).pump p :=
    State.afterFlit_of_openEnded (State.openEnded_launchNow hm hopen)
  rw [hpump]
  refine ⟨State.mem_out_pump p hout, { w with phase := .passed st p (s.port p).nextSeq }, ?_, hid, rfl⟩
  rw [State.sync_pump]
  refine List.mem_map.2 ⟨w, ?_, if_pos hid⟩
  rw [hsync]
  exact List.mem_of_find?_eq_some hw

section
variable {s : State} {p : Fin 32} {id ep : Nat} {w : Wait} {cookie : W32} {a : W64} {st : Status}
  (hw : s.sync.waits.find? (·.id == id) = some w) (ht : w.target = some (.endpoint ep cookie a)) (hph : w.phase = .pending st)
  (hb : s.boundOn ep p.val = true) (ha : s.mayAddress p.val = true) (hs : (s.port p.val).hasSession = true)
include hw ht hph hb ha hs

/-- On a port that may send, a pending notification goes. -/
theorem execNotifyDelivery_of_maySend (hsend : (s.port p.val).maySend = true)
    (hroom : (s.port p.val).room (s.notifyMsg p.val id w ep cookie a st) = true) (hg : s.inputsGo = true) :
    execNotifyDelivery p id s =
      .next ((s.inputOf (.notifyDelivery p id)).notified p.val id st (s.notifyMsg p.val id w ep cookie a st)) := by
  have hawake : (s.port p.val).dozes = false := by
    have hmode : (s.port p.val).mode = .up ∨ (s.port p.val).mode = .quiesce := by
      simp only [Port.maySend, Bool.and_eq_true, Bool.or_eq_true, beq_iff_eq] at hsend
      exact hsend.1.1.1.1
    rcases hmode with hmode | hmode <;> simp [Port.dozes, hmode]
  have hport : (s.inputOf (.notifyDelivery p id)).port p.val = s.port p.val := by simp [State.port]
  rw [State.notifyMsg] at hroom ⊢
  simp [execNotifyDelivery, hw, ht, hph, hb, ha, hs, hawake, hsend, hroom, State.deliver_of_go _ _ hg, State.notified, hport]

/-- A dozing port begins to wake for it (R209). -/
theorem execNotifyDelivery_of_doze (hm : (s.port p.val).mode = .doze) :
    execNotifyDelivery p id s = .next (s.setPort p.val (s.port p.val).wakeForWork) := by
  simp [execNotifyDelivery, hw, ht, hph, hb, ha, hs, Port.dozes, hm]

end

/-- A notification that rings a doorbell frees its wait and writes the tail, where no set freezes the queue. -/
theorem execDoorbellNotifyDelivery_of_pending {s : State} {id q : Nat} {w : Wait} {tail : W32} {st : Status} {x : QueueRange}
    (hw : s.sync.waits.find? (·.id == id) = some w) (ht : w.target = some (.doorbell q tail)) (hph : w.phase = .pending st)
    (hg : s.inputsGo = true) (hx : s.range q = some x) : execDoorbellNotifyDelivery id s =
      .next (if s.queueFrozen q then (s.inputOf (.doorbellNotifyDelivery id)).freeWait id
        else ((s.inputOf (.doorbellNotifyDelivery id)).freeWait id).setQueue q ((s.queue q).bell x.depth tail).1) := by
  have hrange : (s.inputOf (.doorbellNotifyDelivery id)).range q = some x := by simpa [State.range, State.records] using hx
  simp [execDoorbellNotifyDelivery, hw, ht, hph, State.deliver_of_go _ _ hg, hrange, State.queueFrozen, State.queue]

/-! ## The statement about outbound requests and notifications -/

/-- Settles O23: an abandoned request is dropped by its response and by its timeout, which sending does not bring back; a
notification goes at once or wakes its port, and a doorbell is rung as its queue's record says. -/
theorem outboundRequestsAndNotificationsEnd : Obligations.OutboundRequestsAndNotificationsEnd := by
  unfold Obligations.OutboundRequestsAndNotificationsEnd
  refine ⟨?response, ?timeout, ?unplaced, ?quarantine, ?notify, ?doze, ?doorbell⟩
  case response =>
    intro s p m o hdelivers hfront hg ho hr ha hopen hs
    have hport : (s.inputOf (.responseReceived p m.bytes)).port p.val = s.port p.val := by simp [State.port]
    obtain ⟨hlacks, hmem⟩ := State.takeResp_frame (s := s.inputOf (.responseReceived p m.bytes)) (p := p.val)
      (State.train_of_frontResp hfront) (by simpa [State.answeredBy] using ho) hr ha (by rw [hport]; exact hopen)
      (by simpa using hs)
    exact completes_next (execResponseReceived_of_front hfront hdelivers hg)
      ⟨fun x hx => hlacks x (List.mem_append_left _ hx), hmem.trans (s.inputOf_mem _)⟩
  case timeout =>
    intro s p tag o ho hg ha hs
    obtain ⟨hlacks, hquarantine⟩ := State.timeOut_frame (s := s.inputOf (.outboundTimeout (some p) tag.toNat)) ha
      (by simpa using hs)
    have hfound := List.find?_some ho
    simp only [Bool.and_eq_true, beq_iff_eq] at hfound
    obtain ⟨⟨⟨⟨hport, htag⟩, -⟩, -⟩, -⟩ := hfound
    refine completes_next (execOutboundTimeout_of_tag hg ho) ⟨?_, fun x hx => hlacks x (List.mem_append_left _ hx)⟩
    simp [hquarantine, hport, htag, State.ts]
  case unplaced =>
    intro s id o ho hg ha hs
    obtain ⟨hlacks, hquarantine⟩ := State.timeOut_frame (s := s.inputOf (.outboundTimeout none id)) ha (by simpa using hs)
    have hfound := List.find?_some ho
    simp only [State.awaitsId, Bool.and_eq_true, Option.isNone_iff_eq_none] at hfound
    obtain ⟨-, ⟨hport, -⟩, -⟩ := hfound
    refine completes_next (execOutboundTimeout_of_number hg ho) ⟨?_, fun x hx => hlacks x (List.mem_append_left _ hx)⟩
    simp [hquarantine, hport]
  case quarantine =>
    intro s p tag
    refine ⟨_, rfl, fun x hx => ?_⟩
    rw [State.quarantine_assignAll] at hx
    simpa [imp_iff_not_or] using (List.mem_filter.1 hx).2
  case notify =>
    intro s p id w ep cookie a st hw ht hph hb haddr hsession hsend hopen hg hroom
    have hport : (s.inputOf (.notifyDelivery p id)).port p.val = s.port p.val := by simp [State.port]
    have hframe := State.notified_frame (s := s.inputOf (.notifyDelivery p id)) (p := p.val) (st := st)
      (m := s.notifyMsg p.val id w ep cookie a st) (by simpa using hw) rfl (by rw [hport]; exact hopen)
    rw [hport] at hframe
    exact completes_next (execNotifyDelivery_of_maySend hw ht hph hb haddr hsession hsend hroom hg) hframe
  case doze =>
    intro s p id w ep cookie a st hw ht hph hb haddr hsession hm
    refine completes_next (execNotifyDelivery_of_doze hw ht hph hb haddr hsession hm) ⟨rfl, ?_, rfl⟩
    simp [Port.wakeForWork, hm]
  case doorbell =>
    intro s id w q tail st x hw ht hph hg hx
    refine completes_next (execDoorbellNotifyDelivery_of_pending hw ht hph hg hx) ?_
    have hqueue : ((s.inputOf (.doorbellNotifyDelivery id)).freeWait id).queue q = s.queue q := by
      simp [State.queue, State.freeWait, State.setWaits]
    have hfreed : ∀ y ∈ ((s.inputOf (.doorbellNotifyDelivery id)).freeWait id).sync.waits, y.id ≠ id := by
      simp [State.freeWait, State.setWaits]
    have hmem : ((s.inputOf (.doorbellNotifyDelivery id)).freeWait id).mem = s.mem := s.inputOf_mem _
    cases s.queueFrozen q with
    | true => exact ⟨hqueue, hfreed, hmem⟩
    | false => exact ⟨State.queue_setQueue_self .., hfreed, hmem⟩

end Sys2Proof.Machine

/-! Benches (chapter 9): their roles, consumed inputs and cores, the end of throttling, and what a promotion makes of them. -/

namespace Sys2Proof.Machine

/-! ## Roles, consumed inputs and cores (R294, R298, R302, R706) -/

theorem Benches.role_setRole (b : Benches) (i j : BenchId) (r : Role) :
    (b.setRole i r).role j = if j = i then r else b.role j := by
  cases i <;> cases j <;> rfl

theorem Benches.core_setCore (b : Benches) (i j : BenchId) (c : Core) :
    (b.setCore i c).core j = if j = i then c else b.core j := by
  cases i <;> cases j <;> rfl

@[simp] theorem Benches.core_setCore_self (b : Benches) (i : BenchId) (c : Core) : (b.setCore i c).core i = c := by
  simp [Benches.core_setCore]

@[simp] theorem Benches.claim_setRole (b : Benches) (i : BenchId) (r : Role) : (b.setRole i r).claim = b.claim := by
  cases i <;> rfl

@[simp] theorem Benches.claim_setTaken (b : Benches) (i : BenchId) (n : Nat) : (b.setTaken i n).claim = b.claim := by
  cases i <;> rfl

/-- What the ACTIVE benches have consumed is all that `activesAt` sets. -/
theorem Benches.activesAt_eq (b : Benches) (n : Nat) : b.activesAt n = { b with
    takenA := if b.roleA = .active then n else b.takenA
    takenB := if b.roleB = .active then n else b.takenB
    takenC := if b.roleC = .active then n else b.takenC } := by
  by_cases hA : b.roleA = .active <;> by_cases hB : b.roleB = .active <;> by_cases hC : b.roleC = .active <;>
    simp [Benches.activesAt, Benches.inRole, allBenches, Benches.role, Benches.setTaken, hA, hB, hC]

@[simp] theorem Benches.role_activesAt (b : Benches) (n : Nat) (i : BenchId) : (b.activesAt n).role i = b.role i := by
  rw [Benches.activesAt_eq]; rfl

theorem Benches.taken_activesAt {b : Benches} {i : BenchId} (h : b.role i = .active) (n : Nat) : (b.activesAt n).taken i = n := by
  rw [Benches.activesAt_eq]
  cases i <;> exact if_pos h

theorem Benches.role_of_spare {b : Benches} {i : BenchId} (h : b.spare = some i) : b.role i = .spare := by
  simpa [Benches.inRole] using (List.mem_filter.1 (List.mem_of_mem_head? h)).2

/-! ## After the delivery of an input -/

@[simp] theorem State.role_inputOf (s : State) (c : Instr) (i : BenchId) : (s.inputOf c).bench.role i = s.bench.role i := by
  cases i <;> simp [Benches.role]

@[simp] theorem State.core_inputOf (s : State) (c : Instr) (i : BenchId) : (s.inputOf c).bench.core i = s.bench.core i := by
  cases i <;> simp [Benches.core]

@[simp] theorem State.spare_inputOf (s : State) (c : Instr) : (s.inputOf c).bench.spare = s.bench.spare := by
  simp [Benches.spare, Benches.inRole]

@[simp] theorem State.gatesHold_inputOf (s : State) (c : Instr) : (s.inputOf c).gatesHold = s.gatesHold := by
  simp [State.gatesHold]

@[simp] theorem State.fullApplyOn_inputOf (s : State) (c : Instr) : (s.inputOf c).fullApplyOn = s.fullApplyOn := by
  simp [State.fullApplyOn]

/-- No pause of delivery stands where an input is delivered at once to benches that run. -/
theorem State.portInput_of_go {s : State} (h : s.inputsGo = true) (c : Instr) : s.portInput c = s.inputOf c := by
  unfold State.portInput State.inputOf
  cases hb : s.benchesRun
  case false => rfl
  case true =>
    have hg : s.gatesHold = false := by
      simp only [State.inputsGo, State.inputsWait, hb, Bool.not_true, Bool.false_or, Bool.not_eq_true', Bool.or_eq_false_iff] at h
      exact h.1
    simp [hg]

/-! ## What announcements keep -/

theorem State.Announces.bench {s t : State} (h : s.Announces t) : t.bench = s.bench := (congrArg State.bench h.rest :)

@[simp] theorem State.raise_bench (s : State) (e : Ev) (kind : SourceKind) (n a b c : Nat) :
    (s.raise e kind n a b c).bench = s.bench := (s.announces_raise ..).bench

@[simp] theorem State.answer_bench (s : State) (i r kind : Nat) (st : Status) (body : Body) :
    (s.answer i r kind st body).bench = s.bench := by
  unfold State.answer; split <;> rfl

/-! ## The end of throttling (R300) -/

theorem State.foldl_emit (l : List Out) (s : State) : l.foldl State.emit s = { s with out := s.out ++ l } := by
  induction l generalizing s with
  | nil => simp
  | cons o l ih => simp [ih, State.emit]

/-- The completions that were delayed go, in order. -/
theorem State.unthrottle_eq (s : State) :
    s.unthrottle = { s with bench.throttled := false, delayed := [], out := s.out ++ s.delayed } :=
  State.foldl_emit s.delayed _

/-! ## Promotions (R313, R319) -/

theorem State.canPromote_iff {s : State} :
    s.canPromote = true ↔ (∃ sp, s.bench.spare = some sp) ∧ s.bench.claim ≠ lastClaim := by
  simp [State.canPromote, Option.isSome_iff_exists]

/-- The benches once the spare `sp` has taken the place of bench `i` under the next claim, the new pair having consumed `n`
inputs; `raised` is whether CLAIM_LAST has been raised. -/
def Benches.promoted (b : Benches) (i sp : BenchId) (n : Nat) (raised : Bool) : Benches :=
  { ((b.setRole i .retired).setRole sp .active).activesAt n with throttled := false, claim := b.claim + 1, lastRaised := raised }

theorem Benches.role_promoted (b : Benches) (i sp j : BenchId) (n : Nat) (raised : Bool) :
    (b.promoted i sp n raised).role j = if j = sp then .active else if j = i then .retired else b.role j :=
  (Benches.role_activesAt _ n j).trans (by simp only [Benches.role_setRole])

@[simp] theorem Benches.dispute_promoted (b : Benches) (i sp : BenchId) (n : Nat) (raised : Bool) :
    (b.promoted i sp n raised).dispute = b.dispute := by
  simp only [Benches.promoted, Benches.activesAt_eq]
  cases i <;> cases sp <;> rfl

@[simp] theorem Benches.claim_promoted (b : Benches) (i sp : BenchId) (n : Nat) (raised : Bool) :
    (b.promoted i sp n raised).claim = b.claim + 1 := rfl

@[simp] theorem Benches.detach_promoted (b : Benches) (i sp : BenchId) (n : Nat) (raised : Bool) :
    (b.promoted i sp n raised).detach = b.detach := by
  simp only [Benches.promoted, Benches.activesAt_eq]
  cases i <;> cases sp <;> rfl

theorem State.aside_issueClaim (s : State) :
    ∃ raised, s.issueClaim.aside = { s.aside with bench.claim := s.bench.claim + 1, bench.lastRaised := raised } := by
  unfold State.issueClaim
  dsimp only
  split
  · exact ⟨true, State.aside_raise ..⟩
  · exact ⟨s.bench.lastRaised, rfl⟩

/-- A promotion changes the benches, and lets the delayed completions go. -/
theorem State.aside_promote {s : State} {sp : BenchId} (h : s.bench.spare = some sp) (i : BenchId) (n : Nat) :
    ∃ raised, (s.promote i n).aside = { s.aside with bench := s.bench.promoted i sp n raised, delayed := [] } := by
  unfold State.promote
  simp only [h, State.unthrottle_eq]
  obtain ⟨raised, hclaim⟩ := State.aside_issueClaim _
  refine ⟨raised, hclaim.trans ?_⟩
  simp [State.aside, Benches.promoted, Benches.activesAt_eq]

/-- A planned promotion announces what it did, and does no more than a promotion at the present input. -/
theorem State.aside_plannedPromotion {s : State} {sp : BenchId} (h : s.bench.spare = some sp) (i : BenchId) (cause : Nat) :
    ∃ raised, (s.plannedPromotion i cause).aside =
      { s.aside with bench := s.bench.promoted i sp s.bench.inputs raised, delayed := [] } := by
  obtain ⟨raised, hp⟩ := State.aside_promote h i s.bench.inputs
  exact ⟨raised, ((State.aside_settle _).trans (State.aside_raise ..)).trans hp⟩

theorem State.plannedPromotion_bench {s : State} {sp : BenchId} (h : s.bench.spare = some sp) (i : BenchId) (cause : Nat) :
    ∃ raised, (s.plannedPromotion i cause).bench = s.bench.promoted i sp s.bench.inputs raised := by
  obtain ⟨raised, hp⟩ := State.aside_plannedPromotion h i cause
  exact ⟨raised, congrArg State.bench hp⟩

theorem State.plannedPromotion_frame (s : State) (i : BenchId) (cause : Nat) (h : s.canPromote = true) :
    (s.plannedPromotion i cause).bench.dispute = s.bench.dispute ∧ (s.plannedPromotion i cause).mem = s.mem := by
  obtain ⟨⟨sp, hsp⟩, -⟩ := State.canPromote_iff.1 h
  obtain ⟨raised, hp⟩ := State.aside_plannedPromotion hsp i cause
  have hbench : (s.plannedPromotion i cause).bench = s.bench.promoted i sp s.bench.inputs raised := congrArg State.bench hp
  exact ⟨by simp [hbench], (congrArg State.mem hp :)⟩

/-- The retirement of the spare changes its role, ends throttling, and lets the delayed completions go (R301, R311). -/
theorem State.aside_retireSpare {s : State} {sp : BenchId} (h : s.bench.spare = some sp) (cause gate : Nat) :
    (s.retireSpare cause gate).aside =
      { s.aside with bench := { s.bench.setRole sp .retired with throttled := false }, delayed := [] } := by
  unfold State.retireSpare
  simp only [h]
  rw [State.aside_settle, State.aside_raise, State.unthrottle_eq]
  rfl

end Sys2Proof.Machine

/-! Output gates (R304, R305, R315, R321): what a gate makes of an output, and what a dispute sets. -/

namespace Sys2Proof.Machine

/-! ## Gates and disputes -/

/-- A gate that has accepted a claim keeps to it, and to what it holds. -/
theorem Benches.seeClaim_accepted (b : Benches) (g : Nat) : b.seeClaim g (b.acceptedAt g) = b := by
  simp [Benches.seeClaim]

section
variable {s : State}

theorem State.failReadmit_of_none (h : s.bench.readmit = none) (reason : Nat) : s.failReadmit reason = s := by
  simp [State.failReadmit, h]

/-- Without a re-admission, a dispute returns the ACTIVE benches to before its input, and sets no more. -/
theorem State.beginDispute_of_noReadmit (h : s.bench.readmit = none) (d : Dispute) :
    s.beginDispute d = { s with bench := { s.bench.activesAt (d.input - 1) with dispute := some d } } := by
  simp [State.beginDispute, State.failReadmit_of_none h]

theorem State.taken_beginDispute (h : s.bench.readmit = none) (d : Dispute) {i : BenchId} (hi : s.bench.role i = .active) :
    (s.beginDispute d).bench.taken i = d.input - 1 := by
  rw [State.beginDispute_of_noReadmit h]
  have htaken := Benches.taken_activesAt hi (d.input - 1)
  cases i <;> exact htaken

/-- An output that its gate has not emitted goes to the consumer, and into the gate's history. -/
theorem State.emitOut_of_new {g : Nat} {o : BenchOut} (h : s.bench.wasEmitted g o.input o.index = false)
    (charge : Option (BenchId × Nat × BenchId × Nat)) :
    (s.emitOut g o charge).out = s.out ++ [.emitted g o.input o.index o.content o.claim] ∧
      (s.emitOut g o charge).bench.wasEmitted g o.input o.index = true := by
  rw [State.emitOut, if_neg (by simp [h])]
  exact ⟨rfl, by simp [State.emit, Benches.wasEmitted]⟩

@[simp] theorem State.emitOut_mem (s : State) (g : Nat) (o : BenchOut) (charge : Option (BenchId × Nat × BenchId × Nat)) :
    (s.emitOut g o charge).mem = s.mem := by
  unfold State.emitOut; split <;> rfl

@[simp] theorem State.emitOut_dispute (s : State) (g : Nat) (o : BenchOut) (charge : Option (BenchId × Nat × BenchId × Nat)) :
    (s.emitOut g o charge).bench.dispute = s.bench.dispute := by
  unfold State.emitOut; split <;> rfl

@[simp] theorem State.emitOut_claim (s : State) (g : Nat) (o : BenchOut) (charge : Option (BenchId × Nat × BenchId × Nat)) :
    (s.emitOut g o charge).bench.claim = s.bench.claim := by
  unfold State.emitOut; split <;> rfl

end

/-! ## GATE_OUTPUT -/

section
variable {s : State} {g : Fin 179} {o : BenchOut} {m : Nat × BenchOut}
  (hnode : s.power.node = .ready) (hmade : s.bench.made o = true)
include hnode hmade

/-- An output under a claim below the accepted one is counted, and dropped. -/
theorem execGateOutput_of_fenced (hclaim : o.claim.toNat < (s.bench.acceptedAt g.val).toNat) :
    exec (.gateOutput g o) s = .next { s with bench.fenced := satAdd 0xFFFFFFFF s.bench.fenced 1 } := by
  change execGateOutput g o s = _
  simp [execGateOutput, State.isIn, hnode, hmade, hclaim]

/-- The second of a pair outside a dispute: it is emitted where both agree, and a dispute begins where they differ. -/
theorem execGateOutput_of_pair (hclaim : s.bench.acceptedAt g.val = o.claim) (hrole : s.bench.role o.bench = .active)
    (hnew : s.bench.wasEmitted g.val o.input o.index = false) (hcalm : s.bench.dispute = none)
    (hmate : (s.bench.waiting.find? fun x => x.1 == g.val && x.2.input == o.input && x.2.index == o.index &&
      x.2.claim == o.claim && x.2.bench != o.bench && s.bench.role x.2.bench == .active) = some m) :
    exec (.gateOutput g o) s = .next (if m.2.content = o.content then s.emitOut g.val o none
      else { s with bench.waiting := s.bench.waiting ++ [(g.val, o)] }.beginDispute
        { gate := g.val, input := o.input, index := o.index, outA := some m.2, outB := some o, phase := .retry, late := none }) := by
  change execGateOutput g o s = _
  have hsee : s.bench.seeClaim g.val o.claim = s.bench := hclaim ▸ s.bench.seeClaim_accepted g.val
  simp only [execGateOutput, State.isIn, hnode, hmade, hclaim, hrole, hsee, hnew, hcalm, hmate]
  by_cases hsame : m.2.content = o.content <;> simp [hsame]

end

/-- The skew limit of an ACTIVE bench's output that waits, outside a dispute. -/
theorem execSkewLimitExpiry_of_waiting {s : State} {g : Fin 179} {x : Nat × BenchOut} (hcalm : s.bench.dispute = none)
    (hx : (s.bench.waiting.find? fun y => y.1 == g.val && s.bench.role y.2.bench == .active) = some x) :
    exec (.skewLimitExpiry g) s = .next (s.beginDispute
      { gate := g.val, input := x.2.input, index := x.2.index, outA := some x.2, outB := none, phase := .retry,
        late := s.bench.partner x.2.bench }) := by
  change execSkewLimitExpiry g s = _
  simp [execSkewLimitExpiry, hcalm, hx]

/-! ## The statement about gates -/

/-- Settles O11: the two outcomes of a pair at a gate, the skew limit's dispute, and the two ways of delivering an input. -/
theorem gatesCompareFenceAndDispute : Obligations.GatesCompareFenceAndDispute := by
  unfold Obligations.GatesCompareFenceAndDispute
  refine ⟨?fenced, ?agree, ?differ, ?skew, ?delivered, ?waits⟩
  case fenced =>
    intro s g o hnode hmade hclaim
    exact completes_next (execGateOutput_of_fenced hnode hmade hclaim) rfl
  case agree =>
    intro s g o m hnode hmade hclaim hrole hnew hcalm hmate hsame
    refine completes_next (execGateOutput_of_pair hnode hmade hclaim hrole hnew hcalm hmate) ?_
    obtain ⟨hout, hemitted⟩ := State.emitOut_of_new hnew none
    rw [if_pos hsame]
    exact ⟨hout, hemitted, by simpa using hcalm, by simp, by simp⟩
  case differ =>
    intro s g o m hnode hmade hclaim hrole hnew hcalm hmate hdiffer
    refine completes_next (execGateOutput_of_pair hnode hmade hclaim hrole hnew hcalm hmate) ?_
    rw [if_neg hdiffer]
    exact ⟨rfl, fun hr i hi => State.taken_beginDispute (by exact hr) _ (by cases i <;> exact hi)⟩
  case skew =>
    intro s g x hcalm hx
    exact completes_next (execSkewLimitExpiry_of_waiting hcalm hx) rfl
  case delivered =>
    intro s g hnode hgo
    have hinput : s.inputOf (.memoryOpComplete g) = s.input (.memoryOpComplete g) := by
      simp [State.inputOf, State.benchesRun, hnode]
    exact completes_next rfl ((State.deliver_of_go _ id hgo).trans hinput)
  case waits =>
    intro s g hnode hgo
    exact completes_next rfl (State.deliver_of_wait _ id hgo)

end Sys2Proof.Machine

/-! Disputes (R308 to R313, R317 to R320): what the end of a retry, the spare's shadow and its absence make of one. -/

namespace Sys2Proof.Machine

/-! ## Charges and the end of a retry (R308, R310)

A transient retry ends its dispute, and charges a bench or raises events; none of this touches memory or begins another. -/

section
variable (s : State)

@[simp] theorem State.counterWrap_bench (off : Nat) : (s.counterWrap off).bench = s.bench := (s.announces_counterWrap off).bench

theorem State.charge_frame (i : BenchId) :
    (s.charge i).1.bench.dispute = s.bench.dispute ∧ (s.charge i).1.mem = s.mem := by
  unfold State.charge
  dsimp only
  split
  · split
    next hcan => exact State.plannedPromotion_frame _ i retiredRate hcan
    next => exact ⟨rfl, rfl⟩
  · exact ⟨rfl, rfl⟩

theorem State.noteTransient_frame (limit : Bool) (input : Nat) :
    (s.noteTransient limit input).bench.dispute = s.bench.dispute ∧ (s.noteTransient limit input).mem = s.mem := by
  simp [State.noteTransient]

theorem State.transientRetry_frame (d : Dispute) (first : List BenchOut) :
    (s.transientRetry d first).bench.dispute = none ∧ (s.transientRetry d first).mem = s.mem := by
  unfold State.transientRetry
  extract_lets charge r b s1 s2 s3
  have h2 : s2.bench.dispute = none ∧ s2.mem = s.mem := by
    unfold s2
    split <;> simp [s1]
  have h3 : s3.bench.dispute = none ∧ s3.mem = s.mem := by
    refine foldl_holds (fun u : State => u.bench.dispute = none ∧ u.mem = s.mem) _ (fun u o hu => ?_) _ _ h2
    split
    · exact hu
    · simpa using hu
  cases d.late with
  | some i =>
    obtain ⟨hdispute, hmem⟩ := (s3.charge i).1.noteTransient_frame (s3.charge i).2 d.input
    obtain ⟨hdispute', hmem'⟩ := s3.charge_frame i
    exact ⟨hdispute.trans (hdispute'.trans h3.1), hmem.trans (hmem'.trans h3.2)⟩
  | none =>
    dsimp only
    split
    · exact h3
    · obtain ⟨hdispute, hmem⟩ := s3.noteTransient_frame false d.input
      exact ⟨hdispute.trans h3.1, hmem.trans h3.2⟩

end

section
variable {s : State} {d : Dispute}

/-- RETRY_DONE of the retry that is under way. -/
theorem execRetryDone_of_fits {first second : List BenchOut} (hd : s.bench.dispute = some d) (hp : d.phase = .retry)
    (hfit : s.bench.retryFits d first second = true) : exec (.retryDone first second) s =
      .next (if retryMatches first second then s.transientRetry d first else s.lastingFault d) := by
  change execRetryDone first second s = _
  simp only [execRetryDone, hd, hp, hfit]
  cases retryMatches first second <;> rfl

/-- A lasting fault with no spare: nothing can decide it (R312). -/
theorem State.lastingFault_of_noSpare (hclaim : s.bench.claim ≠ lastClaim) (hsp : s.bench.spare = none) :
    s.lastingFault d = s.benchFailure .benchUnresolved "BENCH_UNRESOLVED" d.input := by
  simp [State.lastingFault, hclaim, hsp]

/-- A lasting fault whose shadow has not come waits for it (R312). -/
theorem State.lastingFault_of_noShadow {sp : BenchId} (hclaim : s.bench.claim ≠ lastClaim) (hsp : s.bench.spare = some sp)
    (hnone : (s.bench.waiting.find? fun x =>
      x.1 == d.gate && x.2.input == d.input && x.2.index == d.index && x.2.bench == sp) = none) :
    s.lastingFault d = { s with bench.dispute := some { d with phase := .shadow } } := by
  simp only [State.lastingFault, hsp, hnone]
  rw [if_neg (by simpa using hclaim)]

/-- A dispute that nothing decides takes the node to FAILED with the event's code (R318). -/
theorem State.benchFailure_failed (e : Ev) (name : String) (input : Nat) :
    (s.benchFailure e name input).power.node = .failed ∧ (s.benchFailure e name input).power.failCode = e.code :=
  ⟨rfl, rfl⟩

/-! ## Arbitration (R312, R313, Table 9–3) -/

/-- The retirement of a bench that is not the spare: the spare takes its place under the next claim, and the kerf begins. -/
theorem State.retireInKerf_bench {sp i : BenchId} (hsp : s.bench.spare = some sp) (hi : i ≠ sp) (cause : Nat) :
    (s.retireInKerf i cause d).bench.role i = .retired ∧ (s.retireInKerf i cause d).bench.role sp = .active ∧
      (s.retireInKerf i cause d).bench.claim = s.bench.claim + 1 ∧ (s.retireInKerf i cause d).bench.dispute = none ∧
      (s.retireInKerf i cause d).bench.kerf = some (i, cause, s.bench.claim, d.gate) := by
  obtain ⟨raised, h⟩ := State.aside_promote hsp i (d.input - 1)
  have hbench : (s.promote i (d.input - 1)).bench = s.bench.promoted i sp (d.input - 1) raised := congrArg State.bench h
  have hrole : ∀ j, (s.retireInKerf i cause d).bench.role j = (s.bench.promoted i sp (d.input - 1) raised).role j := fun j => by
    cases j <;> rw [← hbench] <;> rfl
  refine ⟨?_, ?_, congrArg Benches.claim hbench, rfl, rfl⟩
  · rw [hrole, Benches.role_promoted, if_neg hi, if_pos rfl]
  · rw [hrole, Benches.role_promoted, if_pos rfl]

/-- SHADOW_ARRIVAL of the shadow that a lasting dispute waits for. -/
theorem execShadowArrival_of_ours {g : Fin 179} {o : BenchOut} (hsp : s.bench.spare = some o.bench)
    (hd : s.bench.dispute = some d) (hp : d.phase = .shadow) (hmade : s.bench.made o = true) (hgate : d.gate = g.val)
    (hinput : d.input = o.input) (hindex : d.index = o.index) : exec (.shadowArrival g o) s = .next (s.arbitrate d o) := by
  change execShadowArrival g o s = _
  simp [execShadowArrival, hsp, hd, hp, hmade, hgate, hinput, hindex]

/-- SHADOW_TIMEOUT of a lasting dispute. -/
theorem execShadowTimeout_of_waiting (hd : s.bench.dispute = some d) (hp : d.phase = .shadow) :
    exec .shadowTimeout s = .next (s.benchFailure .benchUnresolved "BENCH_UNRESOLVED" d.input) := by
  change execShadowTimeout s = _
  simp [execShadowTimeout, hd, hp]

end

/-! ## The end of a kerf (R320) -/

theorem execFirstNewClaimOutput_of_kerf {s : State} {k : BenchId × Nat × W32 × Nat} (hk : s.bench.kerf = some k) :
    exec .firstNewClaimOutput s = .next
      ({ s with bench := { s.bench.activesAt s.bench.inputs with kerf := none } }.raise .benchRetired .bench k.1.num k.2.1
        (claims k.2.2.1 s.bench.claim) k.2.2.2).settle := by
  change execFirstNewClaimOutput s = _
  simp only [execFirstNewClaimOutput, hk]

/-! ## The statement about disputes -/

/-- Settles O12: the outcomes of RETRY_DONE are those of a transient and of a lasting fault, and those of the shadow are the
lines of Table 9–3. -/
theorem disputesEndInOneOfTheirOutcomes : Obligations.DisputesEndInOneOfTheirOutcomes := by
  unfold Obligations.DisputesEndInOneOfTheirOutcomes
  refine ⟨?transient, ?lasting, ?alone, ?decides, ?threeway, ?timeout, ?kerf⟩
  case transient =>
    intro s d first second hd hp hfit hmatch
    refine completes_next (execRetryDone_of_fits hd hp hfit) ?_
    rw [if_pos hmatch]
    exact s.transientRetry_frame d first
  case lasting =>
    intro s d first second sp hd hp hfit hmatch hclaim hsp hnone
    refine completes_next (execRetryDone_of_fits hd hp hfit) ?_
    rw [if_neg (by simp [hmatch]), State.lastingFault_of_noShadow hclaim hsp hnone]
  case alone =>
    intro s d first second hd hp hfit hmatch hclaim hsp
    refine completes_next (execRetryDone_of_fits hd hp hfit) ?_
    rw [if_neg (by simp [hmatch]), State.lastingFault_of_noSpare hclaim hsp]
    exact State.benchFailure_failed ..
  case decides =>
    intro s g o d a b hsp hd hp hmade hgate hinput hindex ha hb hsame hne
    refine completes_next (execShadowArrival_of_ours hsp hd hp hmade hgate hinput hindex) ?_
    have hout : s.arbitrate d o = s.retireInKerf b.bench retiredLasting d := by simp [State.arbitrate, ha, hb, hsame]
    rw [hout]
    exact State.retireInKerf_bench hsp hne retiredLasting
  case threeway =>
    intro s g o d a b hsp hd hp hmade hgate hinput hindex ha hb hneA hneB
    refine completes_next (execShadowArrival_of_ours hsp hd hp hmade hgate hinput hindex) ?_
    have hout : s.arbitrate d o = s.benchFailure .benchThreeway "BENCH_THREEWAY" d.input := by
      simp [State.arbitrate, ha, hb, hneA, hneB]
    rw [hout]
    exact State.benchFailure_failed ..
  case timeout =>
    intro s d hd hp
    exact completes_next (execShadowTimeout_of_waiting hd hp) (State.benchFailure_failed ..)
  case kerf =>
    intro s k hk
    refine completes_next (execFirstNewClaimOutput_of_kerf hk) ?_
    simp [Benches.activesAt_eq]

end Sys2Proof.Machine

/-! The event ring while events are raised (R657, R676, R678): what waits in it stays in its place. -/

namespace Sys2Proof.Machine

/-- `q` is `r` with entries appended: what waits in `r` still waits in `q`, in its place. -/
structure Ring.Grows (r q : Ring) : Prop where
  head   : q.head = r.head
  unread : r.unread ≤ q.unread
  slot   : ∀ i : W32, (i - r.head).toNat < r.unread → q.slots.get (i.toNat % 4096) none = r.slots.get (i.toNat % 4096) none

theorem Ring.Grows.refl (r : Ring) : r.Grows r := ⟨rfl, Nat.le_refl _, fun _ _ => rfl⟩

theorem Ring.Grows.trans {r q p : Ring} (h : r.Grows q) (k : q.Grows p) : r.Grows p where
  head := k.head.trans h.head
  unread := h.unread.trans k.unread
  slot i hi := (k.slot i (by rw [h.head]; exact hi.trans_le h.unread)).trans (h.slot i hi)

theorem State.ringGrows_ite {c : Prop} [Decidable c] {s t u : State} (h : s.events.ring.Grows t.events.ring)
    (k : s.events.ring.Grows u.events.ring) : s.events.ring.Grows (if c then t else u).events.ring := by
  split
  · exact h
  · exact k

/-- Where there is room, an append is one more entry that waits. -/
theorem Ring.unread_push {r : Ring} (h : r.unread < 4096) (e : EventEntry) : (r.push e).unread = r.unread + 1 := by
  rw [Ring.push, if_neg (by omega)]
  unfold Ring.unread at h ⊢
  dsimp only
  bv_omega

/-- An append overwrites no entry that waits: it goes to the slot after the last one, or nowhere. -/
theorem Ring.grows_push (r : Ring) (e : EventEntry) : r.Grows (r.push e) := by
  by_cases h : r.unread < 4096
  · have hunread := Ring.unread_push h e
    refine ⟨?_, by omega, fun i hi => ?_⟩
    · rw [Ring.push, if_neg (by omega)]
    · have hslot : i.toNat % 4096 ≠ r.tail.toNat % 4096 := by
        unfold Ring.unread at h hi
        bv_omega
      rw [Ring.push, if_neg (by omega)]
      exact FMap.get_set_ne r.slots (some e) none hslot
  · rw [Ring.push, if_pos (by omega)]
    exact ⟨rfl, Nat.le_refl _, fun _ _ => rfl⟩

section
variable (s : State)

theorem State.ringGrows_note (e : Ev) (kind : SourceKind) (n a b c : Nat) :
    s.events.ring.Grows (s.note e kind n a b c).events.ring := by
  rw [State.note, State.post_ring]
  exact Ring.grows_push ..

@[simp] theorem State.wake_events (c : Nat) : (s.wake c).events = s.events := by
  unfold State.wake
  split
  · rfl
  · exact (congrArg State.events (s.sansSync_releaseAll ..) :)

theorem State.ringGrows_tenantAdd (c : Nat) (x : W64) (t : Nat) (cmd : Option (Nat × W32 × Nat)) :
    s.events.ring.Grows (s.tenantAdd c x t cmd).1.events.ring := by
  unfold State.tenantAdd State.addCounter
  dsimp only
  split
  · split
    · exact .refl _
    · split
      · exact .refl _
      · split
        · rw [State.wake_events]
          exact (s.setCounter c _).ringGrows_note ..
        · rw [State.wake_events]
          exact .refl _
  · exact .refl _

theorem State.ringGrows_alertAll : s.events.ring.Grows s.alertAll.events.ring := by
  refine foldl_holds (fun u : State => s.events.ring.Grows u.events.ring) _ (fun u t hu => ?_) _ s (.refl _)
  split
  · exact hu
  · exact hu.trans (u.ringGrows_tenantAdd ..)

theorem State.ringGrows_raise (e : Ev) (kind : SourceKind) (n a b c : Nat) :
    s.events.ring.Grows (s.raise e kind n a b c).events.ring := by
  unfold State.raise
  split
  · exact (s.ringGrows_note ..).trans (State.ringGrows_alertAll _)
  · exact s.ringGrows_note ..

theorem State.ringGrows_settle : s.events.ring.Grows s.settle.events.ring := by
  unfold State.settle
  extract_lets t old _ s1 h h0 changed
  exact State.ringGrows_ite (.refl _) (State.ringGrows_ite (.refl _) (State.ringGrows_raise { s1 with events.health := h } ..))

end

/-- An entry that waits in the ring is still there after health has been evaluated. -/
theorem State.eventAt_settle {s : State} {i : W32} (h : (i - s.events.ring.head).toNat < s.events.ring.unread) :
    s.settle.eventAt i = s.eventAt i := by
  rw [State.eventAt, State.eventAt, s.ringGrows_settle.slot i h]

/-- An event that enters a ring with room stays at its place while health is evaluated. -/
theorem State.eventAt_settle_raise {s : State} {e : Ev} (hr : s.ringRoom = true) (he : e.alerts = false) (kind : SourceKind)
    (n a b c : Nat) : (s.raise e kind n a b c).settle.eventAt s.events.ring.tail = some e.code := by
  have hroom : s.events.ring.unread < 4096 := by simpa [State.ringRoom] using hr
  obtain ⟨entry, hring⟩ : ∃ entry, (s.raise e kind n a b c).events.ring = s.events.ring.push entry := by
    rw [State.raise, if_neg (by simp [he]), State.note, State.post_ring]
    exact ⟨_, rfl⟩
  rw [State.eventAt_settle, State.eventAt_raise hr he]
  rw [(s.ringGrows_raise e kind n a b c).head, hring, Ring.unread_push hroom]
  exact Nat.lt_succ_self _

end Sys2Proof.Machine

/-! Debug of benches and steward cores (R330, R704 to R706): how a debug command is served, DETACH and its deferral, and the CORE
commands. -/

namespace Sys2Proof.Machine

/-! ## Serving a debug command (R694 to R696) -/

section
variable {s : State}

/-- A debug command that is obeyed acts at once, on the state after its delivery. -/
theorem State.dbgRow_of_obeys {code : BitVec 8} (h : s.obeys code = true) (a : Instr) (unlocked patient : Bool)
    (act : State → State) : s.dbgRow a code unlocked patient act = .next (act (s.inputOf a)) := by
  simp only [State.obeys, State.commands, Bool.and_eq_true, beq_iff_eq, Bool.not_eq_true'] at h
  obtain ⟨⟨⟨⟨hbusy, hcmd⟩, hon⟩, hgo⟩, hopen⟩ := h
  have hruns : (s.benchesRun && s.inputsWait) = false := by
    simpa [State.inputsGo, or_iff_not_imp_left] using hgo
  simp [State.dbgRow, hbusy, hcmd, hon, hopen, State.portInput_of_go hgo, Bool.and_assoc, hruns]

@[simp] theorem State.dbgDone_bench (s : State) (st : Status) (data : W64) : (s.dbgDone st data).bench = s.bench := rfl
@[simp] theorem State.dbgDone_mem (s : State) (st : Status) (data : W64) : (s.dbgDone st data).mem = s.mem := rfl
@[simp] theorem State.eventAt_dbgDone (s : State) (st : Status) (data : W64) (i : W32) :
    (s.dbgDone st data).eventAt i = s.eventAt i := rfl

/-! ## DETACH (R319, R330, R705) -/

/-- The state with no DETACH deferred. -/
def State.undeferred (s : State) : State := { s with bench.detach := none }

@[simp] theorem State.role_undeferred (s : State) (b : BenchId) : s.undeferred.bench.role b = s.bench.role b := by cases b <;> rfl

section
variable {b : BenchId} (ht : benchTarget s.dbg.target.toNat = some b)
include ht

/-- DETACH acts on the bench that its target names: it is deferred in a locked sequence, and goes on at once outside one. -/
theorem execDetach_of_obeys (h : s.obeys 0x10 = true) (locked : Bool) : exec (.detach locked) s = .next
    (if locked then { s.inputOf (.detach locked) with bench.detach := some b }
      else (s.inputOf (.detach locked)).undeferred.detachNow b) := by
  change execDetach locked s = _
  unfold execDetach
  rw [State.dbgRow_of_obeys h]
  have hu : benchTarget (s.inputOf (.detach locked)).dbg.target.toNat = some b := by rwa [State.inputOf_dbg]
  simp only [hu]
  rfl

end

/-- The end of a locked sequence lets a deferred DETACH go on. -/
theorem execLockedSequenceEnd_of_deferred {b : BenchId} (h : s.obeys 0x10 = true) (hb : s.bench.detach = some b) :
    exec .lockedSequenceEnd s = .next ((s.inputOf .lockedSequenceEnd).undeferred.detachNow b) := by
  change execLockedSequenceEnd s = _
  simp only [execLockedSequenceEnd, hb]
  exact State.dbgRow_of_obeys h ..

/-- The end of the deferral completes a DETACH that waits. -/
theorem execDetachDeferExpiry_of_deferred {b : BenchId} (h : s.obeys 0x10 = true) (hb : s.bench.detach = some b) :
    exec .detachDeferExpiry s =
      .next ((s.inputOf .detachDeferExpiry).undeferred.dbgDone .notReady (s.inputOf .detachDeferExpiry).dbg.data) := by
  change execDetachDeferExpiry s = _
  rw [execDetachDeferExpiry, if_neg (by simp [hb])]
  exact State.dbgRow_of_obeys h ..

/-- Outside a dispute, a kerf and a full apply, an ACTIVE bench is detached by a planned promotion or not at all. -/
theorem State.detachNow_of_active {b : BenchId} (hr : s.bench.role b = .active) (hg : s.gatesHold = false)
    (hf : s.fullApplyOn = false) : s.detachNow b =
      if s.canPromote then (s.plannedPromotion b retiredDetached).dbgDone .ok s.dbg.data
      else s.dbgDone .debugActiveBench s.dbg.data := by
  simp only [State.gatesHold, Bool.or_eq_false_iff] at hg
  simp [State.detachNow, hr, hg, hf]

theorem State.detachNow_of_spare {b : BenchId} (hr : s.bench.role b = .spare) (hg : s.gatesHold = false)
    (hf : s.fullApplyOn = false) : s.detachNow b = (s.detachSpare b).dbgDone .ok s.dbg.data := by
  simp only [State.gatesHold, Bool.or_eq_false_iff] at hg
  simp [State.detachNow, hr, hg, hf]

/-- What the detachment of an ACTIVE bench sets, where a planned promotion is possible. -/
theorem State.detachNow_promotes {b sp : BenchId} (hr : s.bench.role b = .active) (hg : s.gatesHold = false)
    (hf : s.fullApplyOn = false) (hsp : s.bench.spare = some sp) (hclaim : s.bench.claim ≠ lastClaim) :
    (s.detachNow b).bench.role b = .retired ∧ (s.detachNow b).bench.role sp = .active ∧
      (s.detachNow b).bench.claim = s.bench.claim + 1 ∧ (s.detachNow b).bench.detach = s.bench.detach ∧
      (s.detachNow b).dbg.busy = false ∧ (s.detachNow b).dbg.status = .ok ∧ (s.detachNow b).mem = s.mem := by
  have hne : b ≠ sp := by
    rintro rfl
    simp [Benches.role_of_spare hsp] at hr
  obtain ⟨raised, hbench⟩ := State.plannedPromotion_bench hsp b retiredDetached
  have hcan : s.canPromote = true := State.canPromote_iff.2 ⟨⟨sp, hsp⟩, hclaim⟩
  obtain ⟨-, hmem⟩ := s.plannedPromotion_frame b retiredDetached hcan
  rw [State.detachNow_of_active hr hg hf, if_pos hcan, State.dbgDone_bench, State.dbgDone_mem]
  refine ⟨?_, ?_, by rw [hbench, Benches.claim_promoted], by rw [hbench, Benches.detach_promoted], rfl, rfl, hmem⟩
  · rw [hbench, Benches.role_promoted, if_neg hne, if_pos rfl]
  · rw [hbench, Benches.role_promoted, if_pos rfl]

/-- What the detachment of the spare sets. -/
theorem State.detachSpare_bench (b : BenchId) :
    (s.detachSpare b).bench = { s.bench.setRole b .retired with throttled := false } := by
  simp [State.detachSpare, State.unthrottle_eq]

theorem State.role_detachSpare (b : BenchId) : (s.detachSpare b).bench.role b = .retired := by
  rw [State.detachSpare_bench]
  cases b <;> rfl

/-- BENCH_DETACHED enters a ring with room at its tail. -/
theorem State.eventAt_detachSpare (hroom : s.ringRoom = true) (b : BenchId) :
    (s.detachSpare b).eventAt s.events.ring.tail = some Ev.benchDetached.code := by
  have hring : { s with bench := s.bench.setRole b .retired }.unthrottle.events = s.events := by rw [State.unthrottle_eq]
  have hevent := State.eventAt_settle_raise (s := { s with bench := s.bench.setRole b .retired }.unthrottle) (e := .benchDetached)
    (by rw [State.ringRoom, hring]; exact hroom) rfl .bench b.num retiredDetached (claims s.bench.claim s.bench.claim) 0xFF
  rwa [hring] at hevent

/-! ## The CORE commands (R706) -/

section
variable {b : BenchId} (ht : benchTarget s.dbg.target.toNat = some b)
include ht

/-- A CORE command on a RETIRED bench acts on its core. -/
theorem State.coreRow_of_retired {code : BitVec 8} (h : s.obeys code = true) (hr : s.bench.role b = .retired) (a : Instr)
    (act : State → BenchId → Core → State) : s.coreRow a code act = .next (act (s.inputOf a) b (s.bench.core b)) := by
  simp [State.coreRow, State.dbgRow_of_obeys h, ht, hr]

/-- A CORE command on any other bench is denied. -/
theorem State.coreRow_of_serving {code : BitVec 8} (h : s.obeys code = true) (hr : s.bench.role b ≠ .retired) (a : Instr)
    (act : State → BenchId → Core → State) :
    s.coreRow a code act = .next ((s.inputOf a).dbgDone .denied (s.inputOf a).dbg.data) := by
  simp [State.coreRow, State.dbgRow_of_obeys h, ht, hr]

end

/-- What a CORE command that completes with OK makes of the state: the core of bench `b`, and its data. -/
def State.coreSet (s : State) (b : BenchId) (c : Core) (data : W64) : State :=
  { s with bench := s.bench.setCore b c }.dbgDone .ok data

theorem State.coreSet_core (b : BenchId) (c : Core) (data : W64) : (s.coreSet b c data).bench.core b = c :=
  Benches.core_setCore_self ..

section
variable {b : BenchId} (ht : benchTarget s.dbg.target.toNat = some b) (hr : s.bench.role b = .retired)
include ht hr

theorem execCoreStep_of_retired (h : s.obeys 0x11 = true) :
    exec .coreStep s = .next ((s.inputOf .coreStep).coreSet b ((s.bench.core b).ran false) (s.inputOf .coreStep).dbg.data) := by
  change execCoreStep s = _
  exact State.coreRow_of_retired ht h hr ..

theorem execCoreRun_of_retired (h : s.obeys 0x12 = true) :
    exec .coreRun s = .next ((s.inputOf .coreRun).coreSet b ((s.bench.core b).ran true) (s.inputOf .coreRun).dbg.data) := by
  change execCoreRun s = _
  exact State.coreRow_of_retired ht h hr ..

/-- CORE_READ of a word that the debugger wrote to a core that does not run leaves the core and answers the word. -/
theorem execCoreRead_of_written {v : W64} (h : s.obeys 0x13 = true) (hsel : coreSelector s.dbg.addr.toNat = true)
    (hstill : (s.bench.core b).running = false) (hv : (s.bench.core b).words.get s.dbg.addr.toNat none = some v) :
    exec .coreRead s = .next ((s.inputOf .coreRead).coreSet b (s.bench.core b) v) := by
  change execCoreRead s = _
  unfold execCoreRead
  rw [State.coreRow_of_retired ht h hr]
  rw [← s.inputOf_dbg .coreRead] at hsel hv
  simp only [hstill, Bool.false_eq_true, if_false, hsel, hv]
  rfl

theorem execCoreWrite_of_selector (h : s.obeys 0x14 = true) (hsel : coreSelector s.dbg.addr.toNat = true) :
    exec .coreWrite s = .next ((s.inputOf .coreWrite).coreSet b
      { s.bench.core b with
        words := (s.bench.core b).words.set (s.inputOf .coreWrite).dbg.addr.toNat (some (s.inputOf .coreWrite).dbg.data) none }
      (s.inputOf .coreWrite).dbg.data) := by
  change execCoreWrite s = _
  unfold execCoreWrite
  rw [State.coreRow_of_retired ht h hr]
  rw [← s.inputOf_dbg .coreWrite] at hsel
  simp only [hsel]
  rfl

end

theorem execCoreWrite_of_serving {b : BenchId} (ht : benchTarget s.dbg.target.toNat = some b) (hr : s.bench.role b ≠ .retired)
    (h : s.obeys 0x14 = true) :
    exec .coreWrite s = .next ((s.inputOf .coreWrite).dbgDone .denied (s.inputOf .coreWrite).dbg.data) := by
  change execCoreWrite s = _
  exact State.coreRow_of_serving ht h hr ..

end

/-! ## The statement about benches and cores under debug -/

section
variable {s : State} {b : BenchId} (hg : s.gatesHold = false) (hf : s.fullApplyOn = false)
include hg hf

/-- A command after which the detachment of an ACTIVE bench goes on, where a planned promotion is possible. -/
theorem completes_of_detachActive {sp : BenchId} {c : Instr} (hc : exec c s = .next ((s.inputOf c).undeferred.detachNow b))
    (hr : s.bench.role b = .active) (hsp : s.bench.spare = some sp) (hclaim : s.bench.claim ≠ lastClaim) :
    Completes c s fun t => t.bench.role b = .retired ∧ t.bench.role sp = .active ∧ t.bench.claim = s.bench.claim + 1 ∧
      t.bench.detach = none ∧ t.dbg.busy = false ∧ t.dbg.status = .ok ∧ t.mem = s.mem := by
  refine completes_next hc ?_
  have h := State.detachNow_promotes (s := (s.inputOf c).undeferred) (b := b) (sp := sp) (by simpa using hr)
    ((s.gatesHold_inputOf c).trans hg) ((s.fullApplyOn_inputOf c).trans hf) ((s.spare_inputOf c).trans hsp)
    (by rwa [← s.inputOf_bench_claim c] at hclaim)
  obtain ⟨hrole, hrole', hclaim', hdetach, hbusy, hstatus, hmem⟩ := h
  exact ⟨hrole, hrole', hclaim'.trans (congrArg (· + 1) (s.inputOf_bench_claim c)), hdetach, hbusy, hstatus,
    hmem.trans (s.inputOf_mem c)⟩

end

/-- Settles O53: DETACH is a planned promotion, the retirement of the spare, or deferred, and the CORE commands set or read the
core of the target. -/
theorem debugOfBenchesAndCoresActs : Obligations.DebugOfBenchesAndCoresActs := by
  unfold Obligations.DebugOfBenchesAndCoresActs
  refine ⟨?active, ?spare, ?deferred, ?expiry, ?core, ?denied⟩
  case active =>
    intro s b h ht hr hg hf
    refine ⟨fun sp hsp hclaim c hc => ?_, fun hnone => ?_⟩
    · rcases hc with rfl | ⟨rfl, hb⟩
      · exact completes_of_detachActive hg hf (execDetach_of_obeys ht h false) hr hsp hclaim
      · exact completes_of_detachActive hg hf (execLockedSequenceEnd_of_deferred h hb) hr hsp hclaim
    · have hcan : (s.inputOf (.detach false)).undeferred.canPromote = false := by
        rw [State.canPromote, show (s.inputOf (.detach false)).undeferred.bench.spare = none from
          (s.spare_inputOf _).trans hnone]
        rfl
      refine completes_next (execDetach_of_obeys ht h false) ?_
      rw [if_neg Bool.false_ne_true, State.detachNow_of_active (s := (s.inputOf (.detach false)).undeferred) (by simpa using hr)
        ((s.gatesHold_inputOf _).trans hg) ((s.fullApplyOn_inputOf _).trans hf), hcan]
      rfl
  case spare =>
    intro s b h ht hr hg hf hroom
    refine completes_next (execDetach_of_obeys ht h false) ?_
    rw [if_neg Bool.false_ne_true, State.detachNow_of_spare (s := (s.inputOf (.detach false)).undeferred) (by simpa using hr)
      ((s.gatesHold_inputOf _).trans hg) ((s.fullApplyOn_inputOf _).trans hf)]
    have hevent := State.eventAt_detachSpare (s := (s.inputOf (.detach false)).undeferred)
      ((s.ringRoom_inputOf _).trans hroom) b
    rw [State.dbgDone_bench, State.eventAt_dbgDone]
    refine ⟨State.role_detachSpare b, ?_, rfl, ?_⟩
    · rw [State.detachSpare_bench]
      exact (Benches.claim_setRole ..).trans (s.inputOf_bench_claim _)
    · rwa [show (s.inputOf (.detach false)).undeferred.events = s.events from s.inputOf_events _] at hevent
  case deferred =>
    intro s b h ht
    exact completes_next (execDetach_of_obeys ht h true) rfl
  case expiry =>
    intro s b h hb
    exact completes_next (execDetachDeferExpiry_of_deferred h hb) rfl
  case core =>
    rintro s b k ht hr rfl
    refine ⟨fun h => ?step, fun h => ?run, fun v h hsel hstill hv => ?read, fun h hsel => ?write⟩
    case step =>
      exact completes_next (execCoreStep_of_retired ht hr h) ⟨State.coreSet_core .., rfl, s.inputOf_mem _⟩
    case run =>
      exact completes_next (execCoreRun_of_retired ht hr h) ⟨State.coreSet_core .., rfl, s.inputOf_mem _⟩
    case read =>
      exact completes_next (execCoreRead_of_written ht hr h hsel hstill hv)
        ⟨rfl, rfl, rfl, State.coreSet_core .., s.inputOf_mem _⟩
    case write =>
      refine completes_next (execCoreWrite_of_selector ht hr h hsel) ⟨?_, ?_, rfl, s.inputOf_mem _⟩
      · rw [State.coreSet_core, State.inputOf_dbg]
        exact FMap.get_set_self (s.bench.core b).words _ (some s.dbg.data) none
      · rw [State.coreSet_core]
  case denied =>
    intro s b h ht hr
    exact completes_next (execCoreWrite_of_serving ht hr h) rfl

end Sys2Proof.Machine

/-! The spare and re-admission (R299 to R301, R325 to R327): the spare's lag and stall, and the stages by which a RETIRED bench
returns. -/

namespace Sys2Proof.Machine

/-! ## The spare (R299 to R301) -/

section
variable {s : State} {sp : BenchId} {e : JournalEntry}

/-- The state in which the spare `sp` has consumed the journal's entry `e`, and its lag is that entry's. -/
def State.follow (s : State) (sp : BenchId) (e : JournalEntry) : State :=
  { s with bench := { s.bench.setTaken sp e.seq with lag := s.hcOf sp (s.time - e.at_) } }

/-- SPARE_CONSUME of the next entry of the journal: its lag begins throttling, ends it, or leaves it. -/
theorem execSpareConsume_of_next (hsp : s.bench.spare = some sp)
    (he : (s.bench.journal.find? fun x => x.seq == s.bench.taken sp + 1) = some e) : exec (.spareConsume e.seq) s = .next
      (if 1024 ≤ s.hcOf sp (s.time - e.at_) ∧ ¬ s.bench.throttled then
        { s.follow sp e with bench := { (s.follow sp e).bench with throttled := true } }.raise .spareLag .bench sp.num 0
          s.bench.claim.toNat 0
      else if s.hcOf sp (s.time - e.at_) < 768 then (s.follow sp e).unthrottle else s.follow sp e) := by
  have hseq : e.seq = s.bench.taken sp + 1 := by simpa using List.find?_some he
  have hfind : (s.bench.journal.find? fun x => x.seq == s.bench.taken sp + 1 && x.seq == e.seq) = some e := by
    simpa [hseq] using he
  change execSpareConsume e.seq s = _
  simp only [execSpareConsume, hsp, hfind]
  split
  · rfl
  · split <;> rfl

/-- SPARE_STALL_TIMER with inputs that the spare has not consumed. -/
theorem execSpareStallTimer_of_left (hsp : s.bench.spare = some sp) (hleft : s.bench.taken sp < s.bench.inputs) :
    exec .spareStallTimer s = .next (s.retireSpare retiredStall 0xFF) := by
  change execSpareStallTimer s = _
  simp [execSpareStallTimer, hsp, hleft]

/-- The spare's retirement changes no claim. -/
theorem State.retireSpare_frame (hsp : s.bench.spare = some sp) (cause gate : Nat) :
    (s.retireSpare cause gate).bench.role sp = .retired ∧ (s.retireSpare cause gate).bench.claim = s.bench.claim ∧
      (s.retireSpare cause gate).mem = s.mem := by
  have h := State.aside_retireSpare hsp cause gate
  have hbench : (s.retireSpare cause gate).bench = { s.bench.setRole sp .retired with throttled := false } :=
    congrArg State.bench h
  refine ⟨?_, ?_, (congrArg State.mem h :)⟩
  · rw [hbench]
    cases sp <;> rfl
  · rw [hbench]
    exact Benches.claim_setRole ..

end

/-! ## Re-admission (R325 to R327) -/

section
variable {s : State}

@[simp] theorem State.benchesBusy_inputOf (s : State) (c : Instr) : (s.inputOf c).benchesBusy = s.benchesBusy := by
  simp [State.benchesBusy, State.closing]

/-- The state in which the re-admission of bench `b` has begun: REBUILDING in the first stage, its core restarted (R326). -/
def State.beginReadmit (s : State) (m : BureauMsg) (b : BenchId) : State :=
  { s with bench := { (s.bench.setRole b .rebuilding).setCore b { epoch := (s.bench.core b).epoch + 1 } with
    readmit := some { bench := b, stage := 1, session := m.session, reqId := m.reqId } } }

theorem State.role_beginReadmit (s : State) (m : BureauMsg) (b : BenchId) : (s.beginReadmit m b).bench.role b = .rebuilding := by
  cases b <;> rfl

/-- READMIT that is heard and allowed, of a RETIRED bench, begins its re-admission. -/
theorem execReadmit_of_retired {m : BureauMsg} {b : BenchId} (hm : s.hears m .admin kindReadmit (uintBody (· < 3)) b.num = true)
    (hready : s.power.node = .ready) (hr : s.bench.role b = .retired) (hfree : s.benchesBusy = false)
    (hlock : s.lockOpen (.session m.session m.reqId) = true) :
    exec (.readmit m b) s = .next ((s.inputOf (.readmit m b)).beginReadmit m b).settle := by
  obtain ⟨hlis, hread⟩ := State.hears_iff.1 hm
  change execReadmit m b s = _
  unfold execReadmit
  rw [State.bureauRequest_of_listens hlis]
  simp only [hread, adminOnly, State.isReady, State.isIn, hready, State.lockOpen_inputOf, hlock, State.role_inputOf, hr,
    State.benchesBusy_inputOf, hfree]
  rfl

/-- A failed re-admission returns its bench to RETIRED. -/
theorem State.failReadmit_bench {r : Readmit} (h : s.bench.readmit = some r) (reason : Nat) :
    (s.failReadmit reason).bench = { s.bench.setRole r.bench .retired with readmit := none } := by
  simp [State.failReadmit, h]

variable {r : Readmit} (h : s.bench.readmit = some r) (hgo : s.inputsGo = true)
include h hgo

theorem execReadmitSelftestDone_of_passed (hstage : r.stage = 1) : exec (.readmitSelftestDone true) s = .next
    { s.inputOf (.readmitSelftestDone true) with bench :=
      { (s.inputOf (.readmitSelftestDone true)).bench.setTaken r.bench (s.inputOf (.readmitSelftestDone true)).bench.inputs with
        testFailed := (s.inputOf (.readmitSelftestDone true)).bench.testFailed.filter (· != r.bench)
        readmit := some { r with stage := 2 } } } := by
  change execReadmitSelftestDone true s = _
  simp only [execReadmitSelftestDone, h, hstage, State.deliver_of_go _ _ hgo]
  rfl

theorem execReadmitSelftestDone_of_failed (hstage : r.stage = 1) :
    exec (.readmitSelftestDone false) s = .next ((s.inputOf (.readmitSelftestDone false)).failReadmit 1).settle := by
  change execReadmitSelftestDone false s = _
  simp only [execReadmitSelftestDone, h, hstage, State.deliver_of_go _ _ hgo]
  rfl

theorem execStateCopyDone_of_equal (hstage : r.stage = 2) (x : Nat) : exec (.stateCopyDone x x x) s =
    .next { s.inputOf (.stateCopyDone x x x) with bench.readmit := some { r with stage := 3 } } := by
  change execStateCopyDone x x x s = _
  simp only [execStateCopyDone, h, hstage, State.deliver_of_go _ _ hgo, and_self, if_true]
  rfl

/-- What JOURNAL_CATCH_UP sets of the benches. -/
theorem execJournalCatchUp_of_copied (hstage : r.stage = 3) : ∃ t n, exec .journalCatchUp s = .next t ∧
    t.bench = { (((s.inputOf .journalCatchUp).bench.setTaken r.bench n).setRole r.bench .spare) with readmit := none } := by
  change ∃ t n, execJournalCatchUp s = .next t ∧ _
  simp only [execJournalCatchUp, h, hstage, State.deliver_of_go _ _ hgo]
  exact ⟨_, (s.inputOf .journalCatchUp).caughtUpTo r.bench, rfl, by simp⟩

end

/-! ## The statement about the spare -/

/-- Settles O13: the three ranges of the spare's lag, its stall, and the stages of a re-admission. -/
theorem theSpareFollowsAndIsReadmitted : Obligations.TheSpareFollowsAndIsReadmitted := by
  unfold Obligations.TheSpareFollowsAndIsReadmitted
  refine ⟨?throttles, ?keeps, ?unthrottles, ?stalls, ?readmits, ?passes, ?fails, ?copied, ?returns⟩
  case throttles =>
    intro s sp e hsp he hlag hfree
    refine completes_next (execSpareConsume_of_next hsp he) ?_
    rw [if_pos ⟨hlag, by simp [hfree]⟩]
    exact ⟨State.raise_bench .., State.mem_raise ..⟩
  case keeps =>
    intro s sp e hsp he hlow hhigh
    refine completes_next (execSpareConsume_of_next hsp he) ?_
    rw [if_neg (by omega), if_neg (by omega)]
    rfl
  case unthrottles =>
    intro s sp e hsp he hlag
    refine completes_next (execSpareConsume_of_next hsp he) ?_
    rw [if_neg (by omega), if_pos hlag, State.unthrottle_eq]
    exact ⟨rfl, rfl, rfl, rfl⟩
  case stalls =>
    intro s sp hsp hleft
    exact completes_next (execSpareStallTimer_of_left hsp hleft) (State.retireSpare_frame hsp ..)
  case readmits =>
    intro s m b hm hready hr hfree hlock
    refine completes_next (execReadmit_of_retired hm hready hr hfree hlock) ?_
    rw [State.settle_bench]
    exact ⟨State.role_beginReadmit .., rfl⟩
  case passes =>
    intro s r h hstage hgo
    exact completes_next (execReadmitSelftestDone_of_passed h hgo hstage) rfl
  case fails =>
    intro s r h hstage hgo
    refine completes_next (execReadmitSelftestDone_of_failed h hgo hstage) ?_
    rw [State.settle_bench, State.failReadmit_bench ((s.inputOf_bench_readmit _).trans h)]
    exact ⟨rfl, by cases r.bench <;> rfl⟩
  case copied =>
    intro s r x h hstage hgo
    exact completes_next (execStateCopyDone_of_equal h hgo hstage x) rfl
  case returns =>
    intro s r h hstage hgo
    obtain ⟨t, n, hexec, hbench⟩ := execJournalCatchUp_of_copied h hgo hstage
    refine completes_next hexec ?_
    rw [hbench]
    refine ⟨rfl, by cases r.bench <;> rfl, ?_⟩
    exact (Benches.claim_setRole ..).trans ((Benches.claim_setTaken ..).trans (s.inputOf_bench_claim _))

end Sys2Proof.Machine

/-! Stacks under damage (Table 10–2, R117, R371): what reading damaged lines leaves of a stack and of the retirements under way,
whatever stacks are lost by it, even where that takes the node to FAILED. -/

namespace Sys2Proof

/-- An entry that a change does not make the default one is the changed entry. -/
theorem FMap.get_mapVals_of_ne {α : Type} [DecidableEq α] {f : α → α} {d : α} {k : Nat} (hd : f d = d) (m : FMap α)
    (h : f (m.get k d) ≠ d) : (m.mapVals f d).get k d = f (m.get k d) := by
  induction m with
  | nil => exact absurd hd h
  | cons e m ih =>
    obtain ⟨j, w⟩ := e
    by_cases hj : j = k
    · have hw : f w ≠ d := by simpa [FMap.get, hj] using h
      simp [FMap.mapVals, FMap.get, hj, hw]
    · have htail : FMap.get (FMap.mapVals m f d) k d = f (FMap.get m k d) := ih (by simpa [FMap.get, hj] using h)
      by_cases hw : f w = d
      · simpa [FMap.mapVals, FMap.get, hj, hw] using htail
      · simpa [FMap.mapVals, FMap.get, hj, hw] using htail

theorem one_le_satAdd (a : Nat) : 1 ≤ satAdd 0xFFFFFFFF a 1 := by
  unfold satAdd
  omega

/-- What a changed element reads as. -/
theorem getElem?_modifyAt_self {α : Type} (f : α → α) : ∀ (xs : List α) (i : Nat), (modifyAt f xs i)[i]? = xs[i]?.map f
  | [], _ => rfl
  | _ :: _, 0 => rfl
  | _ :: xs, i + 1 => getElem?_modifyAt_self f xs i

end Sys2Proof

namespace Sys2Proof.Machine

theorem State.Announces.stk {s t : State} (h : s.Announces t) (n : Nat) : t.stk n = s.stk n := by simp only [State.stk, h.dram]

theorem State.announces_answer (s : State) (i r kind : Nat) (st : Status) (body : Body) : s.Announces (s.answer i r kind st body) :=
  .ite ⟨rfl, List.prefix_append ..⟩ (.refl s)

theorem State.announces_busyFell (s : State) : s.Announces s.busyFell := s.announces_msix 3

/-! ## What reading lines keeps of a stack -/

/-- A stack is other than a new one even without an armed injection. Entry to FAILED disarms every stack and lists no new one, and
where the table of stacks is not canonical a later entry of the same stack would then be read: a marked stack stays listed. -/
def Stack.Marked (k : Stack) : Prop := { k with inject := none } ≠ {}

theorem Stack.marked_of_lost {k : Stack} (h : k.lost = true) : k.Marked := by
  intro he
  have : k.lost = false := congrArg Stack.lost he
  simp [h] at this

/-- A count on an error counter of a stack marks it. -/
theorem Stack.marked_of_counted (k : Stack) {i : Nat} (hi : i < 5) :
    Stack.Marked { k with errCnt := modifyAt (fun n => satAdd 0xFFFFFFFF n 1) k.errCnt i } := by
  intro he
  have hzero : modifyAt (fun n => satAdd 0xFFFFFFFF n 1) k.errCnt i = List.replicate 5 0 := congrArg Stack.errCnt he
  have hread := getElem?_modifyAt_self (fun n => satAdd 0xFFFFFFFF n 1) k.errCnt i
  rw [hzero, List.getElem?_replicate, if_pos hi, eq_comm, Option.map_eq_some_iff] at hread
  obtain ⟨a, -, ha⟩ := hread
  exact absurd ha (Nat.ne_of_gt (one_le_satAdd a))

/-- Stack `n` has in `t` the retired blocks that it has in `s`; it stays lost and marked; and `t` has no retirement under way that
`s` has not. -/
structure State.KeepsStack (n : Nat) (s t : State) : Prop where
  retired : (t.stk n).retired = (s.stk n).retired
  lost    : (s.stk n).lost = true → (t.stk n).lost = true
  marked  : (s.stk n).Marked → (t.stk n).Marked
  jobs    : t.dram.jobs ⊆ s.dram.jobs

section
variable {n : Nat} {s t u : State}

theorem State.KeepsStack.trans (h : s.KeepsStack n t) (k : t.KeepsStack n u) : s.KeepsStack n u :=
  ⟨k.retired.trans h.retired, k.lost ∘ h.lost, k.marked ∘ h.marked, List.Subset.trans k.jobs h.jobs⟩

/-- A change of no stack and of no retirement but one that ends. -/
theorem State.KeepsStack.of_stks (h : t.dram.stks = s.dram.stks) (hjobs : t.dram.jobs ⊆ s.dram.jobs) : s.KeepsStack n t := by
  have hstk : t.stk n = s.stk n := by simp only [State.stk, h]
  exact ⟨by rw [hstk], by simp [hstk], by simp [hstk], hjobs⟩

theorem State.KeepsStack.refl (s : State) : s.KeepsStack n s := .of_stks rfl (List.Subset.refl _)

theorem State.Announces.keepsStack (h : s.Announces t) : s.KeepsStack n t :=
  .of_stks (congrArg Dram.stks h.dram) (by simp [h.dram])

/-- What keeps the stack of the first part of a pair keeps it under the pair's name. -/
theorem State.KeepsStack.of_eq {α : Type} {x : State × α} {a : α} (h : s.KeepsStack n x.1) (hx : x = (t, a)) :
    s.KeepsStack n t := by
  rwa [hx] at h

theorem State.KeepsStack.of_foldl {α : Type} {g : State → α → State} (h : ∀ (u : State) (x : α), u.KeepsStack n (g u x))
    (l : List α) (s : State) : s.KeepsStack n (l.foldl g s) :=
  foldl_holds (s.KeepsStack n ·) g (fun u x hu => hu.trans (h u x)) l s (.refl s)

/-- A change of one stack that leaves its retired blocks, its loss and its mark. -/
theorem State.KeepsStack.of_updStk {m : Nat} {f : Stack → Stack} (hr : ∀ k, (f k).retired = k.retired)
    (hl : ∀ k, k.lost = true → (f k).lost = true) (hm : ∀ k, k.Marked → (f k).Marked) : s.KeepsStack n (s.updStk m f) := by
  by_cases h : n = m
  · subst h
    exact ⟨by simp [hr], by simpa using hl _, by simpa using hm _, List.Subset.refl _⟩
  · have hstk := s.stk_updStk_ne f h
    exact ⟨by rw [hstk], by simp [hstk], by simp [hstk], List.Subset.refl _⟩

end

section
variable (n : Nat) (s : State)

theorem State.keepsStack_memEvent (e : Ev) (stack flags d sym1 sym2 blk line spare last : Nat) :
    s.KeepsStack n (s.memEvent e stack flags d sym1 sym2 blk line spare last) := (s.announces_memEvent ..).keepsStack

theorem State.keepsStack_countErr (stack : Nat) {i : Nat} (hi : i < 5) : s.KeepsStack n (s.countErr stack i) :=
  .of_updStk (fun _ => rfl) (fun _ h => h) fun k _ => k.marked_of_counted hi

theorem State.marked_countErr {i : Nat} (hi : i < 5) : ((s.countErr n i).stk n).Marked := by
  unfold State.countErr
  rw [State.stk_updStk_self]
  exact (s.stk n).marked_of_counted hi

theorem State.keepsStack_advise (stack blk line d : Nat) : s.KeepsStack n (s.advise stack blk line d) := by
  unfold State.advise
  extract_lets _ s1 s2 bank near
  have h1 : s.KeepsStack n s1 := .of_stks rfl (List.Subset.refl _)
  have h2 : s.KeepsStack n s2 := h1.trans (s1.keepsStack_memEvent n ..)
  split
  · exact .refl s
  · split
    · have hset : s2.KeepsStack n { s2 with dram.advised := s2.dram.advised ++ [(stack, true, bank, s.ts)] } :=
        .of_stks rfl (List.Subset.refl _)
      exact (h2.trans hset).trans (State.keepsStack_memEvent n ..)
    · exact h2

theorem State.keepsStack_noteHard (stack blk line d : Nat) : s.KeepsStack n (s.noteHard stack blk line d) := by
  unfold State.noteHard
  extract_lets _ s1
  have h1 : s.KeepsStack n s1 := .of_stks rfl (List.Subset.refl _)
  split
  · exact h1.trans (s1.keepsStack_advise n ..)
  · exact h1

theorem State.keepsStack_degrade (d stack : Nat) : s.KeepsStack n (s.degrade d stack) := by
  unfold State.degrade
  split
  · exact .refl s
  · have hset : s.KeepsStack n (s.setDrw d { s.drw d with degraded := true }) := .of_stks rfl (List.Subset.refl _)
    exact hset.trans (State.keepsStack_memEvent n ..)

theorem State.keepsStack_lastRetire (x : Status × Nat × Nat) : s.KeepsStack n { s with dram.lastRetire := x } :=
  .of_stks rfl (List.Subset.refl _)

theorem State.keepsStack_keepTables : s.KeepsStack n s.keepTables := .of_stks rfl (List.Subset.refl _)

/-! ### Entry to FAILED and the loss of a stack (R117, R371) -/

theorem State.keepsStack_refusePending (kind : Nat) (who : Submitter) (body : Body) :
    s.KeepsStack n (s.refusePending kind who body) := by
  unfold State.refusePending
  split
  · exact s.announces_busyFell.keepsStack
  · exact (s.announces_answer ..).keepsStack

theorem State.keepsStack_endPending : s.KeepsStack n s.endPending := by
  unfold State.endPending
  extract_lets _ s1 s2
  have h1 : s.KeepsStack n s1 := by
    simp only [s1]
    split
    · exact .refl s
    all_goals
      refine .trans ?_ (State.keepsStack_refusePending n ..)
      exact .of_stks rfl (List.Subset.refl _)
  have h2 : s.KeepsStack n s2 := h1.trans <| .of_foldl (fun u (j : RetireJob) =>
    (u.keepsStack_lastRetire n _).trans (State.keepsStack_refusePending n ..)) _ s1
  split
  · exact h2
  · split
    · exact h2
    · exact h2.trans (s2.announces_answer ..).keepsStack

/-- The loss of contents takes an armed injection from a marked stack, and no more. -/
theorem State.stk_loseContents (h : (s.stk n).Marked) : s.loseContents.stk n = { s.stk n with inject := none } :=
  FMap.get_mapVals_of_ne (f := fun k : Stack => { k with inject := none }) (d := {}) rfl s.dram.stks h

theorem State.keepsStack_loseContents (h : (s.stk n).Marked) : s.KeepsStack n s.loseContents := by
  have hstk := s.stk_loseContents n h
  exact ⟨by rw [hstk], by simp [hstk], by simp [hstk, Stack.Marked], List.nil_subset _⟩

theorem State.keepsStack_enterFailed (h : (s.stk n).Marked) (code : Nat) (why : String) :
    s.KeepsStack n (s.enterFailed code why) := by
  have hpend := s.keepsStack_endPending n
  have hlose : s.KeepsStack n s.endPending.loseContents := hpend.trans (State.keepsStack_loseContents n _ (hpend.marked h))
  exact hlose.trans (.of_stks rfl (List.Subset.refl _))

/-- The state in which stack `m` has been marked lost, and STACK_LOST announces it. -/
def State.markLost (m : Nat) : State :=
  (s.updStk m fun k => { k with lost := true, inject := none }).raise .stackLost .stack m (65536 * 0xFF + 16777216 * 0xFF) 0 0

theorem State.lost_markLost (m : Nat) : ((s.markLost m).stk m).lost = true := by
  unfold State.markLost
  rw [(State.announces_raise ..).stk, State.stk_updStk_self]

theorem State.keepsStack_markLost (m : Nat) : s.KeepsStack n (s.markLost m) := by
  have hset : s.KeepsStack n (s.updStk m fun k => { k with lost := true, inject := none }) :=
    .of_updStk (fun _ => rfl) (fun _ _ => rfl) fun _ _ => Stack.marked_of_lost rfl
  exact hset.trans (State.announces_raise ..).keepsStack

/-- Once a stack has been marked lost, its loss keeps every marked stack. -/
theorem State.keepsStack_loseStack_of_live {m : Nat} (hlive : (s.stk m).lost = false) (h : ((s.markLost m).stk n).Marked) :
    (s.markLost m).KeepsStack n (s.loseStack m) := by
  unfold State.loseStack
  extract_lets held s1 s2 gone _ _ s3 s4
  have h2 : s1.KeepsStack n s2 := .of_foldl (fun u (r : DrawerRec) => u.keepsStack_degrade n r.id m) _ s1
  have h3 : s1.KeepsStack n s3 := h2.trans (.of_stks rfl (List.filter_subset_self _))
  have h4 : s1.KeepsStack n s4 := h3.trans <| .of_foldl (fun u (j : RetireJob) => by
    split
    · exact (u.announces_answer ..).keepsStack
    · exact (u.keepsStack_lastRetire n _).trans (State.announces_busyFell _).keepsStack) _ s3
  rw [if_neg (by simp [hlive])]
  split
  · exact h4.trans (s4.keepsStack_enterFailed n (h4.marked h) ..)
  · exact h4.trans (s4.keepsStack_keepTables n)

/-- The loss of a stack keeps that stack and every marked one. -/
theorem State.keepsStack_loseStack (m : Nat) (h : m = n ∨ (s.stk n).Marked) : s.KeepsStack n (s.loseStack m) := by
  cases hlive : (s.stk m).lost with
  | true => simpa [State.loseStack, hlive] using .refl s
  | false =>
    have hmark : s.KeepsStack n (s.markLost m) := s.keepsStack_markLost n m
    refine hmark.trans (s.keepsStack_loseStack_of_live n hlive ?_)
    rcases h with rfl | h
    · exact Stack.marked_of_lost (s.lost_markLost m)
    · exact hmark.marked h

theorem State.lost_loseStack : ((s.loseStack n).stk n).lost = true := by
  cases hlive : (s.stk n).lost with
  | true => simp [State.loseStack, hlive]
  | false =>
    have hlost := s.lost_markLost n
    exact (s.keepsStack_loseStack_of_live n hlive (Stack.marked_of_lost hlost)).lost hlost

/-! ### Reading a line (Table 10–2) -/

theorem State.keepsStack_notePoison (m blk : Nat) (h : m = n ∨ (s.stk n).Marked) : s.KeepsStack n (s.notePoison m blk) := by
  unfold State.notePoison
  extract_lets log _ s1
  have h1 : s.KeepsStack n s1 := .of_stks rfl (List.Subset.refl _)
  split
  · exact h1.trans (s1.keepsStack_loseStack n m (h.imp_right h1.marked))
  · exact h1

theorem State.keepsStack_damageAt (stack pl : Nat) : s.KeepsStack n (s.damageAt stack pl).1 := by
  unfold State.damageAt
  repeat' split
  all_goals exact .of_stks rfl (List.Subset.refl _)

theorem State.keepsStack_disarm (stack : Nat) : s.KeepsStack n (s.updStk stack fun k => { k with inject := none }) :=
  .of_updStk (fun _ => rfl) (fun _ h => h) fun _ h => h

theorem State.keepsStack_codeAt (stack pl : Nat) : s.KeepsStack n (s.codeAt stack pl).1 := by
  unfold State.codeAt
  split
  · split
    · exact s.keepsStack_disarm n stack
    · exact s.keepsStack_damageAt n stack pl
  · split
    · exact s.keepsStack_disarm n stack
    · exact s.keepsStack_damageAt n stack pl
  · exact s.keepsStack_damageAt n stack pl

theorem State.keepsStack_recordCheck (flags stack pl d off : Nat) (inj : Bool) (c : Check) :
    s.KeepsStack n (s.recordCheck flags stack pl d off inj c) := by
  cases c with
  | clean => exact .refl s
  | bad => exact .refl s
  | transient => exact s.keepsStack_countErr n stack (by decide)
  | lasting =>
    have hcount : s.KeepsStack n (s.countErr stack 1) := s.keepsStack_countErr n stack (by decide)
    exact (hcount.trans (State.keepsStack_memEvent n ..)).trans (State.keepsStack_noteHard n ..)
  | ueTransient =>
    have hcount : s.KeepsStack n (s.countErr stack 2) := s.keepsStack_countErr n stack (by decide)
    simpa only [State.recordCheck] using hcount.trans (State.keepsStack_memEvent n ..)

theorem State.keepsStack_poisonLine (d l : Nat) : s.KeepsStack n (s.poisonLine d l) := .of_stks rfl (List.Subset.refl _)

/-- Logging a poisoned line of a stack keeps that stack and every marked one, and leaves its own stack marked. -/
theorem State.keepsStack_recordPoison (flags m pl d off : Nat) (inj : Bool) (a b : Nat) (h : m = n ∨ (s.stk n).Marked) :
    s.KeepsStack n (s.recordPoison flags m pl d off inj a b) ∧
      ((s.recordPoison flags m pl d off inj a b).stk n).Marked := by
  unfold State.recordPoison
  extract_lets s1
  have hcount : s.KeepsStack n (s.countErr m 3) := s.keepsStack_countErr n m (by decide)
  have hlog : (s.countErr m 3).KeepsStack n s1 := (State.keepsStack_memEvent n ..).trans (State.keepsStack_advise n ..)
  have hmarked : (s1.stk n).Marked := hlog.marked <| h.elim (fun e => e ▸ s.marked_countErr m (by decide)) hcount.marked
  split
  · exact ⟨hcount.trans hlog, hmarked⟩
  · have hnote : s1.KeepsStack n (s1.notePoison m (pl / 1024)) := s1.keepsStack_notePoison n m _ (.inr hmarked)
    exact ⟨(hcount.trans hlog).trans hnote, hnote.marked hmarked⟩

/-- A read of a line that has a copy on stack `n` in the first place keeps that stack, whatever stacks are lost by it. -/
theorem State.keepsStack_readFrom (flags d l phys : Nat) (rest : List (Nat × Nat)) :
    s.KeepsStack n (s.readFrom flags d l ((n, phys) :: rest)).1 := by
  unfold State.readFrom
  dsimp only
  split
  · exact .refl s
  · have hcode := s.keepsStack_codeAt n n (phys * 1024 + l % 1024)
    split
    next s1 a b inj heq =>
      have h1 : s.KeepsStack n s1 := hcode.of_eq heq
      split
      · obtain ⟨hrec, -⟩ := (s1.poisonLine d l).keepsStack_recordPoison n flags n (phys * 1024 + l % 1024) d (l * 64) inj a b
          (.inl rfl)
        exact (h1.trans (s1.keepsStack_poisonLine n d l)).trans hrec
      next stack2 phys2 _ =>
        have hcode2 := s1.keepsStack_codeAt n stack2 (phys2 * 1024 + l % 1024)
        split
        next s2 a2 b2 inj2 heq2 =>
          have h2 : s.KeepsStack n s2 := h1.trans (hcode2.of_eq heq2)
          obtain ⟨hrec, hmarked⟩ := (s2.poisonLine d l).keepsStack_recordPoison n flags n (phys * 1024 + l % 1024) d (l * 64)
            inj a b (.inl rfl)
          have hrec2 := State.keepsStack_recordPoison n _ (flags ^^^ 2) stack2 (phys2 * 1024 + l % 1024) d (l * 64) inj2 a2 b2
            (.inr hmarked)
          exact ((h2.trans (s2.keepsStack_poisonLine n d l)).trans hrec).trans hrec2.1
        next s2 c2 inj2 _ heq2 =>
          have h2 : s.KeepsStack n s2 := h1.trans (hcode2.of_eq heq2)
          have hcheck := h2.trans (s2.keepsStack_recordCheck n (flags ^^^ 2) stack2 (phys2 * 1024 + l % 1024) d (l * 64) inj2 c2)
          dsimp only
          exact (hcheck.trans (State.keepsStack_countErr n _ n (by decide))).trans (State.keepsStack_memEvent n ..)
    next s1 c inj _ heq => exact (hcode.of_eq heq).trans (s1.keepsStack_recordCheck n ..)

theorem State.keepsStack_copyBlock (blk spare : Nat) : s.KeepsStack n (s.copyBlock n blk spare).1 := by
  unfold State.copyBlock
  split
  · exact .of_stks rfl (List.Subset.refl _)
  · extract_lets here copy hurt s1 bad
    have h1 : s.KeepsStack n s1 := .of_foldl (fun u _ => u.keepsStack_readFrom n ..) _ s
    exact h1.trans (.of_stks rfl (List.Subset.refl _))

end

end Sys2Proof.Machine

/-! Patrol, retirement and the loss of stacks (R349 to R352, R362 to R367, R371): what each command makes of its stack. -/

namespace Sys2Proof.Machine

/-! ## Patrol (R349, R352) -/

/-- PATROL_READ in the middle of a lap, on a stack with no retired block, reads the next line. -/
theorem execPatrolRead_of_midLap {s : State} {n : Fin 16} (hn : n.val < s.power.part.slices) (hlive : (s.stk n.val).lost = false)
    (hready : s.power.node = .ready) (hret : (s.stk n.val).retired = []) (hmid : (s.stk n.val).lapPos + 1 < stackLines)
    (hgo : s.inputsGo = true) (found : List Damage) : exec (.patrolRead n found) s =
      .next ((((s.inputOf (.patrolRead n found)).withFound found).patrolLine n.val (s.stk n.val).lapPos).updStk n.val fun x =>
        { x with lapPos := (s.stk n.val).lapPos + 1 }).settle := by
  have hruns : s.patrols n.val = true := by simp [State.patrols, hn, hlive, State.isIn, hready]
  have hpos : skipRetired (s.stk n.val).retired ((s.stk n.val).retired.length + 1) (s.stk n.val).lapPos = (s.stk n.val).lapPos := by
    simp [hret, skipRetired]
  change execPatrolRead n found s = _
  simp only [execPatrolRead, hruns, hpos, State.deliver_of_go _ _ hgo]
  rw [if_neg (by simp), if_neg (by omega), if_neg (by omega)]

/-- LAP_OVERDUE_TIMER marks a lap that was not overdue, and LAP_OVERDUE announces it. -/
theorem execLapOverdueTimer_of_first {s : State} {n : Fin 16} (hfirst : (s.stk n.val).overdue = false)
    (hruns : s.patrols n.val = true) (hgo : s.inputsGo = true) : exec (.lapOverdueTimer n) s =
      .next (((s.inputOf (.lapOverdueTimer n)).updStk n.val fun x => { x with overdue := true }).memEvent .lapOverdue n.val 0 0
        0xFF 0xFF 0 0 0 0) := by
  change execLapOverdueTimer n s = _
  simp [execLapOverdueTimer, hfirst, hruns, State.deliver_of_go _ _ hgo]

/-- A memory event enters a ring with room at its tail. -/
theorem State.eventAt_memEvent {s : State} (hr : s.ringRoom = true) (e : Ev) (stack flags d sym1 sym2 blk line spare last : Nat) :
    (s.memEvent e stack flags d sym1 sym2 blk line spare last).eventAt s.events.ring.tail = some e.code := by
  have hroom : ¬ 4096 ≤ s.events.ring.unread := by simpa [State.ringRoom] using hr
  simp [State.memEvent, State.eventAt, State.post_ring, Ring.push, hroom]

/-! ## Acceptance of a retirement (R362, R363) -/

@[simp] theorem State.jobs_abandonMoves (s : State) (p : Move → Bool) : (s.abandonMoves p).dram.jobs = s.dram.jobs :=
  foldl_keeps (fun u : State => u.dram.jobs) (fun u (m : Move) => u.updStk m.stack _) (fun _ _ => rfl) _ _

/-- The state with the retirement of block `b` of stack `st` under way: no move takes a block out of it (R95). -/
def State.acceptRetire (s : State) (st b : Nat) (who : Submitter) : State :=
  let u := s.abandonMoves (s.movesFrom st false b)
  { u with dram.jobs := u.dram.jobs ++ [{ stack := st, bank := false, unit := b, need := 1, by_ := who }] }

theorem State.jobs_acceptRetire (s : State) (st b : Nat) (who : Submitter) : (s.acceptRetire st b who).dram.jobs =
    s.dram.jobs ++ [{ stack := st, bank := false, unit := b, need := 1, by_ := who }] := by
  simp [State.acceptRetire]

section
variable {s : State} {st b : Nat} (hjobs : s.dram.jobs = []) (hst : st < s.power.part.slices) (hlive : (s.stk st).lost = false)
  (hb : b < 1048576) (hret : (s.stk st).retired.contains b = false) (hspare : 1 ≤ (s.stk st).spares)
include hjobs hst hlive hb hret hspare

/-- With no other retirement under way, that of an unretired block of a live stack with a spare is accepted, after whatever
delivery. -/
theorem State.askRetire_of_spare (c : Instr) (who : Submitter) :
    (s.inputOf c).askRetire st false b who = ((s.inputOf c).acceptRetire st b who, none) := by
  have hunit : (s.stk st).unretired false b = [b] := by
    have hnot : b ∉ (s.stk st).retired := by simpa using hret
    simp [Stack.unretired, hnot]
  have hroom : ¬ (s.stk st).spares < 1 := by omega
  simp [State.askRetire, State.acceptRetire, hjobs, hst, hlive, hb, hunit, hroom]

/-- RETIRE that is heard and allowed is accepted; its reply comes when it is done. -/
theorem execRetire_of_spare {m : BureauMsg} (hm : s.hears m .admin 0x07 retireBody (st, false, b) = true)
    (hready : s.power.node = .ready) (hlock : s.lockOpen (.session m.session m.reqId) = true) :
    exec (.retire m st false b) s =
      .next ((s.inputOf (.retire m st false b)).acceptRetire st b (.session m.session m.reqId)) := by
  obtain ⟨hlis, hread⟩ := State.hears_iff.1 hm
  have hask := State.askRetire_of_spare hjobs hst hlive hb hret hspare (.retire m st false b) (.session m.session m.reqId)
  change execRetire m st false b s = _
  unfold execRetire
  rw [State.bureauRequest_of_listens hlis]
  simp [hread, adminOnly, State.isIn, hready, hlock, hask]

end

/-- RETIRE_CMD that is served and allowed is accepted. -/
theorem execRetireCmd_of_spare {s : State} {w : HostWrite} {st b : Nat} (hserved : s.hostServed = true) (hw : w.size = 8)
    (hready : s.power.node = .ready) (hlock : s.lockOpen .host = true) (hbank : bitOf w.value.toNat 4 = false)
    (hst : bits w.value.toNat 3 0 = st) (hb : bits w.value.toNat 35 16 = b)
    (hask : (s.inputOf (.retireCmd w)).askRetire st false b .host = ((s.inputOf (.retireCmd w)).acceptRetire st b .host, none)) :
    exec (.retireCmd w) s = .next ((s.inputOf (.retireCmd w)).acceptRetire st b .host) := by
  subst hst hb
  have hregs : (s.inputOf (.retireCmd w)).regsUp = true := by simpa using State.regsUp_of_hostServed hserved
  change execRetireCmd w s = _
  rw [execRetireCmd, State.hostGate_of_served _ _ hserved]
  simp [State.retireSubmit, State.submit, State.commandWrite_eight hregs hw, State.isIn, hready, hlock, hbank, hask]

/-! ## The end of a retirement (R364 to R367, R370) -/

theorem State.keepsStack_noteSpares (n : Nat) (s : State) (m : Nat) : s.KeepsStack n (s.noteSpares m) := by
  have hlow : ∀ u : State, u.KeepsStack n (u.setStk m { u.stk m with lowRaised := true }) := fun _ =>
    .of_updStk (f := fun k => { k with lowRaised := true }) (fun _ => rfl) (fun _ h => h)
      fun _ _ he => Bool.noConfusion (congrArg Stack.lowRaised he)
  have hout : ∀ u : State, u.KeepsStack n (u.setStk m { u.stk m with outRaised := true }) := fun _ =>
    .of_updStk (f := fun k => { k with outRaised := true }) (fun _ => rfl) (fun _ h => h)
      fun _ _ he => Bool.noConfusion (congrArg Stack.outRaised he)
  unfold State.noteSpares
  extract_lets k s1 k1
  have h1 : s.KeepsStack n s1 := by
    simp only [s1]
    split
    · exact (hlow s).trans (State.keepsStack_memEvent n ..)
    · exact .refl s
  split
  · exact (h1.trans (hout s1)).trans (State.keepsStack_memEvent n ..)
  · exact h1

/-- RETIRE_COPY_DONE with fitting spares ends its retirement: it is under way no longer, its blocks are retired, and its status is
OK, whatever stacks the copies lose. -/
theorem completes_retireCopyDone {s : State} {i : Nat} {j : RetireJob} {spares : List Nat} (hj : s.dram.jobs[i]? = some j)
    (hfit : (s.stk j.stack).sparesFit ((s.stk j.stack).unretired j.bank j.unit) spares = true) (hgo : s.inputsGo = true) :
    Completes (.retireCopyDone i spares) s fun t => j ∉ t.dram.jobs ∧
      (t.stk j.stack).retired = (s.stk j.stack).retired ++ (s.stk j.stack).unretired j.bank j.unit ∧
      t.dram.lastRetire.1 = .ok ∧ t.dram.lastRetire.2.1 = j.stack := by
  change ∃ t, execRetireCopyDone i spares s = .next t ∧ _
  unfold execRetireCopyDone
  split
  next hnone => simp [hj] at hnone
  next _ hsome =>
    cases hj.symm.trans hsome
    extract_lets k out
    rw [if_neg (by simp [k, out, hfit])]
    refine ⟨_, rfl, ?_⟩
    rw [State.deliver_of_go _ _ hgo]
    extract_lets _ s0 r s1 _ s2 left s3 _ s4
    have hcopy : s0.KeepsStack j.stack r.1 :=
      foldl_holds (fun acc : State × Nat => s0.KeepsStack j.stack acc.1) _
        (fun acc x h => h.trans (acc.1.keepsStack_copyBlock j.stack x.1 x.2)) _ _ (.refl s0)
    have hretired : (s1.stk j.stack).retired = (s.stk j.stack).retired ++ out := by
      have hs0 : s0.stk j.stack = s.stk j.stack := s.stk_inputOf (.retireCopyDone i spares) j.stack
      simp only [s1, State.stk_updStk_self, hcopy.retired, hs0]
    have h2 : s1.KeepsStack j.stack s2 := .of_stks rfl (List.Subset.refl _)
    have h3 : s1.KeepsStack j.stack s3 := (h2.trans (State.keepsStack_memEvent ..)).trans (State.keepsStack_noteSpares ..)
    have h4 : s1.KeepsStack j.stack s4 :=
      (h3.trans (s3.keepsStack_lastRetire j.stack _)).trans (State.announces_busyFell _).keepsStack
    have hlast : s4.dram.lastRetire = (.ok, j.stack, left) := by simp only [s4, (State.announces_busyFell _).dram]
    have hann : ∀ t : State, s4.Announces t → j ∉ t.dram.jobs ∧ (t.stk j.stack).retired = (s.stk j.stack).retired ++ out ∧
        t.dram.lastRetire.1 = .ok ∧ t.dram.lastRetire.2.1 = j.stack := by
      intro t ht
      have hkeep : s1.KeepsStack j.stack t := h4.trans ht.keepsStack
      refine ⟨fun hmem => ?_, by rw [hkeep.retired, hretired], by rw [ht.dram, hlast], by rw [ht.dram, hlast]⟩
      have hleft : j ∈ s0.dram.jobs := hcopy.jobs (hkeep.jobs hmem)
      simp [s0] at hleft
    split
    · exact hann _ ((s4.announces_answer ..).trans (State.announces_settle _))
    · exact hann _ s4.announces_settle

/-! ## Channels and lost stacks (R371) -/

section
variable {s : State} {n : Fin 16} (hgo : s.inputsGo = true)
include hgo

theorem execChannelRetrainDone_of_go : exec (.channelRetrainDone n) s =
    .next ((s.inputOf (.channelRetrainDone n)).updStk n.val fun k => { k with channelOut := false }) :=
  congrArg Host.Outcome.next (State.deliver_of_go _ _ hgo)

variable (hruns : s.stackRuns n.val = true)
include hruns

theorem execStackChannelLoss_of_runs : exec (.stackChannelLoss n) s =
    .next ((s.inputOf (.stackChannelLoss n)).updStk n.val fun k => { k with channelOut := true }) := by
  change execStackChannelLoss n s = _
  simp [execStackChannelLoss, hruns, State.deliver_of_go _ _ hgo]

theorem execChannelRetrainTimeout_of_out (hout : (s.stk n.val).channelOut = true) : exec (.channelRetrainTimeout n) s =
    .next ((s.inputOf (.channelRetrainTimeout n)).loseStack n.val).settle := by
  change execChannelRetrainTimeout n s = _
  simp [execChannelRetrainTimeout, hruns, hout, State.deliver_of_go _ _ hgo]

theorem execStackSensorsFailed_of_runs : exec (.stackSensorsFailed n) s =
    .next ((s.inputOf (.stackSensorsFailed n)).loseStack n.val).settle := by
  change execStackSensorsFailed n s = _
  simp [execStackSensorsFailed, hruns, State.deliver_of_go _ _ hgo]

end

theorem State.lost_settle_loseStack (s : State) (n : Nat) : ((s.loseStack n).settle.stk n).lost = true := by
  rw [(State.announces_settle _).stk, State.lost_loseStack]

/-! ## The statement about patrol and retirement -/

/-- Settles O8: each command by its outcome above; copying a retired unit keeps its stack's retired blocks, whatever stacks the
reads lose, and a lost stack stays lost where its loss takes the node to FAILED. -/
theorem patrolAndRetirementMaintainTheStacks : Obligations.PatrolAndRetirementMaintainTheStacks := by
  unfold Obligations.PatrolAndRetirementMaintainTheStacks
  refine ⟨?patrol, ?overdue, ?retire, ?retireCmd, ?copied, ?channelOut, ?channelBack, ?timeout, ?sensors⟩
  case patrol =>
    intro s n found hn hlive hready hret hmid hgo
    refine completes_next (execPatrolRead_of_midLap hn hlive hready hret hmid hgo found) ?_
    rw [(State.announces_settle _).stk, State.stk_updStk_self]
  case overdue =>
    intro s n hfirst hruns hroom hgo
    have hann := ((s.inputOf (.lapOverdueTimer n)).updStk n.val fun x => { x with overdue := true }).announces_memEvent .lapOverdue
      n.val 0 0 0xFF 0xFF 0 0 0 0
    refine completes_next (execLapOverdueTimer_of_first hfirst hruns hgo) ⟨?_, ?_, ?_⟩
    · rw [hann.stk, State.stk_updStk_self, State.stk_inputOf]
    · simpa using State.eventAt_memEvent (s := (s.inputOf (.lapOverdueTimer n)).updStk n.val fun x => { x with overdue := true })
        (by simpa [State.ringRoom] using hroom) .lapOverdue n.val 0 0 0xFF 0xFF 0 0 0 0
    · rw [hann.mem, State.updStk_mem, State.inputOf_mem]
  case retire =>
    intro s m st b hm hready hlock hjobs hst hlive hb hret hspare
    refine completes_next (execRetire_of_spare hjobs hst hlive hb hret hspare hm hready hlock) ?_
    simp [State.jobs_acceptRetire, hjobs]
  case retireCmd =>
    intro s w hserved hw hready hlock hjobs hbank hst hlive hb hret hspare
    refine completes_next (execRetireCmd_of_spare hserved hw hready hlock hbank rfl rfl
      (State.askRetire_of_spare hjobs hst hlive hb hret hspare ..)) ?_
    simp [State.jobs_acceptRetire, hjobs]
  case copied =>
    intro s i j spares hj hfit hgo
    exact completes_retireCopyDone hj hfit hgo
  case channelOut =>
    intro s n hruns hgo
    exact completes_next (execStackChannelLoss_of_runs hgo hruns) ⟨by simp, by simp⟩
  case channelBack =>
    intro s n hgo
    exact completes_next (execChannelRetrainDone_of_go hgo) ⟨by simp, by simp⟩
  case timeout =>
    intro s n hruns hout hgo
    exact completes_next (execChannelRetrainTimeout_of_out hgo hruns hout) (State.lost_settle_loseStack ..)
  case sensors =>
    intro s n hruns hgo
    exact completes_next (execStackSensorsFailed_of_runs hgo hruns) (State.lost_settle_loseStack ..)

end Sys2Proof.Machine

/-! Error injections (R374, R375, R682): what the Bureau's messages and the slice registers arm on a stack and cancel. -/

namespace Sys2Proof

/-- Writing bit 4 sets it. -/
theorem bitOf_cancel (v : W64) : bitOf (v ||| 0x10).toNat 4 = true := by
  have h : (v.toNat ||| 16).testBit 4 = true := by
    rw [Nat.testBit_or]
    simp [show Nat.testBit 16 4 = true by decide]
  simpa [bitOf, Nat.testBit_eq_decide_div_mod_eq] using h

end Sys2Proof

namespace Sys2Proof.Machine

/-! ## Arming and cancelling -/

/-- Where a target lies is no matter of the benches. -/
@[simp] theorem State.aim_inputOf (s : State) (c : Instr) (tgt : InjectTarget) : (s.inputOf c).aim tgt = s.aim tgt := by
  rw [State.inputOf_eq]
  rfl

section
variable {s : State}

/-- The state with an injection of a kind armed on line `l` of stack `st`. -/
def State.armed (s : State) (kind st l : Nat) : State := s.setStk st { s.stk st with inject := some (injectKindOf kind, l) }

/-- A target that exists, on a stack with no armed injection, is armed, and ERROR_INJECTED announces it. -/
theorem State.arm_of_aim {kind st l d off : Nat} {tgt : InjectTarget} (haim : s.aim tgt = some (st, l, d, off))
    (hfree : (s.stk st).inject = none) : ∃ t, s.arm kind tgt = (t, .ok) ∧ (s.armed kind st l).Announces t := by
  refine ⟨_, ?_, State.announces_memEvent _ .errorInjected st flagInjected d 0 (if kind % 2 = 0 then 0xFF else 1) (l / 1024) l 0
    off⟩
  simp [State.arm, haim, hfree, State.armed]

/-- The state with no injection armed on a stack. -/
def State.disarmed (s : State) (st : Nat) : State := s.updStk st fun k => { k with inject := none }

/-! ## The Bureau's messages (R374, R375) -/

/-- INJECT that is heard and allowed, on a free stack, arms the injection. -/
theorem execInject_of_aim {m : BureauMsg} {kind st l d off : Nat} {tgt : InjectTarget}
    (hm : s.hears m .admin 0x0A armBody (some (kind, tgt)) = true) (hready : s.power.node = .ready)
    (hlock : s.lockOpen (.session m.session m.reqId) = true) (haim : s.aim tgt = some (st, l, d, off))
    (hfree : (s.stk st).inject = none) : ∃ t, exec (.inject m kind tgt) s = .next t ∧
      ((s.inputOf (.inject m kind tgt)).armed kind st l).Announces t := by
  obtain ⟨hlis, hread⟩ := State.hears_iff.1 hm
  obtain ⟨t, harm, hann⟩ := State.arm_of_aim (s := s.inputOf (.inject m kind tgt)) (kind := kind) (by simpa using haim)
    (by simpa using hfree)
  refine ⟨_, ?_, hann.trans (t.announces_answer m.session m.reqId 0x0A .ok [])⟩
  change execInject m kind tgt s = _
  unfold execInject
  rw [State.bureauRequest_of_listens hlis]
  simp [hread, adminOnly, State.isIn, hready, hlock, harm]

/-- INJECT_CANCEL that is heard and allowed cancels the injection of its target's stack. -/
theorem execInjectCancel_of_aim {m : BureauMsg} {st l d off : Nat} {tgt : InjectTarget}
    (hm : s.hears m .admin 0x0A cancelBody (some tgt) = true) (hready : s.power.node = .ready)
    (hlock : s.lockOpen (.session m.session m.reqId) = true) (haim : s.aim tgt = some (st, l, d, off)) :
    exec (.injectCancel m tgt) s =
      .next (((s.inputOf (.injectCancel m tgt)).disarmed st).answer m.session m.reqId 0x0A .ok []) := by
  obtain ⟨hlis, hread⟩ := State.hears_iff.1 hm
  change execInjectCancel m tgt s = _
  unfold execInjectCancel
  rw [State.bureauRequest_of_listens hlis]
  simp [hread, adminOnly, State.isIn, hready, hlock, haim, State.disarmed]

/-! ## SLICE_INJECT (R375, R682) -/

/-- The state with a status in a slice's SLICE_INJECT. -/
def State.sayInject (s : State) (n : Nat) (st : Status) : State := s.updStk n fun k => { k with injStatus := st }

variable {n : Nat} {w : HostWrite} (hregs : s.regsUp = true) (hw : w.size = 8) (hready : s.power.node = .ready)
  (hlock : s.lockOpen .host = true) (hn : n < s.power.part.slices)
include hregs hw hready hlock hn

/-- A write with CANCEL leaves no injection armed, with status OK. -/
theorem State.sliceInject_of_cancel (hcancel : bitOf w.value.toNat 4 = true) :
    s.sliceInject n w = (s.disarmed n).sayInject n .ok := by
  simp [State.sliceInject, State.submit, State.commandWrite_eight hregs hw, State.isReady, State.isIn, hready, hlock, hn, hcancel,
    State.disarmed, State.sayInject]

/-- A write in physical form, of a line that exists on a free stack, arms its kind there, with status OK. -/
theorem State.sliceInject_of_aim {d off : Nat} (harms : bitOf w.value.toNat 4 = false) (hphys : bitOf w.value.toNat 5 = false)
    (haim : s.aim (.physical n ((s.stk n).injAddr.toNat % 2 ^ 30)) = some (n, (s.stk n).injAddr.toNat % 2 ^ 30, d, off))
    (hfree : (s.stk n).inject = none) : ∃ t, s.sliceInject n w = t.sayInject n .ok ∧
      (s.armed (bits w.value.toNat 1 0) n ((s.stk n).injAddr.toNat % 2 ^ 30)).Announces t := by
  obtain ⟨t, harm, hann⟩ := State.arm_of_aim (kind := bits w.value.toNat 1 0) haim hfree
  have htarget : injectTarget n (bitOf w.value.toNat 5) (s.stk n).injAddr = .physical n ((s.stk n).injAddr.toNat % 2 ^ 30) := by
    simp [injectTarget, hphys]
  refine ⟨t, ?_, hann⟩
  simp only [State.sliceInject, State.submit, State.commandWrite_eight hregs hw, htarget, haim, harm]
  simp [State.isReady, State.isIn, hready, hlock, hn, harms, optAny, State.sayInject]

end

/-! ## The statement about injections -/

/-- Settles O10: each command arms or cancels in the state after its delivery, by the outcomes above; announcing, answering and
the register's status leave what is armed. -/
theorem injectionsAreArmedAndCancelled : Obligations.InjectionsAreArmedAndCancelled := by
  unfold Obligations.InjectionsAreArmedAndCancelled
  refine ⟨?inject, ?cancel, ?slice, ?sliceCancel⟩
  case inject =>
    intro s m kind st l d off hm hready hlock haim hfree
    obtain ⟨t, hexec, hann⟩ := execInject_of_aim hm hready hlock haim hfree
    refine completes_next hexec ⟨?_, ?_⟩
    · rw [hann.stk, State.armed, State.stk_setStk_self]
    · rw [hann.mem, State.armed, State.setStk_mem, State.inputOf_mem]
  case cancel =>
    intro s m tgt st l d off hm hready hlock haim
    have hann := ((s.inputOf (.injectCancel m tgt)).disarmed st).announces_answer m.session m.reqId 0x0A .ok []
    refine completes_next (execInjectCancel_of_aim hm hready hlock haim) ⟨?_, ?_⟩
    · rw [hann.stk, State.disarmed, State.stk_updStk_self]
    · rw [hann.mem, State.disarmed, State.updStk_mem, State.inputOf_mem]
  case slice =>
    intro s n w d off hserved hw hready hlock hn harms hphys haim hfree
    obtain ⟨t, hslice, hann⟩ := State.sliceInject_of_aim (s := s.inputOf (.sliceInject n w)) (n := n.val)
      (by simpa using State.regsUp_of_hostServed hserved) hw (by simpa using hready) (by simpa using hlock) (by simpa using hn)
      harms hphys (by simpa using haim) (by simpa using hfree)
    have hstk : t.stk n.val = { s.stk n.val with
        inject := some (injectKindOf (bits w.value.toNat 1 0), (s.stk n.val).injAddr.toNat % 2 ^ 30) } := by
      rw [hann.stk, State.armed, State.stk_setStk_self, State.stk_inputOf]
    refine completes_next (congrArg Host.Outcome.next ((State.hostGate_of_served _ _ hserved).trans hslice)) ⟨?_, ?_, ?_⟩
    · rw [State.sayInject, State.stk_updStk_self, hstk]
    · rw [State.sayInject, State.stk_updStk_self]
    · rw [State.sayInject, State.updStk_mem, hann.mem, State.armed, State.setStk_mem, State.inputOf_mem]
  case sliceCancel =>
    intro s n w hserved hw hready hlock hn
    have hslice := State.sliceInject_of_cancel (s := s.inputOf (.sliceInjectCancel n w)) (n := n.val)
      (w := { w with value := w.value ||| 0x10 }) (by simpa using State.regsUp_of_hostServed hserved) hw (by simpa using hready)
      (by simpa using hlock) (by simpa using hn) (bitOf_cancel w.value)
    refine completes_next (congrArg Host.Outcome.next ((State.hostGate_of_served _ _ hserved).trans hslice)) ⟨?_, ?_, ?_⟩
    · simp [State.sayInject, State.disarmed]
    · simp [State.sayInject]
    · simp [State.sayInject, State.disarmed]

end Sys2Proof.Machine

/-! Commands that a write to a host register triggers (chapter 20): the host port's lock, report requests, the sync mailbox and the
counter windows. -/

namespace Sys2Proof

/-! ## Fields of written words -/

/-- A bit of a word, as a number's and as a vector's. -/
theorem bitOf_toNat {n : Nat} (v : BitVec n) (i : Nat) : bitOf v.toNat i = v.getLsbD i := by
  rw [← BitVec.testBit_toNat, Nat.testBit_eq_decide_div_mod_eq]
  rfl

/-- A field of a number, bit by bit. -/
theorem testBit_bits (v hi lo i : Nat) : (bits v hi lo).testBit i = (decide (i < hi + 1 - lo) && v.testBit (lo + i)) := by
  rw [bits, Nat.testBit_mod_two_pow, Nat.testBit_div_two_pow, Nat.add_comm i lo]

/-- HOST_LOCK_ACQ writes ACQ and not REL. -/
theorem bitOf_lockAcq (v : W64) :
    bitOf ((v ||| 0x100) &&& ~~~0x200).toNat 8 = true ∧ bitOf ((v ||| 0x100) &&& ~~~0x200).toNat 9 = false := by
  have hset : (0x100 : W64).getLsbD 8 = true ∧ (~~~0x200 : W64).getLsbD 8 = true ∧ (~~~0x200 : W64).getLsbD 9 = false := by
    decide
  simp only [bitOf_toNat, BitVec.getLsbD_and, BitVec.getLsbD_or, hset, Bool.or_true, Bool.and_self, Bool.and_false, and_self]

/-- HOST_LOCK_REL writes REL and not ACQ. -/
theorem bitOf_lockRel (v : W64) :
    bitOf ((v ||| 0x200) &&& ~~~0x100).toNat 8 = false ∧ bitOf ((v ||| 0x200) &&& ~~~0x100).toNat 9 = true := by
  have hset : (0x200 : W64).getLsbD 9 = true ∧ (~~~0x100 : W64).getLsbD 9 = true ∧ (~~~0x100 : W64).getLsbD 8 = false := by
    decide
  simp only [bitOf_toNat, BitVec.getLsbD_and, BitVec.getLsbD_or, hset, Bool.or_true, Bool.and_self, Bool.and_false, and_self]

/-- A word below 4 holds no bit from bit 2 on. -/
theorem getLsbD_of_lt_four {m : W64} {i : Nat} (hm : m.toNat < 4) (hi : 2 ≤ i) : m.getLsbD i = false := by
  rw [← BitVec.testBit_toNat]
  exact Nat.testBit_lt_two_pow (hm.trans_le (Nat.pow_le_pow_right (n := 2) (by omega) hi))

end Sys2Proof

namespace Sys2Proof.Machine

section
variable {k : W64} (w : HostWrite) (hk : k.toNat < 4)
include hk

/-- The mailbox's command word with an operation: bits 0 and 1 are the operation's, the others the word's. -/
theorem getLsbD_withOp (i : Nat) : (withOp w k).value.getLsbD i = if i < 2 then k.getLsbD i else w.value.getLsbD i := by
  rw [withOp, BitVec.getLsbD_or, BitVec.getLsbD_and, BitVec.getLsbD_not]
  split
  next hi =>
    have hmask : ∀ i < 2, (3 : W64).getLsbD i = true := by decide
    simp only [hmask i hi, Bool.not_true, Bool.and_false, Bool.false_or]
  next hi =>
    rw [getLsbD_of_lt_four hk (by omega), getLsbD_of_lt_four (m := 3) (by decide) (by omega), Bool.or_false]
    by_cases h64 : i < 64
    · simp only [h64, decide_true, Bool.not_false, Bool.and_true]
    · rw [BitVec.getLsbD_of_ge _ _ (Nat.le_of_not_lt h64), Bool.false_and]

theorem bits_withOp_op : bits (withOp w k).value.toNat 1 0 = k.toNat := by
  refine Nat.eq_of_testBit_eq fun i => ?_
  rw [testBit_bits, BitVec.testBit_toNat, BitVec.testBit_toNat, getLsbD_withOp w hk, Nat.zero_add]
  by_cases hi : i < 2
  · simp [hi]
  · simp [hi, getLsbD_of_lt_four hk (Nat.le_of_not_lt hi)]

theorem bits_withOp_counter : bits (withOp w k).value.toNat 49 32 = bits w.value.toNat 49 32 := by
  refine Nat.eq_of_testBit_eq fun i => ?_
  rw [testBit_bits, testBit_bits, BitVec.testBit_toNat, BitVec.testBit_toNat, getLsbD_withOp w hk, if_neg (by omega)]

end

/-! ## Delivery keeps what a counter operation looks at -/

section
variable (s : State) (c : Instr)

@[simp] theorem State.counter_inputOf (n : Nat) : (s.inputOf c).counter n = s.counter n := by rw [State.inputOf_eq]; rfl
@[simp] theorem State.counterTenant_inputOf (n : Nat) : (s.inputOf c).counterTenant n = s.counterTenant n := by
  rw [State.inputOf_eq]; rfl
@[simp] theorem State.counterFrozen_inputOf (n : Nat) : (s.inputOf c).counterFrozen n = s.counterFrozen n := by
  rw [State.inputOf_eq]; rfl
@[simp] theorem State.hostReaches_inputOf (t : Nat) : (s.inputOf c).hostReaches t = s.hostReaches t := by
  rw [State.inputOf_eq]; rfl
@[simp] theorem State.targetOk_inputOf (t : Nat) (x : Target) : (s.inputOf c).targetOk t x = s.targetOk t x := by
  rw [State.inputOf_eq]; cases x <;> rfl
@[simp] theorem State.waitsFree_inputOf (t n : Nat) : (s.inputOf c).waitsFree t n = s.waitsFree t n := by
  rw [State.inputOf_eq]; rfl
@[simp] theorem State.inStates_inputOf (a r f : Bool) : (s.inputOf c).inStates a r f = s.inStates a r f := by
  rw [State.inputOf_eq]; rfl
@[simp] theorem State.mayReport_inputOf : (s.inputOf c).mayReport = s.mayReport := by rw [State.inputOf_eq]; rfl
@[simp] theorem State.isReady_inputOf : (s.inputOf c).isReady = s.isReady := by rw [State.inputOf_eq]; rfl

@[simp] theorem Benches.inRole_inputOf (r : Role) : (s.inputOf c).bench.inRole r = s.bench.inRole r := by
  simp [Benches.inRole, Benches.role, allBenches, List.filter_cons]

end

/-! ## Health evaluated as the state stands (R654) -/

section
variable {s t : State}

theorem State.Announces.host (h : s.Announces t) : t.host = s.host := (congrArg State.host h.rest :)

theorem State.settle_of_settled (h : s.settled) : s.settle = s := if_pos h

/-- Of the benches, the triggers look at the kerf and the roles alone (Table 19–1). -/
theorem State.triggers_bench {b : Benches} (hk : b.kerf = s.bench.kerf) (hr : ∀ r, b.inRole r = s.bench.inRole r) :
    State.triggers { s with bench := b } = s.triggers := by
  unfold State.triggers
  dsimp only
  rw [hk, hr, hr]
  rfl

theorem State.settled_inputOf (c : Instr) (h : s.settled) : (s.inputOf c).settled := by
  rw [State.settled, State.inputOf_events, State.inputOf_eq,
    State.triggers_bench (s.inputOf_bench_kerf c) (Benches.inRole_inputOf s c), h]

/-- What announces without a new trigger leaves health as evaluated: the triggers look at nothing else that announcing touches. -/
theorem State.Announces.settled (h : s.Announces t) (htrig : t.events.trig = s.events.trig) (hs : s.settled) : t.settled := by
  have haside : ∀ u : State, u.triggers = State.triggers { u.aside with events.trig := u.events.trig } := fun _ => rfl
  rw [State.settled, haside, h.rest, htrig, ← haside, hs]

@[simp] theorem State.trig_msix (s : State) (v : Nat) : (s.msix v).events.trig = s.events.trig := by
  unfold State.msix
  (repeat' split) <;> rfl

@[simp] theorem State.trig_signal (s : State) (v : Nat) : (s.signal v).events.trig = s.events.trig := by
  unfold State.signal
  split <;> simp

@[simp] theorem State.trig_post (s : State) (e : Ev) (kind : SourceKind) (n : Nat) (entry : EventEntry) :
    (s.post e kind n entry).events.trig = s.events.trig := by
  unfold State.post
  extract_lets _ s1 s2 _ s3 _ s4
  have h2 : s2.events.trig = s.events.trig := by
    simp only [s2]
    split
    · exact s1.trig_signal _
    · rfl
  have h3 : s3.events.trig = s.events.trig := by
    simp only [s3]
    split <;> exact h2
  have h4 : s4.events.trig = s.events.trig := by
    simp only [s4]
    split <;> exact h3
  split <;> exact h4

end

/-! ## Releases leave the counters (R387) -/

theorem State.counters_releaseOne (s : State) (st : Status) (w : Wait) : (s.releaseOne st w).sync.counters = s.sync.counters := by
  have hmerge : (s.mergeOlder w).sync.counters = s.sync.counters := by unfold State.mergeOlder; split <;> rfl
  unfold State.releaseOne
  split
  · split
    · exact hmerge
    · rfl
  · exact hmerge

theorem State.counters_wake (s : State) (c : Nat) : (s.wake c).sync.counters = s.sync.counters := by
  unfold State.wake
  split
  · rfl
  · exact foldl_keeps (·.sync.counters) _ (fun u w => u.counters_releaseOne _ w) _ s

@[simp] theorem State.counter_wake (s : State) (c n : Nat) : (s.wake c).counter n = s.counter n := by
  simp only [State.counter, State.counters_wake]

/-! ## What a counter operation does (Table 11–3) -/

section
variable {s : State} {c t : Nat}

@[simp] theorem State.counter_storeCounter (s : State) (c : Nat) (x : W64) :
    (s.storeCounter c x).counter c = { value := x, sat := false } := by simp [State.storeCounter]

/-- An addition that saturates neither before nor now stores the sum. -/
theorem State.addCounter_of_lt {x : W64} (hsat : (s.counter c).sat = false)
    (hlt : (s.counter c).value.toNat + x.toNat < 2 ^ 64) :
    s.addCounter c x = (s.storeCounter c ((s.counter c).value + x), .ok) := by
  unfold State.addCounter State.storeCounter
  dsimp only
  rw [if_neg (by simp [hsat]), if_neg (Nat.not_le.2 hlt)]

theorem State.announces_storeCounter (s : State) (c : Nat) (x : W64) : s.Announces (s.storeCounter c x) :=
  have hset : s.Announces (s.setCounter c { value := x }) := .of_sansSync rfl
  hset.trans (State.announces_wake _ c)

theorem State.settled_storeCounter (c : Nat) (x : W64) (h : s.settled) : (s.storeCounter c x).settled :=
  (s.announces_storeCounter c x).settled (congrArg Events.trig (State.wake_events (s.setCounter c { value := x }) c)) h

/-- What SET answers, and ADD that saturates nothing: OK and the value stored. -/
def storedReply (before after : W64) : CounterReply :=
  { status := .ok, after := after, before := before, sat := false, satisfied := false, registered := false }

theorem State.counterDo_set (x : W64) :
    s.counterDo c t (.set x) = (s.storeCounter c x, storedReply (s.counter c).value x) := by
  simp [State.counterDo, storedReply]

theorem State.counterDo_add {x : W64} (hsat : (s.counter c).sat = false) (hlt : (s.counter c).value.toNat + x.toNat < 2 ^ 64) :
    s.counterDo c t (.add x) =
      (s.storeCounter c ((s.counter c).value + x), storedReply (s.counter c).value ((s.counter c).value + x)) := by
  simp [State.counterDo, storedReply, State.addCounter_of_lt hsat hlt]

/-- An operation of a source with a right to the counter, which no set freezes, has its effect (R379). -/
theorem State.counterOp_of_granted {granted : Nat → Bool} (op : CounterOp) (hten : s.counterTenant c = some t)
    (hgr : granted t = true) (hfr : s.counterFrozen c = false) : s.counterOp c granted op = s.counterDo c t op := by
  simp [State.counterOp, State.counterRefusal, hten, hgr, hfr]

/-- An operation on a counter of no tenant is denied (R379). -/
theorem State.counterOp_of_unconfigured {granted : Nat → Bool} (op : CounterOp) (hten : s.counterTenant c = none) :
    s.counterOp c granted op = (s, .refused .denied) := by
  simp [State.counterOp, State.counterRefusal, hten]

/-! ## Registering a wait (R384, R385) -/

theorem State.noteOnce_keeps (s : State) (e : Ev) :
    s.Announces (s.noteOnce e) ∧ (s.noteOnce e).sync = s.sync ∧ (s.noteOnce e).events.trig = s.events.trig := by
  unfold State.noteOnce
  extract_lets here
  split
  · exact ⟨.refl s, rfl, rfl⟩
  · have hmark : s.Announces { s with events.once := s.events.once.set e.code here (0, 0) } := ⟨rfl, List.prefix_rfl⟩
    exact ⟨hmark.trans (State.announces_note ..), State.sync_post .., State.trig_post ..⟩

theorem State.register_keeps (s : State) (c t : Nat) (th : W64) (tg : Option Target) (o : WaitOwner) :
    s.Announces (s.register c t th tg o) ∧ (s.register c t th tg o).events.trig = s.events.trig ∧
    (s.register c t th tg o).sync = { s.sync with
      waits := s.sync.waits ++ [{ id := s.sync.nextWait, counter := c, threshold := th, owner := o, target := tg, tenant := t
                                  phase := .waiting }]
      nextWait := s.sync.nextWait + 1 } := by
  unfold State.register
  extract_lets w _ s1
  obtain ⟨hann, hsync, htrig⟩ := s1.noteOnce_keeps .waitPoolExhausted
  have h1 : s.Announces s1 := .of_sansSync rfl
  split
  · exact ⟨h1.trans hann, htrig, hsync⟩
  · exact ⟨h1, rfl, rfl⟩

/-- The counter of a wait that is registered stays as it is. -/
theorem State.counter_register (s : State) (c t n : Nat) (th : W64) (tg : Option Target) (o : WaitOwner) :
    (s.register c t th tg o).counter n = s.counter n := by
  obtain ⟨-, -, hsync⟩ := s.register_keeps c t th tg o
  simp only [State.counter, hsync]

/-- A wait below its threshold, with a target and a free record, is registered (R383 to R385). -/
theorem State.counterDo_wait {th : W64} {tg : Target} {o : WaitOwner} (hsat : (s.counter c).sat = false)
    (hlt : (s.counter c).value.toNat < th.toNat) (hok : s.targetOk t tg = true) (hfree : s.waitsFree t 1 = true) :
    s.counterDo c t (.wait th (some tg) o) = (s.register c t th (some tg) o,
      { status := .ok, after := (s.counter c).value, before := (s.counter c).value, sat := false, satisfied := false
        registered := true }) := by
  simp [State.counterDo, hsat, hlt, hok, hfree, State.counter_register]

end

/-! ## The mailbox (R686, Table 20–9) -/

/-- The state with an operation's answer in SYNC_RESULT, SYNC_VALUE and SYNC_BEFORE. -/
def State.mailed (u : State) (x : CounterReply) : State :=
  { u with
    host.syncStatus := x.status.code
    host.syncFlags := b2n x.sat + 2 * b2n x.satisfied + 4 * b2n x.registered
    host.syncValue := x.after, host.syncBefore := x.before }

/-- `t` holds in its mailbox the answer `x` of an operation, and is else as the operation left the state `u`, as far as memory goes
and, where no trigger awaits health's evaluation, counters and waits. -/
structure State.Mails (u : State) (x : CounterReply) (t : State) : Prop where
  status : t.host.syncStatus = x.status.code
  flags  : t.host.syncFlags = b2n x.sat + 2 * b2n x.satisfied + 4 * b2n x.registered
  value  : t.host.syncValue = x.after
  before : t.host.syncBefore = x.before
  mem    : t.mem = u.mem
  sync   : u.settled → t.sync = u.sync

/-- The fall of BUSY and the evaluation of health leave the answer in the mailbox. -/
theorem State.mails_busyFell_settle (u : State) (x : CounterReply) : u.Mails x (u.mailed x).busyFell.settle := by
  have hann := (u.mailed x).announces_busyFell
  have hhost : (u.mailed x).busyFell.settle.host = (u.mailed x).host :=
    (State.settle_host _).trans hann.host
  refine ⟨congrArg (·.syncStatus) hhost, congrArg (·.syncFlags) hhost, congrArg (·.syncValue) hhost,
    congrArg (·.syncBefore) hhost, by simp [State.mailed], fun hu => ?_⟩
  have hmailed : (u.mailed x).settled := hu
  rw [State.settle_of_settled (hann.settled (State.trig_msix _ 3) hmailed)]
  exact State.sync_msix _ 3

section
variable {s u : State} {w : HostWrite} {off : Nat} {refuse act : State → State} {P : State → Prop}

/-- A submitting write that no lock guards acts where it is not busy and in its states (R675). -/
theorem State.submit_of_ok (hregs : s.regsUp = true) (hw : w.size = 8) : s.submit w off false false true refuse act = act s := by
  rw [State.submit, State.commandWrite_eight hregs hw]
  rfl

/-- A submitting write is refused while busy (R675). -/
theorem State.submit_of_busy (hregs : s.regsUp = true) (hw : w.size = 8) (guarded ok : Bool) :
    s.submit w off true guarded ok refuse act = (refuse s).hostErr errCommand .notReady off false := by
  rw [State.submit, State.commandWrite_eight hregs hw]
  rfl

theorem State.syncSubmit_of_op {op : CounterOp} {x : CounterReply} (hregs : s.regsUp = true) (hw : w.size = 8)
    (hready : s.isReady = true) (hop : s.mailboxOp (bits w.value.toNat 1 0) = some op)
    (hdo : s.counterOp (bits w.value.toNat 49 32) s.hostReaches op = (u, x)) :
    s.syncSubmit w = (u.mailed x).busyFell.settle := by
  rw [State.syncSubmit, hready, State.submit_of_ok hregs hw]
  simp only [hop, hdo, State.mailed]

/-- A served write of the mailbox's command word completes with the answer of its operation. -/
theorem completes_syncCmd {c : Instr} {k : W64} {op : CounterOp} {x : CounterReply}
    (hc : exec c s = .next (s.bar0Write c 0x1300 w.size (withOp w k).value)) (hserved : s.hostServed = true)
    (hw : w.size = 8) (hready : s.power.node = .ready) (hk : k.toNat < 4) (hop : (s.inputOf c).mailboxOp k.toNat = some op)
    (hdo : (s.inputOf c).counterOp (bits w.value.toNat 49 32) (s.inputOf c).hostReaches op = (u, x))
    (hP : ∀ t, u.Mails x t → P t) : Completes c s P := by
  refine completes_writeReg hc hserved rfl rfl (.inr ⟨hw, rfl⟩) ?_
  have hsubmit : (s.inputOf c).syncSubmit (withOp w k) = (u.mailed x).busyFell.settle :=
    State.syncSubmit_of_op (by simpa using State.regsUp_of_hostServed hserved) hw (by simpa using State.isReady_iff.2 hready)
      (by rwa [bits_withOp_op w hk]) (by rwa [bits_withOp_counter w hk])
  rw [State.writeReg_command (base := 0x1300) rfl (by omega) rfl]
  exact hP _ (hsubmit ▸ u.mails_busyFell_settle x)

end

/-! ## The lock and reports (R613, R646, R647, R675) -/

section
variable {s : State} {w : HostWrite}

/-- A served write of HOST_LOCK completes with what its bits do. -/
theorem completes_hostLock {c : Instr} {v : W64} {P : State → Prop} (hc : exec c s = .next (s.bar0Write c 0x1000 w.size v))
    (hserved : s.hostServed = true) (hw : w.size = 8) (hP : P ((s.inputOf c).hostLock v.toNat)) : Completes c s P := by
  refine completes_writeReg hc hserved rfl rfl (.inr ⟨hw, rfl⟩) ?_
  have hcmd : (s.inputOf c).writeCommand 0x1000 ⟨w.size, v⟩ = some ((s.inputOf c).hostLock v.toNat) :=
    congrArg some (State.commandWrite_eight (by simpa using State.regsUp_of_hostServed hserved) hw)
  rwa [State.writeReg_command (base := 0x1000) rfl (by omega) hcmd]

/-- A served write of ATT_CTRL completes with what submitting a report request does. -/
theorem completes_attCtrl {P : State → Prop} (hserved : s.hostServed = true) (hw : w.size = 8)
    (hP : P ((s.inputOf (.attCtrl w)).attSubmit w)) : Completes (.attCtrl w) s P := by
  refine completes_writeReg rfl hserved rfl rfl (.inr ⟨hw, rfl⟩) ?_
  rwa [State.writeReg_command (base := 0x1140) rfl (by omega) rfl]

variable {v : Nat} (hin : s.inStates true true false = true)
include hin

theorem State.hostLock_acq_free (hacq : bitOf v 8 = true) (hrel : bitOf v 9 = false) (hlock : s.bureau.lock = .free) :
    s.hostLock v = { s with bureau.lock := .host } := by
  simp [State.hostLock, hin, hacq, hrel, hlock]

theorem State.hostLock_of_session {i : Nat} (hlock : s.bureau.lock = .session i) : s.hostLock v = s := by
  simp [State.hostLock, hin, hlock]

theorem State.hostLock_rel_host (hacq : bitOf v 8 = false) (hrel : bitOf v 9 = true) (hlock : s.bureau.lock = .host) :
    s.hostLock v = { s with bureau.lock := .free } := by
  simp [State.hostLock, hin, hacq, hrel, hlock]

end

/-- The report request that ATT_CTRL's value makes of the nonce and the drawer IDs in the registers (R613, Table 20–9). -/
def State.hostReport (s : State) (v : Nat) : ReportReq :=
  { by_ := .host, nonce := FMap.getRun s.host.attNonce 0 0 (bits v 6 0), scope := bits v 9 8
    ids := (List.range (bits v 22 16)).map fun i => leNat (FMap.getRun s.host.attIds 0 (2 * i) 2) }

theorem State.attSubmit_of_legal {s : State} {w : HostWrite} (hregs : s.regsUp = true) (hw : w.size = 8) (hmay : s.mayReport = true)
    (hidle : s.host.attBusy = false) (hlen : 1 ≤ bits w.value.toNat 6 0) (hlen64 : bits w.value.toNat 6 0 ≤ 64)
    (hscope : bits w.value.toNat 9 8 < 3) (hids : bits w.value.toNat 22 16 ≤ 64) :
    s.attSubmit w = { s with host.attBusy := true, sec.reports := s.sec.reports ++ [s.hostReport w.value.toNat] } := by
  rw [State.attSubmit, hidle, hmay, State.submit_of_ok hregs hw]
  exact if_neg (by omega)

/-! ## Counter windows (R685) -/

/-- A window's ADD with the effect of an addition that saturates nothing. -/
theorem State.windowAdd_of_lt {s : State} {w : HostWrite} {n tn : Nat} (hregs : s.regsUp = true) (hw : w.size = 8)
    (hready : s.isReady = true) (hten : s.counterTenant n = some tn) (hgr : s.hostReaches tn = true)
    (hfr : s.counterFrozen n = false) (hsat : (s.counter n).sat = false)
    (hlt : (s.counter n).value.toNat + w.value.toNat < 2 ^ 64) :
    s.windowAdd n w = (s.storeCounter n ((s.counter n).value + w.value)).settle := by
  rw [State.windowAdd, hready]
  simp [State.commandWrite_eight hregs hw, State.counterOp_of_granted _ hten hgr hfr, State.counterDo_add hsat hlt, storedReply]

/-- The ADD register of a counter's window is a command register. -/
theorem State.writeReg_window (s : State) (n : BitVec 18) (w : HostWrite) :
    s.writeReg (0x3000000 + n.toNat * 0x20 + 0x10) w.size w.value = s.windowAdd n.toNat w := by
  have hn := n.isLt
  have hbase : (0x3000000 + n.toNat * 0x20 + 0x10) / 8 * 8 = 0x3000000 + n.toNat * 0x20 + 0x10 := by omega
  have hcounter : (0x3000000 + n.toNat * 0x20 + 0x10 - 0x3000000) / 0x20 = n.toNat := by omega
  have hcmd : s.writeCommand (0x3000000 + n.toNat * 0x20 + 0x10) w = some (s.windowAdd n.toNat w) := by
    unfold State.writeCommand
    rw [if_neg (by omega), if_neg (by omega), if_neg (by omega), if_neg (by omega), if_neg (by omega), if_neg (by omega),
      if_neg (by omega), if_neg (by omega), if_pos (by omega), hcounter]
  unfold State.writeReg
  dsimp only
  rw [if_neg (by omega), hbase, hcmd]

/-- A served write of a counter window's ADD register completes with what the window does. -/
theorem completes_counterWindowAdd {s : State} {n : BitVec 18} {w : HostWrite} {P : State → Prop} (hserved : s.hostServed = true)
    (hw : w.size = 8) (hready : s.power.node = .ready)
    (hP : P ((s.inputOf (.counterWindowAdd n w)).windowAdd n.toNat w)) : Completes (.counterWindowAdd n w) s P := by
  have hn := n.isLt
  have hregs := State.regsUp_of_hostServed hserved
  have hin : inRegisters (0x3000000 + n.toNat * 0x20 + 0x10) = true := by
    simp only [inRegisters, Bool.or_eq_true, Bool.and_eq_true, decide_eq_true_eq]
    omega
  refine completes_bar0Write (off := 0x3000000 + n.toNat * 0x20 + 0x10) rfl hserved (by omega) (by unfold bar0Size; omega) ?_
  rwa [State.writeServed_fit (by simp [State.serves, hregs, State.isReady_iff.2 hready]) hin (.inr ⟨hw, by omega⟩),
    State.writeReg_window]

/-! ## The mailbox's operations on a counter that the host reaches -/

/-- The mailbox's WAIT names the target that SYNC_TARGET holds (Table 11–5). -/
theorem State.mailboxOp_wait {s : State} {c : Instr} {tg : Target}
    (htg : targetOf (FMap.getRun s.host.target 0 0 16) = some tg) :
    (s.inputOf c).mailboxOp 3 = some (.wait s.host.operand (some tg) .host) := by
  simp only [State.mailboxOp, State.inputOf_host, htg, Option.map_some]

/-- What the mailbox holds after a value was stored into a counter. -/
theorem State.Mails.stored {s t : State} {c : Instr} {n : Nat} {before y : W64}
    (ht : ((s.inputOf c).storeCounter n y).Mails (storedReply before y) t) :
    t.host.syncStatus = Status.ok.code ∧ t.host.syncValue = y ∧ t.host.syncBefore = before ∧ t.mem = s.mem ∧
    (s.settled → t.counter n = { value := y, sat := false }) := by
  refine ⟨ht.status, ht.value, ht.before, by simp [ht.mem, State.storeCounter], fun hs => ?_⟩
  rw [State.counter, ht.sync (State.settled_storeCounter n y (State.settled_inputOf c hs))]
  exact State.counter_storeCounter ..

section
variable {s : State} {w : HostWrite} {n tn : Nat} (hserved : s.hostServed = true) (hw : w.size = 8)
  (hready : s.power.node = .ready) (hn : n = bits w.value.toNat 49 32) (hten : s.counterTenant n = some tn)
  (hgr : s.hostReaches tn = true) (hfr : s.counterFrozen n = false)
include hserved hw hready hn hten hgr hfr

/-- A served mailbox command on a counter that the host reaches and no set freezes answers what its operation does. -/
theorem completes_syncCmd_of_granted {c : Instr} {k : W64} {op : CounterOp} {u : State} {x : CounterReply} {P : State → Prop}
    (hc : exec c s = .next (s.bar0Write c 0x1300 w.size (withOp w k).value)) (hk : k.toNat < 4)
    (hop : (s.inputOf c).mailboxOp k.toNat = some op)
    (hdo : (s.inputOf c).counterDo n tn op = (u, x)) (hP : ∀ t, u.Mails x t → P t) : Completes c s P :=
  completes_syncCmd hc hserved hw hready hk hop (hn ▸
    (State.counterOp_of_granted op (by simpa using hten) (by simpa using hgr) (by simpa using hfr)).trans hdo) hP

/-- SYNC_CMD_ADD below the saturation of the counter (R396). -/
theorem completes_syncCmdAdd (hsat : (s.counter n).sat = false)
    (hlt : (s.counter n).value.toNat + s.host.operand.toNat < 2 ^ 64) :
    Completes (.syncCmdAdd w) s fun t =>
      t.host.syncStatus = Status.ok.code ∧ t.host.syncValue = (s.counter n).value + s.host.operand ∧
      t.host.syncBefore = (s.counter n).value ∧ t.mem = s.mem ∧
      (s.settled → t.counter n = { value := (s.counter n).value + s.host.operand, sat := false }) := by
  refine completes_syncCmd_of_granted hserved hw hready hn hten hgr hfr rfl (by decide) rfl
    (State.counterDo_add (by simpa using hsat) (by simpa using hlt)) fun t ht => ?_
  simpa only [State.counter_inputOf, State.inputOf_host] using ht.stored

/-- SYNC_CMD_SET. -/
theorem completes_syncCmdSet : Completes (.syncCmdSet w) s fun t =>
    t.host.syncStatus = Status.ok.code ∧ t.host.syncValue = s.host.operand ∧
    t.host.syncBefore = (s.counter n).value ∧ t.mem = s.mem ∧
    (s.settled → t.counter n = { value := s.host.operand, sat := false }) := by
  refine completes_syncCmd_of_granted hserved hw hready hn hten hgr hfr rfl (by decide) rfl (State.counterDo_set _) fun t ht => ?_
  simpa only [State.counter_inputOf, State.inputOf_host] using ht.stored

/-- SYNC_CMD_READ. -/
theorem completes_syncCmdRead : Completes (.syncCmdRead w) s fun t =>
    t.host.syncStatus = Status.ok.code ∧ t.host.syncValue = (s.counter n).value ∧
    t.host.syncBefore = (s.counter n).value ∧ t.host.syncFlags = b2n (s.counter n).sat ∧ t.mem = s.mem ∧
    (s.settled → t.sync = s.sync) := by
  refine completes_syncCmd_of_granted hserved hw hready hn hten hgr hfr rfl (by decide) rfl rfl fun t ht => ?_
  exact ⟨ht.status, by simpa using ht.value, by simpa using ht.before, by simpa [b2n] using ht.flags, by simpa using ht.mem,
    fun hs => by simpa using ht.sync (State.settled_inputOf _ hs)⟩

/-- SYNC_CMD_WAIT on a value below the threshold registers a wait (R384, R385). -/
theorem completes_syncCmdWait {tg : Target} (htg : targetOf (FMap.getRun s.host.target 0 0 16) = some tg)
    (hsat : (s.counter n).sat = false)
    (hlt : (s.counter n).value.toNat < s.host.operand.toNat) (hok : s.targetOk tn tg = true)
    (hfree : s.waitsFree tn 1 = true) : Completes (.syncCmdWait w) s fun t =>
      t.host.syncStatus = Status.ok.code ∧ t.host.syncFlags = 4 ∧ t.mem = s.mem ∧
      (s.settled → t.sync.waits = s.sync.waits ++ [{
        id := s.sync.nextWait, counter := n, threshold := s.host.operand, owner := .host, target := some tg, tenant := tn
        phase := .waiting }]) := by
  obtain ⟨hann, htrig, hsync⟩ := State.register_keeps (s.inputOf (.syncCmdWait w)) n tn s.host.operand (some tg) .host
  refine completes_syncCmd_of_granted hserved hw hready hn hten hgr hfr rfl (by decide) (State.mailboxOp_wait htg)
    (State.counterDo_wait (by simpa using hsat) (by simpa using hlt) (by simpa using hok) (by simpa using hfree)) fun t ht => ?_
  refine ⟨ht.status, ht.flags, ?_, fun hs => ?_⟩
  · rw [ht.mem, hann.mem, State.inputOf_mem]
  · rw [ht.sync (hann.settled htrig (State.settled_inputOf _ hs)), hsync, State.inputOf_sync]

end

/-! ## The statement about host commands -/

/-- Settles O48: each write is served on the state after its delivery, and does there what the command of its register does. -/
theorem hostCommandRegistersAct : Obligations.HostCommandRegistersAct := by
  unfold Obligations.HostCommandRegistersAct
  refine ⟨?lock, ?report, ?reportBusy, ?mailbox, ?unconfigured, ?window, ?unsupported⟩
  case lock =>
    intro s w hserved hw hin
    obtain ⟨hacq8, hacq9⟩ := bitOf_lockAcq w.value
    obtain ⟨hrel8, hrel9⟩ := bitOf_lockRel w.value
    refine ⟨fun hlock => ?_, fun i hlock => ?_, fun hlock => ?_⟩
    · refine completes_hostLock rfl hserved hw ?_
      rw [State.hostLock_acq_free (by simpa using hin) hacq8 hacq9 (by simpa using hlock)]
    · refine completes_hostLock rfl hserved hw ?_
      rw [State.hostLock_of_session (i := i) (by simpa using hin) (by simpa using hlock)]
    · refine completes_hostLock rfl hserved hw ?_
      rw [State.hostLock_rel_host (by simpa using hin) hrel8 hrel9 (by simpa using hlock)]
  case report =>
    intro s w hserved hw hmay hidle hlen hlen64 hscope hids
    refine completes_attCtrl hserved hw ?_
    rw [State.attSubmit_of_legal (by simpa using State.regsUp_of_hostServed hserved) hw (by simpa using hmay) (by simpa using hidle)
      hlen hlen64 hscope hids]
    exact ⟨rfl, by simp, (s.inputOf (.attCtrl w)).hostReport w.value.toNat, by simp, rfl, by simp [State.hostReport], rfl,
      by simp [State.hostReport]⟩
  case reportBusy =>
    intro s w hserved hw hbusy
    refine completes_attCtrl hserved hw ?_
    rw [State.attSubmit, State.inputOf_host, hbusy, State.submit_of_busy (by simpa using State.regsUp_of_hostServed hserved) hw]
  case mailbox =>
    intro s w n tn hserved hw hready hn hten hgr hfr
    exact ⟨completes_syncCmdAdd hserved hw hready hn hten hgr hfr, completes_syncCmdSet hserved hw hready hn hten hgr hfr,
      completes_syncCmdRead hserved hw hready hn hten hgr hfr,
      fun tg htg hsat hlt => completes_syncCmdWait hserved hw hready hn hten hgr hfr htg hsat hlt⟩
  case unconfigured =>
    intro s w hserved hw hready hten c hc
    obtain ⟨k, op, hk, hexec, hop⟩ : ∃ (k : W64) (op : CounterOp), k.toNat < 4 ∧
        exec c s = .next (s.bar0Write c 0x1300 w.size (withOp w k).value) ∧ (s.inputOf c).mailboxOp k.toNat = some op := by
      rcases hc with rfl | rfl | rfl
      · exact ⟨0, _, by decide, rfl, rfl⟩
      · exact ⟨1, _, by decide, rfl, rfl⟩
      · exact ⟨2, _, by decide, rfl, rfl⟩
    exact completes_syncCmd hexec hserved hw hready hk hop (State.counterOp_of_unconfigured op (by simpa using hten)) fun t ht =>
      ⟨ht.status, ht.value, ht.before, ht.flags⟩
  case window =>
    intro s n w tn hserved hw hready hten hgr hfr hsat hlt
    refine completes_counterWindowAdd hserved hw hready ?_
    rw [State.windowAdd_of_lt (tn := tn) (by simpa using State.regsUp_of_hostServed hserved) hw
      (by simpa using State.isReady_iff.2 hready) (by simpa using hten) (by simpa using hgr) (by simpa using hfr)
      (by simpa using hsat) (by simpa using hlt)]
    have hann := (s.inputOf (.counterWindowAdd n w)).announces_storeCounter n.toNat
      (((s.inputOf (.counterWindowAdd n w)).counter n.toNat).value + w.value)
    refine ⟨?_, ?_, fun hs => ?_⟩
    · rw [State.settle_host, hann.host, State.inputOf_host]
    · rw [State.mem_settle, hann.mem, State.inputOf_mem]
    · rw [State.settle_of_settled (State.settled_storeCounter _ _ (State.settled_inputOf _ hs)), State.counter_storeCounter,
        State.counter_inputOf]
  case unsupported =>
    intro s k hl
    exact completes_next rfl (if_pos hl)

end Sys2Proof.Machine

/-! Engine queues (chapter 12): the running command of a queue after its updates, a copy command's run unit by unit, and the
doorbell's rule. -/

namespace Sys2Proof.Machine

/-! ## Running commands -/

section
variable {s : State} {q : Nat} {i : W32} {c : RunCmd} {cls op : Nat}

theorem State.index_of_runOf (h : s.runOf q i = some c) : c.index = i := by
  simpa using List.find?_some h

/-- An update of the command (q, i) that keeps its index is what `runOf` finds there afterwards. -/
theorem State.runOf_updRun (s : State) (q : Nat) (i : W32) {f : RunCmd → RunCmd} (hf : ∀ x, x.index = i → (f x).index = i) :
    (s.updRun q i f).runOf q i = (s.runOf q i).map f := by
  have hindex : ∀ x : RunCmd, ((if x.index = i then f x else x).index == i) = (x.index == i) := fun x => by
    by_cases hx : x.index = i <;> simp [hx, hf]
  rw [State.runOf, State.updRun, State.queue_setQueue_self, List.find?_map]
  simp only [Function.comp_def, hindex]
  refine Option.map_congr fun x hx => ?_
  rw [if_pos (State.index_of_runOf hx)]

theorem State.runOf_endRun (s : State) (q : Nat) (i : W32) (st : Status) (p r : W64) :
    (s.endRun q i st p r).runOf q i = (s.runOf q i).map (·.finish st p r) :=
  s.runOf_updRun q i fun _ h => h

/-- What a row of an engine class finds where its command runs and nothing waits for it. -/
theorem State.of_actor (h : s.actor q i cls op = some c) : (∃ r, s.range q = some r ∧ r.cls = cls) ∧ s.runOf q i = some c ∧
    cmdOp c.bytes = op ∧ (c.phase = .dispatched ∨ c.phase = .running) ∧ s.mayWork q cls c = true := by
  unfold State.actor State.running at h
  split at h
  · cases h
  next d hd =>
    split at hd
    next r e hr he =>
      split at hd
      next hc =>
        cases hd
        split at h
        next hw =>
          cases h
          exact ⟨⟨r, hr, hc.1⟩, he, hc.2.1, hc.2.2, hw⟩
        · cases h
      · cases hd
    · cases hd

end

/-! ## A copy command's run (R421) -/

section
variable {s u : State} {q : Nat} {i : W32} {c : RunCmd} {op : Nat} {P : State → Prop}

theorem State.copies_of_actor (h : s.actor q i clsCopy op = some c) : s.copies q i = some c := by
  obtain ⟨⟨r, hr, hcls⟩, hrun, -, -, hwork⟩ := State.of_actor h
  simp [State.copies, hr, hrun, hcls, hwork]

/-- Only a command that is dispatched or runs does copy work. -/
theorem State.copies_of_rest (h : ∀ d, s.runOf q i = some d → d.phase ≠ .dispatched ∧ d.phase ≠ .running) :
    s.copies q i = none := by
  unfold State.copies
  split
  next d _ hd =>
    obtain ⟨h1, h2⟩ := h d hd
    simp [State.mayWork, h1, h2]
  · rfl

theorem State.copies_endRun (s : State) (q : Nat) (i : W32) (st : Status) (p r : W64) : (s.endRun q i st p r).copies q i = none := by
  refine State.copies_of_rest fun d hd => ?_
  rw [State.runOf_endRun, Option.map_eq_some_iff] at hd
  obtain ⟨x, -, rfl⟩ := hd
  simp [RunCmd.finish]

theorem State.advance_of_last (s : State) (q : Nat) (i : W32) (c : RunCmd) (done : Nat) (bad : Bool) (result : W64) :
    s.advance q i c done done bad result = (s.updRun q i fun _ => c.step done bad result).endRun q i (c.step done bad result).status
      (c.step done bad result).progress (c.step done bad result).result := by
  simp [State.advance]

/-- After its last unit a command does no more work. -/
theorem State.copies_advance (s : State) (q : Nat) (i : W32) (c : RunCmd) (done : Nat) (bad : Bool) (result : W64) :
    (s.advance q i c done done bad result).copies q i = none := by
  rw [State.advance_of_last, State.copies_endRun]

theorem State.copyRun_of_none (h : s.copies q i = none) (n : Nat) : s.copyRun q i n = s := by
  cases n <;> simp [State.copyRun, h]

theorem State.copyRun_of_unit (hc : s.copies q i = some c) (hr : s.mustRest clsCopy c = false) (hw : s.copyWork q i c = some u)
    {n : Nat} (hn : 0 < n) : s.copyRun q i n = u.copyRun q i (n - 1) := by
  cases n with
  | zero => omega
  | succ n => simp [State.copyRun, hc, hr, hw]

/-- A copy row whose command ends, or begins to wait, with its first unit. -/
theorem completes_copyRow {v : State} {cmd : Instr} {b : BitVec 16} (hexec : exec cmd v = s.copyRow b i op) (h : s.copyStarts b.toNat i op c)
    (hw : s.copyWork b.toNat i c = some u) (hu : u.copies b.toNat i = none) (hP : P u.settle) : Completes cmd v P := by
  obtain ⟨hact, hrest, -, -⟩ := h
  refine ⟨_, ?_, hP⟩
  rw [hexec, State.copyRow, hact]
  dsimp only
  rw [State.copyRun_of_unit (State.copies_of_actor hact) hrest hw (by decide), State.copyRun_of_none hu]

/-- The unit of a copy opcode (Table 12–7). -/
def State.unitOf (s : State) (q : Nat) (i : W32) (c : RunCmd) : Nat → Option State
  | 0x01 => if copyRemote c.bytes then s.remoteUnit q i c else s.copyUnit q i c
  | 0x02 => s.fillUnit (sub c.bytes 24 8) q i c
  | 0x03 => s.fillUnit (List.replicate 8 0) q i c
  | 0x04 => s.convertUnit q i c
  | 0x05 => s.gatherUnit q i c
  | 0x06 => s.scatterUnit q i c
  | 0x07 => s.digestUnit q i c
  | 0x08 => s.sweepUnit q i c
  | _ => some (s.endRun q i .ok 0 0)

/-- A command checked under the generations in force does its unit under them. -/
theorem State.copyWork_of_gens (h : c.gens = []) (s : State) (q : Nat) (i : W32) :
    s.copyWork q i c = s.unitOf q i c (cmdOp c.bytes) := by
  simp only [State.copyWork, State.underGens, h, List.isEmpty_nil, if_true]
  rfl

/-- The unit of a command at its beginning is that of its opcode. -/
theorem State.copyWork_of_copyStarts (h : s.copyStarts q i op c) : s.copyWork q i c = s.unitOf q i c op := by
  obtain ⟨hact, -, -, hgens⟩ := h
  obtain ⟨-, -, hop, -, -⟩ := State.of_actor hact
  rw [State.copyWork_of_gens hgens, hop]

end

end Sys2Proof.Machine

/-! The first units of the copy commands (chapter 12): what each does of a range of one unit, and the statement about them. -/

namespace Sys2Proof.Machine

/-! ## The sizes of units -/

/-- A page that begins after `o mod 4096` bytes of it holds `n` bytes whole. -/
theorem min_page {o n : Nat} (h : o % 4096 + n ≤ 4096) : min n (4096 - o % 4096) = n := by omega

/-- A unit from a range's end takes the whole of a range within one page. -/
theorem min_page_back {o n : Nat} (h : o % 4096 + n ≤ 4096) :
    min n (if (o + n) % 4096 = 0 then 4096 else (o + n) % 4096) = n := by
  split <;> omega

section
variable {s u : State} {q : Nat} {i : W32} {c : RunCmd}

theorem RunCmd.note_none (c : RunCmd) (back : Bool) : c.note back none = c := rfl

/-- A command that has met no poison notes the first it meets, from whichever end it works. -/
theorem RunCmd.note_of_unmet (h : c.acc = []) (back : Bool) (o : Option Nat) : c.note back o = c.note false o := by
  cases o <;> simp [RunCmd.note, RunCmd.met, h]

/-- COPY of one page within the node. -/
theorem State.copyUnit_of_page {r : State × RangeRead} {x : State × Bool} (hp : c.progress = 0) (ha : c.acc = [])
    (hn : 0 < lengthAt c.bytes 40) (hpage : poolOffset c.bytes 24 % 4096 + lengthAt c.bytes 40 ≤ 4096)
    (hu : s.claimRange (poolDrawer c.bytes 24) (poolOffset c.bytes 24) (lengthAt c.bytes 40) = some u)
    (hr : r = u.readRange (poolDrawer c.bytes 16) (poolOffset c.bytes 16) (lengthAt c.bytes 40))
    (hx : x = r.1.writeMasked (poolDrawer c.bytes 24) (poolOffset c.bytes 24) r.2.data r.2.mask) :
    s.copyUnit q i c = some (x.1.advance q i (c.note false r.2.bad) (lengthAt c.bytes 40) (lengthAt c.bytes 40)
      (r.2.bad.isSome || x.2) (c.note false r.2.bad).result) := by
  subst hr hx
  unfold State.copyUnit
  extract_lets b n p sd so dd d0 back e m am
  have h0 : p = 0 := by simp [p, hp]
  have hpos : ¬ n ≤ p := by simp only [n, b, h0]; omega
  rw [if_neg hpos]
  have ham : am = (0, n) := by
    have he : e = n := by simp [e, h0]
    simp [am, m, he, h0, min_page hpage, min_page_back hpage, n, d0, b]
  simp [ham, h0, hu, RunCmd.note_of_unmet ha back, n, sd, so, dd, d0, b]

/-- A remote COPY of one page issues one WRITE and waits. -/
theorem State.remoteUnit_of_page {r : State × RangeRead} (hp : c.progress = 0) (hf : c.failed = none) (hs : c.sent = 0)
    (hn : 0 < lengthAt c.bytes 40) (hpage : poolOffset c.bytes 24 % 4096 + lengthAt c.bytes 40 ≤ 4096)
    (ho : s.outRoom (lengthAt c.bytes 40) = true)
    (hr : r = s.readRange (poolDrawer c.bytes 16) (poolOffset c.bytes 16) (lengthAt c.bytes 40)) (hb : r.2.bad = none) :
    s.remoteUnit q i c = some ((r.1.updRun q i fun _ =>
      { c with phase := .waiting, progress := 0, sent := lengthAt c.bytes 40 }).issue (.command q i) 0x02
        (copyEndpoint c.bytes) (poolDrawer c.bytes 24) (poolOffset c.bytes 24) 0 r.2.data 0) := by
  have hne : lengthAt c.bytes 40 ≠ 0 := by omega
  subst hr
  simp [State.remoteUnit, hf, hs, hne, min_page hpage, ho, hb, RunCmd.note_none, RunCmd.step, hp]

/-- FILL and ZERO of one page. -/
theorem State.fillUnit_of_page {pattern : List Byte} {x : State × Option Nat} (hp : c.progress = 0)
    (hn : 0 < lengthAt c.bytes 40) (hpage : poolOffset c.bytes 16 % 4096 + lengthAt c.bytes 40 ≤ 4096)
    (hu : s.claimRange (poolDrawer c.bytes 16) (poolOffset c.bytes 16) (lengthAt c.bytes 40) = some u)
    (hx : x = u.writeRange (poolDrawer c.bytes 16) (poolOffset c.bytes 16)
      ((List.range (lengthAt c.bytes 40)).map fun k => pattern.getD (k % 8) 0)) :
    s.fillUnit pattern q i c = some (x.1.advance q i c (lengthAt c.bytes 40) (lengthAt c.bytes 40) x.2.isSome 0) := by
  have hne : lengthAt c.bytes 40 ≠ 0 := by omega
  subst hx
  simp [State.fillUnit, hp, hne, min_page hpage, hu]

/-- DIGEST of at most 4 KiB. -/
theorem State.digestUnit_of_page {r : State × RangeRead} {x : State × Option Nat} (hp : c.progress = 0) (ha : c.acc = [])
    (hn : 0 < lengthAt c.bytes 40) (hpage : lengthAt c.bytes 40 ≤ 4096)
    (hu : s.claimRange (poolDrawer c.bytes 24) (poolOffset c.bytes 24) 48 = some u)
    (hr : r = u.readRange (poolDrawer c.bytes 16) (poolOffset c.bytes 16) (lengthAt c.bytes 40)) (hb : r.2.bad = none)
    (hx : x = r.1.writeRange (poolDrawer c.bytes 24) (poolOffset c.bytes 24) (Config.sha384 r.2.data)) :
    s.digestUnit q i c = some (x.1.advance q i { c with acc := r.2.data } (lengthAt c.bytes 40) (lengthAt c.bytes 40)
      x.2.isSome c.result) := by
  have hne : lengthAt c.bytes 40 ≠ 0 := by omega
  subst hr hx
  simp [State.digestUnit, hp, hne, Nat.min_eq_right hpage, hu, hb, ha]

/-- GATHER of one element through a sound index in range. -/
theorem State.gatherUnit_of_one {v : State} {ix : Nat} {bad : Option Nat} {r : State × RangeRead} {x : State × Bool}
    (hp : c.progress = 0) (hn : lengthAt c.bytes 40 = 1)
    (hu : s.claimRange (poolDrawer c.bytes 24) (poolOffset c.bytes 24) (elemSize c.bytes) = some u)
    (hix : u.readIndex c.bytes 0 = (v, some ix, bad))
    (hin : v.within (poolDrawer c.bytes 16, poolOffset c.bytes 16 + ix * elemSize c.bytes, elemSize c.bytes) = true)
    (hr : r = v.readRange (poolDrawer c.bytes 16) (poolOffset c.bytes 16 + ix * elemSize c.bytes) (elemSize c.bytes))
    (hx : x = r.1.writeMasked (poolDrawer c.bytes 24) (poolOffset c.bytes 24) r.2.data r.2.mask) :
    s.gatherUnit q i c = some (x.1.advance q i (c.note false r.2.bad) 1 1 (r.2.bad.isSome || x.2)
      (c.note false r.2.bad).result) := by
  subst hr hx
  simp [State.gatherUnit, hp, hn, hu, hix, hin]

/-- SCATTER of one element through a sound index in range. -/
theorem State.scatterUnit_of_one {v : State} {ix : Nat} {bad : Option Nat} {r : State × RangeRead} {x : State × Bool}
    (hp : c.progress = 0) (hn : lengthAt c.bytes 40 = 1) (hix : s.readIndex c.bytes 0 = (v, some ix, bad))
    (hin : v.within (poolDrawer c.bytes 24, poolOffset c.bytes 24 + ix * elemSize c.bytes, elemSize c.bytes) = true)
    (hu : v.claimRange (poolDrawer c.bytes 24) (poolOffset c.bytes 24 + ix * elemSize c.bytes) (elemSize c.bytes) = some u)
    (hr : r = u.readRange (poolDrawer c.bytes 16) (poolOffset c.bytes 16) (elemSize c.bytes))
    (hx : x = r.1.writeMasked (poolDrawer c.bytes 24) (poolOffset c.bytes 24 + ix * elemSize c.bytes) r.2.data r.2.mask) :
    s.scatterUnit q i c = some (x.1.advance q i c 1 1 (r.2.bad.isSome || x.2) c.result) := by
  subst hr hx
  simp [State.scatterUnit, hp, hn, hix, hin, hu]

/-! ## CONVERT (R428) -/

/-- A range with no poisoned line has no byte of one. -/
theorem State.mask_of_sound (s : State) (d off n : Nat) (h : (s.readRange d off n).2.bad = none) :
    ∀ b ∈ (s.readRange d off n).2.mask, b = false := by
  refine foldl_holds (fun x : State × RangeRead => x.2.bad = none → ∀ b ∈ x.2.mask, b = false) _ (fun x p ih hx b hb => ?_)
    (pieces off n) _ (by simp) h
  simp only at hx hb
  split at hx
  · cases hx
  next hcond =>
    rw [hx] at hcond
    rcases List.mem_append.1 hb with hb | hb
    · exact ih hx b hb
    · rw [(List.mem_replicate.1 hb).2]
      simpa using hcond

/-- CONVERT of one run of an unscaled, sound source into an unscaled destination. -/
theorem State.convertUnit_of_run {r : State × RangeRead} {x : State × Bool} {out : List Byte × List Byte × Nat × Nat}
    (hp : c.progress = 0) (ha : c.acc = []) (h0 : c.result = 0) (hsrc : convSrcMx c.bytes = false)
    (hdst : convDstMx c.bytes = false) (hn : 0 < lengthAt c.bytes 40)
    (hrun : lengthAt c.bytes 40 ≤ convertChunk (convDst c.bytes))
    (hu : s.claimRange (poolDrawer c.bytes 24) (poolOffset c.bytes 24) (elemBytes (convDst c.bytes) (lengthAt c.bytes 40)) = some u)
    (hr : r = u.readRange (poolDrawer c.bytes 16) (poolOffset c.bytes 16) (elemBytes (convSrc c.bytes) (lengthAt c.bytes 40)))
    (hb : r.2.bad = none)
    (hout : out = convertNums (convDst c.bytes) false (convRz c.bytes)
      (sourceNums (convSrc c.bytes) (lengthAt c.bytes 40) false r.2.data []))
    (hx : x = r.1.writeMasked (poolDrawer c.bytes 24) (poolOffset c.bytes 24) out.1
      (List.replicate (elemBytes (convDst c.bytes) (lengthAt c.bytes 40)) false)) :
    s.convertUnit q i c = some (x.1.advance q i
      { c with result := BitVec.ofNat 64 (min (2 ^ 32 - 1) out.2.2.1 + 2 ^ 32 * min (2 ^ 32 - 1) out.2.2.2) }
      (lengthAt c.bytes 40) (lengthAt c.bytes 40) x.2
      (BitVec.ofNat 64 (min (2 ^ 32 - 1) out.2.2.1 + 2 ^ 32 * min (2 ^ 32 - 1) out.2.2.2))) := by
  have hne : lengthAt c.bytes 40 ≠ 0 := by omega
  have hmask : ∀ a b : Nat, ((r.2.mask.drop a).take b).any id = false := fun a b => by
    refine List.any_eq_false.2 fun y hy => ?_
    rw [State.mask_of_sound u _ _ _ (hr ▸ hb) y (hr ▸ List.mem_of_mem_drop (List.mem_of_mem_take hy))]
    decide
  subst hr hout hx
  simp [State.convertUnit, hp, hne, hsrc, hdst, Nat.min_eq_left hrun, hu, hb, hmask, RunCmd.met, ha, h0]

/-! ## SWEEP (R353) -/

theorem Sweep.count_start (w : Sweep) (off : Nat) (r : LineRead) (n : Nat) : (w.count off r n).start = w.start := rfl

theorem State.sweepLine_start (s : State) (d l : Nat) (w : Sweep) : (s.sweepLine d l w).2.start = w.start := by
  unfold State.sweepLine
  dsimp only
  repeat' split
  all_goals rfl

/-- SWEEP of one line. -/
theorem State.sweepUnit_of_line {r : State × Sweep} {x : State × Option Nat} (hp : c.progress = 0) (ha : c.acc = [])
    (hn : lengthAt c.bytes 40 = 64) (hu : s.claimRange (poolDrawer c.bytes 24) (poolOffset c.bytes 24) 64 = some u)
    (hr : r = u.sweepLine (poolDrawer c.bytes 16) (poolOffset c.bytes 16 / 64) (sweepOf [] s.ts))
    (hx : x = r.1.writeRange (poolDrawer c.bytes 24) (poolOffset c.bytes 24) (r.2.bytes.take 48 ++ leBytes 8 0 ++ leBytes 8 0)) :
    s.sweepUnit q i c = some (x.1.advance q i { c with acc := r.2.bytes } 64 64 false 0) := by
  have hstart : s.ts - (u.sweepLine (poolDrawer c.bytes 16) (poolOffset c.bytes 16 / 64) (sweepOf [] s.ts)).2.start = 0 := by
    rw [State.sweepLine_start]
    exact Nat.sub_self _
  subst hr hx
  simp [State.sweepUnit, hp, hn, hu, ha, hstart]

/-! ## What issuing a request leaves of the queues -/

end

/-- The state with all that sending messages touches left out: the ports, the fabric's tables, and what announcing touches. -/
def State.sansLinks (s : State) : State := { s.aside with ports := [], fabric := {} }

theorem State.Announces.sansLinks {s t : State} (h : s.Announces t) : t.sansLinks = s.sansLinks :=
  (congrArg (fun u : State => { u with ports := [], fabric := {} }) h.rest :)

theorem State.sansLinks_countTx (s : State) (p n : Nat) : (s.countTx p n).sansLinks = s.sansLinks := by
  unfold State.countTx
  dsimp only
  split
  · exact (State.announces_note ..).sansLinks
  · rfl

theorem State.sansLinks_emitFlits (s : State) (p : Nat) (raws : List (List Byte)) : (s.emitFlits p raws).sansLinks = s.sansLinks :=
  foldl_keeps State.sansLinks (fun u x => u.emit (.flit p x)) (fun _ _ => rfl) raws s

theorem State.sansLinks_emitGone (s : State) (p : Nat) (g : Gone) : (s.emitGone p g).sansLinks = s.sansLinks := by
  have hmark : (s.markSent g.msg).sansLinks = s.sansLinks := by
    unfold State.markSent
    split <;> rfl
  exact (State.sansLinks_emitFlits ..).trans hmark

theorem State.sansLinks_setPort (s : State) (p : Nat) (v : Port) : (s.setPort p v).sansLinks = s.sansLinks := rfl

theorem State.sansLinks_pumped (s : State) (p : Nat) : (s.pumped p).sansLinks = s.sansLinks := by
  unfold State.pumped
  dsimp only
  rw [foldl_keeps State.sansLinks _ (fun u x => u.sansLinks_emitGone p x), State.sansLinks_setPort]

theorem State.sansLinks_creditOnly (s : State) (p : Nat) : (s.creditOnly p).sansLinks = s.sansLinks := by
  rw [State.creditOnly, State.sansLinks_countTx, State.sansLinks_emitFlits, State.sansLinks_setPort]

theorem State.sansLinks_send (s : State) (p : Nat) (m : Msg) : (s.send p m).sansLinks = s.sansLinks := by
  rw [State.send_eq, ← s.sansLinks_setPort p ((s.port p).handed m)]
  exact State.pump_induction (P := fun u => u.sansLinks = (s.updPort p (·.handed m)).sansLinks) rfl (State.sansLinks_pumped ..)
    (fun u n hu => (u.sansLinks_countTx p n).trans hu) fun u hu => (u.sansLinks_creditOnly p).trans hu

theorem State.sansLinks_assign (s : State) (o : OutReq) : (s.assign o).sansLinks = s.sansLinks :=
  State.assign_induction (P := fun u => u.sansLinks = s.sansLinks) o rfl (fun _ => rfl)
    fun u p m hu => (u.sansLinks_send p m).trans hu

theorem State.sansLinks_enqueue (s : State) (o : OutReq) : (s.enqueue o).sansLinks = s.sansLinks := by
  unfold State.enqueue
  split <;> rfl

theorem State.sansLinks_issue (s : State) (by_ : Issuer) (op dst d off : Nat) (word : W64) (data : List Byte) (place : Nat) :
    (s.issue by_ op dst d off word data place).sansLinks = s.sansLinks := by
  unfold State.issue
  dsimp only
  split
  · exact (State.sansLinks_assign ..).trans (State.sansLinks_enqueue ..)
  · exact State.sansLinks_enqueue ..

theorem State.queues_issue (s : State) (by_ : Issuer) (op dst d off : Nat) (word : W64) (data : List Byte) (place : Nat) :
    (s.issue by_ op dst d off word data place).queues = s.queues := (congrArg State.queues (s.sansLinks_issue ..) :)

/-- A command that waits for its WRITEs does no copy work. -/
theorem State.copies_of_waiting {s t : State} {q : Nat} {i : W32} {d : RunCmd} (h : t.queues = (s.updRun q i fun _ => d).queues)
    (hindex : d.index = i) (hd : d.phase = .waiting) : t.copies q i = none := by
  refine State.copies_of_rest fun x hx => ?_
  have hrun : t.runOf q i = (s.updRun q i fun _ => d).runOf q i := by
    simp only [State.runOf, State.queue, h]
  rw [hrun, State.runOf_updRun _ _ _ fun _ _ => hindex] at hx
  obtain ⟨y, -, rfl⟩ := Option.map_eq_some_iff.1 hx
  simp [hd]

/-! ## The statement about the copy commands -/

/-- Settles O25: a copy row does the unit of its opcode (`State.copyWork_of_copyStarts`), which ends the command or leaves it
waiting; each unit is that of a range of one. -/
theorem copyCommandsDoTheirUnits : Obligations.CopyCommandsDoTheirUnits := by
  unfold Obligations.CopyCommandsDoTheirUnits
  refine ⟨?nop, ?copy, ?remote, ?fill, ?zero, ?convert, ?gather, ?scatter, ?digest, ?sweep⟩
  case nop =>
    intro s q i c h
    exact completes_copyRow rfl h (State.copyWork_of_copyStarts h) (State.copies_endRun ..) rfl
  case copy =>
    intro s q i c u r x h hlocal ha hn hpage hu hr hx
    have hp : c.progress = 0 := h.2.2.1
    refine completes_copyRow rfl h ?_ (State.copies_advance ..) rfl
    rw [State.copyWork_of_copyStarts h, State.unitOf, hlocal, if_neg Bool.false_ne_true]
    exact State.copyUnit_of_page hp ha hn hpage hu hr hx
  case remote =>
    intro s q i c r h hremote hf hs hn hpage ho hr hb
    have hp : c.progress = 0 := h.2.2.1
    have hindex : c.index = i := State.index_of_runOf (State.of_actor h.1).2.1
    refine completes_copyRow rfl h ?_ (State.copies_of_waiting (State.queues_issue ..) ?_ ?_) rfl
    · rw [State.copyWork_of_copyStarts h, State.unitOf, if_pos hremote]
      exact State.remoteUnit_of_page hp hf hs hn hpage ho hr hb
    · exact hindex
    · rfl
  case fill =>
    intro s q i c u x h hn hpage hu hx
    have hp : c.progress = 0 := h.2.2.1
    exact completes_copyRow rfl h ((State.copyWork_of_copyStarts h).trans (State.fillUnit_of_page hp hn hpage hu hx))
      (State.copies_advance ..) rfl
  case zero =>
    intro s q i c u x h hn hpage hu hx
    have hp : c.progress = 0 := h.2.2.1
    have hzero : (List.replicate (lengthAt c.bytes 40) (0 : Byte)) =
        (List.range (lengthAt c.bytes 40)).map fun k => (List.replicate 8 (0 : Byte)).getD (k % 8) 0 := by
      refine List.ext_getElem (by simp) fun k _ _ => ?_
      rw [List.getElem_replicate, List.getElem_map, List.getD_replicate _ (Nat.mod_lt _ (by decide))]
    rw [hzero] at hx
    exact completes_copyRow rfl h ((State.copyWork_of_copyStarts h).trans (State.fillUnit_of_page hp hn hpage hu hx))
      (State.copies_advance ..) rfl
  case convert =>
    intro s q i c u r xs out x h ha h0 hsrc hdst hn hrun hu hr hb hxs hout hx
    have hp : c.progress = 0 := h.2.2.1
    exact completes_copyRow rfl h ((State.copyWork_of_copyStarts h).trans
      (State.convertUnit_of_run hp ha h0 hsrc hdst hn hrun hu hr hb (hxs ▸ hout) hx)) (State.copies_advance ..) rfl
  case gather =>
    intro s q i c u v ix bad r x h ha hn hu hix hin hr hx
    have hp : c.progress = 0 := h.2.2.1
    exact completes_copyRow rfl h ((State.copyWork_of_copyStarts h).trans (State.gatherUnit_of_one hp hn hu hix hin hr hx))
      (State.copies_advance ..) rfl
  case scatter =>
    intro s q i c u v ix bad r x h hn hix hin hu hr hx
    have hp : c.progress = 0 := h.2.2.1
    exact completes_copyRow rfl h ((State.copyWork_of_copyStarts h).trans (State.scatterUnit_of_one hp hn hix hin hu hr hx))
      (State.copies_advance ..) rfl
  case digest =>
    intro s q i c u r x h ha hn hpage hu hr hb hx
    have hp : c.progress = 0 := h.2.2.1
    exact completes_copyRow rfl h ((State.copyWork_of_copyStarts h).trans (State.digestUnit_of_page hp ha hn hpage hu hr hb hx))
      (State.copies_advance ..) rfl
  case sweep =>
    intro s q i c found u r x h ha hn hu hr hx
    have hp : c.progress = 0 := h.2.2.1
    exact completes_copyRow rfl h
      ((State.copyWork_of_copyStarts h).trans (State.sweepUnit_of_line hp ha hn hu hr hx)) (State.copies_advance ..) rfl

end Sys2Proof.Machine

/-! FILL over any range of whole lines (R421, R427): what writing whole lines does, one unit of the command, and the run of its units. -/

namespace Sys2Proof.Machine

/-! ## Writing whole lines (R340) -/

/-- `t` is `s` but for the bytes and the metadata of stored lines, whose places and stacks stay. -/
structure State.LinesOnly (s t : State) : Prop where
  rest   : { t with mem := s.mem, dram := s.dram } = s
  dtt    : t.dram.dtt = s.dram.dtt
  lost   : ∀ n, (t.stk n).lost = (s.stk n).lost

section
variable {s t u : State}

theorem State.LinesOnly.refl (s : State) : s.LinesOnly s := ⟨rfl, rfl, fun _ => rfl⟩

theorem State.LinesOnly.trans (h : s.LinesOnly t) (k : t.LinesOnly u) : s.LinesOnly u where
  rest := (congrArg (fun v : State => { v with mem := s.mem, dram := s.dram }) k.rest :).trans h.rest
  dtt := k.dtt.trans h.dtt
  lost n := (k.lost n).trans (h.lost n)

theorem State.LinesOnly.livePlaces (h : s.LinesOnly t) (d b : Nat) : t.livePlaces d b = s.livePlaces d b := by
  simp only [State.livePlaces, State.place, h.dtt, h.lost]

theorem State.LinesOnly.queues (h : s.LinesOnly t) : t.queues = s.queues := (congrArg State.queues h.rest :)
theorem State.LinesOnly.hold (h : s.LinesOnly t) : t.hold = s.hold := (congrArg State.hold h.rest :)

end

theorem State.linesOnly_storeLine (s : State) (d l : Nat) (data : List Byte) : s.LinesOnly (s.storeLine d l data) :=
  ⟨rfl, rfl, fun _ => rfl⟩

theorem State.linesOnly_updStk (s : State) (n : Nat) {f : Stack → Stack} (hf : ∀ k, (f k).lost = k.lost) :
    s.LinesOnly (s.updStk n f) := by
  refine ⟨rfl, rfl, fun m => ?_⟩
  by_cases hm : m = n
  · rw [hm, State.updStk, State.stk_setStk_self, hf]
  · rw [State.updStk, State.stk_setStk_ne _ _ hm]

theorem State.linesOnly_storeCells (s : State) (stack pl : Nat) : s.LinesOnly (s.storeCells stack pl) := by
  have hfaults : ∀ (v : State) l, s.LinesOnly v → s.LinesOnly { v with dram.faults := l } := fun v l h => ⟨h.rest, h.dtt, h.lost⟩
  have h1 := hfaults s (s.dram.faults.filter fun f => !(f.1.stack == stack && f.1.line == pl)) (.refl s)
  have hhit : ∀ l, s.LinesOnly { (({ s with dram.faults := s.dram.faults.filter fun f => !(f.1.stack == stack && f.1.line == pl) } :
      State).updStk stack fun k => { k with inject := none }) with dram.faults := l } := fun l =>
    hfaults _ l (h1.trans (State.linesOnly_updStk _ _ fun _ => rfl))
  unfold State.storeCells
  dsimp only
  split
  · split
    · exact hhit _
    · exact h1
  · split
    · exact hhit _
    · exact h1
  · exact h1

/-- A whole line is stored, and no other byte changes. -/
theorem State.linesOnly_writeLine (s : State) {d l : Nat} {data : List Byte} (hd : data.length = 64)
    (hl : s.livePlaces d (l / 1024) ≠ []) : s.LinesOnly (s.writeLine d l 0 data).1 ∧ (s.writeLine d l 0 data).2 = false ∧
      (s.writeLine d l 0 data).1.mem = FMap.setRun 0 s.mem (addr d (l * 64)) data := by
  rw [State.writeLine_of_whole hd hl]
  refine ⟨?_, rfl, ?_⟩
  · exact foldl_holds (s.LinesOnly ·) _ (fun v x hv => hv.trans (v.linesOnly_storeCells ..)) _ _ (s.linesOnly_storeLine ..)
  · rw [State.mem_cells, State.mem_storeLine]

/-- The pieces of a range of whole lines are its lines. -/
theorem pieces_of_lines {off : Nat} (k : Nat) (h : off % 64 = 0) :
    pieces off (64 * k) = (List.range k).map fun i => (off / 64 + i, 0, 64) := by
  cases k with
  | zero => rfl
  | succ k =>
    have hn : 64 * (k + 1) ≠ 0 := by omega
    have hcount : (off + 64 * (k + 1) - 1) / 64 - off / 64 + 1 = k + 1 := by omega
    rw [pieces, if_neg hn, hcount]
    refine List.map_congr_left fun i hi => ?_
    have hi' := List.mem_range.1 hi
    have hlen : min 64 (off + 64 * (k + 1) - (off / 64 + i) * 64) = 64 := by omega
    by_cases h0 : i = 0 <;> simp [h0, h] <;> omega

/-- A run of values written in two parts is the run of both. -/
theorem FMap.setRun_append {α : Type} [DecidableEq α] (d : α) (vs ws : List α) : ∀ (m : FMap α) (k : Nat),
    FMap.setRun d m k (vs ++ ws) = FMap.setRun d (FMap.setRun d m k vs) (k + vs.length) ws := by
  induction vs with
  | nil => intro m k; rfl
  | cons v vs ih =>
    intro m k
    simp only [List.cons_append, FMap.setRun, ih, List.length_cons]
    congr 1
    omega

/-- A part of a string that lies within it. -/
theorem sub_of_le {bs : List Byte} {i n : Nat} (h : i + n ≤ bs.length) : sub bs i n = (bs.drop i).take n := by
  have : n - (bs.length - i) = 0 := by omega
  simp [sub, this]

/-- Whole lines of a drawer with a live place for each are all stored, and no other byte changes. -/
theorem State.writeRange_of_lines (s : State) {d off : Nat} (data : List Byte) (k : Nat) (hlen : data.length = 64 * k)
    (hoff : off % 64 = 0) (hl : ∀ i, i < k → s.livePlaces d ((off / 64 + i) / 1024) ≠ []) :
    s.LinesOnly (s.writeRange d off data).1 ∧ (s.writeRange d off data).2 = none ∧
      (s.writeRange d off data).1.mem = FMap.setRun 0 s.mem (addr d off) data := by
  have hlines : ∀ j, j ≤ k → ∃ t, ((List.range j).map fun i => (off / 64 + i, 0, 64)).foldl
      (fun (acc : State × Option Nat) (p : Nat × Nat × Nat) =>
        let r := acc.1.writeLine d p.1 p.2.1 (sub data (p.1 * 64 + p.2.1 - off) p.2.2)
        (r.1, if acc.2.isNone && r.2 then some (p.1 * 64) else acc.2)) (s, none) = (t, none) ∧
      s.LinesOnly t ∧ t.mem = FMap.setRun 0 s.mem (addr d off) (data.take (64 * j)) := by
    intro j
    induction j with
    | zero => exact fun _ => ⟨s, rfl, .refl s, by simp [FMap.setRun]⟩
    | succ j ih =>
      intro hj
      obtain ⟨t, hfold, hrest, hmem⟩ := ih (by omega)
      have hat : (off / 64 + j) * 64 - off = 64 * j := by omega
      have hdata : (sub data (64 * j) 64).length = 64 := length_sub ..
      have hlive : t.livePlaces d ((off / 64 + j) / 1024) ≠ [] := by
        rw [hrest.livePlaces]
        exact hl j (by omega)
      obtain ⟨hline, hflag, hlmem⟩ := t.linesOnly_writeLine hdata hlive
      refine ⟨(t.writeLine d (off / 64 + j) 0 (sub data (64 * j) 64)).1, ?_, hrest.trans hline, ?_⟩
      · rw [List.range_succ, List.map_append, List.foldl_append, hfold]
        simp [hat, hflag]
      · have htake : data.take (64 * (j + 1)) = data.take (64 * j) ++ sub data (64 * j) 64 := by
          rw [sub_of_le (by omega), Nat.mul_succ, List.take_add]
        have haddr : addr d ((off / 64 + j) * 64) = addr d off + (data.take (64 * j)).length := by
          rw [List.length_take, Nat.min_eq_left (by omega)]
          unfold addr
          omega
        rw [hlmem, hmem, htake, FMap.setRun_append, haddr]
  obtain ⟨t, hfold, hrest, hmem⟩ := hlines k le_rfl
  have hrange : s.writeRange d off data = (t, none) := by
    rw [State.writeRange, hlen, pieces_of_lines k hoff]
    exact hfold
  rw [hrange]
  exact ⟨hrest, rfl, by rw [hmem, ← hlen, List.take_length]⟩

/-- Without snapshots every block is writable as it stands. -/
theorem State.claimRange_of_no_snapshots {s : State} (h : s.hold.snapshots = []) (d off n : Nat) :
    s.claimRange d off n = some s := by
  have hblock : ∀ b, s.unshare d b = some s := fun b => by simp [State.unshare, h]
  unfold State.claimRange
  split
  · rfl
  · refine foldl_holds (· = some s) _ (fun o i ho => ?_) _ _ rfl
    rw [ho]
    exact hblock _

/-! ## One unit of FILL (R427) -/

/-- The first `p` bytes of a range that a FILL writes. -/
def fillBytes (pattern : List Byte) (p : Nat) : List Byte := (List.range p).map fun k => pattern.getD (k % 8) 0

@[simp] theorem length_fillBytes (pattern : List Byte) (p : Nat) : (fillBytes pattern p).length = p := by simp [fillBytes]

theorem getD_fillBytes (pattern : List Byte) {p k : Nat} (h : k < p) : (fillBytes pattern p).getD k 0 = pattern.getD (k % 8) 0 := by
  simp [fillBytes, h]

theorem fillBytes_add (pattern : List Byte) (p m : Nat) : fillBytes pattern (p + m) =
    fillBytes pattern p ++ (List.range m).map fun k => pattern.getD ((p + k) % 8) 0 := by
  simp [fillBytes, List.range_add, Function.comp_def]

/-- `t` is `s` but for stored bytes, their metadata and the queues, and the first `p` bytes of the range of the FILL `c` have its
pattern. -/
structure State.Wrote (s : State) (c : RunCmd) (p : Nat) (t : State) : Prop where
  rest  : { t with mem := s.mem, dram := s.dram, queues := s.queues } = s
  dtt   : t.dram.dtt = s.dram.dtt
  lost  : ∀ n, (t.stk n).lost = (s.stk n).lost
  mem   : t.mem = FMap.setRun 0 s.mem (addr (poolDrawer c.bytes 16) (poolOffset c.bytes 16)) (fillBytes (sub c.bytes 24 8) p)

/-- The FILL `c` stands at byte `p` of its range as (q, i) in `t`: it has written the bytes before it. -/
structure State.Filling (s : State) (q : Nat) (i : W32) (c : RunCmd) (p : Nat) (t : State) (d : RunCmd) : Prop where
  wrote : s.Wrote c p t
  run   : t.runOf q i = some d
  phase : d.phase = .dispatched ∨ d.phase = .running
  at_   : d.progress = BitVec.ofNat 64 p
  ok    : d.status = .ok
  same  : { d with phase := c.phase, status := c.status, progress := c.progress, result := c.result } = c

/-- The FILL `c` has ended in `t` with its whole range written. -/
structure State.FillEnded (s : State) (q : Nat) (i : W32) (c : RunCmd) (t : State) : Prop where
  wrote : s.Wrote c (lengthAt c.bytes 40) t
  run   : ∃ d, t.runOf q i = some d ∧ d.phase = .ended ∧ d.status = .ok ∧ d.progress = BitVec.ofNat 64 (lengthAt c.bytes 40)

section
variable {s t u : State} {q : Nat} {i : W32} {c d : RunCmd} {p m : Nat}

theorem State.Wrote.eq (h : s.Wrote c p t) : t = { s with mem := t.mem, dram := t.dram, queues := t.queues } :=
  (congrArg (fun v : State => { v with mem := t.mem, dram := t.dram, queues := t.queues }) h.rest :)

/-- What of the state FILL's engine looks at does not depend on stored lines and queues. -/
theorem State.mayWork_upd (s : State) (m : List Host.Cell) (dr : Dram) (qs : FMap Queue) (q cls : Nat) (d : RunCmd) :
    ({ s with mem := m, dram := dr, queues := qs } : State).mayWork q cls d = s.mayWork q cls d := rfl

theorem State.Wrote.refl (s : State) (c : RunCmd) : s.Wrote c 0 s := ⟨rfl, rfl, fun _ => rfl, rfl⟩

/-- The next whole lines of the range, written. -/
theorem State.Wrote.step (h : s.Wrote c p t) (hu : t.LinesOnly u)
    (hm : u.mem = FMap.setRun 0 t.mem (addr (poolDrawer c.bytes 16) (poolOffset c.bytes 16 + p))
      ((List.range m).map fun k => (sub c.bytes 24 8).getD ((p + k) % 8) 0)) : s.Wrote c (p + m) u where
  rest := (congrArg (fun v : State => { v with mem := s.mem, dram := s.dram, queues := s.queues }) hu.rest :).trans h.rest
  dtt := hu.dtt.trans h.dtt
  lost n := (hu.lost n).trans (h.lost n)
  mem := by
    rw [hm, h.mem, fillBytes_add, FMap.setRun_append, length_fillBytes, addr, addr, Nat.add_assoc]

theorem State.Wrote.updRun (h : s.Wrote c p t) (f : RunCmd → RunCmd) : s.Wrote c p (t.updRun q i f) :=
  ⟨h.rest, h.dtt, h.lost, h.mem⟩

theorem State.Wrote.livePlaces (h : s.Wrote c p t) (d b : Nat) : t.livePlaces d b = s.livePlaces d b := by
  simp only [State.livePlaces, State.place, h.dtt, h.lost]

/-- A FILL under way goes on where its command did at the beginning: nothing that stops it looks at lines or progress. -/
theorem State.Filling.works (h : s.Filling q i c p t d) (hs : s.copyStarts q i 0x02 c) :
    t.copies q i = some d ∧ t.mustRest clsCopy d = false ∧ t.copyWork q i d = t.fillUnit (sub c.bytes 24 8) q i d := by
  obtain ⟨hact, hrest, -, hgens⟩ := hs
  obtain ⟨⟨r, hr, hcls⟩, -, hop, hphase, hwork⟩ := State.of_actor hact
  obtain ⟨hw, hrun, hdphase, -, -, hsame⟩ := h
  have hbytes : d.bytes = c.bytes := (congrArg RunCmd.bytes hsame :)
  have hgens' : d.gens = [] := (congrArg RunCmd.gens hsame :).trans hgens
  have hdwork : t.mayWork q clsCopy d = true := by
    rw [hw.eq, State.mayWork_upd]
    have heng : d.engine = c.engine := (congrArg RunCmd.engine hsame :)
    simp only [State.mayWork, Bool.and_eq_true] at hwork ⊢
    exact ⟨⟨by simpa using hdphase, heng ▸ hwork.1.2⟩, hwork.2⟩
  have hrange : t.range q = some r := (congrArg (State.range · q) hw.rest :).trans hr
  refine ⟨by simp [State.copies, hrange, hrun, hcls, hdwork], ?_, ?_⟩
  · have hdbg : t.dbg = s.dbg := (congrArg State.dbg hw.rest :)
    rw [← hrest, ← hsame]
    simp only [State.mustRest, hdbg]
  · rw [State.copyWork_of_gens hgens', hbytes, hop, State.unitOf, hbytes]

/-- The page of a range of whole lines that a unit takes is of whole lines and not empty. -/
theorem page_lines {o n p : Nat} (ho : o % 64 = 0) (hn : n % 64 = 0) (hp : p % 64 = 0) (h : p < n) :
    ∃ k, min (n - p) (4096 - (o + p) % 4096) = 64 * k ∧ 0 < k ∧ p + 64 * k ≤ n :=
  ⟨min (n - p) (4096 - (o + p) % 4096) / 64, by omega, by omega, by omega⟩

end

/-! ## The run of its units -/

/-- Evaluating health touches no queue. -/
theorem State.runOf_settle (s : State) (q : Nat) (i : W32) : s.settle.runOf q i = s.runOf q i :=
  (congrArg (State.runOf · q i) s.announces_settle.rest :)

section
variable {s : State} {q : Nat} {i : W32} {c : RunCmd} (hs : s.copyStarts q i 0x02 c) (hsnap : s.hold.snapshots = [])
  (ho : poolOffset c.bytes 16 % 64 = 0) (hn : lengthAt c.bytes 40 % 64 = 0)
  (hfit : poolOffset c.bytes 16 + lengthAt c.bytes 40 ≤ 2 ^ 40)
  (hlive : ∀ b, b * 65536 < poolOffset c.bytes 16 + lengthAt c.bytes 40 → poolOffset c.bytes 16 < (b + 1) * 65536 →
    s.livePlaces (poolDrawer c.bytes 16) b ≠ [])
include hs hsnap ho hn hfit hlive

/-- One unit of a FILL that has bytes left writes a page of whole lines more, or its last. -/
theorem State.Filling.unit {t : State} {d : RunCmd} {p : Nat} (h : s.Filling q i c p t d) (hp : p % 64 = 0)
    (hlt : p < lengthAt c.bytes 40) : ∃ u, t.copyWork q i d = some u ∧
      (u.copies q i = none ∧ s.FillEnded q i c u ∨
        ∃ k e, 0 < k ∧ p + 64 * k < lengthAt c.bytes 40 ∧ s.Filling q i c (p + 64 * k) u e) := by
  obtain ⟨-, -, hwork⟩ := h.works hs
  obtain ⟨hw, hrun, hphase, hat, hok, hsame⟩ := h
  have hbytes : d.bytes = c.bytes := (congrArg RunCmd.bytes hsame :)
  have hprog : d.progress.toNat = p := by
    rw [hat, BitVec.toNat_ofNat, Nat.mod_eq_of_lt (by omega)]
  obtain ⟨k, hk, hk0, hkn⟩ := page_lines ho hn hp hlt
  have hsnap' : t.hold.snapshots = [] := (congrArg (·.hold.snapshots) hw.rest :).trans hsnap
  obtain ⟨hlines, hnone, hmem⟩ := t.writeRange_of_lines (d := poolDrawer c.bytes 16) (off := poolOffset c.bytes 16 + p)
    ((List.range (64 * k)).map fun j => (sub c.bytes 24 8).getD ((p + j) % 8) 0) k (by simp) (by omega) fun j hj => by
      rw [hw.livePlaces]
      exact hlive _ (by omega) (by omega)
  have hunit : t.copyWork q i d = some ((t.writeRange (poolDrawer c.bytes 16) (poolOffset c.bytes 16 + p)
      ((List.range (64 * k)).map fun j => (sub c.bytes 24 8).getD ((p + j) % 8) 0)).1.advance q i d (p + 64 * k)
        (lengthAt c.bytes 40) false 0) := by
    have hnot : ¬ lengthAt c.bytes 40 ≤ p := by omega
    rw [hwork]
    simp only [State.fillUnit, hbytes, hprog, if_neg hnot, hk, State.claimRange_of_no_snapshots hsnap', hnone, Option.isSome_none]
  refine ⟨_, hunit, ?_⟩
  have hwrote := hw.step hlines hmem
  have hindex : d.index = i := State.index_of_runOf hrun
  have hrun' : ∀ f : RunCmd → RunCmd, (∀ x, x.index = i → (f x).index = i) →
      ((t.writeRange (poolDrawer c.bytes 16) (poolOffset c.bytes 16 + p)
        ((List.range (64 * k)).map fun j => (sub c.bytes 24 8).getD ((p + j) % 8) 0)).1.updRun q i f).runOf q i = some (f d) := by
    intro f hf
    rw [State.runOf_updRun _ _ _ hf, State.runOf, State.queue, hlines.queues]
    exact congrArg (Option.map f) hrun
  by_cases hlast : p + 64 * k = lengthAt c.bytes 40
  · left
    rw [hlast] at hwrote ⊢
    refine ⟨State.copies_advance .., ?_⟩
    rw [State.advance_of_last]
    refine ⟨(hwrote.updRun _).updRun _, (d.step (lengthAt c.bytes 40) false 0).finish .ok (BitVec.ofNat 64 (lengthAt c.bytes 40)) 0,
      ?_, rfl, rfl, rfl⟩
    rw [State.runOf_endRun, hrun' (fun _ => d.step (lengthAt c.bytes 40) false 0) fun _ _ => hindex]
    simp [RunCmd.finish, RunCmd.step, hok]
  · right
    have hmore : ¬ lengthAt c.bytes 40 ≤ p + 64 * k := by omega
    refine ⟨k, d.step (p + 64 * k) false 0, hk0, by omega, ?_⟩
    rw [State.advance, if_neg hmore]
    exact ⟨hwrote.updRun _, hrun' _ fun _ _ => hindex, .inr rfl, rfl, by simp [RunCmd.step, hok], hsame⟩

/-- From any whole line of its range a FILL runs to its end. -/
theorem State.Filling.copyRun {fuel : Nat} : ∀ {t : State} {d : RunCmd} {p : Nat}, s.Filling q i c p t d → p % 64 = 0 →
    p < lengthAt c.bytes 40 → lengthAt c.bytes 40 - p ≤ fuel → s.FillEnded q i c (t.copyRun q i fuel) := by
  induction fuel with
  | zero => intro t d p _ _ hlt hfuel; omega
  | succ fuel ih =>
    intro t d p h hp hlt hfuel
    obtain ⟨hcopies, hrest, -⟩ := h.works hs
    obtain ⟨u, hwork, hend⟩ := h.unit hs hsnap ho hn hfit hlive hp hlt
    rw [State.copyRun_of_unit hcopies hrest hwork (by omega), Nat.add_sub_cancel]
    rcases hend with ⟨hnone, hended⟩ | ⟨k, e, hk, hkn, hfill⟩
    · rwa [State.copyRun_of_none hnone]
    · exact ih hfill (by omega) hkn (by omega)

/-- FILL's row runs the command to its end. -/
theorem State.fillEnded_copyRun (hok : c.status = .ok) {fuel : Nat} (hfuel : lengthAt c.bytes 40 < fuel) :
    s.FillEnded q i c (s.copyRun q i fuel) := by
  have hp : c.progress = 0 := hs.2.2.1
  obtain ⟨-, hrun, -, hphase, -⟩ := State.of_actor hs.1
  by_cases h0 : lengthAt c.bytes 40 = 0
  · have hunit : s.copyWork q i c = some (s.endRun q i c.status c.progress 0) := by
      rw [State.copyWork_of_copyStarts hs]
      simp [State.unitOf, State.fillUnit, h0]
    rw [State.copyRun_of_unit (State.copies_of_actor hs.1) hs.2.1 hunit (by omega), State.copyRun_of_none (State.copies_endRun ..)]
    have hend := (State.runOf_endRun s q i c.status c.progress 0).trans (congrArg _ hrun)
    exact ⟨h0 ▸ (State.Wrote.refl s c).updRun _, _, hend, rfl, hok, by simp [RunCmd.finish, hp, h0]⟩
  · exact State.Filling.copyRun hs hsnap ho hn hfit hlive (p := 0) ⟨.refl s c, hrun, hphase, by simpa using hp, hok, rfl⟩ rfl
      (by omega) (by omega)

end

/-- Settles O26: the run of the units writes the pattern over the range (`State.fillEnded_copyRun`, by induction on the units), and
evaluating health afterwards touches neither memory nor queues. -/
theorem fillWritesItsPatternOverTheWholeRange : Obligations.FillWritesItsPatternOverTheWholeRange := by
  unfold Obligations.FillWritesItsPatternOverTheWholeRange
  intro s q i c hs hok hsnap ho hn hfit hlive
  have hrow : exec (.fill q i) s = .next (s.copyRun q.toNat i (2 ^ 41)).settle := by
    change s.copyRow q i 0x02 = _
    rw [State.copyRow, hs.1]
  obtain ⟨hwrote, d, hrun, hphase, hst, hprog⟩ := State.fillEnded_copyRun hs hsnap ho hn hfit hlive hok
    (fuel := 2 ^ 41) (by omega)
  refine completes_next hrow ⟨⟨d, ?_, hphase, hst, hprog⟩, ?_⟩
  · rw [State.runOf_settle, hrun]
  · obtain ⟨hin, hout⟩ := byteOf_of_setRun (t := (s.copyRun q.toNat i (2 ^ 41)).settle) (s := s)
      ((State.mem_settle _).trans hwrote.mem) (by simpa using hfit)
    rw [length_fillBytes] at hin hout
    exact ⟨fun k hk => (hin k hk).trans (getD_fillBytes _ hk), hout⟩

end Sys2Proof.Machine

/-! Engine queues (chapter 12): doorbells through the host port, dispatch, completion, and the end of a quantum. -/

namespace Sys2Proof.Machine

/-! ## Doorbells (R405, R684) -/

/-- The outcomes of Table 12–2. -/
theorem Queue.bell_cases (q : Queue) {depth : Nat} (t : W32) (hd : depth < 2 ^ 31) :
    ((t - q.tail).toNat = 0 → q.bell depth t = (q, .ok)) ∧
    (1 ≤ (t - q.tail).toNat → (t - q.tail).toNat ≤ depth - (q.tail - q.head).toNat → q.bell depth t = ({ q with tail := t }, .ok)) ∧
    (depth - (q.tail - q.head).toNat < (t - q.tail).toNat → (t - q.tail).toNat < 2 ^ 31 → q.bell depth t = (q, .range)) ∧
    (2 ^ 31 ≤ (t - q.tail).toNat → q.bell depth t = (q, .ok)) := by
  unfold Queue.bell
  dsimp only
  refine ⟨fun h => if_pos h, fun h1 h2 => ?_, fun h1 h2 => ?_, fun h => ?_⟩
  · rw [if_neg (by omega), if_pos h2]
  · rw [if_neg (by omega), if_neg (by omega), if_pos h2]
  · rw [if_neg (by omega), if_neg (by omega), if_neg (by omega)]

/-- A doorbell that is not OK is out of range and changes nothing. -/
theorem Queue.bell_of_not_ok {q : Queue} {depth : Nat} {t : W32} (h : (q.bell depth t).2 ≠ .ok) : q.bell depth t = (q, .range) := by
  unfold Queue.bell at h ⊢
  dsimp only at h ⊢
  split
  next h0 =>
    rw [if_pos h0] at h
    exact absurd rfl h
  next h0 =>
    rw [if_neg h0] at h
    split
    next h1 =>
      rw [if_pos h1] at h
      exact absurd rfl h
    next h1 =>
      rw [if_neg h1] at h
      split
      · rfl
      next h2 =>
        rw [if_neg h2] at h
        exact absurd rfl h

section
variable {s : State} {q : BitVec 16} {w : HostWrite} {r : QueueRange} {P : State → Prop}

/-- A served doorbell on a queue whose ring the host sees and no set freezes rings it, or is recorded as a failed one. -/
theorem completes_hostDoorbell (hserved : s.hostServed = true) (hn : s.power.node = .ready) (hw : w.size = 4 ∨ w.size = 8)
    (hr : s.range q.toNat = some r) (hsees : s.hostSees r.ring = true) (hf : s.queueFrozen q.toNat = false)
    (hok : ((s.queue q.toNat).bell r.depth (w.value.truncate 32)).2 = .ok →
      P ((s.inputOf (.hostDoorbell q w)).setQueue q.toNat ((s.queue q.toNat).bell r.depth (w.value.truncate 32)).1))
    (hbad : ((s.queue q.toNat).bell r.depth (w.value.truncate 32)).2 ≠ .ok →
      P ((s.inputOf (.hostDoorbell q w)).hostErr errDoorbell .range (0x2800000 + q.toNat * 8) false)) :
    Completes (.hostDoorbell q w) s P := by
  have hq := q.isLt
  have hfit : (w.size = 4 ∧ (0x2800000 + q.toNat * 8) % 4 = 0) ∨ (w.size = 8 ∧ (0x2800000 + q.toNat * 8) % 8 = 0) := by omega
  have hserves : (s.inputOf (.hostDoorbell q w)).serves (0x2800000 + q.toNat * 8) = true := by
    simp [State.serves, State.regsUp_of_hostServed hserved, State.isReady_iff.2 hn]
  have hregs : inRegisters (0x2800000 + q.toNat * 8) = true := by
    simp only [inRegisters, Bool.or_eq_true, Bool.and_eq_true, decide_eq_true_eq]
    omega
  have hregion : 0x2800000 ≤ 0x2800000 + q.toNat * 8 ∧ 0x2800000 + q.toNat * 8 < 0x2880000 := by omega
  have halign : (0x2800000 + q.toNat * 8) % 8 = 0 := by omega
  have hnum : (0x2800000 + q.toNat * 8 - 0x2800000) / 8 = q.toNat := by omega
  have hsize : (w.size != 4 && w.size != 8) = false := by rcases hw with h | h <;> simp [h]
  have hrange : (s.inputOf (.hostDoorbell q w)).range q.toNat = some r := by rw [State.inputOf_eq]; exact hr
  have hsees' : (s.inputOf (.hostDoorbell q w)).hostSees r.ring = true := by rw [State.inputOf_eq]; exact hsees
  have hf' : (s.inputOf (.hostDoorbell q w)).queueFrozen q.toNat = false := by rw [State.inputOf_eq]; exact hf
  have hqueue : (s.inputOf (.hostDoorbell q w)).queue q.toNat = s.queue q.toNat := by rw [State.inputOf_eq]; rfl
  refine completes_bar0Write rfl hserved (by omega) (by unfold bar0Size; omega) ?_
  rw [State.writeServed_fit hserves hregs hfit, State.writeReg]
  dsimp only
  rw [if_pos hregion, if_pos halign, hnum, State.hostBell]
  simp only [State.isReady_inputOf, State.isReady_iff.2 hn, hsize, hrange, hsees', hf', hqueue, Bool.not_true, Bool.false_eq_true,
    if_false]
  split
  next h => exact hok h
  next h =>
    rw [congrArg Prod.snd (Queue.bell_of_not_ok h)]
    exact hbad h

end

/-- Settles O55: Table 12–2 on the queue itself, and through the port the same queue or a failed doorbell recorded. -/
theorem theDoorbellRuleHolds : Obligations.TheDoorbellRuleHolds := by
  unfold Obligations.TheDoorbellRuleHolds
  refine ⟨fun q depth t hd => Queue.bell_cases q t hd, ?_⟩
  rintro s q w r y hserved hn hw hr hsees hf rfl
  refine completes_hostDoorbell hserved hn hw hr hsees hf (fun hok => ?_) fun hbad => ?_
  · refine ⟨State.queue_setQueue_self .., fun n h => ?_, by simp, fun _ => by simp, fun h => absurd hok h⟩
    rw [State.queue_setQueue_ne _ _ h, State.inputOf_eq]
    rfl
  · refine ⟨?_, fun n _ => ?_, by simp, fun h => absurd h hbad, fun _ => rfl⟩
    · rw [congrArg Prod.fst (Queue.bell_of_not_ok hbad), State.inputOf_eq]
      rfl
    · rw [State.inputOf_eq]
      rfl

/-! ## Dispatch (R408, R410, R419) -/

section
variable {v : State} {q : Nat} {r : QueueRange} {x : State × RangeRead}

/-- At its queue's turn, with no paused command in line, dispatch takes the next one. -/
theorem State.dispatch_of_turn (hr : v.range q = some r) (hdr : v.isDraining = false) (ht : v.myTurn q r = true)
    (hp : ((v.queue q).running.find? fun c => c.phase == .paused && !c.pauseReq) = none) :
    v.dispatch q = v.dispatchNext q r (v.queue q) := by
  simp [State.dispatch, hr, hdr, ht, hp]

/-- A sound one-slot command that a check fails ends at once with that check's status. -/
theorem State.dispatchNext_of_refused {st : Status} (hdr : v.isDraining = false)
    (hx : x = v.readRange r.ring (r.slotAt q (v.queue q).dispatch) 64) (hb : x.2.bad = none) (h1 : takenSlots x.2.data = 1)
    (hd : v.dispatchable q x.2.data 1 = true)
    (hc : x.1.dispatchCheck r.cls r.tenant x.2.data (x.1.dynLength r.cls r.tenant x.2.data) = some st) :
    v.dispatchNext q r (v.queue q) = x.1.addRun q
      { index := (v.queue q).dispatch, bytes := x.2.data, slots := 1, engine := 0, phase := .ended, status := st
        refused := true, started := v.ts } := by
  subst hx
  simp [State.dispatchNext, h1, hd, hdr, hb, hc]

/-- A sound one-slot command that every check lets through goes on the engine chosen. -/
theorem State.dispatchNext_of_passed {e : Nat} (hdr : v.isDraining = false)
    (hx : x = v.readRange r.ring (r.slotAt q (v.queue q).dispatch) 64) (hb : x.2.bad = none) (h1 : takenSlots x.2.data = 1)
    (hd : v.dispatchable q x.2.data 1 = true)
    (hc : x.1.dispatchCheck r.cls r.tenant x.2.data (x.1.dynLength r.cls r.tenant x.2.data) = none)
    (hw : x.1.mustWait r.cls x.2.data = false) (he : x.1.pickEngine r.cls x.2.data = some e) :
    v.dispatchNext q r (v.queue q) = (x.1.served q r e).addRun q
      { index := (v.queue q).dispatch, bytes := x.2.data, slots := 1, engine := e, started := v.ts } := by
  subst hx
  simp [State.dispatchNext, h1, hd, hdr, hb, hc, hw, he]

end

theorem completes_commandDispatch {s v t : State} {q : BitVec 16} {found : List Damage}
    (hv : v = (s.inputOf (.commandDispatch q found)).withFound found) (hg : s.inputsGo = true) (ht : t = (v.dispatch q.toNat).settle) :
    Completes (.commandDispatch q found) s fun u => u = t := by
  refine completes_next (t := t) ?_ rfl
  change execCommandDispatch q found s = _
  rw [execCommandDispatch, State.deliver_of_go _ _ hg, ht, hv]

/-! ## Completion (R411, R412, R415, R416) -/

theorem State.LinesOnly.sync {s t : State} (h : s.LinesOnly t) : t.sync = s.sync := (congrArg State.sync h.rest :)
theorem State.LinesOnly.jny {s t : State} (h : s.LinesOnly t) : t.jny = s.jny := (congrArg State.jny h.rest :)

theorem QueueRange.slotAt_mod (r : QueueRange) (q : Nat) (i : W32) : r.slotAt q i % 64 = 0 := by
  unfold QueueRange.slotAt
  omega

@[simp] theorem RunCmd.length_record (c : RunCmd) (depth : Nat) (held : Bool) (ts : Nat) : (c.record depth held ts).length = 64 := by
  simp [RunCmd.record]

/-- Passing completed slots touches no running command. -/
theorem Queue.running_advance (fuel : Nat) : ∀ q : Queue, (q.advance fuel).running = q.running := by
  induction fuel with
  | zero => exact fun _ => rfl
  | succ fuel ih =>
    intro q
    unfold Queue.advance
    split
    · exact ih _
    · rfl

theorem State.runOf_dropRun (s : State) (q : Nat) (i : W32) : (s.dropRun q i).runOf q i = none := by
  rw [State.runOf, State.dropRun, State.queue_setQueue_self]
  refine List.find?_eq_none.2 fun x hx => ?_
  simpa using (List.mem_filter.1 hx).2

theorem State.runOf_retireSlots (s : State) (q : Nat) (i j : W32) (n : Nat) :
    (s.retireSlots q j n).runOf q i = s.runOf q i := by
  rw [State.runOf, State.retireSlots, State.queue_setQueue_self, Queue.running_advance]
  rfl

/-- An addition that neither meets saturation nor makes it adds to its counter. -/
theorem State.counter_addCounter {s : State} {c : Nat} {x : W64} (hs : (s.counter c).sat = false)
    (hfit : (s.counter c).value.toNat + x.toNat < 2 ^ 64) : ((s.addCounter c x).1.counter c).value = (s.counter c).value + x := by
  have hno : ¬ 2 ^ 64 ≤ (s.counter c).value.toNat + x.toNat := by omega
  simp only [State.addCounter, hs, Bool.false_eq_true, if_false, if_neg hno, State.counter_wake]
  rw [State.counter, State.setCounter, FMap.get_set_self]

section
variable {u : State} {q : Nat} {r : QueueRange} {c : RunCmd}

/-- The steps of a completion whose ADD no freeze holds. -/
theorem State.completeIn_of_thawed (hf : u.counterFrozen (cmdCounter c.bytes) = false) : u.completeIn q r c =
    (State.dropRun (if cmdInterrupt c.bytes then
        (if cmdNotify c.bytes && !c.refused then ((u.writeRecord q r c false).tenantAdd (cmdCounter c.bytes)
            (BitVec.ofNat 64 (cmdAddend c.bytes)) r.tenant (some (q, c.index, c.slots))).1 else u.writeRecord q r c false).note .queueDone
          .node 0 (q + 65536 * c.status.code) c.index.toNat 0
      else if cmdNotify c.bytes && !c.refused then ((u.writeRecord q r c false).tenantAdd (cmdCounter c.bytes)
            (BitVec.ofNat 64 (cmdAddend c.bytes)) r.tenant (some (q, c.index, c.slots))).1 else u.writeRecord q r c false)
      q c.index).retireSlots q c.index c.slots := by
  simp [State.completeIn, hf]

/-- The record is stored whole on its slot's line, and nothing else but stored lines changes. -/
theorem State.writeRecord_of_live (hl : u.livePlaces r.ring (r.slotAt q c.index / 65536) ≠ []) (held : Bool) :
    u.LinesOnly (u.writeRecord q r c held) ∧
      (u.writeRecord q r c held).mem = FMap.setRun 0 u.mem (addr r.ring (r.slotAt q c.index)) (c.record r.depth held u.ts) := by
  obtain ⟨hlines, -, hmem⟩ := u.writeRange_of_lines (d := r.ring) (off := r.slotAt q c.index) (c.record r.depth held u.ts) 1
    (by simp) (QueueRange.slotAt_mod r q c.index) fun i hi => by
      have hblock : (r.slotAt q c.index / 64 + i) / 1024 = r.slotAt q c.index / 65536 := by omega
      rwa [hblock]
  exact ⟨hlines, hmem⟩

end

/-- What a completion whose ADD no freeze holds does: the record is in place, the command is off its queue, and its ADD is made. -/
theorem State.completeIn_effects {u : State} {q : Nat} {r : QueueRange} {c : RunCmd}
    (hf : u.counterFrozen (cmdCounter c.bytes) = false) (hl : u.livePlaces r.ring (r.slotAt q c.index / 65536) ≠ []) :
    (u.completeIn q r c).runOf q c.index = none ∧
    (u.completeIn q r c).mem = FMap.setRun 0 u.mem (addr r.ring (r.slotAt q c.index)) (c.record r.depth false u.ts) ∧
    ((cmdNotify c.bytes && !c.refused) = true → u.counterTenant (cmdCounter c.bytes) = some r.tenant →
      (u.counter (cmdCounter c.bytes)).sat = false →
      (u.counter (cmdCounter c.bytes)).value.toNat + cmdAddend c.bytes < 2 ^ 64 →
      ((u.completeIn q r c).counter (cmdCounter c.bytes)).value =
        (u.counter (cmdCounter c.bytes)).value + BitVec.ofNat 64 (cmdAddend c.bytes)) := by
  obtain ⟨hlines, hmem⟩ := State.writeRecord_of_live hl false
  rw [State.completeIn_of_thawed hf]
  refine ⟨?_, ?_, fun hadds hten hsat hfit => ?_⟩
  · rw [State.runOf_retireSlots, State.runOf_dropRun]
  · rw [← hmem]
    simp only [State.retireSlots, State.dropRun, State.setQueue_mem]
    split <;> split <;> simp
  · have hcounter : (u.writeRecord q r c false).counter (cmdCounter c.bytes) = u.counter (cmdCounter c.bytes) := by
      simp only [State.counter, hlines.sync]
    have hten' : (u.writeRecord q r c false).counterTenant (cmdCounter c.bytes) = some r.tenant := by
      rw [← hten]
      simp only [State.counterTenant, State.records, hlines.jny]
    have hf' : (u.writeRecord q r c false).counterFrozen (cmdCounter c.bytes) = false := by
      refine Eq.trans ?_ hf
      simp only [State.counterFrozen, hlines.hold]
    have haddend : (BitVec.ofNat 64 (cmdAddend c.bytes)).toNat = cmdAddend c.bytes := by
      rw [BitVec.toNat_ofNat, Nat.mod_eq_of_lt (by omega)]
    have hadd : ((u.writeRecord q r c false).tenantAdd (cmdCounter c.bytes) (BitVec.ofNat 64 (cmdAddend c.bytes)) r.tenant
        (some (q, c.index, c.slots))).1 =
        ((u.writeRecord q r c false).addCounter (cmdCounter c.bytes) (BitVec.ofNat 64 (cmdAddend c.bytes))).1 := by
      simp [State.tenantAdd, hten', hf']
    have hvalue := State.counter_addCounter (s := u.writeRecord q r c false) (c := cmdCounter c.bytes)
      (x := BitVec.ofNat 64 (cmdAddend c.bytes)) (by rwa [hcounter]) (by rwa [hcounter, haddend])
    rw [hcounter] at hvalue
    rw [← hvalue, if_pos hadds, hadd]
    simp only [State.retireSlots, State.dropRun, State.counter, State.setQueue_sync]
    split
    · rw [State.note, State.sync_post]
    · rfl

/-! ## The end of a quantum (R420, R507) -/

section
variable {s : State} {q : Nat} {i : W32} {c : RunCmd}

theorem State.range_of_copies (h : s.copies q i = some c) : ∃ r, s.range q = some r ∧ s.runOf q i = some c ∧
    (c.phase = .dispatched ∨ c.phase = .running) := by
  unfold State.copies at h
  split at h
  next r d hr hd =>
    split at h
    next hw =>
      cases h
      have hphase := hw.2
      simp only [State.mayWork, Bool.and_eq_true, Bool.or_eq_true, beq_iff_eq] at hphase
      exact ⟨r, hr, hd, hphase.1.1⟩
    · cases h
  · cases h

/-- A preemption that waits for a working copy command's resume point pauses it there. -/
theorem State.resumePoint_of_preempted (h : s.copies q i = some c) (hs : c.stop = none) (hp : c.pauseReq = false)
    (hpre : c.preemptReq = true) (he : s.dbg.engReq = []) :
    s.resumePoint q i = s.updRun q i fun x => { x with phase := .paused, preempted := true, preemptReq := false } := by
  obtain ⟨r, hr, hrun, hphase⟩ := State.range_of_copies h
  have hend : c.phase ≠ .ended := by rcases hphase with h | h <;> simp [h]
  simp [State.resumePoint, hr, hrun, hend, he, hs, hp, hpre]

end

/-- Settles O24: each row of a queue, with its hypotheses, reduces to the operation that its rule names. -/
theorem queuesRingDispatchAndComplete : Obligations.QueuesRingDispatchAndComplete := by
  unfold Obligations.QueuesRingDispatchAndComplete
  refine ⟨?bell, ?passed, ?refused, ?complete, ?quantum, ?sieveQuantum, ?unit, ?preempted⟩
  case bell =>
    intro s q w r hserved hn hw hr hsees hf hok
    exact completes_hostDoorbell hserved hn hw hr hsees hf (fun _ => rfl) fun hbad => absurd hok hbad
  case passed =>
    intro s q found v r x e hv hg hr hdr ht hp hx hb h1 hd hc hw he
    have hts : v.ts = s.ts := by rw [hv, State.inputOf_eq]; rfl
    rw [← hts]
    refine completes_commandDispatch hv hg ?_
    rw [State.dispatch_of_turn hr hdr ht hp, State.dispatchNext_of_passed hdr hx hb h1 hd hc hw he]
  case refused =>
    intro s q found v r x st hv hg hr hdr ht hp hx hb h1 hd hc
    have hts : v.ts = s.ts := by rw [hv, State.inputOf_eq]; rfl
    rw [← hts]
    refine completes_commandDispatch hv hg ?_
    rw [State.dispatch_of_turn hr hdr ht hp, State.dispatchNext_of_refused hdr hx hb h1 hd hc]
  case complete =>
    intro s q i r c hrun hphase hr hg hf hl hslot _
    have hindex : c.index = i := State.index_of_runOf hrun
    subst hindex
    have hexec : exec (.commandComplete q c.index) s =
        .next ((s.inputOf (.commandComplete q c.index)).completeIn q.toNat r c).settle := by
      change execCommandComplete q c.index s = _
      have hrun' : (s.inputOf (.commandComplete q c.index)).runOf q.toNat c.index = some c := by rw [State.inputOf_eq]; exact hrun
      have hr' : (s.inputOf (.commandComplete q c.index)).range q.toNat = some r := by rw [State.inputOf_eq]; exact hr
      simp [execCommandComplete, hrun, hphase, State.deliver_of_go _ _ hg, State.complete, hrun', hr']
    obtain ⟨hoff, hmem, hadd⟩ := State.completeIn_effects (u := s.inputOf (.commandComplete q c.index)) (q := q.toNat) (r := r)
      (c := c) (by simpa using hf) (by simpa using hl)
    have hts : (s.inputOf (.commandComplete q c.index)).ts = s.ts := by rw [State.inputOf_eq]; rfl
    have hmod := QueueRange.slotAt_mod r q.toNat c.index
    rw [hts, State.inputOf_mem] at hmem
    obtain ⟨hin, -⟩ := byteOf_of_setRun (t := ((s.inputOf (.commandComplete q c.index)).completeIn q.toNat r c).settle) (s := s)
      ((State.mem_settle _).trans hmem) (by simp; omega)
    refine completes_next hexec ⟨(State.runOf_settle ..).trans hoff, fun k hk => hin k (by simpa using hk), _, rfl, ?_⟩
    simpa using hadd
  case quantum =>
    rintro s q i r c u rfl hg hr hrun hcls hphase ho
    refine completes_next (t := _) ?_ rfl
    change execQuantumExpiry q i s = _
    simp [execQuantumExpiry, hr, hrun, hcls, hphase, State.deliver_of_go _ _ hg, ho]
  case sieveQuantum =>
    rintro s q i r c u x rfl hg hr hrun hcls rfl hphase hstart hwin
    have hwin' : ((s.ctx (cmdCtx c.bytes)).win != 0) = true := by simpa using hwin
    refine completes_next (t := _) ?_ rfl
    change execQuantumExpiry q i s = _
    simp [execQuantumExpiry, hr, hrun, hcls, hphase, hstart, State.deliver_of_go _ _ hg, hwin']
  case unit =>
    intro s q i c u hc hrest hw
    refine completes_next (t := _) ?_ rfl
    change execCopyResumePoint q i s = _
    simp [execCopyResumePoint, hc, hrest, hw]
  case preempted =>
    intro s q i c hc hs hp hpre he
    refine completes_next (t := _) ?_ rfl
    change execCopyResumePoint q i s = _
    have hrest : s.mustRest clsCopy c = true := by simp [State.mustRest, hpre]
    simp [execCopyResumePoint, hc, hrest, State.resumePoint_of_preempted hc hs hp hpre he]

end Sys2Proof.Machine

/-! The sieve sequencer (chapter 14): what an instruction makes of the state where nothing waits for its context's resume
point. -/

namespace Sys2Proof

/-! ## Contexts that nothing waits for -/

/-- Nothing waits for a context's resume point: no stop, pause, halt, preemption or debugger's step, and no interrupt that is
enabled is pending. (`Ctx.calm` asks this and a context's counts and long instruction.) -/
def Ctx.quiet (x : Ctx) : Prop :=
  x.stopReq = none ∧ x.pauseReq = false ∧ x.haltReq = false ∧ x.preemptReq = false ∧ x.stepReq = false ∧
  (x.te && x.timerPend) = false ∧ (x.xe && x.xmovPend) = false

theorem Ctx.calm_iff (x : Ctx) : x.calm = true ↔ x.quiet ∧ x.long = none ∧ x.retired + 1 < 2 ^ 48 := by
  simp only [Ctx.calm, Ctx.quiet, Bool.and_eq_true, Bool.not_eq_true', Option.isNone_iff_eq_none, decide_eq_true_eq]
  tauto

theorem Ctx.quiet_of_calm {x : Ctx} (h : x.calm = true) : x.quiet := (x.calm_iff.mp h).1

theorem Ctx.dueInterrupt_of_quiet {x : Ctx} (h : x.quiet) : x.dueInterrupt = none := by
  obtain ⟨-, -, -, -, -, ht, hx⟩ := h
  simp [Ctx.dueInterrupt, ht, hx]

@[simp] theorem Ctx.unmask_quiet (x : Ctx) : x.unmask.quiet ↔ x.quiet := by
  unfold Ctx.unmask; split <;> rfl

theorem Ctx.quiet_retire {x : Ctx} (next : BitVec 16) (h : x.quiet) : (x.retire next).quiet := (Ctx.unmask_quiet _).mpr h

@[simp] theorem Ctx.unmask_phase (x : Ctx) : x.unmask.phase = x.phase := by unfold Ctx.unmask; split <;> rfl

@[simp] theorem Ctx.retire_phase (x : Ctx) (next : BitVec 16) : (x.retire next).phase = x.phase := Ctx.unmask_phase _

theorem Ctx.setReg_eq (x : Ctx) (n : Nat) (v : W64) : ∃ r, x.setReg n v = { x with regs := r } := by
  unfold Ctx.setReg; split
  · exact ⟨_, rfl⟩
  · exact ⟨_, rfl⟩

@[simp] theorem Ctx.setReg_calm (x : Ctx) (n : Nat) (v : W64) : (x.setReg n v).calm = x.calm := by
  obtain ⟨r, hr⟩ := x.setReg_eq n v; rw [hr]; rfl

@[simp] theorem Ctx.setReg_pc (x : Ctx) (n : Nat) (v : W64) : (x.setReg n v).pc = x.pc := by
  obtain ⟨r, hr⟩ := x.setReg_eq n v; rw [hr]

end Sys2Proof

namespace Sys2Proof.Machine

/-! ## Resume points -/

section
variable {s : State} {key : Nat}

theorem State.boundary_of_quiet (h : (s.ctx key).quiet) : s.boundary key = s := by
  have hdue := Ctx.dueInterrupt_of_quiet h
  obtain ⟨hstop, hpause, hhalt, hpre, -, -, -⟩ := h
  simp [State.boundary, hstop, hpause, hhalt, hpre, hdue]

theorem State.resumed_of_quiet (h : (s.ctx key).quiet) : s.resumed key = s := by
  obtain ⟨-, -, -, -, hstep, -, -⟩ := id h
  simp [State.resumed, hstep, State.boundary_of_quiet h]

theorem State.resumed_setCtx (s : State) (key : Nat) {y : Ctx} (h : y.quiet) : (s.setCtx key y).resumed key = s.setCtx key y :=
  State.resumed_of_quiet (by simpa using h)

theorem State.resumed_of_idle (h : (s.ctx key).phase = .idle) (hstep : (s.ctx key).stepReq = false) : s.resumed key = s := by
  simp [State.resumed, State.boundary, h, hstep]

/-! ## The choice of a context -/

theorem State.engineRuns_iff (s : State) (e : Nat) : s.engineRuns e = true ↔ ∃ n, n < 8 ∧ (s.ctx (e * 8 + n)).phase = .running :=
    by
  simp [State.engineRuns, List.any_eq_true]

theorem State.alone_iff (s : State) (e : Nat) : s.alone e = true ↔ ∀ n, n < 8 → (s.ctx (e * 8 + n)).mayRun = false := by
  simp [State.alone, List.all_eq_true]

theorem keyEngine_mul_add_mod (key : Nat) : keyEngine key * 8 + key % 8 = key := by unfold keyEngine; omega

theorem keyEngine_key (c : CtxId) : keyEngine c.key = c.engine.val := by
  have := c.ctx.isLt
  simp only [keyEngine, CtxId.key]; omega

theorem State.engineRuns_of_running (h : (s.ctx key).phase = .running) : s.engineRuns (keyEngine key) = true :=
  (s.engineRuns_iff _).mpr ⟨key % 8, by omega, by rw [keyEngine_mul_add_mod]; exact h⟩

theorem State.elect_of_engineRuns (e last fuel : Nat) (h : s.engineRuns e = true) : s.elect e last fuel = s := by
  cases fuel <;> simp [State.elect, h]

theorem State.elect_of_alone (e last fuel : Nat) (h : s.alone e = true) : s.elect e last fuel = s := by
  rw [State.alone_iff] at h
  cases fuel with
  | zero => rfl
  | succ k =>
    have hnone : (((List.range 8).map fun i => (last + 1 + i) % 8).filter fun n => (s.ctx (e * 8 + n)).mayRun) = [] := by
      simp only [List.filter_eq_nil_iff, List.mem_map, forall_exists_index, and_imp]
      rintro n i - rfl
      simp [h _ (Nat.mod_lt _ (by decide : 8 > 0))]
    simp [State.elect, hnone]

theorem State.reelect_of_running (h : (s.ctx key).phase = .running) : s.reelect key = s :=
  State.elect_of_engineRuns _ _ _ (State.engineRuns_of_running h)

/-- A context that leaves its engine leaves it to no other where none waits. -/
theorem State.reelect_of_alone {t : State} (h : s.alone (keyEngine key) = true) (hoff : (t.ctx key).mayRun = false)
    (hrest : ∀ k, k ≠ key → t.ctx k = s.ctx k) : t.reelect key = t := by
  refine State.elect_of_alone _ _ _ ((t.alone_iff _).mpr fun n hn => ?_)
  by_cases hk : keyEngine key * 8 + n = key
  · rwa [hk]
  · rw [hrest _ hk]; exact (s.alone_iff _).mp h n hn

/-! ## What an instruction's action makes of the state -/

theorem bumpPerf_of_lt {r : Nat} (w : Nat) (h : r + 1 < 2 ^ 48) : bumpPerf r w 1 = (r + 1, w, false) := if_pos h

theorem State.retireCtx_of_lt (s : State) (key : Nat) {y : Ctx} (next : BitVec 16) (h : y.retired + 1 < 2 ^ 48) :
    s.retireCtx key { y with win := y.win - 1 } next = s.setCtx key (y.retire next) := by
  simp [State.retireCtx, bumpPerf_of_lt _ h, Ctx.retire]

theorem State.act_retire (s u : State) (key : Nat) {y : Ctx} (next : BitVec 16) (h : y.calm = true) :
    s.act key (.retire u y next) = u.setCtx key (y.retire next) := by
  obtain ⟨hq, -, hr⟩ := y.calm_iff.mp h
  rw [State.act, State.retireCtx_of_lt u key next hr, State.resumed_setCtx u key (Ctx.quiet_retire next hq)]

theorem State.act_unit (s u : State) (key : Nat) {y : Ctx} (h : y.quiet) : s.act key (.unit u y) = u.setCtx key y :=
  State.resumed_setCtx u key h

/-- A trap that reaches its handler. -/
theorem State.act_trap (s u : State) (key : Nat) {x y : Ctx} {cause info : Nat} {pend : Option LongOp}
    (h : x.enterTrap cause info x.pc pend = .inl y) (hrun : y.phase = .running) (hq : y.quiet) :
    s.act key (.trap u x cause info pend) = u.setCtx key y := by
  have htrap : u.trapCtx key x cause info x.pc pend = u.setCtx key y := by simp [State.trapCtx, h]
  rw [State.act, htrap, State.reelect_of_running (by simpa using hrun), State.resumed_setCtx u key hq]

/-! ## Where an instruction executes -/

theorem State.executes_iff (s : State) (key : Nat) : s.executes key = true ↔ s.isReady = true ∧ (s.ctx key).phase = .running ∧
    (s.ctx key).halted = false ∧ s.dbg.engHalt.contains (engineCode 1 (keyEngine key)) = false := by
  simp only [State.executes, Bool.and_eq_true, beq_iff_eq, Bool.not_eq_true']
  tauto

theorem State.stands_iff (s : State) (c : CtxId) (k : SKind) : s.stands c k = true ↔
    s.executes c.key = true ∧ kindOf (s.wordAt c) = some k ∧ (s.ctx c.key).calm = true := by
  simp only [State.stands, Bool.and_eq_true, beq_iff_eq]
  tauto

theorem optAny_none {α : Type} (p : α → Bool) : optAny none p = false := rfl

theorem State.instr_of_runs {k : SKind} {f : State → Ctx → W32 → Act} (hx : s.executes key = true)
    (hk : kindOf ((s.ctx key).fetch (s.ctx key).pc) = some k) (hs : (k.usesPool && s.stalls (s.ctx key).tenant) = false)
    (hl : optAny (s.ctx key).long (·.pc != (s.ctx key).pc) = false) :
    s.instr key k f = s.act key (f s (s.ctx key) ((s.ctx key).fetch (s.ctx key).pc)) := by
  simp [State.instr, hx, hk, hs, hl]

end

section
variable {s : State} {c : CtxId} {k : SKind} {f : State → Ctx → W32 → Act}

theorem State.calm_of_stands (h : s.stands c k = true) : (s.ctx c.key).calm = true := ((s.stands_iff c k).mp h).2.2

theorem State.running_of_stands (h : s.stands c k = true) : (s.ctx c.key).phase = .running :=
  ((s.executes_iff _).mp ((s.stands_iff c k).mp h).1).2.1

theorem State.long_of_stands (h : s.stands c k = true) : (s.ctx c.key).long = none :=
  ((Ctx.calm_iff _).mp (State.calm_of_stands h)).2.1

theorem State.instr_of_stands (h : s.stands c k = true) (hs : (k.usesPool && s.stalls (s.ctx c.key).tenant) = false) :
    s.instr c.key k f = s.act c.key (f s (s.ctx c.key) (s.wordAt c)) := by
  obtain ⟨hx, hk, hcalm⟩ := (s.stands_iff c k).mp h
  exact State.instr_of_runs hx hk hs (by rw [State.long_of_stands h]; rfl)

/-- An instruction that retires to `next`. -/
theorem State.instr_retires (h : s.stands c k = true) (hs : (k.usesPool && s.stalls (s.ctx c.key).tenant) = false)
    {u : State} {y : Ctx} {next : BitVec 16} (hf : f s (s.ctx c.key) (s.wordAt c) = .retire u y next) (hy : y.calm = true) :
    s.instr c.key k f = u.setCtx c.key (y.retire next) := by
  rw [State.instr_of_stands h hs, hf, State.act_retire s u c.key next hy]

/-- An instruction without memory operations that retires to `next`. -/
theorem State.instr_retires' (h : s.stands c k = true) (hs : k.usesPool = false) {u : State} {y : Ctx} {next : BitVec 16}
    (hf : f s (s.ctx c.key) (s.wordAt c) = .retire u y next) (hy : y.calm = true) :
    s.instr c.key k f = u.setCtx c.key (y.retire next) :=
  State.instr_retires h (by simp [hs]) hf hy

end

/-! ## ALU instructions, immediates, branches and jumps (Table 14–5) -/

section
variable {s : State} {c : CtxId} {k : SKind} {i : Instr}

theorem completes_alu {two : Bool} {f g : W64 → W64 → W64} (hi : exec i s = .next (s.instr c.key k (aluAct two f)))
    (hs : k.usesPool = false) (h : s.stands c k = true) (htwo : two = true ∨ fC (s.wordAt c) = 0) (hfg : f = g) :
    Completes i s fun t => t = s.alu c g := by
  refine completes_next hi (State.instr_retires' h hs (y := (s.ctx c.key).setReg _ _) ?_ ?_)
  · have hok : (!two && fC (s.wordAt c) != 0) = false := by rcases htwo with htwo | htwo <;> simp [htwo]
    simp only [aluAct, hok, Bool.false_eq_true, if_false, retireNext, Ctx.next, Ctx.setReg_pc, hfg]
  · simpa using State.calm_of_stands h

theorem completes_imm {ok : W32 → Bool} {f : W32 → W64 → W64}
    (hi : exec i s = .next (s.instr c.key k fun u x w => immAct (ok w) (f w) u x w)) (hs : k.usesPool = false)
    (h : s.stands c k = true) (hok : ok (s.wordAt c) = true) : Completes i s fun t => t = s.imm c (f (s.wordAt c)) := by
  refine completes_next hi (State.instr_retires' h hs (y := (s.ctx c.key).setReg _ _) ?_ ?_)
  · simp only [immAct, hok, Bool.not_true, Bool.false_eq_true, if_false, retireNext, Ctx.next, Ctx.setReg_pc]
  · simpa using State.calm_of_stands h

theorem completes_branch {f g : W64 → W64 → Bool} (hi : exec i s = .next (s.instr c.key k (branchAct f)))
    (hs : k.usesPool = false) (h : s.stands c k = true) (hfg : f = g) : Completes i s fun t => t = s.branch c g := by
  subst hfg
  exact completes_next hi (State.instr_retires' h hs rfl (State.calm_of_stands h))

end

/-- Settles O27: an ALU instruction retires with its result in rd, and with nothing pending its resume point changes nothing. -/
theorem aluInstructionsWriteTheirResult : Obligations.AluInstructionsWriteTheirResult := by
  refine ⟨?_, ?_, ?_, ?_, ?_, ?_, ?_, ?_, ?_, ?_, ?_, ?_, ?_, ?_, ?_⟩
  case refine_11 =>
    exact fun s c h => completes_alu rfl rfl h (.inl rfl) (by funext a b; simp [BitVec.ult])
  case refine_12 =>
    exact fun s c h => completes_alu rfl rfl h (.inl rfl) (by funext a b; simp [BitVec.slt])
  case refine_13 =>
    exact fun s c h => completes_alu rfl rfl h (.inl rfl) (by funext a b; simp [BitVec.ult])
  case refine_14 =>
    exact fun s c h => completes_alu rfl rfl h (.inl rfl) (by funext a b; simp [BitVec.ult])
  case refine_15 => exact fun s c h hrb => completes_alu rfl rfl h (.inr hrb) rfl
  all_goals exact fun s c h => completes_alu rfl rfl h (.inl rfl) rfl

/-- Settles O28: each immediate, branch and jump retires, and with nothing pending its resume point changes nothing. -/
theorem immediatesBranchesAndJumpsAct : Obligations.ImmediatesBranchesAndJumpsAct := by
  refine ⟨?_, ?_, ?_, ?_, ?_, ?_, ?_, ?_, ?_, ?_, ?_, ?_, ?_, ?_, ?_, ?_⟩
  case refine_1 =>
    exact fun s c h => completes_imm (ok := fun _ => true) (f := fun w => (· + fSimm w)) rfl rfl h rfl
  case refine_2 =>
    exact fun s c h => completes_imm (ok := fun _ => true) (f := fun w => (· &&& BitVec.ofNat 64 (fImm w))) rfl rfl h rfl
  case refine_3 =>
    exact fun s c h => completes_imm (ok := fun _ => true) (f := fun w => (· ||| BitVec.ofNat 64 (fImm w))) rfl rfl h rfl
  case refine_4 =>
    exact fun s c h => completes_imm (ok := fun _ => true) (f := fun w => (· ^^^ BitVec.ofNat 64 (fImm w))) rfl rfl h rfl
  case refine_5 =>
    exact fun s c h hres => completes_imm (ok := fun w => wf w 15 8 == 0) (f := fun w => (· <<< wf w 5 0)) rfl rfl h
      (by simp [hres])
  case refine_6 =>
    exact fun s c h hres => completes_imm (ok := fun w => wf w 15 8 == 0) (f := fun w => (· >>> wf w 5 0)) rfl rfl h
      (by simp [hres])
  case refine_7 =>
    exact fun s c h hres =>
      completes_imm (ok := fun w => wf w 15 8 == 0) (f := fun w => (·.sshiftRight (wf w 5 0))) rfl rfl h (by simp [hres])
  case refine_8 =>
    intro s c h hq
    refine completes_next rfl (State.instr_retires' h rfl (y := (s.ctx c.key).setReg _ _) ?_ ?_)
    · simp only [Nat.not_le.mpr hq, if_false, retireNext, Ctx.next]; rfl
    · simpa using State.calm_of_stands h
  case refine_9 => exact fun s c h => completes_branch rfl rfl h rfl
  case refine_10 => exact fun s c h => completes_branch rfl rfl h rfl
  case refine_11 => exact fun s c h => completes_branch rfl rfl h rfl
  case refine_12 => exact fun s c h => completes_branch rfl rfl h (by funext a b; rw [Bool.eq_iff_iff]; simp [BitVec.ult])
  case refine_13 => exact fun s c h => completes_branch rfl rfl h rfl
  case refine_14 => exact fun s c h => completes_branch rfl rfl h (by funext a b; rw [Bool.eq_iff_iff]; simp [BitVec.slt])
  case refine_15 =>
    intro s c h hra
    refine completes_next rfl (State.instr_retires' h rfl (y := (s.ctx c.key).setReg _ _) ?_ ?_)
    · simp only [hra, ne_eq, not_true_eq_false, if_false]; rfl
    · simpa using State.calm_of_stands h
  case refine_16 =>
    intro s c h hrd himm hv
    refine completes_next rfl (State.instr_retires' h rfl (y := s.ctx c.key) ?_ (State.calm_of_stands h))
    simp only [hrd, himm, hv, ne_eq, not_true_eq_false, or_self, if_false]

end Sys2Proof.Machine

/-! Scratch, system registers, control and traps (R482, R492, R503 to R516). -/

namespace Sys2Proof

/-! ## A context that gives up its quantum -/

@[simp] theorem Ctx.retire_tenant (x : Ctx) (next : BitVec 16) : (x.retire next).tenant = x.tenant := by
  unfold Ctx.retire Ctx.unmask; split <;> rfl

@[simp] theorem Ctx.retire_halted (x : Ctx) (next : BitVec 16) : (x.retire next).halted = x.halted := by
  unfold Ctx.retire Ctx.unmask; split <;> rfl

/-- A context that has retired its YIELD and waits for its engine again (R506). -/
def Ctx.yielded (x : Ctx) (next : BitVec 16) : Ctx := { x.retire next with phase := .ready, preemptReq := false }

@[simp] theorem Ctx.yielded_phase (x : Ctx) (next : BitVec 16) : (x.yielded next).phase = .ready := rfl

@[simp] theorem Ctx.yielded_tenant (x : Ctx) (next : BitVec 16) : (x.yielded next).tenant = x.tenant := x.retire_tenant next

@[simp] theorem Ctx.yielded_halted (x : Ctx) (next : BitVec 16) : (x.yielded next).halted = x.halted := x.retire_halted next

theorem Ctx.quiet_yielded {x : Ctx} (next : BitVec 16) (h : x.quiet) : (x.yielded next).quiet := by
  obtain ⟨hstop, hpause, hhalt, -, hrest⟩ := Ctx.quiet_retire next h
  exact ⟨hstop, hpause, hhalt, rfl, hrest⟩

theorem Ctx.yielded_eq {x : Ctx} (next : BitVec 16) (h : x.quiet) : x.yielded next = { x.retire next with phase := .ready } := by
  obtain ⟨-, -, -, hpre, -⟩ := Ctx.quiet_retire next h
  rw [Ctx.yielded, ← hpre]

/-! ## Contexts in and after a handler -/

theorem Ctx.scratch64_of_lt (x : Ctx) (free : W64) {off : Nat} (h : off + 8 ≤ 4096) :
    x.scratch64 free off = BitVec.ofNat 64 (leNat (FMap.getRun x.scratch 0 off 8)) := if_pos h

theorem Ctx.setScratch64_of_lt (x : Ctx) {off : Nat} (v : W64) (h : off + 8 ≤ 4096) :
    x.setScratch64 off v = { x with scratch := FMap.setRun 0 x.scratch off (leBytes 8 v.toNat) } := if_pos h

theorem Ctx.setScratch64_eq (x : Ctx) (off : Nat) (v : W64) : ∃ m, x.setScratch64 off v = { x with scratch := m } := by
  unfold Ctx.setScratch64; split
  · exact ⟨_, rfl⟩
  · exact ⟨_, rfl⟩

/-- A push of words changes the scratch memory alone. -/
theorem Ctx.foldl_setScratch64 (sp : Nat) (ws : List (W64 × Nat)) (x : Ctx) :
    ∃ m, ws.foldl (fun (u : Ctx) w => u.setScratch64 (sp + 8 * w.2) w.1) x = { x with scratch := m } := by
  induction ws generalizing x with
  | nil => exact ⟨_, rfl⟩
  | cons w ws ih =>
    obtain ⟨m, hm⟩ := x.setScratch64_eq (sp + 8 * w.2) w.1
    obtain ⟨m', hm'⟩ := ih { x with scratch := m }
    exact ⟨m', by rw [List.foldl_cons, hm, hm']⟩

theorem Ctx.enterTrap_basic {x : Ctx} (cause info : Nat) (htm : x.tm = false) (hd : x.depth = 0) :
    x.enterTrap cause info x.pc x.long = .inl (x.trapped cause info) := by
  simp [Ctx.enterTrap, htm, hd, Ctx.trapped]

theorem Ctx.enterTrap_nested {x : Ctx} (cause info : Nat) (htm : x.tm = false) (hd : 1 ≤ x.depth) :
    x.enterTrap cause info x.pc x.long = .inr (BitVec.ofNat 64 (x.tcause + 16 * cause + 65536 * x.pc.toNat)) := by
  have hne : x.depth ≠ 0 := by omega
  simp [Ctx.enterTrap, htm, hd, hne]

/-- Entry to a handler in full mode, for what no push touches. -/
theorem Ctx.enterTrap_full {x : Ctx} (cause info : Nat) (htm : x.tm = true) (hd : x.depth < 8) (hsp : 64 ≤ x.tsp.toNat) :
    ∃ m, x.enterTrap cause info x.pc x.long = .inl { x with
      scratch := m, tsp := BitVec.ofNat 64 (x.tsp.toNat - 64), ie := false, depth := x.depth + 1, win := 0, tcause := cause
      tinfo := BitVec.ofNat 64 (info % 2 ^ 40), pc := BitVec.ofNat 16 (0x100 + 16 * cause)
      long := none, saved := x.long :: x.saved } := by
  obtain ⟨m, hm⟩ := Ctx.foldl_setScratch64 (x.tsp.toNat - 64)
    (List.zipIdx [x.pc.zeroExtend 64, x.status, BitVec.ofNat 64 (cause + 2 ^ 24 * (info % 2 ^ 40)), x.reg 1, x.reg 2, x.reg 3,
      x.reg 4, { x with long := x.long }.tprog]) x
  have hroom : (decide (8 ≤ x.depth) || decide (x.tsp.toNat < 64)) = false := by
    simp only [Bool.or_eq_false_iff, decide_eq_false_iff_not]; omega
  refine ⟨m, ?_⟩
  unfold Ctx.enterTrap
  rw [if_neg (by simp [htm]), if_neg (by simp [hroom])]
  exact congrArg (fun c1 : Ctx => (Sum.inl { c1 with
      tsp := BitVec.ofNat 64 (x.tsp.toNat - 64), ie := false, depth := x.depth + 1, win := 0, tcause := cause
      tinfo := BitVec.ofNat 64 (info % 2 ^ 40), pc := BitVec.ofNat 16 (0x100 + 16 * cause)
      long := none, saved := x.long :: x.saved } : Ctx ⊕ W64)) hm

/-- TRET in basic mode to an instruction that was not under way. -/
theorem Ctx.leaveTrap_basic {x : Ctx} (free : W64) (htm : x.tm = false) (hpend : x.saved.head?.join = none)
    (hlong : x.long = none) :
    x.leaveTrap free =
      ({ x.setStatus x.tstat with pc := x.tra.truncate 16, saved := x.saved.drop 1 }, none) := by
  simp [Ctx.leaveTrap, htm, hpend, Ctx.setStatus, hlong]

end Sys2Proof

namespace Sys2Proof.Machine

/-! ## The end of a program (R482) -/

section
variable {s : State} {key : Nat}

theorem State.ctx_endRun (s : State) (q : Nat) (i : W32) (st : Status) (p r : W64) (k : Nat) :
    (s.endRun q i st p r).ctx k = s.ctx k := rfl

theorem State.runOf_setCtx (s : State) (key : Nat) (x : Ctx) (q : Nat) (i : W32) : (s.setCtx key x).runOf q i = s.runOf q i := rfl

theorem State.ctx_freeCtxWaits (s : State) (key k : Nat) : (s.freeCtxWaits key).ctx k = s.ctx k := rfl

theorem State.endStart_of_start {q : Nat} {i : W32} (st : Status) (r : W64) (h : (s.ctx key).start = some (q, i)) :
    s.endStart key st r = ((s.freeCtxWaits key).setCtx key (s.ctx key).ended).endRun q i st
      (BitVec.ofNat 64 (s.ctx key).counted) r := by
  simp only [State.endStart, h]

/-- A program ends, and its engine has no other: the context is idle, its START ends, memory stays. -/
theorem State.endStart_alone {u : State} {q : Nat} {i : W32} (st : Status) (res : W64) {r : RunCmd}
    (hstart : (u.ctx key).start = some (q, i)) (hrun : u.runOf q i = some r) (halone : s.alone (keyEngine key) = true)
    (hrest : ∀ k, k ≠ key → u.ctx k = s.ctx k) :
    (u.endStart key st res).reelect key = u.endStart key st res ∧ ((u.endStart key st res).ctx key).phase = .idle ∧
    ((u.endStart key st res).ctx key).stepReq = false ∧
    (u.endStart key st res).runOf q i = some (r.finish st (BitVec.ofNat 64 (u.ctx key).counted) res) ∧
    (u.endStart key st res).mem = u.mem := by
  rw [State.endStart_of_start st res hstart]
  have hctx : (((u.freeCtxWaits key).setCtx key (u.ctx key).ended).endRun q i st (BitVec.ofNat 64 (u.ctx key).counted) res).ctx
    key
      = (u.ctx key).ended := by rw [State.ctx_endRun, State.ctx_setCtx_self]
  refine ⟨State.reelect_of_alone halone (by rw [hctx]; rfl) fun k hk => ?_, by rw [hctx]; rfl, by rw [hctx]; rfl, ?_, rfl⟩
  · rw [State.ctx_endRun, State.ctx_setCtx_ne _ _ hk, State.ctx_freeCtxWaits, hrest k hk]
  · rw [State.runOf_endRun, State.runOf_setCtx, show (u.freeCtxWaits key).runOf q i = u.runOf q i from rfl, hrun]; rfl

/-- A trap that no handler takes ends the program. -/
theorem State.act_trap_ends {q : Nat} {i : W32} {r : RunCmd} {cause info : Nat} {pend : Option LongOp} {result : W64}
    (h : (s.ctx key).enterTrap cause info (s.ctx key).pc pend = .inr result) (hstart : (s.ctx key).start = some (q, i))
    (hrun : s.runOf q i = some r) (halone : s.alone (keyEngine key) = true) :
    ((s.act key (.trap s (s.ctx key) cause info pend)).ctx key).phase = .idle ∧
    (s.act key (.trap s (s.ctx key) cause info pend)).runOf q i =
      some (r.finish .aborted (BitVec.ofNat 64 (s.ctx key).counted) result) := by
  have htrap : s.trapCtx key (s.ctx key) cause info (s.ctx key).pc pend =
      (s.setCtx key (s.ctx key)).endStart key .aborted result := by simp only [State.trapCtx, h]
  obtain ⟨helect, hidle, hstep, hended, -⟩ := State.endStart_alone (u := s.setCtx key (s.ctx key)) .aborted result
    (by simpa using hstart) hrun halone fun k hk => State.ctx_setCtx_ne s _ hk
  rw [State.act, htrap, helect, State.resumed_of_idle hidle hstep]
  exact ⟨hidle, by simpa using hended⟩

/-- HALT ends the program that runs. -/
theorem State.act_halt {q : Nat} {i : W32} {r : RunCmd} (st : Status) (result : W64)
    (hcount : (s.ctx key).retired + 1 < 2 ^ 48) (hstart : (s.ctx key).start = some (q, i))
    (hrun : s.runOf q i = some r) (halone : s.alone (keyEngine key) = true) :
    ((s.act key (.halt s (s.ctx key) st result)).ctx key).phase = .idle ∧
    (s.act key (.halt s (s.ctx key) st result)).runOf q i =
      some (r.finish st (BitVec.ofNat 64 ((s.ctx key).counted + 1)) result) ∧
    (s.act key (.halt s (s.ctx key) st result)).mem = s.mem := by
  let y : Ctx := { s.ctx key with win := 0 }
  have hret : s.retireCtx key y ((s.ctx key).pc + 4) = s.setCtx key (y.retire ((s.ctx key).pc + 4)) :=
    State.retireCtx_of_lt s key (y := y) _ hcount
  have hy : (y.retire ((s.ctx key).pc + 4)).start = some (q, i) ∧ (y.retire ((s.ctx key).pc + 4)).counted = (s.ctx key).counted +
    1 := by
    unfold Ctx.retire Ctx.unmask
    split
    · exact ⟨hstart, rfl⟩
    · exact ⟨hstart, rfl⟩
  obtain ⟨helect, hidle, -, hended, hmem⟩ :=
    State.endStart_alone (u := s.setCtx key (y.retire ((s.ctx key).pc + 4))) st result (by simpa using hy.1) hrun halone
      fun k hk => State.ctx_setCtx_ne s _ hk
  rw [State.act, hret, helect]
  refine ⟨hidle, ?_, hmem⟩
  rw [hended, State.ctx_setCtx_self, hy.2]

/-! ## The choice of another context (R419, R506) -/

/-- The first of two parts holds what a search finds, where it holds an element as good as the last. -/
theorem find?_append_singleton_ne {l : List Nat} {a : Nat} {p : Nat → Bool} (hm : ∃ m ∈ l, p a = true → p m = true) (ha : a ∉ l) :
    (l ++ [a]).find? p ≠ some a := by
  obtain ⟨m, hml, hpm⟩ := hm
  intro hfind
  rw [List.find?_append] at hfind
  cases hl : l.find? p with
  | some b =>
    rw [hl, Option.some_or, Option.some.injEq] at hfind
    exact ha (hfind ▸ List.mem_of_find?_eq_some hl)
  | none =>
    rw [hl, Option.none_or] at hfind
    have hpa : p a = true := List.find?_some hfind
    exact absurd (hpm hpa) (by simpa using List.find?_eq_none.mp hl m hml)

/-- What an election chooses from: the ready contexts of engine `e`, in cyclic order after `last`. -/
def State.candidates (s : State) (e last : Nat) : List Nat :=
  ((List.range 8).map fun i => (last + 1 + i) % 8).filter fun n => (s.ctx (e * 8 + n)).mayRun

/-- What an election finds among them. -/
def State.elected (s : State) (e last : Nat) : Option Nat :=
  (s.candidates e last).find? fun n => (s.candidates e last).all fun m =>
    decide (s.vtime 1 (s.ctx (e * 8 + n)).tenant ≤ s.vtime 1 (s.ctx (e * 8 + m)).tenant)

theorem State.elect_of_elected (e last fuel : Nat) {n : Nat} (hrest : s.engineRuns e = false)
    (hhalt : s.dbg.engHalt.contains (engineCode 1 e) = false) (hn : s.elected e last = some n)
    (hdue : (s.ctx (e * 8 + n)).dueInterrupt = none) :
    s.elect e last (fuel + 1) = (s.beginQuantum 1 e).setCtx (e * 8 + n) { s.ctx (e * 8 + n) with phase := .running } := by
  have hdue' : ({ s.ctx (e * 8 + n) with phase := .running } : Ctx).dueInterrupt = none := hdue
  unfold State.elected State.candidates at hn
  simp only [State.elect, hrest, hhalt, Bool.or_self, Bool.false_eq_true, if_false, hn, hdue']

theorem State.elect_eq_self_or (e last fuel : Nat) (hdue : ∀ n, (s.ctx n).dueInterrupt = none) : s.elect e last (fuel + 1) = s ∨
    ∃ n, s.elected e last = some n ∧
      s.elect e last (fuel + 1) = (s.beginQuantum 1 e).setCtx (e * 8 + n) { s.ctx (e * 8 + n) with phase := .running } := by
  cases hrest : s.engineRuns e with
  | true => exact .inl (State.elect_of_engineRuns _ _ _ hrest)
  | false =>
    cases hhalt : s.dbg.engHalt.contains (engineCode 1 e) with
    | true => exact .inl (by simp only [State.elect, hrest, hhalt, Bool.or_true, if_true])
    | false =>
      cases hn : s.elected e last with
      | some n => exact .inr ⟨n, rfl, State.elect_of_elected e last fuel hrest hhalt hn (hdue _)⟩
      | none =>
        unfold State.elected State.candidates at hn
        exact .inl (by simp only [State.elect, hrest, hhalt, Bool.or_self, Bool.false_eq_true, if_false, hn])

/-- The context that gives up its engine comes last: another that is ready, of a tenant that has had no more time, is before it. -/
theorem State.elected_ne {e last n : Nat} (hlast : last < 8) (hn : n < 8) (hne : n ≠ last)
    (hready : (s.ctx (e * 8 + last)).mayRun = true) (hother : (s.ctx (e * 8 + n)).mayRun = true)
    (htime : s.vtime 1 (s.ctx (e * 8 + n)).tenant ≤ s.vtime 1 (s.ctx (e * 8 + last)).tenant) :
    s.elected e last ≠ some last := by
  have hsplit : s.candidates e last = (((List.range 7).map fun i => (last + 1 + i) % 8).filter fun n =>
    (s.ctx (e * 8 + n)).mayRun)
      ++ [last] := by
    have hlast' : (last + 1 + 7) % 8 = last := by omega
    rw [State.candidates, List.range_succ, List.map_append, List.filter_append, List.map_singleton, hlast']
    simp [hready]
  rw [State.elected]
  conv_lhs => arg 2; rw [hsplit]
  refine find?_append_singleton_ne ⟨n, ?_, fun hall => ?_⟩ ?_
  · refine List.mem_filter.mpr ⟨List.mem_map.mpr ⟨(n + 7 - last) % 8, ?_, ?_⟩, hother⟩
    · rw [List.mem_range]; omega
    · omega
  · simp only [List.all_eq_true, decide_eq_true_eq] at hall ⊢
    exact fun m hm => htime.trans (hall m hm)
  · simp only [List.mem_filter, List.mem_map, List.mem_range, not_and, forall_exists_index]
    rintro i ⟨hi, heq⟩
    omega

end

section
variable {s : State} {c : CtxId} {k : SKind} {f : State → Ctx → W32 → Act}

/-- An instruction that retires to the next address. -/
theorem State.instr_retireNext (h : s.stands c k = true) (hs : (k.usesPool && s.stalls (s.ctx c.key).tenant) = false)
    {u : State} {y : Ctx} (hf : f s (s.ctx c.key) (s.wordAt c) = retireNext u y) (hy : y.calm = true) :
    s.instr c.key k f = u.retires c y :=
  State.instr_retires h hs hf hy

/-- A synchronous fault outside every trap, in basic mode. -/
theorem State.instr_traps (h : s.stands c k = true) (hs : (k.usesPool && s.stalls (s.ctx c.key).tenant) = false)
    {cause info : Nat}
    (hf : f s (s.ctx c.key) (s.wordAt c) = fault s (s.ctx c.key) cause info) (htm : (s.ctx c.key).tm = false)
    (hd : (s.ctx c.key).depth = 0) : s.instr c.key k f = s.setCtx c.key ((s.ctx c.key).trapped cause info) := by
  rw [State.instr_of_stands h hs, hf]
  exact State.act_trap s s c.key (Ctx.enterTrap_basic cause info htm hd) (State.running_of_stands h)
    (show (s.ctx c.key).quiet from Ctx.quiet_of_calm (State.calm_of_stands h))

theorem scratchAct_of_ok {g : State → Ctx → Nat → Act} {x : Ctx} {w : W32} {off : Nat}
    (hoff : off = (x.reg (fB w) + fSimm w).toNat) (hal : off % 8 = 0) (hlt : off < 4096) : scratchAct g s x w = g s x off := by
  simp [scratchAct, ← hoff, hal, Nat.not_le.mpr hlt]

theorem scratchAct_of_bad {g : State → Ctx → Nat → Act} {x : Ctx} {w : W32} {off : Nat}
    (hoff : off = (x.reg (fB w) + fSimm w).toNat) (hbad : off % 8 ≠ 0 ∨ 4096 ≤ off) :
    scratchAct g s x w = fault s x causeScratch off := by
  simp only [scratchAct, ← hoff, ne_eq, hbad, if_true]

theorem State.act_offer_alone (s : State) (key : Nat) {x : Ctx} (next : BitVec 16) (h : x.calm = true)
    (howed : x.win ≠ 0 ∨ s.sieveOwed key = false) : s.act key (.offer s x next) = s.setCtx key (x.retire next) := by
  obtain ⟨hq, -, hr⟩ := x.calm_iff.mp h
  have hno : (x.win == 0 && s.sieveOwed key) = false := by rcases howed with hw | ho <;> simp [*]
  simp only [State.act, hno, Bool.false_eq_true, if_false, State.retireCtx_of_lt s key next hr]
  exact State.resumed_setCtx s key (Ctx.quiet_retire next hq)

/-- A context that gives up its quantum to another that is ready, of a tenant that has had no more time. -/
theorem State.act_offer_ready (key : Nat) {n : Nat} (next : BitVec 16) (h : (s.ctx key).calm = true) (hwin : (s.ctx key).win = 0)
    (hhalted : (s.ctx key).halted = false) (hn : n < 8) (hne : n ≠ key % 8)
      (hother : (s.ctx (keyEngine key * 8 + n)).mayRun = true)
    (htime : s.vtime 1 (s.ctx (keyEngine key * 8 + n)).tenant ≤ s.vtime 1 (s.ctx key).tenant)
    (hdue : ∀ n, (s.ctx n).dueInterrupt = none) :
    (s.act key (.offer s (s.ctx key) next)).ctx key = { (s.ctx key).retire next with phase := .ready } ∧
    (s.act key (.offer s (s.ctx key) next)).mem = s.mem := by
  obtain ⟨hq, -, hr⟩ := (s.ctx key).calm_iff.mp h
  have hyq : ((s.ctx key).yielded next).quiet := Ctx.quiet_yielded next hq
  have howed : ((s.ctx key).win == 0 && s.sieveOwed key) = true := by
    have hany : ((List.range 8).any fun n => decide (n ≠ key % 8) && (s.ctx (keyEngine key * 8 + n)).mayRun) = true :=
      List.any_eq_true.mpr ⟨n, List.mem_range.mpr hn, by simp [hne, hother]⟩
    rw [hwin, State.sieveOwed, hany]; rfl
  have hsame : ∀ k, k ≠ key → ((s.setCtx key ((s.ctx key).retire next)).setCtx key ((s.ctx key).yielded next)).ctx k = s.ctx k :=
    fun k hk => by
    rw [State.ctx_setCtx_ne _ _ hk, State.ctx_setCtx_ne _ _ hk]
  have hact : s.act key (.offer s (s.ctx key) next) =
      ((s.setCtx key ((s.ctx key).retire next)).setCtx key ((s.ctx key).yielded next)).reelect key := by
    simp only [State.act, howed, if_true, State.retireCtx_of_lt s key next hr, State.ctx_setCtx_self]
    exact congrArg (State.reelect · key) (State.resumed_setCtx _ key hyq)
  generalize ht : (s.setCtx key ((s.ctx key).retire next)).setCtx key ((s.ctx key).yielded next) = t at hact hsame
  have hkey : t.ctx key = (s.ctx key).yielded next := by rw [← ht, State.ctx_setCtx_self]
  have hmem : t.mem = s.mem := by rw [← ht]; rfl
  have htime' : ∀ a, t.vtime 1 a = s.vtime 1 a := fun a => by rw [← ht]; rfl
  have hok : keyEngine key * 8 + n ≠ key := by unfold keyEngine; omega
  rw [hact, State.reelect]
  have hdue' : ∀ k, (t.ctx k).dueInterrupt = none := fun k => by
    by_cases hk : k = key
    · rw [hk, hkey]; exact Ctx.dueInterrupt_of_quiet hyq
    · rw [hsame k hk]; exact hdue k
  rcases State.elect_eq_self_or (s := t) (keyEngine key) (key % 8) 8 hdue' with helect | ⟨m, hm, helect⟩
  · rw [helect, hkey, hmem]; exact ⟨Ctx.yielded_eq next hq, rfl⟩
  · have hmk : key ≠ keyEngine key * 8 + m := by
      have hnot : t.elected (keyEngine key) (key % 8) ≠ some (key % 8) :=
        State.elected_ne (Nat.mod_lt _ (by decide)) hn hne (by rw [keyEngine_mul_add_mod, hkey]; simp [Ctx.mayRun, hhalted])
          (by rw [hsame _ hok]; exact hother)
          (by rw [hsame _ hok, keyEngine_mul_add_mod, hkey, htime', htime', Ctx.yielded_tenant]; exact htime)
      intro heq
      refine hnot (hm.trans (congrArg some ?_))
      unfold keyEngine at heq; omega
    rw [helect, State.ctx_setCtx_ne _ _ hmk]
    exact ⟨hkey.trans (Ctx.yielded_eq next hq), hmem⟩

end

/-- Settles O29: each instruction's own action, retired (or the program's end) with nothing pending its resume point. -/
theorem scratchSystemRegistersAndControlAct : Obligations.ScratchSystemRegistersAndControlAct := by
  refine ⟨?_, ?_, ?_, ?_, ?_, ?_, ?_, ?_, ?_, ?_⟩
  case refine_1 =>
    intro s c off h hoff hal hlt
    refine completes_next rfl (State.instr_retireNext h rfl ?_ ?_)
    · rw [scratchAct_of_ok hoff hal hlt, Ctx.scratch64_of_lt _ _ (by omega)]
    · simpa using State.calm_of_stands h
  case refine_2 =>
    intro s c off h hoff hal hlt
    refine completes_next rfl (State.instr_retireNext h rfl ?_ (State.calm_of_stands h))
    rw [scratchAct_of_ok hoff hal hlt, Ctx.setScratch64_of_lt _ _ (by omega)]
  case refine_3 =>
    intro s c v h hv hra
    refine completes_next rfl (State.instr_retireNext h rfl ?_ ?_)
    · simp only [hv, hra, ne_eq, not_true_eq_false, if_false]
    · simpa using State.calm_of_stands h
  case refine_4 =>
    intro s c h hsome hrd hcalm
    refine completes_next rfl (State.instr_retireNext h rfl ?_ hcalm)
    rw [if_neg (by simpa [Option.isSome_iff_ne_none] using hsome), if_neg (not_not.mpr hrd)]
  case refine_5 =>
    intro s c h hres howed
    refine completes_next rfl ?_
    rw [State.instr_of_stands h rfl, if_neg (not_not.mpr hres)]
    exact State.act_offer_alone s c.key _ (State.calm_of_stands h) howed
  case refine_6 =>
    intro s c n h hres hwin hn hne hother htime hdue
    refine completes_next rfl ?_
    rw [State.instr_of_stands h rfl, if_neg (not_not.mpr hres)]
    rw [← keyEngine_key c] at hother htime
    obtain ⟨hx, -⟩ := (s.stands_iff c .yieldOp).mp h
    obtain ⟨-, -, hhalted, -⟩ := (s.executes_iff c.key).mp hx
    exact State.act_offer_ready c.key _ (State.calm_of_stands h) hwin hhalted hn hne hother htime hdue
  case refine_7 =>
    intro s c h hres hlo hhi hwin
    refine completes_next rfl (State.instr_retireNext h rfl ?_ (State.calm_of_stands h))
    have hne : wf (s.wordAt c) 8 0 ≠ 0 := by omega
    simp [hres, Nat.not_lt.mpr hhi, hwin, hne]
  case refine_8 =>
    intro s c h hres hwin
    refine completes_next rfl (State.instr_retireNext h rfl ?_ (State.calm_of_stands h))
    have hhigh : wf (s.wordAt c) 25 9 = 0 := by simp only [wf, bits] at hres ⊢; omega
    have hlow : wf (s.wordAt c) 8 0 = 0 := by simp only [wf, bits] at hres ⊢; omega
    simp [hhigh, hlow, hwin]
  case refine_9 =>
    intro s c y h hres hdepth htm hpend hy hcalm
    refine completes_next rfl (State.instr_retires h rfl ?_ hcalm)
    have hlong : y.long = none := ((Ctx.calm_iff y).mp hcalm).2.1
    rw [if_neg (not_not.mpr hres), if_neg hdepth, Ctx.leaveTrap_basic _ htm hpend (State.long_of_stands h), ← hy]
    exact if_neg (by simp [hlong, optAny_none])
  case refine_10 =>
    intro s c q i r h hres hstart hrun halone
    refine completes_next rfl ?_
    rw [State.instr_of_stands h rfl, if_neg (not_not.mpr hres)]
    exact State.act_halt _ _ ((Ctx.calm_iff _).mp (State.calm_of_stands h)).2.2 hstart hrun (by rwa [keyEngine_key])

/-- Settles O30: each fault reaches its handler, where the mode has room for it, or ends the program. -/
theorem trapsEnterTheHandlerOrEndTheProgram : Obligations.TrapsEnterTheHandlerOrEndTheProgram := by
  refine ⟨?_, ?_, ?_, ?_, ?_⟩
  case refine_1 =>
    exact fun s c h hres htm hd => completes_next rfl (State.instr_traps h rfl (if_neg (not_not.mpr hres)) htm hd)
  case refine_2 =>
    intro s c hx hk hcalm htm hd
    have hlong : (s.ctx c.key).long = none := ((Ctx.calm_iff _).mp hcalm).2.1
    refine completes_next rfl ?_
    rw [if_pos (by rw [hx, show kindOf ((s.ctx c.key).fetch (s.ctx c.key).pc) = none from hk]; rfl), hlong, if_neg
      (by simp [optAny_none])]
    exact State.act_trap s s c.key (Ctx.enterTrap_basic causeIllegal (s.wordAt c).toNat htm hd) ((s.executes_iff _).mp hx).2.1
      (show (s.ctx c.key).quiet from Ctx.quiet_of_calm hcalm)
  case refine_3 =>
    exact fun s c off hoff hbad htm hd =>
      ⟨fun h => completes_next rfl (State.instr_traps h rfl (scratchAct_of_bad hoff hbad) htm hd),
        fun h => completes_next rfl (State.instr_traps h rfl (scratchAct_of_bad hoff hbad) htm hd)⟩
  case refine_4 =>
    intro s c h hres htm hd hsp
    obtain ⟨m, hm⟩ := Ctx.enterTrap_full causeBreak (wf (s.wordAt c) 15 0) htm hd hsp
    refine completes_next rfl ?_
    rw [State.instr_of_stands h rfl, if_neg (not_not.mpr hres), fault,
      State.act_trap s s c.key hm (State.running_of_stands h)
        (show (s.ctx c.key).quiet from Ctx.quiet_of_calm (State.calm_of_stands h))]
    simp only [State.ctx_setCtx_self, State.setCtx_mem, true_and, and_true]
    rfl
  case refine_5 =>
    intro s c q i r h hres htm hd hstart hrun halone
    refine completes_next rfl ?_
    rw [State.instr_of_stands h rfl, if_neg (not_not.mpr hres)]
    exact State.act_trap_ends (Ctx.enterTrap_nested causeBreak _ htm hd) hstart hrun (by rwa [keyEngine_key])

end Sys2Proof.Machine

/-! Pool accesses and tiles (R453 to R471, R491), and the sieve commands of a queue (R478 to R482). -/

namespace Sys2Proof

/-! ## Contexts whose tiles change -/

theorem Ctx.long_of_calm {x : Ctx} (h : x.calm = true) : x.long = none := ((Ctx.calm_iff x).mp h).2.1

theorem Ctx.eq_of_long_none {x : Ctx} (h : x.long = none) : { x with long := none } = x := by rw [← h]

theorem Ctx.op_of_long_none {x : Ctx} (h : x.long = none) : x.op = { pc := x.pc } := by simp [Ctx.op, h]

theorem Ctx.spoiled_of_long_none {x : Ctx} (h : x.long = none) : x.spoiled = false := by simp [Ctx.spoiled, h]

@[simp] theorem Ctx.setTile_calm (x : Ctx) (n : Nat) (t : Option Tile) : (x.setTile n t).calm = x.calm := rfl

@[simp] theorem Ctx.setAcc_calm (x : Ctx) (n : Nat) (a : Option Accum) : (x.setAcc n a).calm = x.calm := rfl

@[simp] theorem Ctx.meetPoison_calm (x : Ctx) (lines : List Nat) : (x.meetPoison lines).calm = x.calm := by
  cases lines <;> rfl

/-- Updates that leave a context's calm alone leave it alone together. -/
theorem Ctx.foldl_calm {f : Ctx → Nat → Ctx} (hf : ∀ y i, (f y i).calm = y.calm) (l : List Nat) (x : Ctx) :
    (l.foldl f x).calm = x.calm := by
  induction l generalizing x with
  | nil => rfl
  | cons i l ih => rw [List.foldl_cons, ih, hf]

theorem Ctx.span_one {x : Ctx} {ta : Nat} {t : Tile} (h : x.tile ta = some t) : x.span ta 1 = some [t] := by
  simp [Ctx.span, h]

end Sys2Proof

namespace Sys2Proof.Machine

/-! ## Instructions that issue memory operations -/

section
variable {s : State} {c : CtxId} {k : SKind} {f : State → Ctx → W32 → Act}

theorem State.stands_of_mem (h : s.standsMem c k = true) :
    s.stands c k = true ∧ (k.usesPool && s.stalls (s.ctx c.key).tenant) = false := by
  simp only [State.standsMem, Bool.and_eq_true, Bool.not_eq_true'] at h
  exact ⟨h.1, by rw [h.2, Bool.and_false]⟩

/-- A row that settles what an instruction makes of the state. -/
theorem completes_settled {i : Instr} {u : State} (hi : exec i s = .next ((s.instr c.key k f).settle))
    (hu : s.instr c.key k f = u) :
    Completes i s fun t => t = u.settle :=
  completes_next hi (by rw [hu])

theorem poolAct_of_ok {g : State → Ctx → Nat → Nat → Act} {x : Ctx} {w : W32} {d o off : Nat}
    (hpool : poolOf (x.reg (fB w)) = some (d, o)) (hoff : off = (o + (fSimm w).toNat) % 2 ^ 40) (hal : off % 8 = 0)
    (hok : s.memFault x.tenant d off 8 = none) : poolAct g s x w = g s x d off := by
  rw [poolAct, hpool]
  dsimp only
  rw [← hoff, if_neg (not_not.mpr hal), hok]

/-! ## Long instructions of one unit -/

theorem progress_of_done {x : Ctx} {l : LongOp} {n : Nat} (hx : x.long = none) (h : n ≤ l.done) : progress s x l n = retireNext s
    x := by
  rw [progress, if_pos h, Ctx.eq_of_long_none hx]

theorem runLong_of_retire {x : Ctx} {w : W32} {u : State} {y : Ctx} (h : f s x w = retireNext u y) (n : Nat) :
    runLong f (n + 1) s x w = retireNext u y := by
  rw [runLong, h]; rfl

/-- A long instruction whose first unit is its last. -/
theorem State.longInstr_of_retire (h : s.stands c k = true) (hs : (k.usesPool && s.stalls (s.ctx c.key).tenant) = false)
    {u : State}
    {y : Ctx} (hf : f s (s.ctx c.key) (s.wordAt c) = retireNext u y) (hy : y.calm = true) :
    s.longInstr c.key k f = u.retires c y := by
  have hbound : unitBound = (unitBound - 1) + 1 := rfl
  refine State.instr_retireNext h hs ?_ hy
  rw [hbound]
  exact runLong_of_retire hf _

/-- One tile's unit of TLD or TST. -/
theorem tileStep_one {g : State → Ctx → Nat → Tile → Nat → Nat → Option (State × Ctx)} {x y : Ctx} {w : W32} {d o : Nat}
    {t : Tile}
    {u : State} (hclean : tClean w true true true 0 = true) (hone : fTn w = 1) (hpool : poolOf (x.reg (fTr w)) = some (d, o))
    (ht : x.tile (fTa w) = some t) (hok : s.memFault x.tenant d o t.shape.size = none) (hlong : x.long = none)
    (hg : g s x (fTa w) t d o = some (u, y)) (hy : y.long = none) : tileStep g s x w = retireNext u y := by
  have hroom : ¬ 16 < fTa w + 1 := by
    have : fTa w < 16 := by simp only [fTa, wf, bits]; omega
    omega
  rw [tileStep, hone, hclean, if_neg (by simp [hroom]), hpool]
  dsimp only
  rw [Ctx.spoiled_of_long_none hlong, if_neg (by simp), Ctx.span_one ht]
  simp only [List.head?_cons, Option.map_some, Option.getD_some, Nat.one_mul, hok, Ctx.op_of_long_none hlong,
    List.getElem?_cons_zero, Nat.add_zero, Nat.zero_mul, hg]
  exact progress_of_done hy (Nat.le_refl _)

end

/-- Settles O31: each instruction's own action, retired with nothing pending its resume point. -/
theorem poolAccessesAndTilesAct : Obligations.PoolAccessesAndTilesAct := by
  refine ⟨?_, ?_, ?_, ?_, ?_, ?_, ?_, ?_⟩
  case refine_1 =>
    intro s c d o off r h hpool hoff hal hok hr hbad
    obtain ⟨hst, hs⟩ := State.stands_of_mem h
    refine completes_settled rfl (State.instr_retireNext hst hs ?_ ?_)
    · rw [poolAct_of_ok hpool hoff hal hok, ← hr]
      simp [hbad]
    · simpa using State.calm_of_stands hst
  case refine_2 =>
    intro s c d o off r h hpool hoff hal hok hr hbad
    obtain ⟨hst, hs⟩ := State.stands_of_mem h
    refine completes_settled rfl (State.instr_retireNext hst hs ?_ ?_)
    · rw [poolAct_of_ok hpool hoff hal hok, ← hr]
      simp only [hbad, if_true]
    · simpa using State.calm_of_stands hst
  case refine_3 =>
    intro s c d o off u h hpool hoff hal hok hu
    obtain ⟨hst, hs⟩ := State.stands_of_mem h
    refine completes_settled rfl (State.instr_retireNext hst hs ?_ (State.calm_of_stands hst))
    rw [poolAct_of_ok hpool hoff hal hok, hu]
  case refine_4 =>
    intro s c h hclean hroom hres hshape
    refine completes_next rfl (State.instr_retireNext h rfl ?_ ?_)
    · simp only [hclean, Nat.not_lt.mpr hroom, hres, hshape, Bool.not_true, decide_false, bne_self_eq_false, Bool.or_self,
        Bool.false_eq_true, if_false]
    · rw [Ctx.foldl_calm fun _ _ => Ctx.setTile_calm _ _ _]
      exact State.calm_of_stands h
  case refine_5 =>
    intro s c h hclean hroom
    refine completes_next rfl (State.instr_retireNext h rfl ?_ ?_)
    · simp only [hclean, Nat.not_lt.mpr hroom, Bool.not_true, decide_false, Bool.or_self, Bool.false_eq_true, if_false]
    · rw [Ctx.foldl_calm fun _ _ => Ctx.setTile_calm _ _ _]
      exact State.calm_of_stands h
  case refine_6 =>
    intro s c h hclean hroom
    refine completes_next rfl (State.instr_retireNext h rfl ?_ ?_)
    · simp only [hclean, Nat.not_lt.mpr hroom, Bool.not_true, decide_false, Bool.or_self, Bool.false_eq_true, if_false]
    · rw [Ctx.foldl_calm fun _ _ => Ctx.setAcc_calm _ _ _]
      exact State.calm_of_stands h
  case refine_7 =>
    intro s c d o x r h hclean hone hpool hx hok hr
    obtain ⟨hst, hs⟩ := State.stands_of_mem h
    have hcalm : (((s.ctx c.key).meetPoison (badLines o r.2.mask)).setTile (fTa (s.wordAt c))
        (some { x with data := r.2.data })).calm = true := by simpa using State.calm_of_stands hst
    refine completes_settled rfl (State.longInstr_of_retire hst hs ?_ hcalm)
    exact tileStep_one hclean hone hpool hx hok (State.long_of_stands hst) (by rw [hr]) (Ctx.long_of_calm hcalm)
  case refine_8 =>
    intro s c d o x u h hclean hone hpool hx hok hu
    obtain ⟨hst, hs⟩ := State.stands_of_mem h
    refine completes_settled rfl (State.longInstr_of_retire hst hs ?_ (State.calm_of_stands hst))
    exact tileStep_one hclean hone hpool hx hok (State.long_of_stands hst) (by rw [hu]) (State.long_of_stands hst)

/-! ## Sieve commands -/

section
variable {s : State}

theorem State.ctx_updRun (s : State) (q : Nat) (i : W32) (f : RunCmd → RunCmd) (k : Nat) : (s.updRun q i f).ctx k = s.ctx k := rfl

/-- Where one context alone is ready, an election finds it. -/
theorem State.elected_of_only (e last : Nat) {k : Nat} (hk : k < 8) (hready : (s.ctx (e * 8 + k)).mayRun = true)
    (honly : ∀ n, n < 8 → n ≠ k → (s.ctx (e * 8 + n)).mayRun = false) : s.elected e last = some k := by
  have hall : ∀ n ∈ s.candidates e last, n = k := by
    simp only [State.candidates, List.mem_filter, List.mem_map, and_imp, forall_exists_index]
    rintro n i - rfl hn
    by_contra hne
    simp [honly _ (Nat.mod_lt _ (by decide : 8 > 0)) hne] at hn
  have hmem : k ∈ s.candidates e last := by
    refine List.mem_filter.mpr ⟨List.mem_map.mpr ⟨(k + 7 + 8 * last - last) % 8, ?_, ?_⟩, hready⟩
    · rw [List.mem_range]; omega
    · omega
  cases hfind : s.elected e last with
  | none =>
    have hno := List.find?_eq_none.mp hfind k hmem
    exact absurd (List.all_eq_true.mpr fun m hm => by simp [hall m hm]) hno
  | some n => rw [hall n (List.mem_of_find?_eq_some hfind)]

theorem Ctx.started_dueInterrupt (x : Ctx) (q : Nat) (i : W32) (b : List Byte) : (Ctx.started x q i b).dueInterrupt = none := by
  simp [Ctx.dueInterrupt, Ctx.started]

end

/-- Settles O34: each command's own row; START's election finds no other context than its own. -/
theorem sieveCommandsLoadStartAndReset : Obligations.SieveCommandsLoadStartAndReset := by
  refine ⟨?_, ?_, ?_, ?_, ?_⟩
  case refine_1 =>
    rintro s q i c ⟨hact, -⟩
    refine completes_next (t := s.endRun q.toNat i .ok 0 0) ?_ rfl
    change execSieveNop q i s = _
    simp only [execSieveNop, hact]
  case refine_2 =>
    rintro s q i c x ⟨hact, hrest⟩ rfl
    refine completes_next ?_ rfl
    change execPload q i s = _
    simp only [execPload, hact, hrest, Bool.false_eq_true, if_false]
  case refine_3 =>
    rintro s q i c ⟨hact, hrest⟩ hphase hruns hnot
    obtain ⟨n, hn, hrun⟩ := (s.engineRuns_iff _).mp hruns
    refine completes_next (t := (s.setCtx (cmdCtx c.bytes) ((s.ctx (cmdCtx c.bytes)).started q.toNat i c.bytes)).updRun q.toNat i
      fun x => { x with phase := .running }) ?_ rfl
    change execStart q i s = _
    simp only [execStart, hact, hphase, ne_eq, not_true_eq_false, hrest, Bool.false_eq_true, if_false]
    rw [State.reelect, State.elect_of_engineRuns _ _ _ ((State.engineRuns_iff _ _).mpr ⟨n, hn, ?_⟩)]
    have hne : cmdCtx c.bytes / 8 * 8 + n ≠ cmdCtx c.bytes := fun heq => hnot (heq ▸ hrun)
    rw [State.ctx_updRun, keyEngine, State.ctx_setCtx_ne _ _ hne, hrun]
  case refine_4 =>
    rintro s q i c ⟨hact, hrest⟩ hphase hruns hhalt hhalted halone
    have hstart : exec (.start q i) s = .next (((s.setCtx (cmdCtx c.bytes)
        ((s.ctx (cmdCtx c.bytes)).started q.toNat i c.bytes)).updRun q.toNat i fun x => { x with phase := .running }).reelect
          (cmdCtx c.bytes)) := by
      change execStart q i s = _
      simp only [execStart, hact, hphase, ne_eq, not_true_eq_false, hrest, Bool.false_eq_true, if_false]
    refine completes_next hstart ?_
    generalize hy : (s.ctx (cmdCtx c.bytes)).started q.toNat i c.bytes = y
    generalize ht : (s.setCtx (cmdCtx c.bytes) y).updRun q.toNat i (fun x => { x with phase := .running }) = t
    have hkey : t.ctx (cmdCtx c.bytes) = y := by rw [← ht, State.ctx_updRun, State.ctx_setCtx_self]
    have hsame : ∀ k, k ≠ cmdCtx c.bytes → t.ctx k = s.ctx k := fun k hk => by
      rw [← ht, State.ctx_updRun, State.ctx_setCtx_ne _ _ hk]
    have hsplit := keyEngine_mul_add_mod (cmdCtx c.bytes)
    have hready : (t.ctx (keyEngine (cmdCtx c.bytes) * 8 + cmdCtx c.bytes % 8)).mayRun = true := by
      rw [hsplit, hkey, ← hy]; simp [Ctx.mayRun, Ctx.started, Ctx.ended, hhalted]
    have hothers : ∀ n, n < 8 → n ≠ cmdCtx c.bytes % 8 → t.ctx (keyEngine (cmdCtx c.bytes) * 8 + n) =
        s.ctx (keyEngine (cmdCtx c.bytes) * 8 + n) := fun n hn hne => hsame _ (by unfold keyEngine; omega)
    have hidle : t.engineRuns (keyEngine (cmdCtx c.bytes)) = false := by
      rw [Bool.eq_false_iff, ne_eq, State.engineRuns_iff]
      rintro ⟨n, hn, hrun⟩
      by_cases hne : n = cmdCtx c.bytes % 8
      · rw [hne, hsplit, hkey, ← hy] at hrun
        cases hrun
      · rw [hothers n hn hne] at hrun
        exact absurd ((s.engineRuns_iff _).mpr ⟨n, hn, hrun⟩) (by rw [Bool.not_eq_true]; exact hruns)
    have helected := State.elected_of_only (s := t) (keyEngine (cmdCtx c.bytes)) (cmdCtx c.bytes % 8)
      (Nat.mod_lt _ (by decide)) hready fun n hn hne => by
        rw [hothers n hn hne]; exact halone n hn (by unfold keyEngine at hsplit; omega)
    have hdbg : t.dbg.engHalt = [] := by rw [← ht]; exact hhalt
    rw [State.reelect, State.elect_of_elected _ _ _ hidle (by simp [hdbg]) helected
      (by rw [hsplit, hkey, ← hy]; exact Ctx.started_dueInterrupt _ _ _ _), hsplit, State.ctx_setCtx_self, hkey]
    refine ⟨rfl, ?_⟩
    rw [← ht]; rfl
  case refine_5 =>
    rintro s q i c ⟨hact, hrest⟩
    refine completes_next ?_ rfl
    change execResetctx q i s = _
    simp only [execResetctx, hact, hrest, Bool.false_eq_true, if_false]

end Sys2Proof.Machine

/-! XMOV, the counter instructions, and the rows about a context (R472 to R474, R494 to R508). -/

namespace Sys2Proof.Machine

/-! ## Counter operations (Table 11–3) -/

section
variable {s : State} {n : Nat} {granted : Nat → Bool} {op : CounterOp}

/-- An operation other than a wait registers nothing. -/
theorem State.registered_counterOp (h : ∀ th target owner, op ≠ .wait th target owner) :
    (s.counterOp n granted op).2.registered = false := by
  unfold State.counterOp
  cases s.counterRefusal n granted op with
  | some st => rfl
  | none =>
    cases op with
    | wait th target owner => exact absurd rfl (h th target owner)
    | add x => rfl
    | set x => rfl
    | read => rfl

theorem State.counterOp_read : (s.counterOp n granted .read).1 = s := by
  unfold State.counterOp
  cases s.counterRefusal n granted .read <;> rfl

theorem State.announces_register (s : State) (n t : Nat) (th : W64) (target : Option Target) (owner : WaitOwner) :
    s.Announces (s.register n t th target owner) := by
  unfold State.register
  dsimp only
  split
  · refine State.Announces.trans ?_ (State.noteOnce_keeps _ _).1
    exact .of_sansSync rfl
  · exact .of_sansSync rfl

theorem State.ctx_fst_ite {p : Prop} [Decidable p] {a b : State × CounterReply} {k : Nat} (ha : a.1.ctx k = s.ctx k)
    (hb : b.1.ctx k = s.ctx k) : (if p then a else b).1.ctx k = s.ctx k := by
  split
  · exact ha
  · exact hb

/-- A wait touches no context. -/
theorem State.ctx_counterOp_wait (th : W64) (target : Option Target) (owner : WaitOwner) (k : Nat) :
    (s.counterOp n granted (.wait th target owner)).1.ctx k = s.ctx k := by
  have hreg : ∀ t, (s.register n t th target owner).ctx k = s.ctx k := fun t =>
    (congrArg (fun u : State => u.ctx k) (s.announces_register n t th target owner).rest :)
  unfold State.counterOp
  cases s.counterRefusal n granted (.wait th target owner) with
  | some st => rfl
  | none => exact State.ctx_fst_ite rfl (State.ctx_fst_ite rfl (State.ctx_fst_ite rfl (hreg _)))

end

/-! ## Instructions that are inputs of the benches (R377) -/

section
variable {s : State} {c : CtxId} {k : SKind} {i : Instr} {f : State → Ctx → W32 → Act}

@[simp] theorem State.ctx_inputOf (s : State) (i : Instr) (key : Nat) : (s.inputOf i).ctx key = s.ctx key := by
  rw [State.ctx, State.inputOf_ctxs]; rfl

theorem State.stands_inputOf (s : State) (i : Instr) (c : CtxId) (k : SKind) : (s.inputOf i).stands c k = s.stands c k := by
  rw [State.inputOf_eq]; rfl

theorem State.benchesRun_of_ready (h : s.isReady = true) : s.benchesRun = true := by
  rw [State.isReady_iff] at h
  simp [State.benchesRun, h]

/-- A counter instruction that executes while inputs are delivered. -/
theorem State.countInstr_of_stands (h : s.stands c k = true) (hgo : s.inputsGo = true) :
    s.countInstr i c.key k f = (s.inputOf i).instr c.key k f := by
  obtain ⟨hx, hk, -⟩ := (s.stands_iff c k).mp h
  have hwait : s.inputsWait = false := by
    have hrun := State.benchesRun_of_ready ((s.executes_iff _).mp hx).1
    simpa [State.inputsGo, hrun] using hgo
  have hk' : kindOf ((s.ctx c.key).fetch (s.ctx c.key).pc) = some k := hk
  rw [State.countInstr, if_pos (by simp [hx, hk', hwait]), State.deliver_of_go _ _ hgo]

/-- A counter operation whose fields are right: it blocks where a wait registers, and retires otherwise. -/
theorem syncAct_of_ok {u : State} {x : Ctx} {w : W32} {op : W64 → CounterOp} {rb : Bool} {r : State × CounterReply}
    (hfunc : fFunc w = 0) (hrb : (!rb && fC w != 0) = false)
    (hr : r = u.counterOp (x.reg (fB w)).toNat (· == x.tenant) (op (x.reg (fC w)))) :
    syncAct op rb u x w = if r.2.registered then
        .block r.1 { x with syncstat := syncWord r.2, long := some { pc := x.pc, wait := some u.sync.nextWait } }
      else retireNext r.1 { x.setReg (fA w) r.2.after with syncstat := syncWord r.2 } := by
  rw [syncAct, if_neg (by simp [hfunc, hrb]), hr]

/-- A counter operation of a context that registers no wait. -/
theorem completes_counter {op : W64 → CounterOp} {rb : Bool} {r : State × CounterReply}
    (hi : exec i s = .next (s.countInstr i c.key k (syncAct op rb))) (hs : k.usesPool = false) (h : s.stands c k = true)
    (hfunc : fFunc (s.wordAt c) = 0) (hrb : (!rb && fC (s.wordAt c) != 0) = false) (hgo : s.inputsGo = true)
    (hr : r = (s.inputOf i).counterOp ((s.ctx c.key).reg (fB (s.wordAt c))).toNat (· == (s.ctx c.key).tenant)
      (op ((s.ctx c.key).reg (fC (s.wordAt c))))) (hreg : r.2.registered = false) :
    Completes i s fun t =>
      t = r.1.retires c { (s.ctx c.key).setReg (fA (s.wordAt c)) r.2.after with syncstat := syncWord r.2 } := by
  have hword : (s.inputOf i).wordAt c = s.wordAt c := by simp [State.wordAt]
  have hcalm : ({ (s.ctx c.key).setReg (fA (s.wordAt c)) r.2.after with syncstat := syncWord r.2 } : Ctx).calm = true :=
    (Ctx.setReg_calm _ _ _).trans (State.calm_of_stands h)
  refine completes_next hi ?_
  rw [State.countInstr_of_stands h hgo]
  refine State.instr_retireNext (by rwa [State.stands_inputOf]) (by rw [hs, Bool.false_and]) ?_ hcalm
  rw [State.ctx_inputOf, hword]
  exact (syncAct_of_ok hfunc hrb hr).trans (if_neg (by simp [hreg]))

end

/-! ## Contexts that block, and contexts that wait no longer -/

section
variable {s : State} {key : Nat}

/-- A context that blocks leaves its engine to no other where none waits. -/
theorem State.act_block_alone {u : State} {y : Ctx} (hq : y.quiet) (halone : s.alone (keyEngine key) = true)
    (hrest : ∀ k, k ≠ key → u.ctx k = s.ctx k) :
    s.act key (.block u y) = u.setCtx key { y with phase := .blocked, overrun := false } := by
  rw [State.act, State.resumed_setCtx u key (show ({ y with phase := .blocked, overrun := false } : Ctx).quiet from hq)]
  exact State.reelect_of_alone halone (by simp [Ctx.mayRun]) fun k hk => by rw [State.ctx_setCtx_ne _ _ hk, hrest k hk]

/-- A released context is ready, and another holds its engine. -/
theorem State.reelect_of_other {u : State} {y : Ctx} (hruns : s.engineRuns (keyEngine key) = true)
    (hoff : (s.ctx key).phase ≠ .running) (hsame : ∀ k, u.ctx k = s.ctx k) :
    (u.setCtx key y).reelect key = u.setCtx key y := by
  obtain ⟨n, hn, hrun⟩ := (s.engineRuns_iff _).mp hruns
  refine State.elect_of_engineRuns _ _ _ ((State.engineRuns_iff _ _).mpr ⟨n, hn, ?_⟩)
  have hne : keyEngine key * 8 + n ≠ key := fun heq => hoff (heq ▸ hrun)
  rw [State.ctx_setCtx_ne _ _ hne, hsame, hrun]

end

/-- A context whose wait has been released, before its SWAIT retires (R495). -/
def Ctx.released (x : Ctx) (n : Nat) (v sync : W64) : Ctx :=
  { Ctx.setReg x n v with syncstat := sync, phase := .ready, long := none }

theorem Ctx.released_win (x : Ctx) (n : Nat) (v sync : W64) : (Ctx.released x n v sync).win = x.win := by
  obtain ⟨m, hm⟩ := Ctx.setReg_eq x n v
  rw [Ctx.released, hm]

theorem Ctx.released_pc (x : Ctx) (n : Nat) (v sync : W64) : (Ctx.released x n v sync).pc = x.pc := Ctx.setReg_pc x n v

theorem Ctx.released_calm (x : Ctx) (n : Nat) (v sync : W64) :
    (Ctx.released x n v sync).calm = ({ x with long := none } : Ctx).calm := by
  obtain ⟨m, hm⟩ := Ctx.setReg_eq x n v
  rw [Ctx.released, hm]; rfl

/-- The row of a released SWAIT. -/
theorem exec_swaitRelease {s : State} {c : CtxId} {id : Nat} {w : Wait} {st : Status}
    (hlong : (s.ctx c.key).long.bind (·.wait) = some id) (hfind : (s.sync.waits.find? (·.id == id)) = some w)
    (hphase : w.phase = .pending st) (hblocked : (s.ctx c.key).phase = .blocked) (hhalted : (s.ctx c.key).halted = false)
    (hgates : s.gatesHold = false) {y : Ctx} (hy : y = Ctx.released (s.ctx c.key) (fA (s.wordAt c)) (s.counter w.counter).value
      (BitVec.ofNat 64 (st.code + 256 * b2n (s.counter w.counter).sat + 1024))) :
    exec (.swaitRelease c) s = .next ((((s.freeWait id).retireCtx c.key { y with win := y.win - 1 }
      ((s.ctx c.key).pc + 4)).resumed c.key).reelect c.key) := by
  change execSwaitRelease c s = _
  rw [hy, Ctx.released_win, execSwaitRelease, hlong]
  dsimp only
  rw [hfind]
  dsimp only
  rw [hphase]
  dsimp only
  rw [if_neg (by simp [hblocked, hhalted, hgates])]
  rfl

/-- Fields of XMOV's register, read one from the others. -/
theorem xmov_fields {v e m tn : Nat} (h : v = e + 256 * m + 65536 * tn) (he : e < 64) (hm : m < 8) (htn : tn < 16) :
    bits v 5 0 = e ∧ bits v 10 8 = m ∧ bits v 19 16 = tn := by
  simp only [bits]; omega

/-- XMOV to a context of another engine of the slice (R472 to R474). -/
theorem completes_xmov {s : State} {c : CtxId} {e dst tn : Nat} {x : Tile} {y : Ctx} (h : s.stands c .xmov = true)
    (hclean : tClean (s.wordAt c) true false true 0 = true)
    (hv : ((s.ctx c.key).reg (fTr (s.wordAt c))).toNat = e + 256 * (dst - e * 8) + 65536 * tn) (he : e < 64) (hlo : e * 8 ≤ dst)
    (hhi : dst < e * 8 + 8) (htn : tn < 16) (hslice : e / 4 = c.engine.val / 4) (hne : e ≠ c.engine.val) (hy : y = s.ctx dst)
    (hten : y.tenant = (s.ctx c.key).tenant) (hx : (s.ctx c.key).tile (fTa (s.wordAt c)) = some x)
    (hshape : optAny (y.tile tn) (·.shape != x.shape) = false) (hfrozen : s.ctxFrozen dst = false) (hhalted : y.halted = false)
    (huses : y.usesTile tn = false) (hcalm : ({ y with xmovPend := true } : Ctx).calm = true) :
    Completes (.xmov c) s fun t => t = (s.setCtx dst { y.setTile tn (some x) with
      xmovPend := true, xmovInfo := BitVec.ofNat 64 (tn + 256 * c.engine.val) }).retires c (s.ctx c.key) := by
  obtain ⟨hbe, hbm, hbt⟩ := xmov_fields hv he (by omega) htn
  have hdst : e * 8 + (dst - e * 8) = dst := by omega
  have hneq : dst ≠ c.key := by
    have := c.ctx.isLt
    simp only [CtxId.key]; omega
  have hinstr : exec (.xmov c) s = .next (((s.setCtx dst { y.setTile tn (some x) with
      xmovPend := true, xmovInfo := BitVec.ofNat 64 (tn + 256 * c.engine.val) }).retires c (s.ctx c.key)).boundary dst) := by
    change execXmov c s = _
    have hv' : ((s.ctx c.key).reg (fTr ((s.ctx c.key).fetch (s.ctx c.key).pc))).toNat = e + 256 * (dst - e * 8) + 65536 * tn := hv
    rw [hv] at hbe hbm hbt
    simp only [execXmov, hv', hbe, hbm, hbt, hdst]
    refine congrArg (fun u : State => (.next (u.boundary dst) : Res)) (State.instr_retireNext h rfl ?_ (State.calm_of_stands h))
    rw [if_neg (by simp [hclean]), if_neg (by simp [hslice, hne]), ← hy, if_neg (not_not.mpr hten), hx]
    dsimp only
    rw [if_neg (by simp [hshape]), if_neg (by simp [hfrozen, hhalted, huses])]
  rw [State.boundary_of_quiet] at hinstr
  · exact completes_next hinstr rfl
  · rw [State.retires, State.ctx_setCtx_ne _ _ hneq, State.ctx_setCtx_self]
    exact (show ({ y with xmovPend := true } : Ctx).quiet from Ctx.quiet_of_calm hcalm)

/-- Settles O33: each instruction's own action, and each row about a context, with nothing else pending its resume point. -/
theorem countersMovesAndContextRowsAct : Obligations.CountersMovesAndContextRowsAct := by
  refine ⟨?_, ?_, ?_, ?_, ?_, ?_, ?_, ?_, ?_, ?_⟩
  case refine_1 =>
    exact fun s c e dst tn x y h hclean hv he hlo hhi htn hslice hne hy hten hx hshape hfrozen hhalted huses hcalm =>
      completes_xmov h hclean hv he hlo hhi htn hslice hne hy hten hx hshape hfrozen hhalted huses hcalm
  case refine_2 =>
    exact fun s c r h hfunc hgo hr => completes_counter rfl rfl h hfunc rfl hgo hr
      (by rw [hr]; exact State.registered_counterOp fun _ _ _ => by simp)
  case refine_3 =>
    exact fun s c r h hfunc hgo hr => completes_counter rfl rfl h hfunc rfl hgo hr
      (by rw [hr]; exact State.registered_counterOp fun _ _ _ => by simp)
  case refine_4 =>
    intro s c r h hfunc hrb hgo hr
    have hstate : r.1 = s.inputOf (.sread c) := by rw [hr]; exact State.counterOp_read
    rw [← hstate]
    exact completes_counter rfl rfl h hfunc (by simp [hrb]) hgo hr
      (by rw [hr]; exact State.registered_counterOp fun _ _ _ => by simp)
  case refine_5 => exact fun s c r h hfunc hgo hr hreg => completes_counter rfl rfl h hfunc rfl hgo hr hreg
  case refine_6 =>
    intro s c r h hfunc hgo hr hreg halone
    have hword : (s.inputOf (.swait c)).wordAt c = s.wordAt c := by simp [State.wordAt]
    refine completes_next (t := s.countInstr (.swait c) c.key .swait _) rfl ?_
    rw [State.countInstr_of_stands h hgo, State.instr_of_stands (by rwa [State.stands_inputOf]) rfl, State.ctx_inputOf, hword,
      syncAct_of_ok hfunc rfl hr, if_pos hreg]
    refine (State.act_block_alone (s := s.inputOf (.swait c)) (key := c.key) ?_ ?_ fun k hk => ?_).trans ?_
    · exact (show (s.ctx c.key).quiet from Ctx.quiet_of_calm (State.calm_of_stands h))
    · rw [keyEngine_key]; simpa [State.alone] using halone
    · rw [hr]; exact State.ctx_counterOp_wait _ _ _ _
    · rw [State.inputOf_sync]
  case refine_7 =>
    intro s c x id w st hx hlong hfind hphase hblocked hhalted hgates hcalm hruns
    subst hx
    generalize hy : Ctx.released (s.ctx c.key) (fA (s.wordAt c)) (s.counter w.counter).value
      (BitVec.ofNat 64 (st.code + 256 * b2n (s.counter w.counter).sat + 1024)) = y
    have hpc : y.pc = (s.ctx c.key).pc := by rw [← hy, Ctx.released_pc]
    obtain ⟨hq, -, hr⟩ := (Ctx.calm_iff y).mp (by rw [← hy, Ctx.released_calm]; exact hcalm)
    refine completes_next (exec_swaitRelease hlong hfind hphase hblocked hhalted hgates hy.symm) ?_
    rw [State.retireCtx_of_lt _ _ _ hr, State.resumed_setCtx _ _ (Ctx.quiet_retire _ hq),
      State.reelect_of_other (s := s) (u := s.freeWait id) (by rwa [keyEngine_key]) (by rw [hblocked]; simp) fun _ => rfl, ← hpc]
    exact congrArg (fun z : Ctx => (s.freeWait id).retires c z) hy.symm
  case refine_8 =>
    intro s c k f u y hx hk hf hs hl hact hrun hcalm
    refine completes_next (t := (s.instr c.key k f).settle) ?_ ?_
    · change execSieveUnitDone c s = _
      have hk' : kindOf ((s.ctx c.key).fetch (s.ctx c.key).pc) = some k := hk
      simp only [execSieveUnitDone, hk', hf]
    · have hq : y.quiet := (show ({ y with long := none } : Ctx).quiet from Ctx.quiet_of_calm hcalm)
      rw [State.instr_of_runs hx hk hs hl, show f s (s.ctx c.key) ((s.ctx c.key).fetch (s.ctx c.key).pc) = .unit u y from hact,
        State.act_unit s u c.key hq]
  case refine_9 =>
    intro s c hrun htimer hte hcalm
    refine completes_next ?_ (State.boundary_of_quiet (key := c.key) (s := s.setCtx c.key _) ?_)
    · change execTtimerExpiry c s = _
      rw [execTtimerExpiry, if_pos ⟨hrun, htimer⟩]
    · rw [State.ctx_setCtx_self]
      obtain ⟨hstop, hpause, hhalt, hpre, hstep, -, hxmov⟩ := Ctx.quiet_of_calm hcalm
      exact ⟨hstop, hpause, hhalt, hpre, hstep, by simp [hte], hxmov⟩
  case refine_10 =>
    intro s c q i r hrun hover hie hstart hr halone
    obtain ⟨helect, hidle, -, hended, hmem⟩ := State.endStart_alone (s := s) (u := s) (key := c.key) .quantumOverrun 0 hstart hr
      (by rwa [keyEngine_key]) fun _ _ => rfl
    refine completes_next ?_ ⟨hidle, hended, hmem⟩
    change execOverrunKillTimer c s = _
    rw [execOverrunKillTimer, if_pos ⟨hrun, hover, by simp [hie]⟩, helect]

end Sys2Proof.Machine

/-! Scoring, the accumulators and the top-k unit (R451 to R471). -/

namespace Sys2Proof

/-! ## Writing scores into a span of accumulators -/

theorem modifyAt_const (xs : List W32) (i : Nat) (v : W32) : modifyAt (fun _ => v) xs i = xs.set i v := by
  induction xs generalizing i with
  | nil => rfl
  | cons x xs ih =>
    cases i with
    | zero => rfl
    | succ i => rw [modifyAt, ih, List.set_cons_succ]

/-- One key row's column: the entry of every query, at its position; the flag is of sums that saturated. -/
def scoreColumn (g : Row → W32) (pos : Nat → Nat) (qs : List (Row × Nat)) (b : List W32 × Bool) : List W32 × Bool :=
  qs.foldl (fun b x => (modifyAt (fun _ => g x.1) b.1 (pos x.2), b.2 || false)) b

/-- What a column leaves: every entry at a query's position is its score, and every other is as it was. -/
theorem scoreColumn_spec (g : Row → W32) {pos : Nat → Nat} (hinj : Function.Injective pos) (qs : List Row) (n : Nat)
    (b : List W32 × Bool) :
    (scoreColumn g pos (qs.zipIdx n) b).1.length = b.1.length ∧ (scoreColumn g pos (qs.zipIdx n) b).2 = b.2 ∧
    (∀ p, (∀ i, i < qs.length → pos (n + i) ≠ p) → (scoreColumn g pos (qs.zipIdx n) b).1.getD p 0 = b.1.getD p 0) ∧
    (∀ i d, i < qs.length → pos (n + i) < b.1.length →
      (scoreColumn g pos (qs.zipIdx n) b).1.getD (pos (n + i)) 0 = g (qs.getD i d)) := by
  induction qs generalizing n b with
  | nil => exact ⟨rfl, rfl, fun _ _ => rfl, fun i _ h => absurd h (Nat.not_lt_zero i)⟩
  | cons x qs ih =>
    obtain ⟨hlen, hflag, hrest, hdone⟩ := ih (n + 1) (b.1.set (pos n) (g x), b.2 || false)
    have hstep : scoreColumn g pos ((x :: qs).zipIdx n) b = scoreColumn g pos (qs.zipIdx (n + 1))
      (b.1.set (pos n) (g x), b.2 || false) := by
      rw [scoreColumn, List.zipIdx_cons, List.foldl_cons, modifyAt_const, scoreColumn]
    rw [hstep]
    refine ⟨by rw [hlen, List.length_set], by rw [hflag, Bool.or_false], fun p hp => ?_, fun i d hi hin => ?_⟩
    · rw [hrest p fun i hi => by rw [Nat.add_assoc, Nat.add_comm 1]; exact hp (i + 1) (by simpa using hi)]
      have hne : pos n ≠ p := hp 0 (by simp)
      simp [List.getD_eq_getElem?_getD, List.getElem?_set_ne hne]
    · cases i with
      | zero =>
        simp only [Nat.add_zero] at hin ⊢
        rw [hrest (pos n) fun i _ heq => by have := hinj heq; omega]
        simp [List.getD_eq_getElem?_getD, hin]
      | succ i =>
        have heq : n + (i + 1) = n + 1 + i := by omega
        rw [heq] at hin ⊢
        rw [hdone i d (by simpa using hi) (by simpa using hin), List.getD_cons_succ]

/-- The columns of the first `m` key rows, each query's entries in a row of `cols`. -/
def scoreColumns (f : Row → Nat → W32) (cols : Nat) (qs : List Row) (m : Nat) (b : List W32 × Bool) : List W32 × Bool :=
  (List.range m).foldl (fun acc j => scoreColumn (f · j) (fun i => i * cols + j) qs.zipIdx acc) b

theorem scoreColumns_spec (f : Row → Nat → W32) {cols : Nat} (qs : List Row) {m : Nat} (hm : m ≤ cols) (b : List W32 × Bool)
    (hroom : qs.length * cols ≤ b.1.length) :
    (scoreColumns f cols qs m b).1.length = b.1.length ∧ (scoreColumns f cols qs m b).2 = b.2 ∧
    ∀ i j d, i < qs.length → j < m → (scoreColumns f cols qs m b).1.getD (i * cols + j) 0 = f (qs.getD i d) j := by
  induction m with
  | zero => exact ⟨rfl, rfl, fun _ j _ _ h => absurd h (Nat.not_lt_zero j)⟩
  | succ m ih =>
    obtain ⟨hlen, hflag, hdone⟩ := ih (by omega)
    have hcols : 0 < cols := by omega
    have hinj : Function.Injective fun i => i * cols + m := fun i i' heq =>
      Nat.eq_of_mul_eq_mul_right hcols (Nat.add_right_cancel heq)
    obtain ⟨hlen', hflag', hrest, hnew⟩ := scoreColumn_spec (f · m) hinj qs 0 (scoreColumns f cols qs m b)
    have hstep : scoreColumns f cols qs (m + 1) b =
        scoreColumn (f · m) (fun i => i * cols + m) qs.zipIdx (scoreColumns f cols qs m b) := by
      simp only [scoreColumns, List.range_succ, List.foldl_append, List.foldl_cons, List.foldl_nil]
    rw [hstep]
    refine ⟨hlen'.trans hlen, hflag'.trans hflag, fun i j d hi hj => ?_⟩
    by_cases hjm : j = m
    · have hin : i * cols + m < b.1.length := by
        have : (i + 1) * cols ≤ qs.length * cols := Nat.mul_le_mul_right _ hi
        rw [Nat.succ_mul] at this
        omega
      have := hnew i d hi (by simpa [hlen] using hin)
      rw [hjm]
      simpa using this
    · rw [hrest (i * cols + j) fun i' _ heq => ?_, hdone i j d hi (by omega)]
      have hmod := congrArg (· % cols) heq
      simp only [Nat.mul_add_mod_self_right] at hmod
      rw [Nat.mod_eq_of_lt (by omega), Nat.mod_eq_of_lt (by omega)] at hmod
      omega

/-! ## Contexts whose lists and accumulators change -/

theorem Ctx.setAccSpan_eq (x : Ctx) (a n : Nat) (fp : Bool) (q k : Nat) (data : List W32) :
    ∃ m, x.setAccSpan a n fp q k data = { x with accs := m } := by
  unfold Ctx.setAccSpan
  generalize List.range n = l
  induction l generalizing x with
  | nil => exact ⟨x.accs, rfl⟩
  | cons i l ih =>
    rw [List.foldl_cons]
    obtain ⟨m, hm⟩ := ih (x.setAcc (a + i) (some { fp := fp, q := q, k := k, data := (data.drop (1024 * i)).take 1024 }))
    exact ⟨m, by rw [hm]; rfl⟩

theorem Ctx.calm_scoreRecord (h : TileShape) (qs : List Row) (x : Ctx) (t : TopK) (id : W32) (rec_ : List Byte) :
    (Machine.scoreRecord h qs x t id rec_).calm = x.calm := rfl

theorem Ctx.listFor_isSome (x : Ctx) (fp fp' : Bool) (q k : Nat) : (x.listFor fp q k).isSome = (x.listFor fp' q k).isSome := by
  unfold Ctx.listFor
  split
  · rfl
  · rfl

end Sys2Proof

namespace Sys2Proof.Machine

theorem fTa_lt (w : W32) : fTa w < 16 := by simp only [fTa, wf, bits]; omega

/-! ## One unit of each instruction -/

section
variable {s u : State} {x : Ctx} {w : W32}

/-- TSCORE, tile form, of at most 64 key rows: one unit writes every entry. -/
theorem tscoreTileStep_of_ok {v : Nat} {ts : List Tile} {t0 key : Tile} {qs : List Row} (hlong : x.long = none)
    (hv : v = (x.reg (fTr w)).toNat) (hv16 : v < 65536) (hres : bits v 7 4 = 0) (hclean : tClean w true true true 15 = true)
    (hadd : bitOf (fTf w) 2 = false) (hspan : fTa w + fTn w ≤ 16) (haccs : bits v 11 8 + (bits v 15 12 + 1) ≤ 16)
    (hts : x.span (fTa w) (fTn w) = some ts) (ht0 : ts.head? = some t0) (hkey : x.tile (bits v 3 0) = some key)
    (hfmt : t0.shape.fmt = key.shape.fmt) (hmx : t0.shape.mx = key.shape.mx) (helems : t0.shape.elems = key.shape.elems)
    (hqs : qs = queryRows ts) (hq : qs.length ≤ 512) (hroom : qs.length * key.shape.rows ≤ (bits v 15 12 + 1) * 1024)
    (hrows : key.shape.rows ≤ 64) {r : List W32 × Bool}
    (hr : r = scoreColumns (fun a j => score t0.shape.fmt t0.shape.mx a (key.row j)) key.shape.rows qs key.shape.rows
      (List.replicate ((bits v 15 12 + 1) * 1024) 0, false)) (hsat : r.2 = false) :
    tscoreTileStep s x w = retireNext s { x.setAccSpan (bits v 11 8) (bits v 15 12 + 1) (accumFp t0.shape.fmt t0.shape.mx)
      qs.length
      key.shape.rows r.1 with resident := some (fTa w, fTn w) } := by
  obtain ⟨m, hm⟩ := x.setAccSpan_eq (bits v 11 8) (bits v 15 12 + 1) (accumFp t0.shape.fmt t0.shape.mx) qs.length key.shape.rows
    r.1
  have hlen : min 64 (key.shape.rows - 0) = key.shape.rows := by omega
  unfold tscoreTileStep
  dsimp only
  rw [← hv, if_neg (by simp [hclean, hv16, hres, hspan, haccs]), Ctx.spoiled_of_long_none hlong, if_neg (by simp), hts, hkey]
  dsimp only
  simp only [ht0, Option.map_some, Option.getD_some, Ctx.op_of_long_none hlong, ← hqs, hadd]
  rw [if_neg (by simp [hfmt, hmx, helems, hq, hroom])]
  simp only [Bool.false_or, bne_self_eq_false, Bool.false_and, Bool.false_eq_true, if_false, Nat.zero_add, hlen]
  change progress s { x.setAccSpan _ _ _ _ _ (scoreColumns (fun a j => score t0.shape.fmt t0.shape.mx a (key.row j))
    key.shape.rows qs
    key.shape.rows (List.replicate ((bits v 15 12 + 1) * 1024) 0, false)).1 with
      accSat := x.accSat || (scoreColumns (fun a j => score t0.shape.fmt t0.shape.mx a (key.row j)) key.shape.rows qs
        key.shape.rows
        (List.replicate ((bits v 15 12 + 1) * 1024) 0, false)).2, resident := some (fTa w, fTn w) } _ _ = _
  rw [← hr, hsat, hm, Bool.or_false]
  exact progress_of_done hlong (Nat.le_refl _)

/-- What the streaming forms check before they read a record. -/
theorem streamCheck_of_ok {params k stride : Nat} {extra fp : Bool} {f : TileShape → List Row → LongOp → Act} {ts : List Tile}
    {t0 : Tile} {qs : List Row} {tk : TopK} (hlong : x.long = none) (hclean : tClean w true true true 15 = true)
    (hspan : fTa w + fTn w ≤ 16) (hparams : fTr w + params ≤ 31) (hextra : extra = true) (hk1 : 1 ≤ k) (hk : k ≤ 1024)
    (hts : x.span (fTa w) (fTn w) = some ts) (ht0 : ts.head? = some t0) (hqs : qs = queryRows ts)
    (hqlen : qs.length = t0.shape.rows * fTn w) (hq : qs.length ≤ 512) (hal : stride % 16 = 0)
      (hstride : t0.shape.record ≤ stride)
    (hroom : qs.length * k ≤ 65536) (hlist : x.listFor fp qs.length k = some tk) :
    streamCheck s x w params k stride extra f =
      f t0.shape qs { pc := x.pc, tiles := (List.range (fTn w)).map (fTa w + ·), shapeK := some (qs.length, k) } := by
  have hnone : (x.listFor true qs.length k).isNone = false := by
    rw [Option.isNone_eq_false_iff, Ctx.listFor_isSome x true fp, hlist]; rfl
  unfold streamCheck
  rw [if_neg (by simp [hclean, hspan, hparams, hextra, kOk, hk1, hk]), Ctx.spoiled_of_long_none hlong, if_neg (by simp), hts]
  dsimp only
  simp only [ht0, Option.map_some, Option.getD_some, Ctx.op_of_long_none hlong, ← hqs, ← hqlen]
  rw [if_neg (Nat.not_lt.mpr hq), if_neg (by simp [hal, hstride]), if_neg (by simp [hroom, hnone])]

/-- A key record that no poisoned line lies in is scored. -/
theorem State.keyAt_of_clean {h : TileShape} {qs : List Row} {k d off : Nat} {id : W32} {r : State × RangeRead} {tk : TopK}
    (hr : r = s.readRange d off h.record) (hbad : r.2.bad = none)
    (hlist : x.listFor (accumFp h.fmt h.mx) qs.length k = some tk) :
    s.keyAt h qs qs.length k x d off id = (r.1, scoreRecord h qs x tk id r.2.data) := by
  rw [State.keyAt, ← hr]
  rw [hbad, if_neg (by simp), hlist]

/-- TSCORE, contiguous form, of one key. -/
theorem tscoreContiguousStep_of_ok {p : Nat → Nat} {k : Nat} {ts : List Tile} {t0 : Tile} {qs : List Row} {tk : TopK}
    {r : State × RangeRead} (hlong : x.long = none) (hp : ∀ i, p i = (x.reg (fTr w + i)).toNat) (hk : k = bits (p 3) 42 32)
    (hclean : tClean w true true true 15 = true) (hspan : fTa w + fTn w ≤ 16) (hparams : fTr w + 3 ≤ 31) (hp0 : p 0 < 2 ^ 56)
    (hp3 : p 3 < 2 ^ 43) (hk1 : 1 ≤ k) (hk2 : k ≤ 1024) (hts : x.span (fTa w) (fTn w) = some ts) (ht0 : ts.head? = some t0)
    (hqs : qs = queryRows ts) (hqlen : qs.length = t0.shape.rows * fTn w) (hq : qs.length ≤ 512) (hal : p 1 % 16 = 0)
    (hstride : t0.shape.record ≤ p 1) (hroom : qs.length * k ≤ 65536)
    (hlist : x.listFor (accumFp t0.shape.fmt t0.shape.mx) qs.length k = some tk) (hp2 : p 2 = 1)
    (hok : s.memFault x.tenant (bits (p 0) 15 0) (bits (p 0) 55 16) t0.shape.record = none)
    (hr : r = s.readRange (bits (p 0) 15 0) (bits (p 0) 55 16) t0.shape.record) (hbad : r.2.bad = none) :
    tscoreContiguousStep s x w = retireNext r.1 { scoreRecord t0.shape qs x tk (BitVec.ofNat 32 (bits (p 3) 31 0)) r.2.data with
      resident := some (fTa w, fTn w) } := by
  rw [tscoreContiguousStep, ← (funext hp : p = fun i => (x.reg (fTr w + i)).toNat)]
  dsimp only
  rw [← hk]
  refine (streamCheck_of_ok hlong hclean hspan hparams (by rw [decide_eq_true hp0, decide_eq_true hp3]; rfl) hk1 hk2 hts ht0 hqs
    hqlen hq hal hstride hroom hlist).trans ?_
  simp only [hp2, one_ne_zero, if_false, Nat.sub_self, Nat.zero_mul, Nat.zero_add, hok, Nat.sub_zero]
  have hkey := State.keyAt_of_clean (id := BitVec.ofNat 32 (bits (p 3) 31 0)) hr hbad hlist
  have hone : (List.range (min 64 1)).foldl (fun (acc : State × Ctx) i => acc.1.keyAt t0.shape qs qs.length k acc.2
    (bits (p 0) 15 0)
      (bits (p 0) 55 16 + i * p 1) (BitVec.ofNat 32 (bits (p 3) 31 0 + i))) (s, x) =
        (r.1, scoreRecord t0.shape qs x tk (BitVec.ofNat 32 (bits (p 3) 31 0)) r.2.data) := by
    rw [← hkey]; simp
  rw [hone]
  exact progress_of_done hlong (Nat.le_refl _)

/-- The run over an index list of one entry that is not poisoned. -/
theorem indexedRun_one {h : TileShape} {qs : List Row} {k d o kd ko stride : Nat} {tk : TopK} {a r : State × RangeRead}
    (ha : a = s.readRange d o 4) (habad : a.2.bad = none)
    (hok : a.1.memFault x.tenant kd (ko + leNat a.2.data * stride) h.record = none)
    (hr : r = a.1.readRange kd (ko + leNat a.2.data * stride) h.record) (hbad : r.2.bad = none)
    (hlist : x.listFor (accumFp h.fmt h.mx) qs.length k = some tk) :
    indexedRun h qs k false d o kd ko stride 1 0 s x =
      (r.1, scoreRecord h qs x tk (BitVec.ofNat 32 (leNat a.2.data)) r.2.data, 1, none) := by
  have hkey := State.keyAt_of_clean (id := BitVec.ofNat 32 (leNat a.2.data)) hr hbad hlist
  simp only [indexedRun, Nat.zero_mul, Nat.add_zero, Bool.false_eq_true, if_false, Bool.false_and, ← ha, habad,
    Option.isSome_none, hok,
    hkey]

/-- TSCORE, indexed form, of one key. -/
theorem tscoreIndexedStep_of_ok {p : Nat → Nat} {k : Nat} {ts : List Tile} {t0 : Tile} {qs : List Row} {tk : TopK}
    {a r : State × RangeRead} (hlong : x.long = none) (hp : ∀ i, p i = (x.reg (fTr w + i)).toNat) (hk : k = bits (p 3) 42 32)
    (hclean : tClean w true true true 15 = true) (hspan : fTa w + fTn w ≤ 16) (hparams : fTr w + 4 ≤ 31) (hp0 : p 0 < 2 ^ 56)
    (hp4 : p 4 < 2 ^ 56) (hp3 : p 3 = 2 ^ 32 * k) (hk1 : 1 ≤ k) (hk2 : k ≤ 1024) (hplain : bitOf (fTf w) 3 = false)
    (hts : x.span (fTa w) (fTn w) = some ts) (ht0 : ts.head? = some t0)
    (hqs : qs = queryRows ts) (hqlen : qs.length = t0.shape.rows * fTn w) (hq : qs.length ≤ 512) (hal : p 1 % 16 = 0)
    (hstride : t0.shape.record ≤ p 1) (hroom : qs.length * k ≤ 65536)
    (hlist : x.listFor (accumFp t0.shape.fmt t0.shape.mx) qs.length k = some tk) (hp2 : p 2 = 1)
    (hok : s.memFault x.tenant (bits (p 0) 15 0) (bits (p 0) 55 16) 4 = none)
    (ha : a = s.readRange (bits (p 0) 15 0) (bits (p 0) 55 16) 4) (habad : a.2.bad = none)
    (hkok : a.1.memFault x.tenant (bits (p 4) 15 0) (bits (p 4) 55 16 + leNat a.2.data * p 1) t0.shape.record = none)
    (hr : r = a.1.readRange (bits (p 4) 15 0) (bits (p 4) 55 16 + leNat a.2.data * p 1) t0.shape.record) (hbad : r.2.bad = none) :
    tscoreIndexedStep s x w = retireNext r.1 { scoreRecord t0.shape qs x tk (BitVec.ofNat 32 (leNat a.2.data)) r.2.data with
      resident := some (fTa w, fTn w) } := by
  rw [tscoreIndexedStep, ← (funext hp : p = fun i => (x.reg (fTr w + i)).toNat)]
  dsimp only
  rw [← hk]
  refine (streamCheck_of_ok hlong hclean hspan hparams
    (by rw [decide_eq_true hp0, decide_eq_true hp4, hp3, beq_self_eq_true]; rfl) hk1 hk2 hts ht0 hqs hqlen hq hal hstride hroom
    hlist).trans ?_
  have hrun := indexedRun_one (k := k) ha habad hkok hr hbad hlist
  have hone : min 64 (1 - 0) = 1 := rfl
  simp only [hp2, one_ne_zero, if_false, hplain, Bool.false_eq_true, Nat.one_mul, hok, hone, hrun]
  exact progress_of_done hlong (Nat.le_refl _)

/-- A store of at most 4 KiB is one unit. -/
theorem storeStep_of_ok {l : LongOp} {d o : Nat} {data : List Byte} {final : Ctx → Ctx} (hdone : l.done = 0)
    (hlen : data.length ≤ 4096) (hok : s.memFault x.tenant d o data.length = none) (hu : s.claimRange d o data.length = some u)
    (hfinal : (final x).long = none) :
    storeStep s x l d o data final = retireNext (u.writeRange d o data).1 (final x) := by
  have hmin : min 4096 (data.length - 0) = data.length := by omega
  have hsub : sub data 0 data.length = data := sub_whole rfl
  simp only [storeStep, hok, hdone, hmin, Nat.add_zero, hu, Nat.zero_add, Nat.le_refl, if_true, hsub, Ctx.eq_of_long_none hfinal]

/-- AST of at most 4 KiB. -/
theorem astStep_of_ok {d o : Nat} {h : Accum} {data : List W32} {out : List Byte} (hlong : x.long = none)
    (hclean : tClean w true true true 0 = true) (hspan : fTa w + fTn w ≤ 16) (hpool : poolOf (x.reg (fTr w)) = some (d, o))
    (hacc : x.accSpan (fTa w) (fTn w) = some (h, data)) (hout : out = (data.take (h.q * h.k)).flatMap
      (fun x => leBytes 4 x.toNat))
    (hlen : out.length ≤ 4096) (hok : s.memFault x.tenant d o out.length = none) (hu : s.claimRange d o out.length = some u) :
    astStep s x w = retireNext (u.writeRange d o out).1 x := by
  unfold astStep
  rw [if_neg (by simp [hclean, hspan]), hpool]
  dsimp only
  rw [Ctx.spoiled_of_long_none hlong, if_neg (by simp), hacc]
  dsimp only
  rw [← hout]
  exact storeStep_of_ok (by rw [Ctx.op_of_long_none hlong]) hlen hok hu hlong

/-- TOPK select of at most 64 columns. -/
theorem topkSelectStep_of_ok {v : Nat} {h : Accum} {data : List W32} {tk : TopK} {r : TopK × Nat} (hlong : x.long = none)
    (hclean : tClean w true true true 7 = true) (hv : v = (x.reg (fTr w)).toNat) (hv43 : v < 2 ^ 43) (hk1 : 1 ≤ bits v 42 32)
    (hk2 : bits v 42 32 ≤ 1024) (hspan : fTa w + fTn w ≤ 16) (hacc : x.accSpan (fTa w) (fTn w) = some (h, data))
    (hroom : h.q * bits v 42 32 ≤ 65536) (hlist : x.listFor h.fp h.q (bits v 42 32) = some tk) (hcols : h.k ≤ 64)
    (hr : r = (List.range h.k).foldl (fun (a : TopK × Nat) j =>
      ((a.1.offer (BitVec.ofNat 32 (bits v 31 0 + j)) ((List.range h.q).map fun i => data.getD (i * h.k + j) 0)).1,
        a.2 + (a.1.offer (BitVec.ofNat 32 (bits v 31 0 + j)) ((List.range h.q).map fun i => data.getD (i * h.k + j) 0)).2))
          (tk, 0)) :
    topkSelectStep s x w = retireNext s { x.meetNan r.2 with topk := some r.1 } := by
  have hmin : min 64 (h.k - 0) = h.k := by omega
  unfold topkSelectStep
  dsimp only
  rw [← hv, if_neg (by simp only [decide_eq_false (Nat.not_le.mpr hv43)]; simp [hclean, hspan, kOk, hk1, hk2]),
    Ctx.spoiled_of_long_none hlong, if_neg (by simp), hacc]
  dsimp only
  rw [if_neg (Nat.not_lt.mpr hroom), hlist]
  dsimp only
  simp only [Ctx.op_of_long_none hlong, hmin, Nat.zero_add]
  rw [← hr]
  exact progress_of_done hlong (Nat.le_refl _)

/-- What a merge of one entry leaves of the context but for its counts. -/
theorem State.calm_mergeEntry (s : State) (x : Ctx) (t : TopK) (d off q : Nat) : (s.mergeEntry x t d off q).2.1.calm = x.calm :=
    by
  unfold State.mergeEntry
  dsimp only
  split
  · exact Ctx.meetPoison_calm _ _
  · split
    · rfl
    · split <;> rfl

/-- TOPK merge of one entry. -/
theorem topkMergeStep_of_ok {p : Nat → Nat} {k : Nat} {tk : TopK} {r : State × Ctx × TopK} (hcalm : x.calm = true)
    (hclean : tClean w false false true 7 = true) (hp : ∀ i, p i = (x.reg (fTr w + i)).toNat) (hparams : fTr w + 2 ≤ 31)
    (hp0 : p 0 < 2 ^ 56) (hp2 : p 2 = 1) (hk1 : 1 ≤ k) (hk2 : k ≤ 1024) (hp1 : p 1 = 1 + 65536 + 2 ^ 32 * k)
    (hlist : x.listFor ((Config.freeWord s.fresh).getLsbD 0) 1 k = some tk)
    (hok : s.memFault x.tenant (bits (p 0) 15 0) (bits (p 0) 55 16) 8 = none)
    (hr : r = s.draw.mergeEntry x tk (bits (p 0) 15 0) (bits (p 0) 55 16) 0) :
    topkMergeStep s x w = retireNext r.1 { r.2.1 with topk := some r.2.2 } := by
  have hlong := Ctx.long_of_calm hcalm
  have hkin : bits (p 1) 10 0 = 1 := by rw [hp1]; simp only [bits]; omega
  have hq : bits (p 1) 25 16 = 1 := by rw [hp1]; simp only [bits]; omega
  have hk : bits (p 1) 42 32 = k := by rw [hp1]; simp only [bits]; omega
  have hlong' : r.2.1.long = none := Ctx.long_of_calm (by rw [hr, State.calm_mergeEntry]; exact hcalm)
  have hone : min 64 (1 - 0) = 1 := rfl
  rw [topkMergeStep, ← (funext hp : p = fun i => (x.reg (fTr w + i)).toNat)]
  dsimp only
  rw [hkin, hq, hk, if_neg (by simp only [decide_eq_false (Nat.not_le.mpr hp0)]; simp [hclean, hparams, hp1, kOk, hk1, hk2]),
    Ctx.spoiled_of_long_none hlong,
    if_neg (by simp; omega), hlist]
  dsimp only
  simp only [hp2, Nat.one_mul, one_ne_zero, if_false, Ctx.op_of_long_none hlong, hone, List.range_one, List.foldl_cons,
    List.foldl_nil,
    Nat.mul_zero, Nat.add_zero, Nat.zero_div, Nat.zero_mod, ← hr]
  rw [hok]
  exact progress_of_done hlong' (Nat.le_refl _)

/-- TOPK drain of at most 4 KiB. -/
theorem topkDrainStep_of_ok {d o : Nat} {tk : TopK} (hlong : x.long = none) (hclean : tClean w false false true 7 = true)
    (hpool : poolOf (x.reg (fTr w)) = some (d, o)) (htk : x.topk = some tk) (hlen : tk.drain.length ≤ 4096)
    (hok : s.memFault x.tenant d o tk.drain.length = none) (hu : s.claimRange d o tk.drain.length = some u) :
    topkDrainStep s x w = retireNext (u.writeRange d o tk.drain).1
      { x with topk := if bitOf (fTf w) 2 then none else some tk } := by
  unfold topkDrainStep
  rw [if_neg (by simp [hclean]), hpool]
  dsimp only
  rw [Ctx.spoiled_of_long_none hlong, if_neg (by simp), htk]
  dsimp only
  rw [storeStep_of_ok (by rw [Ctx.op_of_long_none hlong]) hlen hok hu (by split <;> exact hlong)]
  refine congrArg (retireNext _) ?_
  split
  · rfl
  · rw [← htk]

end

/-- Settles O32: each instruction of one unit, retired with nothing pending its resume point. -/
theorem scoringFillsAccumulatorsAndLists : Obligations.ScoringFillsAccumulatorsAndLists := by
  refine ⟨?_, ?_, ?_, ?_, ?_, ?_, ?_, ?_⟩
  case refine_1 =>
    intro s c v ts t0 key qs h hv hv16 hres hclean hadd hspan haccs hts ht0 hkey hfmt hmx helems hqs hq hroom hrows
    obtain ⟨hlen, hsat, hscores⟩ := scoreColumns_spec (fun a j => score t0.shape.fmt t0.shape.mx a (key.row j)) qs
      (Nat.le_refl key.shape.rows) (List.replicate ((bits v 15 12 + 1) * 1024) 0, false) (by simpa using hroom)
    have hstep := tscoreTileStep_of_ok (s := s) (State.long_of_stands h) hv hv16 hres hclean hadd hspan haccs hts ht0 hkey hfmt
      hmx
      helems hqs hq hroom hrows rfl hsat
    refine completes_next rfl ⟨_, hlen.trans (List.length_replicate ..), fun i j hi hj => hscores i j _ hi hj, ?_⟩
    rw [State.longInstr_of_retire h rfl hstep]
    obtain ⟨m, hm⟩ := (s.ctx c.key).setAccSpan_eq (bits v 11 8) (bits v 15 12 + 1) (accumFp t0.shape.fmt t0.shape.mx) qs.length
      key.shape.rows (scoreColumns (fun a j => score t0.shape.fmt t0.shape.mx a (key.row j)) key.shape.rows qs key.shape.rows
        (List.replicate ((bits v 15 12 + 1) * 1024) 0, false)).1
    rw [hm]
    exact State.calm_of_stands h
  case refine_2 =>
    intro s c p k ts t0 qs tk r h hp hk hclean hspan hparams hp0 hp3 hk1 hk2 hts ht0 hqs hqlen hq hal hstride hroom hlist hp2 hok
      hr hbad
    obtain ⟨hst, hs⟩ := State.stands_of_mem h
    exact completes_settled rfl (State.longInstr_of_retire hst hs (tscoreContiguousStep_of_ok (State.long_of_stands hst) hp hk
      hclean
      hspan hparams hp0 hp3 hk1 hk2 hts ht0 hqs hqlen hq hal hstride hroom hlist hp2 hok hr hbad) (State.calm_of_stands hst))
  case refine_3 =>
    intro s c p k ts t0 qs tk a r h hp hk hclean hspan hparams hp0 hp4 hp3 hk1 hk2 hplain hts ht0 hqs hqlen hq hal hstride hroom
      hlist
      hp2 hok ha habad hkok hr hbad
    obtain ⟨hst, hs⟩ := State.stands_of_mem h
    exact completes_settled rfl (State.longInstr_of_retire hst hs (tscoreIndexedStep_of_ok (State.long_of_stands hst) hp hk hclean
      hspan hparams hp0 hp4 hp3 hk1 hk2 hplain hts ht0 hqs hqlen hq hal hstride hroom hlist hp2 hok ha habad hkok hr hbad)
      (State.calm_of_stands hst))
  case refine_4 =>
    intro s c d o h data out u hst hclean hspan hpool hacc hout hlen hok hu
    obtain ⟨hst, hs⟩ := State.stands_of_mem hst
    exact completes_settled rfl (State.longInstr_of_retire hst hs
      (astStep_of_ok (State.long_of_stands hst) hclean hspan hpool hacc hout hlen hok hu) (State.calm_of_stands hst))
  case refine_5 =>
    intro s c v h data tk r hst hclean hv hv43 hk1 hk2 hspan hacc hroom hlist hcols hr
    exact completes_settled rfl (State.longInstr_of_retire hst rfl
      (topkSelectStep_of_ok (State.long_of_stands hst) hclean hv hv43 hk1 hk2 hspan hacc hroom hlist hcols hr)
      (State.calm_of_stands hst))
  case refine_6 =>
    intro s c p k tk r h hclean hp hparams hp0 hp2 hk1 hk2 hp1 hlist hok hr
    obtain ⟨hst, hs⟩ := State.stands_of_mem h
    have hcalm : r.2.1.calm = true := by rw [hr, State.calm_mergeEntry]; exact State.calm_of_stands hst
    exact completes_settled rfl (State.longInstr_of_retire hst hs
      (topkMergeStep_of_ok (State.calm_of_stands hst) hclean hp hparams hp0 hp2 hk1 hk2 hp1 hlist hok hr) hcalm)
  case refine_7 =>
    intro s c d o tk u h hclean hpool htk hlen hok hu
    obtain ⟨hst, hs⟩ := State.stands_of_mem h
    exact completes_settled rfl (State.longInstr_of_retire hst hs
      (topkDrainStep_of_ok (State.long_of_stands hst) hclean hpool htk hlen hok hu) (State.calm_of_stands hst))
  case refine_8 =>
    intro s c h hclean
    refine completes_next rfl (State.instr_retireNext h rfl ?_ (State.calm_of_stands h))
    rw [if_neg (by simp [hclean])]

end Sys2Proof.Machine

/-! What the links and announcements leave of the debugger's view: the sieve contexts, the debug unit and the open Bureau sessions
(chapters 6 to 8, 18 and 19). -/

namespace Sys2Proof.Machine

/-! ## The desk -/

/-- `t` has the sieve contexts, the debug unit and the open Bureau sessions of `s`. -/
@[simp] abbrev State.SameDesk (s t : State) : Prop :=
  t.ctxs = s.ctxs ∧ t.dbg = s.dbg ∧ t.bureau.sessions.map (·.id) = s.bureau.sessions.map (·.id)

theorem State.SameDesk.trans {s t u : State} (h : s.SameDesk t) (k : t.SameDesk u) : s.SameDesk u := by
  simpa [h] using k

theorem State.SameDesk.of_foldl {α : Type} {g : State → α → State} (h : ∀ (u : State) (x : α), u.SameDesk (g u x))
    (l : List α) (s : State) : s.SameDesk (l.foldl g s) :=
  foldl_holds (s.SameDesk ·) g (fun u x hu => hu.trans (h u x)) l s (by simp)

theorem State.SameDesk.of_sansSync {s t : State} (h : t.sansSync = s.sansSync) : s.SameDesk t :=
  ⟨(congrArg State.ctxs h :), (congrArg State.dbg h :), (congrArg (fun u : State => u.bureau.sessions.map (·.id)) h :)⟩

/-! ## Events and waits -/

@[simp] theorem State.sameDesk_msix (s : State) (v : Nat) : s.SameDesk (s.msix v) := by
  unfold State.msix
  repeat' split
  all_goals simp

@[simp] theorem State.sameDesk_signal (s : State) (v : Nat) : s.SameDesk (s.signal v) := by
  unfold State.signal
  split <;> simp

/-- An event that is queued for a session leaves it open. -/
@[simp] theorem Session.id_queue (x : Session) (code ts : Nat) (detail : List Byte) : (x.queue code ts detail).id = x.id := by
  unfold Session.queue
  repeat' split
  all_goals rfl

@[simp] theorem State.sameDesk_post (s : State) (e : Ev) (kind : SourceKind) (n : Nat) (entry : EventEntry) :
    s.SameDesk (s.post e kind n entry) := by
  unfold State.post
  extract_lets _ s1 s2 _ s3 _ s4
  have h1 : s.SameDesk s1 := ⟨rfl, rfl, rfl⟩
  have h2 : s1.SameDesk s2 := by simp only [s2]; split <;> simp
  have h3 : s2.SameDesk s3 := by simp only [s3]; split <;> simp
  have h4 : s3.SameDesk s4 := by simp only [s4]; split <;> simp [Function.comp_def]
  have h : s.SameDesk s4 := ((h1.trans h2).trans h3).trans h4
  split
  · exact h.trans ⟨rfl, rfl, rfl⟩
  · exact h

@[simp] theorem State.sameDesk_note (s : State) (e : Ev) (kind : SourceKind) (n a b c : Nat) : s.SameDesk (s.note e kind n a b c) :=
  s.sameDesk_post ..

@[simp] theorem State.sameDesk_counterWrap (s : State) (off : Nat) : s.SameDesk (s.counterWrap off) := s.sameDesk_note ..

@[simp] theorem State.sameDesk_releaseAll (s : State) (p : Wait → Bool) (st : Status) : s.SameDesk (s.releaseAll p st) :=
  .of_sansSync (s.sansSync_releaseAll p st)

@[simp] theorem State.sameDesk_wake (s : State) (c : Nat) : s.SameDesk (s.wake c) := by
  unfold State.wake
  split
  · simp
  · exact s.sameDesk_releaseAll ..

@[simp] theorem State.sameDesk_addCounter (s : State) (c : Nat) (x : W64) : s.SameDesk (s.addCounter c x).1 := by
  have hset : ∀ v, s.SameDesk (s.setCounter c v) := fun _ => ⟨rfl, rfl, rfl⟩
  unfold State.addCounter
  dsimp only
  split
  · simp
  · split
    · exact (hset _).trans ((State.sameDesk_note ..).trans (State.sameDesk_wake _ c))
    · exact (hset _).trans (State.sameDesk_wake _ c)

@[simp] theorem State.sameDesk_tenantAdd (s : State) (c : Nat) (x : W64) (t : Nat) (cmd : Option (Nat × W32 × Nat)) :
    s.SameDesk (s.tenantAdd c x t cmd).1 := by
  unfold State.tenantAdd
  split
  · split
    · exact ⟨rfl, rfl, rfl⟩
    · exact s.sameDesk_addCounter c x
  · exact ⟨rfl, rfl, rfl⟩

@[simp] theorem State.sameDesk_alertAll (s : State) : s.SameDesk s.alertAll := by
  refine .of_foldl (fun u t => ?_) _ s
  split
  · simp
  · exact u.sameDesk_tenantAdd ..

@[simp] theorem State.sameDesk_raise (s : State) (e : Ev) (kind : SourceKind) (n a b c : Nat) :
    s.SameDesk (s.raise e kind n a b c) := by
  unfold State.raise
  split
  · exact .trans (s.sameDesk_note ..) (State.sameDesk_alertAll _)
  · exact s.sameDesk_note ..

/-! ## Sending on a port -/

@[simp] theorem State.sameDesk_portEvent (s : State) (e : Ev) (p a c : Nat) : s.SameDesk (s.portEvent e p a c) :=
  s.sameDesk_raise ..

@[simp] theorem State.sameDesk_countTx (s : State) (p n : Nat) : s.SameDesk (s.countTx p n) := by
  unfold State.countTx
  dsimp only
  split <;> simp

@[simp] theorem State.sameDesk_markSent (s : State) (m : Msg) : s.SameDesk (s.markSent m) := by
  unfold State.markSent
  split <;> simp

@[simp] theorem State.sameDesk_emitFlits (s : State) (p : Nat) (raws : List (List Byte)) : s.SameDesk (s.emitFlits p raws) :=
  State.SameDesk.of_foldl (fun u x => by simp) raws s

@[simp] theorem State.sameDesk_emitGone (s : State) (p : Nat) (g : Gone) : s.SameDesk (s.emitGone p g) := by
  unfold State.emitGone
  simp

@[simp] theorem State.sameDesk_creditOnly (s : State) (p : Nat) : s.SameDesk (s.creditOnly p) := by
  unfold State.creditOnly
  simp

@[simp] theorem State.sameDesk_pump (s : State) (p : Nat) : s.SameDesk (s.pump p) := by
  unfold State.pump
  dsimp only
  split
  · simp
  · have hgone := State.SameDesk.of_foldl fun (u : State) (g : Gone) => u.sameDesk_emitGone p g
    split
    · simp [hgone]
    · split <;> simp [hgone]

@[simp] theorem State.sameDesk_send (s : State) (p : Nat) (m : Msg) : s.SameDesk (s.send p m) := by
  unfold State.send
  simp

@[simp] theorem State.sameDesk_sendVc3 (s : State) (p kind : Nat) (fields : List Byte) : s.SameDesk (s.sendVc3 p kind fields) :=
  s.sameDesk_send ..

@[simp] theorem State.sameDesk_sendIdle (s : State) (p : Nat) : s.SameDesk (s.sendIdle p) := by
  unfold State.sendIdle
  simp

@[simp] theorem State.sameDesk_respond (s : State) (op : Nat) (r : Req) (x : Reply) : s.SameDesk (s.respond op r x) := by
  unfold State.respond
  split <;> simp

/-! ## Outbound requests and their ends -/

@[simp] theorem State.sameDesk_enqueue (s : State) (o : OutReq) : s.SameDesk (s.enqueue o) := by
  unfold State.enqueue
  split <;> simp

@[simp] theorem State.sameDesk_assign (s : State) (o : OutReq) : s.SameDesk (s.assign o) := by
  unfold State.assign
  split <;> simp

@[simp] theorem State.sameDesk_assignAll (s : State) : s.SameDesk s.assignAll := by
  have henqueue := State.SameDesk.of_foldl State.sameDesk_enqueue s.fabric.stalled { s with fabric.stalled := [] }
  unfold State.assignAll
  exact henqueue.trans (.of_foldl State.sameDesk_assign _ _)

@[simp] theorem State.sameDesk_issue (s : State) (issuer : Issuer) (opcode dst drawer offset : Nat) (word : W64)
    (data : List Byte) (place : Nat) : s.SameDesk (s.issue issuer opcode dst drawer offset word data place) := by
  unfold State.issue
  dsimp only
  split <;> simp

@[simp] theorem State.sameDesk_updRun (s : State) (q : Nat) (i : W32) (f : RunCmd → RunCmd) : s.SameDesk (s.updRun q i f) := by
  unfold State.updRun
  simp

@[simp] theorem State.sameDesk_endRun (s : State) (q : Nat) (i : W32) (st : Status) (progress result : W64) :
    s.SameDesk (s.endRun q i st progress result) := s.sameDesk_updRun ..

@[simp] theorem State.sameDesk_copyAnswered (s : State) (q : Nat) (i : W32) (off len : Nat) (st : Status) :
    s.SameDesk (s.copyAnswered q i off len st) := by
  unfold State.copyAnswered
  extract_lets s1
  have h1 : s.SameDesk s1 := s.sameDesk_updRun ..
  split
  · exact h1
  · dsimp only
    split
    · exact h1.trans (State.sameDesk_endRun ..)
    · exact h1

@[simp] theorem State.sameDesk_restatus (s : State) (op n : Nat) (st : Status) : s.SameDesk (s.restatus op n st) := by
  unfold State.restatus
  dsimp only
  repeat' split
  all_goals simp

@[simp] theorem State.sameDesk_endTransfer (s : State) (q : Nat) (i : W32) (st : Status) (o : OutReq) :
    s.SameDesk (s.endTransfer q i st o) := by
  unfold State.endTransfer
  dsimp only
  split <;> simp

@[simp] theorem State.sameDesk_maskAnswered (s : State) (key : Nat) (st : Status) : s.SameDesk (s.maskAnswered key st) := by
  unfold State.maskAnswered
  extract_lets unsent gone f keep _ s1 isDone _ s2
  have h1 : s.SameDesk s1 := ⟨rfl, rfl, rfl⟩
  have h2 : s1.SameDesk s2 := ⟨rfl, rfl, rfl⟩
  clear_value s1 s2
  split
  · extract_lets s3
    have h3 : s2.SameDesk s3 := by
      simp only [s3]
      split
      · split
        · exact s2.sameDesk_restatus ..
        · simp
      · simp
    have h : s.SameDesk s3 := (h1.trans h2).trans h3
    split
    · exact h.trans (State.sameDesk_respond ..)
    · exact h
  · exact h1

@[simp] theorem State.sameDesk_outDone (s : State) (o : OutReq) (st : Status) : s.SameDesk (s.outDone o st) := by
  unfold State.outDone
  dsimp only
  split
  · simp
  · simp
  · split <;> simp
  · simp

/-! ## The end of a session -/

@[simp] theorem State.sameDesk_releasePort (s : State) (p : Nat) : s.SameDesk (s.releasePort p) := by
  unfold State.releasePort
  simp

@[simp] theorem State.sameDesk_flush (s : State) (p : Nat) : s.SameDesk (s.flush p) := by
  unfold State.flush
  extract_lets s1 _ s2 s3
  have h2 : s.SameDesk s2 := ⟨rfl, rfl, rfl⟩
  have h3 : s2.SameDesk s3 := .of_foldl (fun u o => u.sameDesk_outDone o .linkLost) _ s2
  exact (h2.trans h3).trans (.trans (s3.sameDesk_releasePort p) (State.sameDesk_portEvent ..))

@[simp] theorem State.sameDesk_endBindings (s : State) (p : Nat) : s.SameDesk (s.endBindings p) := by
  unfold State.endBindings
  dsimp only
  repeat' split
  all_goals simp

@[simp] theorem State.sameDesk_endSession (s : State) (p : Nat) : s.SameDesk (s.endSession p) := by
  unfold State.endSession
  simp

@[simp] theorem State.sameDesk_fullReset (s : State) (p : Nat) (dark : Bool) : s.SameDesk (s.fullReset p dark) := by
  unfold State.fullReset
  simp

@[simp] theorem State.sameDesk_linkDown (s : State) (p cause : Nat) : s.SameDesk (s.linkDown p cause) := by
  unfold State.linkDown
  simp

@[simp] theorem State.sameDesk_plannedDown (s : State) (p : Nat) (dark : Bool) : s.SameDesk (s.plannedDown p dark) := by
  unfold State.plannedDown
  extract_lets s1
  have h1 : s.SameDesk s1 := s.sameDesk_linkDown ..
  refine .trans ?_ (State.sameDesk_fullReset ..)
  split
  · exact h1.trans (s1.sameDesk_flush p)
  · exact h1

@[simp] theorem State.sameDesk_forcedDown (s : State) (p reason : Nat) : s.SameDesk (s.forcedDown p reason) :=
  .trans (.trans (s.sameDesk_linkDown ..) (State.sameDesk_flush ..)) (State.sameDesk_fullReset ..)

@[simp] theorem State.sameDesk_closeSent (s : State) (p : Nat) : s.SameDesk (s.closeSent p) := by
  unfold State.closeSent
  dsimp only
  split <;> simp

@[simp] theorem State.sameDesk_sendPlanned (s : State) (p reason : Nat) : s.SameDesk (s.sendPlanned p reason) := by
  unfold State.sendPlanned
  dsimp only
  repeat' split
  all_goals simp

@[simp] theorem State.sameDesk_quiesceStep (s : State) (p : Nat) : s.SameDesk (s.quiesceStep p) := by
  unfold State.quiesceStep
  dsimp only
  repeat' split
  all_goals simp

@[simp] theorem State.sameDesk_afterFlit (s : State) (p : Nat) : s.SameDesk (s.afterFlit p) :=
  .trans (.trans (s.sameDesk_pump p) (State.sameDesk_quiesceStep ..)) (State.sameDesk_closeSent ..)

end Sys2Proof.Machine

namespace Sys2Proof

/-! ## What a trap keeps of a context -/

/-- What a debugger has asked of a context: it is halted, it is to halt, it is to halt after a step. -/
def Ctx.halts (c : Ctx) : Bool × Bool × Bool := (c.halted, c.haltReq, c.stepReq)

theorem Ctx.halts_setScratch64 (c : Ctx) (a : Nat) (v : W64) : (c.setScratch64 a v).halts = c.halts := by
  unfold Ctx.setScratch64
  split <;> rfl

theorem Ctx.halts_enterTrap {c u : Ctx} {cause info : Nat} {ret : BitVec 16} {pend : Option LongOp}
    (h : c.enterTrap cause info ret pend = .inl u) : u.halts = c.halts := by
  unfold Ctx.enterTrap at h
  simp only at h
  split at h
  · split at h
    · cases h
    · cases h; rfl
  · split at h
    · cases h
    · cases h
      exact Machine.foldl_holds (fun u : Ctx => u.halts = c.halts) _ (fun u _ hu => (Ctx.halts_setScratch64 u ..).trans hu) _ c rfl

/-- A context that an election has chosen runs. -/
def Ctx.chosen (c : Ctx) : Ctx := { c with phase := .running }

theorem Ctx.halts_takePend (c : Ctx) (cause : Nat) : (c.takePend cause).halts = c.halts := by
  unfold Ctx.takePend
  split <;> rfl

end Sys2Proof

namespace Sys2Proof.Machine

/-! ## What an election keeps -/

section
variable {s : State}

theorem State.dbg_endStart (s : State) (key : Nat) (st : Status) (r : W64) : (s.endStart key st r).dbg = s.dbg := by
  unfold State.endStart
  dsimp only
  split <;> rfl

theorem State.ctx_endStart_self (s : State) (key : Nat) (st : Status) (r : W64) :
    (s.endStart key st r).ctx key = (s.ctx key).ended := by
  unfold State.endStart
  dsimp only
  split
  · exact State.ctx_setCtx_self ..
  · rw [State.ctx_endRun, State.ctx_setCtx_self]

theorem State.ctx_endStart_ne (s : State) {key n : Nat} (st : Status) (r : W64) (h : n ≠ key) :
    (s.endStart key st r).ctx n = s.ctx n := by
  unfold State.endStart
  dsimp only
  split
  · exact State.ctx_setCtx_ne _ _ h
  · exact (State.ctx_endRun ..).trans (State.ctx_setCtx_ne _ _ h)

theorem State.dbg_trapCtx (s : State) (key : Nat) (c : Ctx) (cause info : Nat) (ret : BitVec 16) (pend : Option LongOp) :
    (s.trapCtx key c cause info ret pend).dbg = s.dbg := by
  unfold State.trapCtx
  split
  · rfl
  · exact State.dbg_endStart ..

theorem State.ctx_trapCtx_ne (s : State) {key n : Nat} (c : Ctx) (cause info : Nat) (ret : BitVec 16) (pend : Option LongOp)
    (h : n ≠ key) : (s.trapCtx key c cause info ret pend).ctx n = s.ctx n := by
  unfold State.trapCtx
  split
  · exact State.ctx_setCtx_ne _ _ h
  · exact (State.ctx_endStart_ne _ _ _ h).trans (State.ctx_setCtx_ne _ _ h)

/-- A context that takes a trap is as far under the debugger as before, or its program has ended. -/
theorem State.halts_trapCtx (s : State) (key : Nat) (c : Ctx) (cause info : Nat) (ret : BitVec 16) (pend : Option LongOp) :
    ((s.trapCtx key c cause info ret pend).ctx key).halts = c.halts ∨
      ((s.trapCtx key c cause info ret pend).ctx key).halts = (c.halted, false, false) := by
  unfold State.trapCtx
  split
  next u hu => exact .inl (by rw [State.ctx_setCtx_self]; exact Ctx.halts_enterTrap hu)
  next r hr => exact .inr (by rw [State.ctx_endStart_self, State.ctx_setCtx_self]; rfl)

/-- What holds before an election holds after it, where it survives each choice, and each trap at once of a context that is chosen
with an interrupt due. -/
theorem State.elect_holds {I : State → Prop} (e : Nat) (hquantum : ∀ u, I u → I (u.beginQuantum 1 e))
    (hrun : ∀ u key, (u.ctx key).mayRun = true → (u.ctx key).dueInterrupt = none → I u → I (u.setCtx key (u.ctx key).chosen))
    (htrap : ∀ u key cause info pc long, (u.ctx key).mayRun = true → (u.ctx key).dueInterrupt = some (cause, info) → I u →
      I (u.trapCtx key ((u.ctx key).chosen.takePend cause) cause info pc long)) {last : Nat} (fuel : Nat) (h : I s) :
    I (s.elect e last fuel) := by
  induction fuel generalizing s last with
  | zero => exact h
  | succ fuel ih =>
    unfold State.elect
    dsimp only
    split
    · exact h
    · split
      · exact h
      next n hn =>
        have hmay : (s.ctx (e * 8 + n)).mayRun = true := (List.mem_filter.mp (List.mem_of_find?_eq_some hn)).2
        split
        next hdue => exact hrun (s.beginQuantum 1 e) _ hmay hdue (hquantum s h)
        next cause info hdue => exact ih (htrap (s.beginQuantum 1 e) _ cause info _ _ hmay hdue (hquantum s h))

theorem State.dbg_reelect (s : State) (key : Nat) : (s.reelect key).dbg = s.dbg :=
  State.elect_holds (I := fun u => u.dbg = s.dbg) (keyEngine key) (fun _ h => h) (fun _ _ _ _ h => h)
    (fun _ _ _ _ _ _ _ _ h => (State.dbg_trapCtx ..).trans h) 9 rfl

theorem State.mem_reelect (s : State) (key : Nat) : (s.reelect key).mem = s.mem :=
  (congrArg State.mem (s.sansWork_reelect key) :)

/-- A context that may not run is as it was after an election. -/
theorem State.ctx_reelect_of_barred {key n : Nat} (h : (s.ctx n).mayRun = false) : (s.reelect key).ctx n = s.ctx n := by
  have hother : ∀ (u : State) m, (u.ctx m).mayRun = true → u.ctx n = s.ctx n → n ≠ m := by
    rintro u m hm hu rfl
    rw [hu, h] at hm
    exact Bool.false_ne_true hm
  refine State.elect_holds (I := fun u => u.ctx n = s.ctx n) (keyEngine key) (fun _ h => h) (fun u m hm _ hu => ?_)
    (fun u m _ _ _ _ hm _ hu => ?_) 9 rfl
  · exact (State.ctx_setCtx_ne _ _ (hother u m hm hu)).trans hu
  · exact (State.ctx_trapCtx_ne _ _ _ _ _ _ (hother u m hm hu)).trans hu

/-- A context with no interrupt due stays as far under the debugger as it was. -/
theorem State.halts_reelect_of_calm {key n : Nat} (h : (s.ctx n).dueInterrupt = none) :
    ((s.reelect key).ctx n).halts = (s.ctx n).halts := by
  refine (State.elect_holds (I := fun u => (u.ctx n).dueInterrupt = none ∧ (u.ctx n).halts = (s.ctx n).halts) (keyEngine key)
    (fun _ h => h) (fun u m _ _ hu => ?_) (fun u m _ _ _ _ _ hdue hu => ?_) 9 ⟨h, rfl⟩).2
  · by_cases hne : n = m
    · subst hne
      rw [State.ctx_setCtx_self]
      exact hu
    · rwa [State.ctx_setCtx_ne _ _ hne]
  · have hne : n ≠ m := by
      rintro rfl
      rw [hu.1] at hdue
      cases hdue
    rwa [State.ctx_trapCtx_ne _ _ _ _ _ _ hne]

/-- A context that the debugger lets go stays free. -/
theorem State.halts_reelect_of_free {key n : Nat} (h : (s.ctx n).halts = (false, false, false)) :
    ((s.reelect key).ctx n).halts = (false, false, false) := by
  refine State.elect_holds (I := fun u => (u.ctx n).halts = (false, false, false)) (keyEngine key)
    (fun _ h => h) (fun u m _ _ hu => ?_) (fun u m cause _ _ _ _ _ hu => ?_) 9 h
  · by_cases hne : n = m
    · subst hne
      rw [State.ctx_setCtx_self]
      exact hu
    · rwa [State.ctx_setCtx_ne _ _ hne]
  · by_cases hne : n = m
    · subst hne
      have hpend : ((u.ctx n).chosen.takePend cause).halts = (u.ctx n).halts := (u.ctx n).chosen.halts_takePend cause
      have hfree : ((u.ctx n).chosen.takePend cause).halted = false := (congrArg Prod.fst (hpend.trans hu) :)
      rcases State.halts_trapCtx u n ((u.ctx n).chosen.takePend cause) cause _ _ _ with hk | hk
      · exact hk.trans (hpend.trans hu)
      · rw [hk, hfree]
    · rwa [State.ctx_trapCtx_ne _ _ _ _ _ _ hne]

end

/-! ## The desk as a view -/

/-- What is asked of the desk: the debug unit, the open Bureau sessions in order, whether no context is under the debugger, and
whether the stop record is marked with an unlock (R137). -/
structure Desk where
  dbg      : Debug
  sessions : List Nat
  freed    : Prop
  marked   : Prop

/-- The desk with no mark asked. -/
def Desk.unmarked (k : Desk) : Desk := { k with marked := False }

/-- A state has the desk that is asked. -/
def State.At (s : State) (k : Desk) : Prop :=
  s.dbg = k.dbg ∧ s.bureau.sessions.map (·.id) = k.sessions ∧ (k.freed → ∀ n, (s.ctx n).halts = (false, false, false)) ∧
  (k.marked → s.power.dbgFlag = true)

/-- A desk stays with its contexts, its debug unit, its sessions and its mark. -/
theorem State.SameDesk.at {s t : State} {k : Desk} (h : s.SameDesk t) (hp : t.power.dbgFlag = s.power.dbgFlag) (hk : s.At k) :
    t.At k := by
  obtain ⟨hctxs, hdbg, hsessions⟩ := h
  obtain ⟨kdbg, ksessions, kfreed, kmarked⟩ := hk
  refine ⟨hdbg.trans kdbg, hsessions.trans ksessions, fun hf n => ?_, fun hm => hp.trans (kmarked hm)⟩
  rw [State.ctx, hctxs]
  exact kfreed hf n

/-- A desk stays where a context is as far under the debugger as before, or free of it. -/
theorem State.At.setCtx {s : State} {k : Desk} {key : Nat} {v : Ctx} (h : s.At k)
    (hv : v.halts = (s.ctx key).halts ∨ v.halts = ((s.ctx key).halted, false, false)) : (s.setCtx key v).At k := by
  obtain ⟨hdbg, hsessions, hfreed, hmarked⟩ := h
  refine ⟨hdbg, hsessions, fun hf n => ?_, hmarked⟩
  by_cases hn : n = key
  · subst hn
    have hfree := hfreed hf n
    rw [State.ctx_setCtx_self]
    rcases hv with hv | hv
    · exact hv.trans hfree
    · rw [hv, show (s.ctx n).halted = false from congrArg Prod.fst hfree]
  · rw [State.ctx_setCtx_ne _ _ hn]
    exact hfreed hf n

end Sys2Proof.Machine

/-! What a command keeps of the board: the queue of waiting commands, the part, the security state and the MAC address. Most
operations touch none of them, so that whatever is said of the board stays true; the few that change the security state say
below what they keep of it. -/

namespace Sys2Proof.Machine

/-! ## The board -/

/-- The queue of waiting commands, the part, the security state and the MAC address. -/
abbrev Board : Type := List Instr × Part × Security × List Byte

/-- The board of a state. -/
def State.board (s : State) : Board := (s.pending, s.power.part, s.sec, s.bureau.mac)

/-- The board of a state is as `Q` says, and it has the desk that `K` asks, where it asks one. -/
def State.On (Q : Board → Prop) (s : State) (K : Option Desk := none) : Prop :=
  match K with
  | none => Q s.board
  | some k => Q s.board ∧ s.At k

/-- An optional state's board is as `Q` says, where there is one. -/
def OptionOn (Q : Board → Prop) (o : Option State) (K : Option Desk := none) : Prop := ∀ t, o = some t → t.On Q K

/-- An optional pair's state has a board as `Q` says, where there is one. -/
def PairOn {α : Type} (Q : Board → Prop) (o : Option (State × α)) (K : Option Desk := none) : Prop :=
  ∀ x, o = some x → x.1.On Q K

/-- A command answers a next state, and its board is as `Q` says. -/
def ResOn (Q : Board → Prop) (r : Res) : Prop := ∃ t, r = .next t ∧ t.On Q

/-- What an instruction leaves has a board as `Q` says. -/
def Act.On (Q : Board → Prop) : Act → Prop
  | .retire u _ _ | .trap u _ _ _ _ | .unit u _ | .block u _ | .halt u _ _ _ | .offer u _ _ => u.On Q
  | .stay => True

section
variable {s t : State} {Q R : Board → Prop} {K : Option Desk} {base : Board}

theorem State.on_iff : s.On Q K ↔ Q s.board ∧ ∀ k ∈ K, s.At k := by
  cases K <;> simp [State.On]

theorem State.On.congr (h : s.On Q) (hb : t.board = s.board) : t.On Q := by
  change Q t.board
  rwa [hb]

/-- What keeps the board and the desk keeps what is said of them. -/
theorem State.On.congr_desk (h : s.On Q K) (hb : t.board = s.board) (hd : ∀ k, s.At k → t.At k) : t.On Q K := by
  obtain ⟨hQ, hK⟩ := State.on_iff.1 h
  exact State.on_iff.2 ⟨by rwa [hb], fun k hk => hd k (hK k hk)⟩

/-- An update of the record that keeps the queue, the part, the security state and the MAC address. -/
theorem State.On.upd {power : Power} {time : Nat} {domains : FMap Domain} {ports : FMap Port} {fabric : Fabric}
    {bench : Benches} {jny : JoineryState} {mem : List Host.Cell} {dram : Dram} {sync : Sync} {queues : FMap Queue}
      {shares : Shares}
    {ctxs : FMap Ctx} {streams : FMap Stream} {images : FMap (Option LexImage)} {hold : Hold} {bureau : Bureau} {events : Events}
    {host : HostPort} {dbg : Debug} {out delayed : List Out} {fresh : Nat}
    (hp : power.part = s.power.part) (hm : bureau.mac = s.bureau.mac) (h : s.On Q) :
    (State.mk power time domains ports fabric bench jny mem dram sync queues shares ctxs streams images hold s.sec bureau events
      host dbg out delayed fresh s.pending).On Q :=
  h.congr (by rw [State.board, State.board, hp, hm])

/-- An update of the record that keeps the desk as well. -/
theorem State.On.keep {power : Power} {time : Nat} {domains : FMap Domain} {ports : FMap Port} {fabric : Fabric}
    {bench : Benches} {jny : JoineryState} {mem : List Host.Cell} {dram : Dram} {sync : Sync} {queues : FMap Queue}
      {shares : Shares}
    {streams : FMap Stream} {images : FMap (Option LexImage)} {hold : Hold} {bureau : Bureau} {events : Events}
    {host : HostPort} {dbg : Debug} {out delayed : List Out} {fresh : Nat}
    (hp : (power.part, power.dbgFlag) = (s.power.part, s.power.dbgFlag)) (hm : bureau.mac = s.bureau.mac) (hd : dbg = s.dbg)
    (hs : bureau.sessions.map (·.id) = s.bureau.sessions.map (·.id)) (h : s.On Q K) :
    (State.mk power time domains ports fabric bench jny mem dram sync queues shares s.ctxs streams images hold s.sec bureau events
      host dbg out delayed fresh s.pending).On Q K := by
  obtain ⟨hpart, hflag⟩ := Prod.mk.injEq .. ▸ hp
  exact h.congr_desk (by rw [State.board, State.board, hpart, hm]) fun _ hk => State.SameDesk.at (s := s) ⟨rfl, hd, hs⟩ hflag hk

/-- What the fuses hold, and what the seal processor reads from them. -/
def Security.fuses (x : Security) : Lifecycle × List (List Byte) × List Byte × BitVec 8 × BitVec 6 :=
  (x.lifecycle, x.keys, x.serial, x.stepping, x.secver)

/-- The board is `b` but for what the security state has beside the fuses. -/
def Fused (b x : Board) : Prop :=
  x.1 = b.1 ∧ x.2.1 = b.2.1 ∧ Security.fuses x.2.2.1 = Security.fuses b.2.2.1 ∧ x.2.2.2 = b.2.2.2

theorem Fused.refl (b : Board) : Fused b b := ⟨rfl, rfl, rfl, rfl⟩

/-- An update of the record that keeps the fuses of the security state. -/
theorem State.On.reseal {power : Power} {time : Nat} {domains : FMap Domain} {ports : FMap Port} {fabric : Fabric}
    {bench : Benches} {jny : JoineryState} {mem : List Host.Cell} {dram : Dram} {sync : Sync} {queues : FMap Queue}
      {shares : Shares}
    {ctxs : FMap Ctx} {streams : FMap Stream} {images : FMap (Option LexImage)} {hold : Hold} {sec : Security} {bureau : Bureau}
    {events : Events} {host : HostPort} {dbg : Debug} {out delayed : List Out} {fresh : Nat}
    (hp : power.part = s.power.part) (hs : Security.fuses sec = Security.fuses s.sec) (hm : bureau.mac = s.bureau.mac)
    (h : s.On (Fused base)) :
    (State.mk power time domains ports fabric bench jny mem dram sync queues shares ctxs streams images hold sec bureau events
      host dbg out delayed fresh s.pending).On (Fused base) := by
  obtain ⟨hpending, hpart, hfuses, hmac⟩ := h
  exact ⟨hpending, hp.trans hpart, hs.trans hfuses, hm.trans hmac⟩

/-- A token verifies, and names the node and its valid challenge (R619). -/
def Vouches (bytes : List Byte) (x : Security) : Prop := ∃ k, Config.coseToken bytes = some k ∧
  coseVerifies Config.serviceKeyDigest k.signed k.sig = true ∧ k.serial = x.serial ∧ some k.challenge = x.challenge

/-- The bytes of the token that a command brings. -/
def Brings (c : Instr) (s : State) (bytes : List Byte) : Prop := (∃ m, c = .token m bytes) ∨
  (c = .tokenSubmit s.dbg.data ∧ bytes = FMap.getRun s.dbg.buf 0 0 (min (bits s.dbg.data.toNat 10 0) 1024))

/-- What a command may make of a state's board: it changes the lifecycle on a token alone, and adds a digest to the bank of keys
as JOINERY_KEY alone. -/
def Allowed (c : Instr) (s : State) (x : Board) : Prop :=
  x.1 = s.pending ∧ x.2.1 = s.power.part ∧ x.2.2.2 = s.bureau.mac ∧
  (x.2.2.1.serial = s.sec.serial ∧ x.2.2.1.stepping = s.sec.stepping ∧ x.2.2.1.secver = s.sec.secver) ∧
  (x.2.2.1.lifecycle = s.sec.lifecycle ∨ ∃ bytes, Brings c s bytes ∧ Vouches bytes s.sec) ∧
  (x.2.2.1.keys = s.sec.keys ∨ ∃ m key, c = .joineryKey m key ∧ x.2.2.1.keys = s.sec.keys ++ [Config.sha384 key])

theorem Allowed.of_fused {c : Instr} {x : Board} (h : Fused s.board x) : Allowed c s x := by
  obtain ⟨hpending, hpart, hfuses, hmac⟩ := h
  simp only [Security.fuses, State.board, Prod.mk.injEq] at hfuses
  obtain ⟨hlife, hkeys, hid⟩ := hfuses
  exact ⟨hpending, hpart, hmac, hid, .inl hlife, .inl hkeys⟩

theorem State.On.ite {c : Prop} [Decidable c] (hs : s.On Q K) (ht : t.On Q K) : (if c then s else t).On Q K := by
  split
  · exact hs
  · exact ht

theorem State.On.ite_fst {α : Type} {c : Prop} [Decidable c] {x y : State × α} (hx : x.1.On Q K) (hy : y.1.On Q K) :
    (if c then x else y).1.On Q K := by
  split
  · exact hx
  · exact hy

theorem State.On.foldl {α : Type} {g : State → α → State} {l : List α} (hg : ∀ u x, u.On Q K → (g u x).On Q K) (h : s.On Q K) :
    (l.foldl g s).On Q K := foldl_holds (fun u : State => u.On Q K) g hg l s h

theorem State.On.foldl_fst {α β : Type} {g : State × β → α → State × β} {l : List α} {x : State × β}
    (hg : ∀ y a, y.1.On Q K → (g y a).1.On Q K) (h : x.1.On Q K) : (l.foldl g x).1.On Q K :=
  foldl_holds (fun y : State × β => y.1.On Q K) g hg l x h

/-- What holds of the first part of a pair holds of it under the pair's name. -/
theorem State.On.of_eq {α : Type} {x : State × α} {a : α} (h : x.1.On Q K) (e : x = (t, a)) : t.On Q K := by
  rwa [e] at h

theorem State.Undisturbed.on (k : s.Undisturbed t) (h : s.On Q) : t.On Q := by
  obtain ⟨⟨-, hpending, hpart, hsec, hmac⟩, -⟩ := k
  exact h.congr (by rw [State.board, State.board, hpending, hpart, hsec, hmac])

/-- What the links do of themselves keeps the desk as well. -/
theorem State.On.link (k : s.Undisturbed t) (d : s.SameDesk t) (h : s.On Q K) : t.On Q K := by
  obtain ⟨⟨-, hpending, hpart, hsec, hmac⟩, -, hpower, -⟩ := k
  exact h.congr_desk (by rw [State.board, State.board, hpending, hpart, hsec, hmac]) fun _ hk => d.at (by rw [hpower]) hk

theorem OptionOn.none : OptionOn Q none K := by
  simp [OptionOn]

theorem OptionOn.some (h : s.On Q K) : OptionOn Q (some s) K := by
  intro t ht
  exact Option.some.inj ht ▸ h

theorem OptionOn.ite {c : Prop} [Decidable c] {x y : Option State} (hx : OptionOn Q x K) (hy : OptionOn Q y K) :
    OptionOn Q (if c then x else y) K := by
  split
  · exact hx
  · exact hy

theorem OptionOn.of_eq {o : Option State} (h : OptionOn Q o K) (e : o = Option.some t) : t.On Q K := h t e

theorem OptionOn.map {o : Option State} {f : State → State} (h : OptionOn Q o K) (hf : ∀ u, u.On Q K → (f u).On Q K) :
    OptionOn Q (o.map f) K := by
  intro t ht
  obtain ⟨u, hu, rfl⟩ := Option.map_eq_some_iff.1 ht
  exact hf u (h u hu)

theorem OptionOn.foldl {α : Type} {g : Option State → α → Option State} {l : List α} {o : Option State}
    (hg : ∀ o a, OptionOn Q o K → OptionOn Q (g o a) K) (h : OptionOn Q o K) : OptionOn Q (l.foldl g o) K :=
  foldl_holds (fun o => OptionOn Q o K) g hg l o h

theorem OptionOn.bind {o : Option State} {f : State → Option State} (h : OptionOn Q o K) (hf : ∀ u, u.On Q K → OptionOn Q (f u) K) :
    OptionOn Q (o.bind f) K := by
  intro t ht
  obtain ⟨u, hu, hft⟩ := Option.bind_eq_some_iff.1 ht
  exact hf u (h u hu) t hft

theorem State.On.getD {o : Option State} (h : OptionOn Q o K) (hs : s.On Q K) : (o.getD s).On Q K := by
  cases o with
  | none => exact hs
  | some u => exact h u rfl

theorem PairOn.none {α : Type} : PairOn (α := α) Q none K := by
  simp [PairOn]

theorem PairOn.some {α : Type} {x : State × α} (h : x.1.On Q K) : PairOn Q (some x) K := by
  intro y hy
  exact Option.some.inj hy ▸ h

theorem PairOn.ite {α : Type} {c : Prop} [Decidable c] {x y : Option (State × α)} (hx : PairOn Q x K) (hy : PairOn Q y K) :
    PairOn Q (if c then x else y) K := by
  split
  · exact hx
  · exact hy

theorem PairOn.map {α : Type} {o : Option State} {f : State → State × α} (h : OptionOn Q o K)
    (hf : ∀ u, u.On Q K → (f u).1.On Q K) : PairOn Q (o.map f) K := by
  intro x hx
  obtain ⟨u, hu, rfl⟩ := Option.map_eq_some_iff.1 hx
  exact hf u (h u hu)

theorem PairOn.map_fst {α β : Type} {o : Option (State × α)} {f : State × α → State × β} (h : PairOn Q o K)
    (hf : ∀ x, x.1.On Q K → (f x).1.On Q K) : PairOn Q (o.map f) K := by
  intro y hy
  obtain ⟨x, hx, rfl⟩ := Option.map_eq_some_iff.1 hy
  exact hf x (h x hx)

theorem PairOn.foldl {α β : Type} {g : Option (State × β) → α → Option (State × β)} {l : List α} {o : Option (State × β)}
    (hg : ∀ o a, PairOn Q o K → PairOn Q (g o a) K) (h : PairOn Q o K) : PairOn Q (l.foldl g o) K :=
  foldl_holds (fun o => PairOn Q o K) g hg l o h

theorem PairOn.of_eq {α : Type} {o : Option (State × α)} {a : α} (h : PairOn Q o K) (e : o = Option.some (t, a)) : t.On Q K :=
  h _ e

theorem ResOn.next (h : s.On Q) : ResOn Q (.next s) := ⟨s, rfl, h⟩

theorem ResOn.ite {c : Prop} [Decidable c] {x y : Res} (hx : ResOn Q x) (hy : ResOn Q y) : ResOn Q (if c then x else y) := by
  split
  · exact hx
  · exact hy

theorem Act.On.retire (h : s.On Q) {c : Ctx} {n : BitVec 16} : (Act.retire s c n).On Q := h
theorem Act.On.trap (h : s.On Q) {c : Ctx} {a b : Nat} {o : Option LongOp} : (Act.trap s c a b o).On Q := h
theorem Act.On.unit (h : s.On Q) {c : Ctx} : (Act.unit s c).On Q := h
theorem Act.On.block (h : s.On Q) {c : Ctx} : (Act.block s c).On Q := h
theorem Act.On.halt (h : s.On Q) {c : Ctx} {st : Status} {x : W64} : (Act.halt s c st x).On Q := h
theorem Act.On.offer (h : s.On Q) {c : Ctx} {n : BitVec 16} : (Act.offer s c n).On Q := h
theorem Act.On.stay : Act.stay.On Q := trivial

theorem Act.On.ite {c : Prop} [Decidable c] {x y : Act} (hx : x.On Q) (hy : y.On Q) : (if c then x else y).On Q := by
  split
  · exact hx
  · exact hy

/-! ## What every operation keeps

Most operations update fields that the board does not have; `State.On.upd` is the rule for them. -/

/-! ### Events -/

theorem State.On.emit {o : Out} (h : s.On Q K) : (s.emit o).On Q K := .keep rfl rfl rfl rfl h
theorem State.On.console {ts : Nat} {text : String} (h : s.On Q K) : (s.console ts text).On Q K := .emit h
theorem State.On.msix {v : Nat} (h : s.On Q K) : (s.msix v).On Q K := .link (s.undisturbed_msix v) (s.sameDesk_msix v) h
theorem State.On.signal {v : Nat} (h : s.On Q) : (s.signal v).On Q := .ite (.msix (.upd rfl rfl h)) h

theorem State.On.post {e : Ev} {kind : SourceKind} {n : Nat} {entry : EventEntry} (h : s.On Q K) :
    (s.post e kind n entry).On Q K :=
  .link (s.undisturbed_post e kind n entry) (s.sameDesk_post e kind n entry) h

theorem State.On.note {e : Ev} {kind : SourceKind} {n a b c : Nat} (h : s.On Q K) : (s.note e kind n a b c).On Q K :=
  .link (s.undisturbed_note e kind n a b c) (s.sameDesk_note e kind n a b c) h

theorem State.On.counterWrap {offset : Nat} (h : s.On Q) : (s.counterWrap offset).On Q :=
  (s.undisturbed_counterWrap offset).on h

/-! ### The fields of the state -/

theorem State.On.setPort {p : Nat} {v : Port} (h : s.On Q K) : (s.setPort p v).On Q K := .keep rfl rfl rfl rfl h
theorem State.On.updPort {p : Nat} {f : Port → Port} (h : s.On Q K) : (s.updPort p f).On Q K := .setPort h
theorem State.On.setStk {n : Nat} {v : Stack} (h : s.On Q K) : (s.setStk n v).On Q K := .keep rfl rfl rfl rfl h
theorem State.On.updStk {n : Nat} {f : Stack → Stack} (h : s.On Q K) : (s.updStk n f).On Q K := .setStk h
theorem State.On.setDom {d : Nat} {v : Domain} (h : s.On Q) : (s.setDom d v).On Q := .upd rfl rfl h
theorem State.On.setDrw {d : Nat} {v : DrawerState} (h : s.On Q K) : (s.setDrw d v).On Q K := .keep rfl rfl rfl rfl h
theorem State.On.setQueue {q : Nat} {v : Queue} (h : s.On Q K) : (s.setQueue q v).On Q K := .keep rfl rfl rfl rfl h
theorem State.On.setCtx {k : Nat} {v : Ctx} (h : s.On Q) : (s.setCtx k v).On Q := .upd rfl rfl h

theorem State.On.setCtx_of_halts {k : Nat} {v : Ctx} (h : s.On Q K)
    (hv : v.halts = (s.ctx k).halts ∨ v.halts = ((s.ctx k).halted, false, false)) : (s.setCtx k v).On Q K :=
  h.congr_desk rfl fun _ hk => hk.setCtx hv

theorem State.On.setStream {n : Nat} {v : Stream} (h : s.On Q K) : (s.setStream n v).On Q K := .keep rfl rfl rfl rfl h
theorem State.On.setCounter {c : Nat} {v : Counter} (h : s.On Q K) : (s.setCounter c v).On Q K := .keep rfl rfl rfl rfl h
theorem State.On.draw (h : s.On Q K) : s.draw.On Q K := .keep rfl rfl rfl rfl h
theorem State.On.input {c : Instr} (h : s.On Q) : (s.input c).On Q := .upd rfl rfl h
theorem State.On.portInput {c : Instr} (h : s.On Q) : (s.portInput c).On Q := .ite h (.ite (.upd rfl rfl h) (.input h))

/-- What is delivered acts on a state of the same board. -/
theorem State.On.deliver_le {c : Instr} {f : State → State} (hle : ∀ x, Q x → R x) (h : s.On Q) (hf : ∀ u, u.On Q → (f u).On R) :
    (s.deliver c f).On R :=
  .ite (hf _ h) (.ite (.upd rfl rfl (hle _ h)) (hf _ (.input h)))

theorem State.On.deliver {c : Instr} {f : State → State} (h : s.On Q) (hf : ∀ u, u.On Q → (f u).On Q) :
    (s.deliver c f).On Q :=
  .deliver_le (fun _ hx => hx) h hf

theorem State.On.noteOnce {e : Ev} (h : s.On Q K) : (s.noteOnce e).On Q K := .ite h (.note (.keep rfl rfl rfl rfl h))

/-! ### Waits and counters (chapter 10) -/

theorem State.On.setWaits {ws : List Wait} (h : s.On Q K) : (s.setWaits ws).On Q K := .keep rfl rfl rfl rfl h
theorem State.On.freeWait {id : Nat} (h : s.On Q) : (s.freeWait id).On Q := .setWaits h
theorem State.On.discard {t n : Nat} (h : s.On Q K) : (s.discard t n).On Q K := .keep rfl rfl rfl rfl h
theorem State.On.setPhase {id : Nat} {ph : WaitPhase} (h : s.On Q) : (s.setPhase id ph).On Q := .setWaits h

theorem State.On.releaseAll {p : Wait → Bool} {st : Status} (h : s.On Q) : (s.releaseAll p st).On Q :=
  (s.undisturbed_releaseAll p st).on h

theorem State.On.wake {c : Nat} (h : s.On Q K) : (s.wake c).On Q K := .link (s.undisturbed_wake c) (s.sameDesk_wake c) h

theorem State.On.addCounter {c : Nat} {x : W64} (h : s.On Q K) : (s.addCounter c x).1.On Q K :=
  .link (s.undisturbed_addCounter c x) (s.sameDesk_addCounter c x) h

theorem State.On.storeCounter {c : Nat} {x : W64} (h : s.On Q K) : (s.storeCounter c x).On Q K := .wake (.setCounter h)

theorem State.On.register {c t : Nat} {th : W64} {target : Option Target} {owner : WaitOwner} (h : s.On Q K) :
    (s.register c t th target owner).On Q K :=
  .ite (.noteOnce (.keep rfl rfl rfl rfl h)) (.keep rfl rfl rfl rfl h)

theorem State.On.counterDo {c t : Nat} {op : CounterOp} (h : s.On Q K) : (s.counterDo c t op).1.On Q K := by
  unfold State.counterDo
  extract_lets _ answer
  have hanswer : ∀ (u : State) (st : Status) (w r : Bool), u.On Q K → (answer u st w r).1.On Q K := fun _ _ _ _ hu => hu
  split
  · exact hanswer _ _ _ _ (.addCounter h)
  · exact hanswer _ _ _ _ (.storeCounter h)
  · exact hanswer _ _ _ _ h
  · exact .ite_fst (hanswer _ _ _ _ h) (.ite_fst h (.ite_fst h (hanswer _ _ _ _ (.register h))))

theorem State.On.counterOp {c : Nat} {granted : Nat → Bool} {op : CounterOp} (h : s.On Q) :
    (s.counterOp c granted op).1.On Q := by
  unfold State.counterOp
  split
  · exact h
  · exact .counterDo h

theorem State.On.retireSlots {q : Nat} {index : W32} {slots : Nat} (h : s.On Q K) : (s.retireSlots q index slots).On Q K :=
  .setQueue h

theorem State.On.tenantAdd {c : Nat} {x : W64} {t : Nat} {cmd : Option (Nat × W32 × Nat)} (h : s.On Q K) :
    (s.tenantAdd c x t cmd).1.On Q K :=
  .ite_fst (.ite_fst (.keep rfl rfl rfl rfl h) (.addCounter h)) (.discard h)

theorem State.On.takeHeld {d : HeldAdd} (h : s.On Q K) : (s.takeHeld d).On Q K := by
  unfold State.takeHeld
  extract_lets u
  have hu : u.On Q K := .tenantAdd h
  split
  · exact hu
  · exact .retireSlots hu

theorem State.On.thawAdds (h : s.On Q K) : s.thawAdds.On Q K := .foldl (fun _ _ hu => .takeHeld hu) (.keep rfl rfl rfl rfl h)

theorem State.On.raise {e : Ev} {kind : SourceKind} {n a b c : Nat} (h : s.On Q K) : (s.raise e kind n a b c).On Q K :=
  .link (s.undisturbed_raise e kind n a b c) (s.sameDesk_raise e kind n a b c) h

/-! ### The node state, health and answers -/

theorem State.On.setNode {n : NodeState} {why : String} (h : s.On Q K) : (s.setNode n why).On Q K := .console (.keep rfl rfl rfl rfl h)

theorem State.On.settle (h : s.On Q K) : s.settle.On Q K := .ite h (.ite (.keep rfl rfl rfl rfl h)
    (.raise (.keep rfl rfl rfl rfl (.keep rfl rfl rfl rfl h))))

theorem State.On.busyFell (h : s.On Q K) : s.busyFell.On Q K := .msix h

theorem State.On.answer {session reqId kind : Nat} {st : Status} {body : Body} (h : s.On Q K) :
    (s.answer session reqId kind st body).On Q K :=
  .ite (.emit h) h

theorem State.On.refusePending {kind : Nat} {who : Submitter} {body : Body} (h : s.On Q K) :
    (s.refusePending kind who body).On Q K := by
  unfold State.refusePending
  split
  · exact .busyFell h
  · exact .answer h

theorem State.On.endPending (h : s.On Q K) : s.endPending.On Q K := by
  unfold State.endPending
  extract_lets _ s1 s2
  have hs1 : s1.On Q K := by
    unfold s1
    split
    · exact h
    · exact .refusePending (.keep rfl rfl rfl rfl h)
    · exact .refusePending (.keep rfl rfl rfl rfl h)
    · exact .refusePending (.keep rfl rfl rfl rfl h)
  have hs2 : s2.On Q K := .foldl (fun _ _ hu => .refusePending (.keep rfl rfl rfl rfl hu)) hs1
  split
  · exact hs2
  · exact .ite hs2 (.answer hs2)

/-- With its contents a node loses its contexts, and so what the debugger has asked of them. -/
theorem State.On.loseContents (h : s.On Q K) : s.loseContents.On Q K :=
  h.congr_desk rfl fun _ hk => by
    obtain ⟨hdbg, hsessions, -, hmarked⟩ := hk
    exact ⟨hdbg, hsessions, fun _ _ => rfl, hmarked⟩

theorem State.On.enterFailed {code : Nat} {why : String} (h : s.On Q K) : (s.enterFailed code why).On Q K :=
  .setNode (.keep rfl rfl rfl rfl (.loseContents (.endPending h)))

theorem State.On.bootFailure {code : Nat} (h : s.On Q) : (s.bootFailure code).On Q := .upd rfl rfl h

/-! ### Stored lines (chapter 3) -/

theorem State.On.memEvent {e : Ev} {stack flags d sym1 sym2 blk line spare last : Nat} (h : s.On Q K) :
    (s.memEvent e stack flags d sym1 sym2 blk line spare last).On Q K :=
  .post h

theorem State.On.countErr {stack i : Nat} (h : s.On Q K) : (s.countErr stack i).On Q K := .updStk h

theorem State.On.advise {stack blk line d : Nat} (h : s.On Q K) : (s.advise stack blk line d).On Q K :=
  .ite h (.ite (.memEvent (.keep rfl rfl rfl rfl (.memEvent (.keep rfl rfl rfl rfl h)))) (.memEvent (.keep rfl rfl rfl rfl h)))

theorem State.On.noteHard {stack blk line d : Nat} (h : s.On Q K) : (s.noteHard stack blk line d).On Q K :=
  .ite (.advise (.keep rfl rfl rfl rfl h)) (.keep rfl rfl rfl rfl h)

theorem State.On.degrade {d stack : Nat} (h : s.On Q K) : (s.degrade d stack).On Q K := .ite h (.memEvent (.setDrw h))
theorem State.On.keepTables (h : s.On Q K) : s.keepTables.On Q K := .keep rfl rfl rfl rfl h

theorem State.On.loseStack {n : Nat} (h : s.On Q K) : (s.loseStack n).On Q K := by
  unfold State.loseStack
  refine .ite h ?_
  extract_lets _ s1 s2 _ _ _ s3 s4
  have hs1 : s1.On Q K := .raise (.updStk h)
  have hs2 : s2.On Q K := .foldl (fun _ _ hu => .degrade hu) hs1
  have hs3 : s3.On Q K := .keep rfl rfl rfl rfl hs2
  have hs4 : s4.On Q K := by
    unfold s4
    refine .foldl (fun _ _ hu => ?_) hs3
    split
    · exact .answer hu
    · exact .busyFell (.keep rfl rfl rfl rfl hu)
  exact .ite (.enterFailed hs4) (.keepTables hs4)

theorem State.On.notePoison {stack blk : Nat} (h : s.On Q K) : (s.notePoison stack blk).On Q K :=
  .ite (.loseStack (.keep rfl rfl rfl rfl h)) (.keep rfl rfl rfl rfl h)

theorem State.On.damageAt {stack pl : Nat} (h : s.On Q K) : (s.damageAt stack pl).1.On Q K := by
  unfold State.damageAt
  split
  · exact h
  · split
    · exact .ite h (.keep rfl rfl rfl rfl h)
    · exact .keep rfl rfl rfl rfl h

theorem State.On.codeAt {stack pl : Nat} (h : s.On Q K) : (s.codeAt stack pl).1.On Q K := by
  unfold State.codeAt
  split
  · exact .ite_fst (.updStk h) (.damageAt h)
  · exact .ite_fst (.updStk h) (.damageAt h)
  · exact .damageAt h

theorem State.On.recordCheck {flags stack pl d off : Nat} {inj : Bool} {x : Check} (h : s.On Q K) :
    (s.recordCheck flags stack pl d off inj x).On Q K := by
  unfold State.recordCheck
  split
  · exact h
  · exact .countErr h
  · exact .noteHard (.memEvent (.countErr h))
  · exact .memEvent (.countErr h)
  · exact h

theorem State.On.recordPoison {flags stack pl d off : Nat} {inj : Bool} {a b : Nat} (h : s.On Q K) :
    (s.recordPoison flags stack pl d off inj a b).On Q K := by
  unfold State.recordPoison
  extract_lets s1
  have hs1 : s1.On Q K := .advise (.memEvent (.countErr h))
  exact .ite hs1 (.notePoison hs1)

theorem State.On.storeLine {d l : Nat} {data : List Byte} (h : s.On Q K) : (s.storeLine d l data).On Q K := .keep rfl rfl rfl rfl h

theorem State.On.poisonLine {d l : Nat} (h : s.On Q K) : (s.poisonLine d l).On Q K := .keep rfl rfl rfl rfl (.storeLine h)

theorem State.On.readFrom {flags d l : Nat} {places : List (Nat × Nat)} (h : s.On Q K) :
    (s.readFrom flags d l places).1.On Q K := by
  unfold State.readFrom
  split
  · exact h
  · refine .ite_fst h ?_
    extract_lets _ _
    split
    next s2 _ _ _ e =>
      have hs2 : s2.On Q K := State.On.of_eq (.codeAt h) e
      split
      · exact .recordPoison (.poisonLine hs2)
      · extract_lets _
        split
        next s21 _ _ _ e1 =>
          have hs21 : s21.On Q K := State.On.of_eq (.codeAt hs2) e1
          exact .recordPoison (.recordPoison (.poisonLine hs21))
        next s21 _ _ _ e1 =>
          have hs21 : s21.On Q K := State.On.of_eq (.codeAt hs2) e1
          exact .memEvent (.countErr (.recordCheck hs21))
    next s2 _ _ _ e =>
      have hs2 : s2.On Q K := State.On.of_eq (.codeAt h) e
      exact .recordCheck hs2

theorem State.On.readLine {flags d l : Nat} (h : s.On Q K) : (s.readLine flags d l).1.On Q K := .readFrom h

theorem State.On.storeCells {stack pl : Nat} (h : s.On Q K) : (s.storeCells stack pl).On Q K := by
  unfold State.storeCells
  extract_lets _ s1 w' _ hit
  have hs1 : s1.On Q K := .keep rfl rfl rfl rfl h
  have hw' : w'.On Q K := .updStk hs1
  have hhit : ∀ (first again : Cond), (hit first again).On Q K := fun _ _ => .keep rfl rfl rfl rfl hw'
  split
  · exact .ite (hhit _ _) hs1
  · exact .ite (hhit _ _) hs1
  · exact hs1

theorem State.On.writeLine {d l at_ : Nat} {data : List Byte} (h : s.On Q K) : (s.writeLine d l at_ data).1.On Q K := by
  unfold State.writeLine
  extract_lets _ cells
  have hcells : ∀ (u : State), u.On Q K → (cells u).On Q K := fun _ hu => .foldl (fun _ _ hu1 => .storeCells hu1) hu
  refine .ite_fst h (.ite_fst (hcells _ (.storeLine h)) ?_)
  split
  next s1 _ e =>
    have hs1 : s1.On Q K := State.On.of_eq (.readLine h) e
    exact .ite_fst hs1 (hcells _ (.storeLine hs1))

theorem State.On.writePoison {d l : Nat} (h : s.On Q) : (s.writePoison d l).On Q := .ite h (.poisonLine h)

theorem State.On.readRange {d off n : Nat} (h : s.On Q K) : (s.readRange d off n).1.On Q K :=
  .foldl_fst (fun _ _ hy => .readLine hy) h

theorem State.On.writeRange {d off : Nat} {data : List Byte} (h : s.On Q K) : (s.writeRange d off data).1.On Q K :=
  .foldl_fst (fun _ _ hy => .writeLine hy) h

theorem State.On.dropSnapshot {id : Nat} (h : s.On Q K) : (s.dropSnapshot id).On Q K := .keep rfl rfl rfl rfl h

theorem OptionOn.reserveFor {t n fuel : Nat} (h : s.On Q K) : OptionOn Q (s.reserveFor t n fuel) K := by
  induction fuel generalizing s with
  | zero => exact .none
  | succ fuel ih =>
    unfold State.reserveFor
    refine .ite (.some h) ?_
    split
    · exact .none
    · exact ih (.noteOnce (.dropSnapshot h))

theorem OptionOn.unshare {d b : Nat} (h : s.On Q K) : OptionOn Q (s.unshare d b) K := by
  unfold State.unshare
  refine .ite (.some h) ?_
  split
  · exact .some h
  · extract_lets _
    split
    · exact .none
    next u e1 =>
      have hu : u.On Q K := OptionOn.of_eq (.reserveFor h) e1
      exact .ite (.some hu) (.some (.keep rfl rfl rfl rfl hu))

theorem OptionOn.claimRange {d off n : Nat} (h : s.On Q K) : OptionOn Q (s.claimRange d off n) K := by
  unfold State.claimRange
  refine .ite (.some h) (.foldl (fun o i ho => ?_) (.some h))
  split
  · exact .none
  next v => exact .unshare (ho.of_eq rfl)

theorem State.On.withFound {found : List Damage} (h : s.On Q K) : (s.withFound found).On Q K := .keep rfl rfl rfl rfl h

/-! ### Queues (chapter 12) -/

theorem OptionOn.underGens {c : RunCmd} {f : State → Option State} (h : s.On Q) (hf : ∀ u, u.On Q → OptionOn Q (f u)) :
    OptionOn Q (s.underGens c f) :=
  .ite (hf _ h) (.map (hf _ (.upd rfl rfl h)) fun _ hu => .upd rfl rfl hu)

theorem State.On.updRun {q : Nat} {i : W32} {f : RunCmd → RunCmd} (h : s.On Q) : (s.updRun q i f).On Q :=
  (s.undisturbed_updRun q i f).on h

theorem State.On.endRun {q : Nat} {i : W32} {st : Status} {progress result : W64} (h : s.On Q K) :
    (s.endRun q i st progress result).On Q K :=
  .link (s.undisturbed_endRun q i st progress result) (s.sameDesk_endRun q i st progress result) h

theorem State.On.dropRun {q : Nat} {i : W32} (h : s.On Q) : (s.dropRun q i).On Q := .setQueue h

theorem State.On.writeRecord {q : Nat} {r : QueueRange} {c : RunCmd} {addPending : Bool} (h : s.On Q) :
    (s.writeRecord q r c addPending).On Q :=
  .writeRange h

theorem State.On.completeIn {q : Nat} {r : QueueRange} {c : RunCmd} (h : s.On Q) : (s.completeIn q r c).On Q := by
  unfold State.completeIn
  extract_lets _ _ _ s1 s2 s3 s4
  have hs1 : s1.On Q := .writeRecord h
  have hs2 : s2.On Q := .ite (.tenantAdd hs1) hs1
  have hs3 : s3.On Q := .ite (.note hs2) hs2
  have hs4 : s4.On Q := .dropRun hs3
  exact .ite hs4 (.retireSlots hs4)

theorem State.On.complete {q : Nat} {i : W32} (h : s.On Q) : (s.complete q i).On Q := by
  unfold State.complete
  split
  · exact .completeIn h
  · exact h

theorem State.On.beginQuantum {cls n : Nat} (h : s.On Q K) : (s.beginQuantum cls n).On Q K := .keep rfl rfl rfl rfl h

theorem State.On.served {q : Nat} {r : QueueRange} {n : Nat} (h : s.On Q) :
    (s.served q r n).On Q := .upd rfl rfl (.beginQuantum h)

theorem State.On.addRun {q : Nat} {c : RunCmd} (h : s.On Q) : (s.addRun q c).On Q := .setQueue h

theorem State.On.continuePreempted {q : Nat} {r : QueueRange} {c : RunCmd} (h : s.On Q) :
    (s.continuePreempted q r c).On Q := by
  unfold State.continuePreempted
  split
  · exact h
  · exact .updRun (.served h)

theorem State.On.dispatchNext {q : Nat} {r : QueueRange} {u : Queue} (h : s.On Q) : (s.dispatchNext q r u).On Q := by
  unfold State.dispatchNext
  extract_lets _ r0 _ rest s1 _ verdict
  have hr0 : r0.1.On Q := .readRange h
  have hrest : rest.1.On Q := .foldl_fst (fun _ _ hy => .readRange hy) hr0
  have hs1 : s1.On Q := hrest
  refine .ite h ?_
  clear_value verdict
  split
  · exact .addRun hs1
  · refine .ite h ?_
    split
    · exact h
    · exact .addRun (.served hs1)

theorem State.On.dispatch {q : Nat} (h : s.On Q) : (s.dispatch q).On Q := by
  unfold State.dispatch
  split
  · exact h
  · extract_lets _
    refine .ite h ?_
    split
    · exact .ite (.continuePreempted h) h
    · exact .dispatchNext h

theorem State.On.stopRuns {p : Nat → RunCmd → Bool} {st : Status} (h : s.On Q) : (s.stopRuns p st).On Q :=
  .foldl (fun _ _ hu => .setQueue hu) h

theorem State.On.resumePoint {q : Nat} {i : W32} (h : s.On Q) : (s.resumePoint q i).On Q := by
  unfold State.resumePoint
  split
  · refine .ite h ?_
    extract_lets _ s1 _
    have hs1 : s1.On Q := .ite (.upd rfl rfl h) h
    split
    · exact .ite hs1 (.ite (.updRun hs1) (.endRun hs1))
    · exact .ite (.ite hs1 (.updRun hs1)) (.ite (.updRun hs1) hs1)
  · exact h

/-! ### What a port sends (chapter 6) -/

theorem State.On.transportError {p : Nat} (h : s.On Q) : (s.transportError p).On Q := .updPort h

theorem State.On.portEvent {e : Ev} {p a c : Nat} (h : s.On Q) : (s.portEvent e p a c).On Q :=
  (s.undisturbed_portEvent e p a c).on h

theorem State.On.countTx {p n : Nat} (h : s.On Q) : (s.countTx p n).On Q := (s.undisturbed_countTx p n).on h
theorem State.On.countRx {p : Nat} (h : s.On Q) : (s.countRx p).On Q := .ite (.counterWrap (.setPort h)) (.setPort h)

theorem State.On.emitFlits {p : Nat} {raws : List (List Byte)} (h : s.On Q) : (s.emitFlits p raws).On Q :=
  (s.undisturbed_emitFlits p raws).on h

theorem State.On.emitGone {p : Nat} {g : Gone} (h : s.On Q) : (s.emitGone p g).On Q := (s.undisturbed_emitGone p g).on h
theorem State.On.creditOnly {p : Nat} (h : s.On Q) : (s.creditOnly p).On Q := (s.undisturbed_creditOnly p).on h
theorem State.On.pump {p : Nat} (h : s.On Q) : (s.pump p).On Q := (s.undisturbed_pump p).on h
theorem State.On.launchNow {p : Nat} {m : Msg} (h : s.On Q) : (s.launchNow p m).On Q := .countTx (.emitGone (.setPort h))

theorem State.On.sendVc3 {p kind : Nat} {fields : List Byte} (h : s.On Q) : (s.sendVc3 p kind fields).On Q :=
  (s.undisturbed_sendVc3 p kind fields).on h

theorem State.On.sendIdle {p : Nat} (h : s.On Q) : (s.sendIdle p).On Q := (s.undisturbed_sendIdle p).on h
theorem State.On.sendNak {p : Nat} (h : s.On Q) : (s.sendNak p).On Q := .ite (.setPort h) (.emit (.setPort h))

theorem State.On.sendTrain {p : Nat} {bytes : List Byte} (h : s.On Q) : (s.sendTrain p bytes).On Q :=
  .emitFlits (.updPort h)

theorem State.On.respond {op : Nat} {r : Req} {x : Reply} (h : s.On Q K) : (s.respond op r x).On Q K :=
  .link (s.undisturbed_respond op r x) (s.sameDesk_respond op r x) h

theorem State.On.bindEp {ep p : Nat} {cert : List Byte} {chain : List (List Byte)} (h : s.On Q) :
    (s.bindEp ep p cert chain).On Q := by
  unfold State.bindEp
  split
  · exact h
  · exact .ite (.upd rfl rfl h) (.upd rfl rfl h)

theorem State.On.assignAll (h : s.On Q K) : s.assignAll.On Q K := .link (s.undisturbed_assignAll) (s.sameDesk_assignAll) h

theorem State.On.issue {issuer : Issuer} {opcode dst drawer offset : Nat} {word : W64} {data : List Byte} {place : Nat}
    (h : s.On Q K) : (s.issue issuer opcode dst drawer offset word data place).On Q K :=
  .link (s.undisturbed_issue issuer opcode dst drawer offset word data place) (s.sameDesk_issue issuer opcode dst drawer offset word data place) h

theorem State.On.endTransfer {q : Nat} {i : W32} {st : Status} {o : OutReq} (h : s.On Q) : (s.endTransfer q i st o).On Q :=
  (s.undisturbed_endTransfer q i st o).on h

theorem State.On.outDone {o : OutReq} {st : Status} (h : s.On Q) : (s.outDone o st).On Q :=
  (s.undisturbed_outDone o st).on h

theorem State.On.flush {p : Nat} (h : s.On Q) : (s.flush p).On Q := (s.undisturbed_flush p).on h
theorem State.On.endSession {p : Nat} (h : s.On Q) : (s.endSession p).On Q := (s.undisturbed_endSession p).on h

theorem State.On.fullReset {p : Nat} {dark : Bool} (h : s.On Q) : (s.fullReset p dark).On Q :=
  (s.undisturbed_fullReset p dark).on h

theorem State.On.linkDown {p cause : Nat} (h : s.On Q) : (s.linkDown p cause).On Q :=
  (s.undisturbed_linkDown p cause).on h

theorem State.On.goHold {p cause : Nat} (h : s.On Q) : (s.goHold p cause).On Q := .ite h (.updPort (.linkDown h))

theorem State.On.flushReset {p cause : Nat} {raiseDown : Bool} (h : s.On Q) : (s.flushReset p cause raiseDown).On Q :=
  .fullReset (.flush (.ite (.linkDown h) h))

theorem State.On.protocolDown {p : Nat} (h : s.On Q) : (s.protocolDown p).On Q := .flushReset (.portEvent h)

theorem State.On.plannedDown {p : Nat} {dark : Bool} (h : s.On Q) : (s.plannedDown p dark).On Q :=
  (s.undisturbed_plannedDown p dark).on h

theorem State.On.forcedDown {p reason : Nat} (h : s.On Q) : (s.forcedDown p reason).On Q :=
  (s.undisturbed_forcedDown p reason).on h

theorem State.On.sendPlanned {p reason : Nat} (h : s.On Q) : (s.sendPlanned p reason).On Q :=
  (s.undisturbed_sendPlanned p reason).on h

theorem State.On.quiesce {p reason : Nat} (h : s.On Q) : (s.quiesce p reason).On Q :=
  .ite (.updPort (.sendVc3 h)) (.ite (.sendPlanned h) (.ite (.updPort h) (.updPort h)))

theorem State.On.quiesceStep {p : Nat} (h : s.On Q) : (s.quiesceStep p).On Q := (s.undisturbed_quiesceStep p).on h
theorem State.On.afterFlit {p : Nat} (h : s.On Q K) : (s.afterFlit p).On Q K := .link (s.undisturbed_afterFlit p) (s.sameDesk_afterFlit p) h
theorem State.On.resumeTraffic {p : Nat} (h : s.On Q) : (s.resumeTraffic p).On Q := .assignAll (.afterFlit h)

/-! ### Link training (chapter 6) -/

theorem State.On.failAttempt {p : Nat} {long : Bool} (h : s.On Q) : (s.failAttempt p long).On Q := .updPort (.endSession h)

theorem State.On.sendWords {p : Nat} {pass : BitVec 8} {phase : Nat} (h : s.On Q) : (s.sendWords p pass phase).On Q := by
  unfold State.sendWords
  split
  · exact h
  · exact .emit h

theorem State.On.sendKaFail {p reason : Nat} (h : s.On Q) : (s.sendKaFail p reason).On Q :=
  .ite (.launchNow h) (.sendTrain h)

theorem State.On.refusePeer {p reason : Nat} (h : s.On Q) : (s.refusePeer p reason).On Q :=
  .failAttempt (.ite (.portEvent (.sendKaFail h)) (.sendKaFail h))

theorem State.On.bindPeer {p : Nat} (h : s.On Q) : (s.bindPeer p).On Q := by
  unfold State.bindPeer
  split
  · exact .ite h (.updPort (.bindEp h))
  · exact h

theorem State.On.comeUp {p : Nat} (h : s.On Q) : (s.comeUp p).On Q := by
  unfold State.comeUp
  exact .settle (.resumeTraffic (.portEvent (.updPort h)))

theorem State.On.openSession {p : Nat} (h : s.On Q) : (s.openSession p).On Q :=
  .ite (.refusePeer h) (.bindPeer (.launchNow (.updPort h)))

theorem State.On.beginAgreement {p : Nat} (h : s.On Q) : (s.beginAgreement p).On Q :=
  .sendTrain (.sendTrain (.updPort (.draw (.draw h))))

theorem ResOn.execTrainingStepDone {p : Fin 32} {receives : BitVec 8} {words : List (Fin 8 × List Byte)} (h : s.On Q) :
    ResOn Q (execTrainingStepDone p receives words s) := by
  unfold Machine.execTrainingStepDone
  extract_lets _ _
  refine .ite (.next h) ?_
  split
  · exact .next (.sendWords (.setPort h))
  · exact .next (.sendWords (.setPort h))
  · exact .next (.sendWords (.setPort h))
  · split
    · exact .next h
    · split
      · exact .next (.failAttempt h)
      · exact .next (.sendWords (.setPort h))
  · exact .next (.beginAgreement h)
  · exact .ite (.next (.openSession h)) (.next h)
  · exact .ite (.next (.comeUp (.portInput h))) (.next h)
  · exact .next h

theorem ResOn.execTrainingStepTimeout {p : Fin 32} (h : s.On Q) : ResOn Q (execTrainingStepTimeout p s) :=
  .ite (.next (.failAttempt h)) (.next h)

theorem ResOn.execTrainingRetryPauseExpiry {p : Fin 32} (h : s.On Q) : ResOn Q (execTrainingRetryPauseExpiry p s) :=
  .ite (.next (.setPort h)) (.next h)

theorem ResOn.execTrainFailTimer {p : Fin 32} (h : s.On Q) : ResOn Q (execTrainFailTimer p s) :=
  .ite (.next (.portEvent (.setPort (.portInput h)))) (.next h)

theorem ResOn.execSynthLockTimeout {p : Fin 32} (h : s.On Q) : ResOn Q (execSynthLockTimeout p s) := by
  unfold Machine.execSynthLockTimeout
  extract_lets _ _ s1
  have hs1 : s1.On Q := .portEvent (.setPort (.portInput h))
  exact .ite (.next h) (.next (.settle (.ite (.failAttempt hs1) (.goHold hs1))))

theorem State.On.startRun {p : Nat} {a : Option Nat} (h : s.On Q) : (s.startRun p a).On Q :=
  .ite (.pump h) (.ite (.setPort h) (.countTx (.emitFlits (.setPort h))))

theorem State.On.afterSlot {p : Nat} (h : s.On Q) : (s.afterSlot p).On Q := by
  unfold State.afterSlot
  refine .ite h ?_
  extract_lets s1
  have hs1 : s1.On Q := .ite (.sendNak h) h
  split
  · exact .startRun hs1
  · exact .afterFlit hs1

theorem ResOn.execQuietSlotAnnounce {p : Fin 32} {len start : Nat} (h : s.On Q) :
    ResOn Q (execQuietSlotAnnounce p len start s) :=
  .ite (.next (.sendVc3 (.setPort h))) (.next h)

theorem ResOn.execQuietSlotStart {p : Fin 32} (h : s.On Q) : ResOn Q (execQuietSlotStart p s) := by
  unfold Machine.execQuietSlotStart
  extract_lets _ _ _
  refine .next ?_
  split
  · refine .ite (.setPort h) ?_
    split
    · exact .ite (.setPort h) h
    · exact h
  · exact .ite (.setPort h) h
  · exact h

theorem ResOn.execQuietSlotEnd {p : Fin 32} (h : s.On Q) : ResOn Q (execQuietSlotEnd p s) :=
  .ite (.next (.afterSlot (.setPort h))) (.ite (.next (.afterSlot (.setPort h))) (.next h))

theorem ResOn.execQuietDeferralExpiry {p : Fin 32} (h : s.On Q) : ResOn Q (execQuietDeferralExpiry p s) := by
  unfold Machine.execQuietDeferralExpiry
  extract_lets _
  split
  · exact .ite (.next (.setPort h)) (.next h)
  · exact .next h

theorem ResOn.execFloodAssert {p : Fin 32} (h : s.On Q) : ResOn Q (execFloodAssert p s) := by
  unfold Machine.execFloodAssert
  extract_lets _ s1 s2
  have hs1 : s1.On Q := .setPort h
  have hs2 : s2.On Q := .goHold (.portInput hs1)
  exact .ite (.next hs1) (.next (.ite hs2 (.portEvent (.updPort hs2))))

theorem ResOn.execFloodDebounceExpiry {p : Fin 32} (h : s.On Q) : ResOn Q (execFloodDebounceExpiry p s) :=
  .ite (.next (.setPort h)) (.next (.setPort h))

theorem ResOn.execLaneAlarmAssert {p : Fin 32} {lane : Fin 8} (h : s.On Q) : ResOn Q (execLaneAlarmAssert p lane s) :=
  .next (.settle (.ite (.goHold (.setPort (.portInput h))) (.setPort (.portInput h))))

theorem ResOn.execLaneAlarmClear {p : Fin 32} {lane : Fin 8} (h : s.On Q) : ResOn Q (execLaneAlarmClear p lane s) :=
  .next (.settle (.updPort (.portInput h)))

theorem ResOn.execLossOfSignal {p : Fin 32} (h : s.On Q) : ResOn Q (execLossOfSignal p s) :=
  .ite (.next (.goHold (.portInput h))) (.next h)

theorem ResOn.execResumeRetrainDone {p : Fin 32} (h : s.On Q) : ResOn Q (execResumeRetrainDone p s) := by
  unfold Machine.execResumeRetrainDone
  extract_lets _ s1
  have hs1 : s1.On Q := .sendNak (.setPort (.portInput h))
  exact .ite (.next h) (.ite (.next (.settle (.assignAll (.portEvent hs1))))
    (.ite (.next (.resumeTraffic (.setPort h))) (.next h)))

theorem ResOn.execGraceExpiry {p : Fin 32} (h : s.On Q) : ResOn Q (execGraceExpiry p s) :=
  .ite (.next (.settle (.flushReset (.portInput h)))) (.next h)

theorem ResOn.execQuiesceBoundExpiry {p : Fin 32} (h : s.On Q) : ResOn Q (execQuiesceBoundExpiry p s) := by
  unfold Machine.execQuiesceBoundExpiry
  split
  · exact .next h
  · exact .ite (.next h) (.next (.forcedDown (.portInput h)))

theorem ResOn.execDozeExpiry {p : Fin 32} (h : s.On Q) : ResOn Q (execDozeExpiry p s) := by
  unfold Machine.execDozeExpiry
  extract_lets _
  split
  · exact .next h
  · exact .ite (.next (.setPort h)) (.next h)

theorem ResOn.execDarkDozeWake {p : Fin 32} (h : s.On Q) : ResOn Q (execDarkDozeWake p s) := by
  unfold Machine.execDarkDozeWake
  extract_lets _
  split
  · exact .next h
  · exact .ite (.next (.setPort h)) (.next h)

theorem ResOn.execDozeSearchExpiry {p : Fin 32} (h : s.On Q) : ResOn Q (execDozeSearchExpiry p s) :=
  .ite (.next (.goHold (.portEvent (.portInput h)))) (.next h)

theorem ResOn.execDozeLightWake {p : Fin 32} (h : s.On Q) : ResOn Q (execDozeLightWake p s) := by
  unfold Machine.execDozeLightWake
  extract_lets _
  split
  · exact .next h
  · exact .ite (.next (.setPort h)) (.next h)

theorem ResOn.execDozeAmbientExpiry {p : Fin 32} {trainingWord unmodulated : Bool} (h : s.On Q) :
    ResOn Q (execDozeAmbientExpiry p trainingWord unmodulated s) := by
  unfold Machine.execDozeAmbientExpiry
  extract_lets _
  split
  · exact .next h
  · exact .ite (.next (.portEvent (.setPort (.portInput h)))) (.next h)

/-! ### Flits, credits and dozing (chapters 6 and 7) -/

theorem State.On.countFlitError {p i : Nat} (h : s.On Q) : (s.countFlitError p i).On Q :=
  .ite h (.ite (.setPort h) (.ite (.goHold (.setPort h)) (.setPort h)))

theorem State.On.startNak {p : Nat} {repeats : Bool} (h : s.On Q) : (s.startNak p repeats).On Q :=
  .ite h (.sendNak (.setPort h))

theorem State.On.lostPosition {p : Nat} (h : s.On Q) : (s.lostPosition p).On Q := .ite (.startNak h) h
theorem State.On.adapted {p : Nat} {f : Flit} (h : s.On Q) : (s.adapted p f).On Q := .ite h (.setPort h)
theorem State.On.arrives {p : Nat} {f : Flit} (h : s.On Q) : (s.arrives p f).On Q := .setPort (.adapted h)

theorem State.On.checked {p : Nat} {f : Flit} {ok : State → State} (h : s.On Q) (hok : ∀ u, u.On Q → (ok u).On Q) :
    (s.checked p f ok).On Q := by
  unfold State.checked
  extract_lets _ s1
  have hs1 : s1.On Q := .arrives h
  exact .ite hs1 (.ite (.lostPosition (.foldl (fun _ _ hu => .countFlitError hu) hs1))
    (.ite (.lostPosition (.countFlitError hs1)) (hok _ hs1)))

theorem State.On.acked {p : Nat} {m : Msg} (h : s.On Q) : (s.acked p m).On Q := by
  unfold State.acked
  split
  · exact .freeWait h
  · exact .ite (.updPort h) (.ite (.updPort h) h)
  · exact h

theorem State.On.takeAck {p a : Nat} (h : s.On Q) : (s.takeAck p a).On Q :=
  .ite h (.foldl (fun _ _ hu => .acked hu) (.setPort h))

theorem State.On.takeIdle {tagOk : Bool} {p : Nat} {f : Flit} (h : s.On Q) : (State.takeIdle tagOk s p f).On Q := by
  unfold State.takeIdle
  extract_lets _ _
  exact .ite (.countFlitError h) (.ite (.settle (.protocolDown h)) (.afterFlit (.takeAck (.setPort h))))

theorem ResOn.execIdleFlit {p : Fin 32} {f : Flit} (h : s.On Q) : ResOn Q (execIdleFlit p f s) :=
  .next (.checked h fun _ ha => .takeIdle ha)

theorem State.On.acceptData {p : Nat} {f : Flit} {plain : List Byte} (h : s.On Q) : (s.acceptData p f plain).On Q := by
  unfold State.acceptData
  extract_lets _
  split
  · exact .protocolDown h
  · exact .afterFlit (.takeAck (.countRx (.setPort h)))

theorem State.On.takeData {plain : Option (List Byte)} {p : Nat} {f : Flit} (h : s.On Q) :
    (State.takeData plain s p f).On Q := by
  unfold State.takeData
  extract_lets _ s1
  have hs1 : s1.On Q := .countFlitError h
  refine .ite ?_ (.ite (.startNak h) h)
  split
  · exact .settle (.acceptData h)
  · exact .ite (.startNak hs1) hs1

theorem ResOn.execDataFlit {p : Fin 32} {f : Flit} (h : s.On Q) : ResOn Q (execDataFlit p f s) :=
  .next (.checked h fun _ ha => .takeData ha)

theorem State.On.takeNak {tagOk : Bool} {p : Nat} {f : Flit} (h : s.On Q) : (State.takeNak tagOk s p f).On Q := by
  unfold State.takeNak
  extract_lets _ _ _ s1
  have hs1 : s1.On Q := .setPort h
  exact .ite (.countFlitError h) (.ite (.settle (.protocolDown h)) (.ite (.afterFlit hs1)
    (.ite hs1 (.quiesceStep (.startRun (.takeAck hs1))))))

theorem ResOn.execNakFlit {p : Fin 32} {f : Flit} (h : s.On Q) : ResOn Q (execNakFlit p f s) :=
  .next (.checked h fun _ ha => .takeNak ha)

theorem ResOn.execReplayRunDone {p : Fin 32} (h : s.On Q) : ResOn Q (execReplayRunDone p s) :=
  .ite (.next h) (.next (.afterFlit (.setPort h)))

theorem ResOn.execReplayTimerExpiry {p : Fin 32} (h : s.On Q) : ResOn Q (execReplayTimerExpiry p s) := by
  unfold Machine.execReplayTimerExpiry
  extract_lets _ _ s1 s2
  have hs1 : s1.On Q := .setPort h
  have hs2 : s2.On Q := .portInput hs1
  exact .ite (.next h) (.ite (.next (.startRun hs1)) (.next (.ite (.goHold hs2) (.failAttempt hs2))))

theorem ResOn.execNakRepeatExpiry {p : Fin 32} (h : s.On Q) : ResOn Q (execNakRepeatExpiry p s) :=
  .ite (.next (.sendNak h)) (.next h)

theorem ResOn.execCreditReturnTimer {p : Fin 32} (h : s.On Q) : ResOn Q (execCreditReturnTimer p s) :=
  .ite (.next (.creditOnly h)) (.next h)

theorem ResOn.execErrorSubwindow {p : Fin 32} (h : s.On Q) : ResOn Q (execErrorSubwindow p s) :=
  .ite (.next (.setPort h)) (.next h)

theorem State.On.takeTrain {p : Nat} {f : Flit} (h : s.On Q) : (s.takeTrain p f).On Q := by
  unfold State.takeTrain
  extract_lets _
  split
  · exact .refusePeer h
  · exact .ite (.refusePeer h) (.setPort h)

theorem ResOn.execTrainFlit {p : Fin 32} {f : Flit} (h : s.On Q) : ResOn Q (execTrainFlit p f s) := by
  unfold Machine.execTrainFlit
  extract_lets _ _
  exact .ite (.next (.ite (.failAttempt (.arrives h)) (.ite (.arrives h) (.takeTrain (.arrives h)))))
    (.ite (.next (.settle (.flushReset (.portInput h)))) (.next (.checked h fun _ ha => .ite
    (.settle (.protocolDown (.portInput ha))) (.countFlitError ha))))

theorem State.On.vc3Row {p kind : Nat} {fields : List Byte} {train data : State → List Byte → State} (h : s.On Q)
    (htrain : ∀ u x, u.On Q → (train u x).On Q) (hdata : ∀ u x, u.On Q → (data u x).On Q) :
    (s.vc3Row p kind fields train data).On Q := by
  unfold State.vc3Row
  split
  · exact h
  · extract_lets s1
    have hs1 : s1.On Q := .updPort h
    exact .ite (.ite (htrain _ _ hs1) hs1) (.ite (hdata _ _ hs1) hs1)

theorem State.On.violates {p : Nat} {x : List Byte} (h : s.On Q) : (State.violates p s x).On Q := .settle (.protocolDown h)
theorem State.On.malformed {p : Nat} {x : List Byte} (h : s.On Q) : (State.malformed p s x).On Q := .refusePeer h

theorem State.On.takeHello {p : Nat} {f : List Byte} (h : s.On Q) : (State.takeHello p s f).On Q := by
  unfold State.takeHello
  split
  · exact h
  · exact .ite (.refusePeer h) (.ite (.refusePeer h) (.updPort h))

theorem ResOn.execKaHello {p : Fin 32} {fields : List Byte} (h : s.On Q) : ResOn Q (execKaHello p fields s) :=
  .next (.vc3Row h (fun _ _ ha => .takeHello ha) fun _ _ ha => .violates ha)

theorem State.On.acceptCert {p : Nat} {k : Agreement} {hello cert link : List Byte} {chain : List (List Byte)} (h : s.On Q) :
    (s.acceptCert p k hello cert link chain).On Q :=
  .sendTrain (.updPort h)

theorem State.On.takeCert {p : Nat} {f : List Byte} (h : s.On Q) : (State.takeCert p s f).On Q := by
  unfold State.takeCert
  split
  · exact h
  · split
    · exact .ite (.refusePeer h) (.ite (.refusePeer h) (.ite (.refusePeer h) (.ite (.refusePeer h) (.acceptCert h))))
    · exact .refusePeer h

theorem ResOn.execKaCert {p : Fin 32} {fields : List Byte} (h : s.On Q) : ResOn Q (execKaCert p fields s) :=
  .next (.vc3Row h (fun _ _ ha => .takeCert ha) fun _ _ ha => .violates ha)

theorem State.On.takeFinish {p : Nat} {f : List Byte} (h : s.On Q) : (State.takeFinish p s f).On Q := by
  unfold State.takeFinish
  split
  · exact .ite (.refusePeer h) (.ite (.refusePeer h) (.updPort h))
  · exact .refusePeer h
  · exact h

theorem ResOn.execKaFinish {p : Fin 32} {fields : List Byte} (h : s.On Q) : ResOn Q (execKaFinish p fields s) :=
  .next (.vc3Row h (fun _ _ ha => .takeFinish ha) fun _ _ ha => .violates ha)

theorem State.On.bindPeerEp {c : Instr} {p ep : Nat} {chain : List (List Byte)} {ok : Bool} (h : s.On Q) :
    (s.bindPeerEp c p ep chain ok).On Q :=
  .ite (.bindEp (.portInput h)) h

theorem State.On.takeBindTrain {c : Instr} {p : Nat} {f : List Byte} (h : s.On Q) : (State.takeBindTrain c p s f).On Q := by
  unfold State.takeBindTrain
  split
  · exact .refusePeer h
  · exact .ite (.refusePeer h) (.assignAll (.sendTrain (.bindPeerEp h)))

theorem State.On.takeBindData {c : Instr} {p : Nat} {f : List Byte} (h : s.On Q) : (State.takeBindData c p s f).On Q := by
  unfold State.takeBindData
  split
  · exact .settle (.protocolDown h)
  · exact .assignAll (.sendVc3 (.bindPeerEp h))

theorem ResOn.execKaBind {p : Fin 32} {ep : BitVec 16} {rest : List Byte} (h : s.On Q) : ResOn Q (execKaBind p ep rest s) :=
  .next (.vc3Row h (fun _ _ ha => .takeBindTrain ha) fun _ _ ha => .takeBindData ha)

theorem ResOn.execKaBindAck {p : Fin 32} {ep : BitVec 16} {status : BitVec 8} (h : s.On Q) :
    ResOn Q (execKaBindAck p ep status s) :=
  .next (.vc3Row h (fun _ _ ha => .malformed ha) fun _ _ ha => .afterFlit ha)

theorem State.On.takeFail {p : Nat} {f : List Byte} (h : s.On Q) : (State.takeFail p s f).On Q :=
  .failAttempt (.ite (.portEvent h) h)

theorem ResOn.execKaFail {p : Fin 32} {reason : BitVec 8} (h : s.On Q) : ResOn Q (execKaFail p reason s) :=
  .next (.vc3Row h (fun _ _ ha => .takeFail ha) fun _ _ ha => .ite (.settle (.protocolDown ha)) (.takeFail ha))

theorem State.On.takeCreditInit {p : Nat} {f : List Byte} (h : s.On Q) : (State.takeCreditInit p s f).On Q :=
  .ite (.settle (.protocolDown h)) (.ite (.refusePeer h) (.setPort h))

theorem ResOn.execCreditInit {p : Fin 32} {vc0 vc1 vc2 : BitVec 16} (h : s.On Q) :
    ResOn Q (execCreditInit p vc0 vc1 vc2 s) :=
  .next (.vc3Row h (fun _ _ ha => .malformed ha) fun _ _ ha => .takeCreditInit ha)

theorem State.On.takeQuietReq {p pos : Nat} {f : List Byte} (h : s.On Q) : (State.takeQuietReq p pos s f).On Q :=
  .ite (.sendVc3 (.updPort h)) (.afterFlit h)

theorem ResOn.execQuietReq {p : Fin 32} {len start : BitVec 16} (h : s.On Q) : ResOn Q (execQuietReq p len start s) :=
  .next (.vc3Row h (fun _ _ ha => .malformed ha) fun _ _ ha => .takeQuietReq ha)

theorem ResOn.execQuietAck {p : Fin 32} {len start : BitVec 16} (h : s.On Q) : ResOn Q (execQuietAck p len start s) :=
  .next (.vc3Row h (fun _ _ ha => .malformed ha) fun _ _ ha => .afterFlit (.updPort ha))

theorem State.On.takeDozeReq {p : Nat} {f : List Byte} (h : s.On Q) : (State.takeDozeReq p s f).On Q := by
  unfold State.takeDozeReq
  extract_lets _ _
  exact .ite (.settle (.protocolDown h)) (.ite (.sendVc3 h) (.ite (.sendVc3 h) (.ite (.sendVc3 h) (.sendVc3 (.setPort h)))))

theorem ResOn.execDozeReq {p : Fin 32} {kind : BitVec 8} {d : BitVec 32} (h : s.On Q) : ResOn Q (execDozeReq p kind d s) :=
  .next (.vc3Row h (fun _ _ ha => .malformed ha) fun _ _ ha => .takeDozeReq ha)

theorem State.On.dozeStep {p : Nat} (h : s.On Q) : (s.dozeStep p).On Q := (s.undisturbed_dozeStep p).on h

theorem State.On.takeDozeAck {p : Nat} {f : List Byte} (h : s.On Q) : (State.takeDozeAck p s f).On Q := by
  unfold State.takeDozeAck
  extract_lets _
  split
  · exact .afterFlit h
  · exact .ite (.dozeStep (.ite (.setPort h) (.sendIdle (.setPort h)))) (.afterFlit h)

theorem ResOn.execDozeAck {p : Fin 32} {kind : BitVec 8} {d : BitVec 32} (h : s.On Q) : ResOn Q (execDozeAck p kind d s) :=
  .next (.vc3Row h (fun _ _ ha => .malformed ha) fun _ _ ha => .takeDozeAck ha)

theorem ResOn.execDozeRefuse {p : Fin 32} {reason : BitVec 8} (h : s.On Q) : ResOn Q (execDozeRefuse p reason s) :=
  .next (.vc3Row h (fun _ _ ha => .malformed ha) fun _ _ ha => .afterFlit (.updPort ha))

theorem ResOn.execQuiesceReq {p : Fin 32} (h : s.On Q) : ResOn Q (execQuiesceReq p s) :=
  .next (.vc3Row h (fun _ _ ha => .malformed ha) fun _ _ ha => .afterFlit (.updPort ha))

theorem ResOn.execQuiesceDone {p : Fin 32} (h : s.On Q) : ResOn Q (execQuiesceDone p s) :=
  .next (.vc3Row h (fun _ _ ha => .malformed ha) fun _ _ ha => .settle (.afterFlit (.updPort ha)))

theorem ResOn.execLinkDownPlanned {p : Fin 32} {reason : BitVec 8} (h : s.On Q) : ResOn Q (execLinkDownPlanned p reason s) :=
  .next (.vc3Row h (fun _ _ ha => .malformed ha) fun _ _ ha => .settle (.plannedDown (.portInput ha)))

/-! ### Requests and responses (chapters 8 and 11) -/

theorem State.On.learnId {r : Req} (h : s.On Q) : (s.learnId r).On Q := by
  unfold State.learnId
  split
  · exact h
  · exact .ite (.assignAll (.upd rfl rfl h)) h

theorem State.On.park {op : Nat} {r : Req} {failed : Option Status} {live : Bool} (h : s.On Q) :
    (s.park op r failed live).On Q :=
  .upd rfl rfl h

theorem State.On.settleServed {op : Nat} {r : Req} {x : Served} (h : x.1.On Q) : (settleServed op r x).On Q := by
  unfold Machine.settleServed
  split
  · exact .afterFlit (.respond h)
  · exact .park h

theorem State.On.takeReq {op : Nat} {r : Req} {m : RxMsg} (h : s.On Q) : (s.takeReq op r m).On Q := by
  unfold State.takeReq
  extract_lets _ s1
  have hs1 : s1.On Q := .updPort h
  split
  · exact .updPort hs1
  · exact .updPort hs1

theorem State.On.judge {op : Nat} {r : Req} {fmt : Bool} {check : State → Req → Option Status} {serve : State → Req → Served}
    (h : s.On Q) (hserve : ∀ u x, u.On Q → (serve u x).1.On Q) : (s.judge op r fmt check serve).On Q := by
  unfold State.judge
  extract_lets _ s1 verdict
  have hs1 : s1.On Q := .ite (.withFound (.learnId h)) h
  refine .ite (.park hs1) ?_
  clear_value verdict
  split
  · exact .afterFlit (.respond hs1)
  · exact .settleServed (hserve _ _ hs1)

theorem State.On.admitReq {op : Nat} {r : Req} {fmt : Bool} {check : State → Req → Option Status}
    {serve : State → Req → Served} (h : s.On Q) (hserve : ∀ u x, u.On Q → (serve u x).1.On Q) :
    (s.admitReq op r fmt check serve).On Q := by
  unfold State.admitReq
  split
  · exact h
  · extract_lets s1
    have hs1 : s1.On Q := .takeReq h
    exact .ite (.transportError hs1) (.settle (.judge hs1 fun _ _ ha => hserve _ _ ha))

theorem State.On.request {c : Instr} {op : Nat} {r : Req} {fmt : Bool} {check : State → Req → Option Status}
    {serve : State → Req → Served} (h : s.On Q) (hserve : ∀ u x, u.On Q → (serve u x).1.On Q) :
    (s.request c op r fmt check serve).On Q :=
  .ite h (.deliver h fun _ ha => .admitReq ha fun _ _ ha1 => hserve _ _ ha1)

theorem State.On.serveRead {r : Req} (h : s.On Q K) : (s.serveRead r).1.On Q K := .readRange h
theorem ResOn.execRead {r : Req} (h : s.On Q) : ResOn Q (execRead r s) := .next (.request h fun _ _ ha => .serveRead ha)

theorem State.On.serveWrite {r : Req} (h : s.On Q K) : (s.serveWrite r).1.On Q K := by
  unfold State.serveWrite
  split
  · exact h
  next u e =>
    have hu : u.On Q K := OptionOn.of_eq (.claimRange h) e
    exact .writeRange hu

theorem ResOn.execWrite {r : Req} (h : s.On Q) : ResOn Q (execWrite r s) := .next (.request h fun _ _ ha => .serveWrite ha)

theorem State.On.serveAtomic {n : Nat} {f : List Byte → Option (List Byte)} {answer : List Byte → Reply} {r : Req}
    (h : s.On Q K) : (State.serveAtomic n f answer s r).1.On Q K := by
  unfold State.serveAtomic
  extract_lets _ _
  split
  · exact h
  next u e =>
    have hu : u.On Q K := OptionOn.of_eq (.claimRange h) e
    extract_lets x'
    have hx' : x'.1.On Q K := .readRange hu
    refine .ite_fst hx' ?_
    split
    · exact hx'
    · exact .writeRange hx'

theorem State.On.serveFadd {r : Req} (h : s.On Q K) : (s.serveFadd r).1.On Q K := .serveAtomic h
theorem State.On.serveCas64 {r : Req} (h : s.On Q K) : (s.serveCas64 r).1.On Q K := .serveAtomic h
theorem State.On.serveCas128 {r : Req} (h : s.On Q K) : (s.serveCas128 r).1.On Q K := .serveAtomic h

theorem ResOn.execFadd64 {r : Req} (h : s.On Q) : ResOn Q (execFadd64 r s) :=
  .next (.request h fun _ _ ha => .serveFadd ha)

theorem ResOn.execCas64 {r : Req} (h : s.On Q) : ResOn Q (execCas64 r s) := .next (.request h fun _ _ ha => .serveCas64 ha)

theorem ResOn.execCas128 {r : Req} (h : s.On Q) : ResOn Q (execCas128 r s) :=
  .next (.request h fun _ _ ha => .serveCas128 ha)

theorem State.On.serveSync {op : CounterOp} {r : Req} (h : s.On Q K) : (State.serveSync op s r).1.On Q K := .counterDo h
theorem State.On.serveSyncAdd {r : Req} (h : s.On Q K) : (s.serveSyncAdd r).1.On Q K := .serveSync h
theorem State.On.serveSyncSet {r : Req} (h : s.On Q K) : (s.serveSyncSet r).1.On Q K := .serveSync h
theorem State.On.serveSyncRead {r : Req} (h : s.On Q K) : (s.serveSyncRead r).1.On Q K := .serveSync h
theorem State.On.serveSyncWait {r : Req} (h : s.On Q K) : (s.serveSyncWait r).1.On Q K := .serveSync h

theorem ResOn.execSyncAdd {r : Req} (h : s.On Q) : ResOn Q (execSyncAdd r s) :=
  .next (.request h fun _ _ ha => .serveSyncAdd ha)

theorem ResOn.execSyncSet {r : Req} (h : s.On Q) : ResOn Q (execSyncSet r s) :=
  .next (.request h fun _ _ ha => .serveSyncSet ha)

theorem ResOn.execSyncRead {r : Req} (h : s.On Q) : ResOn Q (execSyncRead r s) :=
  .next (.request h fun _ _ ha => .serveSyncRead ha)

theorem ResOn.execSyncWait {r : Req} (h : s.On Q) : ResOn Q (execSyncWait r s) :=
  .next (.request h fun _ _ ha => .serveSyncWait ha)

theorem State.On.serveDoorbell {r : Req} (h : s.On Q K) : (s.serveDoorbell r).1.On Q K :=
  .ite (.keep rfl rfl rfl rfl (.setQueue h)) (.setQueue h)

theorem ResOn.execDoorbell {r : Req} (h : s.On Q) : ResOn Q (execDoorbell r s) :=
  .next (.request h fun _ _ ha => .serveDoorbell ha)

theorem ResOn.execUnassignedOpcode {r : Req} {code : BitVec 8} (h : s.On Q) : ResOn Q (execUnassignedOpcode r code s) := by
  unfold Machine.execUnassignedOpcode
  extract_lets _
  refine .ite ?_ (.next (.request h fun _ _ ha => ha))
  split
  · exact .next h
  · exact .ite (.next (.deliver h fun _ ha => .transportError (.updPort ha))) (.next h)

theorem State.On.timeOut {o : OutReq} (h : s.On Q) : (s.timeOut o).On Q := by
  unfold State.timeOut
  extract_lets s1 _ s2
  have hs1 : s1.On Q := .outDone h
  have hs2 : s2.On Q := by
    unfold s2
    split
    · exact hs1
    · exact .upd rfl rfl hs1
  exact .assignAll hs2

theorem ResOn.execOutboundTimeout {port : Option (Fin 32)} {n : Nat} (h : s.On Q) :
    ResOn Q (execOutboundTimeout port n s) := by
  unfold Machine.execOutboundTimeout
  extract_lets found
  clear_value found
  split
  · exact .next h
  · exact .next (.deliver h fun _ ha => .timeOut ha)

theorem ResOn.execTagQuarantineExpiry {p : Fin 32} {tag : BitVec 12} (h : s.On Q) :
    ResOn Q (execTagQuarantineExpiry p tag s) :=
  .next (.assignAll (.upd rfl rfl h))

theorem ResOn.execNotifyDelivery {p : Fin 32} {wait : Nat} (h : s.On Q) : ResOn Q (execNotifyDelivery p wait s) := by
  unfold Machine.execNotifyDelivery
  split
  · exact .next h
  · split
    · extract_lets _ _ _
      exact .ite (.next h) (.ite (.next (.setPort h)) (.ite (.next h) (.next
        (.deliver h fun _ ha => .afterFlit (.setPhase (.launchNow ha))))))
    · exact .next h

theorem ResOn.execDoorbellNotifyDelivery {wait : Nat} (h : s.On Q) : ResOn Q (execDoorbellNotifyDelivery wait s) := by
  unfold Machine.execDoorbellNotifyDelivery
  split
  · exact .next h
  · split
    · refine .next (.deliver h (fun _ ha => ?_))
      extract_lets u1
      have hu1 : u1.On Q := .freeWait ha
      split
      · exact .discard hu1
      · exact .ite hu1 (.setQueue hu1)
    · exact .next h

/-! ### The benches (chapter 9) -/

theorem State.On.failReadmit {reason : Nat} (h : s.On Q) : (s.failReadmit reason).On Q := by
  unfold State.failReadmit
  split
  · exact h
  · exact .answer (.raise (.upd rfl rfl h))

theorem State.On.issueClaim (h : s.On Q) : s.issueClaim.On Q := .ite (.raise (.upd rfl rfl (.upd rfl rfl h)))
    (.upd rfl rfl h)

theorem State.On.unthrottle (h : s.On Q) : s.unthrottle.On Q := .foldl (fun _ _ hu => .emit hu) (.upd rfl rfl h)

theorem State.On.promote {i : BenchId} {n : Nat} (h : s.On Q) : (s.promote i n).On Q := by
  unfold State.promote
  split
  · exact h
  · exact .issueClaim (.unthrottle (.upd rfl rfl h))

theorem State.On.plannedPromotion {i : BenchId} {cause : Nat} (h : s.On Q) : (s.plannedPromotion i cause).On Q :=
  .settle (.raise (.promote h))

theorem State.On.retireSpare {cause gate : Nat} (h : s.On Q) : (s.retireSpare cause gate).On Q := by
  unfold State.retireSpare
  split
  · exact h
  · exact .settle (.raise (.unthrottle (.upd rfl rfl h)))

theorem State.On.charge {i : BenchId} (h : s.On Q) : (s.charge i).1.On Q :=
  .ite_fst (.ite_fst (.plannedPromotion (.upd rfl rfl h)) (.upd rfl rfl h)) (.upd rfl rfl h)

theorem State.On.noteTransient {limit : Bool} {input : Nat} (h : s.On Q) : (s.noteTransient limit input).On Q := .raise h

theorem State.On.emitOut {g : Nat} {o : BenchOut} {charge : Option (BenchId × Nat × BenchId × Nat)} (h : s.On Q) :
    (s.emitOut g o charge).On Q :=
  .ite h (.emit (.upd rfl rfl h))

theorem State.On.beginDispute {d : Dispute} (h : s.On Q) : (s.beginDispute d).On Q := .upd rfl rfl (.failReadmit h)

theorem ResOn.execGateOutput {g : Fin 179} {o : BenchOut} (h : s.On Q) : ResOn Q (execGateOutput g o s) := by
  unfold Machine.execGateOutput
  refine .ite (.next h) (.ite (.next h) (.ite (.next (.upd rfl rfl h)) (.ite (.next h) ?_)))
  extract_lets _ s1 mate _ s2
  have hs1 : s1.On Q := .upd rfl rfl h
  have hs2 : s2.On Q := .upd rfl rfl hs1
  refine .ite (.next hs1) ?_
  clear_value mate
  split
  · exact .next hs2
  · exact .ite (.next hs2) (.ite (.next (.emitOut hs1)) (.next (.beginDispute hs2)))

theorem ResOn.execSkewLimitExpiry {g : Fin 179} (h : s.On Q) : ResOn Q (execSkewLimitExpiry g s) := by
  unfold Machine.execSkewLimitExpiry
  refine .ite (.next h) ?_
  split
  · exact .next h
  · exact .next (.beginDispute h)

theorem State.On.transientRetry {d : Dispute} {first : List BenchOut} (h : s.On Q) : (s.transientRetry d first).On Q := by
  unfold State.transientRetry
  extract_lets charge _ _ s1 s2 s3
  have hs1 : s1.On Q := .upd rfl rfl h
  have hs2 : s2.On Q := .ite (.counterWrap hs1) hs1
  have hs3 : s3.On Q := by
    unfold s3
    refine .foldl (fun _ _ hu => ?_) hs2
    split
    · exact hu
    · exact .emitOut hu
  split
  · exact .noteTransient (.charge hs3)
  · exact .ite hs3 (.noteTransient hs3)

theorem State.On.benchFailure {e : Ev} {name : String} {input : Nat} (h : s.On Q) : (s.benchFailure e name input).On Q :=
  .enterFailed (.raise h)

theorem State.On.retireInKerf {i : BenchId} {cause : Nat} {d : Dispute} (h : s.On Q) : (s.retireInKerf i cause d).On Q :=
  .upd rfl rfl (.promote h)

theorem State.On.arbitrate {d : Dispute} {shadow : BenchOut} (h : s.On Q) : (s.arbitrate d shadow).On Q := by
  unfold State.arbitrate
  split
  · exact .ite (.retireInKerf h) (.ite (.retireInKerf h) (.benchFailure h))
  · refine .ite ?_ (.benchFailure h)
    split
    · exact .retireInKerf h
    · exact h
  · exact h

theorem State.On.lastingFault {d : Dispute} (h : s.On Q) : (s.lastingFault d).On Q := by
  unfold State.lastingFault
  refine .ite (.benchFailure h) ?_
  split
  · exact .benchFailure h
  · split
    · exact .arbitrate h
    · exact .upd rfl rfl h

theorem ResOn.execRetryDone {first second : List BenchOut} (h : s.On Q) : ResOn Q (execRetryDone first second s) := by
  unfold Machine.execRetryDone
  split
  · exact .next h
  · exact .ite (.next h) (.ite (.next (.transientRetry h)) (.next (.lastingFault h)))

theorem State.On.checkShadow {e : Emitted} {o : BenchOut} (h : s.On Q) : (s.checkShadow e o).On Q := by
  unfold State.checkShadow
  extract_lets _ r s1 _ _ _
  have hr : r.1.On Q := .foldl_fst (fun _ _ hy => .charge hy) h
  have hs1 : s1.On Q := .ite (.noteTransient hr) hr
  exact .ite (.upd rfl rfl hs1) (.ite (.upd rfl rfl hs1) (.retireSpare hs1))

theorem ResOn.execShadowArrival {g : Fin 179} {o : BenchOut} (h : s.On Q) : ResOn Q (execShadowArrival g o s) := by
  unfold Machine.execShadowArrival
  refine .ite (.next h) ?_
  extract_lets _ _
  split
  · refine .ite (.ite (.next (.arbitrate h)) (.next (.upd rfl rfl h))) ?_
    split
    · exact .next h
    · exact .next (.checkShadow h)
  · split
    · exact .next h
    · exact .next (.checkShadow h)

theorem ResOn.execShadowTimeout (h : s.On Q) : ResOn Q (execShadowTimeout s) := by
  unfold Machine.execShadowTimeout
  split
  · exact .next h
  · exact .ite (.next (.benchFailure h)) (.next h)

theorem ResOn.execFirstNewClaimOutput (h : s.On Q) : ResOn Q (execFirstNewClaimOutput s) := by
  unfold Machine.execFirstNewClaimOutput
  split
  · exact .next h
  · exact .next (.settle (.raise (.upd rfl rfl h)))

theorem ResOn.execSpareConsume {input : Nat} (h : s.On Q) : ResOn Q (execSpareConsume input s) := by
  unfold Machine.execSpareConsume
  split
  · exact .next h
  · split
    · exact .next h
    · extract_lets _ _ s1 _
      have hs1 : s1.On Q := .upd rfl rfl h
      exact .ite (.next (.raise (.upd rfl rfl hs1))) (.ite (.next (.unthrottle hs1)) (.next hs1))

theorem ResOn.execSpareStallTimer (h : s.On Q) : ResOn Q (execSpareStallTimer s) := by
  unfold Machine.execSpareStallTimer
  split
  · exact .next h
  · exact .ite (.next (.retireSpare h)) (.next h)

theorem ResOn.execMemoryOpComplete {gate : Fin 32} (h : s.On Q) : ResOn Q (execMemoryOpComplete gate s) :=
  .next (.deliver h fun _ ha => ha)

theorem ResOn.execReadmitSelftestDone {passed : Bool} (h : s.On Q) : ResOn Q (execReadmitSelftestDone passed s) := by
  unfold Machine.execReadmitSelftestDone
  split
  · exact .next h
  · exact .ite (.next h) (.next (.deliver h fun _ ha => .ite (.settle (.failReadmit ha)) (.upd rfl rfl ha)))

theorem ResOn.execStateCopyDone {digest1 digest2 copyDigest : Nat} (h : s.On Q) :
    ResOn Q (execStateCopyDone digest1 digest2 copyDigest s) := by
  unfold Machine.execStateCopyDone
  split
  · exact .next h
  · refine .ite (.next h) (.next (.deliver h (fun _ ha => .ite (.upd rfl rfl ha) ?_)))
    extract_lets s1 _
    have hs1 : s1.On Q := .failReadmit ha
    refine .ite (.settle hs1) ?_
    split
    · exact .settle (.beginDispute hs1)
    · exact .settle hs1

theorem ResOn.execJournalCatchUp (h : s.On Q) : ResOn Q (execJournalCatchUp s) := by
  unfold Machine.execJournalCatchUp
  split
  · exact .next h
  · exact .ite (.next h) (.next (.deliver h fun _ ha => .answer (.settle (.raise (.upd rfl rfl ha)))))

/-! ### Supplies, start-up and heat (chapter 2) -/

theorem State.On.kept (h : s.On (Fused base)) : s.kept.On (Fused base) := .reseal rfl rfl rfl h

theorem State.On.stop {cause : Nat} {why : String} (h : s.On (Fused base)) : (s.stop cause why).On (Fused base) :=
  .ite (.upd rfl rfl h) (.setNode (.upd rfl rfl (.kept h)))

theorem State.On.start (h : s.On Q) : s.start.On Q := .ite (.upd rfl rfl h) h

theorem State.On.startUpFailure {e : Ev} {detailB : Nat} (h : s.On Q) : (s.startUpFailure e detailB).On Q :=
  .raise (.bootFailure h)

theorem State.On.failStartUp {e : Ev} {name : String} (h : s.On Q) : (s.failStartUp e name).On Q :=
  .enterFailed (.startUpFailure h)

theorem ResOn.execVinApplied {mv : Nat} (h : s.On Q) : ResOn Q (execVinApplied mv s) := .next (.start (.upd rfl rfl h))
theorem ResOn.execVinUndervolt {mv : Nat} (h : s.On (Fused base)) : ResOn (Fused base) (execVinUndervolt mv s) :=
  .next (.upd rfl rfl (.stop h))

theorem ResOn.execVinOvervolt {mv : Nat} (h : s.On (Fused base)) : ResOn (Fused base) (execVinOvervolt mv s) :=
  .ite (.next (.upd rfl rfl (.stop h))) (.next (.upd rfl rfl h))

theorem ResOn.execVinOvRecover {mv : Nat} (h : s.On Q) : ResOn Q (execVinOvRecover mv s) :=
  .ite (.next (.start (.upd rfl rfl h))) (.next (.upd rfl rfl h))

theorem State.On.noteHigh (h : s.On Q) : s.noteHigh.On Q := .ite (.raise (.upd rfl rfl h)) h

theorem ResOn.execVinHighExcursion {mv : Nat} (h : s.On Q) : ResOn Q (execVinHighExcursion mv s) :=
  .next (.ite (.upd rfl rfl h) (.noteHigh (.upd rfl rfl h)))

theorem ResOn.execVinHighExcursionEnd {mv : Nat} (h : s.On Q) : ResOn Q (execVinHighExcursionEnd mv s) := .next
    (.upd rfl rfl h)

theorem ResOn.execVinColdLoss (h : s.On (Fused base)) : ResOn (Fused base) (execVinColdLoss s) := by
  have hpart : (s.stop causeUndervolt "UNDERVOLT").power.part = s.power.part := by
    have hstop : (s.stop causeUndervolt "UNDERVOLT").On (Fused s.board) := .stop (Fused.refl _)
    exact hstop.2.1
  exact .next (.reseal hpart.symm rfl rfl (.stop h))

theorem ResOn.execResetNAssert (h : s.On (Fused base)) : ResOn (Fused base) (execResetNAssert s) := .next (.upd rfl rfl (.stop h))

theorem ResOn.execResetNRelease (h : s.On Q) : ResOn Q (execResetNRelease s) := .ite (.next (.start (.upd rfl rfl h)))
    (.next h)

theorem ResOn.execPowerWarnNAssert (h : s.On Q) : ResOn Q (execPowerWarnNAssert s) :=
  .ite (.next h) (.ite (.next (.upd rfl rfl h)) (.next (.deliver h fun _ ha => .raise ha)))

theorem ResOn.execPresenceNRecognised (h : s.On Q) : ResOn Q (execPresenceNRecognised s) := .next (.upd rfl rfl h)
theorem ResOn.execPresenceWindowExpiry (h : s.On Q) : ResOn Q (execPresenceWindowExpiry s) := .next (.upd rfl rfl h)

theorem ResOn.execSealBootEntry (h : s.On (Fused base)) : ResOn (Fused base) (execSealBootEntry s) := by
  unfold Machine.execSealBootEntry
  refine .ite ?_ (.next h)
  extract_lets _ _ s1 s2 s3
  have hs1 : s1.On (Fused base) := .reseal rfl rfl rfl h
  have hs3 : s3.On (Fused base) := by
    unfold s3
    split
    · exact .setNode hs1
    · exact .raise (.setNode hs1)
  exact .next (.noteHigh hs3)

theorem State.On.makeTlsKey (h : s.On (Fused base)) : s.makeTlsKey.On (Fused base) := .reseal rfl rfl rfl (.draw h)

theorem ResOn.execSealBootDone {romAndFusesOk avyanathOk : Bool} (h : s.On (Fused base)) :
    ResOn (Fused base) (execSealBootDone romAndFusesOk avyanathOk s) :=
  .ite (.next h) (.ite (.next (.setNode (.upd rfl rfl (.makeTlsKey h)))) (.next (.failStartUp (.makeTlsKey h))))

theorem State.On.takeOut {failed : List TestUnit} (h : s.On Q) : (s.takeOut failed).On Q := by
  unfold State.takeOut
  refine .foldl (fun _ _ hu => ?_) h
  split
  · exact .upd rfl rfl hu
  · exact .upd rfl rfl hu
  · exact .upd rfl rfl hu
  · exact .upd rfl rfl hu
  · exact .updPort hu
  · exact hu

theorem ResOn.execSelfTestDone {failed : List TestUnit} (h : s.On Q) : ResOn Q (execSelfTestDone failed s) := by
  unfold Machine.execSelfTestDone
  refine .ite (.next h) ?_
  extract_lets _
  refine .next (.deliver h (fun _ ha => ?_))
  extract_lets s1 s2 _ s3
  have hs1 : s1.On Q := .foldl (fun _ _ hu => .startUpFailure hu) ha
  have hs2 : s2.On Q := .takeOut hs1
  have hs3 : s3.On Q := .upd rfl rfl hs2
  exact .ite (.enterFailed hs1) (.settle (.setNode hs3))

theorem ResOn.execMemoryTrainDone {failed : List (Fin 16)} (h : s.On Q) : ResOn Q (execMemoryTrainDone failed s) := by
  unfold Machine.execMemoryTrainDone
  refine .ite (.next h) ?_
  extract_lets present bad
  refine .next (.deliver h fun u hu => ?_)
  extract_lets _ s1
  have hs1 : s1.On Q := .upd rfl rfl hu
  exact .ite (.failStartUp hs1) (.settle (.setNode (.keepTables (.foldl (fun _ _ hv => .updStk hv)
    (.ite hs1 (.startUpFailure hs1))))))

theorem ResOn.execStartUpBoundExpiry (h : s.On Q) : ResOn Q (execStartUpBoundExpiry s) :=
  .ite (.next (.failStartUp h)) (.next h)

theorem ResOn.execNodeResetRestart (h : s.On Q) : ResOn Q (execNodeResetRestart s) :=
  .ite (.next (.start (.upd rfl rfl h))) (.next h)

/-! ### The Bureau (chapter 18) -/

theorem State.On.closeSession {id : Nat} {alert : String} (h : s.On Q) : (s.closeSession id alert).On Q :=
  .ite h (.emit (.upd rfl rfl h))

/-- A Bureau request acts on a state of the same board. -/
theorem State.On.bureauRequest_le {α : Type} {c : Instr} {m : BureauMsg} {kind : Nat} {parse : Body → Option α} {v : α}
    {roles : SessRole → Bool} {ok guarded : Bool} {act : State → State} [BEq α] (hle : ∀ x, Q x → R x) (h : s.On Q)
    (hact : ∀ u, u.On Q → (act u).On R) : (State.bureauRequest s c m kind parse v roles ok guarded act).On R := by
  have hs : s.On R := hle _ h
  unfold State.bureauRequest
  refine .ite hs ?_
  split
  · exact hs
  · split
    · exact hs
    · split
      · exact hs
      · exact .deliver hs fun _ ha => .closeSession ha
      · exact .deliver hs fun _ ha => .answer ha
      · exact .deliver_le hle h fun _ ha => .ite (.answer (hle _ ha)) (.ite (.answer (hle _ ha))
        (.ite (.answer (hle _ ha)) (hact _ ha)))

theorem State.On.bureauRequest {α : Type} {c : Instr} {m : BureauMsg} {kind : Nat} {parse : Body → Option α} {v : α}
    {roles : SessRole → Bool} {ok guarded : Bool} {act : State → State} [BEq α] (h : s.On Q)
    (hact : ∀ u, u.On Q → (act u).On Q) : (State.bureauRequest s c m kind parse v roles ok guarded act).On Q :=
  .bureauRequest_le (fun _ hx => hx) h hact

theorem ResOn.execTcpConnect {session : Nat} (h : s.On Q) : ResOn Q (execTcpConnect session s) :=
  .ite (.next h) (.ite (.next (.emit h)) (.next (.upd rfl rfl h)))

theorem ResOn.execTlsHandshakeDone {session : Nat} {client : TlsClient} (h : s.On Q) :
    ResOn Q (execTlsHandshakeDone session client s) := by
  unfold Machine.execTlsHandshakeDone
  split
  · exact .next h
  · split
    · exact .next (.closeSession h)
    · extract_lets _ _
      refine .ite (.next (.closeSession h)) ?_
      split
      · exact .next (.closeSession h)
      · exact .next (.emit (.upd rfl rfl h))

theorem ResOn.execSessionIdleTimeout {session : Nat} (h : s.On Q) : ResOn Q (execSessionIdleTimeout session s) :=
  .next (.closeSession h)

theorem ResOn.execSessionClose {session : Nat} (h : s.On Q) : ResOn Q (execSessionClose session s) :=
  .next (.closeSession h)

theorem ResOn.execIpv4Frame (h : s.On Q) : ResOn Q (execIpv4Frame s) := .next h

theorem ResOn.execNeighborDiscovery {target : List Byte} (h : s.On Q) : ResOn Q (execNeighborDiscovery target s) :=
  .ite (.next (.emit h)) (.next h)

theorem ResOn.execRouterAdvertisement {networkId : List Byte} (h : s.On Q) : ResOn Q (execRouterAdvertisement networkId s) :=
  .ite (.next h) (.next (.upd rfl rfl h))

theorem ResOn.execIcmpv6Echo {payload : List Byte} (h : s.On Q) : ResOn Q (execIcmpv6Echo payload s) :=
  .ite (.next (.emit h)) (.next h)

theorem ResOn.execHealth {m : BureauMsg} (h : s.On Q) : ResOn Q (execHealth m s) :=
  .next (.bureauRequest h fun _ ha => .answer ha)

theorem ResOn.execTelemetry {m : BureauMsg} (h : s.On Q) : ResOn Q (execTelemetry m s) :=
  .next (.bureauRequest h fun _ ha => .answer ha)

theorem ResOn.execFaultRead {m : BureauMsg} {start count : Nat} (h : s.On Q) : ResOn Q (execFaultRead m start count s) :=
  .next (.bureauRequest h fun _ ha => .answer ha)

theorem ResOn.execFaultAck {m : BureauMsg} {head : Nat} {clear : Bool} (h : s.On Q) :
    ResOn Q (execFaultAck m head clear s) :=
  .next (.bureauRequest h fun _ ha => .answer (.upd rfl rfl ha))

theorem ResOn.execScrubStatus {m : BureauMsg} (h : s.On Q) : ResOn Q (execScrubStatus m s) :=
  .next (.bureauRequest h fun _ ha => .answer ha)

theorem ResOn.execNodeReset {m : BureauMsg} (h : s.On (Fused base)) : ResOn (Fused base) (execNodeReset m s) :=
  .next (.bureauRequest h fun _ ha => .upd rfl rfl (.stop (.answer ha)))

theorem State.On.lockRequest {c : Instr} {m : BureauMsg} {action : Nat} {f : Holder → Option Holder} {broken : Holder → Bool}
    (h : s.On Q) : (s.lockRequest c m action f broken).On Q := by
  unfold State.lockRequest
  refine .bureauRequest h (fun _ ha => ?_)
  split
  · exact .answer ha
  · exact .answer (.ite (.raise (.upd rfl rfl ha)) (.upd rfl rfl ha))

theorem ResOn.execLockRelease {m : BureauMsg} (h : s.On Q) : ResOn Q (execLockRelease m s) := .next (.lockRequest h)
theorem ResOn.execLockAcquire {m : BureauMsg} (h : s.On Q) : ResOn Q (execLockAcquire m s) := .next (.lockRequest h)

theorem ResOn.execLockAcquireForce {m : BureauMsg} (h : s.On Q) : ResOn Q (execLockAcquireForce m s) :=
  .next (.lockRequest h)

theorem ResOn.execSubscribe {m : BureauMsg} {on : Bool} (h : s.On Q) : ResOn Q (execSubscribe m on s) :=
  .next (.bureauRequest h fun _ ha => .answer (.upd rfl rfl ha))

theorem ResOn.execEnroll {m : BureauMsg} {cert : List Byte} {role : Nat} (h : s.On Q) : ResOn Q (execEnroll m cert role s) :=
  .next (.bureauRequest h fun _ ha => .ite (.answer ha) (.ite (.answer (.upd rfl rfl ha))
    (.ite (.answer ha) (.answer (.upd rfl rfl ha)))))

theorem ResOn.execRevoke {m : BureauMsg} {hash : List Byte} (h : s.On Q) : ResOn Q (execRevoke m hash s) :=
  .next (.bureauRequest h fun _ ha => .ite (.answer ha) (.ite (.answer (.upd rfl rfl ha)) (.answer (.upd rfl rfl ha))))

/-- JOINERY_KEY adds one digest to the bank (R636). -/
theorem ResOn.execJoineryKey (m : BureauMsg) (key : List Byte) (s : State) :
    ResOn (Allowed (.joineryKey m key) s) (execJoineryKey m key s) :=
  .next (.bureauRequest_le (Q := (· = s.board)) (fun _ hx => .of_fused (hx ▸ .refl _)) rfl fun u hu => by
    have hf : u.On (Allowed (.joineryKey m key) s) := .of_fused (hu ▸ .refl _)
    have hsec : u.sec = s.sec := congrArg (·.2.2.1) hu
    refine .ite (.answer hf) (.ite (.answer hf) (.ite (.answer hf) (.answer (.raise ?_))))
    obtain ⟨hpending, hpart, hmac, hid, hlife, -⟩ := hf
    exact ⟨hpending, hpart, hmac, hid, hlife, .inr ⟨m, key, rfl, by rw [← hsec]; rfl⟩⟩)

theorem ResOn.execCredReset {m : BureauMsg} (h : s.On Q) : ResOn Q (execCredReset m s) :=
  .next (.bureauRequest h fun _ ha => .answer (.raise (.upd rfl rfl (.foldl (fun _ _ hu => .closeSession hu) ha))))

theorem ResOn.execChallenge {m : BureauMsg} {random : List Byte} (h : s.On (Fused base)) : ResOn (Fused base)
    (execChallenge m random s) :=
  .next (.bureauRequest h fun _ ha => .answer (.reseal rfl rfl rfl ha))

theorem ResOn.execChallengeExpiry (h : s.On (Fused base)) : ResOn (Fused base) (execChallengeExpiry s) := .next
    (.deliver h fun _ ha => .reseal rfl rfl rfl ha)

theorem ResOn.execAttest {m : BureauMsg} {nonce : List Byte} {scope : Nat} {ids : List Nat} (h : s.On (Fused base)) :
    ResOn (Fused base) (execAttest m nonce scope ids s) :=
  .next (.bureauRequest h fun _ ha => .reseal rfl rfl rfl ha)

/-! ### Contexts and traps of the sieve (chapter 14) -/

theorem State.On.freeCtxWaits {key : Nat} (h : s.On Q K) : (s.freeCtxWaits key).On Q K := .setWaits h

theorem State.On.endStart {key : Nat} {st : Status} {result : W64} (h : s.On Q K) : (s.endStart key st result).On Q K := by
  unfold State.endStart
  extract_lets _ s1
  have hs1 : s1.On Q K := .setCtx_of_halts (.freeCtxWaits h) (.inr rfl)
  split
  · exact hs1
  · exact .endRun hs1

theorem State.On.trapCtx {key : Nat} {c : Ctx} {cause info : Nat} {ret : BitVec 16} {pend : Option LongOp} (h : s.On Q) :
    (s.trapCtx key c cause info ret pend).On Q := by
  unfold State.trapCtx
  split
  · exact .setCtx h
  · exact .endStart (.setCtx h)

theorem State.On.trapCtx_of_halts {key : Nat} {c : Ctx} {cause info : Nat} {ret : BitVec 16} {pend : Option LongOp}
    (h : s.On Q K) (hc : c.halts = (s.ctx key).halts) : (s.trapCtx key c cause info ret pend).On Q K := by
  unfold State.trapCtx
  split
  next u hu => exact .setCtx_of_halts h (.inl ((Ctx.halts_enterTrap hu).trans hc))
  next => exact .endStart (.setCtx_of_halts h (.inl hc))

theorem State.On.elect {e last fuel : Nat} (h : s.On Q K) : (s.elect e last fuel).On Q K :=
  State.elect_holds (I := fun u => u.On Q K) e (fun _ hu => .beginQuantum hu)
    (fun _ _ _ _ hu => .setCtx_of_halts hu (.inl rfl))
    (fun _ _ _ _ _ _ _ _ hu => .trapCtx_of_halts hu (Ctx.halts_takePend ..)) fuel h

theorem State.On.reelect {key : Nat} (h : s.On Q K) : (s.reelect key).On Q K := .elect h
theorem State.On.takeHalt {key : Nat} (h : s.On Q) : (s.takeHalt key).On Q := .upd rfl rfl (.setCtx h)

theorem State.On.boundary {key : Nat} (h : s.On Q) : (s.boundary key).On Q := by
  unfold State.boundary
  extract_lets _ s1 s2 _
  have hs1 : s1.On Q := .setCtx h
  have hs2 : s2.On Q := by
    unfold s2
    split
    · exact hs1
    · exact .updRun hs1
  refine .ite h ?_
  split
  · exact .reelect (.endStart h)
  · refine .ite (.reelect (.setCtx h)) (.ite (.reelect (.takeHalt h)) (.ite (.reelect hs2) (.ite h (.ite ?_ h))))
    split
    · exact h
    · exact .reelect (.trapCtx h)

theorem State.On.resumed {key : Nat} (h : s.On Q) : (s.resumed key).On Q := .boundary (.ite (.setCtx h) h)

theorem State.On.retireCtx {key : Nat} {c : Ctx} {next : BitVec 16} (h : s.On Q) : (s.retireCtx key c next).On Q :=
  .ite (.counterWrap (.setCtx h)) (.setCtx h)

theorem State.On.act {key : Nat} {a : Act} (h : s.On Q) (ha : a.On Q) : (s.act key a).On Q := by
  cases a with
  | retire u c next => exact .resumed (.retireCtx ha)
  | trap u c cause info pend => exact .resumed (.reelect (.trapCtx ha))
  | unit u c => exact .resumed (.setCtx ha)
  | block u c => exact .reelect (.resumed (.setCtx ha))
  | halt u c st result => exact .reelect (.endStart (.retireCtx ha))
  | offer u c next => exact .ite (.reelect (.resumed (.setCtx (.retireCtx ha)))) (.resumed (.retireCtx ha))
  | stay => exact h

theorem State.On.instr {key : Nat} {k : SKind} {f : State → Ctx → W32 → Act} (h : s.On Q)
    (hf : ∀ u x y, u.On Q → (f u x y).On Q) : (s.instr key k f).On Q :=
  .ite (.act h (hf _ _ _ h)) h

theorem Act.On.runLong {f : State → Ctx → W32 → Act} {fuel : Nat} {c : Ctx} {w : W32}
    (hf : ∀ u c w, u.On Q → (f u c w).On Q) (h : s.On Q) : (runLong f fuel s c w).On Q := by
  induction fuel generalizing s c with
  | zero => exact .unit h
  | succ fuel ih =>
    have hunit : (f s c w).On Q := hf s c w h
    unfold Machine.runLong
    split
    next u d e =>
      rw [e] at hunit
      exact ih hunit
    · exact hunit

theorem State.On.longInstr {key : Nat} {k : SKind} {f : State → Ctx → W32 → Act} (h : s.On Q)
    (hf : ∀ u x y, u.On Q → (f u x y).On Q) : (s.longInstr key k f).On Q :=
  .instr h fun _ _ _ ha => .runLong (fun _ _ _ hu => hf _ _ _ hu) ha

/-! ### The copy engine (chapter 13) -/

theorem ResOn.execCommandDispatch {q : BitVec 16} {found : List Damage} (h : s.On Q) :
    ResOn Q (execCommandDispatch q found s) :=
  .next (.deliver h fun _ ha => .settle (.dispatch (.withFound ha)))

theorem ResOn.execCommandComplete {q : BitVec 16} {index : BitVec 32} (h : s.On Q) :
    ResOn Q (execCommandComplete q index s) := by
  unfold Machine.execCommandComplete
  split
  · exact .next h
  · exact .ite (.next (.deliver h fun _ ha => .settle (.complete ha))) (.next h)

theorem ResOn.execQuantumExpiry {q : BitVec 16} {index : BitVec 32} (h : s.On Q) :
    ResOn Q (execQuantumExpiry q index s) := by
  unfold Machine.execQuantumExpiry
  split
  · exact .ite (.ite (.next (.deliver h fun _ ha => .boundary (.setCtx (.beginQuantum ha)))) (.next h))
      (.ite (.next (.deliver h fun _ ha => .updRun (.beginQuantum ha))) (.next h))
  · exact .next h

theorem State.On.writeMasked {d off : Nat} {data : List Byte} {mask : List Bool} (h : s.On Q) :
    (s.writeMasked d off data mask).1.On Q :=
  .foldl_fst (fun _ _ hy => .ite_fst (.writePoison hy) (.writeLine hy)) h

theorem State.On.advance {q : Nat} {i : W32} {c : RunCmd} {done total : Nat} {bad : Bool} {result : W64} (h : s.On Q) :
    (s.advance q i c done total bad result).On Q :=
  .ite (.endRun (.updRun h)) (.updRun h)

theorem OptionOn.copyUnit {q : Nat} {i : W32} {c : RunCmd} (h : s.On Q) : OptionOn Q (s.copyUnit q i c) := by
  unfold State.copyUnit
  extract_lets _ _ _ _ _ _ _ _ _ _ _
  refine .ite (.some (.endRun h)) ?_
  split
  · exact .none
  next u e1 =>
    have hu : u.On Q := OptionOn.of_eq (.claimRange h) e1
    exact .some (.advance (.writeMasked (.readRange hu)))

theorem OptionOn.remoteUnit {q : Nat} {i : W32} {c : RunCmd} (h : s.On Q) : OptionOn Q (s.remoteUnit q i c) := by
  unfold State.remoteUnit
  extract_lets _ _ _ _ r _ _ _
  have hr : r.1.On Q := .readRange h
  exact .ite (.ite (.some (.updRun h)) (.some (.endRun h))) (.ite .none (.some (.issue (.updRun hr))))

theorem OptionOn.fillUnit {pattern : List Byte} {q : Nat} {i : W32} {c : RunCmd} (h : s.On Q) :
    OptionOn Q (State.fillUnit pattern s q i c) := by
  unfold State.fillUnit
  extract_lets _ _ _ _ _
  refine .ite (.some (.endRun h)) ?_
  split
  · exact .none
  next u e =>
    have hu : u.On Q := OptionOn.of_eq (.claimRange h) e
    exact .some (.advance (.writeRange hu))

theorem OptionOn.convertUnit {q : Nat} {i : W32} {c : RunCmd} (h : s.On Q) : OptionOn Q (s.convertUnit q i c) := by
  unfold State.convertUnit
  extract_lets _ _ _ _ _ _ _ _ _ _ _
  refine .ite (.some (.endRun h)) ?_
  split
  · exact .none
  next u e =>
    have hu : u.On Q := OptionOn.of_eq (.bind (.claimRange h) fun _ hu1 => .ite (.some hu1) (.claimRange hu1)) e
    extract_lets r sc _ _ _ _ _ x' y _ _ _
    have hr : r.1.On Q := .readRange hu
    have hsc : sc.1.On Q := .ite_fst (.readRange hr) hr
    have hx' : x'.1.On Q := .writeMasked hsc
    have hy : y.1.On Q := .ite_fst hx' (.writeMasked hx')
    exact .some (.advance hy)

theorem State.On.readIndex {b : List Byte} {j : Nat} (h : s.On Q) : (s.readIndex b j).1.On Q := .readRange h

theorem OptionOn.gatherUnit {q : Nat} {i : W32} {c : RunCmd} (h : s.On Q) : OptionOn Q (s.gatherUnit q i c) := by
  unfold State.gatherUnit
  extract_lets _ _ _ _ _
  refine .ite (.some (.endRun h)) ?_
  split
  · exact .none
  next u e =>
    have hu : u.On Q := OptionOn.of_eq (.claimRange h) e
    split
    next u1 _ e1 =>
      have hu1 : u1.On Q := State.On.of_eq (.readIndex hu) e1
      exact .some (.advance (.writeMasked hu1))
    next u1 _ _ e1 =>
      have hu1 : u1.On Q := State.On.of_eq (.readIndex hu) e1
      exact .ite (.some (.endRun hu1)) (.some (.advance (.writeMasked (.readRange hu1))))

theorem OptionOn.scatterUnit {q : Nat} {i : W32} {c : RunCmd} (h : s.On Q) : OptionOn Q (s.scatterUnit q i c) := by
  unfold State.scatterUnit
  extract_lets _ _ _ _
  refine .ite (.some (.endRun h)) ?_
  split
  next u1 _ e =>
    have hu1 : u1.On Q := State.On.of_eq (.readIndex h) e
    exact .some (.advance hu1)
  next u1 _ _ e =>
    have hu1 : u1.On Q := State.On.of_eq (.readIndex h) e
    extract_lets _
    refine .ite (.some (.endRun hu1)) ?_
    split
    · exact .none
    next u e1 =>
      have hu : u.On Q := OptionOn.of_eq (.claimRange hu1) e1
      exact .some (.advance (.writeMasked (.readRange hu)))

theorem OptionOn.digestUnit {q : Nat} {i : W32} {c : RunCmd} (h : s.On Q) : OptionOn Q (s.digestUnit q i c) := by
  unfold State.digestUnit
  extract_lets _ _ _ _
  refine .ite (.some (.endRun h)) ?_
  split
  · exact .none
  next u e =>
    have hu : u.On Q := OptionOn.of_eq (.ite (.claimRange h) (.some h)) e
    exact .some (.advance (.ite_fst (.writeRange (.readRange hu)) (.readRange hu)))

theorem State.On.sweepLine {d l : Nat} {w : Sweep} (h : s.On Q) : (s.sweepLine d l w).1.On Q := by
  unfold State.sweepLine
  split
  · exact h
  · exact .readFrom h
  · exact .ite_fst (.readFrom h) (.readFrom (.readFrom h))

theorem OptionOn.sweepUnit {q : Nat} {i : W32} {c : RunCmd} (h : s.On Q) : OptionOn Q (s.sweepUnit q i c) := by
  unfold State.sweepUnit
  extract_lets _ _ _ write _
  have hwrite : ∀ (u : State) (data : List Byte), u.On Q → (write u data).On Q := fun _ _ hu => .writeRange hu
  refine .ite ?_ ?_
  · split
    · exact .none
    next u e =>
      have hu : u.On Q := OptionOn.of_eq (.claimRange h) e
      exact .some (.endRun (hwrite _ _ hu))
  · refine .ite (.some (.endRun h)) ?_
    split
    · exact .none
    next u e =>
      have hu : u.On Q := OptionOn.of_eq (.ite (.claimRange h) (.some h)) e
      extract_lets r u1
      have hr : r.1.On Q := .foldl_fst (fun _ _ hy => .sweepLine hy) hu
      have hu1 : u1.On Q := .ite (hwrite _ _ hr) hr
      exact .some (.advance hu1)

theorem OptionOn.copyWork {s0 : State} {q : Nat} {i : W32} {c : RunCmd} (h : s0.On Q) : OptionOn Q (s0.copyWork q i c) := by
  unfold State.copyWork
  refine .underGens h (fun _ ha => ?_)
  split
  · exact .ite (.remoteUnit ha) (.copyUnit ha)
  · exact .fillUnit ha
  · exact .fillUnit ha
  · exact .convertUnit ha
  · exact .gatherUnit ha
  · exact .scatterUnit ha
  · exact .digestUnit ha
  · exact .sweepUnit ha
  · exact .some (.endRun ha)

theorem State.On.copyRun {q : Nat} {i : W32} {fuel : Nat} (h : s.On Q) : (s.copyRun q i fuel).On Q := by
  induction fuel generalizing s with
  | zero => exact h
  | succ fuel ih =>
    unfold State.copyRun
    split
    · exact h
    · refine .ite (.resumePoint h) ?_
      split
      · exact .resumePoint h
      next u e => exact ih (OptionOn.of_eq (.copyWork h) e)

theorem ResOn.copyRow {q : BitVec 16} {i : W32} {op : Nat} (h : s.On Q) : ResOn Q (s.copyRow q i op) := by
  unfold State.copyRow
  split
  · exact .next h
  · exact .next (.settle (.copyRun h))

theorem ResOn.execCopyResumePoint {q : BitVec 16} {index : BitVec 32} (h : s.On Q) :
    ResOn Q (execCopyResumePoint q index s) := by
  unfold Machine.execCopyResumePoint
  split
  · refine .next ?_
    split
    · exact .ite (.resumePoint h) h
    · exact h
  · exact .next (.settle (.resumePoint (.ite h (.getD (.copyWork h) h))))

theorem ResOn.execCopyNop {q : BitVec 16} {index : BitVec 32} (h : s.On Q) : ResOn Q (execCopyNop q index s) := .copyRow h
theorem ResOn.execCopy {q : BitVec 16} {index : BitVec 32} (h : s.On Q) : ResOn Q (execCopy q index s) := .copyRow h
theorem ResOn.execFill {q : BitVec 16} {index : BitVec 32} (h : s.On Q) : ResOn Q (execFill q index s) := .copyRow h
theorem ResOn.execZero {q : BitVec 16} {index : BitVec 32} (h : s.On Q) : ResOn Q (execZero q index s) := .copyRow h
theorem ResOn.execConvert {q : BitVec 16} {index : BitVec 32} (h : s.On Q) : ResOn Q (execConvert q index s) := .copyRow h
theorem ResOn.execGather {q : BitVec 16} {index : BitVec 32} (h : s.On Q) : ResOn Q (execGather q index s) := .copyRow h
theorem ResOn.execScatter {q : BitVec 16} {index : BitVec 32} (h : s.On Q) : ResOn Q (execScatter q index s) := .copyRow h
theorem ResOn.execDigest {q : BitVec 16} {index : BitVec 32} (h : s.On Q) : ResOn Q (execDigest q index s) := .copyRow h

theorem ResOn.execSweep {q : BitVec 16} {index : BitVec 32} {found : List Damage} (h : s.On Q) :
    ResOn Q (execSweep q index found s) :=
  .copyRow (.withFound h)

/-! ### The host port -/

theorem State.On.hostErr {kind : Nat} {st : Status} {off : Nat} {bar2 : Bool} (h : s.On Q) :
    (s.hostErr kind st off bar2).On Q :=
  .upd rfl rfl h

theorem State.On.complete_ {o : Out} (h : s.On Q) : (s.complete_ o).On Q := .ite (.upd rfl rfl h) (.emit h)
theorem State.On.unsupported (h : s.On Q) : s.unsupported.On Q := .complete_ h
theorem State.On.hostWait {c : Instr} (h : s.On Q) : (s.hostWait c).On Q := .upd rfl rfl h

theorem State.On.hostGate {c : Instr} {act : State → State} (h : s.On Q) (hact : ∀ u, u.On Q → (act u).On Q) :
    (s.hostGate c act).On Q :=
  .ite h (.ite (.hostWait h) (.deliver h fun _ ha => .ite (.unsupported ha) (hact _ ha)))

theorem State.On.commandWrite {w : HostWrite} {off : Nat} {act : State → State} (h : s.On Q)
    (hact : ∀ u, u.On Q → (act u).On Q) : (s.commandWrite w off act).On Q :=
  .ite h (.ite (.hostErr h) (hact _ h))

theorem State.On.submit {w : HostWrite} {off : Nat} {busy guarded ok : Bool} {refuse act : State → State} (h : s.On Q)
    (hrefuse : ∀ u, u.On Q → (refuse u).On Q) (hact : ∀ u, u.On Q → (act u).On Q) :
    (s.submit w off busy guarded ok refuse act).On Q :=
  .commandWrite h fun _ ha => .ite (.hostErr (hrefuse _ ha)) (hact _ ha)

/-! ### Pacing (chapter 4) -/

theorem State.On.domainPeriod {r : DomainReport} (h : s.On Q) : (s.domainPeriod r).On Q := .setDom (.ite (.updStk h) h)

theorem ResOn.execPacePeriod {reports : List DomainReport} (h : s.On Q) : ResOn Q (execPacePeriod reports s) :=
  .ite (.next h) (.next (.deliver h fun _ ha => .foldl (fun _ _ hu => .domainPeriod hu) ha))

theorem ResOn.execPaceCeilingTimer {d : Fin 24} (h : s.On Q) : ResOn Q (execPaceCeilingTimer d s) := by
  unfold Machine.execPaceCeilingTimer
  split
  · exact .next h
  · exact .next (.deliver h fun _ ha => .settle (.setDom ha))

theorem ResOn.execPaceCeilingClearTimer (h : s.On Q) : ResOn Q (execPaceCeilingClearTimer s) :=
  .ite (.next h) (.next (.deliver h fun _ ha => .settle (.upd rfl rfl ha)))

theorem State.On.thermalLimit {unit : ThermalUnit} {temp : Nat} (h : s.On Q) : (s.thermalLimit unit temp).On Q := by
  unfold State.thermalLimit
  extract_lets _ _ s1 s2
  have hs1 : s1.On Q := .setDom h
  have hs2 : s2.On Q := .ite (.updStk hs1) hs1
  exact .ite hs2 (.raise hs2)

theorem ResOn.execThermalLimitReached {unit : ThermalUnit} {temp : Nat} (h : s.On Q) :
    ResOn Q (execThermalLimitReached unit temp s) :=
  .ite (.next h) (.next (.deliver h fun _ ha => .thermalLimit ha))

theorem ResOn.execThermalExcursionEnd {d : Fin 24} (h : s.On Q) : ResOn Q (execThermalExcursionEnd d s) :=
  .ite (.next h) (.next (.deliver h fun _ ha => .setDom ha))

theorem State.On.thermalTrip {unit : ThermalUnit} {temp : Nat} (h : s.On Q) : (s.thermalTrip unit temp).On Q :=
  .upd rfl rfl (.ite (.upd rfl rfl (.raise h)) (.enterFailed (.upd rfl rfl (.raise h))))

theorem ResOn.execThermalTripTimer {unit : ThermalUnit} {temp : Nat} (h : s.On Q) :
    ResOn Q (execThermalTripTimer unit temp s) :=
  .ite (.next h) (.next (.deliver h fun _ ha => .thermalTrip ha))

theorem ResOn.execDramCalibration {st : Fin 16} {chan : Fin 32} {correction : BitVec 8} (h : s.On Q) :
    ResOn Q (execDramCalibration st chan correction s) :=
  .ite (.next h) (.next (.deliver h fun _ ha => .updStk ha))

theorem State.On.measure {reports : List StackReport} (h : s.On Q) : (s.measure reports).On Q :=
  .foldl (fun _ _ hu => .updStk hu) h

theorem ResOn.execPlacementEvaluation {reports : List StackReport} {drawer block copy : Nat} {dest : Fin 16} {phys : Nat}
    (h : s.On Q) : ResOn Q (execPlacementEvaluation reports drawer block copy dest phys s) :=
  .next (.deliver h fun _ ha => .ite (.upd rfl rfl (.updStk (.measure ha))) (.measure ha))

theorem State.On.countMoved {stack : Nat} {into : Bool} (h : s.On Q) : (s.countMoved stack into).On Q :=
  .ite (.counterWrap (.setStk h)) (.setStk h)

theorem State.On.abandonMoves {p : Move → Bool} (h : s.On Q) : (s.abandonMoves p).On Q :=
  .foldl (fun _ _ hu => .updStk hu) (.upd rfl rfl h)

theorem ResOn.execBlockMoveDone {drawer block copy : Nat} (h : s.On Q) :
    ResOn Q (execBlockMoveDone drawer block copy s) := by
  unfold Machine.execBlockMoveDone
  split
  · exact .next (.deliver h fun _ ha => .ite (.abandonMoves ha) (.countMoved (.countMoved (.updStk (.upd rfl rfl ha)))))
  · exact .next h

/-! ### Generations, patrol and retirement (chapter 3) -/

theorem State.On.keepGen {d : Nat} {g : W32} (h : s.On Q K) : (s.keepGen d g).On Q K := .keep rfl rfl rfl rfl h

theorem State.On.advanceGen {s0 : State} {d : Nat} (h : s0.On Q K) : (s0.advanceGen d).1.On Q K := by
  unfold State.advanceGen
  extract_lets s _ _ _ s1 _ s2
  have hs : s.On Q K := .keepGen h
  have hs1 : s1.On Q K := .foldl (fun _ _ hu => .dropSnapshot hu) (.keep rfl rfl rfl rfl hs)
  have hs2 : s2.On Q K := .ite (.setDrw hs1) hs1
  exact hs2

theorem State.On.zeroDrawer {d : Nat} (h : s.On Q) : (s.zeroDrawer d).On Q := .upd rfl rfl h

theorem ResOn.execWrapSweepDone {drawer : Nat} (h : s.On Q) : ResOn Q (execWrapSweepDone drawer s) := by
  unfold Machine.execWrapSweepDone
  split
  · exact .next h
  · exact .next (.deliver h fun _ ha => .raise (.setDrw (.zeroDrawer ha)))

theorem ResOn.execZeroStampDone {drawer block : Nat} (h : s.On Q) : ResOn Q (execZeroStampDone drawer block s) :=
  .next (.deliver h fun _ ha => .setDrw ha)

theorem ResOn.execFreeBlockSweepDone {st : Fin 16} {count : Nat} (h : s.On Q) :
    ResOn Q (execFreeBlockSweepDone st count s) :=
  .next (.deliver h fun _ ha => .updStk ha)

theorem State.On.endLap {n : Nat} (h : s.On Q) : (s.endLap n).On Q := .ite (.counterWrap (.setStk h)) (.setStk h)

theorem State.On.patrolLine {n pl : Nat} (h : s.On Q) : (s.patrolLine n pl).On Q := by
  unfold State.patrolLine
  split
  · exact .ite h (.readFrom h)
  · extract_lets _
    refine .ite h ?_
    split
    next s2 _ _ _ e1 =>
      have hs2 : s2.On Q := State.On.of_eq (.codeAt h) e1
      exact .recordPoison (.upd rfl rfl hs2)
    next s2 _ _ _ e1 =>
      have hs2 : s2.On Q := State.On.of_eq (.codeAt h) e1
      exact .recordCheck hs2

theorem ResOn.execPatrolRead {st : Fin 16} {found : List Damage} (h : s.On Q) : ResOn Q (execPatrolRead st found s) := by
  unfold Machine.execPatrolRead
  extract_lets _ _ _
  refine .ite (.next h) (.next (.deliver h (fun _ ha => .ite (.endLap ha) ?_)))
  extract_lets s1
  have hs1 : s1.On Q := .updStk (.patrolLine (.withFound ha))
  exact .settle (.ite (.endLap hs1) hs1)

theorem ResOn.execLapOverdueTimer {st : Fin 16} (h : s.On Q) : ResOn Q (execLapOverdueTimer st s) :=
  .ite (.next h) (.next (.deliver h fun _ ha => .memEvent (.updStk ha)))

theorem State.On.askRetire {st : Nat} {bank : Bool} {unit : Nat} {by_ : Submitter} (h : s.On Q) :
    (s.askRetire st bank unit by_).1.On Q :=
  .ite_fst h (.ite_fst h (.ite_fst h (.ite_fst h (.upd rfl rfl (.abandonMoves h)))))

theorem ResOn.execRetire {m : BureauMsg} {st : Nat} {bank : Bool} {unit : Nat} (h : s.On Q) :
    ResOn Q (execRetire m st bank unit s) := by
  unfold Machine.execRetire
  refine .next (.bureauRequest h (fun _ ha => ?_))
  split
  next v e =>
    have hv : v.On Q := State.On.of_eq (.askRetire ha) e
    exact hv
  next v _ e =>
    have hv : v.On Q := State.On.of_eq (.askRetire ha) e
    exact .answer hv

theorem State.On.retireSubmit {w : HostWrite} (h : s.On Q) : (s.retireSubmit w).On Q := by
  unfold State.retireSubmit
  extract_lets _ _ _ _ done
  have hdone : ∀ (u : State) (x : Status), u.On Q → (done u x).On Q := fun _ _ hu => .upd rfl rfl hu
  refine .submit h (fun _ ha => hdone _ _ ha) (fun _ ha => ?_)
  split
  next v1 e =>
    have hv1 : v1.On Q := State.On.of_eq (.askRetire ha) e
    exact hv1
  next v1 _ e =>
    have hv1 : v1.On Q := State.On.of_eq (.askRetire ha) e
    exact .busyFell (hdone _ _ hv1)

theorem ResOn.execRetireCmd {w : HostWrite} (h : s.On Q) : ResOn Q (execRetireCmd w s) :=
  .next (.hostGate h fun _ ha => .retireSubmit ha)

theorem State.On.copyBlock {stack blk spare : Nat} (h : s.On Q) : (s.copyBlock stack blk spare).1.On Q := by
  unfold State.copyBlock
  split
  · exact .upd rfl rfl h
  · exact .upd rfl rfl (.foldl (fun _ _ hu => .readFrom hu) h)

theorem State.On.noteSpares {n : Nat} (h : s.On Q) : (s.noteSpares n).On Q := by
  unfold State.noteSpares
  extract_lets _ s1 _
  have hs1 : s1.On Q := .ite (.memEvent (.setStk h)) h
  exact .ite (.memEvent (.setStk hs1)) hs1

theorem ResOn.execRetireCopyDone {index : Nat} {spares : List Nat} (h : s.On Q) :
    ResOn Q (execRetireCopyDone index spares s) := by
  unfold Machine.execRetireCopyDone
  split
  · exact .next h
  · extract_lets _ _ _
    refine .ite (.next h) (.next (.deliver h (fun _ ha => ?_)))
    extract_lets _ s0 r s1 _ s2 _ s3 _ s4
    have hs0 : s0.On Q := .upd rfl rfl ha
    have hr : r.1.On Q := .foldl_fst (fun _ _ hy => .copyBlock hy) hs0
    have hs1 : s1.On Q := .updStk hr
    have hs2 : s2.On Q := .keepTables (.upd rfl rfl hs1)
    have hs3 : s3.On Q := .noteSpares (.memEvent hs2)
    have hs4 : s4.On Q := .busyFell (.upd rfl rfl hs3)
    refine .settle ?_
    split
    · exact .answer hs4
    · exact hs4

theorem ResOn.execStackChannelLoss {st : Fin 16} (h : s.On Q) : ResOn Q (execStackChannelLoss st s) :=
  .ite (.next h) (.next (.deliver h fun _ ha => .updStk ha))

theorem ResOn.execChannelRetrainDone {st : Fin 16} (h : s.On Q) : ResOn Q (execChannelRetrainDone st s) :=
  .next (.deliver h fun _ ha => .updStk ha)

theorem ResOn.execChannelRetrainTimeout {st : Fin 16} (h : s.On Q) : ResOn Q (execChannelRetrainTimeout st s) :=
  .ite (.next (.deliver h fun _ ha => .settle (.loseStack ha))) (.next h)

theorem ResOn.execStackSensorsFailed {st : Fin 16} (h : s.On Q) : ResOn Q (execStackSensorsFailed st s) :=
  .ite (.next (.deliver h fun _ ha => .settle (.loseStack ha))) (.next h)

theorem ResOn.execMirrorBuildDone {drawer : Nat} {plan : List Extent} (h : s.On Q) :
    ResOn Q (execMirrorBuildDone drawer plan s) := by
  unfold Machine.execMirrorBuildDone
  split
  · exact .next h
  · exact .ite (.next h) (.next (.deliver h fun _ ha => .memEvent (.setDrw (.upd rfl rfl ha))))

theorem State.On.arm {kind : Nat} {t : InjectTarget} (h : s.On Q) : (s.arm kind t).1.On Q := by
  unfold State.arm
  split
  · exact h
  · exact .ite_fst h (.memEvent (.setStk h))

theorem ResOn.execInject {m : BureauMsg} {kind : Nat} {target : InjectTarget} (h : s.On Q) :
    ResOn Q (execInject m kind target s) :=
  .next (.bureauRequest h fun _ ha => .answer (.arm ha))

theorem ResOn.execInjectCancel {m : BureauMsg} {target : InjectTarget} (h : s.On Q) :
    ResOn Q (execInjectCancel m target s) := by
  unfold Machine.execInjectCancel
  refine .next (.bureauRequest h (fun _ ha => ?_))
  split
  · exact .answer ha
  · exact .answer (.updStk ha)

theorem State.On.sliceInject {st : Nat} {w : HostWrite} (h : s.On Q) : (s.sliceInject st w).On Q := by
  unfold State.sliceInject
  extract_lets _ say
  have hsay : ∀ (u : State) (x : Status), u.On Q → (say u x).On Q := fun _ _ hu => .updStk hu
  exact .ite h (.submit h (fun _ ha => hsay _ _ ha) fun _ ha => .ite (hsay _ _ (.updStk ha))
    (.ite (hsay _ _ ha) (hsay _ _ (.arm ha))))

theorem ResOn.execSliceInject {st : Fin 16} {w : HostWrite} (h : s.On Q) : ResOn Q (execSliceInject st w s) :=
  .next (.hostGate h fun _ ha => .sliceInject ha)

theorem ResOn.execSliceInjectCancel {st : Fin 16} {w : HostWrite} (h : s.On Q) : ResOn Q (execSliceInjectCancel st w s) :=
  .next (.hostGate h fun _ ha => .sliceInject ha)

/-! ### Images of the lexicon (chapter 15) -/

/-- A lookup that keeps what is said of the board, continued by lookups that keep it. -/
theorem State.On.andThen {α β : Type} {x : Look α} {f : State → α → Look β} (hx : x.1.On Q K)
    (hf : ∀ u a, u.On Q K → (f u a).1.On Q K) : (x.andThen f).1.On Q K := by
  unfold Look.andThen
  split
  · exact hf _ _ hx
  · exact hx

theorem State.On.look {im : LexImage} {o n : Nat} (h : s.On Q K) : (s.look im o n).1.On Q K :=
  .ite_fst h (.ite_fst (.readRange h) (.readRange h))

theorem State.On.lookDict {im : LexImage} (h : s.On Q K) : (s.lookDict im).1.On Q K := .andThen (.look h) fun _ _ hu => hu
theorem State.On.lookGram {im : LexImage} (h : s.On Q K) : (s.lookGram im).1.On Q K := .andThen (.look h) fun _ _ hu => hu

theorem State.On.lookEdge {im : LexImage} {d : DictHdr} {b : Byte} {count i : Nat} (h : s.On Q K) :
    (State.lookEdge im d b count i s).1.On Q K := by
  induction count generalizing i s with
  | zero => exact h
  | succ count ih =>
    unfold State.lookEdge
    exact .ite_fst h (.andThen (.look h) fun u e hu => .ite_fst (.ite_fst hu hu) (ih hu))

theorem State.On.lookBreak {im : LexImage} {d : DictHdr} {b : Byte} (h : s.On Q K) : (s.lookBreak im d b).1.On Q K :=
  .ite_fst h (.andThen (.look h) fun _ _ hu => hu)

theorem State.On.walk {im : LexImage} {d : DictHdr} {final : Bool} {cells : List Cell} {node depth : Nat} {brk : Bool}
    {cand : Option (Nat × Nat)} (h : s.On Q K) : (State.walk im d final cells node depth brk cand s).1.On Q K := by
  induction cells generalizing node depth brk cand s with
  | nil =>
    unfold State.walk
    extract_lets emit
    have hemit : ∀ u : State, u.On Q K → (emit u).1.On Q K := fun u hu => by
      unfold emit
      split <;> exact hu
    exact .ite_fst (hemit s h) (.ite_fst (hemit s h) h)
  | cons c rest ih =>
    unfold State.walk
    extract_lets emit
    have hemit : ∀ u : State, u.On Q K → (emit u).1.On Q K := fun u hu => by
      unfold emit
      split <;> exact hu
    refine .ite_fst (hemit s h) (.andThen (.lookBreak h) fun u br hu => .ite_fst (hemit u hu) (.ite_fst (hemit u hu) ?_))
    refine .andThen (.look hu) fun u1 nd h1 => .andThen (.lookEdge h1) fun u2 child h2 => ?_
    split
    · exact hemit u2 h2
    · exact .andThen (.look h2) fun u3 tb h3 => .ite_fst h3 (ih h3)

theorem State.On.nextToken {im : LexImage} {d : DictHdr} {final : Bool} {cells : List Cell} (h : s.On Q K) :
    (s.nextToken im d final cells).1.On Q K := by
  unfold State.nextToken
  split
  · exact h
  · refine .ite_fst h (.andThen (.walk h) (fun _ _ hu => ?_))
    split
    · exact hu
    · exact hu

theorem State.On.emitTokens {im : LexImage} {d : DictHdr} {final : Bool} {n : Nat} {cells : List Cell} (h : s.On Q K) :
    (State.emitTokens im d final n cells s).1.On Q K := by
  induction n generalizing cells s with
  | zero =>
    unfold State.emitTokens
    split
    next u r e => exact State.On.of_eq (.nextToken h) e
    next u st e => exact State.On.of_eq (.nextToken h) e
  | succ n ih =>
    unfold State.emitTokens
    split
    next u st e => exact State.On.of_eq (.nextToken h) e
    next u e => exact State.On.of_eq (.nextToken h) e
    next u tok fin rest e => exact ih (State.On.of_eq (.nextToken h) e)

theorem State.On.lookRuns {im : LexImage} {g : GramHdr} {count i : Nat} (h : s.On Q K) :
    (State.lookRuns im g count i s).1.On Q K := by
  induction count generalizing i s with
  | zero => exact h
  | succ count ih =>
    unfold State.lookRuns
    exact .ite_fst h (.andThen (.look h) fun u b hu => .andThen (ih hu) fun v rs hv => hv)

theorem State.On.lookState {im : LexImage} {d : GramHdr} {st : Nat} (h : s.On Q K) : (s.lookState im d st).1.On Q K :=
  .ite_fst h (.andThen (.look h) fun _ _ hu => .andThen (.lookRuns hu) fun _ _ hu1 => hu1)

theorem State.On.advanceGram {im : LexImage} {d : GramHdr} {st t : Nat} (h : s.On Q K) : (s.advanceGram im d st t).1.On Q K := by
  unfold State.advanceGram
  refine .andThen (.lookState h) (fun _ _ hu => .ite_fst hu ?_)
  split
  · exact hu
  · exact .ite_fst hu (.andThen (.lookState hu) fun _ _ hu1 => hu1)

theorem State.On.maskOf {im : LexImage} {d : GramHdr} {st : Nat} (h : s.On Q K) : (s.maskOf im d st).1.On Q K :=
  .andThen (.lookState h) fun _ _ hu => hu

theorem PairOn.windowWrite {c : Channel} {bs : List Byte} (h : s.On Q K) : PairOn Q (s.windowWrite c bs) K := by
  unfold State.windowWrite
  refine .map_fst (.foldl (fun o x ho => ?_) (.some h)) fun x hx => hx
  split
  · exact .none
  next u i bad =>
    have hu : u.On Q K := ho.of_eq rfl
    extract_lets _
    split
    · exact .none
    next v e => exact .some (.writeRange (OptionOn.of_eq (.claimRange hu) e))

theorem OptionOn.windowHeader {c : Channel} (h : s.On Q K) : OptionOn Q (s.windowHeader c) K :=
  .map (.claimRange h) fun _ hu => .writeRange hu

theorem PairOn.feedChannels {f : Channel → Channel × List Byte × Nat} {cs : List Channel} (h : s.On Q K) :
    PairOn Q (State.feedChannels f cs s) K := by
  induction cs generalizing s with
  | nil => exact .some h
  | cons c cs ih =>
    unfold State.feedChannels
    extract_lets x
    split
    · exact .none
    next u c1 bad e =>
      have hu : u.On Q K := PairOn.of_eq (.windowWrite h) e
      split
      · exact .none
      next v e1 =>
        have hv : v.On Q K := OptionOn.of_eq (.windowHeader hu) e1
        split
        · exact .none
        next w rest n b e2 => exact .some ((ih hv).of_eq e2)

theorem State.On.tokenBytes {im : LexImage} {d : DictHdr} {t : Nat} (h : s.On Q K) : (s.tokenBytes im d t).1.On Q K :=
  .ite_fst h (.andThen (.look h) fun _ _ hu => .ite_fst hu (.ite_fst hu (.look hu)))

theorem State.On.tokenRun {im : LexImage} {d : DictHdr} {ts : List Nat} (h : s.On Q K) :
    (State.tokenRun im d ts s).1.On Q K := by
  induction ts generalizing s with
  | nil => exact h
  | cons t ts ih =>
    unfold State.tokenRun
    split
    next u st e => exact State.On.of_eq (.tokenBytes h) e
    next u b e => exact ih (State.On.of_eq (.tokenBytes h) e)

/-! ### Tokens and grammars (chapter 15) -/

theorem State.On.lexGate {r : Req} {uses : Bool} {need : Nat → Stream → Option LexImage} {f : Nat → LexImage → Served}
    (h : s.On Q K) (hf : ∀ x y, (f x y).1.On Q K) : (s.lexGate r uses need f).1.On Q K := by
  unfold State.lexGate
  extract_lets _
  refine .ite_fst h ?_
  split
  · exact h
  · exact hf _ _

theorem State.On.sequenced {r : Req} {f : State → Served} (h : s.On Q K) (hf : ∀ u, u.On Q K → (f u).1.On Q K) :
    (s.sequenced r f).1.On Q K := by
  unfold State.sequenced
  extract_lets _
  refine .ite_fst ?_ ?_
  · split
    next u _ e =>
      have hu : u.On Q K := State.On.of_eq (hf _ h) e
      exact .setStream hu
    · exact hf _ h
  · split
    · exact .ite_fst h h
    · exact h

theorem State.On.tokenizeNow {r : Req} {im : LexImage} (h : s.On Q K) : (s.tokenizeNow r im).1.On Q K := by
  unfold State.tokenizeNow
  extract_lets _ _ _ _
  split
  next u _ e =>
    have hu : u.On Q K := State.On.of_eq (.lookDict h) e
    exact hu
  next u _ e =>
    have hu : u.On Q K := State.On.of_eq (.lookDict h) e
    exact .ite_fst hu (.ite_fst (.setStream (.emitTokens hu)) (.setStream (.emitTokens hu)))

theorem State.On.serveTokenize {r : Req} (h : s.On Q K) : (s.serveTokenize r).1.On Q K :=
  .lexGate h fun _ _ => .sequenced h fun _ ha2 => .tokenizeNow ha2

theorem PairOn.detokenize {n : Nat} {im : LexImage} {d : DictHdr} {tokens : List Nat} {final : Bool} (h : s.On Q K) :
    PairOn Q (s.detokenize n im d tokens final) K := by
  unfold State.detokenize
  extract_lets _ r _
  have hr : r.1.On Q K := .tokenRun h
  split
  · exact .none
  next w _ _ _ e =>
    have hw : w.On Q K := PairOn.of_eq (.feedChannels hr) e
    split
    · exact .none
    next w1 _ _ _ e1 =>
      have hw1 : w1.On Q K := PairOn.of_eq (.ite (.feedChannels hw) (.some hw)) e1
      exact .some (.setStream hw1)

theorem State.On.detokenizeNow {r : Req} {t : Nat} {im : LexImage} (h : s.On Q K) : (s.detokenizeNow r t im).1.On Q K := by
  unfold State.detokenizeNow
  extract_lets _ _ _
  refine .ite_fst h ?_
  split
  · exact h
  · split
    next u _ e1 =>
      have hu : u.On Q K := State.On.of_eq (.lookDict h) e1
      exact hu
    next u _ e1 =>
      have hu : u.On Q K := State.On.of_eq (.lookDict h) e1
      split
      · exact h
      next v _ _ _ _ e2 =>
        have hv : v.On Q K := PairOn.of_eq (.detokenize hu) e2
        exact hv

theorem State.On.serveDetokenize {r : Req} (h : s.On Q K) : (s.serveDetokenize r).1.On Q K :=
  .lexGate h fun _ _ => .sequenced h fun _ ha2 => .detokenizeNow ha2

theorem State.On.moveGram {n st : Nat} (h : s.On Q K) : (s.moveGram n st).On Q K := by
  unfold State.moveGram
  extract_lets _
  split
  · exact h
  · exact .setStream h

theorem State.On.sendMask {op : Nat} {r : Req} {mask : List Byte} {word : W64} (h : s.On Q K) :
    (s.sendMask op r mask word).1.On Q K :=
  .foldl (fun _ _ hu => .issue hu) (.keep rfl rfl rfl rfl h)

theorem State.On.serveMaskFetch {r : Req} (h : s.On Q K) : (s.serveMaskFetch r).1.On Q K := by
  unfold State.serveMaskFetch
  refine .lexGate h (fun _ _ => ?_)
  split
  next u _ e =>
    have hu : u.On Q K := State.On.of_eq (.andThen (.lookGram h) fun _ _ hu1 => .maskOf hu1) e
    exact hu
  next u _ e =>
    have hu : u.On Q K := State.On.of_eq (.andThen (.lookGram h) fun _ _ hu1 => .maskOf hu1) e
    exact .sendMask hu

theorem State.On.advanceNow {r : Req} {im : LexImage} {fetch : Bool} (h : s.On Q K) : (s.advanceNow r im fetch).1.On Q K := by
  unfold State.advanceNow
  split
  next u _ e =>
    have hu : u.On Q K := State.On.of_eq (.andThen (.lookGram h) fun _ _ hu1 => .andThen
      (.advanceGram hu1) fun _ _ hu2 => hu2) e
    exact hu
  next u _ _ next _ e =>
    have hu : u.On Q K := State.On.of_eq (.andThen (.lookGram h) fun _ _ hu1 => .andThen
      (.advanceGram hu1) fun _ _ hu2 => hu2) e
    extract_lets move
    have hmove : ∀ (v : State), v.On Q K → (move v).On Q K := fun _ hv => .ite (.moveGram hv) hv
    refine .ite_fst ?_ (hmove _ hu)
    split
    next u1 _ e1 =>
      have hu1 : u1.On Q K := State.On.of_eq (.maskOf hu) e1
      exact hu1
    next u1 _ e1 =>
      have hu1 : u1.On Q K := State.On.of_eq (.maskOf hu) e1
      exact .sendMask (hmove _ hu1)

theorem State.On.serveAdvanceForm {r : Req} {fetch : Bool} (h : s.On Q K) : (s.serveAdvanceForm r fetch).1.On Q K :=
  .lexGate h fun _ _ => .ite_fst (.sequenced h fun _ ha2 => .advanceNow ha2) (.advanceNow h)

theorem State.On.serveAdvance {r : Req} (h : s.On Q K) : (s.serveAdvance r).1.On Q K := .serveAdvanceForm h
theorem State.On.serveAdvanceFetch {r : Req} (h : s.On Q K) : (s.serveAdvanceFetch r).1.On Q K := .serveAdvanceForm h

theorem State.On.serveStreamRead {r : Req} (h : s.On Q K) : (s.serveStreamRead r).1.On Q K := by
  unfold State.serveStreamRead
  split
  · exact h
  · extract_lets _ _ _ x'
    have hx' : x'.1.On Q K := .foldl_fst (fun _ _ hy => .readRange hy) h
    refine .ite_fst h (.ite_fst h ?_)
    split
    · exact hx'
    · exact hx'

theorem ResOn.execStreamRead {r : Req} (h : s.On Q) : ResOn Q (execStreamRead r s) :=
  .next (.request h fun _ _ ha => .serveStreamRead ha)

theorem ResOn.execFabricTokenize {r : Req} (h : s.On Q) : ResOn Q (execFabricTokenize r s) :=
  .next (.request h fun _ _ ha => .serveTokenize ha)

theorem ResOn.execFabricDetokenize {r : Req} (h : s.On Q) : ResOn Q (execFabricDetokenize r s) :=
  .next (.request h fun _ _ ha => .serveDetokenize ha)

theorem ResOn.execFabricMaskFetch {r : Req} (h : s.On Q) : ResOn Q (execFabricMaskFetch r s) :=
  .next (.request h fun _ _ ha => .serveMaskFetch ha)

theorem ResOn.execFabricAdvance {r : Req} (h : s.On Q) : ResOn Q (execFabricAdvance r s) :=
  .next (.request h fun _ _ ha => .serveAdvance ha)

theorem ResOn.execFabricAdvanceFetch {r : Req} (h : s.On Q) : ResOn Q (execFabricAdvanceFetch r s) :=
  .next (.request h fun _ _ ha => .serveAdvanceFetch ha)

theorem State.On.serveOf {op : Nat} {x : Req} (h : s.On Q K) : (serveOf op s x).1.On Q K := by
  unfold Machine.serveOf
  split
  · exact .serveRead h
  · exact .serveWrite h
  · exact .serveFadd h
  · exact .serveCas64 h
  · exact .serveCas128 h
  · exact .serveSyncAdd h
  · exact .serveSyncSet h
  · exact .serveSyncRead h
  · exact .serveSyncWait h
  · exact .serveDoorbell h
  · exact .serveTokenize h
  · exact .serveDetokenize h
  · exact .serveMaskFetch h
  · exact .serveAdvance h
  · exact .serveAdvanceFetch h
  · exact .serveStreamRead h
  · exact h

theorem PairOn.hostStore {drawer off : Nat} {data : List Byte} (h : s.On Q K) : PairOn Q (s.hostStore drawer off data) K :=
  .map (.claimRange h) fun _ hu => .writeRange hu

theorem State.On.repark {x : Parked} (h : s.On Q K) : (s.repark x).On Q K := .keep rfl rfl rfl rfl h

theorem State.On.retryOne {x : Parked} (h : s.On Q K) : (s.retryOne x).On Q K := by
  unfold State.retryOne
  split
  · refine .ite (.repark h) ?_
    split
    · exact .ite (.afterFlit (.respond h)) h
    · split
      next u _ e =>
        have hu : u.On Q K := State.On.of_eq (.serveOf h) e
        exact .ite (.afterFlit (.respond hu)) hu
      next u e =>
        have hu : u.On Q K := State.On.of_eq (.serveOf h) e
        exact .repark hu
  · refine .ite (.repark h) ?_
    split
    · exact .repark h
    next u _ e =>
      have hu : u.On Q K := PairOn.of_eq (.hostStore h) e
      exact hu
  · exact .repark h

theorem State.On.retry (h : s.On Q K) : s.retry.On Q K := .foldl (fun _ _ hu => .retryOne hu) (.keep rfl rfl rfl rfl h)

/-! ### The commands of the lexicon -/

theorem OptionOn.loadUnit {grammar : Bool} {q : Nat} {i : W32} {t : Nat} {c : RunCmd} (h : s.On Q) :
    OptionOn Q (State.loadUnit grammar s q i t c) := by
  unfold State.loadUnit
  extract_lets _ _ _ _ r _ _ _ _ w
  have hr : r.1.On Q := .readRange h
  have hw : w.On Q := hr
  exact .ite (.some (.endRun hw)) (.ite (.some (.endRun hw)) (.some (.endRun (.upd rfl rfl hw))))

theorem OptionOn.unloadUnit {q : Nat} {i : W32} {t : Nat} {c : RunCmd} (h : s.On Q) : OptionOn Q (s.unloadUnit q i t c) :=
  .ite (.some (.endRun h)) (.some (.endRun (.upd rfl rfl h)))

theorem State.On.pickState {im : LexImage} {st : Nat} (h : s.On Q) : (s.pickState im st).1.On Q :=
  .andThen (.lookGram h) fun _ _ hu => .ite_fst hu (.ite_fst hu hu)

theorem OptionOn.openUnit {q : Nat} {i : W32} {t : Nat} {c : RunCmd} (h : s.On Q) : OptionOn Q (s.openUnit q i t c) := by
  unfold State.openUnit
  extract_lets _ _ _ chans _
  split
  · exact .some (.endRun h)
  next dim _ =>
    extract_lets looked
    have hlooked : looked.1.On Q := by
      unfold looked
      split
      · exact h
      · exact .andThen (.lookDict h) fun u _ hu => .andThen (.lookGram hu) fun v _ hv =>
          .ite_fst hv (.andThen (.pickState hv) fun w _ hw => hw)
    clear_value looked
    split
    next u st => exact .some (.endRun hlooked)
    next u _ => exact .some (.endRun (.updRun hlooked))
    next u pos =>
      have hchans : OptionOn Q (chans.foldl (fun (a : Option State) ch => a.bind fun v => v.windowHeader ch) (Option.some u)) :=
        .foldl (fun _ _ ho => .bind ho fun v hv => .windowHeader hv) (.some hlooked)
      split
      · exact .none
      next v e => exact .some (.endRun (.setStream (hchans.of_eq e)))

theorem OptionOn.closeUnit {q : Nat} {i : W32} {t : Nat} {c : RunCmd} (h : s.On Q) : OptionOn Q (s.closeUnit q i t c) := by
  unfold State.closeUnit
  extract_lets _ _
  refine .ite ?_ (.some (.endRun (.setStream h)))
  split
  · exact .some (.endRun h)
  · split
    · exact .none
    next w _ _ _ e1 =>
      have hw : w.On Q := PairOn.of_eq (.feedChannels h) e1
      exact .some (.endRun (.setStream hw))

theorem OptionOn.gramSetUnit {q : Nat} {i : W32} {t : Nat} {c : RunCmd} (h : s.On Q) :
    OptionOn Q (s.gramSetUnit q i t c) := by
  unfold State.gramSetUnit
  extract_lets _ _ _
  refine .ite (.some (.endRun (.setStream h))) ?_
  split
  · exact .some (.endRun h)
  · split
    next u _ e1 =>
      have hu : u.On Q := State.On.of_eq (.pickState h) e1
      exact .some (.endRun hu)
    next u _ e1 =>
      have hu : u.On Q := State.On.of_eq (.pickState h) e1
      exact .some (.endRun (.setStream hu))

theorem State.On.stopTok {q : Nat} {i : W32} {c : RunCmd} {st : Status} (h : s.On Q) : (s.stopTok q i c st).On Q :=
  .endRun (.setStream h)

theorem OptionOn.tokUnit {q : Nat} {i : W32} {t : Nat} {c : RunCmd} (h : s.On Q) : OptionOn Q (s.tokUnit q i t c) := by
  unfold State.tokUnit
  extract_lets _ _ _ _ _ inp _ _ _ _ _ _ _
  have hinp : inp.1.On Q := .readRange h
  refine .ite (.some (.endRun h)) ?_
  split
  · exact .some (.endRun h)
  · split
    next u _ e1 =>
      have hu : u.On Q := State.On.of_eq (.lookDict hinp) e1
      exact .some (.stopTok hu)
    next u _ e1 =>
      have hu : u.On Q := State.On.of_eq (.lookDict hinp) e1
      extract_lets e' _ _ _ _ _ _
      have he' : e'.1.On Q := .emitTokens hu
      split
      · exact .none
      next u1 e2 =>
        have hu1 : u1.On Q := OptionOn.of_eq (.claimRange he') e2
        extract_lets wr _ s1
        have hwr : wr.1.On Q := .writeRange hu1
        have hs1 : s1.On Q := .updRun hwr
        exact .ite (.some (.stopTok hs1)) (.ite (.ite (.some (.stopTok hs1)) (.some hs1))
          (.ite (.some (.stopTok hs1)) (.some (.endRun (.setStream hs1)))))

theorem OptionOn.detokUnit {q : Nat} {i : W32} {t : Nat} {c : RunCmd} (h : s.On Q) : OptionOn Q (s.detokUnit q i t c) := by
  unfold State.detokUnit
  extract_lets _ _ _ _ _ _ _ _ inp _ _ _
  have hinp : inp.1.On Q := .readRange h
  refine .ite (.some (.endRun h)) ?_
  split
  · exact .some (.endRun h)
  · exact .some (.endRun h)
  · split
    next u _ e2 =>
      have hu : u.On Q := State.On.of_eq (.lookDict hinp) e2
      exact .some (.endRun hu)
    next u _ e2 =>
      have hu : u.On Q := State.On.of_eq (.lookDict hinp) e2
      split
      · exact .none
      next v _ _ _ _ e3 =>
        have hv : v.On Q := PairOn.of_eq (.detokenize hu) e3
        extract_lets _ _ s1
        have hs1 : s1.On Q := .updRun hv
        exact .ite (.some (.endRun hs1)) (.ite (.some (.endRun hs1)) (.some hs1))

theorem OptionOn.maskUnit {q : Nat} {i : W32} {c : RunCmd} {mask : List Byte} {fin : State → State} (h : s.On Q)
    (hfin : ∀ u, u.On Q → (fin u).On Q) : OptionOn Q (s.maskUnit q i c mask fin) := by
  unfold State.maskUnit
  extract_lets _ _ _
  split
  · exact .none
  next u e =>
    have hu : u.On Q := OptionOn.of_eq (.claimRange h) e
    exact .ite (.some (hfin _ (.updRun (.writeRange hu)))) (.some (.updRun (.writeRange hu)))

theorem OptionOn.maskFetchUnit {q : Nat} {i : W32} {t : Nat} {c : RunCmd} (h : s.On Q) :
    OptionOn Q (s.maskFetchUnit q i t c) := by
  unfold State.maskFetchUnit
  split
  · exact .some (.endRun h)
  · split
    next u _ e1 =>
      have hu : u.On Q := State.On.of_eq (.andThen (.lookGram h) fun _ _ hu1 => .maskOf hu1) e1
      exact .some (.endRun hu)
    next u _ e1 =>
      have hu : u.On Q := State.On.of_eq (.andThen (.lookGram h) fun _ _ hu1 => .maskOf hu1) e1
      exact .maskUnit hu fun _ ha => .endRun ha

theorem OptionOn.advanceUnit {fetch : Bool} {q : Nat} {i : W32} {t : Nat} {c : RunCmd} (h : s.On Q) :
    OptionOn Q (State.advanceUnit fetch s q i t c) := by
  unfold State.advanceUnit
  extract_lets _
  split
  · exact .some (.endRun h)
  · split
    next u _ e1 =>
      have hu : u.On Q := State.On.of_eq (.andThen (.lookGram h) fun _ _ hu1 => .andThen
        (.advanceGram hu1) fun _ _ hu2 => hu2) e1
      exact .some (.endRun hu)
    next u _ _ next _ e1 =>
      have hu : u.On Q := State.On.of_eq (.andThen (.lookGram h) fun _ _ hu1 => .andThen
        (.advanceGram hu1) fun _ _ hu2 => hu2) e1
      extract_lets move
      have hmove : ∀ (v : State), v.On Q → (move v).On Q := fun _ hv => .ite (.moveGram hv) hv
      refine .ite ?_ (.some (.endRun (hmove _ hu)))
      split
      next u1 _ e2 =>
        have hu1 : u1.On Q := State.On.of_eq (.maskOf hu) e2
        exact .some (.endRun hu1)
      next u1 _ e2 =>
        have hu1 : u1.On Q := State.On.of_eq (.maskOf hu) e2
        exact .maskUnit hu1 fun _ ha => .endRun (hmove _ ha)

theorem OptionOn.lexWork {s0 : State} {q : Nat} {i : W32} {t : Nat} {c : RunCmd} (h : s0.On Q) :
    OptionOn Q (s0.lexWork q i t c) := by
  unfold State.lexWork
  refine .underGens h (fun _ ha => ?_)
  extract_lets _
  split
  · exact .some (.endRun ha)
  · split
    · exact .loadUnit ha
    · exact .loadUnit ha
    · exact .unloadUnit ha
    · exact .openUnit ha
    · exact .closeUnit ha
    · exact .tokUnit ha
    · exact .detokUnit ha
    · exact .maskFetchUnit ha
    · exact .advanceUnit ha
    · exact .advanceUnit ha
    · exact .gramSetUnit ha
    · exact .some (.endRun ha)

theorem State.On.lexRest {q : Nat} {i : W32} (h : s.On Q) : (s.lexRest q i).On Q := by
  unfold State.lexRest
  split
  · exact h
  · split
    · exact .ite h (.ite (.stopTok h) (.ite (.endRun h) (.resumePoint h)))
    · exact .resumePoint h

theorem State.On.lexRun {q : Nat} {i : W32} {fuel : Nat} (h : s.On Q) : (s.lexRun q i fuel).On Q := by
  induction fuel generalizing s with
  | zero => exact h
  | succ fuel ih =>
    unfold State.lexRun
    split
    · exact h
    · refine .ite (.lexRest h) ?_
      split
      · exact .lexRest h
      next u e => exact ih (OptionOn.of_eq (.lexWork h) e)

theorem ResOn.lexRow {q : BitVec 16} {i : W32} {op : Nat} (h : s.On Q) : ResOn Q (s.lexRow q i op) := by
  unfold State.lexRow
  split
  · exact .next h
  · exact .next (.settle (.retry (.lexRun h)))

theorem ResOn.execLexiconResumePoint {q : BitVec 16} {index : BitVec 32} (h : s.On Q) :
    ResOn Q (execLexiconResumePoint q index s) := by
  unfold Machine.execLexiconResumePoint
  split
  · refine .next ?_
    split
    · exact .ite (.retry (.lexRest h)) h
    · exact h
  · exact .next (.settle (.retry (.lexRest (.ite h (.getD (.lexWork h) h)))))

theorem ResOn.execLexNop {q : BitVec 16} {index : BitVec 32} (h : s.On Q) : ResOn Q (execLexNop q index s) := .lexRow h
theorem ResOn.execDictLoad {q : BitVec 16} {index : BitVec 32} (h : s.On Q) : ResOn Q (execDictLoad q index s) := .lexRow h
theorem ResOn.execGramLoad {q : BitVec 16} {index : BitVec 32} (h : s.On Q) : ResOn Q (execGramLoad q index s) := .lexRow h
theorem ResOn.execUnload {q : BitVec 16} {index : BitVec 32} (h : s.On Q) : ResOn Q (execUnload q index s) := .lexRow h

theorem ResOn.execStreamOpen {q : BitVec 16} {index : BitVec 32} (h : s.On Q) : ResOn Q (execStreamOpen q index s) :=
  .lexRow h

theorem ResOn.execStreamClose {q : BitVec 16} {index : BitVec 32} (h : s.On Q) : ResOn Q (execStreamClose q index s) :=
  .lexRow h

theorem ResOn.execTokenize {q : BitVec 16} {index : BitVec 32} (h : s.On Q) : ResOn Q (execTokenize q index s) := .lexRow h

theorem ResOn.execDetokenize {q : BitVec 16} {index : BitVec 32} (h : s.On Q) : ResOn Q (execDetokenize q index s) :=
  .lexRow h

theorem ResOn.execMaskFetch {q : BitVec 16} {index : BitVec 32} (h : s.On Q) : ResOn Q (execMaskFetch q index s) :=
  .lexRow h

theorem ResOn.execAdvance {q : BitVec 16} {index : BitVec 32} (h : s.On Q) : ResOn Q (execAdvance q index s) := .lexRow h

theorem ResOn.execAdvanceFetch {q : BitVec 16} {index : BitVec 32} (h : s.On Q) : ResOn Q (execAdvanceFetch q index s) :=
  .lexRow h

theorem ResOn.execGramSet {q : BitVec 16} {index : BitVec 32} (h : s.On Q) : ResOn Q (execGramSet q index s) := .lexRow h

/-! ### Instructions of a sieve program (chapter 14) -/

theorem Act.On.fault {c : Ctx} {cause info : Nat} (h : s.On Q) : (fault s c cause info).On Q := .trap h
theorem Act.On.faultIn {c : Ctx} {l : LongOp} {cause info : Nat} (h : s.On Q) : (faultIn s c l cause info).On Q := .trap h
theorem Act.On.retireNext {c : Ctx} (h : s.On Q) : (retireNext s c).On Q := .retire h

theorem Act.On.progress {c : Ctx} {l : LongOp} {total : Nat} (h : s.On Q) : (progress s c l total).On Q :=
  .ite (.retireNext h) (.unit h)

theorem Act.On.aluAct {two : Bool} {f : W64 → W64 → W64} {c : Ctx} {w : W32} (h : s.On Q) : (aluAct two f s c w).On Q :=
  .ite (.fault h) (.retireNext h)

theorem Act.On.immAct {ok : Bool} {f : W64 → W64} {c : Ctx} {w : W32} (h : s.On Q) : (immAct ok f s c w).On Q :=
  .ite (.fault h) (.retireNext h)

theorem ResOn.execAluAdd {c : CtxId} (h : s.On Q) : ResOn Q (execAluAdd c s) := .next (.instr h fun _ _ _ ha => .aluAct ha)
theorem ResOn.execAluSub {c : CtxId} (h : s.On Q) : ResOn Q (execAluSub c s) := .next (.instr h fun _ _ _ ha => .aluAct ha)
theorem ResOn.execAluAnd {c : CtxId} (h : s.On Q) : ResOn Q (execAluAnd c s) := .next (.instr h fun _ _ _ ha => .aluAct ha)
theorem ResOn.execAluOr {c : CtxId} (h : s.On Q) : ResOn Q (execAluOr c s) := .next (.instr h fun _ _ _ ha => .aluAct ha)
theorem ResOn.execAluXor {c : CtxId} (h : s.On Q) : ResOn Q (execAluXor c s) := .next (.instr h fun _ _ _ ha => .aluAct ha)
theorem ResOn.execAluShl {c : CtxId} (h : s.On Q) : ResOn Q (execAluShl c s) := .next (.instr h fun _ _ _ ha => .aluAct ha)
theorem ResOn.execAluShr {c : CtxId} (h : s.On Q) : ResOn Q (execAluShr c s) := .next (.instr h fun _ _ _ ha => .aluAct ha)
theorem ResOn.execAluSar {c : CtxId} (h : s.On Q) : ResOn Q (execAluSar c s) := .next (.instr h fun _ _ _ ha => .aluAct ha)
theorem ResOn.execAluMul {c : CtxId} (h : s.On Q) : ResOn Q (execAluMul c s) := .next (.instr h fun _ _ _ ha => .aluAct ha)

theorem ResOn.execAluMulhu {c : CtxId} (h : s.On Q) : ResOn Q (execAluMulhu c s) :=
  .next (.instr h fun _ _ _ ha => .aluAct ha)

theorem ResOn.execAluSltu {c : CtxId} (h : s.On Q) : ResOn Q (execAluSltu c s) :=
  .next (.instr h fun _ _ _ ha => .aluAct ha)

theorem ResOn.execAluSlt {c : CtxId} (h : s.On Q) : ResOn Q (execAluSlt c s) := .next (.instr h fun _ _ _ ha => .aluAct ha)

theorem ResOn.execAluMinu {c : CtxId} (h : s.On Q) : ResOn Q (execAluMinu c s) :=
  .next (.instr h fun _ _ _ ha => .aluAct ha)

theorem ResOn.execAluMaxu {c : CtxId} (h : s.On Q) : ResOn Q (execAluMaxu c s) :=
  .next (.instr h fun _ _ _ ha => .aluAct ha)

theorem ResOn.execAluPopcnt {c : CtxId} (h : s.On Q) : ResOn Q (execAluPopcnt c s) :=
  .next (.instr h fun _ _ _ ha => .aluAct ha)

theorem ResOn.execAddi {c : CtxId} (h : s.On Q) : ResOn Q (execAddi c s) := .next (.instr h fun _ _ _ ha => .immAct ha)
theorem ResOn.execAndi {c : CtxId} (h : s.On Q) : ResOn Q (execAndi c s) := .next (.instr h fun _ _ _ ha => .immAct ha)
theorem ResOn.execOri {c : CtxId} (h : s.On Q) : ResOn Q (execOri c s) := .next (.instr h fun _ _ _ ha => .immAct ha)
theorem ResOn.execXori {c : CtxId} (h : s.On Q) : ResOn Q (execXori c s) := .next (.instr h fun _ _ _ ha => .immAct ha)
theorem ResOn.execShiShl {c : CtxId} (h : s.On Q) : ResOn Q (execShiShl c s) := .next (.instr h fun _ _ _ ha => .immAct ha)
theorem ResOn.execShiShr {c : CtxId} (h : s.On Q) : ResOn Q (execShiShr c s) := .next (.instr h fun _ _ _ ha => .immAct ha)
theorem ResOn.execShiSar {c : CtxId} (h : s.On Q) : ResOn Q (execShiSar c s) := .next (.instr h fun _ _ _ ha => .immAct ha)

theorem ResOn.execLdi {c : CtxId} (h : s.On Q) : ResOn Q (execLdi c s) :=
  .next (.instr h fun _ _ _ ha => .ite (.fault ha) (.retireNext ha))

theorem Act.On.branchAct {taken : W64 → W64 → Bool} {c : Ctx} {w : W32} (h : s.On Q) : (branchAct taken s c w).On Q :=
  .retire h

theorem ResOn.execBeq {c : CtxId} (h : s.On Q) : ResOn Q (execBeq c s) := .next (.instr h fun _ _ _ ha => .branchAct ha)
theorem ResOn.execBne {c : CtxId} (h : s.On Q) : ResOn Q (execBne c s) := .next (.instr h fun _ _ _ ha => .branchAct ha)
theorem ResOn.execBltu {c : CtxId} (h : s.On Q) : ResOn Q (execBltu c s) := .next (.instr h fun _ _ _ ha => .branchAct ha)
theorem ResOn.execBgeu {c : CtxId} (h : s.On Q) : ResOn Q (execBgeu c s) := .next (.instr h fun _ _ _ ha => .branchAct ha)
theorem ResOn.execBlt {c : CtxId} (h : s.On Q) : ResOn Q (execBlt c s) := .next (.instr h fun _ _ _ ha => .branchAct ha)
theorem ResOn.execBge {c : CtxId} (h : s.On Q) : ResOn Q (execBge c s) := .next (.instr h fun _ _ _ ha => .branchAct ha)

theorem ResOn.execJal {c : CtxId} (h : s.On Q) : ResOn Q (execJal c s) :=
  .next (.instr h fun _ _ _ ha => .ite (.fault ha) (.retire ha))

theorem ResOn.execJr {c : CtxId} (h : s.On Q) : ResOn Q (execJr c s) :=
  .next (.instr h fun _ _ _ ha => .ite (.fault ha) (.retire ha))

theorem Act.On.scratchAct {f : State → Ctx → Nat → Act} {c : Ctx} {w : W32} (hf : ∀ u x y, u.On Q → (f u x y).On Q)
    (h : s.On Q) : (scratchAct f s c w).On Q :=
  .ite (.fault h) (hf _ _ _ h)

theorem ResOn.execSld {c : CtxId} (h : s.On Q) : ResOn Q (execSld c s) :=
  .next (.instr h fun _ _ _ ha => .scratchAct (fun _ _ _ ha3 => .retireNext ha3) ha)

theorem ResOn.execSst {c : CtxId} (h : s.On Q) : ResOn Q (execSst c s) :=
  .next (.instr h fun _ _ _ ha => .scratchAct (fun _ _ _ ha3 => .retireNext ha3) ha)

theorem ResOn.execMfsr {c : CtxId} (h : s.On Q) : ResOn Q (execMfsr c s) := by
  unfold Machine.execMfsr
  refine .next (.instr h (fun _ _ _ ha => ?_))
  split
  · exact .fault ha
  · exact .ite (.fault ha) (.retireNext ha)

theorem ResOn.execMtsr {c : CtxId} (h : s.On Q) : ResOn Q (execMtsr c s) :=
  .next (.instr h fun _ _ _ ha => .ite (.fault ha) (.ite (.fault ha) (.retireNext ha)))

theorem ResOn.execYield {c : CtxId} (h : s.On Q) : ResOn Q (execYield c s) :=
  .next (.instr h fun _ _ _ ha => .ite (.fault ha) (.offer ha))

theorem ResOn.execWindow {c : CtxId} (h : s.On Q) : ResOn Q (execWindow c s) :=
  .next (.instr h fun _ _ _ ha => .ite (.fault ha) (.ite (.fault ha) (.ite (.retireNext ha) (.retireNext ha))))

theorem ResOn.execTrap {c : CtxId} (h : s.On Q) : ResOn Q (execTrap c s) :=
  .next (.instr h fun _ _ _ ha => .ite (.fault ha) (.fault ha))

theorem ResOn.execTret {c : CtxId} (h : s.On Q) : ResOn Q (execTret c s) := by
  unfold Machine.execTret
  refine .next (.instr h (fun _ _ _ ha => .ite (.fault ha) (.ite (.fault ha) ?_)))
  extract_lets _ u1 _
  have hu1 : u1.On Q := by
    unfold u1
    split
    · exact .draw ha
    · exact .freeWait (.draw ha)
  exact .ite (.block hu1) (.retire hu1)

theorem ResOn.execHalt {c : CtxId} (h : s.On Q) : ResOn Q (execHalt c s) :=
  .next (.instr h fun _ _ _ ha => .ite (.fault ha) (.halt ha))

theorem ResOn.execUnassignedInstruction {c : CtxId} (h : s.On Q) : ResOn Q (execUnassignedInstruction c s) :=
  .next (.ite (.act h (.fault h)) h)

theorem Act.On.poolAct {f : State → Ctx → Nat → Nat → Act} {c : Ctx} {w : W32} (hf : ∀ u x y z, u.On Q → (f u x y z).On Q)
    (h : s.On Q) : (poolAct f s c w).On Q := by
  unfold Machine.poolAct
  split
  · exact .fault h
  · extract_lets _
    refine .ite (.fault h) ?_
    split
    · exact .fault h
    · exact hf _ _ _ _ h

theorem ResOn.execPld {c : CtxId} (h : s.On Q) : ResOn Q (execPld c s) :=
  .next (.settle (.instr h fun _ _ _ ha => .poolAct (fun _ _ _ _ ha3 => .ite (.retireNext (.draw (.readRange ha3)))
    (.retireNext (.readRange ha3))) ha))

theorem ResOn.execPst {c : CtxId} (h : s.On Q) : ResOn Q (execPst c s) := by
  unfold Machine.execPst
  refine .next (.settle (.instr h (fun _ _ _ ha => .poolAct (fun _ _ _ _ ha3 => ?_) ha)))
  split
  · exact .stay
  next u e =>
    have hu : u.On Q := OptionOn.of_eq (.claimRange ha3) e
    exact .retireNext (.writeRange hu)

theorem ResOn.execTcfg {c : CtxId} (h : s.On Q) : ResOn Q (execTcfg c s) := by
  unfold Machine.execTcfg
  refine .next (.instr h (fun _ _ _ ha => ?_))
  extract_lets _ _
  refine .ite (.fault ha) ?_
  split
  · exact .fault ha
  · exact .retireNext ha

theorem ResOn.execTrelTiles {c : CtxId} (h : s.On Q) : ResOn Q (execTrelTiles c s) :=
  .next (.instr h fun _ _ _ ha => .ite (.fault ha) (.retireNext ha))

theorem ResOn.execTrelAccumulators {c : CtxId} (h : s.On Q) : ResOn Q (execTrelAccumulators c s) :=
  .next (.instr h fun _ _ _ ha => .ite (.fault ha) (.retireNext ha))

theorem Act.On.tileStep {f : State → Ctx → Nat → Tile → Nat → Nat → Option (State × Ctx)} {c : Ctx} {w : W32}
    (hf : ∀ u x y z w v, u.On Q → PairOn Q (f u x y z w v)) (h : s.On Q) : (tileStep f s c w).On Q := by
  unfold Machine.tileStep
  refine .ite (.fault h) ?_
  split
  · exact .fault h
  · refine .ite (.fault h) ?_
    split
    · exact .fault h
    · extract_lets _ _ _
      split
      · exact .faultIn h
      · split
        · exact .progress h
        · split
          · exact .stay
          next u _ e4 =>
            have hu : u.On Q := PairOn.of_eq (hf _ _ _ _ _ _ h) e4
            exact .progress hu

theorem Act.On.tldStep {c : Ctx} {w : W32} (h : s.On Q) : (tldStep s c w).On Q :=
  .tileStep (fun _ _ _ _ _ _ hu => .some (.readRange hu)) h

theorem Act.On.tstStep {c : Ctx} {w : W32} (h : s.On Q) : (tstStep s c w).On Q := by
  unfold Machine.tstStep
  refine .tileStep (fun _ _ _ _ _ _ hu => ?_) h
  split
  · exact .none
  next u1 e1 =>
    have hu1 : u1.On Q := OptionOn.of_eq (.claimRange hu) e1
    exact .some (.writeRange hu1)

theorem ResOn.execTld {c : CtxId} (h : s.On Q) : ResOn Q (execTld c s) :=
  .next (.settle (.longInstr h fun _ _ _ ha => .tldStep ha))

theorem ResOn.execTst {c : CtxId} (h : s.On Q) : ResOn Q (execTst c s) :=
  .next (.settle (.longInstr h fun _ _ _ ha => .tstStep ha))

theorem State.On.keyAt {d : TileShape} {qs : List Row} {q k : Nat} {c : Ctx} {d1 off : Nat} {id : W32} (h : s.On Q) :
    (s.keyAt d qs q k c d1 off id).1.On Q := by
  unfold State.keyAt
  extract_lets r
  have hr : r.1.On Q := .readRange h
  refine .ite_fst hr ?_
  split
  · exact hr
  · exact hr

theorem Act.On.streamCheck {c : Ctx} {w : W32} {params k stride : Nat} {extra : Bool} {f : TileShape → List Row → LongOp → Act}
    (h : s.On Q) (hf : ∀ x y z, (f x y z).On Q) : (streamCheck s c w params k stride extra f).On Q := by
  unfold Machine.streamCheck
  refine .ite (.fault h) (.ite (.fault h) ?_)
  split
  · exact .fault h
  · exact .ite (.fault h) (.ite (.fault h) (.ite (.fault h) (hf _ _ _)))

theorem Act.On.tscoreContiguousStep {c : Ctx} {w : W32} (h : s.On Q) : (tscoreContiguousStep s c w).On Q := by
  unfold Machine.tscoreContiguousStep
  extract_lets _ _ _ _ _
  refine .streamCheck h (fun _ _ _ => .ite (.retireNext h) ?_)
  split
  · exact .faultIn h
  · exact .progress (.foldl_fst (fun _ _ hy => .keyAt hy) h)

theorem State.On.indexedRun {g : TileShape} {qs : List Row} {k : Nat} {drained : Bool} {d o kd ko stride n j : Nat} {c : Ctx}
    (h : s.On Q) : (indexedRun g qs k drained d o kd ko stride n j s c).1.On Q := by
  induction n generalizing j s c with
  | zero => exact h
  | succ n ih =>
    unfold Machine.indexedRun
    extract_lets size at_ r id off x
    have hr : r.1.On Q := .readRange h
    refine .ite_fst (ih hr) (.ite_fst (ih hr) ?_)
    split
    · exact hr
    · exact ih (.keyAt hr)

theorem Act.On.tscoreIndexedStep {c : Ctx} {w : W32} (h : s.On Q) : (tscoreIndexedStep s c w).On Q := by
  unfold Machine.tscoreIndexedStep
  extract_lets _ _ _ _ _ _
  refine .streamCheck h (fun _ _ _ => .ite (.retireNext h) ?_)
  split
  · exact .faultIn h
  · extract_lets r _ _ _
    have hr : r.1.On Q := .indexedRun h
    split
    · exact .faultIn hr
    · exact .progress hr

theorem Act.On.tscoreTileStep {c : Ctx} {w : W32} (h : s.On Q) : (tscoreTileStep s c w).On Q := by
  unfold Machine.tscoreTileStep
  extract_lets _ _ _ _ _ _ _
  refine .ite (.fault h) (.ite (.fault h) ?_)
  split
  · exact .ite (.fault h) (.ite (.fault h) (.progress h))
  · exact .fault h

theorem ResOn.execTscoreTile {c : CtxId} (h : s.On Q) : ResOn Q (execTscoreTile c s) :=
  .next (.settle (.longInstr h fun _ _ _ ha => .tscoreTileStep ha))

theorem ResOn.execTscoreContiguous {c : CtxId} (h : s.On Q) : ResOn Q (execTscoreContiguous c s) :=
  .next (.settle (.longInstr h fun _ _ _ ha => .tscoreContiguousStep ha))

theorem ResOn.execTscoreIndexed {c : CtxId} (h : s.On Q) : ResOn Q (execTscoreIndexed c s) :=
  .next (.settle (.longInstr h fun _ _ _ ha => .tscoreIndexedStep ha))

theorem Act.On.storeStep {c : Ctx} {l : LongOp} {d o : Nat} {data : List Byte} {final : Ctx → Ctx} (h : s.On Q) :
    (storeStep s c l d o data final).On Q := by
  unfold Machine.storeStep
  split
  · exact .faultIn h
  · extract_lets _ _
    split
    · exact .stay
    next u e1 =>
      have hu : u.On Q := OptionOn.of_eq (.claimRange h) e1
      exact .ite (.retireNext (.writeRange hu)) (.progress (.writeRange hu))

theorem Act.On.astStep {c : Ctx} {w : W32} (h : s.On Q) : (astStep s c w).On Q := by
  unfold Machine.astStep
  refine .ite (.fault h) ?_
  split
  · exact .fault h
  · refine .ite (.fault h) ?_
    split
    · exact .fault h
    · exact .storeStep h

theorem ResOn.execAst {c : CtxId} (h : s.On Q) : ResOn Q (execAst c s) :=
  .next (.settle (.longInstr h fun _ _ _ ha => .astStep ha))

theorem Act.On.topkSelectStep {c : Ctx} {w : W32} (h : s.On Q) : (topkSelectStep s c w).On Q := by
  unfold Machine.topkSelectStep
  extract_lets _ _ _
  refine .ite (.fault h) (.ite (.fault h) ?_)
  split
  · exact .fault h
  · split
    · exact .fault h
    · exact .progress h

theorem ResOn.execTopkSelect {c : CtxId} (h : s.On Q) : ResOn Q (execTopkSelect c s) :=
  .next (.settle (.longInstr h fun _ _ _ ha => .topkSelectStep ha))

theorem State.On.mergeEntry {c : Ctx} {t : TopK} {d off q : Nat} (h : s.On Q) : (s.mergeEntry c t d off q).1.On Q := by
  unfold State.mergeEntry
  extract_lets r _
  have hr : r.1.On Q := .readRange h
  exact .ite_fst hr (.ite_fst hr (.ite_fst hr hr))

theorem Act.On.topkMergeStep {c : Ctx} {w : W32} (h : s.On Q) : (topkMergeStep s c w).On Q := by
  unfold Machine.topkMergeStep
  extract_lets _ _ _ _ _ _ _ _ _ _
  refine .ite (.fault h) (.ite (.fault h) ?_)
  split
  · exact .fault h
  · refine .ite (.retireNext h) ?_
    split
    · exact .faultIn h
    · exact .progress (.foldl_fst (fun _ _ hy => .mergeEntry hy) (.draw h))

theorem ResOn.execTopkMerge {c : CtxId} (h : s.On Q) : ResOn Q (execTopkMerge c s) :=
  .next (.settle (.longInstr h fun _ _ _ ha => .topkMergeStep ha))

theorem Act.On.topkDrainStep {c : Ctx} {w : W32} (h : s.On Q) : (topkDrainStep s c w).On Q := by
  unfold Machine.topkDrainStep
  refine .ite (.fault h) ?_
  split
  · exact .fault h
  · refine .ite (.fault h) ?_
    split
    · exact .retireNext h
    · exact .storeStep h

theorem ResOn.execTopkDrain {c : CtxId} (h : s.On Q) : ResOn Q (execTopkDrain c s) :=
  .next (.settle (.longInstr h fun _ _ _ ha => .topkDrainStep ha))

theorem ResOn.execTopkClear {c : CtxId} (h : s.On Q) : ResOn Q (execTopkClear c s) :=
  .next (.instr h fun _ _ _ ha => .ite (.fault ha) (.retireNext ha))

theorem ResOn.execXmov {c : CtxId} (h : s.On Q) : ResOn Q (execXmov c s) := by
  unfold Machine.execXmov
  extract_lets _ _ _ _ s1
  have hs1 : s1.On Q := by
    unfold s1
    refine .instr h (fun _ _ _ ha => ?_)
    extract_lets _
    refine .ite (.fault ha) (.ite (.fault ha) (.ite (.fault ha) ?_))
    split
    · exact .fault ha
    · exact .ite (.fault ha) (.ite (.fault ha) (.retireNext (.setCtx ha)))
  exact .next (.boundary hs1)

theorem Act.On.syncAct {op : W64 → CounterOp} {usesRb : Bool} {c : Ctx} {w : W32} (h : s.On Q) :
    (syncAct op usesRb s c w).On Q :=
  .ite (.fault h) (.ite (.block (.counterOp h)) (.retireNext (.counterOp h)))

theorem State.On.countInstr {c : Instr} {key : Nat} {k : SKind} {f : State → Ctx → W32 → Act} (h : s.On Q)
    (hf : ∀ u x y, u.On Q → (f u x y).On Q) : (s.countInstr c key k f).On Q :=
  .ite (.deliver h fun _ ha => .instr ha fun _ _ _ ha1 => hf _ _ _ ha1) h

theorem ResOn.execSadd {c : CtxId} (h : s.On Q) : ResOn Q (execSadd c s) :=
  .next (.countInstr h fun _ _ _ ha => .syncAct ha)

theorem ResOn.execSset {c : CtxId} (h : s.On Q) : ResOn Q (execSset c s) :=
  .next (.countInstr h fun _ _ _ ha => .syncAct ha)

theorem ResOn.execSread {c : CtxId} (h : s.On Q) : ResOn Q (execSread c s) :=
  .next (.countInstr h fun _ _ _ ha => .syncAct ha)

theorem ResOn.execSwait {c : CtxId} (h : s.On Q) : ResOn Q (execSwait c s) :=
  .next (.countInstr h fun _ _ _ ha => .syncAct ha)

theorem ResOn.execSwaitRelease {c : CtxId} (h : s.On Q) : ResOn Q (execSwaitRelease c s) := by
  unfold Machine.execSwaitRelease
  extract_lets _ _
  split
  · exact .next h
  · split
    · exact .next h
    · split
      · exact .ite (.next h) (.next (.reelect (.resumed (.retireCtx (.freeWait h)))))
      · exact .next h

/-- The unit of every long instruction keeps what is said of the board. -/
theorem Act.On.of_unitStep {k : SKind} {f : State → Ctx → W32 → Act} (hk : unitStep k = some f) (u : State) (c : Ctx) (w : W32)
    (h : u.On Q) : (f u c w).On Q := by
  cases k <;> cases hk
  · exact .tldStep h
  · exact .tstStep h
  · exact .tscoreTileStep h
  · exact .tscoreContiguousStep h
  · exact .tscoreIndexedStep h
  · exact .astStep h
  · exact .topkSelectStep h
  · exact .topkMergeStep h
  · exact .topkDrainStep h

theorem ResOn.execSieveUnitDone {c : CtxId} (h : s.On Q) : ResOn Q (execSieveUnitDone c s) := by
  unfold Machine.execSieveUnitDone
  extract_lets x
  split
  · exact .next h
  · split
    · exact .next h
    next f e => exact .next (.settle (.instr h (Act.On.of_unitStep e)))

theorem ResOn.execTtimerExpiry {c : CtxId} (h : s.On Q) : ResOn Q (execTtimerExpiry c s) :=
  .ite (.next (.boundary (.setCtx h))) (.next h)

theorem ResOn.execOverrunKillTimer {c : CtxId} (h : s.On Q) : ResOn Q (execOverrunKillTimer c s) :=
  .ite (.next (.reelect (.endStart h))) (.next h)

theorem ResOn.execSieveNop {q : BitVec 16} {index : BitVec 32} (h : s.On Q) : ResOn Q (execSieveNop q index s) := by
  unfold Machine.execSieveNop
  split
  · exact .next h
  · exact .next (.endRun h)

theorem ResOn.execPload {q : BitVec 16} {index : BitVec 32} (h : s.On Q) : ResOn Q (execPload q index s) := by
  unfold Machine.execPload
  split
  · exact .next h
  · exact .ite (.next (.resumePoint h)) (.next (.settle (.endRun (.setCtx (.readRange h)))))

theorem ResOn.execStart {q : BitVec 16} {index : BitVec 32} (h : s.On Q) : ResOn Q (execStart q index s) := by
  unfold Machine.execStart
  split
  · exact .next h
  · exact .ite (.next h) (.ite (.next (.resumePoint h)) (.next (.reelect (.updRun (.setCtx h)))))

theorem ResOn.execResetctx {q : BitVec 16} {index : BitVec 32} (h : s.On Q) : ResOn Q (execResetctx q index s) := by
  unfold Machine.execResetctx
  split
  · exact .next h
  · exact .ite (.next (.resumePoint h)) (.next (.endRun (.setCtx (.freeCtxWaits h))))

/-! ### Holds and snapshots (chapter 16) -/

theorem State.On.updFrozen {q : Nat} {i : W32} {f : Frozen → Frozen} (h : s.On Q) :
    (s.updFrozen q i f).On Q := .upd rfl rfl h

theorem State.On.listStop {q : Nat} {i : W32} {kind id : Nat} {index : W32} (h : s.On Q) :
    (s.listStop q i kind id index).On Q :=
  .updFrozen h

theorem State.On.askRuns {q : Nat} {i : W32} {x : HoldSet} (h : s.On Q) : (s.askRuns q i x).On Q :=
  .foldl (fun _ _ hu => .setQueue hu) h

theorem State.On.stopCtx {key : Nat} {st : Status} (h : s.On Q) : (s.stopCtx key st).On Q := .boundary (.setCtx h)
theorem State.On.pauseCtx {key : Nat} (h : s.On Q) : (s.pauseCtx key).On Q := .ite h (.boundary (.setCtx h))

theorem State.On.freeze {q : Nat} {i : W32} {t : Nat} {x : HoldSet} (h : s.On Q) : (s.freeze q i t x).On Q := by
  unfold State.freeze
  extract_lets _ _ s1 s2 _ s3
  have hs1 : s1.On Q := .upd rfl rfl h
  have hs2 : s2.On Q := .releaseAll hs1
  have hs3 : s3.On Q := .foldl (fun _ _ hu => .stopCtx (.listStop hu)) (.askRuns hs2)
  exact .foldl (fun _ _ hu => .pauseCtx hu) hs3

theorem OptionOn.report {d off : Nat} {data : List Byte} (h : s.On Q) : OptionOn Q (s.report d off data) := by
  unfold State.report
  split
  · exact .some h
  · exact .map (.claimRange h) fun _ hu => .writeRange hu

theorem ResOn.holdRow {a : Instr} {q : BitVec 16} {i : W32} {op : Nat} {f : State → Nat → RunCmd → Nat → State} (h : s.On Q)
    (hf : ∀ u x y z, u.On Q → (f u x y z).On Q) : ResOn Q (s.holdRow a q i op f) := by
  unfold State.holdRow
  split
  · exact .next h
  · exact .ite (.next (.resumePoint h)) (.next (.deliver h fun _ ha1 => .settle (hf _ _ _ _ ha1)))

theorem ResOn.execHoldNop {q : BitVec 16} {index : BitVec 32} (h : s.On Q) : ResOn Q (execHoldNop q index s) :=
  .holdRow h fun _ _ _ _ ha => .endRun ha

theorem State.On.holdNow {q : Nat} {c : RunCmd} {t : Nat} (h : s.On Q) : (s.holdNow q c t).On Q := by
  unfold State.holdNow
  extract_lets _ _ h' r
  have hh' : h'.1.On Q := .readRange h
  have hr : r.1.On Q := .readRange hh'
  refine .ite (.endRun hr) ?_
  split
  · exact .endRun hr
  · split
    · exact .endRun hr
    · exact .ite (.endRun hr) (.freeze (.updRun hr))

theorem ResOn.execHold {q : BitVec 16} {index : BitVec 32} (h : s.On Q) : ResOn Q (execHold q index s) :=
  .holdRow h fun _ _ _ _ ha => .holdNow ha

theorem State.On.stopRun {f : Frozen} {e : Nat × RunCmd} (h : s.On Q) : (s.stopRun f e).On Q :=
  .ite (.complete h) (.complete (.endRun (.listStop h)))

theorem State.On.killCtx {f : Frozen} {key : Nat} (h : s.On Q) : (s.killCtx f key).On Q :=
  .reelect (.endStart (.listStop h))

theorem State.On.abandon {f : Frozen} {o : OutReq} (h : s.On Q) : (s.abandon f o).On Q := by
  unfold State.abandon
  split
  · exact .updFrozen (.updRun (.upd rfl rfl h))
  · exact h

theorem ResOn.execHoldQuiesceExpiry {q : BitVec 16} {index : BitVec 32} (h : s.On Q) :
    ResOn Q (execHoldQuiesceExpiry q index s) := by
  unfold Machine.execHoldQuiesceExpiry
  split
  · exact .next h
  · refine .next (.deliver h (fun _ ha => ?_))
    extract_lets s1 s2 s3
    have hs1 : s1.On Q := .foldl (fun _ _ hu => .abandon hu) ha
    have hs2 : s2.On Q := .foldl (fun _ _ hu => .killCtx hu) hs1
    have hs3 : s3.On Q := .foldl (fun _ _ hu => .reelect (.endStart hu)) hs2
    exact .settle (.foldl (fun _ _ hu => .stopRun hu) hs3)

theorem ResOn.execHoldCapture {q : BitVec 16} {index : BitVec 32} (h : s.On Q) : ResOn Q (execHoldCapture q index s) := by
  unfold Machine.execHoldCapture
  split
  · refine .ite (.next h) ?_
    extract_lets _ _
    exact .ite (.next h) (.next (.deliver h fun _ ha => .settle (.endRun (.updFrozen (.upd rfl rfl (.getD (.report ha) ha))))))
  · exact .next h

theorem ResOn.execHoldDigestDone {snapshot : BitVec 32} (h : s.On Q) : ResOn Q (execHoldDigestDone snapshot s) := by
  unfold Machine.execHoldDigestDone
  split
  · exact .next h
  · extract_lets _ written
    have hwritten : ∀ (u : State), u.On Q → OptionOn Q (written u) := fun _ hu => by
      unfold written
      split
      · exact .some hu
      · exact .report hu
    exact .ite (.next h) (.next (.deliver h fun _ ha => .settle (.note (.upd rfl rfl (.getD (hwritten _ ha) ha)))))

theorem State.On.thaw {f : Frozen} (h : s.On Q K) : (s.thaw f).On Q K := by
  unfold State.thaw
  extract_lets _ _ s1 s2 s3
  have hs1 : s1.On Q K := .keep rfl rfl rfl rfl h
  have hs2 : s2.On Q K := .foldl (fun _ _ hu => .setQueue hu) hs1
  have hs3 : s3.On Q K := .foldl (fun _ _ hu => .setCtx_of_halts hu (.inl rfl)) hs2
  exact .retry (.thawAdds (.foldl (fun _ _ hu => .reelect hu) hs3))

theorem State.On.restoreDrawer {id : Nat} {im : DrawerImage} (h : s.On Q) : (s.restoreDrawer id im).On Q := by
  unfold State.restoreDrawer
  extract_lets d _ _ _ size _ _ _ _ _ _ s1 _ s2
  have hs1 : s1.On Q := .upd rfl rfl (.zeroDrawer h)
  have hs2 : s2.On Q := .upd rfl rfl hs1
  exact .foldl (fun _ _ hu => .foldl (fun _ _ hv => .updStk hv) hu) hs2

theorem State.On.rewait {x : Snapshot} (h : s.On Q) : (s.rewait x).1.On Q := .upd rfl rfl h

theorem State.On.restore {x : Snapshot} (h : s.On Q) : (s.restore x).On Q := by
  unfold State.restore
  extract_lets s1 _ _ _ s2 w' s3 s4
  have hs1 : s1.On Q := .foldl (fun _ _ hu => .restoreDrawer hu) h
  have hs2 : s2.On Q := .upd rfl rfl hs1
  have hw' : w'.1.On Q := .rewait hs2
  have hs3 : s3.On Q := .foldl (fun _ _ hu => .setQueue hu) hw'
  have hs4 : s4.On Q := .foldl (fun _ _ hu => .setStream hu) hs3
  exact .foldl (fun _ _ hu => .setCtx hu) hs4

theorem State.On.resumeNow {q : Nat} {c : RunCmd} {t : Nat} (h : s.On Q) : (s.resumeNow q c t).On Q := by
  unfold State.resumeNow
  split
  · exact .endRun h
  · split
    · exact .endRun h
    · exact .endRun h
    · exact .endRun (.ite (.retry (.dropSnapshot (.thaw (.restore h)))) (.thaw (.restore h)))

theorem ResOn.execResume {q : BitVec 16} {index : BitVec 32} (h : s.On Q) : ResOn Q (execResume q index s) :=
  .holdRow h fun _ _ _ _ ha => .resumeNow ha

theorem State.On.dropNow {q : Nat} {c : RunCmd} {t : Nat} (h : s.On Q) : (s.dropNow q c t).On Q := by
  unfold State.dropNow
  split
  · exact .endRun h
  · exact .ite (.endRun h) (.endRun (.retry (.dropSnapshot h)))

theorem ResOn.execDrop {q : BitVec 16} {index : BitVec 32} (h : s.On Q) : ResOn Q (execDrop q index s) :=
  .holdRow h fun _ _ _ _ ha => .dropNow ha

/-! ### Parcels (chapter 16) -/

theorem State.On.parcel {x : Snapshot} {flags : Nat} {cert : List Byte} (h : s.On Q) : (s.parcel x flags cert).1.On Q :=
  .draw (.draw h)

theorem State.On.exportNow {q : Nat} {c : RunCmd} {t : Nat} (h : s.On Q) : (s.exportNow q c t).On Q := by
  unfold State.exportNow
  extract_lets _ _ chain s1 _
  have hchain : chain.1.On Q := .ite_fst (.readRange h) h
  have hs1 : s1.On Q := hchain
  split
  · exact .endRun h
  · refine .ite (.endRun hs1) ?_
    split
    · exact .endRun hs1
    · extract_lets p _ _
      have hp : p.1.On Q := .parcel hs1
      refine .ite (.endRun hp) ?_
      split
      · exact h
      next u e2 =>
        have hu : u.On Q := OptionOn.of_eq (.claimRange hp) e2
        exact .endRun (.writeRange hu)

theorem ResOn.execExportParcel {q : BitVec 16} {index : BitVec 32} {found : List Damage} (h : s.On Q) :
    ResOn Q (execExportParcel q index found s) :=
  .holdRow h fun _ _ _ _ ha => .exportNow (.withFound ha)

theorem State.On.commitImport {f : Frozen} {y : Snapshot} {q : Nat} {digest : List Byte} (h : s.On Q) :
    (s.commitImport f y q digest).1.On Q :=
  .upd rfl rfl (.foldl (fun _ _ hu => .advanceGen hu) h)

theorem State.On.importNow {q : Nat} {c : RunCmd} {t : Nat} (h : s.On Q) : (s.importNow q c t).On Q := by
  unfold State.importNow
  extract_lets _ _ r _ stop
  have hr : r.1.On Q := .readRange h
  have hstop : ∀ (st : Status), (stop st).On Q := fun _ => .endRun hr
  refine .ite (.endRun h) (.ite (hstop _) (.ite (hstop _) (.ite (hstop _) ?_)))
  split
  · exact hstop _
  · split
    · exact hstop _
    · exact .endRun (.retry (.commitImport hr))

theorem ResOn.execImportParcel {q : BitVec 16} {index : BitVec 32} {found : List Damage} (h : s.On Q) :
    ResOn Q (execImportParcel q index found s) :=
  .holdRow h fun _ _ _ _ ha => .importNow (.withFound ha)

theorem State.On.receiveNow {q : Nat} {c : RunCmd} {t : Nat} (h : s.On Q) : (s.receiveNow q c t).On Q :=
  .ite (.endRun h) (.ite (.endRun h) (.upd rfl rfl (.updRun h)))

theorem ResOn.execReceive {q : BitVec 16} {index : BitVec 32} (h : s.On Q) : ResOn Q (execReceive q index s) :=
  .holdRow h fun _ _ _ _ ha => .receiveNow ha

theorem State.On.updReceive {x : Receive} {f : Receive → Receive} (h : s.On Q) : (s.updReceive x f).On Q := .upd rfl rfl h

theorem State.On.endReceive {x : Receive} {st : Status} {result : W64} (h : s.On Q) : (s.endReceive x st result).On Q :=
  .endRun (.upd rfl rfl h)

theorem ResOn.execReceiveIdleTimeout {q : BitVec 16} {index : BitVec 32} (h : s.On Q) :
    ResOn Q (execReceiveIdleTimeout q index s) := by
  unfold Machine.execReceiveIdleTimeout
  split
  · exact .next h
  · exact .next (.deliver h fun _ ha => .settle (.endReceive ha))

theorem State.On.serveXferAttest {r : Req} (h : s.On (Fused base)) : (s.serveXferAttest r).1.On (Fused base) :=
  .reseal rfl rfl rfl h

theorem State.On.serveXferOffer {r : Req} (h : s.On Q) : (s.serveXferOffer r).1.On Q := by
  unfold State.serveXferOffer
  refine .ite_fst h ?_
  split
  · exact h
  · exact .ite_fst (.endReceive h) (.ite_fst (.endReceive h) (.updReceive h))

theorem State.On.serveXferChunk {r : Req} (h : s.On Q) : (s.serveXferChunk r).1.On Q := by
  unfold State.serveXferChunk
  split
  · exact h
  · split
    · exact h
    · exact .ite_fst (.endReceive h) (.updReceive h)

theorem State.On.serveXferCommit {r : Req} (h : s.On Q) : (s.serveXferCommit r).1.On Q := by
  unfold State.serveXferCommit
  refine .ite_fst h ?_
  split
  · exact h
  · extract_lets fail
    have hfail : ∀ (st : Status), (fail st).1.On Q := fun _ => .endReceive h
    split
    · exact h
    · split
      · exact hfail _
      · split
        · exact hfail _
        · split
          · exact hfail _
          · exact .retry (.endReceive (.commitImport h))

theorem State.On.serveXferAbort {r : Req} (h : s.On Q) : (s.serveXferAbort r).1.On Q := by
  unfold State.serveXferAbort
  split
  · exact h
  · exact .endReceive h

theorem ResOn.execXferAttest {r : Req} (h : s.On (Fused base)) : ResOn (Fused base) (execXferAttest r s) :=
  .next (.request h fun _ _ ha => .serveXferAttest ha)

theorem ResOn.execXferOffer {r : Req} (h : s.On Q) : ResOn Q (execXferOffer r s) :=
  .next (.request h fun _ _ ha => .serveXferOffer ha)

theorem ResOn.execXferChunk {r : Req} (h : s.On Q) : ResOn Q (execXferChunk r s) :=
  .next (.request h fun _ _ ha => .serveXferChunk ha)

theorem ResOn.execXferCommit {r : Req} {rendezvous : BitVec 64} (h : s.On Q) : ResOn Q (execXferCommit r rendezvous s) :=
  .ite (.next h) (.next (.request h fun _ _ ha => .serveXferCommit ha))

theorem ResOn.execXferAbort {r : Req} (h : s.On Q) : ResOn Q (execXferAbort r s) :=
  .next (.request h fun _ _ ha => .serveXferAbort ha)

theorem State.On.transferNow {q : Nat} {c : RunCmd} {t : Nat} (h : s.On Q) : (s.transferNow q c t).On Q := by
  unfold State.transferNow
  extract_lets _ _ s1 _
  have hs1 : s1.On Q := .updRun (.draw h)
  split
  · exact .endRun h
  · exact .ite (.endRun h) (.issue (.upd rfl rfl hs1))

theorem ResOn.execTransfer {q : BitVec 16} {index : BitVec 32} (h : s.On Q) : ResOn Q (execTransfer q index s) :=
  .holdRow h fun _ _ _ _ ha => .transferNow ha

theorem State.On.updTransfer {q : Nat} {i : W32} {f : Transfer → Transfer} (h : s.On Q) : (s.updTransfer q i f).On Q :=
  .upd rfl rfl h

theorem State.On.nextChunk {t : Transfer} {o : OutReq} (h : s.On Q) : (s.nextChunk t o).On Q :=
  .ite (.issue (.updTransfer h)) (.issue h)

theorem State.On.transferAnswered {o : OutReq} {t : Transfer} {r : RespFields} (h : s.On Q) :
    (s.transferAnswered o t r).On Q := by
  unfold State.transferAnswered
  extract_lets snap fin
  have hfin : ∀ (st : Status), (fin st).On Q := fun _ => .retry (.endTransfer h)
  refine .ite (hfin _) ?_
  split
  · clear_value snap
    split
    · exact hfin _
    · exact .ite (hfin _) (.issue (.updTransfer (.parcel h)))
  · exact .ite (hfin _) (.nextChunk h)
  · exact .nextChunk h
  · exact hfin _

theorem State.On.answered {o : OutReq} {r : RespFields} (h : s.On Q) : (s.answered o r).On Q := by
  unfold State.answered
  split
  · extract_lets _ s1
    have hs1 : s1.On Q := .upd rfl rfl h
    split
    · exact hs1
    · exact .transferAnswered hs1
  · extract_lets _ s1
    have hs1 : s1.On Q := .upd rfl rfl h
    refine .ite hs1 ?_
    split
    · exact hs1
    · exact .transportError hs1
  · exact .outDone h

theorem State.On.takeResp {p : Nat} {m : RxMsg} (h : s.On Q) : (s.takeResp p m).On Q := by
  unfold State.takeResp
  extract_lets s1
  have hs1 : s1.On Q := .updPort h
  split
  · exact .settle (.afterFlit (.assignAll (.answered hs1)))
  · exact .transportError hs1

theorem ResOn.execResponseReceived {p : Fin 32} {bytes : List Byte} (h : s.On Q) :
    ResOn Q (execResponseReceived p bytes s) := by
  unfold Machine.execResponseReceived
  split
  · exact .next h
  · exact .ite (.next (.deliver h fun _ ha => .takeResp ha)) (.next h)

/-! ### Joinery images (chapter 5) -/

theorem State.On.postReport {who : Submitter} {e : Ev} {code : Nat} {delta : Bool} {seq c : Nat} {rep : List Byte}
    (h : s.On Q) : (s.postReport who e code delta seq c rep).On Q := by
  unfold State.postReport
  extract_lets _ s1
  have hs1 : s1.On Q := .raise (.upd rfl rfl h)
  split
  · exact hs1
  · exact .answer hs1

theorem State.On.postReject {who : Submitter} {im : List Byte} {r : Reject} (h : s.On Q) : (s.postReject who im r).On Q :=
  .postReport h

theorem State.On.postApplied {who : Submitter} {j : Joinery} (h : s.On Q) : (s.postApplied who j).On Q := .postReport h
theorem State.On.joineryIdle (h : s.On Q) : s.joineryIdle.On Q := .busyFell (.upd rfl rfl h)

theorem State.On.takeImage {im : List Byte} {who : Submitter} (h : s.On Q) : (s.takeImage im who).On Q :=
  .ite (.setNode (.upd rfl rfl h)) (.upd rfl rfl h)

theorem State.On.jnySubmit {w : HostWrite} (h : s.On Q) : (s.jnySubmit w).On Q :=
  .submit h (fun _ ha => .upd rfl rfl ha) fun _ ha => .takeImage (.upd rfl rfl ha)

theorem ResOn.execJnyCtrl {w : HostWrite} (h : s.On Q) : ResOn Q (execJnyCtrl w s) :=
  .next (.hostGate h fun _ ha => .jnySubmit ha)

theorem ResOn.execJoineryLoad {m : BureauMsg} {image : List Byte} (h : s.On Q) : ResOn Q (execJoineryLoad m image s) :=
  .next (.bureauRequest h fun _ ha => .ite (.postReject ha) (.takeImage ha))

theorem State.On.beginFull {j : Joinery} (h : s.On Q) : (s.beginFull j).On Q := by
  unfold State.beginFull
  extract_lets _ _ s1 s2 s3
  have hs1 : s1.On Q := .setNode (.upd rfl rfl h)
  have hs2 : s2.On Q := .foldl (fun _ _ hu => .ite (.quiesce hu) hu) hs1
  have hs3 : s3.On Q := .stopRuns hs2
  exact .foldl (fun _ _ hu => .ite hu (.stopCtx hu)) hs3

theorem State.On.acceptImage {im : List Byte} {j : Joinery} {plan : List Extent} {who : Submitter} (h : s.On Q) :
    (s.acceptImage im j plan who).On Q :=
  .ite (.beginFull (.upd rfl rfl h)) (.upd rfl rfl h)

theorem ResOn.execImageCheckDone {plan : List Extent} (h : s.On Q) : ResOn Q (execImageCheckDone plan s) := by
  unfold Machine.execImageCheckDone
  split
  · refine .ite (.next h) ?_
    split
    · exact .next (.deliver h fun _ ha => .settle (.joineryIdle (.postReject (.ite (.setNode ha) ha))))
    · exact .ite (.next h) (.next (.deliver h fun _ ha => .settle (.acceptImage ha)))
  · exact .next h

theorem State.On.endQueue {q : Nat} {r : QueueRange} (h : s.On Q) : (s.endQueue q r).On Q :=
  .foldl (fun _ _ hu => .completeIn hu) h

theorem State.On.endContexts (h : s.On Q) : s.endContexts.On Q :=
  .foldl (fun _ _ hu => .ite hu (.ite (.endStart hu) (.freeCtxWaits hu))) h

theorem State.On.endHolds (h : s.On Q) : s.endHolds.On Q := .foldl (fun _ _ hu => .thaw hu) (.upd rfl rfl h)

theorem State.On.endWork (h : s.On Q) : s.endWork.On Q := by
  unfold State.endWork
  extract_lets s1 s2 s3 _
  have hs1 : s1.On Q := .endContexts (.endHolds h)
  have hs2 : s2.On Q := by
    unfold s2
    refine .foldl (fun _ _ hu => ?_) hs1
    split
    · exact hu
    · exact .ite hu (.endQueue hu)
  have hs3 : s3.On Q := .releaseAll hs2
  exact .upd rfl rfl hs3

theorem State.On.dropSharers {d b : Nat} (h : s.On Q K) : (s.dropSharers d b).On Q K :=
  .foldl (fun _ _ hu => .noteOnce (.dropSnapshot hu)) h

theorem State.On.claimAnyway {d off n : Nat} (h : s.On Q K) : (s.claimAnyway d off n).On Q K :=
  .ite h (.foldl (fun _ _ hu => .getD (.unshare hu) (.dropSharers hu)) h)

theorem State.On.finishOne {x : Parked} (h : s.On Q K) : (s.finishOne x).On Q K := by
  unfold State.finishOne
  split
  · refine .ite (.retryOne h) ?_
    split
    next u _ e =>
      have hu : u.On Q K := State.On.of_eq (.serveOf (.claimAnyway h)) e
      exact .ite (.afterFlit (.respond hu)) hu
    next u e =>
      have hu : u.On Q K := State.On.of_eq (.serveOf (.claimAnyway h)) e
      exact .repark hu
  · split
    · exact .repark h
    next u _ e =>
      have hu : u.On Q K := PairOn.of_eq (.hostStore (.claimAnyway h)) e
      exact hu
  · exact .retryOne h

theorem State.On.finishParked (h : s.On Q K) : s.finishParked.On Q K := .foldl (fun _ _ hu => .finishOne hu) (.keep rfl rfl rfl rfl h)

theorem State.On.finishFabric {n : Nat} (h : s.On Q) : (State.finishFabric n s).On Q := by
  induction n generalizing s with
  | zero => exact h
  | succ n ih =>
    unfold State.finishFabric
    extract_lets u
    have hu : u.On Q := .finishParked h
    exact .ite hu (ih (.foldl (fun _ _ hv => .ite hv (.outDone hv)) hu))

theorem State.On.downForApply {j : Joinery} {p : Nat} (h : s.On Q) : (s.downForApply j p).On Q := by
  unfold State.downForApply
  extract_lets _ _ _ s1
  have hs1 : s1.On Q := .ite (.launchNow h) h
  exact .ite (.ite (.forcedDown hs1) (.plannedDown hs1)) (.sendPlanned h)

theorem State.On.endFabric {j : Joinery} (h : s.On Q) : (s.endFabric j).On Q :=
  .upd rfl rfl (.foldl (fun _ _ hu => .downForApply hu) h)

theorem State.On.trimDrawer {d size old : Nat} (h : s.On Q) : (s.trimDrawer d size old).On Q := by
  unfold State.trimDrawer
  extract_lets s1 v s2
  have hs1 : s1.On Q := by
    refine .foldl (fun u i hu => ?_) h
    split
    next v e => exact OptionOn.of_eq (.unshare hu) e
    · exact .dropSharers hu
  exact .setDrw (.upd rfl rfl hs1)

theorem State.On.createDrawer {n : DrawerRec} (h : s.On Q) : (s.createDrawer n).1.On Q := .setDrw (.upd rfl rfl h)

theorem State.On.changeDrawer {o n : DrawerRec} (h : s.On Q) : (s.changeDrawer o n).1.On Q := by
  unfold State.changeDrawer
  extract_lets a s1 _ _ s2 _ s3
  have ha : a.1.On Q := .ite_fst (.advanceGen h) h
  have hs1 : s1.On Q := ha
  have hs2 : s2.On Q := .ite (.trimDrawer hs1) (.ite (.setDrw hs1) hs1)
  have hs3 : s3.On Q := .ite (.degrade hs2) (.ite (.setDrw hs2) hs2)
  exact hs3

theorem State.On.deleteDrawer {d : Nat} (h : s.On Q) : (s.deleteDrawer d).On Q := by
  unfold State.deleteDrawer
  extract_lets s1
  have hs1 : s1.On Q := .foldl (fun _ _ hu => .dropSnapshot hu) h
  exact .upd rfl rfl hs1

theorem State.On.unloadImages {j : Joinery} (h : s.On Q) : (s.unloadImages j).On Q := .upd rfl rfl h

theorem State.On.applyDrawers {j : Joinery} {plan : List Extent} (h : s.On Q) : (s.applyDrawers j plan).On Q := by
  unfold State.applyDrawers
  extract_lets _ _ s1 _ r s2 _ s3 _ _ s4
  have hs1 : s1.On Q := .unloadImages h
  have hr : r.1.On Q := by
    unfold r
    refine .foldl_fst (fun _ _ hy => ?_) hs1
    extract_lets x
    have hx : x.1.On Q := by
      unfold x
      split
      · exact .createDrawer hy
      · exact .changeDrawer hy
    exact hx
  have hs2 : s2.On Q := .foldl (fun _ _ hu => .deleteDrawer hu) hr
  have hs3 : s3.On Q := .abandonMoves hs2
  have hs4 : s4.On Q := .upd rfl rfl hs3
  exact .foldl (fun _ _ hu => .updStk hu) hs4

theorem State.On.applyCounters {j : Joinery} (h : s.On Q) : (s.applyCounters j).On Q := .releaseAll
    (.upd rfl rfl (.setWaits h))

theorem State.On.giveContexts {order : List Nat} {t count : Nat} (h : s.On Q) : (s.giveContexts order t count).On Q := by
  unfold State.giveContexts
  extract_lets _
  exact .ite (.foldl (fun _ _ hu => .setCtx hu) h) (.foldl (fun _ _ hu => .reelect
    (.setCtx (.ite (.endStart hu) (.freeCtxWaits hu)))) h)

theorem State.On.applyContexts {j : Joinery} (h : s.On Q) : (s.applyContexts j).On Q :=
  .foldl (fun _ _ hu => .giveContexts hu) (.foldl (fun _ _ hu => .giveContexts hu) h)

theorem State.On.applyVolts {j : Joinery} (h : s.On Q) : (s.applyVolts j).On Q := .foldl (fun _ _ hu => .setDom hu) h
theorem State.On.applyPorts {j : Joinery} (h : s.On Q) : (s.applyPorts j).On Q := .foldl (fun _ _ hu => .updPort hu) h

theorem State.On.install {j : Joinery} {plan : List Extent} (h : s.On Q) : (s.install j plan).On Q :=
  .applyVolts (.upd rfl rfl (.applyCounters (.applyDrawers h)))

theorem State.On.fullPoint {j : Joinery} {plan : List Extent} {who : Submitter} (h : s.On Q) :
    (s.fullPoint j plan who).On Q := by
  unfold State.fullPoint
  extract_lets _ s1 _ s2 s3 s4 _
  have hs1 : s1.On Q := .ite h (.endFabric (.endWork (.finishFabric h)))
  have hs2 : s2.On Q := .install (.upd rfl rfl hs1)
  have hs3 : s3.On Q := .applyPorts (.applyContexts hs2)
  have hs4 : s4.On Q := .ite (.upd rfl rfl hs3) hs3
  exact .settle (.thawAdds (.upd rfl rfl hs4))

theorem State.On.resetQueue {j : Joinery} {q : Nat} (h : s.On Q) : (s.resetQueue j q).On Q := by
  unfold State.resetQueue
  split
  · exact h
  · extract_lets _ s1 _ _ s2 w _ _
    have hs1 : s1.On Q := by
      unfold s1
      refine .foldl (fun _ _ hu1 => ?_) h
      split
      · exact .ite (.reelect (.endStart hu1)) hu1
      · exact hu1
    have hs2 : s2.On Q := .ite (.endQueue hs1) hs1
    have hw : w.On Q := .setQueue hs2
    exact .upd rfl rfl hw

theorem State.On.cutBindings {j : Joinery} (h : s.On Q) : (s.cutBindings j).On Q := .upd rfl rfl h
theorem State.On.keepShares {j : Joinery} (h : s.On Q) : (s.keepShares j).On Q := .ite h (.upd rfl rfl h)

theorem State.On.deltaPoint {s0 : State} {j : Joinery} {plan : List Extent} {who : Submitter} (h : s0.On Q) :
    (s0.deltaPoint j plan who).On Q := by
  unfold State.deltaPoint
  extract_lets s _ s1 _ s2 s3 s4
  have hs : s.On Q := .keepShares (.finishParked h)
  have hs1 : s1.On Q := .foldl (fun _ _ hu => .ite (.resetQueue hu) hu) hs
  have hs2 : s2.On Q := .cutBindings (.upd rfl rfl hs1)
  have hs3 : s3.On Q := .applyPorts (.applyContexts (.install hs2))
  have hs4 : s4.On Q := .foldl (fun _ _ hu => .quiesce hu) hs3
  exact .settle (.joineryIdle (.postApplied (.thawAdds hs4)))

theorem ResOn.execApplyPoint (h : s.On Q) : ResOn Q (execApplyPoint s) := by
  unfold Machine.execApplyPoint
  split
  · exact .ite (.next h) (.ite (.next (.deliver h fun _ ha => .fullPoint ha))
      (.ite (.next h) (.next (.deliver h fun _ ha => .deltaPoint ha))))
  · exact .next h

theorem ResOn.execFullApplyDone (h : s.On Q) : ResOn Q (execFullApplyDone s) := by
  unfold Machine.execFullApplyDone
  split
  · exact .ite (.next h) (.next (.deliver h fun _ ha => .settle (.foldl (fun _ _ hu => .updPort hu)
      (.joineryIdle (.postApplied (.setNode ha))))))
  · exact .next h

theorem ResOn.execConfigRequest (h : s.On Q) : ResOn Q (execConfigRequest s) :=
  .ite (.next h) (.ite (.next (.complete_ h)) (.next (.complete_ h)))

/-! ### Retention (chapter 2) -/

theorem State.On.drain (h : s.On Q) : s.drain.On Q :=
  .foldl (fun _ _ hu => .pauseCtx hu) (.foldl (fun _ _ hu => .setQueue hu) h)

theorem State.On.acceptRetention {timer mask : Nat} (h : s.On Q) : (s.acceptRetention timer mask).On Q := .drain
    (.upd rfl rfl h)

theorem State.On.retainSubmit {w : HostWrite} (h : s.On Q) : (s.retainSubmit w).On Q :=
  .submit h (fun _ ha => .upd rfl rfl ha) fun _ ha => .acceptRetention ha

theorem ResOn.execRetainCmd {w : HostWrite} (h : s.On Q) : ResOn Q (execRetainCmd w s) :=
  .next (.hostGate h fun _ ha => .retainSubmit ha)

theorem ResOn.execRetention {m : BureauMsg} {timer mask : Nat} (h : s.On Q) : ResOn Q (execRetention m timer mask s) :=
  .next (.bureauRequest h fun _ ha => .ite (.answer ha) (.acceptRetention (.answer ha)))

theorem ResOn.execShutdown {m : BureauMsg} (h : s.On Q) : ResOn Q (execShutdown m s) :=
  .next (.bureauRequest h fun _ ha => .drain (.upd rfl rfl (.answer ha)))

theorem State.On.planLinks (h : s.On Q) : s.planLinks.On Q := .foldl (fun _ _ hu => .sendPlanned hu) h

theorem State.On.linksDown {s1 : State} (h : s1.On Q) : s1.linksDown.On Q :=
  .foldl (fun _ _ hu => .closeSession hu) (.upd rfl rfl h)

theorem ResOn.execRetentionEntryDone (h : s.On (Fused base)) : ResOn (Fused base) (execRetentionEntryDone s) := by
  unfold Machine.execRetentionEntryDone
  refine .ite (.next h) (.ite (.next (.ite (.deliver h fun _ ha => .releaseAll ha) h)) ?_)
  refine .next (.deliver h (fun _ ha => ?_))
  extract_lets u1
  have hu1 : u1.On (Fused base) := .planLinks ha
  refine .ite hu1 (.ite (.stop (.linksDown hu1)) ?_)
  split
  · exact hu1
  · exact .settle (.setNode (.upd rfl rfl (.raise (.linksDown hu1))))

theorem State.On.setRetention {r : Retention} (h : s.On Q) : (s.setRetention r).On Q := .upd rfl rfl h

theorem ResOn.execWakeLight {p : Fin 32} (h : s.On Q) : ResOn Q (execWakeLight p s) := by
  unfold Machine.execWakeLight
  split
  · exact .next h
  · exact .ite (.next (.setRetention h)) (.next h)

theorem ResOn.execAmbientCheckExpiry {p : Fin 32} {pattern unmodulated : Bool} (h : s.On Q) :
    ResOn Q (execAmbientCheckExpiry p pattern unmodulated s) := by
  unfold Machine.execAmbientCheckExpiry
  split
  · exact .next h
  · exact .ite (.next h) (.ite (.next (.portEvent (.setRetention h))) (.next (.setRetention h)))

theorem ResOn.execWakeTimerExpiry (h : s.On Q) : ResOn Q (execWakeTimerExpiry s) := by
  unfold Machine.execWakeTimerExpiry
  split
  · exact .next h
  · exact .ite (.next h) (.next (.setRetention h))

theorem ResOn.execWakeHost (h : s.On Q) : ResOn Q (execWakeHost s) := by
  unfold Machine.execWakeHost
  split
  · exact .next h
  · exact .ite (.next (.upd rfl rfl (.setRetention h))) (.next h)

theorem State.On.unpause (h : s.On Q) : s.unpause.On Q := by
  unfold State.unpause
  extract_lets s1 _ s2
  have hs1 : s1.On Q := .foldl (fun _ _ hu => .setQueue hu) h
  have hs2 : s2.On Q := .foldl (fun _ _ hu => .setCtx hu) hs1
  exact .foldl (fun _ _ hu => .reelect hu) hs2

theorem State.On.retireFailed {bad : List BenchId} (h : s.On Q) : (s.retireFailed bad).On Q :=
  .foldl (fun _ _ hu => .ite (.plannedPromotion hu) (.unthrottle (.upd rfl rfl hu))) h

theorem State.On.reportWarnings {r : Retention} (h : s.On Q) : (s.reportWarnings r).On Q :=
  .foldl (fun _ _ hu => .raise hu) h

theorem State.On.wakeUp {r : Retention} {w : Wake} {bad : List BenchId} (h : s.On Q) : (s.wakeUp r w bad).On Q := by
  unfold State.wakeUp
  extract_lets _ _ _ _ s1 s2 s3 s5 s6
  have hs1 : s1.On Q := .upd rfl rfl h
  have hs2 : s2.On Q := .retireFailed (.setNode hs1)
  have hs3 : s3.On Q := .raise hs2
  have hs5 : s5.On Q := .unpause (.settle (.reportWarnings hs3))
  have hs6 : s6.On Q := .foldl (fun _ _ hu => .updPort hu) hs5
  exact .upd rfl rfl hs6

theorem ResOn.execRetentionExitDone {checks : ExitChecks} {failed : List TestUnit} (h : s.On Q) :
    ResOn Q (execRetentionExitDone checks failed s) := by
  unfold Machine.execRetentionExitDone
  split
  · exact .next h
  · split
    · exact .next h
    · refine .ite (.next h) ?_
      extract_lets _ fail s1
      have hfail : ∀ (u : State), u.On Q → (fail u).On Q := fun _ hu => .upd rfl rfl hu
      have hs1 : s1.On Q := .foldl (fun _ _ hu => .startUpFailure hu) h
      refine .ite (.next (hfail _ (.failStartUp (.reportWarnings h)))) ?_
      split
      · extract_lets s2
        have hs2 : s2.On Q := by
          unfold s2
          split
          · exact hs1
          · exact .raise hs1
        exact .next (hfail _ (.enterFailed (.reportWarnings hs2)))
      · exact .ite (.next (hfail _ (.failStartUp (.reportWarnings hs1)))) (.next (.wakeUp hs1))

/-! ### Seal, tokens and debug (chapter 17) -/

theorem ResOn.execReportSigned {signature : List Byte} (h : s.On (Fused base)) : ResOn (Fused base)
    (execReportSigned signature s) := by
  unfold Machine.execReportSigned
  split
  · exact .next h
  · refine .ite (.next h) (.next (.deliver h (fun _ ha => ?_)))
    extract_lets _ s1 _ _ _
    have hs1 : s1.On (Fused base) := .reseal rfl rfl rfl ha
    split
    · exact .busyFell (.upd rfl rfl hs1)
    · exact .answer hs1
    · exact .ite (.afterFlit (.respond (.upd rfl rfl hs1))) (.upd rfl rfl hs1)

theorem State.On.thawUnrestored {f : Frozen} (h : s.On Q K) : (s.thawUnrestored f).On Q K := by
  unfold State.thawUnrestored
  extract_lets _ s1 s2 _ s3
  have hs1 : s1.On Q K := .foldl (fun _ _ hu => .dropSnapshot hu) h
  have hs2 : s2.On Q K := .foldl (fun _ _ hu => .ite (.endStart hu) hu) hs1
  have hs3 : s3.On Q K := .foldl (fun _ _ hu => .setQueue hu) hs2
  exact .thaw hs3

/-- A change of the debug state, after which the board is as `Q` says; an unlock marks the stop record (R137). -/
theorem State.On.changeDebug {d : DebugState} {e : Ev}
    (h : State.On (fun x => Q (x.1, x.2.1, { x.2.2.1 with debug := d }, x.2.2.2)) s (K.map Desk.unmarked))
    (hm : ∀ k ∈ K, k.marked → (s.power.dbgFlag || (d == .unlocked)) = true) :
    (s.changeDebug d e).On Q K := by
  unfold State.changeDebug
  extract_lets _ s0 _ _ s1
  have hs0 : s0.On (fun x => Q (x.1, x.2.1, { x.2.2.1 with debug := d }, x.2.2.2)) (K.map Desk.unmarked) := .finishParked h
  obtain ⟨hQ, hK⟩ := State.on_iff.1 hs0
  have hs1 : s1.On Q K := State.on_iff.2 ⟨hQ, fun k hk => by
    obtain ⟨hdbg, hsessions, hfreed, -⟩ := hK _ (Option.mem_map_of_mem _ hk)
    exact ⟨hdbg, hsessions, hfreed, hm k hk⟩⟩
  exact .settle (.raise (.foldl (fun _ _ hu => .thawUnrestored hu) (.foldl (fun _ _ hu => .advanceGen hu) hs1)))

theorem State.sec_changeDebug (s : State) (d : DebugState) (e : Ev) : (s.changeDebug d e).sec = { s.sec with debug := d } :=
  State.On.changeDebug (Q := fun x => x.2.2.1 = { s.sec with debug := d }) (K := none) rfl nofun

theorem State.On.unlock (h : s.On (Fused base)) : s.unlock.1.On (Fused base) := by
  have hc : (s.changeDebug .unlocked .debugUnlocked).On (Fused base) := .changeDebug (Q := Fused base) h nofun
  unfold State.unlock
  split
  · exact h
  · dsimp only
    exact hc

theorem State.On.releaseHalts (h : s.On Q) : s.releaseHalts.On Q := .foldl (fun _ _ hu => .reelect hu) (.upd rfl rfl h)

theorem State.On.relock (h : s.On (Fused base)) : s.relock.1.On (Fused base) := by
  have hc : (s.releaseHalts.changeDebug .unlockedSincePower .debugRelocked).On (Fused base) := .changeDebug (Q := Fused base)
    (State.On.releaseHalts h) nofun
  unfold State.relock
  split
  · exact h
  · dsimp only
    exact hc

theorem State.On.rejectToken (h : s.On Q) : s.rejectToken.1.On Q := .raise h

/-- A token that is taken is one that vouches for what it does (R619). -/
theorem State.On.takeToken {c : Instr} {u : State} {bytes : List Byte} (hb : Brings c s bytes) (h : u.board = s.board) :
    (u.takeToken bytes).1.On (Allowed c s) := by
  have hf : u.On (Fused s.board) := by rw [State.On, h]; exact .refl _
  have ha : u.On (Allowed c s) := .of_fused hf
  have hsec : u.sec = s.sec := congrArg (·.2.2.1) h
  unfold State.takeToken
  split
  · exact .rejectToken ha
  next k hk =>
    split
    · exact .rejectToken ha
    next hgood =>
      have hvouch : Vouches bytes s.sec := by
        simp only [Bool.or_eq_true, Bool.not_eq_true', bne_iff_ne, not_or, Bool.not_eq_false, not_not, hsec] at hgood
        exact ⟨k, hk, hgood.1.1.1, hgood.1.1.2, hgood.1.2⟩
      refine .ite_fst (Allowed.of_fused (State.On.unlock hf)) ?_
      dsimp only
      refine .raise ?_
      obtain ⟨hpending, hpart, hmac, hid, -, hkeys⟩ := ha
      exact ⟨hpending, hpart, hmac, hid, .inr ⟨bytes, hb, hvouch⟩, hkeys⟩

theorem ResOn.execToken (m : BureauMsg) (bytes : List Byte) (s : State) : ResOn (Allowed (.token m bytes) s)
    (execToken m bytes s) :=
  .next (.bureauRequest_le (Q := (· = s.board)) (fun _ hx => .of_fused (hx ▸ .refl _)) rfl fun _ hu =>
    .answer (.takeToken (.inl ⟨m, rfl⟩) hu))

theorem ResOn.execReadmit {m : BureauMsg} {b : BenchId} (h : s.On Q) : ResOn Q (execReadmit m b s) :=
  .next (.bureauRequest h fun _ ha => .ite (.answer ha) (.ite (.answer ha) (.ite (.answer ha) (.settle (.upd rfl rfl ha)))))

/-! ### Registers and windows of the host port (chapter 19) -/

theorem State.On.clearRc {off : Nat} (h : s.On Q) : (s.clearRc off).On Q := .ite (.upd rfl rfl h) (.ite (.upd rfl rfl h) h)

theorem State.On.read4 {via : Interface} {off : Nat} (h : s.On Q) : (s.read4 via off).1.On Q := by
  unfold State.read4
  extract_lets _ _ _
  refine .ite_fst (.upd rfl rfl h) ?_
  split
  · exact .upd rfl rfl h
  · exact .ite (.clearRc h) h

theorem State.On.giveRead {via : Interface} {off : Nat} {b : List Byte} (h : s.On Q) : (s.giveRead via off b).On Q := by
  unfold State.giveRead
  split
  · exact .complete_ h
  · exact .emit h

theorem State.On.readServed {via : Interface} {off size : Nat} (h : s.On Q) : (s.readServed via off size).On Q := by
  unfold State.readServed
  extract_lets give r
  have hgive : ∀ (u : State) (b : List Byte), u.On Q → (give u b).On Q := fun _ _ hu => .giveRead hu
  have hr : r.1.On Q := .read4 h
  exact .ite (hgive _ _ h) (.ite (hgive _ _ h) (.ite (hgive _ _ h) (.ite (hgive _ _ hr)
    (.ite (hgive _ _ (.clearRc h)) (.hostErr (hgive _ _ h))))))

theorem State.On.bar0Read {c : Instr} {via : Interface} {off size : Nat} (h : s.On Q) :
    (s.bar0Read c via off size).On Q := by
  unfold State.bar0Read
  refine .ite h ?_
  split
  · exact .hostGate h fun _ ha => .ite (.unsupported ha) (.readServed ha)
  · exact .ite h (.deliver h fun _ ha => .readServed ha)

theorem ResOn.execRcRead {via : Interface} {offset size : Nat} (h : s.On Q) : ResOn Q (execRcRead via offset size s) :=
  .next (.bar0Read h)

theorem ResOn.execRsLowRead {via : Interface} {offset : Nat} (h : s.On Q) : ResOn Q (execRsLowRead via offset s) :=
  .ite (.next (.bar0Read h)) (.next h)

theorem State.On.unmask {v : Nat} (h : s.On Q) : (s.unmask v).On Q := .ite (.msix (.upd rfl rfl (.upd rfl rfl h)))
    (.upd rfl rfl h)

theorem State.On.rearm {v : Nat} (h : s.On Q) : (s.rearm v).On Q := .ite (.signal (.upd rfl rfl h)) (.upd rfl rfl h)
theorem State.On.rearmWord {i v : Nat} (h : s.On Q) : (s.rearmWord i v).On Q := .foldl (fun _ _ hu => .rearm hu) h

theorem State.On.hostLock {v : Nat} (h : s.On Q) : (s.hostLock v).On Q :=
  .ite h (.ite (.upd rfl rfl (.ite (.upd rfl rfl h) h)) (.ite (.upd rfl rfl h) h))

theorem State.On.attSubmit {w : HostWrite} (h : s.On (Fused base)) : (s.attSubmit w).On (Fused base) :=
  .submit h (fun _ ha => .upd rfl rfl ha) fun _ ha => .ite (.hostErr (.upd rfl rfl ha)) (.reseal rfl rfl rfl ha)

theorem State.On.syncSubmit {w : HostWrite} (h : s.On Q) : (s.syncSubmit w).On Q := by
  unfold State.syncSubmit
  refine .submit h (fun _ ha => .upd rfl rfl ha) (fun _ ha => ?_)
  extract_lets r _ w' _
  have hr : r.1.On Q := by
    unfold r
    split
    · exact ha
    · exact .counterOp ha
  have hw' : w'.On Q := hr
  exact .settle (.busyFell (.upd rfl rfl hw'))

theorem State.On.windowAdd {c : Nat} {w : HostWrite} (h : s.On Q) : (s.windowAdd c w).On Q :=
  .ite h (.commandWrite h fun _ ha => .ite (.settle (.counterOp ha)) (.hostErr (.counterOp ha)))

theorem State.On.hostBell {q : Nat} {w : HostWrite} (h : s.On Q) : (s.hostBell q w).On Q := by
  unfold State.hostBell
  extract_lets _
  refine .ite h (.ite (.hostErr h) ?_)
  split
  · exact .hostErr h
  · exact .ite (.hostErr h) (.ite (.hostErr h) (.ite (.setQueue h) (.hostErr h)))

theorem State.On.setReg {off v : Nat} (h : s.On Q) : (s.setReg off v).On Q := by
  unfold State.setReg
  extract_lets _ _ _ _ _ s1 _ _ _ _ _ _
  have hs1 : s1.On Q := .upd rfl rfl h
  exact .ite (.upd rfl rfl h) (.ite (.upd rfl rfl h) (.ite (.upd rfl rfl h) (.ite (.upd rfl rfl h) (.ite (.upd rfl rfl h)
    (.ite (.upd rfl rfl h) (.ite (.upd rfl rfl h) (.ite (.upd rfl rfl h)
      (.ite (.upd rfl rfl h) (.ite (.ite (.upd rfl rfl h) (.ite (.upd rfl rfl hs1) (.unmask hs1)))
    (.ite (.ite (.updPort h) h) (.ite (.ite h (.ite (.updStk h) (.ite (.updStk h) h)))
      (.ite (.ite (.upd rfl rfl h) h) h))))))))))))

theorem OptionOn.writeCommand {off : Nat} {w : HostWrite} (h : s.On (Fused base)) : OptionOn (Fused base)
    (s.writeCommand off w) :=
  .ite (.some (.commandWrite h fun _ ha => .hostLock ha)) (.ite (.some (.jnySubmit h))
    (.ite (.some (.retireSubmit h)) (.ite (.some (.retainSubmit h)) (.ite (.some (.attSubmit h))
    (.ite (.some (.syncSubmit h)) (.ite (.some (.commandWrite h fun _ ha => .rearmWord ha))
    (.ite (.some (.sliceInject h)) (.ite (.some (.windowAdd h)) .none))))))))

theorem State.On.writeReg {off size : Nat} {v : W64} (h : s.On (Fused base)) : (s.writeReg off size v).On (Fused base) := by
  unfold State.writeReg
  extract_lets _ _
  refine .ite (.ite (.hostBell h) h) ?_
  split
  next v1 e =>
    have hv1 : v1.On (Fused base) := OptionOn.of_eq (.writeCommand h) e
    exact hv1
  · exact .ite (.ite (.upd rfl rfl h) h) (.setReg h)

theorem State.On.writeServed {off size : Nat} {v : W64} (h : s.On (Fused base)) : (s.writeServed off size v).On (Fused base) :=
  .ite h (.ite (.upd rfl rfl h) (.ite h (.ite (.writeReg h) (.hostErr h))))

theorem State.On.bar0Write {c : Instr} {off size : Nat} {v : W64} (h : s.On (Fused base)) : (s.bar0Write c off size v).On
    (Fused base) :=
  .ite h (.hostGate h fun _ ha => .ite (.unsupported ha) (.writeServed ha))

theorem ResOn.execRegisterWrite {offset size : Nat} {value : W64} (h : s.On (Fused base)) :
    ResOn (Fused base) (execRegisterWrite offset size value s) :=
  .next (.bar0Write h)

theorem ResOn.execHostErrcapClear {w : HostWrite} (h : s.On (Fused base)) : ResOn (Fused base) (execHostErrcapClear w s) :=
  .next (.bar0Write h)
theorem ResOn.execFaultHeadWrite {w : HostWrite} (h : s.On (Fused base)) : ResOn (Fused base) (execFaultHeadWrite w s) :=
  .next (.bar0Write h)
theorem ResOn.execEvtHeadWrite {w : HostWrite} (h : s.On (Fused base)) : ResOn (Fused base) (execEvtHeadWrite w s) :=
  .next (.bar0Write h)

theorem ResOn.execEvtRearm {index : Fin 4} {w : HostWrite} (h : s.On (Fused base)) : ResOn (Fused base)
    (execEvtRearm index w s) :=
  .next (.bar0Write h)

theorem ResOn.execMsixUnmask {vector : Fin 256} (h : s.On Q) : ResOn Q (execMsixUnmask vector s) :=
  .next (.hostGate h fun _ ha => .ite (.unmask ha) ha)

theorem ResOn.execHostLockAcq {w : HostWrite} (h : s.On (Fused base)) : ResOn (Fused base) (execHostLockAcq w s) :=
  .next (.bar0Write h)
theorem ResOn.execHostLockRel {w : HostWrite} (h : s.On (Fused base)) : ResOn (Fused base) (execHostLockRel w s) :=
  .next (.bar0Write h)
theorem ResOn.execAttCtrl {w : HostWrite} (h : s.On (Fused base)) : ResOn (Fused base) (execAttCtrl w s) := .next (.bar0Write h)
theorem ResOn.execSyncCmdAdd {w : HostWrite} (h : s.On (Fused base)) : ResOn (Fused base) (execSyncCmdAdd w s) :=
  .next (.bar0Write h)
theorem ResOn.execSyncCmdSet {w : HostWrite} (h : s.On (Fused base)) : ResOn (Fused base) (execSyncCmdSet w s) :=
  .next (.bar0Write h)
theorem ResOn.execSyncCmdRead {w : HostWrite} (h : s.On (Fused base)) : ResOn (Fused base) (execSyncCmdRead w s) :=
  .next (.bar0Write h)
theorem ResOn.execSyncCmdWait {w : HostWrite} (h : s.On (Fused base)) : ResOn (Fused base) (execSyncCmdWait w s) :=
  .next (.bar0Write h)

theorem ResOn.execCounterWindowAdd {c : BitVec 18} {w : HostWrite} (h : s.On (Fused base)) : ResOn (Fused base)
    (execCounterWindowAdd c w s) :=
  .next (.bar0Write h)

theorem ResOn.execHostDoorbell {q : BitVec 16} {w : HostWrite} (h : s.On (Fused base)) : ResOn (Fused base)
    (execHostDoorbell q w s) :=
  .next (.bar0Write h)

theorem State.On.bar2Piece {acc : Bar2Read} {p : Nat × Nat × Nat} (h : s.On Q) : (s.bar2Piece acc p).1.On Q := by
  unfold State.bar2Piece
  extract_lets _
  split
  · exact h
  · exact .readLine h

theorem ResOn.execBar2Read {offset length : Nat} {found : List Damage} (h : s.On Q) :
    ResOn Q (execBar2Read offset length found s) := by
  unfold Machine.execBar2Read
  refine .ite (.next h) (.ite (.next (.hostWait h)) ?_)
  refine .ite (.next (.unsupported h)) (.ite (.next (.deliver h fun _ ha => .hostErr (.complete_ ha))) ?_)
  refine .next (.deliver h (fun _ ha => ?_))
  extract_lets r s1
  have hr : r.1.On Q := .foldl_fst (fun _ _ hy => .bar2Piece hy) (.withFound ha)
  have hs1 : s1.On Q := .complete_ hr
  refine .settle ?_
  split
  · exact hs1
  · exact .hostErr hs1

theorem State.On.bar2Store {off : Nat} {data : List Byte} {err : Option Status} {p : Nat × Nat × Nat} (h : s.On Q) :
    (s.bar2Store off data err p).1.On Q := by
  unfold State.bar2Store
  extract_lets _ _ _
  split
  · exact h
  · extract_lets wait
    have hwait : wait.On Q := .upd rfl rfl h
    refine .ite_fst hwait ?_
    split
    · exact hwait
    next u _ e1 =>
      have hu : u.On Q := PairOn.of_eq (.hostStore h) e1
      exact hu

theorem ResOn.execBar2Write {offset : Nat} {data : List Byte} {found : List Damage} (h : s.On Q) :
    ResOn Q (execBar2Write offset data found s) := by
  unfold Machine.execBar2Write
  refine .ite (.next h) (.ite (.next (.hostWait h)) ?_)
  refine .ite (.next (.unsupported h)) (.ite (.next (.deliver h fun _ ha => .hostErr ha)) ?_)
  refine .next (.deliver h (fun _ ha => ?_))
  extract_lets r
  have hr : r.1.On Q := .foldl_fst (fun _ _ hy => .bar2Store hy) (.withFound ha)
  refine .settle ?_
  split
  · exact hr
  · exact .hostErr hr

theorem State.On.resetFunction (h : s.On Q) : s.resetFunction.On Q := .releaseAll (.upd rfl rfl h)

theorem ResOn.execPerstNAssert (h : s.On Q) : ResOn Q (execPerstNAssert s) :=
  .next (.upd rfl rfl (.upd rfl rfl (.resetFunction (.portInput h))))

theorem ResOn.execPerstNDeassert (h : s.On Q) : ResOn Q (execPerstNDeassert s) := .next (.upd rfl rfl h)
theorem ResOn.execHotReset (h : s.On Q) : ResOn Q (execHotReset s) := .next (.ite (.resetFunction (.portInput h)) h)
theorem ResOn.execFlr (h : s.On Q) : ResOn Q (execFlr s) := .next (.ite (.resetFunction (.portInput h)) h)
theorem ResOn.execD3hotEntry (h : s.On Q) : ResOn Q (execD3hotEntry s) := .next (.ite (.upd rfl rfl h) h)

theorem ResOn.execHostUnsupportedRequest (kind : HostRequestKind) (h : s.On Q) :
    ResOn Q (execHostUnsupportedRequest kind s) :=
  .next (.ite (.unsupported h) h)

/-! ### The debug port (chapter 20) -/

theorem ResOn.execTapReset (h : s.On Q) : ResOn Q (execTapReset s) := .next (.upd rfl rfl h)
theorem State.On.tdo {bs : List Bool} (h : s.On Q) : (s.tdo bs).On Q := .emit h
theorem State.On.bypass (h : s.On Q) : s.bypass.On Q := .tdo (.upd rfl rfl h)

theorem ResOn.execExtest {pins : List Bool} (h : s.On Q) : ResOn Q (execExtest pins s) :=
  .ite (.next (.upd rfl rfl h)) (.next (.bypass h))

theorem ResOn.execIdcode (h : s.On Q) : ResOn Q (execIdcode s) := .next (.tdo (.upd rfl rfl h))

theorem ResOn.execSamplePreload {pins : List Bool} (h : s.On Q) : ResOn Q (execSamplePreload pins s) :=
  .next (.tdo (.upd rfl rfl h))

theorem ResOn.execBypass {code : BitVec 8} (h : s.On Q) : ResOn Q (execBypass code s) := .ite (.next (.bypass h)) (.next h)
theorem State.On.dbgDone {st : Status} {data : W64} (h : s.On Q) : (s.dbgDone st data).On Q := .upd rfl rfl h

theorem ResOn.execDbg {dr : BitVec 160} (h : s.On Q) : ResOn Q (execDbg dr s) := by
  unfold Machine.execDbg
  refine .ite (.next (.tdo h)) ?_
  extract_lets _ s1 _ s2
  have hs1 : s1.On Q := .emit (.upd rfl rfl h)
  have hs2 : s2.On Q := .upd rfl rfl hs1
  exact .ite (.next hs1) (.next (.ite (.dbgDone hs2) (.ite hs2 (.dbgDone hs2))))

/-- A debug command acts on a state of the same board. -/
theorem ResOn.dbgRow_le {a : Instr} {code : BitVec 8} {unlocked patient : Bool} {act : State → State} (hle : ∀ x, Q x → R x)
    (h : s.On Q) (hact : (act (s.portInput a)).On R) : ResOn R (s.dbgRow a code unlocked patient act) :=
  .ite (.next (hle _ h)) (.ite (.next (.dbgDone (hle _ h))) (.ite (.next (hle _ h))
    (.ite (.next (.dbgDone (hle _ h))) (.next hact))))

theorem ResOn.dbgRow {a : Instr} {code : BitVec 8} {unlocked patient : Bool} {act : State → State} (h : s.On Q)
    (hact : ∀ u, u.On Q → (act u).On Q) : ResOn Q (s.dbgRow a code unlocked patient act) :=
  .dbgRow_le (fun _ hx => hx) h (hact _ (.portInput h))

theorem ResOn.execRegRead (h : s.On Q) : ResOn Q (execRegRead s) :=
  .dbgRow h fun _ ha => .ite (.dbgDone ha) (.ite (.dbgDone ha) (.ite (.dbgDone ha) (.dbgDone ha)))

theorem ResOn.execRegWrite (h : s.On (Fused base)) : ResOn (Fused base) (execRegWrite s) :=
  .dbgRow h fun _ ha => .ite (.dbgDone ha) (.ite (.dbgDone ha) (.dbgDone (.writeServed ha)))

theorem ResOn.execDbgChallenge {random : List Byte} (h : s.On (Fused base)) : ResOn (Fused base) (execDbgChallenge random s) :=
  .dbgRow h fun _ ha => .dbgDone (.reseal rfl rfl rfl ha)

theorem ResOn.execChalRead (h : s.On Q) : ResOn Q (execChalRead s) := by
  unfold Machine.execChalRead
  refine .dbgRow h (fun _ ha => ?_)
  extract_lets _
  refine .ite (.dbgDone ha) ?_
  split
  · exact .dbgDone ha
  · exact .dbgDone (.draw ha)

theorem ResOn.execTokenLoad (h : s.On Q) : ResOn Q (execTokenLoad s) :=
  .dbgRow h fun _ ha => .ite (.dbgDone ha) (.dbgDone (.upd rfl rfl ha))

/-- TOKEN_SUBMIT acts on a token of its buffer, or unlocks debug in MANUFACTURE (R702). -/
theorem ResOn.execTokenSubmit (length : BitVec 64) (s : State) :
    ResOn (Allowed (.tokenSubmit length) s) (execTokenSubmit length s) := by
  have hf : s.On (Fused s.board) := .refl _
  have hs : s.On (Allowed (.tokenSubmit length) s) := .of_fused hf
  unfold Machine.execTokenSubmit
  split
  · exact .next hs
  next hlen =>
    have hdata : length = s.dbg.data := by simpa using (eq_comm.mp (by simpa using hlen))
    refine .dbgRow_le (Q := Fused s.board) (fun _ hx => .of_fused hx) hf ?_
    extract_lets n r
    have hu : (s.portInput (.tokenSubmit length)).On (Fused s.board) := .portInput hf
    have hboard : (s.portInput (.tokenSubmit length)).board = s.board :=
      State.On.portInput (Q := (· = s.board)) (s := s) rfl
    have hr : r.1.On (Allowed (.tokenSubmit length) s) := .ite_fst
      (.ite_fst (.rejectToken (Allowed.of_fused hu)) (Allowed.of_fused (State.On.unlock hu)))
      (.ite_fst (.rejectToken (Allowed.of_fused hu)) (.takeToken (.inr ⟨by rw [hdata], by simp only [n, State.portInput_dbg]⟩)
        hboard))
    exact .dbgDone hr

theorem ResOn.execRelock (h : s.On (Fused base)) : ResOn (Fused base) (execRelock s) :=
  .dbgRow h fun _ ha => .dbgDone (.relock ha)

theorem State.On.detachSpare {b : BenchId} (h : s.On Q) : (s.detachSpare b).On Q := .settle
    (.raise (.unthrottle (.upd rfl rfl h)))

theorem State.On.detachNow {b : BenchId} (h : s.On Q) : (s.detachNow b).On Q := by
  unfold State.detachNow
  extract_lets _
  exact .ite (.dbgDone h) (.ite (.ite (.dbgDone (.plannedPromotion h)) (.dbgDone h))
    (.ite (.dbgDone (.detachSpare h)) (.dbgDone h)))

theorem ResOn.execDetach {locked : Bool} (h : s.On Q) : ResOn Q (execDetach locked s) := by
  unfold Machine.execDetach
  refine .dbgRow h (fun _ ha => ?_)
  split
  · exact .dbgDone ha
  · exact .ite (.upd rfl rfl ha) (.detachNow (.upd rfl rfl ha))

theorem ResOn.execDetachDeferExpiry (h : s.On Q) : ResOn Q (execDetachDeferExpiry s) :=
  .ite (.next h) (.dbgRow h fun _ ha => .dbgDone (.upd rfl rfl ha))

theorem ResOn.execLockedSequenceEnd (h : s.On Q) : ResOn Q (execLockedSequenceEnd s) := by
  unfold Machine.execLockedSequenceEnd
  split
  · exact .next h
  · exact .dbgRow h fun _ ha => .detachNow (.upd rfl rfl ha)

theorem ResOn.coreRow {a : Instr} {code : BitVec 8} {act : State → BenchId → Core → State} (h : s.On Q)
    (hact : ∀ u x y, u.On Q → (act u x y).On Q) : ResOn Q (s.coreRow a code act) := by
  unfold State.coreRow
  refine .dbgRow h (fun _ ha1 => ?_)
  split
  · exact .dbgDone ha1
  · exact .ite (hact _ _ _ ha1) (.dbgDone ha1)

theorem ResOn.execCoreStep (h : s.On Q) : ResOn Q (execCoreStep s) := .coreRow h fun _ _ _ ha => .dbgDone (.upd rfl rfl ha)
theorem ResOn.execCoreRun (h : s.On Q) : ResOn Q (execCoreRun s) := .coreRow h fun _ _ _ ha => .dbgDone (.upd rfl rfl ha)

theorem ResOn.execCoreRead (h : s.On Q) : ResOn Q (execCoreRead s) :=
  .coreRow h fun _ _ _ ha => .ite (.dbgDone ha) (.dbgDone (.upd rfl rfl ha))

theorem ResOn.execCoreWrite (h : s.On Q) : ResOn Q (execCoreWrite s) :=
  .coreRow h fun _ _ _ ha => .ite (.dbgDone ha) (.dbgDone (.upd rfl rfl ha))

theorem ResOn.ctxRow {a : Instr} {code : BitVec 8} {act : State → Nat → Ctx → State} (h : s.On Q)
    (hact : ∀ u x y, u.On Q → (act u x y).On Q) : ResOn Q (s.ctxRow a code act) :=
  .dbgRow h fun _ ha1 => .ite (.dbgDone ha1) (hact _ _ _ ha1)

theorem ResOn.execCtxHalt (h : s.On Q) : ResOn Q (execCtxHalt s) :=
  .ctxRow h fun _ _ _ ha => .ite (.dbgDone ha) (.ite (.dbgDone (.setCtx ha)) (.boundary (.setCtx ha)))

theorem ResOn.execCtxStep (h : s.On Q) : ResOn Q (execCtxStep s) :=
  .ctxRow h fun _ _ _ ha => .ite ha (.ite (.dbgDone ha) (.ite (.dbgDone ha) (.reelect (.setCtx ha))))

theorem ResOn.execCtxRun (h : s.On Q) : ResOn Q (execCtxRun s) :=
  .ctxRow h fun _ _ _ ha => .dbgDone (.reelect (.setCtx ha))

theorem ResOn.execCtxRead (h : s.On Q) : ResOn Q (execCtxRead s) := by
  unfold Machine.execCtxRead
  refine .ctxRow h (fun _ _ _ ha => ?_)
  split
  · exact .dbgDone ha
  · split
    · exact .dbgDone ha
    · exact .dbgDone (.draw ha)

theorem ResOn.execCtxWrite (h : s.On Q) : ResOn Q (execCtxWrite s) := by
  unfold Machine.execCtxWrite
  refine .ctxRow h (fun _ _ _ ha => .ite (.dbgDone ha) ?_)
  split
  · exact .dbgDone ha
  · exact .dbgDone (.setCtx ha)

theorem ResOn.execEngHalt (h : s.On Q) : ResOn Q (execEngHalt s) := by
  unfold Machine.execEngHalt
  refine .dbgRow h (fun _ ha => ?_)
  split
  · exact .dbgDone ha
  · exact .ite (.dbgDone ha) (.ite (.ite ha (.upd rfl rfl ha)) (.dbgDone (.upd rfl rfl ha)))

theorem ResOn.execEngRun (h : s.On Q) : ResOn Q (execEngRun s) := by
  unfold Machine.execEngRun
  refine .dbgRow h (fun _ ha => ?_)
  split
  · exact .dbgDone ha
  · exact .dbgDone (.upd rfl rfl ha)

theorem ResOn.execMemRead (h : s.On Q) : ResOn Q (execMemRead s) := by
  unfold Machine.execMemRead
  refine .dbgRow h (fun _ ha => ?_)
  split
  · exact .dbgDone ha
  · exact .ite (.dbgDone (.readRange ha)) (.dbgDone (.readRange ha))

theorem ResOn.execMemWrite (h : s.On Q) : ResOn Q (execMemWrite s) := by
  unfold Machine.execMemWrite
  refine .dbgRow h (fun _ ha => ?_)
  split
  · exact .dbgDone ha
  · split
    · exact ha
    next u e1 =>
      have hu : u.On Q := OptionOn.of_eq (.claimRange ha) e1
      exact .dbgDone (.writeRange hu)

/-! ### Every command -/

/-- Every command but those that act on tokens and joinery keys keeps the fuses. -/
theorem ResOn.exec {i : Instr} (ht : ∀ m bytes, i ≠ .token m bytes) (hs : ∀ length, i ≠ .tokenSubmit length)
    (hk : ∀ m key, i ≠ .joineryKey m key) (h : s.On (Fused base)) : ResOn (Fused base) (exec i s) := by
  cases i with
  | vinApplied => exact .execVinApplied h
  | vinUndervolt => exact .execVinUndervolt h
  | vinOvervolt => exact .execVinOvervolt h
  | vinOvRecover => exact .execVinOvRecover h
  | vinHighExcursion => exact .execVinHighExcursion h
  | vinColdLoss => exact .execVinColdLoss h
  | resetNAssert => exact .execResetNAssert h
  | resetNRelease => exact .execResetNRelease h
  | powerWarnNAssert => exact .execPowerWarnNAssert h
  | presenceNRecognised => exact .execPresenceNRecognised h
  | presenceWindowExpiry => exact .execPresenceWindowExpiry h
  | sealBootDone => exact .execSealBootDone h
  | selfTestDone => exact .execSelfTestDone h
  | memoryTrainDone => exact .execMemoryTrainDone h
  | startUpBoundExpiry => exact .execStartUpBoundExpiry h
  | nodeResetRestart => exact .execNodeResetRestart h
  | thermalLimitReached => exact .execThermalLimitReached h
  | thermalTripTimer => exact .execThermalTripTimer h
  | thermalExcursionEnd => exact .execThermalExcursionEnd h
  | pacePeriod => exact .execPacePeriod h
  | paceCeilingTimer => exact .execPaceCeilingTimer h
  | paceCeilingClearTimer => exact .execPaceCeilingClearTimer h
  | dramCalibration => exact .execDramCalibration h
  | placementEvaluation => exact .execPlacementEvaluation h
  | blockMoveDone => exact .execBlockMoveDone h
  | retainCmd => exact .execRetainCmd h
  | retention => exact .execRetention h
  | retentionEntryDone => exact .execRetentionEntryDone h
  | wakeLight => exact .execWakeLight h
  | ambientCheckExpiry => exact .execAmbientCheckExpiry h
  | wakeTimerExpiry => exact .execWakeTimerExpiry h
  | wakeHost => exact .execWakeHost h
  | retentionExitDone => exact .execRetentionExitDone h
  | jnyCtrl => exact .execJnyCtrl h
  | joineryLoad => exact .execJoineryLoad h
  | imageCheckDone => exact .execImageCheckDone h
  | applyPoint => exact .execApplyPoint h
  | fullApplyDone => exact .execFullApplyDone h
  | configRequest => exact .execConfigRequest h
  | trainingStepDone => exact .execTrainingStepDone h
  | trainingStepTimeout => exact .execTrainingStepTimeout h
  | trainingRetryPauseExpiry => exact .execTrainingRetryPauseExpiry h
  | trainFailTimer => exact .execTrainFailTimer h
  | synthLockTimeout => exact .execSynthLockTimeout h
  | quietSlotStart => exact .execQuietSlotStart h
  | quietSlotEnd => exact .execQuietSlotEnd h
  | quietDeferralExpiry => exact .execQuietDeferralExpiry h
  | floodAssert => exact .execFloodAssert h
  | floodDebounceExpiry => exact .execFloodDebounceExpiry h
  | laneAlarmAssert => exact .execLaneAlarmAssert h
  | laneAlarmClear => exact .execLaneAlarmClear h
  | lossOfSignal => exact .execLossOfSignal h
  | resumeRetrainDone => exact .execResumeRetrainDone h
  | graceExpiry => exact .execGraceExpiry h
  | quiesceBoundExpiry => exact .execQuiesceBoundExpiry h
  | dozeExpiry => exact .execDozeExpiry h
  | darkDozeWake => exact .execDarkDozeWake h
  | dozeSearchExpiry => exact .execDozeSearchExpiry h
  | dozeLightWake => exact .execDozeLightWake h
  | dozeAmbientExpiry => exact .execDozeAmbientExpiry h
  | idleFlit => exact .execIdleFlit h
  | dataFlit => exact .execDataFlit h
  | nakFlit => exact .execNakFlit h
  | trainFlit => exact .execTrainFlit h
  | replayTimerExpiry => exact .execReplayTimerExpiry h
  | nakRepeatExpiry => exact .execNakRepeatExpiry h
  | creditReturnTimer => exact .execCreditReturnTimer h
  | errorSubwindow => exact .execErrorSubwindow h
  | creditInit => exact .execCreditInit h
  | quietReq => exact .execQuietReq h
  | quietAck => exact .execQuietAck h
  | dozeReq => exact .execDozeReq h
  | dozeAck => exact .execDozeAck h
  | dozeRefuse => exact .execDozeRefuse h
  | quiesceReq => exact .execQuiesceReq h
  | quiesceDone => exact .execQuiesceDone h
  | linkDownPlanned => exact .execLinkDownPlanned h
  | kaHello => exact .execKaHello h
  | kaCert => exact .execKaCert h
  | kaFinish => exact .execKaFinish h
  | kaBind => exact .execKaBind h
  | kaBindAck => exact .execKaBindAck h
  | kaFail => exact .execKaFail h
  | read => exact .execRead h
  | write => exact .execWrite h
  | fadd64 => exact .execFadd64 h
  | cas64 => exact .execCas64 h
  | cas128 => exact .execCas128 h
  | syncAdd => exact .execSyncAdd h
  | syncSet => exact .execSyncSet h
  | syncRead => exact .execSyncRead h
  | syncWait => exact .execSyncWait h
  | doorbell => exact .execDoorbell h
  | streamRead => exact .execStreamRead h
  | fabricTokenize => exact .execFabricTokenize h
  | fabricDetokenize => exact .execFabricDetokenize h
  | fabricMaskFetch => exact .execFabricMaskFetch h
  | fabricAdvance => exact .execFabricAdvance h
  | fabricAdvanceFetch => exact .execFabricAdvanceFetch h
  | xferAttest => exact .execXferAttest h
  | xferOffer => exact .execXferOffer h
  | xferChunk => exact .execXferChunk h
  | xferCommit => exact .execXferCommit h
  | xferAbort => exact .execXferAbort h
  | responseReceived => exact .execResponseReceived h
  | outboundTimeout => exact .execOutboundTimeout h
  | tagQuarantineExpiry => exact .execTagQuarantineExpiry h
  | notifyDelivery => exact .execNotifyDelivery h
  | doorbellNotifyDelivery => exact .execDoorbellNotifyDelivery h
  | memoryOpComplete => exact .execMemoryOpComplete h
  | gateOutput => exact .execGateOutput h
  | skewLimitExpiry => exact .execSkewLimitExpiry h
  | retryDone => exact .execRetryDone h
  | shadowArrival => exact .execShadowArrival h
  | firstNewClaimOutput => exact .execFirstNewClaimOutput h
  | shadowTimeout => exact .execShadowTimeout h
  | spareConsume => exact .execSpareConsume h
  | spareStallTimer => exact .execSpareStallTimer h
  | readmit => exact .execReadmit h
  | readmitSelftestDone => exact .execReadmitSelftestDone h
  | stateCopyDone => exact .execStateCopyDone h
  | journalCatchUp => exact .execJournalCatchUp h
  | patrolRead => exact .execPatrolRead h
  | lapOverdueTimer => exact .execLapOverdueTimer h
  | retire => exact .execRetire h
  | retireCmd => exact .execRetireCmd h
  | retireCopyDone => exact .execRetireCopyDone h
  | stackChannelLoss => exact .execStackChannelLoss h
  | channelRetrainTimeout => exact .execChannelRetrainTimeout h
  | stackSensorsFailed => exact .execStackSensorsFailed h
  | mirrorBuildDone => exact .execMirrorBuildDone h
  | zeroStampDone => exact .execZeroStampDone h
  | wrapSweepDone => exact .execWrapSweepDone h
  | inject => exact .execInject h
  | injectCancel => exact .execInjectCancel h
  | sliceInject => exact .execSliceInject h
  | sliceInjectCancel => exact .execSliceInjectCancel h
  | hostDoorbell => exact .execHostDoorbell h
  | commandDispatch => exact .execCommandDispatch h
  | commandComplete => exact .execCommandComplete h
  | quantumExpiry => exact .execQuantumExpiry h
  | copyResumePoint => exact .execCopyResumePoint h
  | copyNop => exact .execCopyNop h
  | copy => exact .execCopy h
  | fill => exact .execFill h
  | zero => exact .execZero h
  | convert => exact .execConvert h
  | gather => exact .execGather h
  | scatter => exact .execScatter h
  | digest => exact .execDigest h
  | sweep => exact .execSweep h
  | sieveNop => exact .execSieveNop h
  | pload => exact .execPload h
  | start => exact .execStart h
  | resetctx => exact .execResetctx h
  | sieveUnitDone => exact .execSieveUnitDone h
  | ttimerExpiry => exact .execTtimerExpiry h
  | overrunKillTimer => exact .execOverrunKillTimer h
  | swaitRelease => exact .execSwaitRelease h
  | aluAdd => exact .execAluAdd h
  | aluSub => exact .execAluSub h
  | aluAnd => exact .execAluAnd h
  | aluOr => exact .execAluOr h
  | aluXor => exact .execAluXor h
  | aluShl => exact .execAluShl h
  | aluShr => exact .execAluShr h
  | aluSar => exact .execAluSar h
  | aluMul => exact .execAluMul h
  | aluMulhu => exact .execAluMulhu h
  | aluSltu => exact .execAluSltu h
  | aluSlt => exact .execAluSlt h
  | aluMinu => exact .execAluMinu h
  | aluMaxu => exact .execAluMaxu h
  | aluPopcnt => exact .execAluPopcnt h
  | addi => exact .execAddi h
  | andi => exact .execAndi h
  | ori => exact .execOri h
  | xori => exact .execXori h
  | shiShl => exact .execShiShl h
  | shiShr => exact .execShiShr h
  | shiSar => exact .execShiSar h
  | ldi => exact .execLdi h
  | beq => exact .execBeq h
  | bne => exact .execBne h
  | bltu => exact .execBltu h
  | bgeu => exact .execBgeu h
  | blt => exact .execBlt h
  | bge => exact .execBge h
  | jal => exact .execJal h
  | jr => exact .execJr h
  | sld => exact .execSld h
  | sst => exact .execSst h
  | mfsr => exact .execMfsr h
  | mtsr => exact .execMtsr h
  | yield => exact .execYield h
  | window => exact .execWindow h
  | trap => exact .execTrap h
  | tret => exact .execTret h
  | halt => exact .execHalt h
  | pld => exact .execPld h
  | pst => exact .execPst h
  | tcfg => exact .execTcfg h
  | trelTiles => exact .execTrelTiles h
  | trelAccumulators => exact .execTrelAccumulators h
  | tld => exact .execTld h
  | tst => exact .execTst h
  | tscoreTile => exact .execTscoreTile h
  | tscoreContiguous => exact .execTscoreContiguous h
  | tscoreIndexed => exact .execTscoreIndexed h
  | ast => exact .execAst h
  | topkSelect => exact .execTopkSelect h
  | topkMerge => exact .execTopkMerge h
  | topkDrain => exact .execTopkDrain h
  | topkClear => exact .execTopkClear h
  | xmov => exact .execXmov h
  | sadd => exact .execSadd h
  | sset => exact .execSset h
  | sread => exact .execSread h
  | swait => exact .execSwait h
  | lexNop => exact .execLexNop h
  | dictLoad => exact .execDictLoad h
  | gramLoad => exact .execGramLoad h
  | unload => exact .execUnload h
  | streamOpen => exact .execStreamOpen h
  | streamClose => exact .execStreamClose h
  | tokenize => exact .execTokenize h
  | detokenize => exact .execDetokenize h
  | maskFetch => exact .execMaskFetch h
  | advance => exact .execAdvance h
  | advanceFetch => exact .execAdvanceFetch h
  | gramSet => exact .execGramSet h
  | holdNop => exact .execHoldNop h
  | hold => exact .execHold h
  | holdQuiesceExpiry => exact .execHoldQuiesceExpiry h
  | holdCapture => exact .execHoldCapture h
  | holdDigestDone => exact .execHoldDigestDone h
  | resume => exact .execResume h
  | drop => exact .execDrop h
  | exportParcel => exact .execExportParcel h
  | importParcel => exact .execImportParcel h
  | receive => exact .execReceive h
  | receiveIdleTimeout => exact .execReceiveIdleTimeout h
  | transfer => exact .execTransfer h
  | tcpConnect => exact .execTcpConnect h
  | tlsHandshakeDone => exact .execTlsHandshakeDone h
  | sessionIdleTimeout => exact .execSessionIdleTimeout h
  | sessionClose => exact .execSessionClose h
  | ipv4Frame => exact .execIpv4Frame h
  | neighborDiscovery => exact .execNeighborDiscovery h
  | routerAdvertisement => exact .execRouterAdvertisement h
  | icmpv6Echo => exact .execIcmpv6Echo h
  | health => exact .execHealth h
  | telemetry => exact .execTelemetry h
  | faultRead => exact .execFaultRead h
  | faultAck => exact .execFaultAck h
  | attest => exact .execAttest h
  | scrubStatus => exact .execScrubStatus h
  | shutdown => exact .execShutdown h
  | nodeReset => exact .execNodeReset h
  | lockRelease => exact .execLockRelease h
  | lockAcquire => exact .execLockAcquire h
  | lockAcquireForce => exact .execLockAcquireForce h
  | subscribe => exact .execSubscribe h
  | enroll => exact .execEnroll h
  | revoke => exact .execRevoke h
  | joineryKey m key => exact absurd rfl (hk m key)
  | credReset => exact .execCredReset h
  | challenge => exact .execChallenge h
  | challengeExpiry => exact .execChallengeExpiry h
  | token m bytes => exact absurd rfl (ht m bytes)
  | reportSigned => exact .execReportSigned h
  | perstNAssert => exact .execPerstNAssert h
  | perstNDeassert => exact .execPerstNDeassert h
  | hotReset => exact .execHotReset h
  | flr => exact .execFlr h
  | d3hotEntry => exact .execD3hotEntry h
  | bar2Read => exact .execBar2Read h
  | bar2Write => exact .execBar2Write h
  | rcRead => exact .execRcRead h
  | rsLowRead => exact .execRsLowRead h
  | registerWrite => exact .execRegisterWrite h
  | hostErrcapClear => exact .execHostErrcapClear h
  | faultHeadWrite => exact .execFaultHeadWrite h
  | evtHeadWrite => exact .execEvtHeadWrite h
  | evtRearm => exact .execEvtRearm h
  | msixUnmask => exact .execMsixUnmask h
  | hostLockAcq => exact .execHostLockAcq h
  | hostLockRel => exact .execHostLockRel h
  | attCtrl => exact .execAttCtrl h
  | syncCmdAdd => exact .execSyncCmdAdd h
  | syncCmdSet => exact .execSyncCmdSet h
  | syncCmdRead => exact .execSyncCmdRead h
  | syncCmdWait => exact .execSyncCmdWait h
  | counterWindowAdd => exact .execCounterWindowAdd h
  | tapReset => exact .execTapReset h
  | extest => exact .execExtest h
  | idcode => exact .execIdcode h
  | samplePreload => exact .execSamplePreload h
  | bypass => exact .execBypass h
  | dbg => exact .execDbg h
  | regRead => exact .execRegRead h
  | regWrite => exact .execRegWrite h
  | dbgChallenge => exact .execDbgChallenge h
  | chalRead => exact .execChalRead h
  | tokenLoad => exact .execTokenLoad h
  | tokenSubmit length => exact absurd rfl (hs length)
  | relock => exact .execRelock h
  | detach => exact .execDetach h
  | detachDeferExpiry => exact .execDetachDeferExpiry h
  | coreStep => exact .execCoreStep h
  | coreRun => exact .execCoreRun h
  | coreRead => exact .execCoreRead h
  | coreWrite => exact .execCoreWrite h
  | ctxHalt => exact .execCtxHalt h
  | ctxStep => exact .execCtxStep h
  | ctxRun => exact .execCtxRun h
  | ctxRead => exact .execCtxRead h
  | ctxWrite => exact .execCtxWrite h
  | engHalt => exact .execEngHalt h
  | engRun => exact .execEngRun h
  | memRead => exact .execMemRead h
  | memWrite => exact .execMemWrite h
  | sealBootEntry => exact .execSealBootEntry h
  | vinHighExcursionEnd => exact .execVinHighExcursionEnd h
  | quietSlotAnnounce => exact .execQuietSlotAnnounce h
  | replayRunDone => exact .execReplayRunDone h
  | unassignedOpcode => exact .execUnassignedOpcode h
  | hostUnsupportedRequest kind => exact .execHostUnsupportedRequest kind h
  | channelRetrainDone => exact .execChannelRetrainDone h
  | freeBlockSweepDone => exact .execFreeBlockSweepDone h
  | lexiconResumePoint => exact .execLexiconResumePoint h
  | unassignedInstruction => exact .execUnassignedInstruction h
  | lockedSequenceEnd => exact .execLockedSequenceEnd h
end

/-- A command answers a next state whose board is one that it may make. -/
theorem exec_allowed (c : Instr) (s : State) : ResOn (Allowed c s) (exec c s) := by
  by_cases ht : ∃ m bytes, c = .token m bytes
  · obtain ⟨m, bytes, rfl⟩ := ht
    exact .execToken m bytes s
  by_cases hs : ∃ length, c = .tokenSubmit length
  · obtain ⟨length, rfl⟩ := hs
    exact .execTokenSubmit length s
  by_cases hk : ∃ m key, c = .joineryKey m key
  · obtain ⟨m, key, rfl⟩ := hk
    exact .execJoineryKey m key s
  obtain ⟨t, he, hon⟩ := ResOn.exec (fun m bytes e => ht ⟨m, bytes, e⟩) (fun length e => hs ⟨length, e⟩)
    (fun m key e => hk ⟨m, key, e⟩) (s := s) (Fused.refl s.board)
  exact ⟨t, he, .of_fused hon⟩

/-- Settles O59: every command is made of operations that keep the board, or change the security state beside what is named here. -/
theorem everyCommandAnswersAndKeepsTheBoard : Obligations.EveryCommandAnswersAndKeepsTheBoard := by
  intro c s
  obtain ⟨t, he, hpending, hpart, hmac, ⟨hserial, hstepping, hsecver⟩, -⟩ := exec_allowed c s
  exact ⟨t, he, hpending, hpart, hserial, hstepping, hsecver, hmac⟩

/-- Settles O60: of all operations, a token that is taken changes the lifecycle and JOINERY_KEY adds to the keys. -/
theorem onlyTokensChangeTheLifecycle : Obligations.OnlyTokensChangeTheLifecycle := by
  refine ⟨fun c s t he hne => ?_, fun c s t he hne => ?_⟩
  · obtain ⟨u, hu, -, -, -, -, hlife, -⟩ := exec_allowed c s
    obtain rfl : u = t := Host.Outcome.next.inj (hu.symm.trans he)
    obtain ⟨bytes, hb, k, hk, hvouch⟩ := hlife.resolve_left hne
    exact ⟨bytes, k, hb, hk, hvouch⟩
  · obtain ⟨u, hu, -, -, -, -, -, hkeys⟩ := exec_allowed c s
    obtain rfl : u = t := Host.Outcome.next.inj (hu.symm.trans he)
    exact hkeys.resolve_left hne

end Sys2Proof.Machine

/-! The test access port and the DBG register (R690 to R694), and the debug commands that are refused while debug is locked
(R696). -/

namespace Sys2Proof.Machine

/-! ## The test access port -/

section
variable (s : State)

/-- What is shifted out with VIN present. -/
theorem State.tdo_of_present {s : State} (h : s.vinPresent = true) (bs : List Bool) : s.tdo bs = s.emit (.tdo bs) := by
  rw [State.tdo, if_pos h]

/-- TDO is low with VIN absent. -/
theorem State.tdo_of_absent {s : State} (h : s.vinPresent = false) (bs : List Bool) :
    s.tdo bs = s.emit (.tdo (List.replicate bs.length false)) := by
  rw [State.tdo, if_neg (by simp [h]), List.map_const']

/-- The bypass register captures 0, with VIN or without. -/
theorem State.bypass_eq : s.bypass = { s with dbg.ir := .bypass, dbg.driven := [] }.emit (.tdo [false]) := by
  rw [State.bypass, State.tdo]
  split <;> rfl

/-! ## The DBG register -/

/-- The DBG register is selected, and what the earlier command answered is captured. -/
def State.captured : State :=
  { s with dbg.ir := .dbg, dbg.driven := [] }.emit (.capture s.dbg.status s.dbg.busy s.dbg.data)

/-- The command of a DBG register waits. -/
def State.submitted (dr : BitVec 160) : State :=
  { s with dbg := { s.dbg with
    cmd := dr.extractLsb' 0 8, target := dr.extractLsb' 32 16, addr := dr.extractLsb' 48 40, data := dr.extractLsb' 96 64
    status := .ok, busy := true } }

variable {s}

/-- While a debug command is busy another is discarded. -/
theorem execDbg_of_busy (dr : BitVec 160) (hv : s.vinPresent = true) (hb : s.dbg.busy = true) :
    exec (.dbg dr) s = .next s.captured := by
  change execDbg dr s = _
  rw [execDbg, if_neg (by simp [hv]), if_pos hb]
  rfl

/-- A command that is submitted is refused where debug is off or Table 21–3 lacks its code, and waits otherwise. -/
theorem execDbg_of_idle (dr : BitVec 160) (hv : s.vinPresent = true) (hb : s.dbg.busy = false) :
    exec (.dbg dr) s = .next (
      if s.dbgOff then (s.captured.submitted dr).dbgDone .notReady (dr.extractLsb' 96 64)
      else if debugCodes.contains (dr.extractLsb' 0 8) then s.captured.submitted dr
      else (s.captured.submitted dr).dbgDone .format (dr.extractLsb' 96 64)) := by
  change execDbg dr s = _
  rw [execDbg, if_neg (by simp [hv]), if_neg (by simp [hb])]
  rfl

/-- In OFF and in RETENTION debug is off. -/
theorem State.dbgOff_of_off (h : s.power.node = .off ∨ s.power.node = .retention) : s.dbgOff = true := by
  rcases h with h | h <;> simp [State.dbgOff, State.isIn, h]

end

/-- Settles O50: each instruction selects its data register, and DBG submits a command where the earlier one is complete. -/
theorem theTestAccessPortFollowsItsTable : Obligations.TheTestAccessPortFollowsItsTable := by
  refine ⟨fun s => ⟨_, rfl, rfl⟩, fun s pins h => ?_, fun s pins h => ?_, fun s hpart hv => ⟨_, rfl, rfl, ?_, ?_⟩,
    fun s hv => ⟨_, rfl, rfl, ?_⟩, fun s pins => ⟨_, rfl, ?_⟩, fun s code h0 h1 h2 h3 => ?_, fun s dr hv => ?_,
    fun s dr hv hb => ?_, fun s dr hv hb hoff hcode => ?_, fun s dr hv hb hoff hcode => ?_, fun s dr hv hb hoff => ?_⟩
  case refine_1 => exact ⟨_, if_pos ((s.isIn_iff).2 h), rfl⟩
  case refine_2 => exact ⟨_, if_neg (mt (s.isIn_iff).1 h), s.bypass_eq⟩
  case refine_3 => rfl
  case refine_4 =>
    rw [State.tdo_of_present (by exact hv), State.idcode]
    simp [State.emit, hpart]
  case refine_5 =>
    rw [State.tdo_of_absent (by exact hv), List.length_map, List.length_range]
    rfl
  case refine_6 =>
    split
    next hv => exact State.tdo_of_present (by exact hv) _
    next hv => exact State.tdo_of_absent (by exact Bool.eq_false_iff.2 hv) _
  case refine_7 =>
    refine ⟨_, if_pos ?_, s.bypass_eq⟩
    simpa [selectsBypass] using And.intro h0 ⟨h1, h2, h3⟩
  case refine_8 =>
    refine ⟨_, if_pos (by simp [hv]), ?_⟩
    rw [State.tdo_of_absent hv, List.length_replicate]
  case refine_9 =>
    refine completes_next (execDbg_of_busy dr hv hb) ?_
    rw [State.captured, hb]
  case refine_10 =>
    refine completes_next (execDbg_of_idle dr hv hb) ?_
    rw [if_neg (by simp [hoff]), if_pos (List.contains_iff_mem.2 hcode), State.captured, hb]
    rfl
  case refine_11 =>
    refine completes_next (execDbg_of_idle dr hv hb) ?_
    rw [if_neg (by simp [hoff]), if_neg (mt List.contains_iff_mem.1 hcode)]
    exact ⟨rfl, rfl, rfl⟩
  case refine_12 =>
    refine completes_next (execDbg_of_idle dr hv hb) ?_
    rw [if_pos (State.dbgOff_of_off hoff)]
    exact ⟨rfl, rfl, rfl, rfl⟩

/-! ## Commands that are refused while debug is locked -/

section
variable {s : State} {code : BitVec 8}

/-- A command that waits and is served, apart from the lock, acts at once on the state after its delivery. -/
theorem State.dbgRow_of_commands (h : s.commands code = true) (a : Instr) (patient : Bool) (act : State → State) :
    s.dbgRow a code false patient act = .next (act (s.inputOf a)) := by
  simp only [State.commands, Bool.and_eq_true, beq_iff_eq, Bool.not_eq_true'] at h
  obtain ⟨⟨⟨hbusy, hcmd⟩, hon⟩, hgo⟩ := h
  have hruns : (s.benchesRun && s.inputsWait) = false := by
    simpa [State.inputsGo, or_iff_not_imp_left] using hgo
  simp [State.dbgRow, hbusy, hcmd, hon, State.portInput_of_go hgo, Bool.and_assoc, hruns]

/-- A command that needs the lock open and finds it closed is denied. -/
theorem State.dbgRow_of_locked (h : s.commands code = true) (hlock : s.sec.debug ≠ .unlocked) (a : Instr) (patient : Bool)
    (act : State → State) : s.dbgRow a code true patient act = .next (s.dbgDone .denied s.dbg.data) := by
  simp only [State.commands, Bool.and_eq_true, beq_iff_eq, Bool.not_eq_true'] at h
  obtain ⟨⟨⟨hbusy, hcmd⟩, hon⟩, hgo⟩ := h
  have hruns : (s.benchesRun && s.inputsWait) = false := by
    simpa [State.inputsGo, or_iff_not_imp_left] using hgo
  simp [State.dbgRow, hbusy, hcmd, hon, Bool.and_assoc, hruns, hlock]

/-- Where an instruction is a row that needs the lock open, it is denied with the lock closed. -/
theorem completes_denied {c a : Instr} {f : State → Res} {patient : Bool} {act : State → State} (h : s.commands code = true)
    (hlock : s.sec.debug ≠ .unlocked) (he : exec c s = f s) (hf : f s = s.dbgRow a code true patient act) :
    Completes c s fun t => t = { s with dbg.busy := false, dbg.status := .denied } :=
  completes_next ((he.trans hf).trans (State.dbgRow_of_locked h hlock ..)) rfl

/-- A command about a steward core is such a row. -/
theorem completes_denied_core {c a : Instr} {f : State → Res} {act : State → BenchId → Core → State} (h : s.commands code = true)
    (hlock : s.sec.debug ≠ .unlocked) (he : exec c s = f s) (hf : f s = s.coreRow a code act) :
    Completes c s fun t => t = { s with dbg.busy := false, dbg.status := .denied } :=
  completes_denied h hlock he (hf.trans (by rw [State.coreRow]))

/-- A command about a sieve context is such a row. -/
theorem completes_denied_ctx {c a : Instr} {f : State → Res} {act : State → Nat → Ctx → State} (h : s.commands code = true)
    (hlock : s.sec.debug ≠ .unlocked) (he : exec c s = f s) (hf : f s = s.ctxRow a code act) :
    Completes c s fun t => t = { s with dbg.busy := false, dbg.status := .denied } :=
  completes_denied h hlock he (hf.trans (by rw [State.ctxRow]))

end

/-- What REG_READ makes of the state in which it is delivered (R696, R697). -/
def State.regRead (u : State) : State :=
  if u.dbg.addr.toNat % 8 ≠ 0 then u.dbgDone .format 0
  else if bar0Size ≤ u.dbg.addr.toNat then u.dbgDone .range 0
  else if u.sec.debug != .unlocked && !inBlock u.dbg.addr.toNat then u.dbgDone .denied 0
  else u.dbgDone .ok (BitVec.ofNat 64 (u.inspect u.dbg.addr.toNat))

/-- REG_READ acts at once where it is served: it looks at the lock itself. -/
theorem execRegRead_of_commands {s : State} (h : s.commands 0x01 = true) :
    exec .regRead s = .next (s.inputOf .regRead).regRead := by
  change execRegRead s = _
  rw [execRegRead, State.dbgRow_of_commands h]
  rfl

/-- Settles O51: each of these commands is a row that needs the lock open; REG_READ looks at the lock itself. -/
theorem debugIsDeniedUnlessUnlocked : Obligations.DebugIsDeniedUnlessUnlocked := by
  refine ⟨fun s c code hmem h hlock => ?_, fun s h hlock halign hrange hblock => ?_⟩
  · simp only [List.mem_cons, Prod.mk.injEq, List.not_mem_nil, or_false] at hmem
    rcases hmem with ⟨rfl, rfl⟩ | ⟨rfl, rfl⟩ | ⟨rfl, rfl⟩ | ⟨rfl, rfl⟩ | ⟨rfl, rfl⟩ | ⟨rfl, rfl⟩ | ⟨rfl, rfl⟩ | ⟨rfl, rfl⟩ |
      ⟨rfl, rfl⟩ | ⟨rfl, rfl⟩ | ⟨rfl, rfl⟩ | ⟨rfl, rfl⟩ | ⟨rfl, rfl⟩ | ⟨rfl, rfl⟩ | ⟨rfl, rfl⟩ | ⟨rfl, rfl⟩ | ⟨rfl, rfl⟩
    · exact completes_denied (f := execRegWrite) h hlock rfl rfl
    · exact completes_denied (f := execRelock) h hlock rfl rfl
    · exact completes_denied (f := execDetach false) h hlock rfl rfl
    · exact completes_denied (f := execDetach true) h hlock rfl rfl
    · exact completes_denied_core (f := execCoreStep) h hlock rfl rfl
    · exact completes_denied_core (f := execCoreRun) h hlock rfl rfl
    · exact completes_denied_core (f := execCoreRead) h hlock rfl rfl
    · exact completes_denied_core (f := execCoreWrite) h hlock rfl rfl
    · exact completes_denied_ctx (f := execCtxHalt) h hlock rfl rfl
    · exact completes_denied_ctx (f := execCtxStep) h hlock rfl rfl
    · exact completes_denied_ctx (f := execCtxRun) h hlock rfl rfl
    · exact completes_denied_ctx (f := execCtxRead) h hlock rfl rfl
    · exact completes_denied_ctx (f := execCtxWrite) h hlock rfl rfl
    · exact completes_denied (f := execEngHalt) h hlock rfl rfl
    · exact completes_denied (f := execEngRun) h hlock rfl rfl
    · exact completes_denied (f := execMemRead) h hlock rfl rfl
    · exact completes_denied (f := execMemWrite) h hlock rfl rfl
  · refine completes_next (execRegRead_of_commands h) ?_
    rw [State.regRead, State.inputOf_dbg, State.inputOf_sec, if_neg (by simpa using halign), if_neg (Nat.not_le.2 hrange), if_pos (by simp [hlock, hblock])]
    simp only [State.dbgDone, State.inputOf_dbg]

end Sys2Proof.Machine

/-! Debug of sieve contexts, engines and memory (R699, R707 to R711). -/

namespace Sys2Proof.Machine

/-! ## The commands about sieve contexts -/

section
variable {s : State} {code : BitVec 8} {k : Nat}

theorem State.ctx_dbgDone (u : State) (st : Status) (data : W64) (n : Nat) : (u.dbgDone st data).ctx n = u.ctx n := rfl

/-- A command about a context that the part has acts on it. -/
theorem State.ctxRow_of_obeys (h : s.obeys code = true) (hk : k = ctxTarget s.dbg.target.toNat) (hn : k < s.power.part.sieves * 8)
    (a : Instr) (act : State → Nat → Ctx → State) : s.ctxRow a code act = .next (act (s.inputOf a) k (s.ctx k)) := by
  subst hk
  rw [State.ctxRow, State.dbgRow_of_obeys h]
  simp only [State.inputOf_dbg, State.inputOf_power, State.ctx_inputOf]
  rw [if_neg (Nat.not_le.2 hn)]

/-- What CTX_HALT makes of a state. -/
def State.haltCtx (u : State) (key : Nat) (c : Ctx) : State :=
  if c.halted then u.dbgDone .ok u.dbg.data
  else if c.phase = .idle ∨ c.phase = .paused then (u.setCtx key { c with halted := true, haltReq := false }).dbgDone .ok u.dbg.data
  else (u.setCtx key { c with haltReq := true }).boundary key

/-- What CTX_STEP makes of a state. -/
def State.stepCtx (u : State) (key : Nat) (c : Ctx) : State :=
  if c.stepReq || c.haltReq then u
  else if !c.halted then u.dbgDone .format u.dbg.data
  else if c.phase = .idle ∨ c.phase = .paused then u.dbgDone .ok u.dbg.data
  else (u.setCtx key { c with halted := false, stepReq := true }).reelect key

/-- What CTX_WRITE makes of a state. -/
def State.writeCtx (u : State) (key : Nat) (c : Ctx) : State :=
  if !c.halted then u.dbgDone .format u.dbg.data
  else match c.poke u.dbg.data (ctxSel u.dbg.addr.toNat) with
    | none => u.dbgDone .format u.dbg.data
    | some x => (u.setCtx key x).dbgDone .ok u.dbg.data

theorem State.writeCtx_of_halted {u : State} {c x : Ctx} (h : c.halted = true)
    (hx : c.poke u.dbg.data (ctxSel u.dbg.addr.toNat) = some x) : u.writeCtx k c = (u.setCtx k x).dbgDone .ok u.dbg.data := by
  rw [State.writeCtx, if_neg (by simp [h]), hx]

/-- A command that is obeyed is the one that waits. -/
theorem State.busy_of_obeys (h : s.obeys code = true) : s.dbg.busy = true := by
  simp only [State.obeys, State.commands, Bool.and_eq_true] at h
  exact h.1.1.1.1

variable (hk : k = ctxTarget s.dbg.target.toNat) (hn : k < s.power.part.sieves * 8)
include hk hn

theorem execCtxHalt_of_obeys (h : s.obeys 0x20 = true) : exec .ctxHalt s = .next ((s.inputOf .ctxHalt).haltCtx k (s.ctx k)) := by
  change execCtxHalt s = _
  rw [execCtxHalt, State.ctxRow_of_obeys h hk hn]
  rfl

theorem execCtxStep_of_obeys (h : s.obeys 0x21 = true) : exec .ctxStep s = .next ((s.inputOf .ctxStep).stepCtx k (s.ctx k)) := by
  change execCtxStep s = _
  rw [execCtxStep, State.ctxRow_of_obeys h hk hn]
  rfl

theorem execCtxRun_of_obeys (h : s.obeys 0x22 = true) : exec .ctxRun s = .next ((((s.inputOf .ctxRun).setCtx k
    { s.ctx k with halted := false, haltReq := false, stepReq := false }).reelect k).dbgDone .ok s.dbg.data) := by
  change execCtxRun s = _
  rw [execCtxRun, State.ctxRow_of_obeys h hk hn, State.inputOf_dbg]

theorem execCtxWrite_of_obeys (h : s.obeys 0x24 = true) :
    exec .ctxWrite s = .next ((s.inputOf .ctxWrite).writeCtx k (s.ctx k)) := by
  change execCtxWrite s = _
  rw [execCtxWrite, State.ctxRow_of_obeys h hk hn]
  rfl

end

section
variable {s : State} {k : Nat}

/-- A running context outside a window has its halt taken at once: it gives up its engine, and stands still. -/
theorem State.haltCtx_of_running {u : State} (hphase : (s.ctx k).phase = .running)
    (hwin : (s.ctx k).win = 0) (hstop : (s.ctx k).stopReq = none) (hpause : (s.ctx k).pauseReq = false)
    (hfree : (s.ctx k).halted = false) :
    (u.haltCtx k (s.ctx k)).ctx k = { s.ctx k with halted := true, haltReq := false, phase := .ready } ∧
      (u.haltCtx k (s.ctx k)).dbg.busy = false ∧ (u.haltCtx k (s.ctx k)).dbg.status = .ok ∧
      (u.haltCtx k (s.ctx k)).mem = u.mem := by
  have hheld : u.haltCtx k (s.ctx k) = ((u.setCtx k { s.ctx k with haltReq := true }).takeHalt k).reelect k := by
    rw [State.haltCtx, if_neg (by simp [hfree]), if_neg (by simp [hphase]), State.boundary, State.ctx_setCtx_self]
    dsimp only
    rw [if_neg (by simp [hphase, hwin]), hstop]
    dsimp only
    rw [if_neg (by simp [hpause]), if_pos rfl]
  have hctx : ((u.setCtx k { s.ctx k with haltReq := true }).takeHalt k).ctx k =
      { s.ctx k with halted := true, haltReq := false, phase := .ready } := by
    rw [State.takeHalt, State.ctx_setCtx_self]
    exact (State.ctx_setCtx_self ..).trans (by rw [if_pos hphase])
  rw [hheld, State.dbg_reelect, State.mem_reelect, State.ctx_reelect_of_barred (by rw [hctx]; rfl), hctx]
  exact ⟨rfl, rfl, rfl, rfl⟩

/-- A halt waits for the end of a window. -/
theorem State.haltCtx_of_window {u : State} (hphase : (s.ctx k).phase = .running) (hwin : (s.ctx k).win ≠ 0)
    (hfree : (s.ctx k).halted = false) : u.haltCtx k (s.ctx k) = u.setCtx k { s.ctx k with haltReq := true } := by
  rw [State.haltCtx, if_neg (by simp [hfree]), if_neg (by simp [hphase]), State.boundary, State.ctx_setCtx_self]
  exact if_pos (.inr (.inr hwin))

/-- A halted context that can run is let go for a step; an election may follow, which leaves the command waiting. -/
theorem State.stepCtx_of_ready {u : State} (hhalted : (s.ctx k).halted = true) (hphase : (s.ctx k).phase = .ready)
    (hdue : (s.ctx k).dueInterrupt = none) (hstep : (s.ctx k).stepReq = false) (hreq : (s.ctx k).haltReq = false) :
    ((u.stepCtx k (s.ctx k)).ctx k).halts = (false, false, true) ∧ (u.stepCtx k (s.ctx k)).dbg = u.dbg ∧
      (u.stepCtx k (s.ctx k)).mem = u.mem := by
  have hstart : u.stepCtx k (s.ctx k) = (u.setCtx k { s.ctx k with halted := false, stepReq := true }).reelect k := by
    rw [State.stepCtx, if_neg (by simp [hstep, hreq]), if_neg (by simp [hhalted]), if_neg (by simp [hphase])]
  have hcalm : ((u.setCtx k { s.ctx k with halted := false, stepReq := true }).ctx k).dueInterrupt = none := by
    rw [State.ctx_setCtx_self]
    exact hdue
  rw [hstart, State.dbg_reelect, State.mem_reelect, State.halts_reelect_of_calm hcalm, State.ctx_setCtx_self, Ctx.halts, hreq]
  exact ⟨rfl, rfl, rfl⟩

/-- A context that the debugger releases is under it no more. -/
theorem State.halts_released (u : State) (c : Ctx) :
    (((u.setCtx k { c with halted := false, haltReq := false, stepReq := false }).reelect k).ctx k).halts = (false, false, false) :=
  State.halts_reelect_of_free (by rw [State.ctx_setCtx_self]; rfl)

/-- CTX_READ answers what the selector names, where that is stated. -/
theorem execCtxRead_of_stated {v : W64} (h : s.obeys 0x23 = true) (hk : k = ctxTarget s.dbg.target.toNat)
    (hn : k < s.power.part.sieves * 8) (hsel : ctxSel s.dbg.addr.toNat ≠ .none)
    (hv : (s.ctx k).inspect k (ctxSel s.dbg.addr.toNat) = some v) : exec .ctxRead s = .next ((s.inputOf .ctxRead).dbgDone .ok v) := by
  change execCtxRead s = _
  rw [execCtxRead, State.ctxRow_of_obeys h hk hn, State.inputOf_dbg]
  revert hsel hv
  cases ctxSel s.dbg.addr.toNat <;> intro hsel hv
  case none => exact absurd rfl hsel
  all_goals simp only [hv]

/-! ## The commands about engines -/

/-- What ENG_HALT makes of a state. -/
def State.haltEngine (u : State) (cls n : Nat) : State :=
  if u.dbg.engHalt.contains (engineCode cls n) then u.dbgDone .ok u.dbg.data
  else if u.engineWorks cls n then
    (if u.dbg.engReq.contains (engineCode cls n) then u else { u with dbg.engReq := u.dbg.engReq ++ [engineCode cls n] })
  else { u with dbg.engHalt := u.dbg.engHalt ++ [engineCode cls n]
                dbg.engReq := u.dbg.engReq.filter (· != engineCode cls n) }.dbgDone .ok u.dbg.data

@[simp] theorem State.engTarget_inputOf (s : State) (c : Instr) : (s.inputOf c).engTarget = s.engTarget := by
  rw [State.inputOf_eq]; rfl

@[simp] theorem State.engineWorks_inputOf (s : State) (c : Instr) (cls n : Nat) :
    (s.inputOf c).engineWorks cls n = s.engineWorks cls n := by
  rw [State.inputOf_eq]; rfl

variable {cls n : Nat} (ht : s.engTarget = some (cls, n))
include ht

theorem execEngHalt_of_obeys (h : s.obeys 0x28 = true) : exec .engHalt s = .next ((s.inputOf .engHalt).haltEngine cls n) := by
  change execEngHalt s = _
  rw [execEngHalt, State.dbgRow_of_obeys h]
  simp only [State.engTarget_inputOf, ht]
  rfl

theorem execEngRun_of_obeys (h : s.obeys 0x29 = true) : exec .engRun s = .next (({ s.inputOf .engRun with
    dbg.engHalt := s.dbg.engHalt.filter (· != engineCode cls n)
    dbg.engReq := s.dbg.engReq.filter (· != engineCode cls n) }).dbgDone .ok s.dbg.data) := by
  change execEngRun s = _
  rw [execEngRun, State.dbgRow_of_obeys h]
  simp only [State.engTarget_inputOf, ht, State.inputOf_dbg]

end

/-! ## The commands about memory -/

section
variable {s : State}

@[simp] theorem State.memCheck_inputOf (s : State) (c : Instr) : (s.inputOf c).memCheck = s.memCheck := by
  rw [State.inputOf_eq]; rfl

variable (hcheck : s.memCheck = none)
include hcheck

theorem execMemRead_of_obeys {x : State × RangeRead} (h : s.obeys 0x30 = true)
    (hx : x = (s.inputOf .memRead).readRange s.dbg.target.toNat s.dbg.addr.toNat 8) : exec .memRead s = .next
      (if x.2.bad.isSome then x.1.dbgDone .poisoned 0 else x.1.dbgDone .ok (BitVec.ofNat 64 (leNat x.2.data))) := by
  subst hx
  change execMemRead s = _
  rw [execMemRead, State.dbgRow_of_obeys h]
  simp only [State.memCheck_inputOf, hcheck, State.inputOf_dbg]

theorem execMemWrite_of_obeys {v : State} {x : State × Option Nat} (h : s.obeys 0x31 = true)
    (hv : (s.inputOf .memWrite).claimRange s.dbg.target.toNat s.dbg.addr.toNat 8 = some v)
    (hx : x = v.writeRange s.dbg.target.toNat s.dbg.addr.toNat (leBytes 8 s.dbg.data.toNat)) : exec .memWrite s = .next
      (x.1.dbgDone (if x.2.isSome then .poisoned else .ok) s.dbg.data) := by
  subst hx
  change execMemWrite s = _
  rw [execMemWrite, State.dbgRow_of_obeys h]
  simp only [State.memCheck_inputOf, hcheck, State.inputOf_dbg, hv]

end

/-- Settles O54: each command acts on what its target names; an election that follows leaves the debugger and memory alone. -/
theorem debugOfContextsEnginesAndMemoryActs : Obligations.DebugOfContextsEnginesAndMemoryActs := by
  refine ⟨fun s k h hk hn => ⟨fun hphase hfree => ?_, fun hphase hwin hstop hpause hfree => ?_, fun hphase hwin hfree => ?_⟩,
    fun s k hk hn hhalted hphase => ⟨fun h hdue hstep hreq => ?_, fun h => ?_⟩, fun s k v h hk hn hsel hv => ?_,
    fun s k h hk hn => ⟨fun x hhalted hx => ?_, fun hfree => ?_⟩,
    fun s cls n ht => ⟨fun h hrest => ?_, fun h hworks hheld => ?_, fun h => ?_⟩, fun s x h hcheck hx => ?_,
    fun s v x h hcheck hv hx => ?_⟩
  case refine_1 =>
    refine completes_next (execCtxHalt_of_obeys hk hn h) ?_
    rw [State.haltCtx, if_neg (by simp [hfree]), if_pos (.inl hphase)]
    rfl
  case refine_2 =>
    refine completes_next (execCtxHalt_of_obeys hk hn h) ?_
    have hall := State.haltCtx_of_running (u := s.inputOf .ctxHalt) hphase hwin hstop hpause hfree
    rwa [State.inputOf_mem] at hall
  case refine_3 => exact completes_next (execCtxHalt_of_obeys hk hn h) (State.haltCtx_of_window hphase hwin hfree)
  case refine_4 =>
    refine completes_next (execCtxStep_of_obeys hk hn h) ?_
    obtain ⟨hctx, hdbg, hmem⟩ := State.stepCtx_of_ready (u := s.inputOf .ctxStep) hhalted hphase hdue hstep hreq
    rw [hdbg, hmem, State.inputOf_dbg, State.inputOf_mem]
    simp only [Ctx.halts, Prod.mk.injEq] at hctx
    exact ⟨hctx.1, hctx.2.2, State.busy_of_obeys h, rfl⟩
  case refine_5 =>
    refine completes_next (execCtxRun_of_obeys hk hn h) ?_
    have hctx := State.halts_released (k := k) (s.inputOf .ctxRun) (s.ctx k)
    simp only [Ctx.halts, Prod.mk.injEq] at hctx
    rw [State.ctx_dbgDone, State.dbgDone_mem, State.mem_reelect]
    exact ⟨hctx.1, hctx.2.2, rfl, rfl, s.inputOf_mem _⟩
  case refine_6 => exact completes_next (execCtxRead_of_stated h hk hn hsel hv) rfl
  case refine_7 =>
    refine completes_next (execCtxWrite_of_obeys hk hn h) ?_
    rw [State.writeCtx_of_halted hhalted (by rwa [State.inputOf_dbg])]
    rfl
  case refine_8 =>
    refine completes_next (execCtxWrite_of_obeys hk hn h) ?_
    rw [State.writeCtx, if_pos (by simp [hfree])]
    rfl
  case refine_9 =>
    refine completes_next (execEngHalt_of_obeys ht h) ?_
    rw [State.haltEngine, State.engineWorks_inputOf, State.inputOf_dbg, if_neg (by simp [hrest] : ¬s.engineWorks cls n = true)]
    split
    next hheld => exact ⟨by simpa [State.dbgDone] using hheld, rfl, rfl, by simp [State.dbgDone], by simp⟩
    next => exact ⟨by simp [State.dbgDone], rfl, rfl, by simp [State.dbgDone], by simp⟩
  case refine_10 =>
    refine completes_next (execEngHalt_of_obeys ht h) ?_
    rw [State.haltEngine, State.engineWorks_inputOf, State.inputOf_dbg, if_neg (by simpa using hheld), if_pos hworks]
    have hbusy := State.busy_of_obeys h
    split
    next hreq => exact ⟨by simpa using hreq, by simpa using hbusy, by simp⟩
    next => exact ⟨by simp, by simpa using hbusy, by simp⟩
  case refine_11 =>
    refine completes_next (execEngRun_of_obeys ht h) ?_
    exact ⟨by simp [State.dbgDone], by simp [State.dbgDone], rfl, rfl, by simp [State.dbgDone]⟩
  case refine_12 =>
    refine completes_next (execMemRead_of_obeys hcheck h hx) ?_
    split <;> rfl
  case refine_13 => exact completes_next (execMemWrite_of_obeys hcheck h hv hx) rfl

end Sys2Proof.Machine

/-! Bureau requests (chapter 18): what a request that is heard does, sessions and the network, and the messages about the node's
health, its logs, its reset and the configuration lock. -/

namespace Sys2Proof.Machine

/-! ## Requests and replies -/

section
variable {s : State} {m : BureauMsg} {r : SessRole}

/-- The session of a message that is read is open. -/
theorem State.open_of_listens (h : s.listens m r = true) : s.bureau.sessions.any (·.id == m.session) = true := by
  obtain ⟨-, -, -, x, hx, -⟩ := State.listens_iff.1 h
  have hid := List.find?_some hx
  exact List.any_eq_true.2 ⟨x, List.mem_of_find?_eq_some hx, hid⟩

theorem State.open_inputOf (h : s.listens m r = true) {c : Instr} :
    (s.inputOf c).bureau.sessions.any (·.id == m.session) = true := by
  rw [State.inputOf_bureau]
  exact State.open_of_listens h

/-- The role of a session that is read. -/
theorem State.role_of_listens (h : s.listens m r = true) : ∃ x, s.bureau.sessions.find? (·.id == m.session) = some x ∧ x.role = some r :=
  (State.listens_iff.1 h).2.2.2

theorem State.answer_of_open {i : Nat} (h : s.bureau.sessions.any (·.id == i) = true) (q kind : Nat) (st : Status) (body : Body) :
    s.answer i q kind st body = s.emit (replyTo i q kind st body) := if_pos h

/-- Which sessions are open is a matter of their numbers. -/
theorem any_id (xs : List Session) (i : Nat) : xs.any (·.id == i) = (xs.map (·.id)).any (· == i) := by
  rw [List.any_map]
  rfl

/-- What changes sessions and not their numbers leaves them open. -/
theorem any_id_map {f : Session → Session} (hf : ∀ x, (f x).id = x.id) (xs : List Session) (i : Nat) :
    (xs.map f).any (·.id == i) = xs.any (·.id == i) := by
  simp [List.any_map, Function.comp_def, hf]

/-- A session stays open on a desk that stays. -/
theorem State.SameDesk.stillOpen {t : State} {i : Nat} (h : s.SameDesk t) (hi : s.bureau.sessions.any (·.id == i) = true) :
    t.bureau.sessions.any (·.id == i) = true := by
  obtain ⟨-, -, hsessions⟩ := h
  rwa [any_id, hsessions, ← any_id]

theorem State.replies_emit (t : State) (m : BureauMsg) (kind : Nat) (st : Status) (body : Body) :
    (t.emit (replyTo m.session m.reqId kind st body)).replies m kind st :=
  ⟨body, List.mem_append_right _ (List.mem_singleton.2 rfl)⟩

section
variable {α : Type} [BEq α] {kind : Nat} {parse : Body → Option α} {v : α} {roles : SessRole → Bool} {ok : Bool}

/-- A request that is heard from a role that may send it, in its states, and that no lock guards, acts. -/
theorem State.bureauRequest_of_hears (h : s.hears m r kind parse v = true) (hr : roles r = true) (hok : ok = true) (c : Instr)
    (act : State → State) : s.bureauRequest c m kind parse v roles ok false act = act (s.inputOf c) := by
  obtain ⟨hlis, hread⟩ := State.hears_iff.1 h
  rw [State.bureauRequest_of_listens hlis, hread]
  simp [hr, hok]

/-- A request that is heard from a role that may not send it is denied. -/
theorem State.bureauRequest_of_role (h : s.hears m r kind parse v = true) (hr : roles r = false) (c : Instr) (guarded : Bool)
    (act : State → State) : s.bureauRequest c m kind parse v roles ok guarded act =
      (s.inputOf c).emit (replyTo m.session m.reqId kind .denied []) := by
  obtain ⟨hlis, hread⟩ := State.hears_iff.1 h
  rw [State.bureauRequest_of_listens hlis, hread]
  simp [hr, State.answer_of_listens hlis]

/-- A request that is heard outside its states is answered NOT_READY. -/
theorem State.bureauRequest_of_state (h : s.hears m r kind parse v = true) (hr : roles r = true) (hok : ok = false) (c : Instr)
    (guarded : Bool) (act : State → State) : s.bureauRequest c m kind parse v roles ok guarded act =
      (s.inputOf c).emit (replyTo m.session m.reqId kind .notReady []) := by
  obtain ⟨hlis, hread⟩ := State.hears_iff.1 h
  rw [State.bureauRequest_of_listens hlis, hread]
  simp [hr, hok, State.answer_of_listens hlis]

/-- A request that acts and then replies, its session being open as before. -/
theorem completes_answer {c : Instr} {act : State → State} {t : State} {st : Status} {body : Body} {P : State → Prop}
    (he : exec c s = .next (s.bureauRequest c m kind parse v roles ok false act))
    (h : s.hears m r kind parse v = true) (hr : roles r = true) (hok : ok = true)
    (hact : act (s.inputOf c) = t.answer m.session m.reqId kind st body)
    (hopen : t.bureau.sessions.any (·.id == m.session) = s.bureau.sessions.any (·.id == m.session))
    (hP : P (t.emit (replyTo m.session m.reqId kind st body))) : Completes c s P := by
  refine completes_next he ?_
  rw [State.bureauRequest_of_hears h hr hok, hact, State.answer_of_open]
  · exact hP
  · rw [hopen]
    exact State.open_of_listens (State.hears_iff.1 h).1

theorem State.listens_of_hears (h : s.hears m r kind parse v = true) : s.listens m r = true := (State.hears_iff.1 h).1

end

theorem observers_of_ne (h : r ≠ .enroller) : observers r = true := by
  cases r with
  | enroller => exact absurd rfl h
  | admin => rfl
  | observer => rfl

theorem State.inStates_of_ready (h : s.power.node = .ready) : s.inStates false true false = true := by
  simp [State.inStates, State.isIn, h]

theorem State.inStates_of_unready (h : s.power.node ≠ .ready) : s.inStates false true false = false := by
  simp [State.inStates, State.isIn, h]

end

/-! ## Health, telemetry and subscriptions (R641, R649) -/

section
variable {s : State} {m : BureauMsg} {r : SessRole}

@[simp] theorem State.healthNow_inputOf (s : State) (c : Instr) : (s.inputOf c).healthNow = s.healthNow := by
  rw [State.inputOf_eq]; rfl
@[simp] theorem State.activeTriggers_inputOf (s : State) (c : Instr) : (s.inputOf c).activeTriggers = s.activeTriggers := by
  rw [State.inputOf_eq]; rfl
@[simp] theorem State.portsUp_inputOf (s : State) (c : Instr) : (s.inputOf c).portsUp = s.portsUp := by
  rw [State.inputOf_eq]; rfl
@[simp] theorem State.stopCauseWord_inputOf (s : State) (c : Instr) : (s.inputOf c).stopCauseWord = s.stopCauseWord := by
  rw [State.inputOf_eq]; rfl

/-- What TELEMETRY replies. -/
def State.telemetryBody (u : State) : Body :=
  [(1, cborArray ((List.range 24).map fun d => let v := u.dom d
      cborArray [cborUint v.mv, cborUint v.hc, cborInt v.junction.toInt, cborUint v.occupancy])),
    (2, cborArray ((List.range u.power.part.slices).map fun n => cborInt (u.stk n).temp.toInt)),
    (3, cborUint u.power.vinMv), (4, cborUint (Config.inputPower u.time).toNat),
    (5, cborArray ((List.range 32).map fun p => cborBytes (((u.port p).errCnt.take 8).flatMap (leBytes 4))))]

/-- What TELEMETRY does where it may. -/
def State.telemetry (m : BureauMsg) (u : State) : State := u.answer m.session m.reqId 0x02 .ok u.telemetryBody

theorem exec_telemetry (s : State) (m : BureauMsg) : exec (.telemetry m) s = .next (s.bureauRequest (.telemetry m) m 0x02 noBody ()
    observers (s.inStates false true false) false (State.telemetry m)) := rfl

/-- The bytes of a message that are no sound request of its type get FORMAT, or close the session. -/
theorem State.bureauRequest_of_bad {α : Type} [BEq α] {kind : Nat} {parse : Body → Option α} {v : α} {roles : SessRole → Bool}
    {ok guarded : Bool} (h : s.listens m r = true) (hread : m.read kind parse v = .bad) (c : Instr) (act : State → State) :
    s.bureauRequest c m kind parse v roles ok guarded act = (s.inputOf c).emit (replyTo m.session m.reqId m.typ .format []) := by
  rw [State.bureauRequest_of_listens h, hread]
  exact State.answer_of_listens h ..

theorem State.bureauRequest_of_notCbor {α : Type} [BEq α] {kind : Nat} {parse : Body → Option α} {v : α} {roles : SessRole → Bool}
    {ok guarded : Bool} (h : s.listens m r = true) (hread : m.read kind parse v = .notCbor) (c : Instr) (act : State → State) :
    s.bureauRequest c m kind parse v roles ok guarded act = (s.inputOf c).closeSession m.session "decode_error" := by
  rw [State.bureauRequest_of_listens h, hread]

end

/-- Settles O42: each request answers from the state in which it is delivered; what is refused does not act. -/
theorem bureauReadsReplyAndChangeNothingElse : Obligations.BureauReadsReplyAndChangeNothingElse := by
  refine ⟨fun s m r h hst => ?_, fun s m r h hr hn => ?_, fun s m r h hr hn => ?_, fun s m r on h hr hst => ?_, fun s m h => ?_,
    fun s m r h hr hn => ?_, fun s m r h hread => ?_, fun s m r h hread => ?_⟩
  case refine_1 =>
    refine ⟨_, rfl, ?_⟩
    rw [State.bureauRequest_of_hears h rfl hst, State.answer_of_listens (State.listens_of_hears h)]
    simp
  case refine_2 =>
    refine ⟨_, exec_telemetry s m, (s.inputOf (.telemetry m)).telemetryBody, rfl, by rw [State.telemetryBody, State.inputOf_power]; rfl, ?_⟩
    rw [State.bureauRequest_of_hears h (observers_of_ne hr) (State.inStates_of_ready hn), State.telemetry]
    exact State.answer_of_listens (State.listens_of_hears h) ..
  case refine_3 =>
    refine ⟨_, rfl, _, ?_, (State.bureauRequest_of_hears h (observers_of_ne hr) (State.inStates_of_ready hn) ..).trans
      (State.answer_of_listens (State.listens_of_hears h) ..)⟩
    split <;> rfl
  case refine_4 =>
    refine ⟨_, rfl, ?_⟩
    rw [State.bureauRequest_of_hears h (observers_of_ne hr) hst]
    refine (State.answer_of_open ((any_id_map (fun x => ?_) ..).trans ?_) ..).trans (by simp only [State.inputOf_bureau])
    · split <;> rfl
    · rw [State.inputOf_bureau]
      exact State.open_of_listens (State.listens_of_hears h)
  case refine_5 => exact ⟨_, exec_telemetry s m, State.bureauRequest_of_role h rfl ..⟩
  case refine_6 =>
    exact ⟨_, exec_telemetry s m, State.bureauRequest_of_state h (observers_of_ne hr) (State.inStates_of_unready hn) ..⟩
  case refine_7 => exact ⟨_, exec_telemetry s m, State.bureauRequest_of_bad h hread ..⟩
  case refine_8 => exact ⟨_, exec_telemetry s m, State.bureauRequest_of_notCbor h hread ..⟩

/-! ## Sessions (R626, R632, R647) -/

section
variable {s : State} {n : Nat}

/-- What the close of an open session makes of the state. -/
theorem State.closeSession_of_open (h : s.bureau.sessions.any (·.id == n) = true) (alert : String) : s.closeSession n alert =
    { s with
      bureau.sessions := s.bureau.sessions.filter (·.id != n)
      bureau.lock := if s.bureau.lock = Holder.session n then Holder.free else s.bureau.lock
      bureau.creds := s.bureau.creds.filter fun c => !((s.bureau.revoked.filter fun (e : Nat × List Byte) => e.1 == n).map fun (e : Nat × List Byte) => e.2).contains c.1
      bureau.revoked := s.bureau.revoked.filter (·.1 != n) }.emit (.closed n alert) := by
  rw [State.closeSession, if_neg (by simp [h])]

theorem any_id_filter (xs : List Session) (n : Nat) : (xs.filter (·.id != n)).any (·.id == n) = false := by
  simp

/-- A session that is closed is open no more, and its close is on record. -/
theorem State.closeSession_closes (h : s.bureau.sessions.any (·.id == n) = true) (alert : String) :
    (s.closeSession n alert).bureau.sessions.any (·.id == n) = false ∧ .closed n alert ∈ (s.closeSession n alert).out := by
  rw [State.closeSession_of_open h]
  exact ⟨any_id_filter .., List.mem_append_right _ (List.mem_singleton.2 rfl)⟩

theorem open_of_find {x : Session} (h : s.bureau.sessions.find? (fun y => y.id == n && y.role.isNone) = some x) :
    s.bureau.sessions.any (·.id == n) = true := by
  have hx := List.find?_some h
  simp only [Bool.and_eq_true] at hx
  exact List.any_eq_true.2 ⟨x, List.mem_of_find?_eq_some h, hx.1⟩

/-- A client that has a role takes it. -/
theorem execTlsHandshakeDone_of_role {x : Session} {der : List Byte} {r : SessRole}
    (hx : s.bureau.sessions.find? (fun y => y.id == n && y.role.isNone) = some x)
    (hcert : ((Config.x509 der).bind (·.p384)).isSome = true) (hrole : s.roleFor (Config.sha384 der) = some r) :
    exec (.tlsHandshakeDone n (.certificate der)) s =
      .next ({ s with bureau.sessions := s.bureau.sessions.map fun (y : Session) =>
        if y.id = n then { y with role := some r, cert := Config.sha384 der } else y }.emit (.tls n "up")) := by
  change execTlsHandshakeDone n (.certificate der) s = _
  simp only [execTlsHandshakeDone, hx, hrole]
  exact if_neg (by rw [← Option.not_isSome, hcert]; decide)

/-- A client that the handshake turns away has its session closed. -/
theorem completes_closed {c : Instr} {alert : String} (h : s.bureau.sessions.any (·.id == n) = true)
    (hc : exec c s = .next (s.closeSession n alert)) :
    Completes c s fun t => (t.bureau.sessions.any (·.id == n)) = false ∧ .closed n alert ∈ t.out :=
  completes_next hc (State.closeSession_closes h alert)

end

/-- Settles O41: each command is one case of its row; a session that closes is taken out with its lock and its revoked entries. -/
theorem sessionsOpenAndCloseAndTheNetworkIsAnswered : Obligations.SessionsOpenAndCloseAndTheNetworkIsAnswered := by
  refine ⟨fun s n hup hnew hroom => ?_, fun s n hup hnew hfull => ?_, fun s n der r x hx hcert hrole => ?_,
    fun s n der x hx hcert hrole => ?_, fun s n der x hx hcert => ?_, fun s n x hx => ?_, fun s h c hc => ?_, fun s h hnone => ?_,
    fun s n hopen c hc => ?_, fun s => ⟨_, rfl, rfl⟩, fun s a hlink ha => ?_, fun s net hlink hnew => ?_, fun s p hlink => ?_⟩
  case refine_1 =>
    refine ⟨_, ?_, rfl⟩
    change execTcpConnect n s = _
    rw [execTcpConnect, if_neg (by simp [State.mgmtLink, hup, hnew]), if_neg (by simp [hup, hroom])]
  case refine_2 =>
    refine ⟨_, ?_, rfl⟩
    change execTcpConnect n s = _
    rw [execTcpConnect, if_neg (by simp [State.mgmtLink, hup, hnew]), if_pos (by simp [hfull])]
  case refine_3 =>
    refine completes_next (execTlsHandshakeDone_of_role hx hcert hrole) ⟨rfl, rfl, rfl, rfl⟩
  case refine_4 =>
    refine completes_closed (open_of_find hx) ?_
    change execTlsHandshakeDone n (.certificate der) s = _
    simp only [execTlsHandshakeDone, hx, hrole]
    exact if_neg (by rw [← Option.not_isSome, hcert]; decide)
  case refine_5 =>
    refine completes_closed (open_of_find hx) ?_
    change execTlsHandshakeDone n (.certificate der) s = _
    simp only [execTlsHandshakeDone, hx]
    exact if_pos (by rw [← Option.not_isSome, hcert]; rfl)
  case refine_6 =>
    refine completes_closed (open_of_find hx) ?_
    change execTlsHandshakeDone n .noCertificate s = _
    simp only [execTlsHandshakeDone, hx]
  case refine_7 => rw [State.roleFor, hc]
  case refine_8 =>
    rw [State.roleFor, hnone]
    change (if (!s.bureau.hasAdmin || _ || _) = true then some _ else none) = _ ↔ s.bureau.hasAdmin = false ∨ _ ∨ _
    simp only [Bool.or_eq_true, Bool.not_eq_true', beq_iff_eq, Option.ite_none_right_eq_some, and_true, or_assoc]
  case refine_9 =>
    have hclose : ∃ alert, exec c s = .next (s.closeSession n alert) := by
      rcases hc with rfl | rfl
      · exact ⟨_, rfl⟩
      · exact ⟨_, rfl⟩
    obtain ⟨alert, hc⟩ := hclose
    refine completes_next hc ?_
    rw [State.closeSession_of_open hopen]
    refine ⟨any_id_filter .., ?_, rfl, rfl, fun h hrev r hmem => ?_⟩
    · simp only [State.emit]
      split
      · simp
      next hlock => exact hlock
    · have hgone := (List.mem_filter.1 hmem).2
      simp only [Bool.not_eq_true', List.contains_eq_mem, decide_eq_false_iff_not] at hgone
      exact hgone (List.mem_map.2 ⟨(n, h), List.mem_filter.2 ⟨hrev, by simp⟩, rfl⟩)
  case refine_10 => exact ⟨_, if_pos (by rw [hlink, ha]; rfl), rfl⟩
  case refine_11 => exact ⟨_, if_neg (by rw [hlink, hnew]; decide), rfl⟩
  case refine_12 => exact ⟨_, if_pos hlink, rfl⟩

/-! ## The logs, the reset and the lock (R134, R359, R643 to R647) -/

section
variable {s : State} {m : BureauMsg}

/-- A stop of a node that is not off loses its memory, keeps what it has put out, and records its cause but from FAILED. -/
theorem State.stop_of_on (h : s.isIn .off = false) (cause : Nat) (why : String) : (s.stop cause why).mem = [] ∧
    s.out <+: (s.stop cause why).out ∧ (s.power.node ≠ .failed → (s.stop cause why).power.stopCause = cause) := by
  rw [State.stop, if_neg (by simp [h])]
  refine ⟨rfl, List.prefix_append .., fun hf => ?_⟩
  exact if_neg (mt State.isIn_iff.1 hf)

theorem State.on_of_inStates {a r f : Bool} (h : s.inStates a r f = true) : s.isIn .off = false := by
  refine Bool.eq_false_iff.2 fun hoff => ?_
  rw [State.isIn_iff] at hoff
  simp [State.inStates, State.isIn, hoff] at h

/-- LOCK that is heard in its states takes the holder that its function gives, or is refused. -/
theorem State.lockRequest_of_hears {action : Nat} (h : s.hears m .admin 0x0E (uintBody (· < 3)) action = true)
    (hst : s.inStates true true false = true) (c : Instr) (f : Holder → Option Holder) (broken : Holder → Bool) :
    s.lockRequest c m action f broken =
      match f s.bureau.lock with
      | none => (s.inputOf c).emit (replyTo m.session m.reqId 0x0E .notReady [(1, cborUint (s.bureau.lock.code m.session))])
      | some x =>
        (if broken s.bureau.lock then ({ s.inputOf c with bureau.lock := x }.raise .configLockBroken .node 0 0 0 0)
          else { s.inputOf c with bureau.lock := x }).emit
            (replyTo m.session m.reqId 0x0E .ok [(1, cborUint (x.code m.session))]) := by
  have hopen := State.open_inputOf (c := c) (State.listens_of_hears h)
  rw [State.lockRequest, State.bureauRequest_of_hears h rfl hst]
  simp only [State.inputOf_bureau] at hopen ⊢
  cases f s.bureau.lock with
  | none => exact State.answer_of_open (by rwa [State.inputOf_bureau]) ..
  | some x =>
    refine State.answer_of_open ?_ ..
    split
    · exact State.SameDesk.stillOpen (State.sameDesk_raise ..) hopen
    · exact hopen

/-- LOCK by force takes the lock of the host port, and says so. -/
theorem completes_lockBroken (h : s.hears m .admin 0x0E (uintBody (· < 3)) 2 = true) (hst : s.inStates true true false = true)
    (hlock : s.bureau.lock = .host) (hroom : s.ringRoom = true) : Completes (.lockAcquireForce m) s fun t =>
      t.bureau.lock = .session m.session ∧ t.mem = s.mem ∧ t.eventAt s.events.ring.tail = some Ev.configLockBroken.code ∧
      t.replies m 0x0E .ok := by
  let u : State := { s.inputOf (.lockAcquireForce m) with bureau.lock := .session m.session }
  have hann : u.Announces (u.raise .configLockBroken .node 0 0 0 0) := u.announces_raise ..
  have htail : u.events.ring.tail = s.events.ring.tail := by simp only [u, State.inputOf_events]
  have hevent : (u.raise .configLockBroken .node 0 0 0 0).eventAt s.events.ring.tail = some Ev.configLockBroken.code := by
    rw [← htail]
    exact State.eventAt_raise (by simpa [u, State.ringRoom] using hroom) rfl ..
  have hmem : u.mem = s.mem := s.inputOf_mem _
  have hlockU : u.bureau.lock = .session m.session := rfl
  have he : exec (.lockAcquireForce m) s = .next ((u.raise .configLockBroken .node 0 0 0 0).emit
      (replyTo m.session m.reqId 0x0E .ok [(1, cborUint (Holder.code (.session m.session) m.session))])) := by
    refine congrArg Host.Outcome.next ((State.lockRequest_of_hears h hst _ _ _).trans ?_)
    rw [hlock, if_pos (.inr (.inl rfl))]
    dsimp only
    rw [if_pos (show (Holder.host == Holder.host) = true from rfl)]
  clear_value u
  refine completes_next he ⟨?_, ?_, hevent, State.replies_emit ..⟩
  · exact (congrArg (fun u : State => u.bureau.lock) hann.rest :).trans hlockU
  · exact (congrArg State.mem hann.rest :).trans hmem

end

/-- Settles O43: each request is heard and acts; the lock's new holder is a function of the one before. -/
theorem logsResetsAndTheLockFollowTheBureau : Obligations.LogsResetsAndTheLockFollowTheBureau := by
  refine ⟨fun s m r start n h hr hst => ?_, fun s m h clear hm hst => ?_, fun s m h hst => ?_, fun s m h hst => ?_,
    fun s m c a hc h hst hlock => ?_, fun s m c a i hc h hst hlock hi => ?_, fun s m h hst hlock => ?_, fun s m h hst hlock hroom => ?_⟩
  case refine_1 =>
    refine ⟨_, rfl, ?_⟩
    rw [State.bureauRequest_of_hears h (observers_of_ne hr) hst, State.answer_of_listens (State.listens_of_hears h)]
    simp only [State.inputOf_events, Ring.readFrom, List.map_filterMap, Option.map_map, Function.comp_def]
  case refine_2 =>
    have hlog : s.events.fault.setHead (BitVec.ofNat 32 h.toNat) = { s.events.fault with
        head := if (h - s.events.fault.head).toNat ≤ (s.events.fault.tail - s.events.fault.head).toNat then h
          else s.events.fault.head } := by
      rw [BitVec.ofNat_toNat, BitVec.setWidth_eq, Ring.setHead_eq]
    refine completes_answer rfl hm rfl hst rfl (by simp only [State.inputOf_bureau]) ?_
    simp only [State.inputOf_events, hlog]
    refine ⟨?_, ?_, ?_, ?_, ?_, rfl, State.replies_emit ..⟩
    · cases clear <;> rfl
    · cases clear <;> rfl
    · cases clear <;> rfl
    · cases clear <;> rfl
    · rw [State.inputOf_eq]
      rfl
  case refine_3 =>
    refine ⟨_, rfl, ?_⟩
    rw [State.bureauRequest_of_hears h rfl hst, State.answer_of_listens (State.listens_of_hears h)]
    have hon : ((s.inputOf (.nodeReset m)).emit (replyTo m.session m.reqId 0x0D .ok [])).isIn .off = false := by
      rw [State.isIn, State.emit_power, State.inputOf_power]
      exact State.on_of_inStates hst
    obtain ⟨hmem, hout, hcause⟩ := State.stop_of_on hon causeNodeReset "NODE_RESET"
    exact ⟨State.stop_node .., rfl, hmem, ⟨_, hout.subset (List.mem_append_right _ (List.mem_singleton.2 rfl))⟩,
      fun hf => hcause (by rwa [State.emit_power, State.inputOf_power])⟩
  case refine_4 =>
    refine ⟨_, rfl, ?_⟩
    rw [State.lockRequest_of_hears h hst]
    exact ⟨rfl, State.replies_emit .., by simp⟩
  case refine_5 =>
    have hcode : Holder.code (.session m.session) m.session = 2 := if_pos rfl
    have hfree : (s.bureau.lock == .host) = false := by rcases hlock with hl | hl <;> rw [hl] <;> rfl
    rcases hc with ⟨rfl, rfl⟩ | ⟨rfl, rfl⟩
    · refine ⟨_, rfl, ?_⟩
      rw [State.lockRequest_of_hears h hst, if_pos hlock, ← hcode]
      rfl
    · refine ⟨_, rfl, ?_⟩
      rw [State.lockRequest_of_hears h hst, if_pos (hlock.imp_right .inr), ← hcode]
      simp only [hfree]
      rfl
  case refine_6 =>
    have hcode : Holder.code (.session i) m.session = 3 := if_neg hi
    rcases hc with ⟨rfl, rfl⟩ | ⟨rfl, rfl⟩
    · refine ⟨_, rfl, ?_⟩
      rw [State.lockRequest_of_hears h hst, hlock, if_neg (by simp [hi]), hcode]
    · refine ⟨_, rfl, ?_⟩
      rw [State.lockRequest_of_hears h hst, hlock, if_neg (by simp [hi]), hcode]
  case refine_7 =>
    refine ⟨_, rfl, ?_⟩
    rw [State.lockRequest_of_hears h hst, hlock, if_neg (by simp)]
    rfl
  case refine_8 => exact completes_lockBroken h hst hlock hroom

end Sys2Proof.Machine

/-! The credential store and the key bank (R633 to R636): ENROLL, REVOKE, JOINERY_KEY and CRED_RESET. -/

namespace Sys2Proof.Machine

/-! ## An announced change and its reply -/

section
variable {s v : State}

/-- A session that is open stays open as an event is raised. -/
theorem State.answer_raise {i : Nat} (h : v.bureau.sessions.any (·.id == i) = true) (e : Ev) (q kind : Nat) (st : Status)
    (body : Body) : (v.raise e .node 0 0 0 0).answer i q kind st body =
      (v.raise e .node 0 0 0 0).emit (replyTo i q kind st body) :=
  State.answer_of_open ((v.sameDesk_raise ..).stillOpen h) ..

/-- An event that a state with the ring of `s` raises enters the ring at its tail. -/
theorem State.eventAt_announced {e : Ev} (hring : v.events.ring = s.events.ring) (hroom : s.ringRoom = true) (he : e.alerts = false)
    (o : Out) : ((v.raise e .node 0 0 0 0).emit o).eventAt s.events.ring.tail = some e.code := by
  have hroom' : v.ringRoom = true := by rwa [State.ringRoom, hring]
  rw [← hring]
  exact State.eventAt_raise hroom' he ..

end

/-! ## ENROLL and REVOKE -/

section
variable {s : State} {m : BureauMsg} {r : SessRole}

/-- Whether a session is an enroller's is a matter of its role. -/
theorem State.fromEnroller_of_listens (h : s.listens m r = true) (c : Instr) :
    (s.inputOf c).fromEnroller m = (r == .enroller) := by
  obtain ⟨x, hx, hrole⟩ := State.role_of_listens h
  rw [State.fromEnroller, State.inputOf_bureau, hx]
  simp [optAny, hrole]

theorem State.fromEnroller_of_admin {α : Type} [BEq α] {kind : Nat} {parse : Body → Option α} {v : α}
    (h : s.hears m .admin kind parse v = true) (c : Instr) (b : Bool) : ((s.inputOf c).fromEnroller m && b) = false := by
  rw [State.fromEnroller_of_listens (State.listens_of_hears h)]
  rfl

/-- What ENROLL makes of a state. -/
def State.enroll (m : BureauMsg) (cert : List Byte) (role : Nat) (u : State) : State :=
  let h := Config.sha384 cert
  if u.fromEnroller m && u.bureau.hasAdmin then u.answer m.session m.reqId 0x10 .denied []
  else if u.bureau.creds.any (·.1 == h) then
    { u with bureau.creds := u.bureau.creds.map fun (c : List Byte × Nat) => if c.1 = h then (h, role) else c }.answer
      m.session m.reqId 0x10 .ok [(1, cborUint u.bureau.creds.length)]
  else if 16 ≤ u.bureau.creds.length then u.answer m.session m.reqId 0x10 .range []
  else { u with bureau.creds := u.bureau.creds ++ [(h, role)] }.answer m.session m.reqId 0x10 .ok
    [(1, cborUint (u.bureau.creds.length + 1))]

theorem exec_enroll (s : State) (m : BureauMsg) (cert : List Byte) (role : Nat) : exec (.enroll m cert role) s =
    .next (s.bureauRequest (.enroll m cert role) m 0x10 enrollBody (cert, role) enrolling (s.inStates true true false) false
      (State.enroll m cert role)) := rfl

section
variable {u : State} {cert : List Byte} {role : Nat} (hfrom : (u.fromEnroller m && u.bureau.hasAdmin) = false)
include hfrom

theorem State.enroll_of_new (hnew : u.bureau.creds.any (·.1 == Config.sha384 cert) = false) (hroom : u.bureau.creds.length < 16) :
    u.enroll m cert role = { u with bureau.creds := u.bureau.creds ++ [(Config.sha384 cert, role)] }.answer m.session m.reqId 0x10 .ok
      [(1, cborUint (u.bureau.creds.length + 1))] := by
  rw [State.enroll]
  dsimp only
  rw [if_neg (by simp [hfrom]), if_neg (by simp [hnew]), if_neg (by omega)]

theorem State.enroll_of_enrolled (hold : u.bureau.creds.any (·.1 == Config.sha384 cert) = true) :
    u.enroll m cert role =
      { u with
        bureau.creds := u.bureau.creds.map fun (c : List Byte × Nat) =>
          if c.1 = Config.sha384 cert then (Config.sha384 cert, role) else c }.answer m.session m.reqId 0x10 .ok
        [(1, cborUint u.bureau.creds.length)] := by
  rw [State.enroll]
  dsimp only
  rw [if_neg (by simp [hfrom]), if_pos hold]

theorem State.enroll_of_full (hnew : u.bureau.creds.any (·.1 == Config.sha384 cert) = false) (hfull : 16 ≤ u.bureau.creds.length) :
    u.enroll m cert role = u.answer m.session m.reqId 0x10 .range [] := by
  rw [State.enroll]
  dsimp only
  rw [if_neg (by simp [hfrom]), if_neg (by simp [hnew]), if_pos hfull]

end

/-- What REVOKE makes of a state. -/
def State.revoke (m : BureauMsg) (hash : List Byte) (u : State) : State :=
  let rest := u.bureau.creds.filter (·.1 != hash)
  let own := u.bureau.sessions.any fun x => x.id == m.session && x.cert == hash
  if u.bureau.creds.any (fun c => c.1 == hash && c.2 == 0) && !rest.any (·.2 == 0) then
    u.answer m.session m.reqId 0x11 .denied []
  else if own then
    { u with bureau.revoked := u.bureau.revoked ++ [(m.session, hash)] }.answer m.session m.reqId 0x11 .ok
      [(1, cborUint u.bureau.creds.length)]
  else { u with bureau.creds := rest }.answer m.session m.reqId 0x11 .ok [(1, cborUint rest.length)]

theorem exec_revoke (s : State) (m : BureauMsg) (hash : List Byte) : exec (.revoke m hash) s =
    .next (s.bureauRequest (.revoke m hash) m 0x11 (bytesBody (·.length == 48)) hash adminOnly (s.inStates true true false) false
      (State.revoke m hash)) := rfl

section
variable {u : State} {hash : List Byte}

theorem State.revoke_of_last (hmem : (hash, 0) ∈ u.bureau.creds)
    (hrest : (u.bureau.creds.filter (·.1 != hash)).any (·.2 == 0) = false) :
    u.revoke m hash = u.answer m.session m.reqId 0x11 .denied [] := by
  have hadmin : u.bureau.creds.any (fun c => c.1 == hash && c.2 == 0) = true := List.any_eq_true.2 ⟨_, hmem, by simp⟩
  rw [State.revoke]
  dsimp only
  rw [if_pos (by rw [hadmin, hrest]; rfl)]

theorem State.revoke_of_rest (hrest : (u.bureau.creds.filter (·.1 != hash)).any (·.2 == 0) = true) :
    u.revoke m hash = if (u.bureau.sessions.any fun x => x.id == m.session && x.cert == hash) = true then
      { u with bureau.revoked := u.bureau.revoked ++ [(m.session, hash)] }.answer m.session m.reqId 0x11 .ok
        [(1, cborUint u.bureau.creds.length)]
    else { u with bureau.creds := u.bureau.creds.filter (·.1 != hash) }.answer m.session m.reqId 0x11 .ok
      [(1, cborUint (u.bureau.creds.filter fun (c : List Byte × Nat) => c.1 != hash).length)] := by
  rw [State.revoke]
  dsimp only
  rw [if_neg (by simp only [hrest, Bool.not_true, Bool.and_false]; exact Bool.false_ne_true)]

end

end

/-- Replacing the role of a credential keeps the others and the number of entries. -/
theorem creds_replaced (h : List Byte) (role : Nat) (cs : List (List Byte × Nat)) :
    (∀ c ∈ cs.map (fun c : List Byte × Nat => if c.1 = h then (h, role) else c), c.1 = h → c.2 = role) ∧
    (cs.map (fun c : List Byte × Nat => if c.1 = h then (h, role) else c)).length = cs.length ∧
    (cs.map (fun c : List Byte × Nat => if c.1 = h then (h, role) else c)).filter (·.1 != h) = cs.filter (·.1 != h) := by
  refine ⟨fun c hc he => ?_, List.length_map .., ?_⟩
  · obtain ⟨x, -, rfl⟩ := List.mem_map.1 hc
    split at he
    next hx => rw [if_pos hx]
    next hx => exact absurd he hx
  · induction cs with
    | nil => rfl
    | cons c cs ih =>
      rw [List.map_cons, List.filter_cons, List.filter_cons, ih]
      by_cases hc : c.1 = h
      · simp [hc]
      · simp [hc]

/-! ## JOINERY_KEY and CRED_RESET -/

/-- The state with a key's digest in the next slot. -/
def State.withKey (u : State) (key : List Byte) : State := { u with sec.keys := u.sec.keys ++ [Config.sha384 key] }

section
variable {s : State} {m : BureauMsg} {key : List Byte}

theorem exec_joineryKey_of_room (h : s.hears m .admin 0x12 (bytesBody (·.length == 97)) key = true)
    (hnode : s.power.node = .awaitJoinery) (hever : s.jny.everOk = false) (hroom : s.sec.keys.length < 8) :
    exec (.joineryKey m key) s = .next ((((s.inputOf (.joineryKey m key)).withKey key).raise .joineryKeyEnrolled .node 0 0 0 0).emit
      (replyTo m.session m.reqId 0x12 .ok [(1, cborUint (s.sec.keys.length + 1))])) := by
  have hlis := State.listens_of_hears h
  refine congrArg Host.Outcome.next ((State.bureauRequest_of_hears h rfl (State.isIn_iff.2 hnode) ..).trans ?_)
  have hreply := State.answer_raise (v := (s.inputOf (.joineryKey m key)).withKey key) (State.open_inputOf hlis) .joineryKeyEnrolled
    m.reqId 0x12 .ok [(1, cborUint (s.sec.keys.length + 1))]
  rw [if_neg (by rw [State.fromEnroller_of_listens hlis]; exact Bool.false_ne_true), if_neg (by simp [hever]), if_neg (by simpa using hroom)]
  simpa only [State.withKey, State.inputOf_sec] using hreply

/-- The state without the sessions other than `id`. -/
def State.closeOthers (u : State) (id : Nat) : State :=
  ((u.bureau.sessions.filter (·.id != id)).map (·.id)).foldl (fun v i => v.closeSession i "close") u

/-- The state with an empty store. -/
def State.emptied (u : State) : State := { u with bureau.creds := [], bureau.revoked := [] }

theorem exec_credReset_of_hears (h : s.hears m .enroller 0x13 noBody () = true) (hst : s.inStates true true false = true) :
    exec (.credReset m) s = .next ((((s.inputOf (.credReset m)).closeOthers m.session).emptied.raise
      .credentialsReset .node 0 0 0 0).answer m.session m.reqId 0x13 .ok []) :=
  congrArg Host.Outcome.next (State.bureauRequest_of_hears h rfl hst ..)

end

/-! ## The close of the other sessions -/

section
variable {s : State} {n : Nat}

theorem State.sessions_closeSession (s : State) (n : Nat) (alert : String) :
    (s.closeSession n alert).bureau.sessions = s.bureau.sessions.filter (·.id != n) := by
  by_cases h : s.bureau.sessions.any (·.id == n) = true
  · rw [State.closeSession_of_open h]
    rfl
  · rw [State.closeSession, if_pos (by simpa using h), eq_comm, List.filter_eq_self]
    simpa using h

/-- The close of a session touches the Bureau and the record of outputs alone. -/
theorem State.closeSession_frame (s : State) (n : Nat) (alert : String) :
    { s.closeSession n alert with bureau := s.bureau, out := s.out } = s := by
  unfold State.closeSession
  split <;> rfl

theorem State.lock_closeSession_free (h : s.bureau.lock = .free) (n : Nat) (alert : String) :
    (s.closeSession n alert).bureau.lock = .free := by
  unfold State.closeSession
  split
  · exact h
  · exact (if_neg (show ¬s.bureau.lock = .session n by rw [h]; exact Holder.noConfusion)).trans h

theorem State.lock_closeSession_ne {i : Nat} (h : s.bureau.lock = .session i) (hn : i ≠ n) (alert : String) :
    (s.closeSession n alert).bureau.lock = .session i := by
  unfold State.closeSession
  split
  · exact h
  · exact (if_neg (by rw [h]; simpa using hn)).trans h

/-- The state with each session of a list closed. -/
def State.closeEach (s : State) (ids : List Nat) : State := ids.foldl (fun v i => v.closeSession i "close") s

theorem State.sessions_closeEach (ids : List Nat) (s : State) :
    (s.closeEach ids).bureau.sessions = s.bureau.sessions.filter fun x => !ids.contains x.id := by
  induction ids generalizing s with
  | nil => simp [State.closeEach]
  | cons i ids ih =>
    refine (ih (s.closeSession i "close")).trans ?_
    rw [State.sessions_closeSession, List.filter_filter]
    refine List.filter_congr fun x _ => ?_
    rw [List.contains_cons, Bool.not_or, Bool.and_comm]
    rfl

theorem State.closeEach_frame (ids : List Nat) (s : State) : { s.closeEach ids with bureau := s.bureau, out := s.out } = s :=
  foldl_holds (fun v : State => { v with bureau := s.bureau, out := s.out } = s) _
    (fun v i hv => (congrArg (fun u : State => { u with bureau := s.bureau, out := s.out }) (v.closeSession_frame i "close")).trans hv)
    ids s rfl

theorem State.lock_closeEach_free (ids : List Nat) (h : s.bureau.lock = .free) : (s.closeEach ids).bureau.lock = .free :=
  foldl_holds (fun v : State => v.bureau.lock = .free) _ (fun _ i hv => State.lock_closeSession_free hv i "close") ids s h

/-- The lock of a session that is closed among others is free. -/
theorem State.lock_closeEach {i : Nat} (ids : List Nat) (hi : i ∈ ids) (hlock : s.bureau.lock = .session i)
    (hopen : s.bureau.sessions.any (·.id == i) = true) : (s.closeEach ids).bureau.lock = .free := by
  induction ids generalizing s with
  | nil => cases hi
  | cons j ids ih =>
    change ((s.closeSession j "close").closeEach ids).bureau.lock = .free
    by_cases hj : i = j
    · subst hj
      refine State.lock_closeEach_free ids ?_
      rw [State.closeSession_of_open hopen]
      exact if_pos hlock
    · refine ih ((List.mem_cons.1 hi).resolve_left hj) (State.lock_closeSession_ne hlock hj _) ?_
      rw [State.sessions_closeSession]
      obtain ⟨x, hx, hid⟩ := List.any_eq_true.1 hopen
      refine List.any_eq_true.2 ⟨x, List.mem_filter.2 ⟨hx, ?_⟩, hid⟩
      rw [beq_iff_eq] at hid
      simpa [hid] using hj

/-- Of all sessions, that of the request alone stays. -/
theorem State.sessions_closeOthers (s : State) (n : Nat) : (s.closeOthers n).bureau.sessions = s.bureau.sessions.filter (·.id == n) := by
  refine (State.sessions_closeEach ..).trans (List.filter_congr fun x hx => ?_)
  rw [Bool.eq_iff_iff]
  simp only [Bool.not_eq_true', List.contains_eq_mem, decide_eq_false_iff_not, List.mem_map, List.mem_filter, bne_iff_ne, beq_iff_eq]
  refine ⟨fun h => ?_, ?_⟩
  · by_contra hne
    exact h ⟨x, ⟨hx, hne⟩, rfl⟩
  · rintro he ⟨y, ⟨-, hy⟩, hyx⟩
    exact hy (hyx.trans he)

/-- What the empty store and the one session leave of a state. -/
theorem State.emptied_closeOthers {u : State} {c : Instr} (hu : u = ((s.inputOf c).closeOthers n).emptied) :
    u.sec = s.sec ∧ u.mem = s.mem ∧ u.events.ring = s.events.ring ∧ u.bureau.creds = [] ∧
    u.bureau.sessions = s.bureau.sessions.filter (·.id == n) ∧
    ∀ i, s.bureau.lock = .session i → i ≠ n → s.bureau.sessions.any (·.id == i) = true → u.bureau.lock = .free := by
  have hframe := State.closeEach_frame (((s.inputOf c).bureau.sessions.filter (·.id != n)).map (·.id)) (s.inputOf c)
  subst hu
  refine ⟨(congrArg State.sec hframe :).trans (s.inputOf_sec c), (congrArg State.mem hframe :).trans (s.inputOf_mem c),
    (congrArg (·.events.ring) hframe :).trans (by rw [State.inputOf_events]), rfl,
    (State.sessions_closeOthers ..).trans (by rw [State.inputOf_bureau]), fun i hi hne hopen => ?_⟩
  refine State.lock_closeEach (i := i) _ ?_ (by rwa [State.inputOf_bureau]) (by rwa [State.inputOf_bureau])
  obtain ⟨x, hx, hid⟩ := List.any_eq_true.1 hopen
  rw [beq_iff_eq] at hid
  rw [State.inputOf_bureau]
  exact List.mem_map.2 ⟨x, List.mem_filter.2 ⟨hx, by simpa [hid] using hne⟩, hid⟩

end

/-- Settles O44: each request is heard and acts, and its session is open for the reply. -/
theorem credentialsAndJoineryKeysAreManaged : Obligations.CredentialsAndJoineryKeysAreManaged := by
  refine ⟨fun s m cert role h hst hnew hroom => ?_, fun s m cert role h hst hold => ?_, fun s m cert role h hst hnew hfull => ?_,
    fun s m cert role h hst hadmin => ?_, fun s m hash h hst hrest hown => ?_, fun s m hash h hst hmem hrest => ?_,
    fun s m hash h hst hrest hown => ?_, fun s m key h hnode hever hroom hring => ?_, fun s m h hst hring => ?_⟩
  case refine_1 =>
    refine completes_answer (exec_enroll ..) h rfl hst (State.enroll_of_new (State.fromEnroller_of_admin h (.enroll m cert role) _)
      (by rwa [State.inputOf_bureau]) (by rwa [State.inputOf_bureau])) ?_ ?_
    · simp only [State.inputOf_bureau]
    · simp only [State.inputOf_bureau]
  case refine_2 =>
    refine completes_answer (exec_enroll ..) h rfl hst (State.enroll_of_enrolled (State.fromEnroller_of_admin h (.enroll m cert role) _)
      (by rwa [State.inputOf_bureau])) ?_ ?_
    · simp only [State.inputOf_bureau]
    · simp only [State.inputOf_bureau]
      obtain ⟨hrole, hlength, hothers⟩ := creds_replaced (Config.sha384 cert) role s.bureau.creds
      exact ⟨hrole, hlength, hothers, State.replies_emit ..⟩
  case refine_3 =>
    refine completes_answer (exec_enroll ..) h rfl hst (State.enroll_of_full (State.fromEnroller_of_admin h (.enroll m cert role) _)
      (by rwa [State.inputOf_bureau]) (by rwa [State.inputOf_bureau])) ?_ rfl
    rw [State.inputOf_bureau]
  case refine_4 =>
    have hfrom : ((s.inputOf (.enroll m cert role)).fromEnroller m && (s.inputOf (.enroll m cert role)).bureau.hasAdmin) = true := by
      rw [State.fromEnroller_of_listens (State.listens_of_hears h), State.inputOf_bureau, Bureau.hasAdmin, hadmin]
      rfl
    refine completes_answer (exec_enroll ..) h rfl hst (if_pos hfrom) ?_ rfl
    rw [State.inputOf_bureau]
  case refine_5 =>
    refine completes_answer (exec_revoke ..) h rfl hst ((State.revoke_of_rest (by rwa [State.inputOf_bureau])).trans
      (if_neg (by simp [hown]))) ?_ ?_
    · simp only [State.inputOf_bureau]
    · simp only [State.inputOf_bureau]
  case refine_6 =>
    refine completes_answer (exec_revoke ..) h rfl hst (State.revoke_of_last (by rwa [State.inputOf_bureau])
      (by rwa [State.inputOf_bureau])) ?_ rfl
    rw [State.inputOf_bureau]
  case refine_7 =>
    refine completes_answer (exec_revoke ..) h rfl hst ((State.revoke_of_rest (by rwa [State.inputOf_bureau])).trans
      (if_pos (by rwa [State.inputOf_bureau]))) ?_ ?_
    · simp only [State.inputOf_bureau]
    · exact ⟨(congrArg Bureau.creds (s.inputOf_bureau (.revoke m hash)) :), List.mem_append_right _ (List.mem_singleton.2 rfl), State.replies_emit ..⟩
  case refine_8 =>
    refine completes_next (exec_joineryKey_of_room h hnode hever hroom) ?_
    have hann := ((s.inputOf (.joineryKey m key)).withKey key).announces_raise .joineryKeyEnrolled .node 0 0 0 0
    refine ⟨(congrArg State.sec hann.rest :).trans ?_, State.replies_emit .., (congrArg State.mem hann.rest :).trans (s.inputOf_mem _), ?_⟩
    · simp only [State.withKey, State.aside, State.inputOf_sec]
    · exact State.eventAt_announced (by rw [State.withKey, State.inputOf_events]) hring rfl _
  case refine_9 =>
    obtain ⟨u, hu⟩ : ∃ u, u = ((s.inputOf (.credReset m)).closeOthers m.session).emptied := ⟨_, rfl⟩
    obtain ⟨hsec, hmem, hring', hcreds, hsessions, hlock⟩ := State.emptied_closeOthers (s := s) hu
    have hopen : u.bureau.sessions.any (·.id == m.session) = true := by
      rw [hsessions, List.any_filter]
      simpa using State.open_of_listens (State.listens_of_hears h)
    have hann := u.announces_raise .credentialsReset .node 0 0 0 0
    obtain ⟨-, -, hids⟩ := u.sameDesk_raise .credentialsReset .node 0 0 0 0
    refine completes_next ((exec_credReset_of_hears h hst).trans (by rw [← hu, State.answer_raise hopen])) ⟨?_, fun x hx => ?_, ?_, ?_,
      fun i hi hne hopen => ?_, State.replies_emit .., State.eventAt_announced hring' hring rfl _⟩
    · exact (congrArg (·.bureau.creds) hann.rest :).trans hcreds
    · obtain ⟨y, hy, hyx⟩ := List.mem_map.1 (hids ▸ List.mem_map.2 ⟨x, hx, rfl⟩ : x.id ∈ u.bureau.sessions.map (·.id))
      rw [hsessions, List.mem_filter, beq_iff_eq] at hy
      exact hyx.symm.trans hy.2
    · exact (congrArg State.sec hann.rest :).trans hsec
    · exact (congrArg State.mem hann.rest :).trans hmem
    · exact (congrArg (·.bureau.lock) hann.rest :).trans (hlock i hi hne hopen)

end Sys2Proof.Machine

/-! Attestation reports, challenges and tokens (chapter 17). -/

namespace Sys2Proof.Machine

/-! ## Taking a token (R619 to R621) -/

section
variable {u : State} {bytes : List Byte}

/-- A change of the debug state keeps the rest of the security state, the debug unit and the open sessions; an unlock marks the
stop record. -/
theorem State.changeDebug_keeps (u : State) (d : DebugState) (e : Ev) : (u.changeDebug d e).sec = { u.sec with debug := d } ∧
    (d = .unlocked → (u.changeDebug d e).power.dbgFlag = true) ∧ (u.changeDebug d e).dbg = u.dbg ∧
    (u.changeDebug d e).bureau.sessions.map (·.id) = u.bureau.sessions.map (·.id) := by
  have hon : (u.changeDebug d e).On (fun _ => True)
      (some { dbg := u.dbg, sessions := u.bureau.sessions.map (·.id), freed := False, marked := d = .unlocked }) := by
    refine State.On.changeDebug (State.on_iff.2 ⟨trivial, ?_⟩) ?_
    · intro k hk
      cases hk
      exact ⟨rfl, rfl, nofun, nofun⟩
    · intro k hk
      cases hk
      rintro rfl
      exact Bool.or_true _
  obtain ⟨hdbg, hsessions, -, hmarked⟩ := (State.on_iff.1 hon).2 _ rfl
  exact ⟨State.sec_changeDebug .., hmarked, hdbg, hsessions⟩

/-- A token that is none, does not verify, or names another node or challenge is rejected. -/
theorem State.takeToken_of_bad (h : ∀ k, Config.coseToken bytes = some k → coseVerifies Config.serviceKeyDigest k.signed k.sig =
    false ∨
    k.serial ≠ u.sec.serial ∨ some k.challenge ≠ u.sec.challenge) : u.takeToken bytes = u.rejectToken := by
  rw [State.takeToken]
  split
  · rfl
  next k hk =>
    refine if_pos ?_
    rcases h k hk with h | h | h
    · simp [h]
    · simp [h]
    · simp [h]

/-- A token that verifies, names this node and its challenge and asks for what is allowed now acts. -/
theorem State.takeToken_of_good {k : TokenFacts} (hk : Config.coseToken bytes = some k)
    (hsig : coseVerifies Config.serviceKeyDigest k.signed k.sig = true) (hserial : k.serial = u.sec.serial)
    (hchal : some k.challenge = u.sec.challenge) (hact : u.actionAllowed k.action = true) : u.takeToken bytes =
      if k.action = 1 then u.unlock
      else ({ u with sec.lifecycle := if k.action = 2 then .deployed else .returned }.raise .lifecycleChanged .node 0 0 0 0,
        .ok) := by
  rw [State.takeToken, hk]
  exact if_neg (by simp [hsig, hserial, hchal, hact])

theorem State.unlock_of_free (h : u.debugBarred = false) : u.unlock = (u.changeDebug .unlocked .debugUnlocked, .ok) := by
  rw [State.unlock, h]
  rfl

theorem State.unlock_of_barred (h : u.debugBarred = true) : u.unlock = (u, .notReady) := if_pos h

@[simp] theorem State.debugBarred_inputOf (s : State) (c : Instr) : (s.inputOf c).debugBarred = s.debugBarred := by
  have hkerf := s.inputOf_bench_kerf c
  rw [State.inputOf_eq]
  simp only [State.debugBarred, hkerf]
  rfl

theorem State.actionAllowed_unlock (hl : u.sec.lifecycle ≠ .manufacture) (hd : u.sec.debug ≠ .unlocked) : u.actionAllowed 1 =
    true := by
  simp [State.actionAllowed, hl, hd]

end

/-! ## TOKEN on a session -/

section
variable {s : State} {m : BureauMsg} {bytes : List Byte}

/-- TOKEN that is heard in its states replies with what taking the token answers. -/
theorem exec_token_of_hears (h : s.hears m .admin 0x15 (bytesBody fun _ => true) bytes = true)
    (hst : s.inStates true true false = true) :
    exec (.token m bytes) s = .next (((s.inputOf (.token m bytes)).takeToken bytes).1.answer m.session m.reqId 0x15
      ((s.inputOf (.token m bytes)).takeToken bytes).2 []) :=
  congrArg Host.Outcome.next (State.bureauRequest_of_hears h rfl hst ..)

/-- A state whose token is answered after an announced change of the security state. -/
theorem completes_tokenAnnounced {v : State} {e : Ev} {st : Status} {c : Instr}
    (h : s.listens m .admin = true) (he : exec c s = .next ((v.raise e .node 0 0 0 0).answer m.session m.reqId 0x15 st []))
    (hbureau : v.bureau = s.bureau) (hring : v.events.ring = s.events.ring) (hmem : v.mem = s.mem) (hpower : v.power = s.power)
    (hroom : s.ringRoom = true) (halert : e.alerts = false) : Completes c s fun t =>
      t.sec = v.sec ∧ t.mem = s.mem ∧ t.power = s.power ∧ t.replies m 0x15 st ∧ t.eventAt s.events.ring.tail = some e.code := by
  have hopen : v.bureau.sessions.any (·.id == m.session) = true := by
    rw [hbureau]
    exact State.open_of_listens h
  have hann := v.announces_raise e .node 0 0 0 0
  refine completes_next (he.trans (by rw [State.answer_raise hopen])) ⟨?_, ?_, ?_, State.replies_emit .., ?_⟩
  · exact (congrArg State.sec hann.rest :)
  · exact (congrArg State.mem hann.rest :).trans hmem
  · exact (congrArg State.power hann.rest :).trans hpower
  · exact State.eventAt_announced hring hroom halert _

section
variable {k : TokenFacts}

/-- A good TOKEN that is heard, of an action that changes the lifecycle. -/
theorem exec_token_of_lifecycle (h : s.hears m .admin 0x15 (bytesBody fun _ => true) bytes = true)
    (hst : s.inStates true true false = true) (hk : Config.coseToken bytes = some k)
    (hsig : coseVerifies Config.serviceKeyDigest k.signed k.sig = true) (hserial : k.serial = s.sec.serial)
    (hchal : some k.challenge = s.sec.challenge) (hact : (s.inputOf (.token m bytes)).actionAllowed k.action = true)
    (hne : k.action ≠ 1) : exec (.token m bytes) s =
      .next (({ s.inputOf (.token m bytes) with sec.lifecycle := if k.action = 2 then .deployed else .returned }.raise
        .lifecycleChanged .node 0 0 0 0).answer m.session m.reqId 0x15 .ok []) := by
  rw [exec_token_of_hears h hst, State.takeToken_of_good hk hsig (by rwa [State.inputOf_sec]) (by rwa [State.inputOf_sec]) hact,
    if_neg hne]

/-- A good TOKEN that is heard, of the action that unlocks debug. -/
theorem exec_token_of_unlock (h : s.hears m .admin 0x15 (bytesBody fun _ => true) bytes = true)
    (hst : s.inStates true true false = true) (hk : Config.coseToken bytes = some k)
    (hsig : coseVerifies Config.serviceKeyDigest k.signed k.sig = true) (hserial : k.serial = s.sec.serial)
    (hchal : some k.challenge = s.sec.challenge) (hact : k.action = 1) (hl : s.sec.lifecycle ≠ .manufacture)
    (hd : s.sec.debug ≠ .unlocked) : exec (.token m bytes) s =
      .next ((s.inputOf (.token m bytes)).unlock.1.answer m.session m.reqId 0x15 (s.inputOf (.token m bytes)).unlock.2 []) := by
  have hallowed : (s.inputOf (.token m bytes)).actionAllowed k.action = true :=
    hact ▸ State.actionAllowed_unlock (by rwa [State.inputOf_sec]) (by rwa [State.inputOf_sec])
  rw [exec_token_of_hears h hst, State.takeToken_of_good hk hsig (by rwa [State.inputOf_sec]) (by rwa [State.inputOf_sec])
    hallowed,
    if_pos hact]

end

/-- An unlock that nothing bars, and the reply to its request. -/
theorem completes_unlocked {u : State} {c : Instr} (h : u.bureau.sessions.any (·.id == m.session) = true)
    (hfree : u.debugBarred = false) (he : exec c s = .next (u.unlock.1.answer m.session m.reqId 0x15 u.unlock.2 [])) :
    Completes c s fun t => t.sec = { u.sec with debug := .unlocked } ∧ t.power.dbgFlag = true ∧ t.replies m 0x15 .ok := by
  obtain ⟨v, hv⟩ : ∃ v, v = u.changeDebug .unlocked .debugUnlocked := ⟨_, rfl⟩
  obtain ⟨hsec, hmark, -, hsessions⟩ := hv ▸ u.changeDebug_keeps .unlocked .debugUnlocked
  rw [any_id, ← hsessions, ← any_id] at h
  rw [State.unlock_of_free hfree, ← hv, State.answer_of_open h] at he
  exact completes_next he ⟨hsec, hmark rfl, State.replies_emit ..⟩

/-- An action that changes the lifecycle does so, and says so. -/
theorem completes_lifecycle {k : TokenFacts} {next : Lifecycle} (h : s.hears m .admin 0x15 (bytesBody fun _ => true) bytes = true)
    (hst : s.inStates true true false = true) (hk : Config.coseToken bytes = some k)
    (hsig : coseVerifies Config.serviceKeyDigest k.signed k.sig = true) (hserial : k.serial = s.sec.serial)
    (hchal : some k.challenge = s.sec.challenge) (hact : (s.inputOf (.token m bytes)).actionAllowed k.action = true)
    (hroom : s.ringRoom = true) (hne : k.action ≠ 1) (hnext : (if k.action = 2 then Lifecycle.deployed else .returned) = next) :
    Completes (.token m bytes) s fun t => t.sec = { s.sec with lifecycle := next } ∧ t.mem = s.mem ∧ t.power = s.power ∧
      t.replies m 0x15 .ok ∧ t.eventAt s.events.ring.tail = some Ev.lifecycleChanged.code := by
  have he := exec_token_of_lifecycle h hst hk hsig hserial hchal hact hne
  rw [hnext] at he
  obtain ⟨t, ht, hsec, hrest⟩ := completes_tokenAnnounced (State.listens_of_hears h) he (s.inputOf_bureau _)
    (by simp only [State.inputOf_events]) (s.inputOf_mem _) (s.inputOf_power _) hroom rfl
  exact ⟨t, ht, hsec.trans (by simp only [State.inputOf_sec]), hrest⟩

end

/-! ## REPORT_SIGNED (R616, R617) -/

section
variable {s : State} {sig : List Byte} {r : ReportReq} {rest : List ReportReq}

/-- The state in which the report of the oldest request is made. -/
def State.reporting (s : State) (sig : List Byte) (rest : List ReportReq) : State :=
    { s.inputOf (.reportSigned sig) with sec.reports := rest }

theorem exec_reportSigned_of_host (hr : s.sec.reports = r :: rest) (hmay : s.mayReport = true) (hgo : s.inputsGo = true)
    (hby : r.by_ = .host) : exec (.reportSigned sig) s =
      .next { s.reporting sig rest with
        host.report := (s.reporting sig rest).signedReport r sig
        host.attBusy := false
        host.attStatus := Status.ok.code }.busyFell := by
  change execReportSigned sig s = _
  rw [execReportSigned, hr]
  dsimp only
  rw [if_neg (by simp [hmay]), State.deliver_of_go _ _ hgo, hby]
  rfl

theorem exec_reportSigned_of_session {i q : Nat} (hr : s.sec.reports = r :: rest) (hmay : s.mayReport = true)
    (hgo : s.inputsGo = true)
    (hby : r.by_ = .session i q) : exec (.reportSigned sig) s =
      .next ((s.reporting sig rest).answer i q 0x05 .ok [(1, cborBytes ((s.reporting sig rest).signedReport r sig))]) := by
  change execReportSigned sig s = _
  rw [execReportSigned, hr]
  dsimp only
  rw [if_neg (by simp [hmay]), State.deliver_of_go _ _ hgo, hby]
  rfl

/-- The state without the waiting report request of an endpoint. -/
def State.unasked (s : State) (q : Req) : State :=
  { s with fabric.parked := s.fabric.parked.filter fun x => !(match x with | .attest y _ => y == q | _ => false) }

/-- Whether an endpoint still waits for the report of its request. -/
def State.awaits (s : State) (q : Req) : Bool :=
  s.fabric.parked.any fun x => match x with | .attest y l => y == q && l | _ => false

theorem exec_reportSigned_of_fabric {q : Req} (hr : s.sec.reports = r :: rest) (hmay : s.mayReport = true)
    (hgo : s.inputsGo = true)
    (hby : r.by_ = .fabric q) : exec (.reportSigned sig) s = .next (if s.awaits q then
      (((s.reporting sig rest).unasked q).respond 0x40 q
        { status := .ok, data := (s.reporting sig rest).signedReport r sig }).afterFlit q.port.val
      else (s.reporting sig rest).unasked q) := by
  have hparked : (s.reporting sig rest).awaits q = s.awaits q := by
    rw [State.awaits, State.reporting]
    simp only [State.inputOf_fabric]
    rfl
  rw [← hparked]
  change execReportSigned sig s = _
  rw [execReportSigned, hr]
  dsimp only
  rw [if_neg (by simp [hmay]), State.deliver_of_go _ _ hgo, hby]
  rfl

theorem State.awaits_of_mem {q : Req} (h : .attest q true ∈ s.fabric.parked) : s.awaits q = true :=
  List.any_eq_true.2 ⟨_, h, by simp⟩

/-- A port with a session that nothing is about to end sends the answer, or holds it for credit. -/
theorem State.sends_answered {op : Nat} {q : Req} {x : Reply} (hl : x.later = false) (hs : (s.port q.port.val).hasSession = true)
    (ho : (s.port q.port.val).openEnded = true) : ((s.respond op q x).afterFlit q.port.val).sends q.port.val
      (responseTo op q x) :=
  sends_settleServed (x := (s, some x)) rfl hl hs ho

theorem State.sec_busyFell (s : State) : s.busyFell.sec = s.sec ∧ s.busyFell.mem = s.mem ∧ s.busyFell.host = s.host := by
  unfold State.busyFell State.msix
  repeat' split
  all_goals exact ⟨rfl, rfl, rfl⟩

theorem State.port_reporting (p : Nat) : ((s.reporting sig rest).port p) = s.port p := by
  rw [State.reporting, State.inputOf_eq]
  rfl

/-- What an answer to an endpoint leaves of the security state and the memory. -/
theorem State.sec_answered (s : State) (op : Nat) (q : Req) (x : Reply) (p : Nat) :
    ((s.respond op q x).afterFlit p).sec = s.sec ∧ ((s.respond op q x).afterFlit p).mem = s.mem := by
  obtain ⟨⟨-, -, -, hsec, -⟩, hmem, -⟩ := (State.undisturbed_respond s op q x).trans (State.undisturbed_afterFlit _ p)
  exact ⟨hsec, hmem⟩

/-- The report of the oldest request goes to the one that asked for it. -/
theorem completes_reportSigned {b : List Byte} (hr : s.sec.reports = r :: rest) (hmay : s.mayReport = true)
    (hgo : s.inputsGo = true)
    (hb : b = (s.reporting sig rest).signedReport r sig)
    (hport : ∀ q, r.by_ = .fabric q → (s.port q.port.val).openEnded = true) : Completes (.reportSigned sig) s fun t =>
    t.sec.reports = rest ∧ t.mem = s.mem ∧ (r.by_ = .host → t.host.attBusy = false ∧ t.host.report = b) ∧
    (∀ i q, r.by_ = .session i q → (s.bureau.sessions.any (·.id == i)) = true → replyTo i q 0x05 .ok [(1, cborBytes b)] ∈ t.out) ∧
    (∀ q, r.by_ = .fabric q → .attest q true ∈ s.fabric.parked → (s.port q.port.val).hasSession = true →
      t.sends q.port.val (responseTo 0x40 q { status := .ok, data := b })) := by
  have hmem : (s.reporting sig rest).mem = s.mem := s.inputOf_mem _
  cases hby : r.by_ with
  | host =>
    obtain ⟨hsec, hmem', hhost⟩ := State.sec_busyFell { s.reporting sig rest with
      host.report := (s.reporting sig rest).signedReport r sig
      host.attBusy := false
      host.attStatus := Status.ok.code }
    refine completes_next (exec_reportSigned_of_host hr hmay hgo hby) ⟨?_, hmem'.trans hmem, fun _ => ?_, nofun, nofun⟩
    · rw [hsec]
      rfl
    · rw [hhost, hb]
      exact ⟨rfl, rfl⟩
  | session i q =>
    refine completes_next (exec_reportSigned_of_session hr hmay hgo hby) ?_
    rw [← hb]
    by_cases hopen : s.bureau.sessions.any (·.id == i) = true
    · rw [State.answer_of_open (by simpa only [State.reporting, State.inputOf_bureau] using hopen)]
      refine ⟨rfl, hmem, nofun, fun j p hj _ => ?_, nofun⟩
      cases hj
      exact List.mem_append_right _ (List.mem_singleton.2 rfl)
    · rw [State.answer, if_neg (by simpa only [State.reporting, State.inputOf_bureau] using hopen)]
      refine ⟨rfl, hmem, nofun, fun j p hj ho => ?_, nofun⟩
      cases hj
      exact absurd ho hopen
  | fabric q =>
    refine completes_next (exec_reportSigned_of_fabric hr hmay hgo hby) ?_
    rw [← hb]
    obtain ⟨u, hu⟩ : ∃ u, u = (s.reporting sig rest).unasked q := ⟨_, rfl⟩
    have hp : u.port q.port.val = s.port q.port.val := by
      rw [hu]
      exact State.port_reporting (sig := sig) (rest := rest) _
    have hrest : u.sec.reports = rest := by
      rw [hu]
      rfl
    have hmemU : u.mem = s.mem := by
      rw [hu]
      exact hmem
    rw [← hu]
    obtain ⟨hsec, hmem'⟩ := u.sec_answered 0x40 q { status := .ok, data := b } q.port.val
    by_cases hasks : s.awaits q = true
    · rw [if_pos hasks]
      refine ⟨(congrArg Security.reports hsec).trans hrest, hmem'.trans hmemU, nofun, nofun, fun q' hq' _ hs => ?_⟩
      cases hq'
      exact State.sends_answered rfl (by rwa [hp]) (by rw [hp]; exact hport _ hby)
    · rw [if_neg hasks]
      refine ⟨hrest, hmemU, nofun, nofun, fun q' hq' hmem _ => ?_⟩
      cases hq'
      exact absurd (State.awaits_of_mem hmem) hasks

end

/-- Settles O45: each request acts in the state in which it is heard; a report goes to the one that asked for it. -/
theorem challengesTokensAndReportsAreServed : Obligations.ChallengesTokensAndReportsAreServed := by
  refine ⟨fun s m random h hst => ?_, fun s hgo => ?_, fun s m r nonce scope ids h hst => ?_,
    fun s sig r rest b hr hmay hgo hb hport => ?_, fun s m bytes h hst hroom hbad => ?_,
    fun s m bytes k h hst hroom hk hsig hserial hchal => ⟨fun hact hlife => ?_, fun hact hlife hnode => ?_,
      fun hact hlife hdebug hfree => ?_, fun hact hlife hdebug hbar => ?_⟩⟩
  case refine_1 => exact completes_answer rfl h rfl hst rfl (by simp only [State.inputOf_bureau]) rfl
  case refine_2 => exact completes_next rfl (State.deliver_of_go _ _ hgo)
  case refine_3 =>
    refine completes_next rfl ((State.bureauRequest_of_hears h rfl hst ..).trans ?_)
    simp only [State.inputOf_sec]
  case refine_4 => exact completes_reportSigned hr hmay hgo hb hport
  case refine_5 =>
    have he := exec_token_of_hears h hst
    rw [State.takeToken_of_bad (by simpa only [State.inputOf_sec] using hbad)] at he
    obtain ⟨t, ht, hsec, hrest⟩ := completes_tokenAnnounced (State.listens_of_hears h) he (s.inputOf_bureau _)
      (by simp only [State.inputOf_events]) (s.inputOf_mem _) (s.inputOf_power _) hroom rfl
    exact ⟨t, ht, hsec.trans (s.inputOf_sec _), hrest⟩
  case refine_6 =>
    have hallowed : (s.inputOf (.token m bytes)).actionAllowed k.action = true := by simp [State.actionAllowed, hact, hlife]
    obtain ⟨t, ht, hsec, hmem, -, hreply, hevent⟩ :=
      completes_lifecycle h hst hk hsig hserial hchal hallowed hroom (by omega) (if_pos hact)
    exact ⟨t, ht, hsec, hreply, hmem, hevent⟩
  case refine_7 =>
    have hallowed : (s.inputOf (.token m bytes)).actionAllowed k.action = true := by
      simp [State.actionAllowed, hact, hlife, State.isIn, hnode]
    obtain ⟨t, ht, hsec, hmem, -, hreply, -⟩ :=
      completes_lifecycle h hst hk hsig hserial hchal hallowed hroom (by omega) (if_neg (by omega))
    exact ⟨t, ht, hsec, hreply, hmem⟩
  case refine_8 =>
    obtain ⟨t, ht, hsec, hmark, hreply⟩ := completes_unlocked (State.open_inputOf (State.listens_of_hears h))
      (by rwa [State.debugBarred_inputOf]) (exec_token_of_unlock h hst hk hsig hserial hchal hact hlife hdebug)
    rw [State.inputOf_sec] at hsec
    exact ⟨t, ht, by rw [hsec], hmark, by rw [hsec], hreply⟩
  case refine_9 =>
    refine completes_next (exec_token_of_unlock h hst hk hsig hserial hchal hact hlife hdebug) ?_
    rw [State.unlock_of_barred (by rwa [State.debugBarred_inputOf]), State.answer_of_open
      (State.open_inputOf (State.listens_of_hears h))]

end Sys2Proof.Machine

/-! The debug commands on registers, the challenge, tokens and the relock (R697 to R703). -/

namespace Sys2Proof.Machine

/-! ## REG_READ and REG_WRITE (R697, R698) -/

section
variable {s u : State}

/-- A read of an aligned offset of BAR0 that the debug state permits answers the inspected value. -/
theorem State.regRead_of_open (halign : u.dbg.addr.toNat % 8 = 0) (hrange : u.dbg.addr.toNat < bar0Size)
    (hopen : u.sec.debug = .unlocked ∨ inBlock u.dbg.addr.toNat = true) :
    u.regRead = u.dbgDone .ok (BitVec.ofNat 64 (u.inspect u.dbg.addr.toNat)) := by
  rw [State.regRead, if_neg (by simpa using halign), if_neg (Nat.not_le.2 hrange), if_neg]
  rcases hopen with h | h
  · simp [h]
  · simp [h]

/-- SYNC_OPERAND takes the value that an 8-byte write brings. -/
theorem State.writeServed_operand (hup : u.regsUp = true) (v : W64) :
    u.writeServed 0x1308 8 v = { u with host.operand := v } := by
  rw [State.writeServed_fit (State.serves_of_inBlock hup rfl) rfl (.inr ⟨rfl, rfl⟩),
    State.writeReg_field (base := 0x1308) rfl (by decide) (by simp [State.writeCommand]) (by decide)]
  simp [State.setReg, mergeWrite]

theorem exec_regWrite_operand (h : s.obeys 0x02 = true) (haddr : s.dbg.addr = 0x1308) (hup : s.regsUp = true) :
    exec .regWrite s = .next ({ s.inputOf .regWrite with host.operand := s.dbg.data }.dbgDone .ok s.dbg.data) := by
  have haddr' : (s.inputOf .regWrite).dbg.addr.toNat = 0x1308 := by
    rw [State.inputOf_dbg, haddr]
    rfl
  change execRegWrite s = _
  rw [execRegWrite, State.dbgRow_of_obeys h]
  dsimp only
  rw [haddr', if_neg (by decide), if_neg (by decide), State.writeServed_operand (by simpa using hup), State.inputOf_dbg]

end

/-! ## CHALLENGE, CHAL_READ and TOKEN_LOAD (Table 21–3) -/

section
variable {s : State}

theorem exec_dbgChallenge_of_commands (h : s.commands 0x03 = true) (random : List Byte) : exec (.dbgChallenge random) s =
    .next ({ s.inputOf (.dbgChallenge random) with sec.challenge := some (sub random 0 32) }.dbgDone .ok
      (s.inputOf (.dbgChallenge random)).dbg.data) := by
  change execDbgChallenge random s = _
  rw [execDbgChallenge, State.dbgRow_of_commands h]

theorem exec_chalRead_of_valid {c : List Byte} (h : s.commands 0x04 = true) (halign : s.dbg.addr.toNat % 8 = 0)
    (hrange : s.dbg.addr.toNat ≤ 24) (hc : s.sec.challenge = some c) : exec .chalRead s =
      .next ((s.inputOf .chalRead).dbgDone .ok (BitVec.ofNat 64 (field c s.dbg.addr.toNat 8))) := by
  change execChalRead s = _
  rw [execChalRead, State.dbgRow_of_commands h]
  dsimp only
  rw [State.inputOf_dbg, State.inputOf_sec, hc, if_neg (by omega)]

theorem exec_tokenLoad_of_fit (h : s.commands 0x05 = true) (hrange : s.dbg.addr.toNat + 8 ≤ 1024) : exec .tokenLoad s =
    .next ({ s.inputOf .tokenLoad with
      dbg.buf := FMap.setRun 0 s.dbg.buf s.dbg.addr.toNat (leBytes 8 s.dbg.data.toNat) }.dbgDone .ok s.dbg.data) := by
  change execTokenLoad s = _
  rw [execTokenLoad, State.dbgRow_of_commands h]
  dsimp only
  rw [State.inputOf_dbg, if_neg (by omega)]

/-! ## TOKEN_SUBMIT (R702) -/

/-- What TOKEN_SUBMIT takes: no bytes unlock a node in manufacture; otherwise the first bytes of the buffer are a token. -/
def State.submitToken (u : State) : State × Status :=
  if bits u.dbg.data.toNat 10 0 = 0 ∧ u.sec.lifecycle = .manufacture then
    (if u.sec.debug = .unlocked then u.rejectToken else u.unlock)
  else if bits u.dbg.data.toNat 10 0 = 0 then u.rejectToken
  else u.takeToken (FMap.getRun u.dbg.buf 0 0 (min (bits u.dbg.data.toNat 10 0) 1024))

/-- TOKEN_SUBMIT of the length that waits acts at once where it is served. -/
theorem exec_tokenSubmit_of_commands (h : s.commands 0x06 = true) : exec (.tokenSubmit s.dbg.data) s =
    .next ((s.inputOf (.tokenSubmit s.dbg.data)).submitToken.1.dbgDone (s.inputOf (.tokenSubmit s.dbg.data)).submitToken.2
      (s.inputOf (.tokenSubmit s.dbg.data)).dbg.data) := by
  change execTokenSubmit s.dbg.data s = _
  rw [execTokenSubmit, if_neg (by simp), State.dbgRow_of_commands h]
  rfl

theorem State.submitToken_of_none {u : State} (hn : bits u.dbg.data.toNat 10 0 = 0) (hl : u.sec.lifecycle = .manufacture)
    (hd : u.sec.debug ≠ .unlocked) : u.submitToken = u.unlock := by
  rw [State.submitToken, if_pos ⟨hn, hl⟩, if_neg hd]

theorem State.submitToken_of_token {u : State} (hn : bits u.dbg.data.toNat 10 0 ≠ 0) :
    u.submitToken = u.takeToken (FMap.getRun u.dbg.buf 0 0 (min (bits u.dbg.data.toNat 10 0) 1024)) := by
  rw [State.submitToken, if_neg (fun h => hn h.1), if_neg hn]

/-- A submission that unlocks debug. -/
theorem completes_submitUnlocks (h : s.commands 0x06 = true) (hfree : s.debugBarred = false)
    (hu : (s.inputOf (.tokenSubmit s.dbg.data)).submitToken = (s.inputOf (.tokenSubmit s.dbg.data)).unlock) :
    Completes (.tokenSubmit s.dbg.data) s fun t => t.dbg.busy = false ∧ t.dbg.status = .ok ∧
      t.sec = { s.sec with debug := .unlocked } ∧ t.power.dbgFlag = true := by
  obtain ⟨v, hv⟩ : ∃ v, v = (s.inputOf (.tokenSubmit s.dbg.data)).changeDebug .unlocked .debugUnlocked := ⟨_, rfl⟩
  obtain ⟨hsec, hmark, -, -⟩ := hv ▸ (s.inputOf (.tokenSubmit s.dbg.data)).changeDebug_keeps .unlocked .debugUnlocked
  have he := exec_tokenSubmit_of_commands h
  rw [hu, State.unlock_of_free (by rwa [State.debugBarred_inputOf]), ← hv] at he
  rw [State.inputOf_sec] at hsec
  exact completes_next he ⟨rfl, rfl, hsec, hmark rfl⟩

end

/-! ## RELOCK (R703) -/

section
variable {s : State}

/-- The debug unit with no engine halted. -/
def Debug.freed (d : Debug) : Debug := { d with engHalt := [], engReq := [] }

/-- The desk of a state with every halt released. -/
def State.freedDesk (s : State) : Desk :=
  { dbg := s.dbg.freed, sessions := s.bureau.sessions.map (·.id), freed := True, marked := False }

/-- The release leaves no halt, and the open sessions as they are. -/
theorem State.at_releaseHalts (s : State) : s.releaseHalts.On (fun _ => True) (some s.freedDesk) := by
  unfold State.releaseHalts
  refine State.On.foldl (fun _ _ hu => .reelect hu) (State.on_iff.2 ⟨trivial, fun k hk => ?_⟩)
  cases hk
  refine ⟨rfl, rfl, fun _ n => ?_, nofun⟩
  refine FMap.get_of_forall (P := fun c : Ctx => c.halts = (false, false, false)) (fun e he => ?_) rfl n
  obtain ⟨x, -, rfl⟩ := List.mem_map.1 (List.mem_filter.1 he).1
  rfl

/-- A relock that nothing bars locks debug until the next power-up and leaves no halt. -/
theorem State.relock_of_free (h : s.debugBarred = false) : s.relock.2 = .ok ∧
    s.relock.1.sec = { s.sec with debug := .unlockedSincePower } ∧ s.relock.1.dbg = s.dbg.freed ∧
    ∀ n, (s.relock.1.ctx n).halted = false := by
  obtain ⟨u, hu⟩ : ∃ u, u = s.releaseHalts := ⟨_, rfl⟩
  have hsec : u.sec = s.sec := hu ▸ State.On.releaseHalts (Q := fun x => x.2.2.1 = s.sec) rfl
  have hon := State.On.changeDebug (d := .unlockedSincePower) (e := .debugRelocked) (Q := fun _ => True)
    (K := some s.freedDesk) (hu ▸ s.at_releaseHalts) fun k hk hm => by
      cases hk
      exact hm.elim
  have he : s.relock = (u.changeDebug .unlockedSincePower .debugRelocked, .ok) := by
    rw [State.relock, h, hu]
    rfl
  have hsec' := u.sec_changeDebug .unlockedSincePower .debugRelocked
  obtain ⟨v, hv⟩ : ∃ v, v = u.changeDebug .unlockedSincePower .debugRelocked := ⟨_, rfl⟩
  rw [← hv] at hon he hsec'
  obtain ⟨hdbg, -, hfreed, -⟩ := (State.on_iff.1 hon).2 _ rfl
  rw [he]
  refine ⟨rfl, hsec'.trans (by rw [hsec]), hdbg, fun n => ?_⟩
  exact congrArg Prod.fst (hfreed trivial n)

theorem exec_relock_of_obeys (h : s.obeys 0x07 = true) : exec .relock s =
    .next ((s.inputOf .relock).relock.1.dbgDone (s.inputOf .relock).relock.2 (s.inputOf .relock).dbg.data) := by
  change execRelock s = _
  rw [execRelock, State.dbgRow_of_obeys h]

end

/-- Settles O52: each command acts at once where it is served; a change of the debug state keeps what it does not name. -/
theorem debugRegistersTokensAndRelockAct : Obligations.DebugRegistersTokensAndRelockAct := by
  refine ⟨fun s a h ha halign hrange hopen => ?_, fun s h haddr hup => ?_, fun s random h => ?_, fun s c h halign hrange hc => ?_,
    fun s h hrange => ?_, fun s bytes h hn hbytes hbad => ?_, fun s h hn hl hd hfree => ?_,
    fun s bytes k h hn hbytes hk hsig hserial hchal hact hl hd hfree => ?_, fun s h hfree => ?_, fun s h hbar => ?_⟩
  case refine_1 =>
    subst ha
    have hdbg := s.inputOf_dbg .regRead
    refine completes_next (execRegRead_of_commands h) ?_
    rw [State.regRead_of_open (by rwa [hdbg]) (by rwa [hdbg]) (by rwa [hdbg, State.inputOf_sec]), hdbg]
    simp only [State.dbgDone, hdbg]
  case refine_2 =>
    refine completes_next (exec_regWrite_operand h haddr hup) ?_
    simp only [State.dbgDone, State.inputOf_dbg]
  case refine_3 =>
    refine completes_next (exec_dbgChallenge_of_commands h random) ?_
    rfl
  case refine_4 =>
    refine completes_next (exec_chalRead_of_valid h halign hrange hc) ?_
    rfl
  case refine_5 =>
    refine completes_next (exec_tokenLoad_of_fit h hrange) ?_
    simp only [State.dbgDone, State.inputOf_dbg]
  case refine_6 =>
    have he := exec_tokenSubmit_of_commands h
    have hdbg := s.inputOf_dbg (.tokenSubmit s.dbg.data)
    rw [State.submitToken_of_token (by rwa [hdbg]), hdbg, ← hbytes,
      State.takeToken_of_bad (by simpa only [State.inputOf_sec] using hbad)] at he
    have hann := (s.inputOf (.tokenSubmit s.dbg.data)).announces_raise .tokenRejected .node 0 0 0 0
    exact completes_next he ⟨rfl, rfl, (congrArg State.sec hann.rest :).trans (s.inputOf_sec _),
      (congrArg State.mem hann.rest :).trans (s.inputOf_mem _)⟩
  case refine_7 =>
    refine completes_submitUnlocks h hfree (State.submitToken_of_none ?_ ?_ ?_)
    · rwa [State.inputOf_dbg]
    · rwa [State.inputOf_sec]
    · rwa [State.inputOf_sec]
  case refine_8 =>
    have hdbg := s.inputOf_dbg (.tokenSubmit s.dbg.data)
    have hallowed : (s.inputOf (.tokenSubmit s.dbg.data)).actionAllowed k.action = true :=
      hact ▸ State.actionAllowed_unlock (by rwa [State.inputOf_sec]) (by rwa [State.inputOf_sec])
    refine completes_submitUnlocks h hfree ?_
    rw [State.submitToken_of_token (by rwa [hdbg]), hdbg, ← hbytes, State.takeToken_of_good hk hsig (by rwa [State.inputOf_sec])
      (by rwa [State.inputOf_sec]) hallowed, if_pos hact]
  case refine_9 =>
    obtain ⟨hst, hsec, hdbg, hhalts⟩ := State.relock_of_free (s := s.inputOf .relock) (by rwa [State.debugBarred_inputOf])
    have he := exec_relock_of_obeys h
    rw [hst] at he
    rw [State.inputOf_sec] at hsec
    exact completes_next he ⟨hsec, rfl, rfl, (congrArg Debug.engHalt hdbg :), (congrArg Debug.engReq hdbg :), hhalts⟩
  case refine_10 =>
    have hb : (s.inputOf .relock).relock = (s.inputOf .relock, .notReady) := if_pos (by rwa [State.debugBarred_inputOf])
    have he := exec_relock_of_obeys h
    rw [hb] at he
    refine completes_next he ?_
    rfl

end Sys2Proof.Machine

/-! What reading and writing stored lines leaves of the engines (R371, R373, R574): all but the memory and its records, or, where an
SP1 loses its stack, a node without work. -/

namespace Sys2Proof.Machine

/-- The state with all that storing, and announcing what it finds, touches left out. -/
def State.sansStore (s : State) : State :=
  { s.aside with mem := [], dram := {}, hold := { s.hold with snapshots := [], kept := [] } }

/-- No queue, context or request is left. -/
def State.Workless (s : State) : Prop := s.queues = [] ∧ s.ctxs = [] ∧ s.fabric = {}

/-- `t` is `s` after operations on stored lines: all but the store is as it was, or an SP1 has lost its stack. -/
def State.Stores (s t : State) : Prop := t.sansStore = s.sansStore ∨ (s.power.part = .sp1 ∧ t.Workless)

section
variable {s t u : State}

theorem State.Stores.refl (s : State) : s.Stores s := .inl rfl

theorem State.Workless.of_sansStore (h : t.sansStore = s.sansStore) (hs : s.Workless) : t.Workless := by
  obtain ⟨hqueues, hctxs, hfabric⟩ := hs
  exact ⟨(congrArg State.queues h :).trans hqueues, (congrArg State.ctxs h :).trans hctxs, (congrArg State.fabric h :).trans
    hfabric⟩

theorem State.Stores.trans (h : s.Stores t) (k : t.Stores u) : s.Stores u := by
  rcases h with h | ⟨hs, hw⟩
  · rcases k with k | ⟨ht, hw⟩
    · exact .inl (k.trans h)
    · exact .inr ⟨(congrArg (·.power.part) h :).symm.trans ht, hw⟩
  · rcases k with k | ⟨-, kw⟩
    · exact .inr ⟨hs, hw.of_sansStore k⟩
    · exact .inr ⟨hs, kw⟩

theorem State.Announces.stores (h : s.Announces t) : s.Stores t :=
  .inl (congrArg (fun u : State => { u with mem := [], dram := {}, hold := { u.hold with snapshots := [], kept := [] } }) h.rest
    :)

theorem State.Stores.ite {c : Prop} [Decidable c] (h : s.Stores t) (k : s.Stores u) : s.Stores (if c then t else u) := by
  split
  · exact h
  · exact k

theorem State.Stores.of_foldl {α : Type} {g : State → α → State} (h : ∀ (u : State) (x : α), u.Stores (g u x)) (l : List α)
    (s : State) : s.Stores (l.foldl g s) :=
  foldl_holds (s.Stores ·) g (fun u x hu => hu.trans (h u x)) l s (.refl s)

theorem State.Stores.of_eq {α : Type} {x : State × α} {y : α} (h : s.Stores x.1) (e : x = (t, y)) : s.Stores t := by
  rw [e] at h
  exact h

/-- No request waits where none waited. -/
theorem State.Stores.parked (h : s.Stores t) (hs : s.fabric.parked = []) : t.fabric.parked = [] := by
  rcases h with h | ⟨-, -, -, hw⟩
  · exact (congrArg (·.fabric.parked) h :).trans hs
  · rw [hw]

end

/-! ## Operations on lines -/

section
variable (s : State)

/-- A change of the store alone. -/
theorem State.stores_store (m : List Host.Cell) (d : Dram) : s.Stores { s with mem := m, dram := d } := .inl rfl

theorem State.stores_memEvent (e : Ev) (stack flags d sym1 sym2 blk line spare last : Nat) :
    s.Stores (s.memEvent e stack flags d sym1 sym2 blk line spare last) := (s.announces_memEvent ..).stores

theorem State.stores_updStk (n : Nat) (f : Stack → Stack) : s.Stores (s.updStk n f) := s.stores_store ..

theorem State.stores_countErr (stack i : Nat) : s.Stores (s.countErr stack i) := s.stores_updStk ..

theorem State.stores_advise (stack blk line d : Nat) : s.Stores (s.advise stack blk line d) := by
  unfold State.advise
  extract_lets _ s1 s2 _ _
  have h1 : s.Stores s1 := s.stores_store s.mem _
  have h2 : s.Stores s2 := h1.trans (s1.stores_memEvent ..)
  exact .ite (.refl s) (.ite (h2.trans (.trans (s2.stores_store s2.mem _) (State.stores_memEvent ..))) h2)

theorem State.stores_noteHard (stack blk line d : Nat) : s.Stores (s.noteHard stack blk line d) := by
  unfold State.noteHard
  extract_lets _ s1
  have h1 : s.Stores s1 := s.stores_store s.mem _
  exact .ite (h1.trans (s1.stores_advise ..)) h1

theorem State.stores_degrade (d stack : Nat) : s.Stores (s.degrade d stack) :=
  .ite (.refl s) (.trans (.inl rfl) (State.stores_memEvent ..))

theorem State.stores_busyFell : s.Stores s.busyFell := s.announces_busyFell.stores

theorem State.stores_answer (i r kind : Nat) (st : Status) (body : Body) : s.Stores (s.answer i r kind st body) :=
  (s.announces_answer ..).stores

theorem State.workless_enterFailed (code : Nat) (why : String) : (s.enterFailed code why).Workless := ⟨rfl, rfl, rfl⟩

/-- The loss of a stack takes an SP1 to FAILED, and another part's records alone. -/
theorem State.stores_loseStack (n : Nat) : s.Stores (s.loseStack n) := by
  unfold State.loseStack
  extract_lets held s1 s2 gone _ _ s3 s4
  have h1 : s.Stores s1 := .trans (s.stores_updStk n _) (State.announces_raise ..).stores
  have h2 : s1.Stores s2 := .of_foldl (fun u (x : DrawerRec) => u.stores_degrade x.id n) _ s1
  have h3 : s2.Stores s3 := .inl rfl
  have h4 : s3.Stores s4 := .of_foldl (fun u j => by
    dsimp only
    split
    · exact u.stores_answer ..
    · exact .trans (.inl rfl) (State.stores_busyFell _)) _ s3
  refine .ite (.refl s) ?_
  split
  next hpart => exact .inr ⟨hpart, s4.workless_enterFailed ..⟩
  next => exact h1.trans (h2.trans (h3.trans (h4.trans (.inl rfl))))

theorem State.stores_notePoison (stack blk : Nat) : s.Stores (s.notePoison stack blk) := by
  unfold State.notePoison
  extract_lets log _ s1
  have h1 : s.Stores s1 := s.stores_store s.mem _
  exact .ite (h1.trans (s1.stores_loseStack _)) h1

theorem State.stores_damageAt (stack pl : Nat) : s.Stores (s.damageAt stack pl).1 := by
  unfold State.damageAt
  repeat' split
  all_goals exact .inl rfl

theorem State.stores_codeAt (stack pl : Nat) : s.Stores (s.codeAt stack pl).1 := by
  unfold State.codeAt
  split
  · split
    · exact s.stores_updStk ..
    · exact s.stores_damageAt ..
  · split
    · exact s.stores_updStk ..
    · exact s.stores_damageAt ..
  · exact s.stores_damageAt ..

theorem State.stores_recordCheck (flags stack pl d off : Nat) (inj : Bool) (x : Check) :
    s.Stores (s.recordCheck flags stack pl d off inj x) := by
  cases x with
  | clean => exact .refl s
  | transient => exact s.stores_countErr ..
  | lasting a b => exact (s.stores_countErr ..).trans (.trans (State.stores_memEvent ..) (State.stores_noteHard ..))
  | ueTransient a b => exact (s.stores_countErr ..).trans (State.stores_memEvent ..)
  | bad a b => exact .refl s

theorem State.stores_recordPoison (flags stack pl d off : Nat) (inj : Bool) (a b : Nat) :
    s.Stores (s.recordPoison flags stack pl d off inj a b) := by
  unfold State.recordPoison
  extract_lets s1
  have h1 : s.Stores s1 := (s.stores_countErr ..).trans (.trans (State.stores_memEvent ..) (State.stores_advise ..))
  exact .ite h1 (h1.trans (s1.stores_notePoison ..))

theorem State.stores_storeLine (d l : Nat) (data : List Byte) : s.Stores (s.storeLine d l data) := s.stores_store ..

theorem State.stores_poisonLine (d l : Nat) : s.Stores (s.poisonLine d l) := by
  unfold State.poisonLine
  extract_lets s1
  have h1 : s.Stores s1 := s.stores_storeLine ..
  exact h1.trans (s1.stores_store s1.mem _)

theorem State.stores_readFrom (flags d l : Nat) (places : List (Nat × Nat)) : s.Stores (s.readFrom flags d l places).1 := by
  unfold State.readFrom
  split
  · exact .refl s
  next stack phys rest =>
    split
    · exact .refl s
    · extract_lets pl data
      split
      next s1 a b inj he =>
        have h1 : s.Stores s1 := .of_eq (s.stores_codeAt ..) he
        split
        · exact h1.trans (.trans (s1.stores_poisonLine d l) (State.stores_recordPoison ..))
        next stack2 phys2 _ =>
          extract_lets pl2
          split
          next s2 a2 b2 inj2 he2 =>
            have h2 : s1.Stores s2 := .of_eq (s1.stores_codeAt ..) he2
            exact h1.trans (h2.trans (.trans (s2.stores_poisonLine d l)
              (.trans (State.stores_recordPoison ..) (State.stores_recordPoison ..))))
          next s2 c2 inj2 _ he2 =>
            have h2 : s1.Stores s2 := .of_eq (s1.stores_codeAt ..) he2
            exact h1.trans (h2.trans (.trans (State.stores_recordCheck ..)
              (.trans (State.stores_countErr ..) (State.stores_memEvent ..))))
      next s1 c inj _ he =>
        have h1 : s.Stores s1 := .of_eq (s.stores_codeAt ..) he
        exact h1.trans (State.stores_recordCheck ..)

theorem State.stores_readLine (flags d l : Nat) : s.Stores (s.readLine flags d l).1 := s.stores_readFrom ..

theorem State.stores_storeCells (stack pl : Nat) : s.Stores (s.storeCells stack pl) := by
  unfold State.storeCells
  dsimp only
  repeat' split
  all_goals exact .inl rfl

theorem State.stores_writeLine (d l at_ : Nat) (data : List Byte) : s.Stores (s.writeLine d l at_ data).1 := by
  unfold State.writeLine
  extract_lets places cells
  have hcells : ∀ (u : State) (bytes : List Byte), u.Stores (cells (u.storeLine d l bytes)) := fun u bytes =>
    .trans (u.stores_storeLine d l bytes) (.of_foldl (fun v (x : Nat × Nat) => v.stores_storeCells ..) _ _)
  split
  · exact .refl s
  · split
    · exact hcells s data
    · split
      next s1 r he =>
        have h1 : s.Stores s1 := .of_eq (s.stores_readLine ..) he
        split
        · exact h1
        · exact h1.trans (hcells s1 _)

/-! ## Ranges -/

theorem State.stores_readRange (d off n : Nat) : s.Stores (s.readRange d off n).1 :=
  foldl_holds (fun x : State × RangeRead => s.Stores x.1) _ (fun x _ h => h.trans (x.1.stores_readLine ..)) _ _ (.refl s)

theorem State.stores_writeRange (d off : Nat) (data : List Byte) : s.Stores (s.writeRange d off data).1 :=
  foldl_holds (fun x : State × Option Nat => s.Stores x.1) _ (fun x _ h => h.trans (x.1.stores_writeLine ..)) _ _ (.refl s)

end

/-! ## Where the node survives -/

/-- `t` is `s` after operations on stored lines; a node that survives every read goes on to, with all but the store as it was. -/
structure State.Touches (s t : State) : Prop where
  stores : s.Stores t
  spares : s.surviving → t.surviving ∧ t.sansStore = s.sansStore

section
variable {s t u v : State}

theorem State.Touches.refl (s : State) : s.Touches s := ⟨.refl s, fun h => ⟨h, rfl⟩⟩

theorem State.Touches.trans (h : s.Touches t) (k : t.Touches u) : s.Touches u where
  stores := h.stores.trans k.stores
  spares hs := by
    obtain ⟨ht, hkept⟩ := h.spares hs
    obtain ⟨hu, kkept⟩ := k.spares ht
    exact ⟨hu, kkept.trans hkept⟩

theorem State.Stores.of_parts (h : s.Stores t) (hp : s.power.part ≠ .sp1) : t.sansStore = s.sansStore :=
  h.resolve_right fun ⟨hsp1, _⟩ => hp hsp1

/-- What spares the links, and does nothing where there is no damage. -/
theorem State.Touches.of_clean (h : s.Stores t) (hlinks : s.SparesLinks t) (hclean : s.undamaged → t.sansStore = s.sansStore) :
    s.Touches t :=
  ⟨h, fun hs => ⟨(hlinks.spares hs).1, hs.elim h.of_parts hclean⟩⟩

/-- What reads nothing. -/
theorem State.Touches.of_sansStore (h : t.sansStore = s.sansStore) (hlinks : s.SparesLinks t) : s.Touches t :=
  .of_clean (.inl h) hlinks fun _ => h

theorem State.touches_readLine (s : State) (flags d l : Nat) : s.Touches (s.readLine flags d l).1 :=
  .of_clean (s.stores_readLine ..) (s.sparesLinks_readLine ..) fun h => congrArg _ (State.readFrom_of_undamaged h ..)

theorem State.touches_storeCells (s : State) (stack pl : Nat) : s.Touches (s.storeCells stack pl) :=
  .of_clean (s.stores_storeCells ..) (s.sparesLinks_storeCells ..) fun h => congrArg _ (State.storeCells_of_undamaged h ..)

theorem State.touches_writeLine (s : State) (d l at_ : Nat) (data : List Byte) : s.Touches (s.writeLine d l at_ data).1 := by
  unfold State.writeLine
  extract_lets places cells
  have hcells : ∀ (u : State) (bytes : List Byte), u.Touches (cells (u.storeLine d l bytes)) := fun u bytes => by
    refine .trans (t := u.storeLine d l bytes) (.of_sansStore rfl (.of_same rfl rfl rfl rfl)) ?_
    exact foldl_holds ((u.storeLine d l bytes).Touches ·) _ (fun v x hv => hv.trans (v.touches_storeCells ..)) _ _ (.refl _)
  split
  · exact .refl s
  · split
    · exact hcells s data
    · have h1 := s.touches_readLine 0 d l
      split
      next s1 r he =>
        rw [he] at h1
        split
        · exact h1
        · exact h1.trans (hcells s1 _)

theorem State.touches_readRange (s : State) (d off n : Nat) : s.Touches (s.readRange d off n).1 :=
  foldl_holds (fun x : State × RangeRead => s.Touches x.1) _ (fun x _ h => h.trans (x.1.touches_readLine ..)) _ _ (.refl s)

theorem State.touches_writeRange (s : State) (d off : Nat) (data : List Byte) : s.Touches (s.writeRange d off data).1 :=
  foldl_holds (fun x : State × Option Nat => s.Touches x.1) _ (fun x _ h => h.trans (x.1.touches_writeLine ..)) _ _ (.refl s)

/-! ## The snapshot reserve reads nothing (R574, R575) -/

theorem State.sansStore_noteOnce (s : State) (e : Ev) : (s.noteOnce e).sansStore = s.sansStore := by
  unfold State.noteOnce
  dsimp only
  split
  · rfl
  · have hann := { s with events.once := s.events.once.set e.code (s.bench.inputs + 1, s.time) (0, 0) : State }.announces_note
      e .node 0 0 0 0
    exact (congrArg (fun u : State => { u with mem := [], dram := {}, hold := { u.hold with snapshots := [], kept := [] } })
      hann.rest :)

theorem State.sansStore_reserveFor {t n fuel : Nat} : ∀ {s : State}, s.reserveFor t n fuel = some v → v.sansStore =
    s.sansStore := by
  induction fuel with
  | zero => exact fun h => nomatch h
  | succ fuel ih =>
    intro s h
    unfold State.reserveFor at h
    split at h
    · cases h
      rfl
    · split at h
      · cases h
      · exact (ih h).trans (State.sansStore_noteOnce ..)

theorem State.sansStore_unshare {d b : Nat} (h : s.unshare d b = some v) : v.sansStore = s.sansStore := by
  unfold State.unshare at h
  split at h
  · cases h
    rfl
  · split at h
    · cases h
      rfl
    · dsimp only at h
      split at h
      · cases h
      next u hu =>
        have hreserve := State.sansStore_reserveFor hu
        split at h
        · cases h
          exact hreserve
        · cases h
          exact hreserve

theorem State.sansStore_claimRange {d off n : Nat} (h : s.claimRange d off n = some v) : v.sansStore = s.sansStore := by
  unfold State.claimRange at h
  split at h
  · cases h
    rfl
  · refine foldl_holds (fun o : Option State => ∀ v, o = some v → v.sansStore = s.sansStore) _
        (fun o i ho v hv => ?_) _ (some s) ?_ v h
    · split at hv
      · cases hv
      next u => exact (State.sansStore_unshare hv).trans (ho u rfl)
    · rintro v ⟨⟩
      rfl

theorem State.touches_claimRange {d off n : Nat} (h : s.claimRange d off n = some v) : s.Touches v :=
  .of_sansStore (State.sansStore_claimRange h) (State.sparesLinks_claimRange h)

end

end Sys2Proof.Machine

/-! TOKENIZE and DETOKENIZE at a queue (R532 to R549): what a lookup leaves of the engines, a lexicon command's run unit by unit, and
the unit that ends a command at once. -/

namespace Sys2Proof.Machine

/-! ## Lookups touch stored lines alone -/

section
variable {s : State} {im : LexImage}

theorem Look.touches_andThen {α β : Type} {x : Look α} {f : State → α → Look β} (h : s.Touches x.1)
    (hf : ∀ (u : State) (a : α), u.Touches (f u a).1) : s.Touches (x.andThen f).1 := by
  unfold Look.andThen
  split
  · exact h.trans (hf ..)
  · exact h

theorem State.touches_look (s : State) (im : LexImage) (o n : Nat) : s.Touches (s.look im o n).1 := by
  unfold State.look
  dsimp only
  split
  · exact .refl s
  · split
    · exact s.touches_readRange ..
    · exact s.touches_readRange ..

theorem State.touches_lookDict (s : State) (im : LexImage) : s.Touches (s.lookDict im).1 :=
  Look.touches_andThen (s.touches_look ..) fun u _ => .refl u

variable {h : DictHdr} {b : Byte}

theorem State.touches_lookEdge {count i : Nat} : ∀ {s : State}, s.Touches (State.lookEdge im h b count i s).1 := by
  induction count generalizing i with
  | zero => exact fun {s} => .refl s
  | succ count ih =>
    intro s
    unfold State.lookEdge
    split
    · exact .refl s
    · refine Look.touches_andThen (s.touches_look ..) fun u e => ?_
      split
      · split
        · exact .refl u
        · exact .refl u
      · exact ih

theorem State.touches_lookBreak (s : State) (im : LexImage) (h : DictHdr) (b : Byte) : s.Touches (s.lookBreak im h b).1 := by
  unfold State.lookBreak
  split
  · exact .refl s
  · exact Look.touches_andThen (s.touches_look ..) fun u _ => .refl u

theorem State.touches_walk {final : Bool} {cells : List Cell} {node depth : Nat} {brk : Bool} {cand : Option (Nat × Nat)} :
    ∀ {s : State}, s.Touches (State.walk im h final cells node depth brk cand s).1 := by
  have hemit : ∀ (u : State) (cand : Option (Nat × Nat)), u.Touches
      (match cand with | some c => (u, .ok (some c)) | none => (u, .error .format) : Look (Option (Nat × Nat))).1 := fun u cand
        => by
    cases cand with
    | none => exact .refl u
    | some c => exact .refl u
  induction cells generalizing node depth brk cand with
  | nil =>
    intro s
    unfold State.walk
    extract_lets emit
    split
    · exact hemit s cand
    · dsimp only
      split
      · exact hemit s cand
      · exact .refl s
  | cons c rest ih =>
    intro s
    unfold State.walk
    extract_lets emit
    split
    · exact hemit s cand
    · refine Look.touches_andThen (s.touches_lookBreak ..) fun u br => ?_
      split
      · exact hemit u cand
      · split
        · exact hemit u cand
        · refine Look.touches_andThen (u.touches_look ..) fun u1 nd => Look.touches_andThen State.touches_lookEdge fun u2 child
          => ?_
          split
          · exact hemit u2 cand
          · refine Look.touches_andThen (u2.touches_look ..) fun u3 tb => ?_
            dsimp only
            split
            · exact .refl u3
            · exact ih

theorem State.touches_nextToken (s : State) (im : LexImage) (h : DictHdr) (final : Bool) (cells : List Cell) :
    s.Touches (s.nextToken im h final cells).1 := by
  unfold State.nextToken
  split
  · exact .refl s
  · split
    · exact .refl s
    · refine Look.touches_andThen State.touches_walk fun u r => ?_
      split
      · exact .refl u
      · exact .refl u

theorem State.touches_emitTokens {final : Bool} {n : Nat} {cells : List Cell} :
    ∀ {s : State}, s.Touches (State.emitTokens im h final n cells s).1 := by
  induction n generalizing cells with
  | zero =>
    intro s
    have hnext := s.touches_nextToken im h final cells
    unfold State.emitTokens
    split
    next u r he =>
      rw [he] at hnext
      exact hnext
    next u r he =>
      rw [he] at hnext
      exact hnext
  | succ n ih =>
    intro s
    have hnext := s.touches_nextToken im h final cells
    unfold State.emitTokens
    split
    next u r he =>
      rw [he] at hnext
      exact hnext
    next u he =>
      rw [he] at hnext
      exact hnext
    next u tok fin rest he =>
      rw [he] at hnext
      exact hnext.trans ih

end

/-! ## A lexicon command's run (R562) -/

section
variable {s u : State} {q : Nat} {i : W32} {c : RunCmd} {op : Nat} {P : State → Prop}

theorem State.lexes_of_actor (h : s.actor q i clsLexicon op = some c) : s.lexes q i = some (s.queueTenant q, c) := by
  obtain ⟨⟨r, hr, hcls⟩, hrun, -, -, hwork⟩ := State.of_actor h
  simp [State.lexes, hr, hrun, hcls, hwork, State.queueTenant]

/-- A command that has ended does no more lexicon work. -/
theorem State.lexes_endRun (s : State) (q : Nat) (i : W32) (st : Status) (p r : W64) : (s.endRun q i st p r).lexes q i = none :=
    by
  unfold State.lexes
  split
  next d _ hd =>
    rw [State.runOf_endRun, Option.map_eq_some_iff] at hd
    obtain ⟨x, -, rfl⟩ := hd
    exact if_neg (by simp [State.mayWork, RunCmd.finish])
  · rfl

theorem State.lexRun_of_none (h : s.lexes q i = none) (n : Nat) : s.lexRun q i n = s := by
  cases n with
  | zero => rfl
  | succ n => simp [State.lexRun, h]

theorem State.lexRun_of_unit {t : Nat} (hc : s.lexes q i = some (t, c)) (hr : s.mustRest clsLexicon c = false)
    (hw : s.lexWork q i t c = some u) {n : Nat} (hn : 0 < n) : s.lexRun q i n = u.lexRun q i (n - 1) := by
  cases n with
  | zero => omega
  | succ n => simp [State.lexRun, hc, hr, hw]

/-- A command checked under the generations in force that need not end at once does a unit of its opcode. -/
theorem State.lexWork_of_tokenize (hg : c.gens = []) {t : Nat} (h : s.lexStop t c.bytes = none) (hop : cmdOp c.bytes = 0x06) :
    s.lexWork q i t c = s.tokUnit q i t c := by
  simp [State.lexWork, State.underGens, hg, h, hop]

theorem State.lexWork_of_detokenize (hg : c.gens = []) {t : Nat} (h : s.lexStop t c.bytes = none) (hop : cmdOp c.bytes = 0x07) :
    s.lexWork q i t c = s.detokUnit q i t c := by
  simp [State.lexWork, State.underGens, hg, h, hop]

/-- A lexicon row whose command ends with its first unit. -/
theorem completes_lexRow {cmd : Instr} {b : BitVec 16} {v : State} {st : Status} {p r : W64}
    (hexec : exec cmd s = s.lexRow b i op)
    (h : s.lexActs b.toNat i op c) (hw : s.lexWork b.toNat i (s.queueTenant b.toNat) c = some (v.endRun b.toNat i st p r))
    (hP : P (v.endRun b.toNat i st p r).retry.settle) : Completes cmd s P := by
  obtain ⟨⟨hact, hrest⟩, -⟩ := h
  refine ⟨_, ?_, hP⟩
  rw [hexec, State.lexRow, hact]
  dsimp only
  rw [State.lexRun_of_unit (State.lexes_of_actor hact) hrest hw (by decide), State.lexRun_of_none (v.lexes_endRun ..)]

end

/-! ## Requests that waited, where none did -/

theorem State.retry_of_none {s : State} (h : s.fabric.parked = []) : s.retry = s := by
  have hsame : ({ s with fabric.parked := [] } : State) = s := by rw [← h]
  rw [State.retry, h, hsame]
  rfl

/-- What the end of a command that changed a stream leaves, where no request waits. -/
theorem State.streamEnded {w : State} {d : RunCmd} (hparked : w.fabric.parked = []) (q : Nat) (i : W32) (n : Nat) (y : Stream)
    (st : Status)
    (p r : W64) : let t := (((w.updRun q i fun _ => d).setStream n y).endRun q i st p r).retry.settle
    t.mem = w.mem ∧ t.stream n = y ∧ (d.index = i → t.runOf q i = (w.runOf q i).map fun _ => d.finish st p r) := by
  obtain ⟨u, hu⟩ : ∃ u, u = (w.updRun q i fun _ => d).setStream n y := ⟨_, rfl⟩
  have hnone : (u.endRun q i st p r).retry = u.endRun q i st p r := State.retry_of_none (by subst hu; exact hparked)
  rw [← hu]
  dsimp only
  rw [hnone]
  have hann := (u.endRun q i st p r).announces_settle
  refine ⟨(congrArg State.mem hann.rest :).trans (by subst hu; rfl),
    (congrArg (fun t : State => t.stream n) hann.rest :).trans (by subst hu; exact State.stream_setStream_self ..), fun hd => ?_⟩
  have hset : u.runOf q i = (w.updRun q i fun _ => d).runOf q i := by
    subst hu
    rfl
  rw [State.runOf_settle, State.runOf_endRun, hset, State.runOf_updRun _ _ _ fun _ _ => hd, Option.map_map]
  rfl

/-! ## The unit that ends a TOKENIZE (R532 to R541) -/

section
variable {s u v w : State} {q t : Nat} {i : W32} {c : RunCmd} {im : LexImage} {h : DictHdr} {inp : State × RangeRead}
  {cells : List Cell × List Nat × List Byte} {e : State × Tokens}

/-- A TOKENIZE at its beginning whose tokens fit one unit ends with it. -/
theorem State.tokUnit_of_last (hlen : lengthAt c.bytes 40 ≠ 0) (hp : c.progress = 0)
    (hdict : s.dict t (s.stream (cmdStream c.bytes)).dict = some im)
    (hinp : inp = s.readRange (poolDrawer c.bytes 24) (poolOffset c.bytes 24) (lengthAt c.bytes 40))
    (hmask : inp.2.mask.findIdx? id = none) (hlook : inp.1.lookDict im = (u, .ok h))
    (hcells : cells = cellsOf (s.stream (cmdStream c.bytes)).carry inp.2.data (bitOf (byteAt c.bytes 18) 0)
      (bitOf (byteAt c.bytes 18) 1))
    (he : e = State.emitTokens im h (bitOf (byteAt c.bytes 18) 0) (min 64 (lengthAt c.bytes 48)) (cellsFrom 0 cells.1) u)
    (hst : e.2.st = .ok) (hmore : e.2.more = false)
    (hv : e.1.claimRange (poolDrawer c.bytes 32) (poolOffset c.bytes 32) (4 * e.2.out.length) = some v)
    (hw : v.writeRange (poolDrawer c.bytes 32) (poolOffset c.bytes 32) (e.2.out.flatMap fun k => leBytes 4 k.1) = (w, none)) :
    ∃ d : RunCmd, d.index = c.index ∧ s.tokUnit q i t c =
      some (((w.updRun q i fun _ => d).setStream (cmdStream c.bytes) { s.stream (cmdStream c.bytes) with
        carry := if bitOf (byteAt c.bytes 18) 0 then [] else e.2.left.map (·.byte) ++ cells.2.2 }).endRun q i c.status d.progress
          (tokWord (lengthAt c.bytes 40) cells.2.1.length false)) := by
  refine ⟨{ c with
    phase := .running, progress := tokProgress (coveredBy 0 e.2.out) e.2.out.length
    result := tokWord (coveredBy 0 e.2.out - (s.stream (cmdStream c.bytes)).carry.length)
      (countedBy cells.2.1 (coveredBy 0 e.2.out)) true }, rfl, ?_⟩
  subst hinp hcells he
  simp [State.tokUnit, hlen, hp, hdict, hmask, hlook, hst, hmore, hv, hw]

end

/-! ## The unit that ends a DETOKENIZE (R546 to R549) -/

section
variable {s u v : State} {q t k subs : Nat} {i : W32} {c : RunCmd} {im : LexImage} {h : DictHdr} {inp : State × RangeRead}

/-- A DETOKENIZE at its beginning of at most one unit's tokens ends with it. -/
theorem State.detokUnit_of_last (hlen : lengthAt c.bytes 40 ≠ 0) (hmax : lengthAt c.bytes 40 ≤ 64) (hp : c.progress = 0)
    (hresult : c.result = 0) (hdict : s.dict t (s.stream (cmdStream c.bytes)).dict = some im)
    (hwin : s.windowsFault t (s.stream (cmdStream c.bytes)).chans = none)
    (hinp : inp = s.readRange (poolDrawer c.bytes 24) (poolOffset c.bytes 24) (4 * lengthAt c.bytes 40))
    (hmask : inp.2.mask.findIdx? id = none) (hlook : inp.1.lookDict im = (u, .ok h))
    (hv : u.detokenize (cmdStream c.bytes) im h ((List.range (lengthAt c.bytes 40)).map fun j => field inp.2.data (4 * j) 4)
      (bitOf (byteAt c.bytes 18) 0) = some (v, k, subs, false, .ok)) :
    s.detokUnit q i t c = some ((v.updRun q i fun _ =>
      { c with phase := .running, progress := BitVec.ofNat 64 k, result := detokWord subs true }).endRun q i c.status
        (BitVec.ofNat 64 k) (detokWord subs false)) := by
  have hmin : min 64 (lengthAt c.bytes 40) = lengthAt c.bytes 40 := Nat.min_eq_right hmax
  subst hinp
  simp [State.detokUnit, hlen, hp, hresult, hdict, hwin, hmin, hmask, hlook, hv]

end

/-- Settles O36: the first unit of each command ends it; what a lookup touches keeps the engines as they were. -/
theorem tokensAreMadeAndUnmade : Obligations.TokensAreMadeAndUnmade := by
  refine ⟨fun s q i c x im inp u h cells e v hact hstop hp hst hx hlen hdict hinp hmask hlook hcells he hok hmore hv hwrite
    hparked => ?_,
    fun s q i c x im inp u h v k subs hact hstop hp hst hresult hx hlen hmax hdict hwin hinp hmask hlook hv => ?_⟩
  case refine_1 =>
    subst hx
    obtain ⟨⟨-, hrun, hop, -, -⟩, hg⟩ := And.intro (State.of_actor hact.1.1) hact.2
    obtain ⟨w, hw⟩ : ∃ w, w = (v.writeRange (poolDrawer c.bytes 32) (poolOffset c.bytes 32)
      (e.2.out.flatMap fun k => leBytes 4 k.1)).1 :=
      ⟨_, rfl⟩
    have htouches : s.Touches w := by
      have hlookd := inp.1.touches_lookDict im
      have hemit := State.touches_emitTokens (im := im) (h := h) (final := bitOf (byteAt c.bytes 18) 0)
        (n := min 64 (lengthAt c.bytes 48)) (cells := cellsFrom 0 cells.1) (s := u)
      rw [hlook] at hlookd
      rw [← he] at hemit
      rw [hw]
      exact .trans (hinp ▸ s.touches_readRange ..) (hlookd.trans (hemit.trans
        ((State.touches_claimRange hv).trans (v.touches_writeRange ..))))
    obtain ⟨d, hindex, hunit⟩ := State.tokUnit_of_last (q := q.toNat) (i := i) hlen hp hdict hinp hmask hlook hcells he hok hmore
      hv
      (Prod.ext_iff.2 ⟨hw.symm, hwrite⟩)
    rw [← hw]
    rw [← State.lexWork_of_tokenize hg hstop hop] at hunit
    refine completes_lexRow rfl hact hunit ?_
    obtain ⟨hmem, hstream, hended⟩ := State.streamEnded (d := d) (htouches.stores.parked hparked) q.toNat i (cmdStream c.bytes)
      { s.stream (cmdStream c.bytes) with
        carry := if bitOf (byteAt c.bytes 18) 0 then [] else e.2.left.map (·.byte) ++ cells.2.2 } c.status d.progress
      (tokWord (lengthAt c.bytes 40) cells.2.1.length false)
    refine ⟨hmem, hstream, fun hs => ?_⟩
    have hkept : w.runOf q.toNat i = some c := by
      rw [← hrun]
      exact (congrArg (fun t : State => t.runOf q.toNat i) (htouches.spares hs).2 :)
    rw [hended (hindex.trans (State.index_of_runOf hrun)), hkept, hst]
    rfl
  case refine_2 =>
    subst hx
    have hunit := State.detokUnit_of_last (q := q.toNat) (i := i) hlen hmax hp hresult hdict hwin hinp hmask hlook hv
    rw [hst, ← State.lexWork_of_detokenize hact.2 hstop (State.of_actor hact.1.1).2.2.1] at hunit
    exact completes_lexRow rfl hact hunit (by rw [hst])

end Sys2Proof.Machine

/-! Holds (chapter 16): how a hold command runs, what a freeze keeps, what a quiesce leaves of the set, and capture, digest, RESUME and
DROP. -/

namespace Sys2Proof.Machine

/-! ## A hold command's row -/

section
variable {s : State} {q : BitVec 16} {i : W32} {c : RunCmd} {op : Nat}

/-- A hold command that is dispatched, with nothing pending, acts on the state after its delivery. -/
theorem State.holdRow_of_acts (h : s.acts q.toNat i clsHold op c) (hp : c.phase = .dispatched) (hgo : s.inputsGo = true)
    (a : Instr)
    (f : State → Nat → RunCmd → Nat → State) :
    s.holdRow a q i op f = .next (f (s.inputOf a) q.toNat c (s.queueTenant q.toNat)).settle := by
  obtain ⟨hact, hrest⟩ := h
  rw [State.holdRow, State.holds, hact]
  simp [hp, hrest, State.deliver_of_go _ _ hgo]

/-- A hold command whose row does what it must. -/
theorem completes_holdRow {cmd a : Instr} {f : State → Nat → RunCmd → Nat → State} {P : State → Prop}
    (he : exec cmd s = s.holdRow a q i op f) (h : s.acts q.toNat i clsHold op c) (hp : c.phase = .dispatched)
      (hgo : s.inputsGo = true)
    (hP : P (f (s.inputOf a) q.toNat c (s.queueTenant q.toNat)).settle) : Completes cmd s P :=
  completes_next (he.trans (State.holdRow_of_acts h hp hgo a f)) hP

theorem State.index_of_acts {q : Nat} {cls : Nat} (h : s.acts q i cls op c) : c.index = i :=
  State.index_of_runOf (State.of_actor h.1).2.1

@[simp] theorem State.runOf_inputOf (s : State) (a : Instr) (q : Nat) (i : W32) : (s.inputOf a).runOf q i = s.runOf q i := by
  rw [State.inputOf_eq]; rfl
@[simp] theorem State.snapshot_inputOf (s : State) (a : Instr) (t n : Nat) : (s.inputOf a).snapshot t n = s.snapshot t n := by
  rw [State.inputOf_eq]; rfl
@[simp] theorem State.frozenFor_inputOf (s : State) (a : Instr) (x : Snapshot) : (s.inputOf a).frozenFor x = s.frozenFor x := by
  rw [State.inputOf_eq]; rfl
@[simp] theorem State.evictable_inputOf (s : State) (a : Instr) (x : Snapshot) : (s.inputOf a).evictable x = s.evictable x := by
  rw [State.inputOf_eq]; rfl

end

/-! ## What a freeze keeps (R569 steps 1 and 2, R570) -/

/-- A hold set is frozen, and the memory is `m`. -/
def State.Freezes (s : State) (x : HoldSet) (m : List Host.Cell) : Prop := (∃ f ∈ s.hold.frozen, f.set = x) ∧ s.mem = m

section
variable {s t : State} {x : HoldSet} {m : List Host.Cell}

theorem State.Freezes.of_same (h : s.Freezes x m) (hk : t.sansWork = s.sansWork) : t.Freezes x m := by
  obtain ⟨hf, hm⟩ := h
  exact ⟨(congrArg (·.hold.frozen) hk :) ▸ hf, (congrArg State.mem hk :).trans hm⟩

theorem State.Freezes.listStop (h : s.Freezes x m) (q : Nat) (i : W32) (kind id : Nat) (index : W32) :
    (s.listStop q i kind id index).Freezes x m := by
  obtain ⟨⟨f, hf, hset⟩, hm⟩ := h
  refine ⟨⟨_, List.mem_map.2 ⟨f, hf, rfl⟩, ?_⟩, hm⟩
  split
  · exact hset
  · exact hset

theorem State.freezes_freeze (s : State) (q : Nat) (i : W32) (t : Nat) (x : HoldSet) : (s.freeze q i t x).Freezes x s.mem := by
  unfold State.freeze
  extract_lets f _ s1 s2 stray s3
  have h1 : s1.Freezes x s.mem := ⟨⟨f, List.mem_append_right _ (List.mem_singleton.2 rfl), rfl⟩, rfl⟩
  have h2 : s2.Freezes x s.mem := h1.of_same (congrArg State.sansWork (s1.sansSync_releaseAll _ _) :)
  have hask : (s2.askRuns q i x).Freezes x s.mem := h2.of_same (State.sansWork_foldl (fun _ _ => rfl) rfl)
  have h3 : s3.Freezes x s.mem := foldl_holds (fun u : State => u.Freezes x s.mem) _
    (fun u e hu => (hu.listStop ..).of_same ((State.sansWork_boundary ..).trans (State.sansWork_setCtx ..))) stray _ hask
  exact h3.of_same (State.sansWork_foldl (fun u k => u.sansWork_pauseCtx k) rfl)

/-- What a frozen set freezes. -/
theorem State.Freezes.elements (h : s.Freezes x m) : (∀ d ∈ x.drawers, s.drawerFrozen d = true) ∧
    (∀ n ∈ x.counters, 0 < n.2 → s.counterFrozen n.1 = true) ∧ (∀ n ∈ x.queues, s.queueFrozen n = true) ∧
    (∀ n ∈ x.streams, s.streamFrozen n = true) ∧ (∀ k ∈ x.contexts, s.ctxFrozen k = true) ∧ s.mem = m := by
  obtain ⟨⟨f, hf, rfl⟩, hm⟩ := h
  refine ⟨fun d hd => List.any_eq_true.2 ⟨f, hf, ?_⟩, fun n hn hpos => List.any_eq_true.2 ⟨f, hf, List.any_eq_true.2 ⟨n, hn, ?_⟩⟩,
    fun n hn => List.any_eq_true.2 ⟨f, hf, ?_⟩, fun n hn => List.any_eq_true.2 ⟨f, hf, ?_⟩,
    fun k hk => List.any_eq_true.2 ⟨f, hf, ?_⟩, hm⟩
  · exact List.contains_iff_mem.2 hd
  · simpa using hpos
  · exact List.contains_iff_mem.2 hn
  · exact List.contains_iff_mem.2 hn
  · exact List.contains_iff_mem.2 hk

end

/-! ## What a quiesce leaves of a set (R569 step 3) -/

/-- A fold brings about what one of its steps does and the others keep. -/
theorem foldl_reaches {α β : Type} {P : β → Prop} {g : β → α → β} {a : α} (hmake : ∀ u, P (g u a))
    (hkeep : ∀ u x, P u → P (g u x))
    {l : List α} (ha : a ∈ l) (b : β) : P (l.foldl g b) := by
  induction l generalizing b with
  | nil => cases ha
  | cons x l ih =>
    rcases List.mem_cons.1 ha with rfl | ha
    · exact foldl_holds P g hkeep l _ (hmake b)
    · exact ih ha _

/-- Whether a request was issued by a command of a set's queues. -/
def OutReq.ofSet (x : HoldSet) (o : OutReq) : Bool := match o.issuer with | .command q _ => x.queues.contains q | _ => false

/-- No context of the set runs, is ready or is blocked, and no outbound request is of a command of its queues. -/
def State.AtRest (s : State) (x : HoldSet) : Prop := (∀ k ∈ x.contexts, Ctx.busy (s.ctx k) = false) ∧ s.setOutbound x = []

section
variable {s t : State} {x : HoldSet} {f : Frozen} {o y : OutReq}

theorem State.mem_setOutbound : y ∈ s.setOutbound x ↔ (y ∈ s.fabric.outbound ∨ y ∈ s.fabric.stalled) ∧ y.ofSet x = true := by
  rw [State.setOutbound, State.outReqs, List.mem_append, List.mem_filter, List.mem_filter, ← or_and_right]
  rfl

/-- Abandoning one request of the set leaves of the set's requests the others alone. -/
theorem State.mem_abandon (ho : o.ofSet x = true) (hy : y ∈ (s.abandon f o).setOutbound x) : y ∈ s.setOutbound x ∧ y.id ≠ o.id :=
    by
  unfold OutReq.ofSet at ho
  split at ho
  next q i hq =>
    rw [State.abandon, hq] at hy
    obtain ⟨hmem, hset⟩ := State.mem_setOutbound.1 hy
    rw [State.mem_setOutbound]
    rcases hmem with hmem | hmem
    · obtain ⟨z, hz, rfl⟩ := List.mem_map.1 hmem
      split at hset
      · cases hset
      next hid =>
        rw [if_neg hid]
        exact ⟨⟨.inl hz, hset⟩, hid⟩
    · obtain ⟨hz, hid⟩ := List.mem_filter.1 hmem
      exact ⟨⟨.inr hz, hset⟩, by simpa using hid⟩
  · cases ho

theorem State.mem_foldl_abandon {l : List OutReq} (hl : ∀ o ∈ l, o.ofSet x = true)
    (hy : y ∈ (l.foldl (fun u o => u.abandon f o) s).setOutbound x) : y ∈ s.setOutbound x ∧ ∀ o ∈ l, y.id ≠ o.id := by
  induction l generalizing s with
  | nil => exact ⟨hy, nofun⟩
  | cons o l ih =>
    obtain ⟨hmem, hne⟩ := ih (fun o h => hl o (List.mem_cons_of_mem _ h)) hy
    obtain ⟨hs, ho⟩ := State.mem_abandon (hl o List.mem_cons_self) hmem
    refine ⟨hs, fun p hp => ?_⟩
    rcases List.mem_cons.1 hp with rfl | hp
    · exact ho
    · exact hne p hp

/-- Once each has been abandoned, none is left. -/
theorem State.setOutbound_abandoned (s : State) (f : Frozen) (x : HoldSet) :
    ((s.setOutbound x).foldl (fun u o => u.abandon f o) s).setOutbound x = [] := by
  refine List.eq_nil_iff_forall_not_mem.2 fun y hy => ?_
  obtain ⟨hmem, hne⟩ := State.mem_foldl_abandon (fun o ho => (State.mem_setOutbound.1 ho).2) hy
  exact hne y hmem rfl

/-- Requests are a matter of the fabric. -/
theorem State.setOutbound_of_fabric (h : t.fabric = s.fabric) : t.setOutbound x = s.setOutbound x := by
  rw [State.setOutbound, State.outReqs, h]
  rfl

theorem State.AtRest.of_same (h : s.AtRest x) (hctxs : t.ctxs = s.ctxs) (hfabric : t.fabric = s.fabric) : t.AtRest x := by
  obtain ⟨hbusy, hout⟩ := h
  refine ⟨fun k hk => ?_, (State.setOutbound_of_fabric hfabric).trans hout⟩
  rw [State.ctx, hctxs]
  exact hbusy k hk

theorem State.AtRest.of_stores (h : s.AtRest x) (hk : s.Stores t) : t.AtRest x := by
  rcases hk with hk | ⟨-, -, hctxs, hfabric⟩
  · exact h.of_same (congrArg State.ctxs hk :) (congrArg State.fabric hk :)
  · refine ⟨fun k _ => ?_, ?_⟩
    · rw [State.ctx, hctxs]
      rfl
    · rw [State.setOutbound, State.outReqs, hfabric]
      rfl

theorem State.AtRest.announces (h : s.AtRest x) (hk : s.Announces t) : t.AtRest x := h.of_stores hk.stores

/-- The completion of a command leaves contexts and requests as they are, or the node without work. -/
theorem State.AtRest.complete (h : s.AtRest x) (q : Nat) (i : W32) : (s.complete q i).AtRest x := by
  unfold State.complete
  split
  next r c _ _ =>
    unfold State.completeIn
    extract_lets adds counter held s1 s2 s3 s4
    have h1 : s1.AtRest x := h.of_stores (s.stores_writeRange ..)
    have h2 : s2.AtRest x := by
      unfold s2
      split
      · exact h1.announces (s1.announces_tenantAdd ..)
      · exact h1
    have h3 : s3.AtRest x := by
      unfold s3
      split
      · exact h2.announces (s2.announces_note ..)
      · exact h2
    have h4 : s4.AtRest x := h3.of_same rfl rfl
    split
    · exact h4
    · exact h4.of_same rfl rfl
  · exact h

theorem State.AtRest.stopRun (h : s.AtRest x) (f : Frozen) (e : Nat × RunCmd) : (s.stopRun f e).AtRest x := by
  unfold State.stopRun
  split
  · exact h.complete ..
  · have hended : ((s.listStop f.q f.index caseCommand e.1 e.2.index).endRun e.1 e.2.index .aborted e.2.progress
    e.2.result).AtRest x :=
      h.of_same rfl rfl
    exact hended.complete ..

/-! ### Contexts that are killed -/

theorem Ctx.mayRun_of_idle {c : Ctx} (h : Ctx.busy c = false) : c.mayRun = false := by
  simp only [Ctx.busy, Bool.or_eq_false_iff] at h
  simp [Ctx.mayRun, h.1.2]

theorem Ctx.busy_ended (c : Ctx) : Ctx.busy c.ended = false := rfl

/-- A context whose program ends gives up its engine to another that is ready; those at rest stay so. -/
theorem State.busy_endStart_reelect {key n : Nat} (st : Status) (r : W64) (h : n = key ∨ Ctx.busy (s.ctx n) = false) :
    Ctx.busy (((s.endStart key st r).reelect key).ctx n) = false := by
  have hn : Ctx.busy ((s.endStart key st r).ctx n) = false := by
    by_cases hk : n = key
    · subst hk
      rw [State.ctx_endStart_self]
      rfl
    · rw [State.ctx_endStart_ne _ _ _ hk]
      exact h.resolve_left hk
  rw [State.ctx_reelect_of_barred (Ctx.mayRun_of_idle hn)]
  exact hn

theorem State.fabric_endStart_reelect (s : State) (key : Nat) (st : Status) (r : W64) :
    ((s.endStart key st r).reelect key).fabric = s.fabric :=
  (congrArg State.fabric ((State.sansWork_reelect ..).trans (s.sansWork_endStart key st r)) :)

theorem State.busy_killCtx {key n : Nat} (f : Frozen) (h : n = key ∨ Ctx.busy (s.ctx n) = false) :
    Ctx.busy ((s.killCtx f key).ctx n) = false := by
  unfold State.killCtx
  extract_lets index
  obtain ⟨u, hu⟩ : ∃ u, u = s.listStop f.q f.index caseContext (ctxWord key) index := ⟨_, rfl⟩
  have hctx : u.ctx n = s.ctx n := by
    rw [hu]
    rfl
  rw [← hu]
  exact State.busy_endStart_reelect _ _ (by rwa [hctx])

theorem State.fabric_killCtx (s : State) (f : Frozen) (key : Nat) : (s.killCtx f key).fabric = s.fabric := by
  unfold State.killCtx
  extract_lets index
  obtain ⟨u, hu⟩ : ∃ u, u = s.listStop f.q f.index caseContext (ctxWord key) index := ⟨_, rfl⟩
  rw [← hu, State.fabric_endStart_reelect, hu]
  rfl

/-- Once each context of the set that still ran has been killed, the set is at rest. -/
theorem State.atRest_killed (h : s.setOutbound f.set = []) : ((s.busyCtxs f.set).foldl (fun u k => u.killCtx f k) s).AtRest
    f.set := by
  refine ⟨fun n hn => ?_, ?_⟩
  · by_cases hb : Ctx.busy (s.ctx n) = true
    · exact foldl_reaches (P := fun u : State => Ctx.busy (u.ctx n) = false) (fun u => State.busy_killCtx f (.inl rfl))
        (fun u k hu => State.busy_killCtx f (.inr hu)) (List.mem_filter.2 ⟨hn, hb⟩) s
    · exact foldl_holds (fun u : State => Ctx.busy (u.ctx n) = false) _ (fun u k hu => State.busy_killCtx f (.inr hu)) _ s
        (by simpa using hb)
  · exact foldl_holds (fun u : State => u.setOutbound f.set = []) _
      (fun u k hu => (State.setOutbound_of_fabric (u.fabric_killCtx f k)).trans hu) _ s h

theorem State.AtRest.endStray (h : s.AtRest x) (key : Nat) : ((s.endStart key .aborted 0).reelect key).AtRest x := by
  obtain ⟨hbusy, hout⟩ := h
  exact ⟨fun k hk => State.busy_endStart_reelect _ _ (.inr (hbusy k hk)),
    (State.setOutbound_of_fabric (s.fabric_endStart_reelect ..)).trans hout⟩

/-- What HOLD_QUIESCE_EXPIRY makes of a state: the set's requests abandoned, its contexts, its STARTs elsewhere and its commands
stopped. -/
def State.quiesceNow (s : State) (f : Frozen) : State :=
  let s1 := (s.setOutbound f.set).foldl (fun u o => u.abandon f o) s
  let s2 := (s1.busyCtxs f.set).foldl (fun u k => u.killCtx f k) s1
  let s3 := (s2.strayStarts f.set).foldl (fun u e => (u.endStart e.1 .aborted 0).reelect e.1) s2
  (s3.busyRuns f).foldl (fun u e => u.stopRun f e) s3

theorem exec_holdQuiesceExpiry_of_holding {q : BitVec 16} {i : W32} (hf : s.holding q.toNat i = some f) (hgo : s.inputsGo = true)
    :
    exec (.holdQuiesceExpiry q i) s = .next ((s.inputOf (.holdQuiesceExpiry q i)).quiesceNow f).settle := by
  change execHoldQuiesceExpiry q i s = _
  simp only [execHoldQuiesceExpiry, hf]
  rw [State.deliver_of_go _ _ hgo]
  rfl

theorem State.AtRest.endStrays (h : s.AtRest x) (l : List (Nat × Nat × W32)) :
    (l.foldl (fun u e => (u.endStart e.1 .aborted 0).reelect e.1) s).AtRest x := by
  induction l generalizing s with
  | nil => exact h
  | cons e l ih => exact ih (h.endStray e.1)

theorem State.AtRest.stopRuns (h : s.AtRest x) (f : Frozen) (l : List (Nat × RunCmd)) :
    (l.foldl (fun u e => u.stopRun f e) s).AtRest x := by
  induction l generalizing s with
  | nil => exact h
  | cons e l ih => exact ih (h.stopRun f e)

theorem State.atRest_quiesceNow (s : State) (f : Frozen) : (s.quiesceNow f).AtRest f.set :=
  .stopRuns (.endStrays (State.atRest_killed (State.setOutbound_abandoned ..)) _) f _

theorem State.AtRest.phases (h : s.AtRest x) : s.setOutbound x = [] ∧
    ∀ k ∈ x.contexts, (s.ctx k).phase ≠ .running ∧ (s.ctx k).phase ≠ .blocked := by
  obtain ⟨hbusy, hout⟩ := h
  refine ⟨hout, fun k hk => ?_⟩
  have hb := hbusy k hk
  simp only [Ctx.busy, Bool.or_eq_false_iff, beq_eq_false_iff_ne] at hb
  obtain ⟨⟨hrun, -⟩, hblocked⟩ := hb
  exact ⟨hrun, hblocked⟩

end

/-! ## Capture (R569 step 4) -/

theorem State.touches_report {s u : State} {d off : Nat} {data : List Byte} (h : s.report d off data = some u) : s.Touches u := by
  unfold State.report at h
  split at h
  · cases h
    exact .refl s
  · obtain ⟨v, hv, rfl⟩ := Option.map_eq_some_iff.1 h
    exact (State.touches_claimRange hv).trans (v.touches_writeRange ..)

@[simp] theorem State.surviving_inputOf (s : State) (c : Instr) : (s.inputOf c).surviving ↔ s.surviving := by
  simp [State.surviving, State.undamaged, State.stk]

/-- The state in which a capture is done: the snapshot is added, and freezes its set. -/
def State.withSnapshot (u : State) (q : Nat) (i : W32) (x : Snapshot) : State :=
  { u with hold.snapshots := u.hold.snapshots ++ [x], hold.nextSnap := u.hold.nextSnap + 1 }.updFrozen q i fun y =>
    { y with snap := some u.hold.nextSnap }

section
variable {s u : State} {q : BitVec 16} {i : W32} {f : Frozen} {c : RunCmd}

theorem exec_holdCapture_of_quiet (hf : s.holding q.toNat i = some f) (hgo : s.inputsGo = true)
    (hrun : s.runOf q.toNat i = some c)
    (hquiet : s.setQuiet f = true) (hroom : (s.report (poolDrawer c.bytes 32) (poolOffset c.bytes 32) f.report).isSome = true)
    (hu : (s.inputOf (.holdCapture q i)).report (poolDrawer c.bytes 32) (poolOffset c.bytes 32) f.report = some u) :
    exec (.holdCapture q i) s = .next ((u.withSnapshot q.toNat i (u.capture f u.hold.nextSnap
      (some (poolDrawer c.bytes 32, poolOffset c.bytes 32)))).endRun q.toNat i .ok 0 (BitVec.ofNat 64 u.hold.nextSnap)).settle :=
        by
  change execHoldCapture q i s = _
  simp only [execHoldCapture, hf, hrun]
  rw [if_neg (by simp [hquiet]), if_neg (by rw [Option.isNone_iff_eq_none]; rintro hn; simp [hn] at hroom), State.deliver_of_go _
    _ hgo, hu]
  rfl

end

/-- What a capture leaves: the snapshot of the set, the next number, and the HOLD's end with the number it used. -/
theorem completes_holdCapture {s u : State} {q : BitVec 16} {i : W32} {c : RunCmd} {x : Snapshot}
    (hrun : s.runOf q.toNat i = some c) (hu : (s.inputOf (.holdCapture q i)).Touches u)
    (he : exec (.holdCapture q i) s =
      .next ((u.withSnapshot q.toNat i x).endRun q.toNat i .ok 0 (BitVec.ofNat 64 u.hold.nextSnap)).settle) :
    Completes (.holdCapture q i) s fun t => t.hold.snapshots = u.hold.snapshots ++ [x] ∧ t.hold.nextSnap = u.hold.nextSnap + 1 ∧
      (s.surviving → (t.runOf q.toNat i).map (fun y => (y.phase, y.status, y.result)) =
        some (.ended, .ok, BitVec.ofNat 64 u.hold.nextSnap)) := by
  have hann := ((u.withSnapshot q.toNat i x).endRun q.toNat i .ok 0 (BitVec.ofNat 64 u.hold.nextSnap)).announces_settle
  refine completes_next he ⟨(congrArg (·.hold.snapshots) hann.rest :), (congrArg (·.hold.nextSnap) hann.rest :), fun hs => ?_⟩
  have hkept : (u.withSnapshot q.toNat i x).runOf q.toNat i = some c := by
    rw [← hrun, ← s.runOf_inputOf (.holdCapture q i)]
    exact (congrArg (fun t : State => t.runOf q.toNat i) (hu.spares (by simpa using hs)).2 :)
  rw [State.runOf_settle, State.runOf_endRun, hkept]
  rfl

/-- The state in which a snapshot has its digest. -/
def State.withDigest (u : State) (x : Snapshot) : State :=
  { u with
    hold.snapshots := u.hold.snapshots.map fun (y : Snapshot) =>
      if y.id = x.id then { y with digest := sub x.bodyDigest 0 48 } else y }

theorem State.hold_withDigest {s u : State} {c : Instr} {x : Snapshot} (h : u = (s.inputOf c).withDigest x) :
    u.hold.snapshots = s.hold.snapshots.map (fun (y : Snapshot) =>
      if y.id = x.id then { y with digest := sub x.bodyDigest 0 48 } else y) ∧ u.mem = s.mem := by
  subst h
  refine ⟨?_, s.inputOf_mem c⟩
  rw [State.withDigest, State.inputOf_hold]

theorem exec_holdDigestDone_of_silent {s : State} {n : BitVec 32} {x : Snapshot}
    (hx : s.hold.snapshots.find? (fun x => x.id == n.toNat && x.digest.isEmpty) = some x) (hreport : x.report = none)
    (hgo : s.inputsGo = true) : exec (.holdDigestDone n) s =
      .next (((s.inputOf (.holdDigestDone n)).withDigest x).note .holdDigestReady .node 0 x.id x.holdQ 0).settle := by
  change execHoldDigestDone n s = _
  simp only [execHoldDigestDone, hx, hreport]
  rw [if_neg (by simp), State.deliver_of_go _ _ hgo]
  rfl

/-- Settles O38: each command acts where it is dispatched and delivered; a freeze keeps its set, a quiesce brings it to rest. -/
theorem holdsFreezeCaptureAndRestore : Obligations.HoldsFreezeCaptureAndRestore := by
  refine ⟨fun s q i c h hp hgo => ?_, fun s q i c u d r x hu hgo h hp hd hdgood hr hrgood hset hcheck hempty => ?_,
    fun s q i f hf hgo _ => ?_, fun s q i f c u hf hgo hrun hquiet hroom hu => ?_, fun s n x hx hreport hgo => ?_,
    fun s q i c u x f hu hgo h hp hx hcheck hf hdrop => ?_, fun s q i c x h hp hgo hx hev => ?_⟩
  case refine_1 =>
    refine completes_holdRow (a := .holdNop q i) (f := fun u q c _ => u.endRun q c.index .ok 0 0) rfl h hp hgo ?_
    rw [State.index_of_acts h]
  case refine_2 =>
    refine completes_holdRow rfl h hp hgo ?_
    have hnow : (s.inputOf (.hold q i)).holdNow q.toNat c (s.queueTenant q.toNat) =
        (r.1.updRun q.toNat c.index fun y => { y with phase := .waiting }).freeze q.toNat c.index (s.queueTenant q.toNat) x := by
      subst hu hd hr
      simp [State.holdNow, hdgood, hrgood, hset, hcheck, hempty]
    rw [hnow]
    obtain ⟨v, hv⟩ : ∃ v, v = (r.1.updRun q.toNat c.index fun y => { y with phase := .waiting }).freeze q.toNat c.index
      (s.queueTenant q.toNat) x := ⟨_, rfl⟩
    have hfreezes : v.Freezes x r.1.mem := hv ▸ State.freezes_freeze ..
    have hann := v.announces_settle
    rw [← hv]
    exact State.Freezes.elements ⟨(congrArg (·.hold.frozen) hann.rest :) ▸ hfreezes.1,
      (congrArg State.mem hann.rest :).trans hfreezes.2⟩
  case refine_3 =>
    exact completes_next (exec_holdQuiesceExpiry_of_holding hf hgo)
      ((State.atRest_quiesceNow ..).announces (State.announces_settle _)).phases
  case refine_4 =>
    obtain ⟨t, ht, hsnaps, hnext, hended⟩ := completes_holdCapture hrun (State.touches_report hu)
      (exec_holdCapture_of_quiet hf hgo hrun hquiet hroom hu)
    exact ⟨t, ht, _, hsnaps, rfl, rfl, rfl, rfl, rfl, rfl, hnext, hended⟩
  case refine_5 =>
    have he := exec_holdDigestDone_of_silent hx hreport hgo
    obtain ⟨u, hu⟩ : ∃ u, u = (s.inputOf (.holdDigestDone n)).withDigest x := ⟨_, rfl⟩
    obtain ⟨hsnaps, hmem⟩ := State.hold_withDigest hu
    rw [← hu] at he
    have hann := (u.announces_note .holdDigestReady .node 0 x.id x.holdQ 0).trans (State.announces_settle _)
    exact completes_next he ⟨(congrArg (·.hold.snapshots) hann.rest :).trans hsnaps, (congrArg State.mem hann.rest :).trans hmem⟩
  case refine_6 =>
    refine completes_holdRow rfl h hp hgo ?_
    subst hu
    rw [State.resumeNow, State.snapshot_inputOf, hx]
    dsimp only
    rw [hcheck, State.frozenFor_inputOf, hf]
    dsimp only
    rw [if_neg (by simp [hdrop]), State.index_of_acts h]
  case refine_7 =>
    refine completes_holdRow rfl h hp hgo ?_
    rw [State.dropNow, State.snapshot_inputOf, hx]
    dsimp only
    rw [if_neg (by simp [hev]), State.index_of_acts h]

end Sys2Proof.Machine
